-- ==== Sys2Proof/Word.lean ====
section
/-! DEFINITION. The word types of the model: bytes, byte strings and the 32-bit words of the HSPI window. -/

namespace Sys2Proof

/-- One byte of a packet, a frame or a record (R38, R9). -/
abbrev Byte := BitVec 8

/-- A byte string, first byte first. -/
abbrev Bytes := List Byte

/-- One word of the HSPI window (Table 2.4). -/
abbrev Word32 := BitVec 32

end Sys2Proof
end

