-- ==== Sys2Proof/Syntax.lean ====
section
/-! DEFINITION. The commands of the block: one constructor per row of the opcode table, with its operands.
The rows of Table 3.3 name a live command by its session and tag: the command packet itself, with its parameter bytes,
stands in the state from intake on. The event rows carry what arrives from outside the module. -/

namespace Sys2Proof

/-- Where packets travel (R43). -/
inductive Transport where
  | hspi | huart | eth | dbg
deriving DecidableEq, Repr, Inhabited

/-- Cell types (Table 5.4). -/
inductive CellKind where
  | beacon | shared | dedicated | echo | flood | rendezvous
deriving DecidableEq, Repr, Inhabited

/-- A cell as the MAC's schedule gives it (R164, R165): port 0 A or 1 B, slot 0 to 99, kind, the short address of the
partner, the channel offset, whether the module transmits in it, whether the sequences missed step 2 of Table 5.1, and
the bytes the transceiver returns on SPI. -/
structure Cell where
  port : Nat
  slot : Nat
  kind : CellKind
  peer : Nat
  offset : Nat
  transmit : Bool
  late : Bool
  miso : Bytes
deriving DecidableEq, Repr, Inhabited

/-- A UDP datagram, or one IP fragment of it: the peer's address and port as one number; fragment ID, offset and
more-fragments flag (R65). -/
structure EthIn where
  peer : Nat
  frag : Option (Nat × Nat × Bool)
  payload : Bytes
deriving DecidableEq, Repr, Inhabited

/-- A PTP Sync (R283): RMII port, transport code, domain, multicast, source port identity, sequence, two-step flag,
correctionField in 2^-16 ns, originTimestamp in ns, logSyncInterval. -/
structure PtpSync where
  port : Nat
  transport : Nat
  domain : Nat
  multicast : Bool
  source : Nat
  seq : Nat
  twoStep : Bool
  correction : Int
  origin : Nat
  logInterval : Int
deriving DecidableEq, Repr, Inhabited

/-- A PTP Follow_Up. -/
structure PtpFollow where
  transport : Nat
  domain : Nat
  multicast : Bool
  source : Nat
  seq : Nat
  correction : Int
  origin : Nat
deriving DecidableEq, Repr, Inhabited

/-- A PTP Announce. -/
structure PtpAnn where
  transport : Nat
  domain : Nat
  multicast : Bool
  source : Nat
  priority1 : Nat
  clockClass : Nat
  accuracy : Nat
  variance : Nat
  priority2 : Nat
  grandmaster : Nat
  steps : Nat
  utcOffset : Int
  utcValid : Bool
  leap59 : Bool
  leap61 : Bool
  logInterval : Int
deriving DecidableEq, Repr, Inhabited

/-- A PTP Delay_Resp: whether it answers this port, sequence, correctionField, receiveTimestamp in ns,
logMinDelayReqInterval. -/
structure PtpResp where
  transport : Nat
  domain : Nat
  multicast : Bool
  source : Nat
  forUs : Bool
  seq : Nat
  correction : Int
  receive : Nat
  logMinInterval : Int
deriving DecidableEq, Repr, Inhabited

/-- A valid frame of the twin link, its type being the row's: RESEND flag, sequence, payload (Table 11.1). -/
structure LinkIn where
  resend : Bool
  seq : Nat
  payload : Bytes
deriving DecidableEq, Repr, Inhabited

/-- What the engine reads in a slice: for each unit that ends in it, the reads that differ from their expected values, by number
and wrong bits of the codeword (R505). -/
structure SliceIn where
  results : List (List (Nat × Nat))
deriving DecidableEq, Repr, Inhabited

/-- A port, and what its transceiver answers the sequences that follow: INIT after a POLL that timed out (R196), TX_LOAD and TX_ARM
of the ACK to a frame (R173). -/
structure PollIn where
  port : Nat
  miso : Bytes
deriving DecidableEq, Repr, Inhabited

/-- A sentence on `GNSS_RX`: the code of its line rate (Table 8.5, TIME_GNSS_BAUD) and its characters. -/
structure NmeaIn where
  baud : Nat
  text : Bytes
deriving DecidableEq, Repr, Inhabited

/-- What a start finds (Table 19.2): the PMIC's VOUT_MODE report and whether it acknowledges, the banks, the ABUT SRAM
segments and the MRAM segments that fail the start-up test with the reads that differ, and the slots whose plaintext digest record does not match (R493). -/
structure BootEnv where
  voutMode : Nat
  acked : Bool
  recoveryLow : Bool
  failBanks : List (Nat × List (Nat × Nat))
  failAbut : List (Nat × List (Nat × Nat))
  failMram : List (Nat × List (Nat × Nat))
  badA : Bool
  badB : Bool
deriving DecidableEq, Repr, Inhabited

/-- The commands: one constructor per row of spec/opcode_table.json, in its order. -/
inductive Instr where
  /-- ECHO (R88): Returns its parameters unchanged. -/
  | echo (sid : Nat) (tag : Nat)
  /-- DEVICE_INFO (R3): Returns order code, unit ID, life cycle, firmware and boot state. -/
  | deviceInfo (sid : Nat) (tag : Nat)
  /-- RESET (R92): Replies OK and schedules a WARM, SYSTEM or RECOVERY reset 10 ms after the reply. -/
  | reset (sid : Nat) (tag : Nat)
  /-- FENCE (R75): Begins when every earlier command in its scope has completed, then completes with OK. -/
  | fence (sid : Nat) (tag : Nat)
  /-- SETTING_READ (R96): Returns the live or shadow values of up to 64 settings. -/
  | settingRead (sid : Nat) (tag : Nat)
  /-- SETTING_WRITE (R25): Checks and writes up to 64 settings all or nothing, by change class. -/
  | settingWrite (sid : Nat) (tag : Nat)
  /-- SETTING_COMMIT (R27): Snapshots a block's differing shadows as its pending set, applying it now or at the block's commit boundary. -/
  | settingCommit (sid : Nat) (tag : Nat)
  /-- CANCEL (R81): Cancels a named tag of its session according to that command's state. -/
  | cancel (sid : Nat) (tag : Nat)
  /-- SESSION_OPEN (R98): Grants a session or returns a challenge, or checks the phase-2 CMAC, on a local transport. -/
  | sessionOpen (sid : Nat) (tag : Nat)
  /-- TIME_GET (R88): Returns span time, state, source, cycle, RTC ticks and calendar. -/
  | timeGet (sid : Nat) (tag : Nat)
  /-- TIME_SLEW (R297): Starts a slew of span time by an offset over a period. -/
  | timeSlew (sid : Nat) (tag : Nat)
  /-- TIME_STEP (R100): Fixes a relative or absolute step and applies it now or at the next cycle boundary. -/
  | timeStep (sid : Nat) (tag : Nat)
  /-- TIME_SOURCE_SET (R101): Stores the prioritised list of time sources and reselects. -/
  | timeSourceSet (sid : Nat) (tag : Nat)
  /-- RTC_ALARM_SET (R102): Sets, masks and enables one of the two RTC alarms. -/
  | rtcAlarmSet (sid : Nat) (tag : Nat)
  /-- CALENDAR_CONVERT (R103): Converts between ticks and calendar, or writes the RTC counter in mode RTC_SET. -/
  | calendarConvert (sid : Nat) (tag : Nat)
  /-- LOCAL_TIME_TABLE_LOAD (R104): Replaces the whole local-time transition table. -/
  | localTimeTableLoad (sid : Nat) (tag : Nat)
  /-- FALLBACK_TABLE_LOAD (R105): Loads the 366-entry fallback day table into ABUT SRAM, the vault and the settings store. -/
  | fallbackTableLoad (sid : Nat) (tag : Nat)
  /-- POWER_POLICY_SET (R106): Writes four power settings and commits block 0x02. -/
  | powerPolicySet (sid : Nat) (tag : Nat)
  /-- POWER_STATUS (R88): Returns the power state counters and the supply status. -/
  | powerStatus (sid : Nat) (tag : Nat)
  /-- POWER_REFUSALS_READ (R107): Returns the refusal and abort counters, clearing them if CLEAR is set. -/
  | powerRefusalsRead (sid : Nat) (tag : Nat)
  /-- SPAN_START (R197): Starts the span at the next whole second, completing once the cycle-0 root beacon is launched. -/
  | spanStart (sid : Nat) (tag : Nat)
  /-- SPAN_STOP (R198): Ends the span at the end of the current cycle and cancels its transactions. -/
  | spanStop (sid : Nat) (tag : Nat)
  /-- LANTERN_ADMIT (R200): Writes or updates a lantern table entry, optionally waiting for its join. -/
  | lanternAdmit (sid : Nat) (tag : Nat)
  /-- LANTERN_REMOVE (R201): Removes a lantern, optionally sending LEAVE, and drops its frames. -/
  | lanternRemove (sid : Nat) (tag : Nat)
  /-- LANTERN_QUERY (R202): Returns lantern table entries, or fetches a live capability descriptor. -/
  | lanternQuery (sid : Nat) (tag : Nat)
  /-- LANTERN_SEND (R203): Sends an application or HOST_TUNNEL message to the selected lanterns. -/
  | lanternSend (sid : Nat) (tag : Nat)
  /-- TOPOLOGY_READ (R204): Returns link entries of the mesh topology. -/
  | topologyRead (sid : Nat) (tag : Nat)
  /-- FLOOD_SEND (R205): Queues an application flood to a group, completing at its origination. -/
  | floodSend (sid : Nat) (tag : Nat)
  /-- REGION_PROFILE_LOAD (R206): Checks and stores a region profile while the span is stopped. -/
  | regionProfileLoad (sid : Nat) (tag : Nat)
  /-- DWELL_STATUS (R207): Returns the dwell and duty usage per channel and sub-band. -/
  | dwellStatus (sid : Nat) (tag : Nat)
  /-- RADIO_PROFILE_LOAD (R206): Loads a radio profile, resets the named ports and runs INIT. -/
  | radioProfileLoad (sid : Nat) (tag : Nat) (misoA : Bytes) (misoB : Bytes)
  /-- POLICY_LOAD (R154): Checks a Rolwin policy and loads it, completing at the evaluation that places it. -/
  | policyLoad (sid : Nat) (tag : Nat)
  /-- POLICY_REMOVE (R155): Removes one or all policies and withdraws their fragments. -/
  | policyRemove (sid : Nat) (tag : Nat)
  /-- POLICY_LIST (R156): Lists the loaded policies in ascending ID order. -/
  | policyList (sid : Nat) (tag : Nat)
  /-- PLACEMENT_READ (R157): Returns placement entries by policy, lantern, pier, pier members or banks. -/
  | placementRead (sid : Nat) (tag : Nat)
  /-- PLACEMENT_PIN (R158): Pins or unpins a policy's fragments to one tier. -/
  | placementPin (sid : Nat) (tag : Nat)
  /-- PLACEMENT_HOLD (R159): Starts, replaces or ends a hold on every placement move. -/
  | placementHold (sid : Nat) (tag : Nat)
  /-- SENSOR_SUBSCRIBE (R160): Adds or removes a sensor subscription that forwards events as notices. -/
  | sensorSubscribe (sid : Nat) (tag : Nat)
  /-- LAMP_SET (R268): Sets level, colour and fade on lantern or local targets, now or at an apply time. -/
  | lampSet (sid : Nat) (tag : Nat)
  /-- SCENE_DEFINE (R269): Defines or deletes a scene and pushes SCENE_STORE to the lanterns concerned. -/
  | sceneDefine (sid : Nat) (tag : Nat)
  /-- SCENE_LAUNCH (R270): Schedules the launch flood of a scene for an apply time. -/
  | sceneLaunch (sid : Nat) (tag : Nat)
  /-- CALIBRATION_LOAD (R271): Sends a calibration record to a lantern, or stores it for local channels. -/
  | calibrationLoad (sid : Nat) (tag : Nat)
  /-- LOCAL_CHANNEL_CONFIG (R272): Writes LAMP_CH_n of the selected outputs and commits block 0x05, optionally clearing a latched fault. -/
  | localChannelConfig (sid : Nat) (tag : Nat)
  /-- LAMP_STATUS (R273): Returns local output state, or the last lantern reports. -/
  | lampStatus (sid : Nat) (tag : Nat)
  /-- METER_CONFIG (R358): Writes the nine L meter settings all or nothing. -/
  | meterConfig (sid : Nat) (tag : Nat)
  /-- METER_READ (R359): Returns the quantities of the last closed meter second. -/
  | meterRead (sid : Nat) (tag : Nat)
  /-- ENERGY_READ (R360): Returns the energy registers with their legacy views and wrap counts. -/
  | energyRead (sid : Nat) (tag : Nat)
  /-- PULSE_OUTPUT_ASSIGN (R362): Writes a pulse output's source, constant, width and inversion, then commits block 0x06. -/
  | pulseOutputAssign (sid : Nat) (tag : Nat)
  /-- PULSE_INPUT_READ (R363): Returns pulse input totals, optionally clearing the lost counts. -/
  | pulseInputRead (sid : Nat) (tag : Nat)
  /-- RECONCILE_READ (R364): Returns the kept reconciliation window results. -/
  | reconcileRead (sid : Nat) (tag : Nat)
  /-- METER_CALIBRATE (R365): Measures over closed seconds and commits new gains, phases or offsets. -/
  | meterCalibrate (sid : Nat) (tag : Nat)
  /-- UPDATE_BEGIN (R481): Checks an image header and opens or resumes a fragment session. -/
  | updateBegin (sid : Nat) (tag : Nat)
  /-- UPDATE_FRAGMENT (R483): Programs and verifies one payload fragment into the inactive slot. -/
  | updateFragment (sid : Nat) (tag : Nat)
  /-- UPDATE_STATUS (R486): Returns the state of the update session. -/
  | updateStatus (sid : Nat) (tag : Nat)
  /-- UPDATE_ACTIVATE (R488): Rewraps the key store, writes the boot record and schedules a SYSTEM reset into trial. -/
  | updateActivate (sid : Nat) (tag : Nat)
  /-- UPDATE_CONFIRM (R490): Closes the trial, activates the slot and raises the OTP anti-rollback counter. -/
  | updateConfirm (sid : Nat) (tag : Nat)
  /-- UPDATE_ABORT (R491): Ends the session or reverts a trial. -/
  | updateAbort (sid : Nat) (tag : Nat)
  /-- LANTERN_IMAGE_STAGE (R498): Begins, adds data to or deletes a staged lantern image. -/
  | lanternImageStage (sid : Nat) (tag : Nat)
  /-- LANTERN_IMAGE_ROLLOUT (R499): Starts, aborts or reports a lantern image rollout. -/
  | lanternImageRollout (sid : Nat) (tag : Nat)
  /-- KEY_LOAD (R109): Unseals a wrapped key and stores it in a slot. -/
  | keyLoad (sid : Nat) (tag : Nat)
  /-- KEY_RETIRE (R110): Erases a key slot, clearing the keystone if it holds that key. -/
  | keyRetire (sid : Nat) (tag : Nat)
  /-- LIFECYCLE_ADVANCE (R464): Performs a permitted life-cycle transition, destroying keys and resetting. -/
  | lifecycleAdvance (sid : Nat) (tag : Nat)
  /-- TAMPER_POLICY_SET (R467): Sets the policy of one tamper source. -/
  | tamperPolicySet (sid : Nat) (tag : Nat)
  /-- DEBUG_UNLOCK (R113): Returns a challenge or verifies the signed answer to open debug. -/
  | debugUnlock (sid : Nat) (tag : Nat)
  /-- SECURITY_STATUS (R88): Returns the life cycle, key and tamper status, clearing the LATCHED bits. -/
  | securityStatus (sid : Nat) (tag : Nat)
  /-- FAULT_STATUS (R88): Returns the fault counts and pending UC entries. -/
  | faultStatus (sid : Nat) (tag : Nat)
  /-- FAULT_ACK (R114): Acknowledges one or every pending UC entry. -/
  | faultAck (sid : Nat) (tag : Nat)
  /-- EVENT_READ (R115): Returns event records across the three tiers. -/
  | eventRead (sid : Nat) (tag : Nat)
  /-- EVENT_CLEAR (R116): Returns a challenge, or clears the whole log against a signed answer. -/
  | eventClear (sid : Nat) (tag : Nat)
  /-- EVENT_RATE_SET (R117): Sets the rate limit of one or every event code. -/
  | eventRateSet (sid : Nat) (tag : Nat)
  /-- FAULT_INJECT (R118): Schedules injected faults of a source and class. -/
  | faultInject (sid : Nat) (tag : Nat)
  /-- TWIN_STATUS (R88): Returns the twin role, link, lease and health. -/
  | twinStatus (sid : Nat) (tag : Nat)
  /-- TWIN_CONFIG (R119): Writes and commits the twin-block settings on either member. -/
  | twinConfig (sid : Nat) (tag : Nat)
  /-- LEASE_YIELD (R120): Makes the holder release the lease after the next copy, completing when the peer holds it. -/
  | leaseYield (sid : Nat) (tag : Nat)
  /-- SELFTEST_RUN (R513): Runs a commanded self-test of one target in slices. -/
  | selftestRun (sid : Nat) (tag : Nat)
  /-- SELFTEST_RESULT (R122): Returns the result of a kept commanded run. -/
  | selftestResult (sid : Nat) (tag : Nat)
  /-- SELFTEST_SCHEDULE (R123): Writes and commits the background sweep settings. -/
  | selftestSchedule (sid : Nat) (tag : Nat)
  /-- QUEUE_CONFIG (R108): Writes and commits queue watermark and spill settings. -/
  | queueConfig (sid : Nat) (tag : Nat)
  /-- QUEUE_STATUS (R88): Returns the intake and per-session queue state and counters. -/
  | queueStatus (sid : Nat) (tag : Nat)
  /-- WIN_IN_PUSH (R60): Host pushes one word of an inbound packet at WIN_IN. -/
  | winInPush (w : Word32)
  /-- WIN_OUT_POP (R60): Host pops one word of the outbound packet at WIN_OUT, freeing its reply slot at the end of the packet. -/
  | winOutPop
  /-- ABORT_IN (R60): Writing 1 to ABORT_IN discards a partly pushed packet or ends the discard after FRAME_ERR. -/
  | abortIn
  /-- WIN_STATUS_W1C (R58): Writing 1 clears the FRAME_ERR, OVERRUN or UNDERRUN flags of WIN_STATUS. -/
  | winStatusW1c (w : Word32)
  /-- WIN_IRQ_CAUSE_W1C (R59): Writing 1 clears cause bits of WIN_IRQ_CAUSE, updating HOST_IRQ_N. -/
  | winIrqCauseW1c (w : Word32)
  /-- REGISTER_WRITE (R58): Write to a window register without behaviour of its own, such as WIN_IRQ_MASK. -/
  | registerWrite (offset : Nat) (w : Word32)
  /-- HSPI_TRANSACTION_IGNORED (R56): A transaction with an unknown command byte or offset is ignored until HSPI_CS_N rises. -/
  | hspiTransactionIgnored (command : Byte) (rest : Bytes)
  /-- HUART_FRAME (R62): A complete HUART frame is unescaped and its packet offered to intake. -/
  | huartFrame (raw : Bytes)
  /-- DBG_FRAME (R71): A complete mailbox frame arrives on DBG. -/
  | dbgFrame (raw : Bytes)
  /-- ETH_HANDSHAKE (R66): A host HANDSHAKE datagram is checked and answered, opening a session. -/
  | ethHandshake (d : EthIn)
  /-- ETH_DATA (R68): A DATA datagram is authenticated, ordered by counter and its packet offered to intake. -/
  | ethData (d : EthIn)
  /-- ETH_REORDER_TIMEOUT (R69): After 20 ms missing counters are declared lost and held datagrams are taken. -/
  | ethReorderTimeout (sid : Nat)
  /-- ETH_IDLE_TIMEOUT (R70): An Ethernet session without authenticated DATA for 60 s is closed. -/
  | ethIdleTimeout (sid : Nat)
  /-- ETH_FIRST_DATA_TIMEOUT (R66): A session without a first DATA datagram within 5 s of the handshake is dropped. -/
  | ethFirstDataTimeout (sid : Nat)
  /-- IP_REASSEMBLY_TIMEOUT (R65): An IP reassembly not finished within 2 s is dropped. -/
  | ipReassemblyTimeout (id : Nat)
  /-- INTAKE_SERVICE (R72): The next intake queue entry is checked under Table 2.10 and accepted or refused. -/
  | intakeService
  /-- INTERIM_REPLY_TIMER (R82): A command incomplete 10 ms after acceptance gets an ACCEPTED interim reply. -/
  | interimReplyTimer (sid : Nat) (tag : Nat)
  /-- DEADLINE_EXPIRY (R79): A command's deadline passes and it completes with TIMEOUT. -/
  | deadlineExpiry (sid : Nat) (tag : Nat)
  /-- LATE_ACK_WINDOW_EXPIRY (R80): 64 cycles after a TIMEOUT, late acknowledgements stop being counted. -/
  | lateAckWindowExpiry (seq : Nat)
  /-- CREDIT_RETURN_TIMER (R55): 100 ms after the oldest owed credit, a CREDIT_RETURN notice is sent. -/
  | creditReturnTimer (sid : Nat)
  /-- CHALLENGE_EXPIRY (R98): A SESSION_OPEN challenge expires after 5 s, releasing its session number. -/
  | challengeExpiry (t : Transport)
  /-- DEBUG_CHALLENGE_EXPIRY (R113): A DEBUG_UNLOCK challenge expires after 60 s. -/
  | debugChallengeExpiry
  /-- EVENT_CLEAR_CHALLENGE_EXPIRY (R116): An EVENT_CLEAR challenge expires after 60 s. -/
  | eventClearChallengeExpiry
  /-- TRANSPORT_TX_COMPLETE (R92): The last byte of a reply leaves its transport. -/
  | transportTxComplete (t : Transport) (sid : Nat)
  /-- BAUD_CHANGE_TIMER (R64): 2 ms after the SESSION_OPEN reply, HUART changes its rate. -/
  | baudChangeTimer
  /-- DELAYED_RESET (R92): 10 ms after a reply, the module performs the requested or implied reset. -/
  | delayedReset
  /-- REPLY_HOLD_TIMER (R427): A reply queue above its high watermark for 10 s records REPLY_HOLD_EXCEEDED. -/
  | replyHoldTimer (sid : Nat)
  /-- QUEUE_SERVICE_PASS_END (R428): At the end of a queue service pass, pending queue settings apply and watermarks are re-evaluated. -/
  | queueServicePassEnd
  /-- CYCLE_BOUNDARY (R23): At each span-cycle start, pending sets apply, the holder renews and copies, and the root beacon goes out. -/
  | cycleBoundary (lateA lateB : Bool) (misoA misoB : Bytes)
  /-- PIER_HEAD_SILENT (R184): A pier head that misses three consecutive beacons is marked SILENT. -/
  | pierHeadSilent (lantern : Nat)
  /-- HOLDER_BEACONS_MISSED (R186): A standby counting three missed holder beacons reports it in its health. -/
  | holderBeaconsMissed (heard : Bool)
  /-- RENDEZVOUS_LISTEN_END (R182): A rendezvous listen ends; after the 64th without resync the partner is LOST. -/
  | rendezvousListenEnd (lantern : Nat)
  /-- ROUTELESS_LOST (R183): A lantern ROUTELESS for 64 cycles becomes LOST and its held frames fail. -/
  | routelessLost (lantern : Nat)
  /-- ROOT_PORT_REASSIGN (R168): A first-hop lantern moves to the other root port after 64 cycles of better ratio. -/
  | rootPortReassign (lantern : Nat)
  /-- CELL_START (R161): A cell begins: the MAC runs the radio sequences and transmits or listens. -/
  | cellStart (c : Cell)
  /-- ACK_WINDOW_EXPIRY (R176): No ACK arrives for an attempt, which counts as failed. -/
  | ackWindowExpiry (port : Nat)
  /-- ENHANCED_ACK_RECEIVED (R212): An enhanced ACK or NACK for an attempt arrives with its time correction. -/
  | enhancedAckReceived (port : Nat) (psdu : Bytes)
  /-- RADIO_IRQ (R194): A transceiver requests service and IRQ_SERVICE and RX_FETCH run. -/
  | radioIrq (port : Nat) (miso : Bytes) (edge : Int)
  /-- RADIO_POLL_TIMEOUT (R196): A sequence POLL times out and the port is reset and reinitialised. -/
  | radioPollTimeout (poll : PollIn)
  /-- FRAME_RECEIVED (R172): A received frame passes or fails the address filter and security checks. -/
  | frameReceived (poll : PollIn)
  /-- BEACON_RECEIVED (R184): A lantern or parent beacon is heard. -/
  | beaconReceived (src : Nat)
  /-- JOIN_REQUEST (R222): A join request, received direct or relayed, is verified and answered with JOIN_RESPONSE. -/
  | joinRequest (eui : Nat)
  /-- JOIN_RELAY (R224): A proxy relays a join request PSDU to the module. -/
  | joinRelay (proxy : Nat)
  /-- CAPABILITY (R231): A lantern's capability descriptor arrives, making it JOINED and triggering placement. -/
  | capability (lantern : Nat)
  /-- CONFIG_REQUEST (R219): A lantern asks for its schedule and is answered with SCHEDULE. -/
  | configRequest (lantern : Nat)
  /-- RESYNC (R182): A resync from an ADRIFT partner restores it. -/
  | resync (lantern : Nat)
  /-- NEIGHBOUR_REPORT (R230): A node reports its links for routing and placement. -/
  | neighbourReport (lantern : Nat)
  /-- BEACON_MISS (R184): A route parent reports a child's missed beacon. -/
  | beaconMiss (lantern : Nat)
  /-- RESPONSE (R228): A node's end-to-end response to a confirmed message ends a transaction. -/
  | response (lantern : Nat)
  /-- SENSOR_EVENT (R148): A sensor event reaches the module for a SPAN fragment, forward or subscription. -/
  | sensorEvent (lantern : Nat)
  /-- ENERGY_REPORT (R147): A lantern energy report for a window reaches the module. -/
  | energyReport (lantern : Nat)
  /-- ENERGY_AGGREGATE (R147): A pier head's energy aggregate for a window reaches the module. -/
  | energyAggregate (lantern : Nat)
  /-- POLICY_REPORT (R127): A REPORT action's message arrives and is recorded. -/
  | policyReport (lantern : Nat)
  /-- FAULT_REPORT (R229): A lantern reports a driver fault. -/
  | faultReport (lantern : Nat)
  /-- FRAGMENT_INVENTORY (R233): A lantern reports the fragments it holds, and the truss pushes differences. -/
  | fragmentInventory (lantern : Nat)
  /-- CHUNK_REQUEST (R240): A node or head requests image chunks from the module. -/
  | chunkRequest (lantern : Nat)
  /-- IMAGE_STATUS (R499): A node reports its image progress to the rollout. -/
  | imageStatus (lantern : Nat)
  /-- LEAVE (R229): A node announces that it is leaving. -/
  | leave (lantern : Nat)
  /-- LAMP_REPORT (R274): A lantern's lamp report is stored for LAMP_STATUS. -/
  | lampReport (lantern : Nat)
  /-- HOST_TUNNEL (R241): An annexed module takes a tunnelled datagram as if it arrived on UDP. -/
  | hostTunnel
  /-- KEY_UPDATE_ACTIVATION (R217): At the activation ASN, transmission switches to the new network key. -/
  | keyUpdateActivation
  /-- OLD_NETWORK_KEY_EXPIRY (R217): 64 cycles after activation, the old network key is erased. -/
  | oldNetworkKeyExpiry
  /-- ANNEX_PARENT_LOST (R185): Three missed parent beacons in ANNEX role start HOLDOVER and a scan. -/
  | annexParentLost (heard : Bool)
  /-- SPAN_AUTO_STOP_TIMER (R199): 60 s after both contactors open, the span stops. -/
  | spanAutoStopTimer
  /-- PTP_SYNC (R283): A PTP Sync message is timestamped and yields a measurement. -/
  | ptpSync (m : PtpSync)
  /-- PTP_FOLLOW_UP (R283): A two-step master's Follow_Up completes a Sync measurement. -/
  | ptpFollowUp (m : PtpFollow)
  /-- PTP_ANNOUNCE (R283): An Announce message feeds master selection. -/
  | ptpAnnounce (m : PtpAnn)
  /-- PTP_DELAY_RESP (R283): A Delay_Resp gives the mean path delay. -/
  | ptpDelayResp (m : PtpResp)
  /-- DELAY_REQ_TIMER (R283): The slave sends a Delay_Req at its interval. -/
  | delayReqTimer
  /-- ANNOUNCE_RECEIPT_TIMEOUT (R283): No Announce for 3 intervals loses the PTP source. -/
  | announceReceiptTimeout
  /-- SYNC_LOSS_TIMEOUT (R287): No Sync for 4 intervals loses the PTP source. -/
  | syncLossTimeout
  /-- PTP_EVENT_FORWARD (R281): The switch forwards a PTP event message, adding its residence to the correctionField. -/
  | ptpEventForward (ingress : Nat) (stamp : Nat) (frame : Bytes)
  /-- PPS_IN_EDGE (R284): A PPS_IN edge is timestamped and labelled as a GNSS or PPS_ONLY measurement. -/
  | ppsInEdge
  /-- NMEA_SENTENCE (R284): A ZDA or RMC sentence from GNSS_RX labels seconds. -/
  | nmeaSentence (text : NmeaIn)
  /-- GNSS_EDGE_LOSS (R287): No PPS edge for 2 s loses GNSS or PPS_ONLY. -/
  | gnssEdgeLoss
  /-- GNSS_LABEL_LOSS (R287): No label for 3 s loses GNSS. -/
  | gnssLabelLoss
  /-- SOURCE_PREFERENCE_TIMER (R288): A higher source qualified for 60 s becomes selected. -/
  | sourcePreferenceTimer (source : Nat)
  /-- SLEW_END (R297): A slew reaches its end instant. -/
  | slewEnd
  /-- WHOLE_SECOND (R304): At each whole second, time settings apply, the RTC is disciplined and pulse totals extended. -/
  | wholeSecond
  /-- LEAP_SECOND (R311): At the end of the TIME_LEAP day, TAI-UTC changes and the RTC steps. -/
  | leapSecond
  /-- TIME_EXCHANGE_TIMER (R383): At T + 500 ms the holder sends TIME to the standby. -/
  | timeExchangeTimer
  /-- RTC_ALARM_MATCH (R315): At each RTC second, enabled alarms are compared and fire. -/
  | rtcAlarmMatch
  /-- RTC_TRIM_ACCUMULATE (R307): Every 32,768 crystal cycles the trim accumulator adds or withholds a tick. -/
  | rtcTrimAccumulate
  /-- RTC_TEMP_COMPENSATION (R307): Every 64 s the crystal temperature coefficient is compensated. -/
  | rtcTempCompensation (correction : Int)
  /-- RTC_TRIM_LEARN (R310): After 1,024 s locked without a step, RTC_TRIM is relearned. -/
  | rtcTrimLearn
  /-- VAULT_SCRUB (R508): Every 64 s each vault word is read and corrected by ECC. -/
  | vaultScrub (result : Nat)
  /-- FALLBACK_MINUTE (R328): At each minute of fixed local time the controlling agent evaluates the fallback table. -/
  | fallbackMinute
  /-- FALLBACK_KEEPALIVE_RENEW (R324): Firmware renews the fallback keepalive. -/
  | fallbackKeepaliveRenew
  /-- FALLBACK_KEEPALIVE_EXPIRY (R324): The keepalive expires and the sequencer takes contactor control. -/
  | fallbackKeepaliveExpiry
  /-- BACKUP_ENTRY (R322): V33 falls below 2.70 V and the abutment moves to VBAT. -/
  | backupEntry
  /-- METER_SECOND_CLOSE (R337): A meter second closes, its quantities are computed and the totals are saved. -/
  | meterSecondClose (edges : List Nat)
  /-- LINE_ZERO_CROSSING (R343): A positive zero crossing routes the line cycle's energy into the registers. -/
  | lineZeroCrossing (phase : Nat) (edges : List Nat)
  /-- ROUTING_TIMEOUT (R343): Without a zero crossing for 25 ms, energy is routed. -/
  | routingTimeout (phase : Nat) (edges : List Nat)
  /-- MOD_CLK_GAP (R334): More than 2 µs without a MOD_CLK edge starts gap handling. -/
  | modClkGap
  /-- PFAIL_FALL (R347): PFAIL_N falls: the totals are flushed and events staged. -/
  | pfailFall
  /-- PFAIL_RISE (R347): PFAIL_N rises without a reset and metering continues. -/
  | pfailRise
  /-- POUT_PULSE_PHASE_END (R350): A pulse output's active or inactive time ends and the next due pulse may start. -/
  | poutPulsePhaseEnd (output : Nat)
  /-- PIN_EDGE (R351): A pulse input changes level and debouncing starts. -/
  | pinEdge (input : Nat) (level : Bool)
  /-- PIN_DEBOUNCE_EXPIRY (R351): A level stable for the debounce time counts a rising edge. -/
  | pinDebounceExpiry (input : Nat)
  /-- RECONCILE_WINDOW (R354): Window w is reconciled at the end of cycle REPORT_AGG_DEADLINE of window w + 1. -/
  | reconcileWindow
  /-- STANDBY_METER_WINDOW (R356): At each UTC quarter-hour the standby computes its meter disagreement. -/
  | standbyMeterWindow
  /-- TWIN_HELLO (R369): A HELLO arrives; with 256 valid characters the link comes up. -/
  | twinHello (f : LinkIn)
  /-- HEARTBEAT (R368): A HEARTBEAT keeps the link alive. -/
  | heartbeat (f : LinkIn)
  /-- RENEW (R377): The standby receives a lease renewal, with any step to apply. -/
  | renew (f : LinkIn)
  /-- COPY (R378): A copy segment arrives at the standby. -/
  | copy (f : LinkIn)
  /-- COPY_END (R379): The standby checks and commits the copy whole, and sends COPY_ACK. -/
  | copyEnd (f : LinkIn)
  /-- COPY_ACK (R379): The holder learns the copy was committed or rejected. -/
  | copyAck (f : LinkIn)
  /-- TWIN_TIME (R383): The standby timestamps TIME and answers TIME_ECHO, making a TWIN measurement. -/
  | twinTime (f : LinkIn)
  /-- TIME_ECHO (R383): The holder timestamps the TIME_ECHO. -/
  | timeEcho (f : LinkIn)
  /-- ECHO_FEED (R381): The standby receives a frame to echo in its cell. -/
  | echoFeed (f : LinkIn)
  /-- ECHO_RESULT (R381): The holder learns the outcome of an echo. -/
  | echoResult (f : LinkIn)
  /-- JOURNAL (R380): The standby stores an ACCEPTED or COMPLETED journal entry and acknowledges it. -/
  | journal (f : LinkIn)
  /-- JOURNAL_ACK (R380): The holder may begin the journaled command. -/
  | journalAck (f : LinkIn)
  /-- HEALTH (R385): A peer health word arrives. -/
  | health (f : LinkIn)
  /-- NAK (R368): A NAK makes the sender repeat COPY or JOURNAL frames from the named sequence. -/
  | nak (f : LinkIn)
  /-- TWIN_FRAME_BAD (R368): A link frame with a wrong CRC or length is discarded and counted. -/
  | twinFrameBad
  /-- TWIN_LINK_DOWN_TIMEOUT (R369): No valid frame for 8 ms takes the link down. -/
  | twinLinkDownTimeout
  /-- TWIN_HELLO_TIMER (R369): While the link is down each member sends HELLO every 10 ms. -/
  | twinHelloTimer
  /-- HEARTBEAT_TIMER (R368): After 1 ms without another frame a HEARTBEAT is sent. -/
  | heartbeatTimer
  /-- LEASE_IN_ASSERT (R372): TW_LEASE_IN rises, closing the interlock and possibly causing CONFLICT. -/
  | leaseInAssert
  /-- LEASE_IN_DEASSERT (R371): TW_LEASE_IN falls, starting the 10 µs interlock wait and waking the module. -/
  | leaseInDeassert
  /-- INTERLOCK_OPEN (R388): The interlock opens, the member takes the lease and runs the takeover sequence. -/
  | interlockOpen
  /-- LEASE_EXPIRY_TAKE (R373): A standby whose lease interval passed asserts TW_LEASE_OUT. -/
  | leaseExpiryTake
  /-- LONE_START_TIMER (R375): A standby without HELLO for 2 x TWIN_LEASE_MS takes the lease alone. -/
  | loneStartTimer
  /-- CONFLICT_BACKOFF_TIMER (R374): After a random wait in conflict the member applies the take rule again. -/
  | conflictBackoffTimer
  /-- HEALTH_YIELD_TIMER (R376): A holder with blocking health for 10 s yields. -/
  | healthYieldTimer
  /-- COPY_STALE (R385): Too many cycle starts without a committed copy set COPY_STALE. -/
  | copyStale
  /-- POWER_EVALUATION (R396): The power manager applies pending power settings and chooses a state. -/
  | powerEvaluation
  /-- PMIC_ACK (R409): A VOUT_COMMAND is acknowledged by PM_PGOOD and STATUS_WORD. -/
  | pmicAck (nack : Bool) (pgood : Bool) (status : Nat)
  /-- PMIC_ACK_TIMEOUT (R410): A VOUT request unacknowledged within 1 ms is repeated or raises a fault. -/
  | pmicAckTimeout
  /-- PMBUS_RETRY_TIMER (R409): 20 µs after BUSY or a NACK the PMBus transaction is repeated. -/
  | pmbusRetryTimer
  /-- WAKE (R408): A wake source leaves IDLE, NAP or SLUMBER or abandons an entry. -/
  | wake (cause : Nat)
  /-- KNOWN_EVENT_TIMER (R400): The exit starts the exit latency plus lead before a known event. -/
  | knownEventTimer
  /-- THERMAL_SENSOR_CHANGE (R395): The junction crossing 105 °C or 95 °C starts or ends throttling. -/
  | thermalSensorChange (celsius : Int)
  /-- PM_ALERT (R411): PM_ALERT_N low makes the front end read and clear the PMIC status. -/
  | pmAlert (status : Nat)
  /-- PM_PGOOD_FALL (R411): PM_PGOOD falls outside a transition and raises PMIC_PGOOD_LOST. -/
  | pmPgoodFall
  /-- ETH_LINK_POLL (R397): Every 1 s in RUN the RMII ports' link is polled over MDIO. -/
  | ethLinkPoll (a : Bool) (b : Bool)
  /-- CHECKIN_WINDOW_END (R397): A check-in window ends. -/
  | checkinWindowEnd
  /-- JOINT_DELIVERY (R415): A crossing delivers a level, event count, word or FIFO word to its destination. -/
  | jointDelivery (joint : Nat)
  /-- JOINT_SIDE_RESET (R419): A reset on one side of a joint flushes the other side. -/
  | jointSideReset (joint : Nat)
  /-- FAULT_RAISED (R430): A fault is raised and handled as CE, UC or FT. -/
  | faultRaised (source : Nat) (cls : Nat) (payload : Bytes)
  /-- FAULT_INJECTION (R118): A scheduled injected fault is raised. -/
  | faultInjection
  /-- UC_ESCALATION (R435): A pending UC deadline passes and ESCALATION is raised. -/
  | ucEscalation
  /-- FIRMWARE_FAULT_ACK (R435): Firmware acknowledges a contained UC entry. -/
  | firmwareFaultAck (source : Nat)
  /-- WATCHDOG_EXPIRY (R440): A core watchdog expires and raises its source. -/
  | watchdogExpiry (core : Nat)
  /-- SAFE_HOLD_RESTART (R443): After FAULT_SAFE_HOLD seconds in safe state an automatic SYSTEM reset is issued. -/
  | safeHoldRestart
  /-- EVENT_PAGE_COPY (R450): A 128-record page is copied to the flash ring on count or after 60 s. -/
  | eventPageCopy
  /-- EVENT_LOG_ERASE_DONE (R452): The background erase of the old log's sectors completes. -/
  | eventLogEraseDone
  /-- RATE_BUCKET_REFILL (R447): A code's token bucket gains a token. -/
  | rateBucketRefill (code : Nat)
  /-- TAMPER_CONDITION (R467): A tamper source acts under its policy, logging, alarming or erasing. -/
  | tamperCondition (source : Nat)
  /-- TAMPER0_DEBOUNCE_EXPIRY (R467): TAMPER0 at its level for the debounce time makes CASE_SWITCH true. -/
  | tamper0DebounceExpiry
  /-- GUARD_LFSR_ADVANCE (R468): Every 32 ticks the guard-loop LFSR advances on TGUARD_OUT. -/
  | guardLfsrAdvance
  /-- GUARD_SAMPLE (R468): TAMPER1 is sampled and compared 16 ticks after each change. -/
  | guardSample (level : Bool)
  /-- VBAT_LOW_TIMER (R467): VBAT below 1.90 V for 1 s makes VBAT_LOW true. -/
  | vbatLowTimer
  /-- TAMPER_REARM_TIMER (R467): A condition false for 1 s lets its source act again. -/
  | tamperRearmTimer (source : Nat)
  /-- UPDATE_SECTOR_ERASED (R483): A background erase of a slot sector completes and waiting fragments proceed. -/
  | updateSectorErased
  /-- UPDATE_VERIFY_DONE (R485): Background digest, tag check and in-place decryption finish: READY or FAILED. -/
  | updateVerifyDone
  /-- UPDATE_JOURNAL_EXPIRY (R482): A session without a stored fragment for UPDATE_JOURNAL_EXPIRY ends. -/
  | updateJournalExpiry
  /-- TRIAL_TIME_LIMIT (R489): A trial running 600 s sets the revert flag and resets. -/
  | trialTimeLimit
  /-- RECOVERY_HELLO_TIMER (R495): The recovery ROM sends HELLO every 1 s until the first host frame. -/
  | recoveryHelloTimer
  /-- RECOVERY_BEGIN (R495): A recovery BEGIN frame checks the header and opens a download. -/
  | recoveryBegin (frame : Bytes)
  /-- RECOVERY_DATA (R495): A recovery DATA frame stores one fragment. -/
  | recoveryData (frame : Bytes)
  /-- RECOVERY_BOOT (R495): A recovery BOOT frame boots a READY image as trial boot 1. -/
  | recoveryBoot (frame : Bytes)
  /-- SELFTEST_SWEEP_START (R510): Every SELFTEST_SWEEP_HOURS a background sweep begins. -/
  | selftestSweepStart
  /-- SELFTEST_SLICE_START (R511): A self-test slice tests whole units within its budget. -/
  | selftestSliceStart (r : SliceIn)
  /-- SCAN_REQUEST (R514): A scan request over DBG halts the cores, clears secrets and enables scan. -/
  | scanRequest
  /-- PLACEMENT_EVALUATION (R141): The truss evaluates placement and acts on the gathered triggers. -/
  | placementEvaluation
  /-- DAY_TABLE_REFRESH (R146): A fragment's 7-day table is recomputed and pushed daily. -/
  | dayTableRefresh (policy : Nat) (site : Nat)
  /-- SPAN_POLICY_TRIGGER (R126): A time trigger of a SPAN-tier fragment fires on the module. -/
  | spanPolicyTrigger (policy : Nat)
  /-- CLAIM_HOLD_EXPIRY (R134): A HOLD_RELEASE claim on a module-held channel ends. -/
  | claimHoldExpiry (output : Nat) (policy : Nat)
  /-- POLICY_VALIDITY_END (R152): A policy's validity ends and its slots are freed. -/
  | policyValidityEnd (policy : Nat)
  /-- PLACEMENT_HOLD_END (R145): A placement hold ends and the kept triggers are acted on. -/
  | placementHoldEnd
  /-- SUBSCRIPTION_EXPIRY (R160): A sensor subscription's duration ends. -/
  | subscriptionExpiry (number : Nat)
  /-- LAMP_PERIOD_START (R248): A local PWM period starts; lamp settings apply and the grid error is trimmed. -/
  | lampPeriodStart (output : Nat)
  /-- FADE_STEP (R251): A local fade advances one 10 ms step. -/
  | fadeStep (output : Nat)
  /-- LOCAL_APPLY_TIME (R258): A pending timed change or scene applies to local outputs. -/
  | localApplyTime
  /-- LD_FAULT_FALL (R266): LD_FAULT_N falls and filtering starts. -/
  | ldFaultFall
  /-- LD_FAULT_FILTER_EXPIRY (R266): LD_FAULT_N low for LAMP_FAULT_FILTER records LD_FAULT and may latch a shutdown. -/
  | ldFaultFilterExpiry
  /-- LD_FAULT_RISE (R266): LD_FAULT_N returns high and LD_FAULT_CLEAR is recorded. -/
  | ldFaultRise
  /-- LD_FAULT_RETRY_TIMER (R266): After LAMP_FAULT_RETRY a latched shutdown releases. -/
  | ldFaultRetryTimer
  /-- RESET_N_ASSERT (R530): RESET_N low asserts a SYSTEM reset. -/
  | resetNAssert
  /-- RESET_N_RELEASE (R530): RESET_N rises, RECOVERY_N is sampled and the boot begins. -/
  | resetNRelease (recoveryLow : Bool)
  /-- POWER_ON_RESET (R529): V33 returns after BACKUP, or after a vault loss as COLD. -/
  | powerOnReset
  /-- BOOT_SEQUENCE (R533): The start-up steps from crystal to first placement evaluation. -/
  | bootSequence (e : BootEnv)
  /-- PMIC_STARTUP_RETRY (R528): After a start-up PMIC fault the dialogue is repeated every 1 s. -/
  | pmicStartupRetry (e : BootEnv)
  /-- IO_BANK_CHANGE (R541): A bank supply detector changes between good and not good. -/
  | ioBankChange (bank : Nat) (mode : Nat)
  /-- MESH_REASSEMBLY_TIMEOUT (R213): A hop discards a link-fragment reassembly that is not complete 8 cycles after its first fragment arrived. -/
  | meshReassemblyTimeout (src : Nat)
  /-- MOD_CLK_RETURN (R334): MOD_CLK rising edges resume after a gap, and the gap is settled as INTERPOLATED or FILLED by its length. -/
  | modClkReturn (edges : List Nat)
  /-- WATCHDOG_RENEWAL (R440): Firmware renews a core's hardware watchdog, restarting its timeout. -/
  | watchdogRenewal (core : Nat)
  /-- VAULT_SUPPLY_LOSS (R308): V33 and VBAT are both absent, so the abutment and its vault are lost. -/
  | vaultSupplyLoss
  /-- TAMPER0_EDGE (R467): TAMPER0 changes level, which starts or abandons the CASE_SWITCH debounce. -/
  | tamper0Edge (level : Bool)
  /-- TAMPER_CONDITION_END (R467): A tamper source's condition becomes false, so ACTIVE clears and the 1 s re-arm interval begins. -/
  | tamperConditionEnd (source : Nat)
deriving DecidableEq, Repr

end Sys2Proof
end

