-- ==== Sys2Proof/Decode.lean ====
section
/-! DEFINITION. The table spells no command as a word: its rows carry no bits, since commands reach the block as packets, frames,
register accesses and events, whose bytes the meanings themselves read (chapters 02, 06 and 11). -/

namespace Sys2Proof

/-- The command a word of the table spells: none. -/
def decodeTableWord (_nbits _w : Nat) : Option Instr := none

end Sys2Proof
end

