-- ==== Sys2Proof/Machine/Operands.lean ====
section
/-! DEFINITION. Every operand form of the packets, records and frames: byte order (R9), bit fields,
two's complement, the span address (R12), span time and calendar encodings (R91). -/

namespace Sys2Proof.Machine

/-- The byte of value `n` modulo 256. -/
def byte (n : Nat) : Byte := BitVec.ofNat 8 n

/-- `k` bytes of `n`, least significant first: the byte order of the module's own formats (R9). -/
def le : Nat → Nat → Bytes
  | 0, _ => []
  | k + 1, n => byte n :: le k (n / 256)

/-- The number that little-endian bytes spell (R9). -/
def leNat : Bytes → Nat
  | [] => 0
  | b :: bs => b.toNat + 256 * leNat bs

/-- `k` bytes of `n`, most significant first: network byte order (R9). -/
def be (k n : Nat) : Bytes := (le k n).reverse

/-- The number that bytes in network byte order spell (R9). -/
def beNat (bs : Bytes) : Nat := leNat bs.reverse

/-- `k` zero bytes: a reserved field as the module sends it (R10). -/
def zeros (k : Nat) : Bytes := List.replicate k 0

/-- `len` bytes of `b` from offset `off`. -/
def sub (b : Bytes) (off len : Nat) : Bytes := (b.drop off).take len

/-- The little-endian field of `len` bytes at offset `off` of a parameter block (R9). -/
def fld (b : Bytes) (off len : Nat) : Nat := leNat (sub b off len)

/-- All bytes of the range are zero: the test of a reserved field (R10). -/
def zeroAt (b : Bytes) (off len : Nat) : Bool := (sub b off len).all (· == 0)

/-- `b` cut or padded with zero bytes to `k` bytes. -/
def fit (k : Nat) (b : Bytes) : Bytes := (b ++ zeros k).take k

/-- ASCII bytes of a label. -/
def ascii (s : String) : Bytes := s.toList.map (fun c => byte c.toNat)

/-- Bits hi:lo of `n`, in the notation [high:low] of the scope chapter. -/
def bits (n hi lo : Nat) : Nat := (n / 2 ^ lo) % 2 ^ (hi + 1 - lo)

/-- The signed value of a `w`-bit two's complement field (R91). -/
def toS (w n : Nat) : Int := if n % 2 ^ w < 2 ^ (w - 1) then (n % 2 ^ w : Nat) else (n % 2 ^ w : Nat) - (2 ^ w : Nat)

/-- The `w`-bit two's complement field of a signed value (R91). -/
def ofS (w : Nat) (i : Int) : Nat := (i % (2 ^ w : Nat)).toNat

/-- 1 for true and 0 for false: a flag bit. -/
def b2n (b : Bool) : Nat := if b then 1 else 0

/-- A counter of `w` bits that saturates. -/
def satAdd (w a b : Nat) : Nat := min (a + b) (2 ^ w - 1)

/-! ### Association lists keyed by a number -/

/-- The value a key holds. -/
def get? {α : Type} : List (Nat × α) → Nat → Option α
  | [], _ => none
  | (a, v) :: l, k => if a = k then some v else get? l k

/-- Sets a key, keeping keys strictly rising. -/
def put {α : Type} : List (Nat × α) → Nat → α → List (Nat × α)
  | [], k, v => [(k, v)]
  | (a, x) :: l, k, v => if k < a then (k, v) :: (a, x) :: l else if a = k then (k, v) :: l else (a, x) :: put l k v

/-- Removes a key. -/
def del {α : Type} (l : List (Nat × α)) (k : Nat) : List (Nat × α) := l.filter (fun e => e.1 != k)

/-- Inserts a number into a rising list without repeats. -/
def insertSet : List Nat → Nat → List Nat
  | [], k => [k]
  | a :: l, k => if k < a then k :: a :: l else if a = k then a :: l else a :: insertSet l k

/-- Inserts before the first entry that does not come earlier. -/
def insertBy {α : Type} (le : α → α → Bool) (x : α) : List α → List α
  | [] => [x]
  | y :: l => if le x y then x :: y :: l else y :: insertBy le x l

/-- Sorts, keeping the order of equal entries. -/
def sortBy {α : Type} (le : α → α → Bool) : List α → List α
  | [] => []
  | x :: l => insertBy le x (sortBy le l)

/-- Changes the list entry at an index. -/
def modAt {α : Type} : List α → Nat → (α → α) → List α
  | [], _, _ => []
  | a :: l, 0, f => f a :: l
  | a :: l, n + 1, f => a :: modAt l n f

/-- The numbers 0 to 126 whose bit is set in a group mask (R16). -/
def maskMembers (w mask : Nat) : List Nat := (List.range w).filter (fun i => mask.testBit i)

/-! ### The span address (Table 1.2) -/

def adCauseway (t : Nat) : Nat := bits t 63 56
def adCity (t : Nat) : Nat := bits t 55 44
def adViaduct (t : Nat) : Nat := bits t 43 34
def adSpan (t : Nat) : Nat := bits t 33 24
def adLantern (t : Nat) : Nat := bits t 23 11
def adGroup (t : Nat) : Nat := bits t 10 4
def adChannel (t : Nat) : Nat := bits t 3 0

/-- The all-wildcard target of use code NONE (Table 3.1). -/
def adAll : Nat := 0xFFFFFFFFFFFFFFFF

/-! ### Span time (R277, Table 3.4)

Span time is one count of 2^-32 ns: the seconds, the nanoseconds and the fraction of R277 are its parts. -/

/-- Units of 2^-32 ns in one second. -/
def unitsPerSec : Nat := 1000000000 * 4294967296

/-- The TAI seconds of a span time. -/
def stSec (t : Nat) : Nat := t / unitsPerSec

/-- The nanoseconds of a span time, 0 to 999,999,999. -/
def stNs (t : Nat) : Nat := t / 4294967296 % 1000000000

/-- The whole nanoseconds since the PTP epoch. -/
def stTotNs (t : Nat) : Nat := t / 4294967296

/-- The span time of a count of nanoseconds. -/
def ofNs (n : Nat) : Nat := n * 4294967296

/-- Span time in units of 2^-32 ns: the count of seconds has 48 bits, and wraps (R277; DEDUCED, log entry 146). -/
def wrapSpan (t : Int) : Nat := (t % (2 ^ 48 * unitsPerSec : Nat)).toNat

/-- Span time moved by a signed count of nanoseconds. -/
def addNs (t : Nat) (x : Int) : Nat := wrapSpan ((t : Int) + x * 4294967296)

/-- The 10-byte encoding of span time (Table 3.4). -/
def encTime (t : Nat) : Bytes := le 6 (stSec t) ++ le 4 (stNs t)

/-- A 10-byte span-time field: none where its reserved bits are not zero or its nanoseconds exceed 999,999,999. -/
def decTime (b : Bytes) : Option Nat :=
  if fld b 6 4 < 1000000000 then some (ofNs (fld b 0 6 * 1000000000 + fld b 6 4)) else none

/-- The 8-byte span-time field of an event record: bits 29:0 nanoseconds, bits 63:30 the low 34 bits of the seconds (R444). -/
def encEventTime (t : Nat) : Nat := stNs t + 2 ^ 30 * (stSec t % 2 ^ 34)

/-! ### The calendar (Table 3.4, R312, R313) -/

/-- A calendar instant, as Table 3.4 lays it out. -/
structure Calendar where
  year : Nat
  month : Nat
  day : Nat
  hour : Nat
  minute : Nat
  second : Nat
  weekday : Nat
deriving DecidableEq, Repr, Inhabited

/-- Gregorian leap years (R312). -/
def leapYear (y : Nat) : Bool := (y % 4 == 0 && y % 100 != 0) || y % 400 == 0

/-- Days of a month (R313). -/
def monthDays (y m : Nat) : Nat :=
  if m = 2 then (if leapYear y then 29 else 28)
  else if m = 4 ∨ m = 6 ∨ m = 9 ∨ m = 11 then 30 else 31

/-- Days from 2000-01-01 to 1 January of year `y`. -/
def daysToYear (y : Nat) : Nat :=
  let n := y - 2000
  365 * n + (n + 3) / 4 - (n + 99) / 100 + (n + 399) / 400

/-- Days of the year before month `m`. -/
def daysToMonth (y m : Nat) : Nat := ((List.range (m - 1)).map (fun i => monthDays y (i + 1))).sum

/-- R313: a possible calendar. -/
def validCal (c : Calendar) : Bool :=
  2000 ≤ c.year && c.year ≤ 2399 && 1 ≤ c.month && c.month ≤ 12 && 1 ≤ c.day && c.day ≤ monthDays c.year c.month
    && c.hour ≤ 23 && c.minute ≤ 59 && c.second ≤ 59

/-- Seconds from 2000-01-01T00:00:00 to a possible calendar (R306, R312). -/
def calSeconds (c : Calendar) : Nat :=
  (daysToYear c.year + daysToMonth c.year c.month + (c.day - 1)) * 86400 + c.hour * 3600 + c.minute * 60 + c.second

/-- The month and day (both from 1) of a day of the year, counted from 0. -/
def splitMonth (y : Nat) : Nat → Nat → Nat → Nat × Nat
  | 0, m, d => (m, d + 1)
  | f + 1, m, d => if d < monthDays y m then (m, d + 1) else splitMonth y f (m + 1) (d - monthDays y m)

/-- The year of a day number: the last year that begins at or before it. -/
def yearOfDay (d : Nat) : Nat :=
  let y := 2000 + d * 400 / 146097
  if daysToYear (y + 1) ≤ d then y + 1 else if d < daysToYear y then y - 1 else y

/-- Seconds of 400 years from 2000: the converter's range (R312). -/
def calRange : Nat := 146097 * 86400

/-- The calendar of a count of seconds from 2000-01-01T00:00:00, weekday derived (R312). -/
def calOfSeconds (s : Nat) : Calendar :=
  let d := s / 86400
  let y := yearOfDay d
  let md := splitMonth y 12 1 (d - daysToYear y)
  { year := y, month := md.1, day := md.2, hour := s % 86400 / 3600, minute := s % 3600 / 60, second := s % 60,
    weekday := (d + 5) % 7 + 1 }

def encCal (c : Calendar) : Bytes :=
  le 2 c.year ++ [byte c.month, byte c.day, byte c.hour, byte c.minute, byte c.second, byte c.weekday]

def decCal (b : Bytes) : Calendar :=
  { year := fld b 0 2, month := fld b 2 1, day := fld b 3 1, hour := fld b 4 1, minute := fld b 5 1,
    second := fld b 6 1, weekday := fld b 7 1 }

/-- The day of the year counted as in a leap year: 29 February is 59 and 1 March is 60 (R326). -/
def fallbackDay (c : Calendar) : Nat := daysToMonth 2000 c.month + (c.day - 1)

/-- Ticks of the RTC in one second (R306). -/
def tickHz : Nat := 32768

/-- Division rounded to the nearest, halves away from zero (R311). -/
def roundDiv (a : Int) (b : Nat) : Int :=
  if 0 ≤ a then (2 * a + b) / (2 * b : Nat) else -((2 * (-a) + b) / (2 * b : Nat))

end Sys2Proof.Machine
end

