-- ==== Sys2Proof/Machine/State.lean ====
section
/-! DEFINITION. The state of the module as plain data: every register, queue, table, counter, mode and pin the
spec gives it, grouped by chapter, then the queue of waiting commands; the faults and refusals; the state at reset. -/

namespace Sys2Proof.Machine

/-! ## Pads -/

/-- What a pad of the module shows: high-Z, a level, a clock of a frequency in Hz, or the data of its interface. -/
inductive PinLevel where
  | highZ | low | high
  | clock (hz : Nat)
  | data
deriving DecidableEq, Repr, Inhabited

/-- The pads by name (Table 20.1). A port is 0 for A, 1 for B. -/
inductive Pad where
  | gnd | vcore | v33 | vbat | vioR | vioN | vioL
  | hspiSck | hspiCsN | hspiMosi | hspiMiso | hostIrqN | hostFlow | huartTx | huartRx
  | ethRefclk | ethMdc | ethMdio
  | ethTxd (port bit : Nat) | ethTxen (port : Nat) | ethRxd (port bit : Nat) | ethCrsdv (port : Nat)
  | dbgClk | dbgIo
  | radioSck (port : Nat) | radioCsN (port : Nat) | radioMosi (port : Nat) | radioMiso (port : Nat) | radioIrqN (port : Nat)
  | radioTs (port : Nat) | radioTxgo (port : Nat) | radioRstN (port : Nat)
  | ppsIn | ppsOut | gnssRx | gnssTx
  | twLeaseOut | twLeaseIn | twTxc | twTxd | twRxc | twRxd
  | modClk | mdat (n : Nat) | pulseIn (n : Nat) | pulseOut (n : Nat)
  | ld (n : Nat) | ldEn | ldFaultN
  | pmScl | pmSda | pmAlertN | pmPgood | resetN | recoveryN | pfailN | wake (n : Nat)
  | cont (n : Nat) | status | tamper (n : Nat) | tguardOut
deriving DecidableEq, Repr, Inhabited

/-! ## Command engine and transports (chapters 02, 03, 13) -/

/-- Why a begun command has not completed: what it waits for. -/
inductive Wait where
  /-- nothing: it has not begun, or it completes in the step that began it -/
  | none
  /-- the pending set of a settings block (R29) -/
  | commit (block : Nat)
  /-- its mesh transactions (R175) -/
  | mesh
  /-- the application of a span-time step (R100) -/
  | timeStep
  /-- the launch of the cycle-0 root beacon (R197) -/
  | spanStart
  /-- the end of the last cycle of the span (R198) -/
  | spanStop
  /-- the join of a lantern (R200) -/
  | join (lantern : Nat)
  /-- the LEAVE of a lantern being removed (R201) -/
  | leave (lantern : Nat)
  /-- a fetched capability descriptor (R202) -/
  | descriptor (lantern : Nat)
  /-- the launch of a flood (R205, R270) -/
  | flood
  /-- the evaluation that places or withdraws policies (R154, R155) -/
  | placement (policy : Nat)
  /-- closed meter seconds of a calibration (R365) -/
  | calibrate
  /-- the boundary at which a calibration's results take effect, with the reply then due (R365) -/
  | calibrated (reply : List (BitVec 8))
  /-- an erased sector of a firmware slot or of the image store (R483) -/
  | erase
  /-- the peer taking the lease (R120) -/
  | yield
  /-- the end of a commanded self-test run (R121) -/
  | selftest (run : Nat)
deriving DecidableEq, Repr, Inhabited

/-- Waits for the pending set of a settings block. -/
def Wait.onCommit (block : Nat) : Wait → Bool
  | .commit b => b == block
  | .calibrated _ => block == 6
  | _ => false

/-- How a command's dependency was bound at acceptance (R521). -/
inductive Dep where
  | none
  /-- the command then live, by its acceptance number -/
  | live (seq : Nat)
  /-- the final status, bound at acceptance or taken when the live command completed -/
  | status (code : Nat)
deriving DecidableEq, Repr, Inhabited

/-- A live command: accepted and not completed (R49, R72). -/
structure LiveCmd where
  /-- acceptance number, one order over all sessions (R520) -/
  seq : Nat
  sid : Nat
  tag : Nat
  opcode : Nat
  flags : Nat
  depTag : Nat
  role : Nat
  target : Nat
  params : Bytes
  transport : Transport
  /-- cost in credits, returned at completion (R51) -/
  credits : Nat
  acceptedAt : Nat
  acceptedCycle : Nat
  /-- elapsed instant at which the deadline passes (R79) -/
  deadline : Nat
  begun : Bool
  wait : Wait
  dep : Dep
  interimSent : Bool
  /-- MAC retries known to the module (R39, R525) -/
  retries : Nat
  /-- the journal entry is acknowledged, or none is needed (R380) -/
  journaled : Bool
  /-- the session has closed: the reply is discarded (R47) -/
  orphan : Bool
  /-- some of its frames were dropped by a later LAMP_SET (R77) -/
  coalesced : Bool
  /-- working values of a command that spans several events -/
  work : List Nat
deriving DecidableEq, Repr, Inhabited

/-- What remains of a command that completed with TIMEOUT: LATE_COMPLETION is still owed (R80). -/
structure LateRec where
  seq : Nat
  sid : Nat
  tag : Nat
  opcode : Nat
  acceptedCycle : Nat
  retries : Nat
  wait : Wait
  /-- its counters of outcomes, and whether frames of it were dropped by a later LAMP_SET (R77) -/
  work : List Nat
  coalesced : Bool
  /-- elapsed instant at which acknowledgements stop counting; none for an effect bound to a boundary, which has no such end -/
  until_ : Option Nat
deriving DecidableEq, Repr, Inhabited

/-- A queued outbound packet. -/
structure OutPkt where
  bytes : Bytes
  /-- occupies a slot reserved by an accepted command (R53) -/
  slot : Bool
  /-- the completed command's acceptance number, for what follows the reply's last byte (R92, R64) -/
  seq : Nat
deriving DecidableEq, Repr, Inhabited

/-- The Ethernet part of a session (R66 to R70). -/
structure EthChan where
  key : Bytes
  txCounter : Nat
  rxNext : Nat
  rxHighest : Nat
  /-- datagrams held above the next counter: counter, plain packet, elapsed instant of arrival (R69) -/
  held : List (Nat × Bytes × Nat)
  peer : Nat
  lastAuth : Nat
  firstData : Bool
deriving DecidableEq, Repr, Inhabited

/-- One session (R43 to R55). -/
structure Session where
  transport : Transport
  role : Nat
  /-- opened by the keyless procedure (R473) -/
  keylessProc : Bool
  /-- credits the host holds -/
  credits : Nat
  /-- credits returned and not yet reported in a packet (R55) -/
  owed : Nat
  /-- instant of the oldest owed credit -/
  owedSince : Nat
  /-- final status of each tag used (R50) -/
  statuses : List (Nat × Nat)
  replies : List OutPkt
  refusals : List OutPkt
  notices : List OutPkt
  creditViolations : Nat
  noticesLost : Nat
  /-- the reply queue is above its high watermark, since when, and whether R427's 10 s was recorded -/
  backlog : Bool
  backlogSince : Nat
  holdRecorded : Bool
  chan : Option EthChan
deriving DecidableEq, Repr, Inhabited

/-- The HSPI window (Tables 2.4 to 2.6). -/
structure Window where
  /-- words of the partly pushed inbound packet, in order -/
  inWords : List Word32
  /-- discarding after FRAME_ERR until ABORT_IN (R60) -/
  discarding : Bool
  frameErr : Bool
  overrun : Bool
  underrun : Bool
  irqMask : Nat
  /-- bits 5:1 of WIN_IRQ_CAUSE; bit 0 follows OUT_AVAIL -/
  causeSafe : Bool
  causeFrameErr : Bool
  causeOverrun : Bool
  causeUnderrun : Bool
  causeCredits : Bool
  /-- the packet at the head and the words already popped -/
  head : Option OutPkt
  popped : Nat
  /-- the last word popped (R60, R424) -/
  lastPop : Word32
deriving DecidableEq, Repr, Inhabited

/-- A packet in the inbound intake queue (R421, R422). -/
structure InEntry where
  transport : Transport
  /-- the session it arrived on, if one was open -/
  sid : Option Nat
  bytes : Bytes
deriving DecidableEq, Repr, Inhabited

/-- An outstanding SESSION_OPEN challenge of a transport (R98). -/
structure OpenChal where
  transport : Transport
  sid : Nat
  role : Nat
  nonce : Bytes
  issued : Nat
  /-- the role's key has been retired since phase 1 -/
  stale : Bool
deriving DecidableEq, Repr, Inhabited

/-- An outstanding DEBUG_UNLOCK or EVENT_CLEAR challenge (R113, R116). -/
structure SidChal where
  sid : Nat
  nonce : Bytes
  /-- the next index N of an EVENT_CLEAR phase 1 -/
  n : Nat
  issued : Nat
deriving DecidableEq, Repr, Inhabited

/-- An IP reassembly in progress (R65). -/
structure IpReasm where
  peer : Nat
  id : Nat
  started : Nat
  /-- fragments: offset and bytes -/
  parts : List (Nat × Bytes)
  /-- bytes of the datagram, once its last fragment has come -/
  total : Option Nat
deriving DecidableEq, Repr, Inhabited

/-- The command engine and its transports. -/
structure HostSide where
  /-- sessions 0 to 3 -/
  sessions : List (Option Session)
  win : Window
  intake : List InEntry
  /-- intake has accepted entries since reset: step 8 of Table 19.2 (R60, R426) -/
  intakeOpen : Bool
  inboundPeak : Nat
  /-- the intake queue is above its high watermark: HOST_FLOW (R425, R426) -/
  inboundHigh : Bool
  live : List LiveCmd
  late : List LateRec
  nextSeq : Nat
  /-- packets owed to transports with no session (R45): HSPI, HUART, DBG -/
  bare : List (Transport × OutPkt)
  bareDiscards : Nat
  /-- a packet of a transport without session is in the module -/
  bareBusy : List Transport
  huartBaud : Nat
  /-- pending rate change: code of the granting phase, and the instant it applies once the reply has gone (R64) -/
  baudNext : Option (Nat × Option Nat)
  huartDiscards : Nat
  chals : List OpenChal
  /-- one challenge per session of each kind -/
  debugChals : List SidChal
  clearChals : List SidChal
  /-- handshakes answered in the present second, and that second (R67) -/
  hsSecond : Nat
  hsCount : Nat
  ethDiscards : Nat
  reasm : List IpReasm
  /-- commanded or implied resets waiting for their replies' last bytes: type, source, sid, acceptance number (R92) -/
  resetWait : List (Nat × Nat × Nat × Nat)
  /-- the reset due 10 ms after the reply: instant, type, source, sid -/
  resetAt : Option (Nat × Nat × Nat × Nat)
deriving DecidableEq, Repr, Inhabited

/-! ## Settings (chapter 01) -/

/-- The pending set of a block (R27). -/
structure PendSet where
  block : Nat
  entries : List (Nat × Nat)
  /-- how many entries the set held when taken: the count of Table 3.8 -/
  count : Nat
deriving DecidableEq, Repr, Inhabited

/-- Live values, shadows and pending sets. A setting with no entry holds its Reset value (R32). -/
structure SettingsSt where
  live : List (Nat × Nat)
  /-- shadows that differ from their live value, or whose live value a pending set will change (R26) -/
  shadow : List (Nat × Nat)
  pend : List PendSet
deriving DecidableEq, Repr, Inhabited

/-! ## Fault collection and event recorder (chapter 14) -/

/-- One event record with its index (Table 14.4, R448). -/
structure EventRec where
  index : Nat
  time : Nat
  code : Nat
  source : Nat
  severity : Nat
  suppressed : Nat
  cycle : Nat
  payload : Bytes
deriving DecidableEq, Repr, Inhabited

/-- A pending UC entry (R434). -/
structure UcEntry where
  source : Nat
  merged : Nat
  deadline : Nat
  cycle : Nat
  /-- order of addition, for equal deadlines (FAULT_STATUS) -/
  order : Nat
  /-- what the faults of the entry damaged, for the containment (Table 14.1) -/
  infos : List Bytes
deriving DecidableEq, Repr, Inhabited

/-- A code's token bucket (R447). -/
structure Bucket where
  burst : Nat
  /-- refill interval, ms -/
  refill : Nat
  tokens : Nat
  /-- instant of the last refill -/
  since : Nat
  suppressed : Nat
deriving DecidableEq, Repr, Inhabited

/-- A scheduled injection (R118). -/
structure Injection where
  source : Nat
  cls : Nat
  at_ : Nat
deriving DecidableEq, Repr, Inhabited

/-- A core's hardware watchdog (R440). -/
structure Watchdog where
  /-- time left, ns; counts only while its core executes -/
  left : Nat
deriving DecidableEq, Repr, Inhabited

/-- The parapet and the event recorder. -/
structure Parapet where
  ceCount : Nat
  ucCount : Nat
  pending : List UcEntry
  ucOrder : Nat
  injections : List Injection
  /-- APP0, APP1, MAC, SECURITY -/
  watchdogs : List Watchdog
  safe : Bool
  safeSince : Nat
  /-- an FT that came while the DECK was stopped: safe state follows the exit (Table 12.11): code, source, record index -/
  safeOwed : Option (Nat × Nat × Nat)
  /-- instants of automatic restarts, by elapsed crystal time, in the vault (R443) -/
  restarts : List Nat
  /-- the volatile buffer's unstaged records, the staged records not yet in flash, the flash ring (R448) -/
  volatileBuf : List EventRec
  staged : List EventRec
  flashRing : List EventRec
  /-- index the next record takes -/
  nextIndex : Nat
  /-- the MRAM next-index word -/
  mramNext : Nat
  /-- the staged records not yet in flash by the instant at which each batch was staged, oldest first: instant and count (R450) -/
  stagedAt : List (Nat × Nat)
  /-- indices dropped since the buffers filled (R450) -/
  dropped : Nat
  buckets : List (Nat × Bucket)
  /-- rate limits set by EVENT_RATE_SET for every code: burst, refill ms (R117) -/
  defaultBurst : Nat
  defaultRefill : Nat
  /-- flash sectors of an old log still to erase (R452) -/
  erasing : Bool
deriving DecidableEq, Repr, Inhabited

/-! ## Trestle medium access and air protocol (chapters 05, 06) -/

/-- Join state of an admitted lantern (R179). -/
inductive LanState where
  | expected | joined | lost
deriving DecidableEq, Repr, Inhabited

/-- Where a mesh transaction stands. -/
inductive TxnSt where
  /-- waiting for a cell, held (R183) or waiting for an entry (R175); the MAC has not taken it -/
  | queued
  /-- the MAC has taken it: attempts are being made -/
  | taken
  /-- acknowledged on the first hop, or out of attempts; the RESPONSE is awaited -/
  | awaiting
deriving DecidableEq, Repr, Inhabited

/-- A mesh transaction: one message to one lantern (R175). -/
structure Txn where
  id : Nat
  /-- acceptance number of its command; none for the module's own messages -/
  owner : Option Nat
  lantern : Nat
  type : Nat
  confirmed : Bool
  payload : Bytes
  /-- of a SCENE_STORE, the version of the scene it carries (R260) -/
  version : Nat
  /-- downlink sequence (R226), given when the message is created -/
  seq : Nat
  /-- elapsed instant and ASN of the expiry (R176, Table 6.7) -/
  expiry : Nat
  expiryAsn : Nat
  st : TxnSt
  /-- intermediate nodes of its route, fixed when the MAC takes it (R184, R190) -/
  route : List Nat
  /-- next link fragment to send (R191) -/
  frag : Nat
  attempts : Nat
  retries : Nat
  /-- the retries that the header on the air tells of -/
  told : Nat
deriving DecidableEq, Repr, Inhabited

/-- A lantern table entry (R15, R16, R179 to R183, Table 5.13). -/
structure Lantern where
  eui : Nat
  groups : Nat
  lat : Int
  lon : Int
  state : LanState
  silent : Bool
  adrift : Bool
  routeless : Bool
  parent : Nat
  depth : Nat
  /-- 0 A, 1 B, 0xFF when not first hop -/
  port : Nat
  rank : Nat
  drift : Nat
  /-- span time in ns and cycle of the last contact -/
  contactNs : Nat
  contactCycle : Nat
  pdr : Nat
  h : Nat
  joinCycle : Nat
  /-- last capability descriptor (Table 6.10) -/
  descriptor : Option Bytes
  /-- listens on its rendezvous channel since it became ADRIFT, and the cycle after that of the last (R182) -/
  listens : Nat
  listenCycle : Nat
  /-- consecutive cycles in which the other root port's ratio has exceeded its own by ROUTE_HYST_PDR (R168) -/
  portRun : Nat
  routelessCycles : Nat
  /-- consecutive missed beacons, and the cycle of the last (R184) -/
  misses : Nat
  missCycle : Nat
  /-- last downlink sequence given (R226) -/
  downSeq : Nat
  /-- highest uplink sequence and its 64-bit record (R226) -/
  upHigh : Option Nat
  upRecord : Nat
  /-- the join response already built for its last request (R223) -/
  joinResp : Option Bytes
  /-- last lamp report: payload and the cycle it came (R274) -/
  report : Option (Bytes × Nat)
  /-- fragments it holds: policy, version -/
  inventory : List (Nat × Nat)
  /-- calibration record last sent (R271), and scene versions it holds (R260) -/
  calibration : Option Bytes
  scenes : List (Nat × Nat)
deriving DecidableEq, Repr, Inhabited

/-- A link entry of the topology (R189, R204). -/
structure Link where
  lantern : Nat
  neighbour : Nat
  pdr : Nat
  h : Nat
  history : Nat
  rssi : Int
  parent : Bool
  guard : Nat
deriving DecidableEq, Repr, Inhabited

/-- What an assigned cell carries. -/
inductive AsgKind where
  | down | up | beacon
deriving DecidableEq, Repr, Inhabited

/-- An attempt on the air waiting for its ACK (R176). -/
structure Attempt where
  port : Nat
  txn : Nat
  seqNo : Nat
  shared : Bool
  /-- absolute slot of the standby's echo of the frame, and no ACK came for the holder's own (R381) -/
  echo : Option Nat
  noAck : Bool
deriving DecidableEq, Repr, Inhabited

/-- A flood waiting for a FLOOD cell (R187). -/
structure Flood where
  /-- its number in the series of the transactions, with which it shares their table (R175) -/
  id : Nat
  owner : Option Nat
  type : Nat
  group : Nat
  ttl : Nat
  payload : Bytes
  /-- first ASN it may be originated in, and for a scene launch the copies still to follow and the apply time in ns (R261) -/
  notBefore : Nat
  repeats : Nat
  applyNs : Nat
deriving DecidableEq, Repr, Inhabited

/-- A mesh message received, verified and reassembled, before its meaning is applied. -/
structure InMsg where
  type : Nat
  origin : Nat
  /-- the hop it came from -/
  src : Nat
  confirmed : Bool
  /-- its sequence and its retries; of a beacon, type 0, the PAN ID and the channel it came on -/
  seq : Nat
  retries : Nat
  payload : Bytes
  /-- span time in ns of its end of SFD -/
  at_ : Nat
  port : Nat
deriving DecidableEq, Repr, Inhabited

/-- A link-fragment reassembly (R213). -/
structure MeshReasm where
  src : Nat
  last : Nat
  parts : List (Nat × Bytes)
  /-- cycle of the first fragment -/
  since : Nat
deriving DecidableEq, Repr, Inhabited

/-- A frame on the air, as it left the module (output). -/
structure AirFrame where
  port : Nat
  channel : Nat
  asn : Nat
  psdu : Bytes
deriving DecidableEq, Repr, Inhabited

/-- A receive window (R180, Table 5.1 step 4): its cell, the expected end of SFD in ns of span time, the guard about it in ns. -/
structure RxWindow where
  asn : Nat
  kind : CellKind
  expected : Nat
  guard : Nat
deriving DecidableEq, Repr, Inhabited

/-- A frame fetched and not yet filtered: the kind of the cell it came in, the deviation of its end of SFD in ns from the instant
expected, and that end of SFD in ns of span time (R193). -/
structure RxFrame where
  port : Nat
  psdu : Bytes
  deviation : Int
  at_ : Nat
  kind : CellKind
deriving DecidableEq, Repr, Inhabited

/-- One radio port's condition (R196). -/
structure Port where
  profile : Option Bytes
  failed : Bool
  /-- instants of its resets, latest first -/
  resets : List Nat
  /-- failed attempts in SHARED cells since the last success: BE is MAC_BE_MIN and as many more, up to MAC_BE_MAX (R177) -/
  be : Nat
  /-- SHARED cells still to wait -/
  backoff : Nat
  /-- channel last set, capture bytes of the last sequence -/
  channel : Nat
  capture : Bytes
  /-- `xx_CS_N` is low (Table 5.8) -/
  csLow : Bool
  /-- the receive window while the transceiver receives -/
  window : Option RxWindow
  /-- span time in ns of the end of SFD of its last transmission, by `xx_TS` (R193) -/
  sentAt : Option Nat
  /-- absolute slot of the standby's echo of the frame last sent, which the port keeps free (R166) -/
  echoAt : Option Nat
  /-- the absolute slot that follows the last cell run on the port (R163) -/
  ranTo : Nat
deriving DecidableEq, Repr, Inhabited

/-- What a radio port does on its lines (Table 5.8). Instants are ns: of span time for `xx_TXGO`, elapsed for `xx_RST_N`. -/
inductive RadioLine where
  /-- `xx_CS_N` goes low, or high -/
  | select (low : Bool)
  /-- bytes on `xx_MOSI`, and the time of one bit in ns -/
  | shift (bytes : Bytes) (bit : Nat)
  /-- `xx_TXGO` high from an instant to another -/
  | txGo (rise fall : Nat)
  /-- `xx_RST_N` low from an instant to another, and the instant at which INIT follows (Table 5.9) -/
  | reset (fall rise init : Nat)
deriving DecidableEq, Repr, Inhabited

/-- A cell the MAC has assigned (R165): on the link of a lantern with its parent, down or up, or the lantern's BEACON cell. -/
structure CellAsg where
  lantern : Nat
  kind : AsgKind
  /-- the root port of a first-hop lantern; 0xFF on a link between lanterns -/
  port : Nat
  slot : Nat
  offset : Nat
  /-- in cycles, with the phase in which it falls (SCHEDULE, Table 6.8) -/
  period : Nat
  phase : Nat
deriving DecidableEq, Repr, Inhabited

/-- A candidate parent of an annexed module, from a beacon heard (R185, R189, R222): its sender, rank, depth and PAN, whether it
carried JOIN_OPEN, the channel offset of its beacon, the ratio of the link in percent, and the instant of span time at which its
slot numbers begin. -/
structure AnnexCand where
  src : Nat
  rank : Nat
  depth : Nat
  pan : Nat
  open_ : Bool
  offset : Nat
  pdr : Nat
  base : Nat
deriving DecidableEq, Repr, Inhabited

/-- A child of an annexed module in the parent span (R180 to R182, R210): its short address, the span time in ns of its last contact,
its drift class, listens on its rendezvous channel since it became ADRIFT and the cycle of the last. -/
structure AnnexChild where
  short : Nat
  contact : Nat
  drift : Nat
  listens : Nat
  listenCycle : Nat
deriving DecidableEq, Repr, Inhabited

/-- A message of an annexed module on its way into the parent span (R176, R225). -/
structure AnnexTx where
  id : Nat
  /-- next hop, and the message with its mesh header -/
  dst : Nat
  message : Bytes
  /-- ASN of its expiry, and the first in which it may go -/
  expiry : Nat
  notBefore : Nat
  frag : Nat
  attempts : Nat
  retries : Nat
  /-- sent in RENDEZVOUS cells alone: RESYNC (R230) -/
  resync : Bool
deriving DecidableEq, Repr, Inhabited

/-- What an annexed module holds once a join response has been installed (Table 6.5, R214 to R220). -/
structure AnnexNet where
  short : Nat
  epoch : Nat
  rootEui : Nat
  groups : Nat
  windowPhase : Nat
  floodSeq : Nat
  /-- network keys by phase, the phase in use, a KEY_UPDATE received: phase and activation ASN, and the ASN that ends the old key -/
  keys : List (Nat × Bytes)
  phase : Nat
  keyUpdate : Option (Nat × Nat)
  oldKeyUntil : Option Nat
  /-- highest downlink sequence, its 64-bit record, and the RESPONSE payloads sent for sequences still in it (R226, R228) -/
  high : Nat
  record : Nat
  responses : List (Nat × Bytes)
  /-- the schedule held: version, retry limit, BE limits, 8-byte cells; and one to take effect at an ASN (Table 6.8) -/
  conf : Nat
  retries : Nat
  beMin : Nat
  beMax : Nat
  cells : List Bytes
  nextSchedule : Option (Nat × Bytes)
  /-- the head it is a member of, and the node on the way there, 0xFFFF for none (PIER_CONFIG, Table 6.8) -/
  head : Option (Nat × Nat)
  /-- the parent's beacon received last: ASN, correction, its end of SFD in ns, HOLDOVER and JOIN_OPEN (R219, R220) -/
  beacon : Option (Nat × Int × Nat × Bool × Bool)
  /-- LEAVE was received: the node leaves once its RESPONSE has (Table 6.8) -/
  leaving : Bool
deriving DecidableEq, Repr, Inhabited

/-- An annexed module as a lantern of its parent span (R185, R210 to R241). -/
structure AnnexSt where
  /-- the parent chosen, and whether the join has completed -/
  parent : Option AnnexCand
  net : Option AnnexNet
  misses : Nat
  scanning : Bool
  /-- channel index under scan -/
  scanAt : Nat
  /-- second of span time of the first JOIN_OPEN beacon of the scan (R222), and the candidates heard in it -/
  joinFrom : Option Nat
  candidates : List AnnexCand
  /-- join requests sent to the parent, seconds of span time of the last, and the slot drawn for the next (R222, R223) -/
  requests : Nat
  requestAt : Nat
  requestSlot : Option Nat
  /-- PANs avoided, to an elapsed instant (R223) -/
  avoid : List (Nat × Nat)
  /-- frames waiting for slots 98 and 99: own join requests, and response frames carried back as a proxy (R224) -/
  joinTx : List Bytes
  /-- join requests relayed in the present cycle (R224) -/
  relayed : Nat
  /-- own frame counters by key index, 0 the join key (R216) -/
  counters : List (Nat × Nat)
  /-- SHA-256 of the network key under which a counter has been used, by key index (R216) -/
  counterKeys : List (Nat × Bytes)
  /-- highest counters accepted by key and source (R216) -/
  rxCounters : List (Nat × Nat)
  /-- span time in ns of the last contact with the parent, its children, and those whose beacons were heard in the present cycle
  (R180, R210, R230) -/
  contactAt : Nat
  children : List AnnexChild
  heard : List Nat
  upSeq : Nat
  tx : List AnnexTx
  nextTx : Nat
  /-- the attempt on the air: message, sequence number, whether in a SHARED cell -/
  attempt : Option (Nat × Nat × Bool)
  /-- an attempt to the parent went unacknowledged, and none has been acknowledged since (R230) -/
  lostContact : Bool
  reasm : List MeshReasm
  /-- messages relayed: origin, destination, sequence, second (R225); floods seen: sequence, second (R188) -/
  forwarded : List (Nat × Nat × Nat × Nat)
  seen : List (Nat × Nat)
  /-- floods to rebroadcast: FLOOD cells still to pass, frame (R187) -/
  relays : List (Nat × Bytes)
deriving DecidableEq, Repr, Inhabited

/-- Trestle MAC and its tables. -/
structure MacSt where
  region : Option Bytes
  portA : Port
  portB : Port
  running : Bool
  cycle : Nat
  /-- span time of the start of cycle 0 -/
  epoch : Nat
  /-- a start is scheduled at this whole second; the root beacon of cycle 0 not yet launched -/
  startAt : Option Nat
  launched : Bool
  /-- the span ends at the end of this cycle (R198, R296) -/
  stopping : Bool
  /-- SPAN_STOP while a contactor is closed (R199) -/
  heldStopped : Bool
  /-- a contactor has closed while the span was stopping: it starts again after its end (R199) -/
  startAgain : Bool
  /-- elapsed instant since which both contactors are open -/
  openSince : Option Nat
  lanterns : List (Nat × Lantern)
  links : List Link
  /-- the persistent copy of the lantern table and the topology: written every 900 cycles and at SPAN_STOP (Table 4.9) -/
  saved : List (Nat × Lantern)
  savedLinks : List Link
  /-- downward routes: lantern, intermediate short addresses (R190) -/
  routes : List (Nat × List Nat)
  topoChanged : Bool
  /-- assigned cells (R165) -/
  cells : List CellAsg
  txns : List Txn
  nextTxn : Nat
  attempts : List Attempt
  macSeq : Nat
  floods : List Flood
  floodSeq : Nat
  /-- floods originated under the present network key (R217) -/
  floodsUsed : Nat
  /-- the root EUI-64 given to the nodes (Table 6.5, R215); none before the module has begun a span -/
  rootEui : Option Nat
  /-- seen cache: origin, sequence, cycle of entry, oldest first (R188) -/
  seen : List (Nat × Nat × Nat)
  /-- own transmissions: channel, instant of end (ms), duration (us) (R171) -/
  onAir : List (Nat × Nat × Nat)
  suppressedCh : List Nat
  suppressedSb : List Nat
  /-- frames fetched and not yet filtered -/
  rx : List RxFrame
  reasm : List MeshReasm
  inbox : List InMsg
  /-- messages relayed: origin, destination, sequence, cycle (R225) -/
  forwarded : List (Nat × Nat × Nat × Nat)
  /-- join response frames waiting for slots 98 and 99: lantern, port, PSDU (Table 6.6) -/
  joinTx : List (Nat × Nat × Bytes)
  /-- floods heard that are to be rebroadcast: FLOOD cells still to pass, frame (R187) -/
  relays : List (Nat × Bytes)
  filterDrops : Nat
  securityDrops : Nat
  /-- network keys by phase, the phase in use, own frame counters by key index (0 the join key) -/
  netKeys : List (Nat × Bytes)
  phase : Nat
  counters : List (Nat × Nat)
  /-- highest counters accepted: 65,536 x key index + source, join requests by EUI-64 beyond 2^32 -/
  rxCounters : List (Nat × Nat)
  /-- a KEY_UPDATE sent: new phase and activation ASN (R217) -/
  keyUpdate : Option (Nat × Nat)
  oldKeyUntil : Option Nat
  confVersion : Nat
  windowPhase : Nat
  /-- beaconing nodes heard in the present cycle -/
  heard : List Nat
  holderMisses : Nat
  /-- the last root beacon heard from the holder did not carry HOLDOVER: it is LOCKED (R219, R287) -/
  holderLocked : Bool
  /-- lantern index served last in the RENDEZVOUS window, and the cycle after that of the window (R182) -/
  rendezvous : Nat
  rendezvousCycle : Nat
  annex : AnnexSt
deriving DecidableEq, Repr, Inhabited

/-! ## Placement (chapter 04) -/

/-- A loaded policy: its record (Table 4.1), version, pin. -/
structure Policy where
  record : Bytes
  version : Nat
  /-- 0 none, else the pinned tier -/
  pin : Nat
  /-- span time in ns of acceptance -/
  acceptedNs : Nat
  /-- targets no tier takes (R130) -/
  unplaced : List Nat
  /-- last instant up to which its time triggers have been considered (R126): span time in ns for TIME_ABS, in ms for PERIODIC,
  UTC in ms for the others -/
  considered : Nat
  /-- METER_CONDITION: consecutive closed seconds on the stated side, and fired since (R340) -/
  meterRun : Nat
  meterFired : Bool
deriving DecidableEq, Repr, Inhabited

/-- A fragment (R128). Its tier and state are the codes of Tables 4.12 and 4.14. -/
structure Fragment where
  policy : Nat
  tier : Nat
  site : Nat
  state : Nat
  unmet : Bool
  version : Nat
  moveCycle : Nat
  /-- elapsed instant of its last move or first placement (R142) -/
  movedAt : Nat
  targets : List Nat
  /-- CRC-32C of the content the site last confirmed (R128) -/
  confirmed : Option Nat
  /-- transaction pushing it, and the CRC-32C of what it pushes -/
  push : Option Nat
  content : Nat
  /-- withdraw when the route returns (R143) -/
  owed : Bool
  /-- UTC day of its last day table (R146) -/
  tableDay : Nat
deriving DecidableEq, Repr, Inhabited

/-- A bridge entry or a forward on a pier head (R131, R148): it occupies a pier slot there. -/
structure HeadEntry where
  /-- 3 BRIDGE, 4 FORWARD (Table 6.14) -/
  kind : Nat
  /-- what it serves: a policy ID, or 2^32 plus the number of a subscription -/
  key : Nat
  /-- the head a bridge forwards to; 0xFFFF, the module, for a forward -/
  dest : Nat
  /-- policy ID and version it was last sent under -/
  policy : Nat
  version : Nat
  /-- CRC-32C of the content the head last confirmed, transaction pushing it, CRC-32C of what that pushes (R128) -/
  confirmed : Option Nat
  push : Option Nat
  content : Nat
  /-- no longer wanted: to be withdrawn -/
  gone : Bool
  /-- UTC day of its last day table (R146) -/
  tableDay : Nat
deriving DecidableEq, Repr, Inhabited

/-- A pier (R139): its number is its head's lantern index. -/
structure Pier where
  head : Nat
  members : List Nat
  formed : Nat
  /-- bridge entries and forwards on the head -/
  entries : List HeadEntry
deriving DecidableEq, Repr, Inhabited

/-- A sensor subscription (R160). -/
structure Subscription where
  number : Nat
  target : Nat
  sensor : Nat
  interval : Nat
  until_ : Option Nat
  /-- lantern and instant of its last notice -/
  last : List (Nat × Nat)
  /-- made by the truss for a VIADUCT policy -/
  policy : Option Nat
deriving DecidableEq, Repr, Inhabited

/-- A contactor decision of the present cycle (R137). -/
structure ContDecision where
  contactor : Nat
  rank : Nat
  close : Bool
  /-- whole second of span time at which its cycle begins -/
  cycle : Nat
deriving DecidableEq, Repr, Inhabited

structure TrussSt where
  policies : List (Nat × Policy)
  fragments : List Fragment
  piers : List Pier
  /-- kept triggers: lantern, policy, site (R141, R145) -/
  kept : List (Nat × Nat × Nat)
  /-- end of a hold: elapsed instant and cycle (R145, R159) -/
  hold : Option (Nat × Nat)
  /-- an evaluation is due at the next cycle start (R141) -/
  evalDue : Bool
  /-- that cycle has started -/
  evalNow : Bool
  /-- SILENT pier heads: lantern, elapsed instant -/
  silentSince : List (Nat × Nat)
  subs : List Subscription
  decisions : List ContDecision
  /-- last reading per lantern and sensor type: key 32 x lantern + type -/
  readings : List (Nat × Int)
  /-- the persistent copies of the fragment map and the pier map: written at each evaluation that changed them (Table 4.9) -/
  savedFragments : List Fragment
  savedPiers : List Pier
  /-- the sides of their budgets on which the estimates lay at the last evaluation: policy, pier or 0xFFFF for SPAN, met (Table 4.8) -/
  sides : List (Nat × Nat × Bool)
  /-- what lanterns have confirmed: PIER_CONFIG payload by lantern, SENSOR_WATCH payloads of watches they hold (Table 6.8) -/
  configs : List (Nat × Bytes)
  watches : List (Nat × Bytes)
  /-- CLAIM payloads with END still owed: lantern, payload (R134) -/
  ends : List (Nat × Bytes)
deriving DecidableEq, Repr, Inhabited

/-! ## Lamp engine (chapter 07) -/

/-- A calibration entry (Table 7.3). -/
structure CalEntry where
  role : Nat
  bin : Nat
  x : Nat
  y : Nat
  flux : Nat
deriving DecidableEq, Repr, Inhabited

/-- A fade (R251, R252): t0 is an elapsed instant; step is the last step set. -/
structure Fade where
  start : Nat
  target : Nat
  steps : Nat
  t0 : Nat
  curve : Nat
  step : Nat
deriving DecidableEq, Repr, Inhabited

/-- A colour point: CCT in 10^-6 K and Duv in 10^-10 (R254), fine enough for a fade's intermediate points; CCT 0 for none. -/
structure ColPt where
  cct : Nat
  duv : Int
deriving DecidableEq, Repr, Inhabited

/-- A colour set of a local group (R253, R256): the point held, and the point fade in progress. -/
structure ColSet where
  point : ColPt
  target : ColPt
  /-- elapsed start, steps and step of the point's fade -/
  t0 : Nat
  steps : Nat
  step : Nat
  manual : Bool
deriving DecidableEq, Repr, Inhabited

/-- One level change: what LAMP_SET, a scene entry or a claim asks of an output. -/
structure Change where
  level : Nat
  fade : Nat
  curve : Nat
  cct : Nat
  duv : Int
deriving DecidableEq, Repr, Inhabited

/-- A claim on a local output (R134). -/
structure Claim where
  policy : Nat
  /-- rank by priority, then specificity, then policy ID (R135) -/
  rank : Nat
  action : Nat
  change : Change
  /-- end of HOLD_RELEASE, elapsed -/
  until_ : Option Nat
deriving DecidableEq, Repr, Inhabited

/-- A local output LDn. -/
structure LampCh where
  /-- level commanded to the output or its set; the duty follows from it -/
  level : Nat
  duty : Nat
  fade : Option Fade
  cal : Option CalEntry
  claims : List Claim
  /-- its level was set directly, and no claim has started or ended on it since (R136) -/
  direct : Bool
  /-- a calibration entry that applies at the next period start (R271) -/
  calNext : Option CalEntry
  /-- pending AT_TIME change: apply instant in ns of span time, the change, the outputs its command names (R258) -/
  timed : Option (Nat × Change × List Nat)
  /-- period number and its start's error against the grid, in ns (R248) -/
  period : Nat
  error : Int
  /-- elapsed start of the period in progress, its length in ticks of 25 ns, and the ticks at which its sub-pulses begin and end
  (R245, R246, R248) -/
  periodAt : Nat
  ticks : Nat
  pulses : List (Nat × Nat)
deriving DecidableEq, Repr, Inhabited

/-- A scene (R260): its entries are the 16-byte entries of Table 7.6. -/
structure Scene where
  version : Nat
  entries : List Bytes
deriving DecidableEq, Repr, Inhabited

/-- A pending launch (R261): apply instant in ns of span time. -/
structure Launch where
  id : Nat
  scene : Nat
  applyNs : Nat
  repeats : Nat
deriving DecidableEq, Repr, Inhabited

structure LampSt where
  chans : List LampCh
  groups : List ColSet
  scenes : List (Nat × Scene)
  /-- the last version given to a scene; none is given twice (R260) -/
  sceneVersion : Nat
  launches : List Launch
  nextLaunch : Nat
  catchUp : Bool
  ldEn : Bool
  /-- elapsed instant of the last rise of LD_EN (R266) -/
  ldEnAt : Nat
  faultLow : Bool
  fallAt : Nat
  fallSpan : Nat
  fallMap : Nat
  /-- LD_FAULT has been recorded for the present low time, and when (R266) -/
  filtered : Bool
  filteredAt : Nat
  latched : Bool
  stuck : Bool
  shutdowns : List Nat
  retryAt : Option Nat
  phaseUnlocked : Bool
  /-- PHASE_EPOCH is to be flooded after a commit (R249) -/
  epochDue : Bool
deriving DecidableEq, Repr, Inhabited

/-! ## Span time (chapter 08) -/

/-- The states of span time (R289). -/
inductive TimeState where
  | free | locked | holdover
deriving DecidableEq, Repr, Inhabited

/-- What the module keeps of one time source (Table 8.2, R288). -/
structure Source where
  qualified : Bool
  /-- consecutive good measurements, edges or beacons towards qualification -/
  count : Nat
  /-- elapsed instant at which it qualified -/
  since : Nat
  /-- elapsed instant of its last Sync, edge or beacon -/
  last : Nat
deriving DecidableEq, Repr, Inhabited

/-- A step fixed and waiting for its cycle boundary (R100, R296). -/
structure PendStep where
  x : Int
  /-- cause of Table 8.7 -/
  cause : Nat
  /-- 2 at the start of the next cycle, 3 with a span restart -/
  application : Nat
  /-- acceptance number of its TIME_STEP, if a command made it -/
  seq : Option Nat
deriving DecidableEq, Repr, Inhabited

/-- A slew in progress (R297): its rate in units of A, and the span time at which it ends. -/
structure Slew where
  addend : Int
  until_ : Nat
deriving DecidableEq, Repr, Inhabited

/-- An Announce data set as the best master clock algorithm compares it (R283, IEEE 1588 clause 9.3). -/
structure Announce where
  sourcePort : Nat
  priority1 : Nat
  clockClass : Nat
  accuracy : Nat
  variance : Nat
  priority2 : Nat
  grandmaster : Nat
  steps : Nat
  utcOffset : Int
  utcValid : Bool
  leap59 : Bool
  leap61 : Bool
  /-- announce interval, ns -/
  interval : Nat
deriving DecidableEq, Repr, Inhabited

/-- The PTP slave port (R283). -/
structure PtpSt where
  /-- the Announce data sets received last from each master, with the elapsed instants of its last two (R283) -/
  foreign : List (Announce × Nat × Option Nat)
  parent : Option Announce
  /-- RMII port of the parent's last Sync -/
  port : Nat
  lastAnnounce : Nat
  /-- sync interval of the parent, ns -/
  syncInterval : Nat
  lastSync : Nat
  /-- a two-step Sync waiting for its Follow_Up: sequence, ingress time in ns, correction -/
  twoStep : Option (Nat × Int × Int)
  meanDelay : Option Int
  /-- t2 - t1 of the last Sync, ns -/
  lastT21 : Option Int
  /-- a Delay_Req sent: sequence and egress time, ns -/
  delayReq : Option (Nat × Int)
  delaySeq : Nat
  delayInterval : Nat
  delayDue : Nat
deriving DecidableEq, Repr, Inhabited

/-- GNSS sentences and edges (R284, R285). -/
structure GnssSt where
  /-- last RMC: status A, and when -/
  rmcValid : Bool
  rmcAt : Nat
  lastLabel : Nat
  /-- last PPS edge: elapsed instant and corrected span time in ns -/
  edgeAt : Nat
  edgeSpan : Int
  edgeSeen : Bool
  /-- the second that began at that edge has its label -/
  labelled : Bool
  /-- a label for the second that begins at the next edge, UTC seconds since 1970, and whether it names second 60 (TIME_GNSS_LABEL 1) -/
  nextLabel : Option (Nat × Bool)
deriving DecidableEq, Repr, Inhabited

/-- The time unit. -/
structure TimeUnit where
  /-- span time in units of 2^-32 ns (R277) -/
  spanT : Nat
  /-- the servo's signed rate addend A (R278) -/
  rate : Int
  state : TimeState
  everLocked : Bool
  /-- selected source code, 0 none (Table 3.11) -/
  selected : Nat
  /-- the list of TIME_SOURCE_SET (R101) -/
  list : List Nat
  /-- sources 1 to 5 -/
  sources : List Source
  goodRun : Nat
  badRun : Nat
  /-- TIME_JUMP_REFUSED with the latest refused offset and its source (R292) -/
  refused : Bool
  refusedX : Int
  refusedSrc : Nat
  /-- TIME_AUTO_ACCEPT run, latest first (R293) -/
  autoRun : List Int
  /-- the addends since LOCKED, each with the elapsed instant from which it stood, latest first (R291) -/
  lockHist : List (Int × Nat)
  slew : Option Slew
  pendSteps : List PendStep
  /-- the last whole second acted on (R304) -/
  lastWhole : Nat
  ptp : PtpSt
  gnss : GnssSt
  /-- the midnight, UTC seconds since 1970, before which the last leap second was inserted (R284, R304) -/
  leapAt : Option Nat
  /-- `PPS_OUT` rose at the last whole second, and the elapsed instant of its last rise (R286) -/
  ppsOut : Bool
  ppsAt : Nat
deriving DecidableEq, Repr, Inhabited

/-! ## RTC, vault and fallback sequencer (chapter 09) -/

/-- An alarm (R102, R315). -/
structure Alarm where
  enable : Bool
  catchup : Bool
  rearm : Bool
  mask : Nat
  cal : Calendar
  /-- a single alarm that has fired (R317) -/
  fired : Bool
  /-- a backward step lets it fire again, REARMED (R319) -/
  again : Bool
  /-- the latch of a match in BACKUP, with its instant in seconds (R318) -/
  latched : Option Nat
  /-- the first second it may match: the one after that in which it was set (R315) -/
  notBefore : Nat
deriving DecidableEq, Repr, Inhabited

/-- The tick counter and calendar of the abutment. -/
structure Rtc where
  ticks : Nat
  /-- elapsed ns not yet counted as a crystal cycle, times 32768 (R307) -/
  phase : Nat
  /-- crystal cycles towards the next trim accumulation -/
  cycles : Nat
  trimAcc : Int
  /-- RTC_TRIM in the vault, 0.1 ppm -/
  trim : Int
  /-- temperature compensation, 0.1 ppm (R307) -/
  tempComp : Int
  lastTemp : Nat
  valid : Bool
  /-- TAI - UTC in use (R309) -/
  u : Int
  alarms : List Alarm
  /-- last second compared, so an alarm matches at most once per second (R315) -/
  lastSecond : Nat
  /-- ticks of the trim (R307) and correction ticks (R310) still to insert (positive) or withhold (negative) -/
  trimTicks : Int
  correction : Int
  /-- whole seconds spent LOCKED without a step, and the rate observed (R310) -/
  learnFor : Nat
  learnStart : Nat
  learnTicks : Nat
  learnCorr : Int
  /-- local-time table: standard offset, transitions (UTC seconds, offset), SHORT recorded (R104, R321) -/
  stdOffset : Int
  transitions : List (Nat × Int)
  shortRecorded : Bool
deriving DecidableEq, Repr, Inhabited

/-- The agent that holds contactor control (R324). -/
inductive Agent where
  | sequencer | firmware
deriving DecidableEq, Repr, Inhabited

/-- The fallback sequencer and the contactors. -/
structure Fallback where
  /-- the parameter block of the last load, as ABUT SRAM, vault and settings store hold it (R325) -/
  tableSram : Option Bytes
  tableVault : Option Bytes
  tableStore : Option Bytes
  cont : List Bool
  agent : Agent
  /-- elapsed instant at which the keepalive expires; none while suspended (R324, R407) -/
  keepalive : Option Nat
  keepaliveLeft : Nat
  /-- last minute of fixed local time evaluated (R328) -/
  lastMinute : Option Nat
  /-- V33 lost: BACKUP (R322) -/
  backup : Bool
deriving DecidableEq, Repr, Inhabited

/-! ## Feeder meter (chapter 10) -/

/-- The quantities of one phase in a closed meter second, in the units of Table 10.3. -/
structure PhaseQ where
  p : Int
  q : Int
  s : Nat
  vrms : Nat
  irms : Nat
  pf : Int
  thdV : Nat
  thdI : Nat
deriving DecidableEq, Repr, Inhabited

/-- The last closed meter second (Table 10.9). -/
structure MeterSec where
  time : Nat
  interpolated : Bool
  filled : Bool
  frequency : Nat
  /-- phases 1 to 3 -/
  phases : List PhaseQ
  neutral : Nat
  residual : Nat
deriving DecidableEq, Repr, Inhabited

/-- An output sample of every channel (R336): the span time of its instant in ns, its value in 2^-30 LSB after offset, gain and
delay, and its LSBs after the offset alone. -/
structure MeterFrame where
  at_ : Nat
  x : List Int
  lsb : List Int
deriving DecidableEq, Repr, Inhabited

/-- The datapath's filters and samples (R334, R336 to R338). -/
structure Datapath where
  /-- the bits of the last edges of `MOD_CLK`, latest first, bit n of each being `MDATn`; edges towards the next output sample -/
  edges : List Nat
  edge : Nat
  /-- the last 64 decimated samples of every channel, latest first; the last 64 output samples before the delay -/
  dec : List (List Int)
  recent : List (List Int)
  /-- samples of the second in progress and of the one before, oldest first -/
  frames : List MeterFrame
  past : List MeterFrame
  /-- per phase: positive zero crossings since the last one of the second before, span time in ns; samples already routed -/
  crossings : List (List Nat)
  routed : List Nat
  /-- the line frequency of the last second, µHz; 0 before one was measured -/
  freq : Nat
  /-- the elapsed instant of the last output sample -/
  sampleAt : Nat
  /-- samples to come that depend on a gap, and whether they are discarded (R334) -/
  depLeft : Nat
  depDrop : Bool
deriving DecidableEq, Repr, Inhabited

/-- A totals copy in MRAM (Table 10.6). -/
structure TotalsCopy where
  format : Nat
  kind : Nat
  standby : Bool
  filled : Bool
  generation : Nat
  time : Nat
  prevailing : Int
  /-- 20 registers, in units of 2^-32 mWh -/
  regs : List Nat
  pins : List Nat
  metrology : Nat
  /-- the CRC word -/
  crc : Nat
deriving DecidableEq, Repr, Inhabited

/-- A pulse output (R350). -/
structure PulseOut where
  /-- energy towards the next pulse, 2^-32 mWh -/
  acc : Nat
  backlog : Nat
  overflow : Bool
  /-- 0 idle, 1 active, 2 inactive time after a pulse -/
  phase : Nat
  phaseEnd : Nat
  /-- CLEAR waits for the commit boundary (R362) -/
  clearAt : Bool
deriving DecidableEq, Repr, Inhabited

/-- A pulse input (R351). -/
structure PulseIn where
  level : Bool
  /-- a level waiting for its debounce: the instant at which it has been stable long enough -/
  changing : Option Nat
  stable : Bool
  /-- the abutment's 32-bit count -/
  count : Nat
  /-- the count at the last extension, and the 64-bit total -/
  readCount : Nat
  total : Nat
  lastPulse : Option Nat
deriving DecidableEq, Repr, Inhabited

/-- A result of reconciliation (Table 10.10). -/
structure ReconRes where
  window : Nat
  state : Nat
  reasons : Nat
  expected : Nat
  reported : Nat
  estimated : Nat
  eF : Int
  eL : Nat
  eM : Nat
  eS : Nat
  eC : Nat
  u : Int
  theta : Nat
deriving DecidableEq, Repr, Inhabited

/-- What accumulates over a reconciliation window (R354). -/
structure ReconWin where
  start : Nat
  partial_ : Bool
  importAt : Nat
  exportAt : Nat
  importEnd : Nat
  exportEnd : Nat
  pinAt : List Nat
  pinEnd : List Nat
  /-- per phase, the sum over its seconds of Irms^2, mA^2 s -/
  irms2 : List Nat
  reasons : Nat
  /-- reconciliation settings as they stood at its end, by ID -/
  params : List (Nat × Nat)
  /-- energies reported by single lanterns, and the sum of the aggregates with the lanterns they cover: 1/65,536 mWh -/
  covered : List (Nat × Nat)
  aggregated : Nat
  aggregatedLanterns : List Nat
  expected : List Nat
deriving DecidableEq, Repr, Inhabited

/-- A running METER_CALIBRATE (R365). -/
structure Calib where
  seq : Nat
  mode : Nat
  phase : Nat
  left : Nat
  refV : Nat
  refI : Nat
  refAngle : Int
  /-- per second: Vrms mV, Irms 0.1 mA, angle 0.001 degree -/
  samples : List (Nat × Nat × Int)
  /-- per second: channel means in LSBs -/
  means : List (List Int)
  /-- per second: Vrms mV of V1 to V3, Irms 0.1 mA of I1 to I3 -/
  rms : List (List Nat)
deriving DecidableEq, Repr, Inhabited

/-- A save that began less than 200 µs ago (R346): its copy, what that copy and the intent word held, its kind, its elapsed start. -/
structure SaveRun where
  toB : Bool
  old : TotalsCopy
  oldIntent : Nat
  kind : Nat
  at_ : Nat
deriving DecidableEq, Repr, Inhabited

/-- The metering datapath and what the DECK keeps of it. -/
structure MeterSt where
  active : Bool
  regs : List Nat
  /-- registers at the last close, and what the last closed second added to each -/
  regsClosed : List Nat
  rates : List Nat
  /-- routed contributions of each phase waiting for the total's zero crossing: active, reactive -/
  totalAct : Int
  totalReact : Int
  /-- per phase, the elapsed instant of the last zero crossing or of what the 25 ms without one routed (R343) -/
  lastCross : List Nat
  path : Datapath
  last : Option MeterSec
  present : Bool
  presenceRun : Nat
  copyA : TotalsCopy
  copyB : TotalsCopy
  intent : Nat
  /-- the last save, which may still be in progress (R346, R347) -/
  saving : Option SaveRun
  /-- the whole second of span time in which the meter second in progress runs (R337) -/
  openSec : Nat
  /-- the next save's generation exceeds this, the copied one after a takeover (R357) -/
  genFloor : Nat
  backup : Option TotalsCopy
  metrology : Nat
  pouts : List PulseOut
  pins : List PulseIn
  pfail : Bool
  saveIncomplete : Bool
  restored : Bool
  filledSince : Bool
  filledNow : Bool
  interpNow : Bool
  /-- MOD_CLK gap in progress since (R334) -/
  gapSince : Option Nat
  /-- reconciliation -/
  window : Option ReconWin
  prevWindow : Option ReconWin
  prevEnergy : List (Nat × Nat)
  results : List ReconRes
  alarmRun : Nat
  /-- RECON_ALARM was recorded for this run (R355) -/
  alarmTold : Bool
  alarmOn : Bool
  calib : List Calib
  /-- the standby's window: UTC quarter-hour, own and holder's ACTIVE_IMPORT at its start, FILLED in it (R356) -/
  stdWindow : Option (Nat × Nat × Nat × Bool)
  holderImport : Nat
  holderFilled : Bool
  seeded : Bool
  pausedAt : Option Nat
  restartAt : Option Nat
  unexplained : Int
deriving DecidableEq, Repr, Inhabited

/-! ## Power states (chapter 12) -/

/-- The chosen states of Table 12.1. BACKUP is the fallback sequencer's supply condition. -/
inductive PState where
  | run | idle | nap | slumber
deriving DecidableEq, Repr, Inhabited

/-- A transition in progress (R403). Instants are elapsed ns. -/
inductive Trans where
  /-- SLUMBER entry (Table 12.4): 0 before A2, 1 waiting for the PMIC acknowledgement of step 4, 2 before A4, 3 after A4; the
  instant at which phase 0, 2 or 3 ends -/
  | entry (phase at_ : Nat)
  /-- an entry abandoned at an abort point: waiting for the acknowledgement, then PLL lock and restore up to an instant -/
  | abandon (point : Nat) (until_ : Option Nat)
  /-- SLUMBER exit (Table 12.5): waiting for the acknowledgement of step 1, then steps 2 and 3 up to an instant -/
  | exit (until_ : Option Nat)
  /-- an operating-point change -/
  | opPoint (point : Nat)
deriving DecidableEq, Repr, Inhabited

/-- The PMBus dialogue (R409, R410). -/
structure Pmbus where
  /-- the VOUT_COMMAND awaiting acknowledgement, mV -/
  request : Option Nat
  sentAt : Nat
  /-- 1 for the first sending, 2 for the repeat -/
  attempt : Nat
  /-- instant of a repeat after BUSY or a NACK -/
  retryAt : Option Nat
  /-- N of VOUT_MODE, as reported at start-up -/
  exponent : Int
  nackRetried : Bool
  /-- the repeat reads STATUS_WORD again (BUSY) and does not send the VOUT_COMMAND again (NACK) -/
  rereads : Bool
deriving DecidableEq, Repr, Inhabited

/-- The power manager and its front end. -/
structure PowerSt where
  state : PState
  trans : Option Trans
  /-- a wake or shallower request latched during an entry (R401) -/
  wakePending : Bool
  /-- the pending request of R403 -/
  pendingReq : Bool
  /-- operating point in force, 1 to 3 -/
  opPoint : Nat
  throttled : Bool
  vcore : Nat
  pgood : Bool
  pmbus : Pmbus
  /-- refusal counters of codes 1 to 9 and abort counts of A1 to A4 (Table 3.19) -/
  refusals : List Nat
  abortCounts : List Nat
  lastRefuser : Nat
  lastAbort : Nat
  lastEntered : Nat
  entries : Nat
  aborts : Nat
  superseded : Nat
  /-- ns spent in RUN, IDLE, NAP and SLUMBER since reset, up to `stateSince` -/
  timeIn : List Nat
  stateSince : Nat
  backupSeen : Bool
  /-- end of the open check-in window, and the last check-in instant in s of span time -/
  checkinEnd : Option Nat
  lastCheckin : Nat
  /-- link state of RMII ports A and B as last polled -/
  linkA : Bool
  linkB : Bool
  lastPoll : Nat
  /-- last record instant per wake cause (R408) -/
  wakeRecorded : List (Nat × Nat)
  /-- span time at SLUMBER entry, the elapsed instant and the RTC ticks (R303) -/
  slumberSpan : Nat
  slumberAt : Nat
  slumberTicks : Nat
  /-- events that wait at an EJ-E for the DECK to record them: joint, event code, payload (R415) -/
  crossed : List (Nat × Nat × Bytes)
  /-- what the hold cells of the pads latched at step 2 of an entry to SLUMBER (R404) -/
  held : List (Pad × PinLevel)
deriving DecidableEq, Repr, Inhabited

/-! ## Expansion joints (chapter 13) -/

/-- One joint of Table 13.2. -/
structure Joint where
  /-- EJ-E: the source-side pending count c (R415) -/
  c : Nat
  /-- a transfer or word awaits its acknowledgement, with the count or word it carries -/
  awaiting : Option Nat
  /-- EJ-F: words written and not read, oldest first; EJ-L: the last level -/
  words : List Nat
  /-- the destination's tally, or the last word or level delivered -/
  delivered : Nat
  lost : Nat
  /-- loss count already recorded (R417) -/
  lostRecorded : Nat
  overrun : Bool
  flushed : Bool
deriving DecidableEq, Repr, Inhabited

/-! ## Keys, life cycle and tamper (chapter 15) -/

/-- A slot record (Table 15.3): its plain key and the inputs that sealed it. -/
structure SlotRec where
  key : Bytes
  attr : Nat
  epoch : Nat
  lifecycle : Nat
  /-- full boot measurement at sealing (Table 15.4) -/
  measure : Bytes
  /-- the root in use at sealing was the test root (R466) -/
  testRoot : Bool
  uses : Nat
  iv : Bytes
deriving DecidableEq, Repr, Inhabited

/-- The keystone (R455). -/
structure Keystone where
  key : Bytes
  attr : Nat
  /-- slot the key came from, none for an internal key -/
  slot : Option Nat
deriving DecidableEq, Repr, Inhabited

/-- One tamper source (Table 15.6). -/
structure TamperSrc where
  policy : Nat
  active : Bool
  latched : Bool
  /-- elapsed instant since which the condition has been false -/
  falseSince : Nat
  /-- it may act again -/
  armed : Bool
deriving DecidableEq, Repr, Inhabited

/-- An entry of the tamper log (R469). -/
structure TamperEnt where
  source : Nat
  policy : Nat
  ticks : Nat
  epoch : Nat
  inBackup : Bool
  /-- made since the previous start-up -/
  fresh : Bool
  /-- made in SLUMBER: its record follows the exit (R476) -/
  owed : Bool
deriving DecidableEq, Repr, Inhabited

/-- One-time-programmable memory (Table 1.5). -/
structure Otp where
  orderCode : Nat
  unitId : Nat
  stepping : Nat
  rootSecret : Bytes
  rootProgrammed : Bool
  rootKilled : Bool
  lifecycle : Nat
  /-- RETURN to PROVISIONED transitions made (Table 15.5) -/
  returns : Nat
  antiRollback : Nat
  rtcTrim : Int
  /-- digests held in the boot ROM: life-cycle, debug and firmware authorities (R463, R466, R479) -/
  lifecycleAuth : Bytes
  debugAuth : Bytes
  firmwareAuth : Bytes
  romMeasure : Bytes
deriving DecidableEq, Repr, Inhabited

/-- The security core and the abutment's tamper block. -/
structure SecSt where
  keystone : Option Keystone
  /-- the key store in use and the second store written by UPDATE_ACTIVATE (R461) -/
  slots : List (Nat × SlotRec)
  slots2 : Option (List (Nat × SlotRec))
  epoch : Nat
  epochMirror : Nat
  /-- the life-cycle code of a transition whose key destruction waits for the reply (R464) -/
  advance : Option (Nat × Nat)
  /-- DEBUG_UNLOCK succeeded since reset (R466) -/
  debugUnlocked : Bool
  tamper : List TamperSrc
  tamperLog : List TamperEnt
  tamper0 : Bool
  tamper0Since : Nat
  tamper0Run : Bool
  tamper1 : Bool
  lfsr : Nat
  lfsrAt : Nat
  /-- the last 32 guard samples, latest first: mismatch or not (R468) -/
  guardSamples : List Bool
  guardSampled : Bool
  /-- instant of the last erasure (Table 15.10: one within a tick) -/
  eraseAt : Option Nat
  /-- instants of AUTH_FAILED results (R467 source 8) -/
  authFails : List Nat
  /-- keyless condition as last recorded (R471) -/
  keylessRecorded : Bool
  banksZeroed : Bool
  /-- an erasure made in BACKUP whose steps 5 and 6 are owed (R468, Table 15.7) -/
  eraseOwed : Option (Nat × Nat)
  /-- sources under ALARM_ERASE that acted in SLUMBER: the steps of Table 15.7 follow the exit (Table 15.10) -/
  actsOwed : List Nat
deriving DecidableEq, Repr, Inhabited

/-! ## Firmware update and recovery (chapter 16) -/

/-- A firmware slot: its header and the payload fragments programmed. -/
structure SlotImg where
  header : Bytes
  frags : List (Nat × Bytes)
  valid : Bool
  confirmed : Bool
  /-- its payload is plaintext: never encrypted, or decrypted in place (R485) -/
  plain : Bool
deriving DecidableEq, Repr, Inhabited

/-- A copy of the settings store (R492): settings (R32), the list of time sources (R101), the region profile (R169), scenes and local
calibration (R260, R271), the local-time and fallback tables (R321, R325), the totals backup (R349), the rate limits (R447). -/
structure StoreCopy where
  live : List (Nat × Nat)
  list : List Nat
  region : Option Bytes
  scenes : List (Nat × Scene)
  cals : List (Option CalEntry)
  stdOffset : Int
  transitions : List (Nat × Int)
  table : Option Bytes
  backup : Option TotalsCopy
  buckets : List (Nat × Bucket)
  defaultBurst : Nat
  defaultRefill : Nat
deriving DecidableEq, Repr, Inhabited

/-- State of the update session (Table 16.3). -/
inductive UpdState where
  | idle | receiving | verifying | ready | trial | failed
deriving DecidableEq, Repr, Inhabited

/-- The update fragment journal's session (R482). -/
structure UpdSession where
  header : Bytes
  target : Nat
  /-- fragments held -/
  bitmap : List Nat
  erased : Nat
  decrypted : Nat
  lastStored : Nat
deriving DecidableEq, Repr, Inhabited

/-- The boot record (R488, R489). -/
structure BootRec where
  active : Nat
  /-- trial slot and trial boot number while a trial is open -/
  trial : Option (Nat × Nat)
  trialNs : Nat
  trialSince : Nat
  /-- revert flag with its cause (R489, R492): 0 clear, 2 TIME, 3 ABORT -/
  revert : Nat
deriving DecidableEq, Repr, Inhabited

/-- A lantern image in the store (R497). -/
structure LanImage where
  id : Nat
  header : Bytes
  frags : List (Nat × Bytes)
  /-- 0 RECEIVING, 1 STAGED, 2 FAILED -/
  state : Nat
deriving DecidableEq, Repr, Inhabited

/-- A rollout (R499): each target lantern's progress. -/
structure Rollout where
  image : Nat
  parallel : Nat
  /-- lantern, code: 0 waiting, 1 announced or fetching, 2 verified, 3 installed, 4 failed, 5 other family; failures reported -/
  targets : List (Nat × Nat × Nat)
  aborted : Bool
  done : Bool
  /-- pier caches assigned: pier head lanterns (R149) -/
  caches : List Nat
deriving DecidableEq, Repr, Inhabited

/-- The recovery ROM (R494, R495). -/
structure Recovery where
  running : Bool
  cause : Nat
  /-- the cause to record at the next firmware start -/
  toRecord : Option Nat
  hostSeen : Bool
  lastSeq : Option Nat
  lastStatus : Bytes
  lastHello : Nat
deriving DecidableEq, Repr, Inhabited

structure UpdateSt where
  slotA : SlotImg
  slotB : SlotImg
  state : UpdState
  detail : Nat
  session : Option UpdSession
  boot : BootRec
  /-- settings format of the store and of copy 2 during a trial (R492) -/
  storeFormat : Nat
  copy1 : Option StoreCopy
  migrated : Option (Nat × Nat)
  images : List LanImage
  nextImage : Nat
  rollouts : List Rollout
  recovery : Recovery
deriving DecidableEq, Repr, Inhabited

/-! ## Built-in self-test (chapter 17) -/

/-- A unit of Table 17.2. -/
inductive TestUnit where
  | bank (n : Nat)
  | abut (segment : Nat)
  | mram (segment : Nat)
deriving DecidableEq, Repr, Inhabited

/-- A commanded run and its result (R121, R122). -/
structure TestRun where
  number : Nat
  target : Nat
  index : Nat
  algorithm : Nat
  sliceUs : Nat
  seq : Nat
  started : Nat
  startedNs : Nat
  slices : Nat
  /-- none while it runs; 0 PASS, 1 FAIL, 2 ABORTED -/
  outcome : Option Nat
  misr : Nat
  golden : Nat
  failOffset : Nat
  elapsed : Nat
  units : List TestUnit
  refusals : Nat
  cancelled : Bool
deriving DecidableEq, Repr, Inhabited

/-- The background sweep (R510). -/
structure Sweep where
  /-- a whole sweep, and not only banks queued by a fault -/
  full : Bool
  units : List TestUnit
  tested : Nat
  failed : Nat
  slices : Nat
deriving DecidableEq, Repr, Inhabited

/-- The use of a main SRAM bank (R151, Table 4.8). -/
inductive BankUse where
  | inUse | spare | underTest | retired
deriving DecidableEq, Repr, Inhabited

structure SelfTestSt where
  runs : List TestRun
  nextRun : Nat
  active : Option TestRun
  sweep : Option Sweep
  /-- instant of the last sweep's start, or of the first placement evaluation (R510) -/
  sweepFrom : Option Nat
  sliceRunning : Bool
  /-- end of the slice that runs, or of the last one -/
  lastSliceEnd : Nat
  /-- the running slice: whether a commanded run's, its start, and what its units read wrongly (R505, R511) -/
  sliceRun : Bool
  sliceAt : Nat
  sliceObs : List (List (Nat × Nat))
  /-- a bank that is being copied into the spare, and the time its copy still takes, ns (R151) -/
  copying : Option (Nat × Nat)
  /-- time already spent on the bank under test, ns, and whose it is: 0 none, 1 the sweep's, 2 the commanded run's -/
  unitDone : Nat
  unitOwner : Nat
  /-- banks 0 to 31 and the contents code of each (PLACEMENT_READ mode 5) -/
  banks : List (BankUse × Nat)
  bankFailed : Bool
  otherFailed : Bool
  /-- MRAM in-test marker: segment address (R507) -/
  marker : Option Nat
  /-- banks a fault queued for test (Table 14.1, R151) -/
  queued : List Nat
  /-- six golden signatures of OTP, unit type x algorithm (R505) -/
  golden : List Nat
  scanEnabled : Bool
  /-- a scan request's clearing runs up to this elapsed instant (Table 17.3) -/
  scanAt : Option Nat
  coresHalted : Bool
deriving DecidableEq, Repr, Inhabited

/-! ## Start-up, reset and pads (chapters 19, 20) -/

/-- Where the module stands between a reset and firmware. -/
inductive BootPhase where
  /-- a reset is asserted or its boot has not run -/
  | reset
  /-- a start-up PMIC fault holds the domains in reset (R528) -/
  | pmicFault
  /-- the recovery ROM runs (R494) -/
  | recovery
  /-- firmware runs -/
  | firmware
deriving DecidableEq, Repr, Inhabited

/-- An I/O bank (R541). -/
structure IoBank where
  good : Bool
  /-- 0 none, 1 1.8 V, 2 2.5 V, 3 3.3 V -/
  mode : Nat
deriving DecidableEq, Repr, Inhabited

structure BootSt where
  phase : BootPhase
  /-- type and source codes of R531, and the session that sent RESET -/
  resetType : Nat
  resetSource : Nat
  resetSession : Nat
  /-- the contents of main SRAM survived (Table 19.1) -/
  sramKept : Bool
  /-- the vault has been lost and no start has handled it (R308, R470) -/
  vaultLost : Bool
  /-- elapsed instant of the last reset -/
  resetAt : Nat
  resetN : Bool
  resetNSince : Nat
  recoveryN : Bool
  pmicFailures : Nat
  pmicRetryAt : Nat
  /-- the first placement evaluation after start-up has run (step 9) -/
  evaluated : Bool
  firstEvalAt : Option Nat
  /-- VIO_R, VIO_N, VIO_L -/
  banks : List IoBank
deriving DecidableEq, Repr, Inhabited

/-! ## The cycle-end copy (Table 11.5) -/

/-- The lease states of Table 11.3. -/
inductive Lease where
  | noTwin | standby | holder | conflict
deriving DecidableEq, Repr, Inhabited

/-- The state a cycle-end copy carries, region by region. -/
structure CopyImage where
  cycle : Nat
  timeT : Nat
  /-- the holder's elapsed instant at T: elapsed instants in the copy are counted on its clock -/
  capturedAt : Nat
  cont : List Bool
  agent : Agent
  lease : Lease
  phase : Nat
  counters : List (Nat × Nat)
  floodSeq : Nat
  settings : List (Nat × Nat)
  stdOffset : Int
  transitions : List (Nat × Int)
  table : Option Bytes
  alarms : List Alarm
  lanterns : List (Nat × Lantern)
  policies : List (Nat × Policy)
  fragments : List Fragment
  piers : List Pier
  sides : List (Nat × Nat × Bool)
  silentSince : List (Nat × Nat)
  kept : List (Nat × Nat × Nat)
  hold : Option (Nat × Nat)
  configs : List (Nat × Bytes)
  watches : List (Nat × Bytes)
  ends : List (Nat × Bytes)
  chans : List LampCh
  groups : List ColSet
  scenes : List (Nat × Scene)
  sceneVersion : Nat
  launches : List Launch
  nextLaunch : Nat
  regs : List Nat
  generation : Nat
  pouts : List PulseOut
  pins : List Nat
  results : List ReconRes
  rollouts : List Rollout
  links : List Link
  routes : List (Nat × List Nat)
  heldTxns : List Txn
  running : Bool
  epoch : Nat
  windowPhase : Nat
  floodsUsed : Nat
  rootEui : Option Nat
  keyUpdate : Option (Nat × Nat)
  oldKeyUntil : Option Nat
  cells : List CellAsg
  confVersion : Nat
  netKeys : List (Nat × Bytes)
  filled : Bool
deriving DecidableEq, Repr, Inhabited

/-! ## Twin operation (chapter 11) -/

/-- The state of the twin link (Table 3.26). -/
inductive LinkSt where
  | down | training | up
deriving DecidableEq, Repr, Inhabited

/-- What HELLO told of the peer (Table 11.2). -/
structure PeerHello where
  unitId : Nat
  firmware : Nat
  leaseMs : Nat
  preferred : Bool
  holder : Bool
deriving DecidableEq, Repr, Inhabited

/-- One journal entry on the standby (R380), in order of acceptance. -/
structure JournalEnt where
  sid : Nat
  tag : Nat
  opcode : Nat
  acceptedCycle : Nat
  completed : Bool
  status : Nat
  /-- the second of span time in which it completed -/
  doneSec : Nat
deriving DecidableEq, Repr, Inhabited

/-- One frame of the twin link (Table 11.1), without its CRC. -/
structure TwinFrame where
  type : Nat
  resend : Bool
  seq : Nat
  payload : Bytes
deriving DecidableEq, Repr, Inhabited

/-- The twin link, the lease and the interlock. -/
structure TwinSt where
  /-- the twin-mode latch of the vault (R371) -/
  latch : Bool
  lease : Lease
  /-- the cause of the take under way (Table 11.8) -/
  takeCause : Nat
  leaseOut : Bool
  leaseIn : Bool
  /-- elapsed instant since which TW_LEASE_IN has been deasserted -/
  leaseInLowSince : Nat
  /-- the interlock is open: outputs driven (R371) -/
  interlock : Bool
  link : LinkSt
  /-- elapsed instant since which every character of the line has been valid, commas counted (R369, log entry 149) -/
  validSince : Nat
  lastValid : Nat
  /-- elapsed instant at which the last frame sent ended (R368) -/
  lastSent : Nat
  lastHello : Nat
  hello : Option PeerHello
  /-- a HELLO has been received since this member's own reset (R375) -/
  helloSinceReset : Bool
  linkUpSinceReset : Bool
  resetAt : Nat
  /-- last renewal: instant, and its cycle, none before any (Table 11.8) -/
  renewedAt : Nat
  renewCycle : Option Nat
  /-- the peer's last HEALTH word -/
  peerHealth : Nat
  /-- health bits that are latched facts of this chapter -/
  leaseConflict : Bool
  copyStale : Bool
  copyInvalid : Bool
  meterMismatch : Bool
  beaconsMissed : Bool
  lastHealthSent : Nat
  /-- cycle starts with TW_LEASE_IN asserted and no commit -/
  staleCount : Nat
  /-- health bits 0 to 5 that are set, with the elapsed instant since when (R376) -/
  unhealthySince : List (Nat × Nat)
  /-- LEASE_YIELD or health yield under way: release after the next copy -/
  yielding : Bool
  /-- the final RENEW of a yield has gone out -/
  yieldSent : Bool
  /-- the incoming copy: cycle, FULL, segments received -/
  copyIn : Option (Nat × Bool × List (Nat × Bytes))
  /-- the copy image committed last and its cycle -/
  committed : Option CopyImage
  copyCycle : Option Nat
  copySize : Nat
  /-- the holder's copy: cycle sent and not acknowledged, image sent, the image last acknowledged -/
  copyOut : Option (Nat × CopyImage)
  copyAcked : Option CopyImage
  /-- the next copy must be FULL (R378) -/
  needFull : Bool
  journal : List JournalEnt
  /-- sequence counters per type: sent, and next expected -/
  txSeq : List (Nat × Nat)
  rxSeq : List (Nat × Nat)
  /-- frames kept for NAK: type, sequence, payload (R368) -/
  sent : List TwinFrame
  /-- journal frames sent and not acknowledged: frame sequence and acceptance number -/
  journalWait : List (Nat × Nat)
  crcErrors : Nat
  /-- cycle numbers of the link CRC errors of the last 64 cycles -/
  crcRecent : List Nat
  takeovers : Nat
  /-- time exchange: t1, t2, t3, t4 of the last cycle, ns -/
  t1 : Option Int
  t1Next : Option Int
  t2 : Option Int
  t3 : Option Int
  t4 : Option Int
  timeSentCycle : Option Nat
  disagreement : Int
  /-- end of a conflict wait (R374) -/
  backoffUntil : Option Nat
  /-- the random wait of a conflict, in ns, of a member that had received no HELLO: it stands for 2 × TWIN_LEASE_MS (R375) -/
  loneWait : Option Nat
  /-- TWIN_ENABLE was cleared on the holder: `TW_LEASE_OUT` falls once the final RENEW is on the line (R372) -/
  leaving : Bool
  /-- the interlock opened while firmware did not run: the takeover sequence is still to come (R371, R388) -/
  resumeDue : Bool
  /-- feeds received for the coming echo cells: port, ASN, cell kind, PSDU (R381) -/
  feeds : List (Nat × Nat × Nat × Bytes)
  /-- frames waiting for the line, in the order of R370, and the instant at which the line is free -/
  tx : List TwinFrame
  lineFree : Nat
  /-- instant before which frames other than the copy's leave the line to it (R370) -/
  othersFree : Nat
  /-- the last RENEW received had YIELD set (Table 11.8 cause 2) -/
  peerYields : Bool
  /-- the bytes of the copy committed last, which a delta changes (R378) -/
  copyRaw : Bytes
  /-- own registers and pulse-input totals at the instant the committed copy carries (R357) -/
  ownRegs : List Nat
  ownPins : List Nat
deriving DecidableEq, Repr, Inhabited

/-! ## Outputs and the whole -/

/-- What the module has put on its lines and not yet been taken away by the outside, oldest first. -/
structure Outputs where
  /-- HSPI_MISO: the bytes driven in each transaction (R56) -/
  hspi : List Bytes
  /-- packets and frames sent by HUART and DBG -/
  huart : List Bytes
  dbg : List Bytes
  /-- Ethernet datagrams: peer, bytes -/
  eth : List (Nat × Bytes)
  /-- corrected frames forwarded by the switch: egress port, frame (R281) -/
  forwarded : List (Nat × Bytes)
  air : List AirFrame
  /-- SPI bytes the sequences sent: port, bytes (R194) -/
  spi : List (Nat × Bytes)
  /-- what the radio ports did on their lines: port, line (Table 5.8) -/
  radio : List (Nat × RadioLine)
  twin : List Bytes
  /-- PMBus transactions, the bytes the module sends (R409) -/
  pmbus : List Bytes
  recovery : List Bytes
  /-- RESPONSE payloads handed to the parent span by an annexed module (R241) -/
  annex : List Bytes
deriving DecidableEq, Repr, Inhabited

/-- The module. -/
structure State where
  /-- elapsed time in ns -/
  now : Nat
  time : TimeUnit
  rtc : Rtc
  fb : Fallback
  set : SettingsSt
  host : HostSide
  par : Parapet
  pwr : PowerSt
  joints : List Joint
  mac : MacSt
  truss : TrussSt
  lamp : LampSt
  meter : MeterSt
  twin : TwinSt
  otp : Otp
  sec : SecSt
  upd : UpdateSt
  bist : SelfTestSt
  boot : BootSt
  out : Outputs
  /-- commands waiting, first in first out -/
  pending : List Instr
  /-- the model's own counter of free values drawn -/
  freeIdx : Nat
deriving DecidableEq, Repr

/-- Why a step stops with a fault. No command of this block does: everything the spec lets the module detect is
a state of the parapet (R430), so the type has no inhabitant that a meaning uses. -/
inductive Fault where
  /-- raised by no meaning: kept so that the type is not empty; safe -/
  | none
deriving DecidableEq, Repr

/-- Why a step answers no meaning. -/
inductive Refusal where
  /-- raised by an arm of exec whose meaning is not written; safe -/
  | notModelled (mnemonic : String)
deriving DecidableEq, Repr


/-! ## The state at reset

A COLD start has just been asserted: every supply was absent, `V33` has returned, and BOOT_SEQUENCE has not run. A field not
named below is 0, false, none or empty. Values the spec does not give stand in log entries 20 to 29. -/

/-- The first 24 bytes, the digest, the signer key and the signature of the image in slot A as the module ships (Table 16.1):
version 1.0.0, settings format 1, a payload of one zero byte. Mark: DESIGN CHOICE (log entry 24). -/
def factoryHeader : Bytes :=
  be 24 0x4452494d01004b0d00000000010000000000010001000000 ++ zeros 16
    ++ be 32 0x6e340b9cffb37a989ca544e6bb780a2c78901d3fb33738768511a30617afa01d ++ zeros 184
    ++ be 64 0xa5d2eea6427fc30e0c3c9279acbb5e805c1e200a7e24ae80be4485cb7150c3b25e8e38f92f6e43e7a6e5dd3f6011c34813724a31df2b7700d24d04cf2457d911
    ++ be 64 0x7640617e32ab1669d633b7c1edb758002f6966a33e0bd13f6556b739204d2129cce0413db1a68f2dff88f731028f7ab5d9f73231f4ca3ab2d94162a2e6f377b0
    ++ zeros 128

def resetTime : TimeUnit :=
  { (default : TimeUnit) with
    spanT := (946684800 + 37) * unitsPerSec, lastWhole := 946684800 + 37, sources := List.replicate 5 default }

def resetRtc : Rtc := { (default : Rtc) with u := 37, alarms := [default, default], shortRecorded := true }

def resetFb : Fallback := { (default : Fallback) with cont := [false, false] }

def resetWindow : Window := default

def resetHost : HostSide :=
  { (default : HostSide) with sessions := [none, none, none, none], nextSeq := 1, huartBaud := 115200 }

def resetPar : Parapet :=
  { (default : Parapet) with
    watchdogs := [{ left := 100000000 }, { left := 100000000 }, { left := 20000000 }, { left := 100000000 }],
    defaultBurst := 8, defaultRefill := 10000 }

def resetPwr : PowerSt :=
  { (default : PowerSt) with
    opPoint := 1, refusals := List.replicate 9 0, abortCounts := [0, 0, 0, 0], timeIn := [0, 0, 0, 0] }

def resetJoints : List Joint := List.replicate 28 default

def resetMac : MacSt :=
  { (default : MacSt) with suppressedCh := List.replicate 64 0, suppressedSb := List.replicate 8 0 }

def resetTruss : TrussSt := { (default : TrussSt) with evalDue := true }

def resetLamp : LampSt := { (default : LampSt) with chans := List.replicate 24 default, groups := List.replicate 8 default }

def resetMeter : MeterSt :=
  { (default : MeterSt) with
    regs := List.replicate 20 0, regsClosed := List.replicate 20 0, rates := List.replicate 20 0, lastCross := [0, 0, 0],
    path := { (default : Datapath) with crossings := [[], [], []], routed := [0, 0, 0] }, restartAt := some 0,
    pouts := List.replicate 4 default, pins := List.replicate 4 default }

def resetTwin : TwinSt := { (default : TwinSt) with latch := true, lease := .standby, peerHealth := 64, copyInvalid := true }

/-- Mark: DESIGN CHOICE (log entry 23): what a unit's fuses hold is its own; this unit is a DOR4K-L144-STD, shipped in
PROVISIONED (chapter 19) with a programmed root. -/
def resetOtp : Otp :=
  { (default : Otp) with
    orderCode := 1, unitId := 0x00112233445566778899AABBCCDDEEFF, rootSecret := zeros 32, rootProgrammed := true, lifecycle := 3,
    lifecycleAuth := zeros 32, debugAuth := zeros 32,
    firmwareAuth := be 32 0x87a9faf050ede2f2a6068beec7431d7ec4374e8b9dfd0a7fe17e95df193989a7, romMeasure := zeros 32 }

/-- Sources with their default policies (Table 15.6), every one armed. -/
def resetSec : SecSt :=
  { (default : SecSt) with
    tamper := [2, 2, 1, 2, 2, 1, 3, 2].map (fun p => { (default : TamperSrc) with policy := p, armed := true }), lfsr := 1 }

def resetUpd : UpdateSt :=
  { (default : UpdateSt) with
    slotA := { header := factoryHeader, frags := [(0, [0])], valid := true, confirmed := true, plain := true },
    storeFormat := 1, nextImage := 1 }

/-- The use of the banks after a start in which none fails: the last is the spare (R151), the first eight hold the lantern
table (Table 4.9). Mark: DESIGN CHOICE (log entry 25) for the contents of the others. -/
def bankLayout : List (BankUse × Nat) :=
  (List.range 31).map (fun n =>
    (BankUse.inUse, if n < 8 then 1 else if n < 12 then 2 else if n < 20 then 3 else if n < 24 then 4 else if n < 26 then 5
      else if n < 28 then 6 else 0)) ++ [(.spare, 0)]

/-- The golden signatures fused at production, by unit type and algorithm (R505, log entry 142). -/
opaque Config.golden : Nat → BitVec 32

def resetBist : SelfTestSt := { (default : SelfTestSt) with nextRun := 1, banks := bankLayout, golden := (List.range 6).map (fun k => (Config.golden k).toNat) }

def resetBoot : BootSt :=
  { (default : BootSt) with
    resetType := 1, resetSource := 1, resetSession := 0xFF, vaultLost := true, resetN := true, recoveryN := true,
    banks := List.replicate 3 { good := true, mode := 3 } }

/-- The module right after reset. -/
def State.reset : State :=
  { now := 0, time := resetTime, rtc := resetRtc, fb := resetFb, set := default, host := resetHost, par := resetPar,
    pwr := resetPwr, joints := resetJoints, mac := resetMac, truss := resetTruss, lamp := resetLamp, meter := resetMeter,
    twin := resetTwin, otp := resetOtp, sec := resetSec, upd := resetUpd, bist := resetBist, boot := resetBoot, out := default,
    pending := [], freeIdx := 0 }
end Sys2Proof.Machine
end

