-- ==== Sys2Proof/Config.lean ====
section
/-! DEFINITION. The free values: what the spec leaves open. Each is a constant with no body, so nothing can be proved of
its value. Log entries 10 to 19, and the entries that name a free value by its place, describe them. -/

namespace Sys2Proof.Machine

/-- Random bytes of the security core's generator: nonces, challenges, IVs, network keys, the guard seed (R46, R217, R459,
R468), by draw number. -/
opaque Config.freeBytes : Nat → Bytes

/-- Random numbers: conflict waits, MAC back-off, ephemeral private keys (R66, R177, R374), by draw number. -/
opaque Config.freeNat : Nat → Nat

/-- What a measurement of span time makes of the servo: the new rate addend, from draw number, present addend and offset in
ns. The spec states the servo's bounds and accuracies and no control law (R278, R290). -/
opaque Config.servo : Nat → Int → Int → Int

/-- The sun on a UTC day at a latitude and longitude, for the elevation and direction of an ASTRO trigger's first three bytes:
whether it crosses (0 it does, 1 it stays above, 2 below, modulo 3), the true crossing in minutes from 00:00 UTC, and the error of
the module's computation in minutes (R126, R146, log entry 13). -/
opaque Config.sunSide : Nat → Int → Int → Nat → Nat
opaque Config.sunMinute : Nat → Int → Int → Nat → Int
opaque Config.sunError : Nat → Int → Int → Nat → Int

/-- Bytes of a notice header that the spec gives no meaning in kind 2: flags, dependency tag, role, target, by event code
(R84). -/
opaque Config.noticeHeader : Nat → Bytes

/-- The byte form of a cycle-end copy beyond the regions Table 11.5 lays out, and what a member reads from one (R378). -/
opaque Config.copyEncode : CopyImage → Bytes
opaque Config.copyDecode : Bytes → Option CopyImage

/-- Keys of the parent span an annexed module joins, by key index, 0 the join key: the spec gives them no slot (R185, R241). -/
opaque Config.annexKey : Nat → Bytes

/-- The fractional delay of a current channel: METER_PHASE in 0.001°, the measured line frequency in µHz, the channel's samples,
latest first (R336, log entry 128). -/
opaque Config.fractional : Int → Nat → List Int → Int

/-- The error of the module's arithmetic on a quantity, by place, instant and exact result; R341 bounds it (log entry 130). -/
opaque Config.meterError : Nat → Nat → Int → Int

/-- How the bits of a codeword enter the 32-bit MISR of the self-test engine (R505, log entry 142). -/
opaque Config.misrFold : Nat → BitVec 32

/-- A number the spec asks of an operation without giving its rule, by place and operand: the operation runs on it. -/
opaque Config.unstated : Nat → Nat → Nat

end Sys2Proof.Machine
end

