-- ==== Sys2Proof/Machine/Crypto.lean ====
section
/-! DEFINITION. The check and cryptographic functions the spec names: CRC-32C (R40), CRC-32 and the frame check of
Ethernet and IEEE 802.15.4, SHA-256, HMAC and the SP 800-108 KDF (R460), AES with CMAC, GCM and CCM, and P-256 (R91).
PRESUMED from the named standards (log entry 4). -/

namespace Sys2Proof.Machine

/-! ### Cyclic redundancy checks -/

/-- One bit of a reflected CRC with polynomial `p`. -/
def crcBit (p c : Nat) : Nat := if c % 2 = 1 then (c / 2) ^^^ p else c / 2

/-- One byte of a reflected CRC. -/
def crcByte (p c : Nat) (b : Byte) : Nat :=
  crcBit p (crcBit p (crcBit p (crcBit p (crcBit p (crcBit p (crcBit p (crcBit p (c ^^^ b.toNat))))))))

/-- CRC-32C (R40): 0x1EDC6F41 reflected, initial and final 0xFFFFFFFF. -/
def crc32c (b : Bytes) : Nat := b.foldl (crcByte 0x82F63B78) 0xFFFFFFFF ^^^ 0xFFFFFFFF

/-- CRC-32 of IEEE 802.3, for the FCS of a forwarded frame (R281). -/
def crc32 (b : Bytes) : Nat := b.foldl (crcByte 0xEDB88320) 0xFFFFFFFF ^^^ 0xFFFFFFFF

/-- The 16-bit FCS of IEEE 802.15.4. -/
def crc16 (b : Bytes) : Nat := b.foldl (crcByte 0x8408) 0

/-- The packet error code of PMBus: CRC-8, polynomial x^8 + x^2 + x + 1. Mark: PRESUMED (log entry 132). -/
def crc8 (b : Bytes) : Nat :=
  b.foldl (fun c x => (List.range 8).foldl (fun c _ => if 128 ≤ c then (2 * c) % 256 ^^^ 7 else 2 * c) (c ^^^ x.toNat)) 0

/-- The bytes with their CRC-32C appended, little-endian. -/
def withCrc (b : Bytes) : Bytes := b ++ le 4 (crc32c b)

/-- The last four bytes are the CRC-32C of those before. -/
def crcOk (b : Bytes) : Bool := 4 ≤ b.length && leNat (b.drop (b.length - 4)) == crc32c (b.take (b.length - 4))

/-! ### SHA-256, HMAC and the KDF -/

/-- The 32-bit word `j` of a number, word 0 the lowest. -/
def wordAt (x j : Nat) : Nat := (x >>> (32 * j)) % 4294967296

/-- A word turned right by `n` places: the word doubled side by side, shifted. -/
def turned (x n : Nat) : Nat := ((x * 4294967297) >>> n) % 4294967296

/-- The sixty-four round constants, the first in the lowest word. -/
def hashConstants : Nat :=
  0xc67178f2bef9a3f7a4506ceb90befffa8cc7020884c8781478a5636f748f82ee682e6ff35b9cca4f4ed8aa4a391c0cb334b0bcb52748774c1e376c0819a4c116106aa070f40e3585d6990624d192e819c76c51a3c24b8b70a81a664ba2bfe8a192722c8581c2c92e766a0abb650a735453380d134d2c6dfc2e1b213827b70a851429296706ca6351d5a79147c6e00bf3bf597fc7b00327c8a831c66d983e515276f988da5cb0a9dc4a7484aa2de92c6f240ca1cc0fc19dc6efbe4786e49b69c1c19bf1749bdc06a780deb1fe72be5d74550c7dc3243185be12835b01d807aa98ab1c5ed5923f82a459f111f13956c25be9b5dba5b5c0fbcf71374491428a2f98

/-- What a message word fifteen, or two, places back gives to a later one: two turns and a shift. -/
def spread (x i j k : Nat) : Nat := turned x i ^^^ turned x j ^^^ (x >>> k)

/-- Round `t`. The registers stand in one number, from a in word 7 to h in word 0; `win` holds the next sixteen message words,
the one due in word 0. A round moves every register down a word, puts the sum of both temporary words on top, and adds the first
of them to the word that is e from then on. -/
def hashRound (x : Nat × Nat) (t : Nat) : Nat × Nat :=
  let reg := wordAt x.1
  let win := wordAt x.2
  let chosen := reg 1 ^^^ (reg 3 &&& (reg 1 ^^^ reg 2))
  let most := (reg 5 &&& reg 6) ||| (reg 7 &&& (reg 5 ||| reg 6))
  let first := reg 0 + (turned (reg 3) 6 ^^^ turned (reg 3) 11 ^^^ turned (reg 3) 25) + chosen + wordAt hashConstants t + win 0
  let second := (turned (reg 7) 2 ^^^ turned (reg 7) 13 ^^^ turned (reg 7) 22) + most
  let later := win 0 + spread (win 1) 7 18 3 + win 9 + spread (win 14) 17 19 10
  ((x.1 >>> 32) - (reg 4 <<< 96) + (((reg 4 + first) % 4294967296) <<< 96) + (((first + second) % 4294967296) <<< 224),
    (x.2 >>> 32) + ((later % 4294967296) <<< 480))

/-- Eight words added without carry between them. -/
def addWords (x y : Nat) : Nat :=
  (List.range 8).foldl (fun r j => r + (((wordAt x j + wordAt y j) % 4294967296) <<< (32 * j))) 0

/-- A block of 64 bytes is taken into the hash. -/
def hashBlock (h : Nat) (blk : Bytes) : Nat :=
  let win := (List.range 16).foldl (fun r j => r + (beNat (sub blk (4 * j) 4) <<< (32 * j))) 0
  addWords h ((List.range 64).foldl hashRound (h, win)).1

/-- `n` blocks of 64 bytes. -/
def chunks (k : Nat) : Nat → Bytes → List Bytes
  | 0, _ => []
  | n + 1, b => b.take k :: chunks k n (b.drop k)

/-- SHA-256 (FIPS 180-4): a one bit, zeros and the length in bits fill the last block; the hash is its eight words, a first. -/
def sha256 (m : Bytes) : Bytes :=
  let n := (m.length + 72) / 64
  let filled := fit (64 * n - 8) (m ++ [byte 128]) ++ be 8 (8 * m.length)
  be 32 ((chunks 64 n filled).foldl hashBlock 0x6a09e667bb67ae853c6ef372a54ff53a510e527f9b05688c1f83d9ab5be0cd19)

def xorBytes (a b : Bytes) : Bytes := (a.zip b).map (fun p => p.1 ^^^ p.2)

/-- HMAC-SHA-256 (FIPS 198-1). -/
def hmac (key m : Bytes) : Bytes :=
  let k := fit 64 (if key.length > 64 then sha256 key else key)
  sha256 (xorBytes k (List.replicate 64 (byte 0x5c)) ++ sha256 (xorBytes k (List.replicate 64 (byte 0x36)) ++ m))

/-- The SP 800-108 counter-mode KDF with HMAC-SHA-256 (R460): one iteration gives 256 bits; the counter and the output length
are in network byte order. -/
def kdf (key label context : Bytes) : Bytes := hmac key (be 4 1 ++ label ++ [0] ++ context ++ be 4 256)

/-! ### AES -/

def xtime (a : Nat) : Nat := if a < 128 then 2 * a else (2 * a) ^^^ 0x11B

/-- Multiplication in GF(2^8), `n` bits of `b`. -/
def gmul : Nat → Nat → Nat → Nat
  | 0, _, _ => 0
  | n + 1, a, b => (if b % 2 = 1 then a else 0) ^^^ gmul n (xtime a) (b / 2)

def ginv (a : Nat) : Nat :=
  let m := gmul 8
  let a2 := m a a; let a4 := m a2 a2; let a8 := m a4 a4; let a16 := m a8 a8; let a32 := m a16 a16
  let a64 := m a32 a32; let a128 := m a64 a64
  m a128 (m a64 (m a32 (m a16 (m a8 (m a4 a2)))))

def rotl8 (n x : Nat) : Nat := ((x <<< n) ||| (x >>> (8 - n))) % 256

def sboxOf (a : Nat) : Nat :=
  let b := ginv a
  b ^^^ rotl8 1 b ^^^ rotl8 2 b ^^^ rotl8 3 b ^^^ rotl8 4 b ^^^ 0x63

def sboxTable : List Nat := (List.range 256).map sboxOf

def sbox (a : Nat) : Nat := sboxTable.getD a 0

/-- Key expansion: words latest first, `n` more words, the index of the next. -/
def aesExpand (nk : Nat) : Nat → Nat → Nat → List (List Nat) → List (List Nat)
  | 0, _, _, w => w
  | n + 1, i, rcon, w =>
    let t := w.headD []
    let r := i % nk
    let t1 := if r = 0 then
        (match (t.drop 1 ++ t.take 1).map sbox with | a :: l => (a ^^^ rcon) :: l | [] => [])
      else if nk > 6 ∧ r = 4 then t.map sbox else t
    let nw := (t1.zip (w.getD (nk - 1) [])).map (fun p => p.1 ^^^ p.2)
    aesExpand nk n (i + 1) (if r = 0 then xtime rcon else rcon) (nw :: w)

/-- The round keys, first round first. -/
def aesKeys (key : Bytes) : List (List Nat) :=
  let nk := key.length / 4
  let w0 := (List.range nk).map (fun i => (sub key (4 * i) 4).map (·.toNat))
  let w := (aesExpand nk (4 * (nk + 7) - nk) nk 1 w0.reverse).reverse
  (List.range (nk + 7)).map (fun r => ((w.drop (4 * r)).take 4).flatten)

def mixCol (c : List Nat) : List Nat :=
  match c with
  | [a, b, c, d] =>
    [xtime a ^^^ xtime b ^^^ b ^^^ c ^^^ d, a ^^^ xtime b ^^^ xtime c ^^^ c ^^^ d,
     a ^^^ b ^^^ xtime c ^^^ xtime d ^^^ d, xtime a ^^^ a ^^^ b ^^^ c ^^^ xtime d]
  | c => c

def aesShift (s : List Nat) : List Nat := (List.range 16).map (fun i => s.getD ((i + 4 * (i % 4)) % 16) 0)

def aesMix (s : List Nat) : List Nat := (List.range 4).flatMap (fun c => mixCol ((s.drop (4 * c)).take 4))

def xorNats (a b : List Nat) : List Nat := (a.zip b).map (fun p => p.1 ^^^ p.2)

/-- One block of AES with a 16- or 32-byte key (FIPS 197). -/
def aesBlock (key blk : Bytes) : Bytes :=
  match aesKeys key with
  | [] => blk
  | k0 :: ks =>
    let s := ks.dropLast.foldl (fun s k => xorNats (aesMix (aesShift (s.map sbox))) k) (xorNats (blk.map (·.toNat)) k0)
    (xorNats (aesShift (s.map sbox)) (ks.getLastD [])).map byte

/-- AES-CMAC (SP 800-38B). -/
def cmac (key m : Bytes) : Bytes :=
  let dbl (x : Nat) : Nat := if x < 2 ^ 127 then 2 * x else (2 * x) % 2 ^ 128 ^^^ 0x87
  let k1 := dbl (beNat (aesBlock key (zeros 16)))
  let n := if m.length = 0 then 1 else (m.length + 15) / 16
  let lastB := m.drop (16 * (n - 1))
  let lst := if lastB.length = 16 then xorBytes lastB (be 16 k1)
    else xorBytes (fit 16 (lastB ++ [byte 0x80])) (be 16 (dbl k1))
  let c := (chunks 16 (n - 1) m).foldl (fun c b => aesBlock key (xorBytes c b)) (zeros 16)
  aesBlock key (xorBytes c lst)

/-- Multiplication in the field of GHASH: `n` bits of `y` from its most significant. -/
def ghMul : Nat → Nat → Nat → Nat
  | 0, _, _ => 0
  | n + 1, x, v => (if x.testBit n then v else 0) ^^^ ghMul n x (if v % 2 = 1 then (v / 2) ^^^ (0xE1 <<< 120) else v / 2)

def pad16 (b : Bytes) : Bytes := b ++ zeros ((16 - b.length % 16) % 16)

def ghash (h : Nat) (b : Bytes) : Nat :=
  (chunks 16 (b.length / 16) b).foldl (fun y c => ghMul 128 (y ^^^ beNat c) h) 0

/-- CTR keystream XOR from counter block `icb` (32-bit increment). -/
def ctr32 (key : Bytes) (pre : Bytes) (c : Nat) (m : Bytes) : Bytes :=
  ((List.range ((m.length + 15) / 16)).flatMap (fun i =>
    xorBytes (sub m (16 * i) 16) (aesBlock key (pre ++ be 4 ((c + i) % 2 ^ 32))))).take m.length

def gcmTag (key iv aad c : Bytes) : Bytes :=
  let h := beNat (aesBlock key (zeros 16))
  let s := ghash h (pad16 aad ++ pad16 c ++ be 8 (8 * aad.length) ++ be 8 (8 * c.length))
  xorBytes (aesBlock key (iv ++ be 4 1)) (be 16 s)

/-- AES-GCM with a 96-bit IV (SP 800-38D): ciphertext and tag. -/
def gcmSeal (key iv aad m : Bytes) : Bytes × Bytes :=
  let c := ctr32 key iv 2 m
  (c, gcmTag key iv aad c)

def gcmOpen (key iv aad c tag : Bytes) : Option Bytes :=
  if gcmTag key iv aad c = tag then some (ctr32 key iv 2 c) else none

/-- CCM* of IEEE 802.15.4 with a 13-byte nonce and a MIC of `t` bytes: the MIC before encryption. -/
def ccmMac (key nonce aad m : Bytes) (t : Nat) : Bytes :=
  let flags := byte ((if aad.length > 0 then 64 else 0) + (if t > 0 then 8 * ((t - 2) / 2) else 0) + 1)
  let a := if aad.length > 0 then pad16 (be 2 aad.length ++ aad) else []
  let d := [flags] ++ nonce ++ be 2 m.length ++ a ++ pad16 m
  ((chunks 16 (d.length / 16) d).foldl (fun c b => aesBlock key (xorBytes c b)) (zeros 16)).take t

def ccmCtr (key nonce : Bytes) (i : Nat) : Bytes := aesBlock key ([byte 1] ++ nonce ++ be 2 i)

def ccmCrypt (key nonce m : Bytes) : Bytes :=
  ((List.range ((m.length + 15) / 16)).flatMap (fun i =>
    xorBytes (sub m (16 * i) 16) (ccmCtr key nonce (i + 1)))).take m.length

def ccmSeal (key nonce aad m : Bytes) (t : Nat) : Bytes :=
  ccmCrypt key nonce m ++ xorBytes (ccmMac key nonce aad m t) (ccmCtr key nonce 0)

def ccmOpen (key nonce aad c : Bytes) (t : Nat) : Option Bytes :=
  let m := ccmCrypt key nonce (c.take (c.length - t))
  if t ≤ c.length ∧ xorBytes (ccmMac key nonce aad m t) (ccmCtr key nonce 0) = c.drop (c.length - t) then some m else none

/-! ### P-256 -/

def p256P : Nat := 0xffffffff00000001000000000000000000000000ffffffffffffffffffffffff
def p256N : Nat := 0xffffffff00000000ffffffffffffffffbce6faada7179e84f3b9cac2fc632551
def p256B : Nat := 0x5ac635d8aa3a93e7b3ebbd55769886bc651d06b0cc53b0f63bce3c3e27d2604b
def p256G : Nat × Nat :=
  (0x6b17d1f2e12c4247f8bce6e563a440f277037d812deb33a0f4a13945d898c296,
   0x4fe342e2fe1a7f9b8ee7eb4a7c0f9e162bce33576b315ececbb6406837bf51f5)

/-- a^e mod m over `n` bits of e. -/
def powMod (m : Nat) : Nat → Nat → Nat → Nat
  | 0, _, _ => 1 % m
  | n + 1, a, e => (if e % 2 = 1 then a else 1) * powMod m n (a * a % m) (e / 2) % m

def invMod (m a : Nat) : Nat := powMod m 256 (a % m) (m - 2)

/-- Affine addition; none is the point at infinity. -/
def ecAdd : Option (Nat × Nat) → Option (Nat × Nat) → Option (Nat × Nat)
  | none, q => q
  | p, none => p
  | some (x1, y1), some (x2, y2) =>
    let p := p256P
    if x1 = x2 ∧ (y1 + y2) % p = 0 then none
    else
      let l := if x1 = x2 then (3 * x1 * x1 + (p - 3)) * invMod p (2 * y1) % p
        else (y2 + p - y1) * invMod p (x2 + p - x1) % p
      let x3 := (l * l + 2 * p - x1 - x2) % p
      some (x3, (l * (x1 + p - x3) + p - y1) % p)

def ecMul : Nat → Nat → Option (Nat × Nat) → Option (Nat × Nat)
  | 0, _, _ => none
  | n + 1, k, q => ecAdd (if k % 2 = 1 then q else none) (ecMul n (k / 2) (ecAdd q q))

/-- A public key field: a point of the curve, X then Y in SEC 1 order (R91). -/
def ecPoint (b : Bytes) : Option (Nat × Nat) :=
  let x := beNat (b.take 32)
  let y := beNat ((b.drop 32).take 32)
  if x < p256P ∧ y < p256P ∧ y * y % p256P = (x * x * x + (p256P - 3) * x + p256B) % p256P then some (x, y) else none

def ecBytes (q : Option (Nat × Nat)) : Bytes :=
  match q with | some (x, y) => be 32 x ++ be 32 y | none => zeros 64

/-- The public key of a private scalar. -/
def ecPublic (d : Nat) : Bytes := ecBytes (ecMul 256 d (some p256G))

/-- The X coordinate of the ECDH product, none for a point off the curve or at infinity. -/
def ecdh (d : Nat) (pub : Bytes) : Option Bytes :=
  match ecPoint pub with
  | none => none
  | some q => match ecMul 256 d (some q) with | none => none | some (x, _) => some (be 32 x)

/-- ECDSA P-256 verification over the SHA-256 digest of `m` (R91). -/
def ecdsaOk (pub sig m : Bytes) : Bool :=
  match ecPoint pub with
  | none => false
  | some q =>
    let r := beNat (sig.take 32)
    let s := beNat ((sig.drop 32).take 32)
    let n := p256N
    if r = 0 ∨ n ≤ r ∨ s = 0 ∨ n ≤ s then false
    else
      let w := invMod n s
      match ecAdd (ecMul 256 (beNat (sha256 m) * w % n) (some p256G)) (ecMul 256 (r * w % n) (some q)) with
      | none => false
      | some (x, _) => x % n == r

end Sys2Proof.Machine
end

