-- ==== Sys2Proof/Machine/Flags.lean ====
section
/-! DEFINITION. Codes and flag words: statuses and details (Tables 2.13 and 2.14), event codes with their severity
(Tables 14.5, 15.9, 16.7, 17.5), fault sources (Table 14.1), and which events are notices (R446) or exempt (R447). -/

namespace Sys2Proof.Machine

/-! ### Status codes (Table 2.13) -/

abbrev stOk : Nat := 0x00
abbrev stAccepted : Nat := 0x01
abbrev stLate : Nat := 0x02
abbrev stSuperseded : Nat := 0x03
abbrev stBadOpcode : Nat := 0x10
abbrev stBadParam : Nat := 0x11
abbrev stBadLength : Nat := 0x12
abbrev stBadCrc : Nat := 0x13
abbrev stNotPermitted : Nat := 0x14
abbrev stLocked : Nat := 0x15
abbrev stInvalidDate : Nat := 0x16
abbrev stOutOfRange : Nat := 0x17
abbrev stBusy : Nat := 0x20
abbrev stTagInUse : Nat := 0x21
abbrev stDependencyFailed : Nat := 0x22
abbrev stCancelled : Nat := 0x23
abbrev stTimeout : Nat := 0x24
abbrev stUnreachable : Nat := 0x25
abbrev stJumpRefused : Nat := 0x26
abbrev stTooSoon : Nat := 0x27
abbrev stNotLeaseHolder : Nat := 0x30
abbrev stSafeState : Nat := 0x31
abbrev stKeyless : Nat := 0x32
abbrev stAuthFailed : Nat := 0x40
abbrev stRollbackRefused : Nat := 0x41
abbrev stImageBad : Nat := 0x42
abbrev stInternal : Nat := 0x50

/-- R42: a status below 0x10 reports success. -/
def success (status : Nat) : Bool := status < 0x10

/-! ### Generic detail codes (Table 2.14) -/

abbrev dNone : Nat := 0x00
abbrev dNotBegun : Nat := 0x01
abbrev dMeshPartial : Nat := 0x02
abbrev dContinuing : Nat := 0x03
abbrev dPartial : Nat := 0x04
abbrev dCoalesced : Nat := 0x05
abbrev dNoSuchTag : Nat := 0x06
abbrev dVersion : Nat := 0x10
abbrev dKind : Nat := 0x11
abbrev dReservedBit : Nat := 0x12
abbrev dRoleValue : Nat := 0x13
abbrev dTargetMismatch : Nat := 0x14
abbrev dTargetField : Nat := 0x15
abbrev dDepNeverUsed : Nat := 0x16
abbrev dDepSelf : Nat := 0x17
abbrev dFlagNotAllowed : Nat := 0x18
abbrev dDeadlineRange : Nat := 0x19
abbrev dLengthField : Nat := 0x1A
abbrev dLengthOpcode : Nat := 0x1B
abbrev dRoleBelow : Nat := 0x20
abbrev dRoleAbove : Nat := 0x21
abbrev dLifecycle : Nat := 0x22
abbrev dNoSession : Nat := 0x23

/-! ### Life-cycle codes (Table 3.4) -/

abbrev lcBlank : Nat := 1
abbrev lcTest : Nat := 2
abbrev lcProvisioned : Nat := 3
abbrev lcField : Nat := 4
abbrev lcReturn : Nat := 5
abbrev lcScrapped : Nat := 6

/-! ### Event codes (Table 14.5 and the tables of the chapters) -/

abbrev evCreditReturn : Nat := 0x0000
abbrev evLateCompletion : Nat := 0x0001
abbrev evCreditViolation : Nat := 0x0002
abbrev evIntakeFull : Nat := 0x0003
abbrev evReplyBacklog : Nat := 0x0004
abbrev evReplyHold : Nat := 0x0005
abbrev evTimeSourceChanged : Nat := 0x0101
abbrev evTimeHoldover : Nat := 0x0102
abbrev evTimeJumpRefused : Nat := 0x0103
abbrev evTimeStepped : Nat := 0x0104
abbrev evSpanRestarted : Nat := 0x0105
abbrev evRtcColdStart : Nat := 0x0106
abbrev evRtcValidated : Nat := 0x0107
abbrev evRtcStepped : Nat := 0x0108
abbrev evRtcAlarm : Nat := 0x0109
abbrev evRtcAlarmMissed : Nat := 0x010A
abbrev evLocalTableShort : Nat := 0x010B
abbrev evFallbackActive : Nat := 0x010C
abbrev evFallbackReleased : Nat := 0x010D
abbrev evFallbackSwitch : Nat := 0x010E
abbrev evThermalThrottle : Nat := 0x0201
abbrev evWake : Nat := 0x0202
abbrev evResetCause : Nat := 0x0203
abbrev evPmicStartupFault : Nat := 0x0204
abbrev evIoBankFault : Nat := 0x0205
abbrev evBeaconSuppressed : Nat := 0x0301
abbrev evJoinRefused : Nat := 0x0302
abbrev evLanternSilent : Nat := 0x0303
abbrev evRadioPortReset : Nat := 0x0304
abbrev evPlacementShortfall : Nat := 0x0401
abbrev evPolicyForward : Nat := 0x0402
abbrev evPolicyReport : Nat := 0x0403
abbrev evSensorReport : Nat := 0x0404
abbrev evBankRetired : Nat := 0x0405
abbrev evLdFault : Nat := 0x0501
abbrev evLdFaultClear : Nat := 0x0502
abbrev evMeterClockGap : Nat := 0x0601
abbrev evSaveIncomplete : Nat := 0x0602
abbrev evMeterTotalsRestored : Nat := 0x0603
abbrev evMeterRestart : Nat := 0x0604
abbrev evMeterPaused : Nat := 0x0605
abbrev evPulseOutputOverflow : Nat := 0x0606
abbrev evFeederEnergised : Nat := 0x0607
abbrev evFeederDeenergised : Nat := 0x0608
abbrev evReconAlarm : Nat := 0x0609
abbrev evReconClear : Nat := 0x060A
abbrev evReconOverReport : Nat := 0x060B
abbrev evMetrologyChanged : Nat := 0x060C
abbrev evMeterPulseGap : Nat := 0x060D
abbrev evUpdateBegun : Nat := 0x0701
abbrev evUpdateFailed : Nat := 0x0702
abbrev evUpdateActivated : Nat := 0x0703
abbrev evUpdateConfirmed : Nat := 0x0704
abbrev evUpdateReverted : Nat := 0x0705
abbrev evSettingsMigrated : Nat := 0x0706
abbrev evRecoveryEntered : Nat := 0x0707
abbrev evRolloutDone : Nat := 0x0708
abbrev evTamperDetected : Nat := 0x0801
abbrev evKeysErased : Nat := 0x0802
abbrev evKeylessEntered : Nat := 0x0803
abbrev evKeylessLeft : Nat := 0x0804
abbrev evLifecycleChanged : Nat := 0x0805
abbrev evDebugUnlocked : Nat := 0x0806
abbrev evKeyLoaded : Nat := 0x0807
abbrev evKeyRetired : Nat := 0x0808
abbrev evKeyExhausted : Nat := 0x0809
abbrev evAuthFailure : Nat := 0x080A
abbrev evUnitKaPublic : Nat := 0x080B
abbrev evTamperPolicyChanged : Nat := 0x080C
abbrev evKeyStoreRewrapped : Nat := 0x080D
abbrev evEventLogCleared : Nat := 0x0980
abbrev evEventsLost : Nat := 0x0981
abbrev evSafeStateEntered : Nat := 0x0982
abbrev evFaultAcknowledged : Nat := 0x0983
abbrev evTwinLinkUp : Nat := 0x0A01
abbrev evTwinLinkDown : Nat := 0x0A02
abbrev evLeaseConflict : Nat := 0x0A03
abbrev evLeaseReleased : Nat := 0x0A04
abbrev evTakeover : Nat := 0x0A05
abbrev evUnknownCommand : Nat := 0x0A06
abbrev evSelftestFail : Nat := 0x0B01
abbrev evSelftestSweepDone : Nat := 0x0B02
abbrev evSelftestRestored : Nat := 0x0B03
abbrev evScanEntered : Nat := 0x0B04
abbrev evJointFlushed : Nat := 0x0C01

/-! ### Severities (Table 14.4, R445) -/

abbrev sevInfo : Nat := 1
abbrev sevNotice : Nat := 2
abbrev sevWarning : Nat := 3
abbrev sevError : Nat := 4
abbrev sevCritical : Nat := 5

/-- The codes Table 14.5 and the chapter tables mark WARNING. -/
def warningCodes : List Nat :=
  [evCreditViolation, evIntakeFull, evReplyHold, evTimeJumpRefused, evSpanRestarted, evRtcColdStart, evRtcAlarmMissed,
   evFallbackActive, evThermalThrottle, evPmicStartupFault, evIoBankFault, evLanternSilent, evRadioPortReset] ++
  [evPlacementShortfall, evBankRetired, evLdFault, evMeterClockGap, evSaveIncomplete, evMeterTotalsRestored,
   evMeterRestart, evPulseOutputOverflow, evReconAlarm, evReconOverReport, evMeterPulseGap, evUpdateFailed] ++
  [evUpdateReverted, evRecoveryEntered, evTamperDetected, evKeysErased, evKeylessEntered, evLifecycleChanged,
   evDebugUnlocked, evKeyExhausted, evAuthFailure, evTamperPolicyChanged, evEventLogCleared, evEventsLost] ++
  [evTwinLinkDown, evLeaseConflict, evTakeover, evUnknownCommand, evSelftestFail, evSelftestRestored, evScanEntered,
   evJointFlushed]

def infoCodes : List Nat := [evReplyBacklog, evWake, evPolicyReport, evSensorReport, evUnitKaPublic]

/-- The severity of a non-fault event (R445). -/
def severityOf (code : Nat) : Nat :=
  if code = evSafeStateEntered then sevCritical
  else if warningCodes.contains code then sevWarning
  else if infoCodes.contains code then sevInfo
  else sevNotice

/-- Codes sent as notices whatever their severity (R446). -/
def noticeCodes : List Nat :=
  [evLateCompletion, evReplyBacklog, evPolicyForward, evSensorReport, evRtcAlarm, evFaultAcknowledged]

/-- R446: an event of WARNING or above, or of a listed code, is also a notice. -/
def isNotice (code severity : Nat) : Bool := sevWarning ≤ severity || noticeCodes.contains code

/-- Notices that go only to the session they concern (R446). -/
def sessionOnly (code : Nat) : Bool :=
  [evLateCompletion, evCreditViolation, evIntakeFull, evReplyBacklog, evReplyHold].contains code

/-- Notices sent even when their record is suppressed (R447). -/
def noticeAlways (code : Nat) : Bool :=
  [evLateCompletion, evCreditViolation, evIntakeFull, evTakeover, evUnknownCommand].contains code

/-! ### Fault sources (Table 14.1) -/

abbrev srcMainSram : Nat := 0x01
abbrev srcAbutSram : Nat := 0x02
abbrev srcMram : Nat := 0x03
abbrev srcFlash : Nat := 0x04
abbrev srcFabric : Nat := 0x05
abbrev srcApp0Wdt : Nat := 0x06
abbrev srcApp1Wdt : Nat := 0x07
abbrev srcMacWdt : Nat := 0x08
abbrev srcSecWdt : Nat := 0x09
abbrev srcRadioLate : Nat := 0x0A
abbrev srcRadioPortFailed : Nat := 0x0B
abbrev srcJointOverrun : Nat := 0x0C
abbrev srcSettingLocked : Nat := 0x0D
abbrev srcPmicAlert : Nat := 0x0E
abbrev srcPmicAckTimeout : Nat := 0x0F
abbrev srcPmicPgoodLost : Nat := 0x10
abbrev srcPllUnlock : Nat := 0x11
abbrev srcCrystalFail : Nat := 0x12
abbrev srcThermalLimit : Nat := 0x13
abbrev srcKeystoneMisuse : Nat := 0x14
abbrev srcInternalError : Nat := 0x15
abbrev srcPendingOverflow : Nat := 0x16
abbrev srcEscalation : Nat := 0x17
abbrev srcParapetParity : Nat := 0x18

abbrev clsCE : Nat := 1
abbrev clsUC : Nat := 2
abbrev clsFT : Nat := 3

/-- Sources that can raise a class (Table 14.1). -/
def ceSources : List Nat := [0x01, 0x02, 0x03, 0x04, 0x0A, 0x0C, 0x0D, 0x0E]
def ucSources : List Nat := [0x01, 0x02, 0x03, 0x04, 0x05, 0x06, 0x07, 0x08, 0x0B, 0x11, 0x14, 0x15]
def ftSources : List Nat := [0x09, 0x0F, 0x10, 0x12, 0x13, 0x16, 0x17, 0x18]

/-- R431: the classes a source can raise. -/
def canRaise (source cls : Nat) : Bool :=
  if cls = clsCE then ceSources.contains source
  else if cls = clsUC then ucSources.contains source
  else cls == clsFT && ftSources.contains source

/-- R432: the event code of a fault. -/
def faultCode (source : Nat) : Nat := 0x0900 + source

/-- R432: the severity of a fault's class. -/
def faultSeverity (cls : Nat) : Nat := if cls = clsCE then sevWarning else if cls = clsUC then sevError else sevCritical

/-- R117, R447: codes that are never rate-limited. -/
def rateExempt (code : Nat) : Bool :=
  code == evEventLogCleared || code == evSafeStateEntered || (ftSources.map faultCode).contains code

/-- Event source field (Table 14.4). -/
abbrev sourceModule : Nat := 0x1000
def sourceLantern (n : Nat) : Nat := 0x2000 + n
def sourceSession (n : Nat) : Nat := 0xF000 + n

end Sys2Proof.Machine
end

