-- ==== Sys2Proof/Machine/Tables.lean ====
section
/-! DEFINITION. The settings of the module (Tables 1.9, 4.11, 5.14, 7.9, 8.5, 9.4, 10.11, 11.10, 12.10, 13.3, 14.6, 15.8,
16.6, 17.4, 19.4) and the opcodes with their intake limits (Table 3.3, R89, R90). -/

namespace Sys2Proof.Machine

/-- Change classes (R24). -/
inductive SetClass where
  | s | l | i
deriving DecidableEq, Repr, Inhabited

/-- What a field of a setting may hold. -/
inductive FieldRange where
  | between (lo hi : Nat)
  /-- a two's complement field of the given width -/
  | signed (w : Nat) (lo hi : Int)
  | codes (l : List Nat)
deriving Repr, Inhabited

def FieldRange.ok (r : FieldRange) (v : Nat) : Bool :=
  match r with
  | .between lo hi => lo ≤ v && v ≤ hi
  | .signed w lo hi => lo ≤ toS w v && toS w v ≤ hi
  | .codes l => l.contains v

/-- One row of a settings table: the IDs first to first + count − 1, width, Reset, class, the ranges of its fields by
their bits, its reserved bits. -/
structure SettingInfo where
  first : Nat
  count : Nat
  width : Nat
  reset : Nat
  cls : SetClass
  fields : List (Nat × Nat × FieldRange)
  reserved : List (Nat × Nat)
deriving Repr, Inhabited

def mkSet (first count width reset : Nat) (cls : SetClass) (lo hi : Nat) : SettingInfo :=
  { first := first, count := count, width := width, reset := reset, cls := cls,
    fields := [(width - 1, 0, .between lo hi)], reserved := [] }

def mkSigned (first count width reset : Nat) (cls : SetClass) (lo hi : Int) : SettingInfo :=
  { first := first, count := count, width := width, reset := reset, cls := cls,
    fields := [(width - 1, 0, .signed width lo hi)], reserved := [] }

def mkCodes (first count width reset : Nat) (cls : SetClass) (l : List Nat) : SettingInfo :=
  { first := first, count := count, width := width, reset := reset, cls := cls,
    fields := [(width - 1, 0, .codes l)], reserved := [] }

def mkFields (first count width reset : Nat) (cls : SetClass) (fs : List (Nat × Nat × FieldRange))
    (rs : List (Nat × Nat)) : SettingInfo :=
  { first := first, count := count, width := width, reset := reset, cls := cls, fields := fs, reserved := rs }

/-- Tables 8.5 and 9.4. -/
def timeSettings : List SettingInfo :=
  [mkSet 0x0101 1 32 1000 .s 10 1000000, mkSet 0x0102 1 1 0 .s 0 1, mkSet 0x0103 1 8 10 .s 1 200,
   mkSet 0x0104 1 32 60000 .s 1000 3600000, mkSigned 0x0105 1 16 37 .s 0 100,
   mkFields 0x0106 1 32 0 .s [(17, 16, .between 0 2)] [(31, 18)], mkSet 0x0107 1 8 0 .l 0 127,
   mkCodes 0x0108 1 8 1 .l [1, 2, 3], mkSigned 0x0109 1 32 0 .s (-1000000) 1000000] ++
  [mkSet 0x010A 1 32 0 .s 0 0xFFFFFFFF, mkSet 0x010B 1 32 0 .s 0 0xFFFFFFFF, mkCodes 0x010C 1 8 2 .l [1, 2, 3, 4, 5, 6],
   mkSet 0x010D 1 1 0 .l 0 1, mkSigned 0x010E 1 16 0 .s (-32768) 32767, mkSet 0x010F 1 1 1 .i 0 1, mkSet 0x0110 1 1 0 .l 0 1,
   mkSigned 0x0111 1 16 0 .i (-2000) 2000, mkSet 0x0112 1 1 1 .s 0 1, mkSet 0x0113 1 16 2000 .i 500 60000,
   mkCodes 0x0114 1 8 1 .i [1, 2, 3]]

/-- Table 12.10. -/
def powerSettings : List SettingInfo :=
  [mkCodes 0x0201 1 8 3 .s [0, 1, 2, 3], mkFields 0x0202 1 8 1 .s [] [(7, 2)], mkCodes 0x0203 1 8 1 .s [1, 2, 3],
   mkSet 0x0204 1 32 500 .s 0 100000, mkCodes 0x0205 1 8 0 .s [0, 1, 2], mkSet 0x0206 1 32 900 .s 0 86400,
   mkSet 0x0207 1 32 5000 .s 100 600000, mkFields 0x0208 1 8 0x0A .s [] [(7, 4)], mkSet 0x0209 1 8 0x40 .s 0x08 0x77,
   mkCodes 0x020A 1 8 2 .s [1, 2], mkSet 0x020B 1 16 146 .s 20 800]

/-- Tables 1.9, 4.11 and 5.14. -/
def macSettings : List SettingInfo :=
  [mkSet 0x0301 1 16 0 .l 0 0xFFFE, mkCodes 0x0302 1 8 0 .l [0, 1], mkSet 0x0303 1 8 7 .s 0 7, mkSet 0x0304 1 8 1 .s 0 6,
   mkSet 0x0305 1 8 4 .s 0 6, mkSet 0x0306 1 8 14 .s 1 31, mkSet 0x0307 1 8 30 .s 21 90, mkSet 0x0308 1 16 384 .s 0 2560,
   mkSet 0x0309 1 8 10 .s 1 50, mkSet 0x030A 1 1 1 .i 0 1, mkSet 0x030B 1 16 0xFFFF .l 0 0xFFFF] ++
  [mkSet 0x0400 1 40 0xFFFFFFFFFF .l 0 0xFFFFFFFFFF, mkSet 0x0401 1 32 300 .s 60 86400, mkSet 0x0402 1 16 10 .s 1 3600,
   mkSet 0x0403 1 16 30 .s 0 3600, mkSet 0x0404 1 8 80 .s 30 99, mkSet 0x0405 1 8 10 .s 1 30, mkSet 0x0406 1 8 16 .l 4 32,
   mkSet 0x0407 1 16 120 .s 76 600, mkSet 0x0408 1 1 1 .s 0 1]

/-- Tables 7.9 and 7.10. -/
def lampSettings : List SettingInfo :=
  [mkSet 0x0500 1 1 0 .i 0 1, mkSet 0x0501 1 16 0 .s 0 65535, mkSet 0x0502 1 16 4 .s 2 1024,
   mkCodes 0x0503 1 8 3 .s [1, 2, 3, 4], mkSet 0x0504 1 32 1638400 .s 100000 10000000, mkSet 0x0505 1 32 0 .s 0 0xFFFFFFFF,
   mkSet 0x0506 1 16 20 .s 5 1000, mkSet 0x0507 1 8 1 .s 0 3, mkCodes 0x0508 1 8 0 .i [0, 1], mkSet 0x0509 1 16 10 .s 1 1000,
   mkSet 0x050A 1 16 60 .s 0 3600,
   mkFields 0x0520 24 32 0x0F00 .s
     [(4, 1, .between 0 8), (7, 5, .between 0 6), (11, 8, .codes [0, 1, 2, 3, 4, 5, 6, 7, 15])] [(15, 13)]]

/-- Table 10.11. -/
def meterSettings : List SettingInfo :=
  [mkSet 0x0600 1 1 0 .i 0 1, mkFields 0x0601 1 8 0x31 .l [(3, 0, .codes [1, 2])] [(7, 6)], mkCodes 0x0602 1 8 1 .l [1, 2],
   mkCodes 0x0603 1 8 1 .l [1, 2], mkSet 0x0604 1 16 2300 .l 1000 4800, mkSet 0x0605 1 32 63000 .l 1000 1000000,
   mkSet 0x0606 1 32 65000 .l 1000 200000, mkSet 0x0607 1 32 100000 .l 1000 2000000, mkSet 0x0608 1 32 100000 .l 1000 2000000,
   mkSet 0x0609 1 32 10000 .l 100 1000000] ++
  [mkSet 0x0610 8 32 0x40000000 .s 0x20000000 0x60000000, mkSigned 0x0618 8 24 0 .s (-838860) 838860,
   mkSigned 0x0620 3 16 0 .s (-3000) 3000, mkSet 0x0630 1 16 1150 .s 100 4800,
   mkCodes 0x0640 4 8 0xFF .s (List.range 20 ++ [0xFF]), mkSet 0x0644 4 32 1000 .s 1 100000, mkSet 0x0648 4 8 30 .s 10 250,
   mkSet 0x064C 1 4 0 .s 0 15, mkSet 0x0650 4 8 20 .i 1 128, mkSet 0x0654 4 32 0 .s 0 1000000, mkSet 0x0658 1 4 0 .s 0 15] ++
  [mkSet 0x0660 3 16 0 .s 0 65535, mkSet 0x0663 1 16 0 .s 0 65535, mkSet 0x0664 1 16 30 .s 0 1000,
   mkSet 0x0665 1 16 200 .s 0 65535, mkSet 0x0666 1 8 10 .s 0 100, mkSet 0x0667 1 8 1 .s 1 16]

/-- Tables 16.6, 15.8, 14.6 and 11.10. FAULT_DEADLINE_n is 0 or 1 to 1,000. -/
def guardSettings : List SettingInfo :=
  [mkSet 0x0701 1 32 2592000 .l 0 31536000, mkSet 0x0702 1 16 32 .i 1 512, mkSet 0x0801 1 1 1 .l 0 1,
   mkSet 0x0802 1 8 20 .l 1 255, mkSet 0x0803 1 1 0 .l 0 1, mkSet 0x0804 1 8 16 .i 4 255] ++
  [mkSet 0x0901 1 16 50 .s 1 1000, mkSet 0x0902 1 16 10 .s 0 3600, mkSet 0x0903 1 8 3 .s 1 16, mkSet 0x0904 1 16 100 .s 10 10000,
   mkSet 0x0905 1 16 20 .s 5 1000, mkSet 0x0941 24 16 0 .s 0 1000] ++
  [mkSet 0x0A00 1 1 0 .s 0 1, mkSet 0x0A01 1 32 3000 .s 2000 30000, mkSet 0x0A02 1 1 0 .s 0 1, mkSet 0x0A03 1 1 1 .s 0 1,
   mkSet 0x0A04 1 8 8 .s 2 30]

/-- Tables 17.4, 13.3 and 19.4. -/
def queueSettings : List SettingInfo :=
  [mkSet 0x0B01 1 16 24 .s 0 168, mkCodes 0x0B02 1 8 1 .s [1, 2], mkSet 0x0B03 1 32 2000 .s 100 20000,
   mkSet 0x0B04 1 16 1000 .s 10 60000, mkFields 0x0B05 1 8 3 .s [] [(7, 3)]] ++
  [mkSet 0x0C00 1 8 75 .s 10 95, mkSet 0x0C01 1 8 50 .s 5 90, mkSet 0x0C02 1 16 2032 .s 64 16384, mkSet 0x0C10 4 8 75 .s 10 95,
   mkSet 0x0C14 4 8 50 .s 5 90, mkSet 0x0C20 1 32 0 .s 0 0xFFFFFFFF, mkSet 0x0C21 1 8 24 .s 8 30,
   mkSet 0x0C22 1 32 0 .s 0 0xFFFFFFFF, mkCodes 0x0C23 1 8 1 .s [0, 1, 2]]

def settingTable : List SettingInfo :=
  timeSettings ++ powerSettings ++ macSettings ++ lampSettings ++ meterSettings ++ guardSettings ++ queueSettings

/-- The row of a setting ID. -/
def settingInfo (id : Nat) : Option SettingInfo :=
  settingTable.find? (fun r => r.first ≤ id && id < r.first + r.count)

/-- The block of a setting: the high byte of its ID. -/
def blockOf (id : Nat) : Nat := id / 256

/-- R95: the minimum role for writing a block (Table 3.6): 2 ENGINEER, 3 ADMIN. -/
def blockRole (block : Nat) : Nat := if block = 6 ∨ block = 7 ∨ block = 8 then 3 else 2

/-- The bounds of R561: (the setting whose Meaning states the bound, the other setting, whether equality is allowed):
the first must be below (or at most) the second. -/
def settingBounds : List (Nat × Nat × Bool) :=
  [(0x0405, 0x0404, false), (0x0304, 0x0305, true), (0x0505, 0x0504, false), (0x0C01, 0x0C00, false),
   (0x0C14, 0x0C10, false), (0x0C15, 0x0C11, false), (0x0C16, 0x0C12, false), (0x0C17, 0x0C13, false)]

/-! ### Opcodes -/

/-- Target use codes (Table 3.1). -/
inductive TargetUse where
  | none | span | one | sel | loc | all | oneOrLocal
deriving DecidableEq, Repr, Inhabited

/-- One row of Table 3.3, with the parameter lengths it allows under some value: base, step, and how many steps. -/
structure OpInfo where
  code : Nat
  role : Nat
  deadline : Nat
  target : TargetUse
  standby : Bool
  keyless : Bool
  lens : List (Nat × Nat × Nat × Nat)
deriving Repr, Inhabited

def len (n : Nat) : List (Nat × Nat × Nat × Nat) := [(n, 1, 0, 0)]

def mkOp (code role deadline : Nat) (t : TargetUse) (standby keyless : Bool)
    (lens : List (Nat × Nat × Nat × Nat)) : OpInfo :=
  { code := code, role := role, deadline := deadline, target := t, standby := standby, keyless := keyless, lens := lens }

def opsSystem : List OpInfo :=
  [mkOp 0x0001 1 1000 .none false false [(0, 1, 0, 4068)], mkOp 0x0002 1 1000 .none false false (len 0),
   mkOp 0x0003 2 1000 .none false false (len 4), mkOp 0x0004 1 60000 .none false false (len 4),
   mkOp 0x0005 1 1000 .none false false [(4, 4, 0, 65535)], mkOp 0x0006 2 1000 .none false false [(4, 12, 0, 65535)],
   mkOp 0x0007 2 5000 .none false false (len 4), mkOp 0x0008 1 1000 .none false false (len 4),
   mkOp 0x0009 1 5000 .none false false (len 20)] ++
  [mkOp 0x0101 1 1000 .none false false (len 0), mkOp 0x0102 2 2000 .none true false (len 12),
   mkOp 0x0103 2 2000 .none true false (len 24), mkOp 0x0104 2 2000 .none false false (len 8),
   mkOp 0x0105 2 1000 .none true false (len 16), mkOp 0x0106 1 1000 .none false false (len 24),
   mkOp 0x0107 2 2000 .none true false [(8, 16, 0, 65535)], mkOp 0x0108 2 2000 .none true false (len 1472)] ++
  [mkOp 0x0201 2 5000 .none true false (len 8), mkOp 0x0202 1 1000 .none false false (len 0),
   mkOp 0x0203 1 1000 .none false false (len 4)]

def opsMesh : List OpInfo :=
  [mkOp 0x0301 2 5000 .span true true (len 0), mkOp 0x0302 2 5000 .span true false (len 0),
   mkOp 0x0303 2 30000 .one true true (len 36), mkOp 0x0304 2 30000 .one true false (len 4),
   mkOp 0x0305 1 30000 .sel false false (len 8), mkOp 0x0306 2 30000 .sel true true [(8, 1, 1, 4060)],
   mkOp 0x0307 1 1000 .span false false (len 8), mkOp 0x0308 2 30000 .span true true [(8, 1, 1, 4060)],
   mkOp 0x0309 3 5000 .none true false [(84, 4, 0, 1000)], mkOp 0x030A 1 1000 .none false false (len 0),
   mkOp 0x030B 3 5000 .none true false [(4, 1, 0, 4064)]] ++
  [mkOp 0x0401 2 10000 .span true false [(64, 16, 0, 250)], mkOp 0x0402 2 10000 .span true false (len 4),
   mkOp 0x0403 1 1000 .span false false (len 8), mkOp 0x0404 1 1000 .span false false (len 8),
   mkOp 0x0405 2 10000 .span true false (len 8), mkOp 0x0406 2 10000 .span true false (len 4),
   mkOp 0x0407 1 10000 .sel true false (len 8)] ++
  [mkOp 0x0501 1 5000 .all true false (len 12 ++ len 22), mkOp 0x0502 2 30000 .span true false [(4, 16, 0, 254)],
   mkOp 0x0503 1 5000 .span true false (len 16), mkOp 0x0504 2 30000 .oneOrLocal true false [(4, 12, 0, 255)],
   mkOp 0x0505 2 1000 .loc true false (len 8), mkOp 0x0506 1 5000 .all false false (len 8)]

def opsMeter : List OpInfo :=
  [mkOp 0x0601 3 2000 .span true false (len 28), mkOp 0x0602 1 1000 .span false false (len 0),
   mkOp 0x0603 1 1000 .span false false (len 0), mkOp 0x0604 3 2000 .span true false (len 12),
   mkOp 0x0605 1 1000 .span false false (len 4), mkOp 0x0606 1 1000 .span false false (len 8),
   mkOp 0x0607 3 60000 .span true false (len 20)] ++
  [mkOp 0x0701 3 5000 .none false false (len 516), mkOp 0x0702 3 5000 .none false false [(8, 1, 1, 1024)],
   mkOp 0x0703 1 1000 .none false false (len 0), mkOp 0x0704 3 10000 .none false false (len 4),
   mkOp 0x0705 3 5000 .none false false (len 4), mkOp 0x0706 3 5000 .none false false (len 4),
   mkOp 0x0707 2 60000 .span true false (len 8 ++ [(16, 1, 1, 1024)]), mkOp 0x0708 2 60000 .sel true true (len 8)] ++
  [mkOp 0x0801 3 2000 .none false false (len 140), mkOp 0x0802 3 2000 .none false false (len 4),
   mkOp 0x0803 3 10000 .none false false (len 148), mkOp 0x0804 3 2000 .none false false (len 4),
   mkOp 0x0805 3 5000 .none false false (len 4 ++ len 132), mkOp 0x0806 1 1000 .none false false (len 0)]

def opsGuard : List OpInfo :=
  [mkOp 0x0901 1 1000 .none false false (len 0), mkOp 0x0902 2 1000 .none false false (len 4),
   mkOp 0x0903 1 2000 .none false false (len 8), mkOp 0x0904 3 5000 .none false false (len 4 ++ len 136),
   mkOp 0x0905 2 1000 .none false false (len 8), mkOp 0x0906 4 1000 .none false false (len 8)] ++
  [mkOp 0x0A01 1 1000 .none false false (len 0), mkOp 0x0A02 2 2000 .none false false (len 8),
   mkOp 0x0A03 2 40000 .none true false (len 4), mkOp 0x0B01 2 600000 .none false false (len 8),
   mkOp 0x0B02 1 1000 .none false false (len 4), mkOp 0x0B03 2 2000 .none true false (len 8),
   mkOp 0x0C01 2 1000 .none true false (len 8), mkOp 0x0C02 1 1000 .none false false (len 0)]

/-- Table 3.3. -/
def opTable : List OpInfo := opsSystem ++ opsMesh ++ opsMeter ++ opsGuard

def opInfo (code : Nat) : Option OpInfo := opTable.find? (fun r => r.code == code)

/-- R90: some value of the parameters allows this length. -/
def OpInfo.lenOk (o : OpInfo) (n : Nat) : Bool :=
  o.lens.any (fun r => r.1 ≤ n && (n - r.1) % r.2.1 == 0 && r.2.2.1 ≤ (n - r.1) / r.2.1 && (n - r.1) / r.2.1 ≤ r.2.2.2)

/-- Flag bits (Table 2.1). -/
abbrev flOrdered : Nat := 0
abbrev flFence : Nat := 1
abbrev flDep : Nat := 2
abbrev flQuiet : Nat := 3
abbrev flShadow : Nat := 4

/-- R78, R89: flags an opcode permits. -/
def flagsOk (opcode flags : Nat) : Bool :=
  (flags.testBit flShadow → opcode = 0x0005) &&
  (opcode = 0x0008 → !(flags.testBit flOrdered || flags.testBit flFence || flags.testBit flDep)) &&
  (opcode = 0x0004 → !(flags.testBit flOrdered || flags.testBit flFence || flags.testBit flDep)) &&
  (opcode = 0x0009 → flags = 0)

/-- R473: opcodes a session of the keyless procedure may use. -/
def keylessOps : List Nat :=
  [0x0001, 0x0002, 0x0003, 0x0004, 0x0008, 0x0005, 0x0101, 0x0806, 0x0901, 0x0903, 0x0801, 0x0803, 0x0805]

end Sys2Proof.Machine
end

