-- ==== Sys2Proof/Machine/Ops.lean ====
section
/-! DEFINITION. The named operations every command uses: changing one part of the state, settings and roles, the event
recorder and the parapet, sessions with their credits and packets, completion of commands, entry to safe state. -/

namespace Sys2Proof.Machine

/-- What a meaning answers. -/
abbrev Res := Host.Outcome State Fault Refusal

/-! ### Changing one part of the state -/

def State.modTime (s : State) (f : TimeUnit → TimeUnit) : State := { s with time := f s.time }
def State.modRtc (s : State) (f : Rtc → Rtc) : State := { s with rtc := f s.rtc }
def State.modFb (s : State) (f : Fallback → Fallback) : State := { s with fb := f s.fb }
def State.modSet (s : State) (f : SettingsSt → SettingsSt) : State := { s with set := f s.set }
def State.modHost (s : State) (f : HostSide → HostSide) : State := { s with host := f s.host }
def State.modPar (s : State) (f : Parapet → Parapet) : State := { s with par := f s.par }
def State.modPwr (s : State) (f : PowerSt → PowerSt) : State := { s with pwr := f s.pwr }
def State.modMac (s : State) (f : MacSt → MacSt) : State := { s with mac := f s.mac }
def State.modTruss (s : State) (f : TrussSt → TrussSt) : State := { s with truss := f s.truss }
def State.modLamp (s : State) (f : LampSt → LampSt) : State := { s with lamp := f s.lamp }
def State.modMeter (s : State) (f : MeterSt → MeterSt) : State := { s with meter := f s.meter }
def State.modTwin (s : State) (f : TwinSt → TwinSt) : State := { s with twin := f s.twin }
def State.modOtp (s : State) (f : Otp → Otp) : State := { s with otp := f s.otp }
def State.modSec (s : State) (f : SecSt → SecSt) : State := { s with sec := f s.sec }
def State.modUpd (s : State) (f : UpdateSt → UpdateSt) : State := { s with upd := f s.upd }
def State.modBist (s : State) (f : SelfTestSt → SelfTestSt) : State := { s with bist := f s.bist }
def State.modBoot (s : State) (f : BootSt → BootSt) : State := { s with boot := f s.boot }
def State.modOut (s : State) (f : Outputs → Outputs) : State := { s with out := f s.out }

/-- A number or bytes of the security core's generator: the draw counter advances. -/
def State.draw (s : State) : State := { s with freeIdx := s.freeIdx + 1 }
def State.rnd (s : State) (k : Nat) : Bytes := fit k (Config.freeBytes s.freeIdx)

def ms : Nat := 1000000
def us : Nat := 1000
def sec : Nat := 1000000000

/-- Span time in whole ns. -/
def State.spanNs (s : State) : Nat := stTotNs s.time.spanT

/-! ### Settings as read -/

/-- The Reset column, or for RTC_TRIM the OTP factory trim (Table 9.4). -/
def settingReset (s : State) (id : Nat) : Nat :=
  if id = 0x0111 then ofS 16 s.otp.rtcTrim
  else match settingInfo id with | some r => r.reset | none => 0

/-- The live value of a setting (R32). -/
def State.live (s : State) (id : Nat) : Nat :=
  match get? s.set.live id with | some v => v | none => settingReset s id

/-- The shadow of a setting (R26). -/
def State.shadow (s : State) (id : Nat) : Nat :=
  match get? s.set.shadow id with | some v => v | none => s.live id

def State.liveS (s : State) (w id : Nat) : Int := toS w (s.live id)

/-! ### Conditions of the module -/

/-- An I/O bank is good: 0 VIO_R, 1 VIO_N, 2 VIO_L. The inputs of a bank that is not good are ignored (R542). -/
def bankGood (k : Nat) (s : State) : Bool := match s.boot.banks[k]? with | some b => b.good | none => false

/-- An input of a bank reaches the module. -/
def onBank (k : Nat) (f : State → State) (s : State) : State := if bankGood k s then f s else s

/-- The clocks of the DECK are stopped: SLUMBER, its entry and its exit (Tables 12.1, 12.4 and 12.5). -/
def PowerSt.stopped (p : PowerSt) : Bool :=
  p.state == .slumber || (match p.trans with | some (.opPoint _) => false | some _ => true | none => false)

/-- What SLUMBER has counted since its entry, ns: the crystal's cycles of 25 ns while METER or LAMP is kept, else RTC ticks (R303). -/
def slumberNs (s : State) : Nat :=
  if s.live 0x0202 % 4 = 0 then (s.rtc.ticks - s.pwr.slumberTicks) * sec / tickHz
  else (s.now - s.pwr.slumberAt) / 25 * 25

/-- Span time in ns at this instant, in SLUMBER too (R303). -/
def State.spanNow (s : State) : Nat := if s.pwr.stopped then stTotNs s.pwr.slumberSpan + slumberNs s else s.spanNs

/-- The time since the last slot start: a cycle starts on a whole second, so slots start at each 10 ms of span time (R22, R161). While
the span is stopped the grid is the same (DEDUCED, log entry 153). -/
def State.intoSlot (s : State) : Nat := s.spanNow % (10 * ms)

/-- The span time of the METER domain (R336, R337). -/
def State.meterTime (s : State) : Nat := if s.pwr.stopped then ofNs s.spanNow else s.time.spanT

/-- Firmware executes: started, not in safe state, its clocks running, its cores not halted over DBG. -/
def State.fwUp (s : State) : Bool := s.boot.phase == .firmware && !s.par.safe && !s.pwr.stopped && !s.bist.coresHalted

/-- A twin member without the lease (R88, R371). -/
def State.standby (s : State) : Bool := s.twin.latch && !s.twin.interlock

/-- Lease holder, or a module without a twin. -/
def State.holder (s : State) : Bool := !s.standby

/-- The root in use is the test root (R466). -/
def State.testRoot (s : State) : Bool := s.otp.lifecycle = lcTest || (s.otp.lifecycle = lcReturn && s.sec.debugUnlocked)

/-- Debug is enabled (R466). -/
def State.debugEnabled (s : State) : Bool := s.testRoot

def testRootBytes : Bytes := sha256 (ascii "DORUA-TEST-ROOT")

/-- The root of every derivation; none on a scrapped module (R465). -/
def State.root (s : State) : Option Bytes :=
  if s.otp.rootKilled then none else if s.testRoot then some testRootBytes else some s.otp.rootSecret

/-- The payload of a firmware slot as programmed (R479, R483). -/
def SlotImg.payload (i : SlotImg) : Bytes := i.frags.flatMap (·.2)

def UpdateSt.slot (u : UpdateSt) (k : Nat) : SlotImg := if k = 0 then u.slotA else u.slotB

/-- The slot the module booted: the trial slot once a trial boot has been counted, else the active slot (R489). -/
def UpdateSt.booted (u : UpdateSt) : Nat :=
  match u.boot.trial with | some (k, n) => if n = 0 then u.boot.active else k | none => u.boot.active

/-- The full boot measurement: SHA-256 over the ROM stage and the active slot (R460). -/
def measureOf (romMeasure : Bytes) (i : SlotImg) : Bytes := sha256 (romMeasure ++ i.header ++ i.payload)

def State.measure (s : State) : Bytes := measureOf s.otp.romMeasure (s.upd.slot s.upd.booted)

def isAnchor (slot : Nat) : Bool := slot == 4099 || slot == 4100

/-- R459: a slot is occupied when its record opens under the sealing key now current. -/
def slotOpens (s : State) (slot : Nat) (r : SlotRec) : Bool :=
  r.lifecycle == s.otp.lifecycle && r.measure == s.measure && r.testRoot == s.testRoot && !s.otp.rootKilled
    && (isAnchor slot || r.epoch == s.sec.epoch)

def State.slotRec (s : State) (slot : Nat) : Option SlotRec :=
  match get? s.sec.slots slot with
  | none => none
  | some r => if slotOpens s slot r then some r else none

def State.occupied (s : State) (slot : Nat) : Bool := (s.slotRec slot).isSome

/-- R471: keyless while slot 4,098 is not occupied. -/
def State.keyless (s : State) : Bool := !s.occupied 4098

/-- The cycle field of records: 0xFFFFFFFF while the span is not running (Table 14.4). -/
def State.evCycle (s : State) : Nat := if s.mac.running then s.mac.cycle else 0xFFFFFFFF

/-! ### Twin frames (R368) -/

/-- Priority of a frame type on the line (R370). -/
def twinClass (type : Nat) : Nat :=
  if type = 0x07 ∨ type = 0x08 then 0 else if type = 0x0B ∨ type = 0x0C then 1 else if type = 0x09 ∨ type = 0x0A then 2
  else if type = 0x04 ∨ type = 0x05 then 4 else 3

/-- A frame joins the line's queue behind every frame of its priority or a higher one (R370). -/
def insertTx (f : TwinFrame) : List TwinFrame → List TwinFrame
  | [] => [f]
  | x :: l => if twinClass f.type < twinClass x.type then f :: x :: l else x :: insertTx f l

/-- A frame sent again goes ahead of every frame of its priority, so that what NAK asks for comes before COPY_END (R368, R370). -/
def insertAgain (f : TwinFrame) : List TwinFrame → List TwinFrame
  | [] => [f]
  | x :: l => if twinClass f.type ≤ twinClass x.type then f :: x :: l else x :: insertAgain f l

/-- Queues a link frame of a type: its sequence is the type's own counter; COPY and JOURNAL frames are kept for NAK (R368). -/
def twinPut (type : Nat) (payload : Bytes) (s : State) : State :=
  let q := (get? s.twin.txSeq type).getD 0
  let f : TwinFrame := { type := type, resend := false, seq := q, payload := payload }
  s.modTwin (fun t => { t with
    txSeq := put t.txSeq type ((q + 1) % 65536), tx := insertTx f t.tx,
    sent := if type = 0x04 ∨ type = 0x0B then (f :: t.sent).take 4096 else t.sent })

/-- Frames other than HELLO need the link up (R369). -/
def twinSend (type : Nat) (payload : Bytes) (s : State) : State := if s.twin.link = .up then twinPut type payload s else s

/-! ### Sessions and packets -/

def State.session (s : State) (sid : Nat) : Option Session := (s.host.sessions[sid]?).join

def State.modSession (s : State) (sid : Nat) (f : Session → Session) : State :=
  s.modHost (fun h => { h with sessions := modAt h.sessions sid (Option.map f) })

/-- A packet (Table 2.1): kind, tag, opcode, then flags to role, bytes 8 to 11, the target, status and detail. -/
def packet (kind tag opcode : Nat) (flags dep role : Nat) (b8 : Bytes) (target : Bytes) (status detail : Nat)
    (params : Bytes) : Bytes :=
  withCrc ([byte (16 + kind), byte tag] ++ le 2 opcode ++ le 2 flags ++ [byte dep, byte role] ++ b8 ++ target
    ++ le 2 params.length ++ [byte status, byte detail] ++ params)

/-- A reply or interim reply to a command (R41). -/
def replyPacket (kind : Nat) (c : LiveCmd) (b8 : Bytes) (status detail : Nat) (params : Bytes) : Bytes :=
  packet kind c.tag c.opcode c.flags c.depTag c.role b8 (le 8 c.target) status detail params

/-- An event notice (R84); what the spec gives no value in it is free. -/
def noticePacket (code tag status credits : Nat) (params : Bytes) : Bytes :=
  let h := Config.noticeHeader code
  packet 2 tag code (leNat (sub h 0 2)) (leNat (sub h 2 1)) (leNat (sub h 3 1)) (le 2 0 ++ le 2 credits) (fit 8 (h.drop 4))
    status 0 params

/-- R54: a notice or interim reply joins the session's notice queue, or is dropped when 64 stand in it. It returns the credits owed
when it is queued (R39). Mark: DESIGN CHOICE (log entry 157). -/
def pushNotice (sid : Nat) (build : Nat → Bytes) (s : State) : State :=
  s.modSession sid (fun x =>
    if x.notices.length < 64 then
      { x with notices := x.notices ++ [{ bytes := build (min x.owed 65535), slot := false, seq := 0 }], owed := 0 }
    else { x with noticesLost := satAdd 16 x.noticesLost 1 })

/-- R55: credits come back to a session; a CREDIT_RETURN notice follows once 16 are owed. -/
def giveCredits (sid n : Nat) (s : State) : State :=
  match s.session sid with
  | none => s
  | some x =>
    let s := s.modSession sid (fun x => { x with
      credits := x.credits + n, owed := x.owed + n, owedSince := if x.owed = 0 then s.now else x.owedSince })
    if x.transport = .hspi ∧ 0 < n then s.modHost (fun h => { h with win := { h.win with causeCredits := true } }) else s

def creditNotice (sid : Nat) (s : State) : State :=
  match s.session sid with
  | none => s
  | some x => if 16 ≤ x.owed then pushNotice sid (fun n => noticePacket evCreditReturn 0 0 n []) s else s

/-! ### The event recorder (R444 to R451) -/

def recBytes (r : EventRec) : Bytes :=
  le 8 (encEventTime r.time) ++ le 2 r.code ++ le 2 r.source ++ [byte r.severity, byte r.suppressed] ++ le 4 r.cycle
    ++ fit 14 r.payload

/-- The token bucket of a code; it starts full (R447). -/
def bucketOf (p : Parapet) (code : Nat) : Bucket :=
  match get? p.buckets code with
  | some b => b
  | none => { burst := p.defaultBurst, refill := p.defaultRefill, tokens := p.defaultBurst, since := 0, suppressed := 0 }

/-- R449, R450: staging moves unstaged records, oldest first, while the ring has room for uncopied records. -/
def stageAll (now : Nat) (p : Parapet) : Parapet :=
  let room := 8192 - p.staged.length
  if room = 0 ∨ p.volatileBuf = [] then p
  else { p with
    staged := p.staged ++ p.volatileBuf.take room, volatileBuf := p.volatileBuf.drop room,
    stagedAt := p.stagedAt ++ [(now, min room p.volatileBuf.length)] }

/-- Span time of an event's instant (R444), in SLUMBER too. -/
def State.eventTime (s : State) : Nat := if s.pwr.stopped then ofNs s.spanNow else s.time.spanT

/-- Creation of one record: an index, the buffer or its loss, the next-index word, staging when due (R448 to R450). -/
def createRec (now : Nat) (r : EventRec) (isFault : Bool) (p : Parapet) : Parapet :=
  let r := { r with index := p.nextIndex }
  let p := { p with nextIndex := p.nextIndex + 1, mramNext := p.nextIndex + 1 }
  if 2048 ≤ p.volatileBuf.length then { p with dropped := p.dropped + 1 }
  else
    let p := { p with volatileBuf := p.volatileBuf ++ [r] }
    if isFault || 1024 ≤ p.volatileBuf.length then stageAll now p else p

/-- R450: at the first creation after room returns, EVENTS_LOST with the count of indices dropped. -/
def reportLost (s : State) (p : Parapet) : Parapet :=
  if 0 < p.dropped ∧ p.volatileBuf.length < 2048 then
    let r : EventRec :=
      { index := 0, time := s.eventTime, code := evEventsLost, source := sourceModule, severity := sevWarning,
        suppressed := 0, cycle := s.evCycle, payload := fit 14 (le 4 p.dropped) }
    createRec s.now r false { p with dropped := 0 }
  else p

/-- Sends a record as a notice to one session or to every open one (R446). -/
def noticeTo (dest : Option Nat) (code tag : Nat) (rec : Bytes) (s : State) : State :=
  let st := if code = evLateCompletion then stLate else 0
  match dest with
  | some sid => pushNotice sid (fun n => noticePacket code tag st n rec) s
  | none => [0, 1, 2, 3].foldl (fun s sid => pushNotice sid (fun n => noticePacket code tag st n rec) s) s

/-- The tokens that a bucket has gained by an instant: one per refill interval, up to the burst (R447). -/
def refilled (now : Nat) (b : Bucket) : Bucket :=
  let k := min (b.burst - b.tokens) ((now - b.since) / (b.refill * ms))
  { b with tokens := b.tokens + k, since := b.since + k * (b.refill * ms) }

/-- Records an event and sends its notice (R444 to R448): code, source field, severity, payload, the session concerned,
the tag concerned. -/
def recordEv (code source sev : Nat) (payload : Bytes) (dest : Option Nat) (tag : Nat) (s : State) : State :=
  let b := refilled s.now (bucketOf s.par code)
  let isFault := 0x0901 ≤ code && code ≤ 0x0918
  let mk (sup : Nat) : EventRec :=
    { index := 0, time := s.eventTime, code := code, source := source, severity := sev, suppressed := min sup 255,
      cycle := s.evCycle, payload := fit 14 payload }
  if rateExempt code || 0 < b.tokens then
    let b' := if rateExempt code then b else
      { b with tokens := b.tokens - 1, since := if b.tokens = b.burst then s.now else b.since, suppressed := 0 }
    let r := mk b.suppressed
    let s := s.modPar (fun p => createRec s.now r isFault { reportLost s p with buckets := put p.buckets code b' })
    if isNotice code sev then noticeTo dest code tag (recBytes r) s else s
  else
    let b' := { b with suppressed := b.suppressed + 1 }
    let s := s.modPar (fun p => { p with buckets := put p.buckets code b' })
    if noticeAlways code then noticeTo dest code tag (recBytes (mk b'.suppressed)) s else s

/-- An event of the module itself. -/
def ev (code : Nat) (payload : Bytes) (s : State) : State := recordEv code sourceModule (severityOf code) payload none 0 s

/-- An event of a lantern. -/
def evL (n code : Nat) (payload : Bytes) (s : State) : State :=
  recordEv code (sourceLantern n) (severityOf code) payload none 0 s

/-- An event that concerns one session (R84). -/
def evS (sid tag code : Nat) (payload : Bytes) (s : State) : State :=
  recordEv code (sourceSession sid) (severityOf code) payload (some sid) tag s

/-! ### Reply queues (R421 to R428) -/

/-- Entries of a session's reply queue: reserved slots, queued replies and refusals (R423). -/
def replyFill (h : HostSide) (sid : Nat) : Nat :=
  match (h.sessions[sid]?).join with
  | none => 0
  | some x => (h.live.filter (fun c => c.sid == sid && !c.orphan)).length + x.replies.length + x.refusals.length

/-- R425, R427: the watermark state of a session's reply queue; a crossing sends REPLY_BACKLOG. -/
def checkBacklog (sid : Nat) (s : State) : State :=
  match s.session sid with
  | none => s
  | some x =>
    let n := replyFill s.host sid
    if !x.backlog && s.live (0x0C10 + sid) * 272 < 100 * n then
      evS sid 0 evReplyBacklog [byte 1]
        (s.modSession sid (fun x => { x with backlog := true, backlogSince := s.now, holdRecorded := false }))
    else if x.backlog && 100 * n < s.live (0x0C14 + sid) * 272 then
      evS sid 0 evReplyBacklog [byte 0] (s.modSession sid (fun x => { x with backlog := false }))
    else s

/-- Capacity of the inbound intake queue (R421, R422). -/
def intakeCap (s : State) : Nat := 16 + s.live 0x0C02

/-- R425, R426: the watermark state of the intake queue, which HOST_FLOW shows. -/
def checkInbound (s : State) : State :=
  let n := s.host.intake.length
  let k := intakeCap s
  let up := s.host.inboundHigh || s.live 0x0C00 * k < 100 * n
  s.modHost (fun h => { h with
    inboundHigh := up && !(100 * n < s.live 0x0C01 * k && h.inboundHigh), inboundPeak := max h.inboundPeak n })

/-- `HOST_FLOW` (R426). -/
def State.hostFlow (s : State) : Bool := s.host.inboundHigh || !s.host.intakeOpen

/-- The transport code of QUEUE_STATUS (Table 3.20). -/
def transportCode (t : Transport) : Nat := match t with | .hspi => 1 | .huart => 2 | .eth => 3 | .dbg => 4

/-- A packet to a transport that has no session (R45): it occupies the transport until it has left. -/
def pushBare (t : Transport) (bytes : Bytes) (seq : Nat) (s : State) : State :=
  s.modHost (fun h => { h with bare := h.bare ++ [(t, { bytes := bytes, slot := false, seq := seq })] })

/-! ### Completion of commands (R42, R50, R80, R83) -/

def State.cmd (s : State) (sid tag : Nat) : Option LiveCmd := s.host.live.find? (fun c => c.sid == sid && c.tag == tag && !c.orphan)

def State.cmdSeq (s : State) (seq : Nat) : Option LiveCmd := s.host.live.find? (fun c => c.seq == seq)

def State.modCmd (s : State) (seq : Nat) (f : LiveCmd → LiveCmd) : State :=
  s.modHost (fun h => { h with live := h.live.map (fun c => if c.seq = seq then f c else c) })

/-- Whether the journal covers an opcode: Table 3.3 marks it "standby" or "both", for SETTING_WRITE and SETTING_COMMIT "at execution"
(R380). -/
def journalOp (opcode : Nat) : Bool :=
  opcode == 0x0006 || opcode == 0x0007 || (match opInfo opcode with | some o => o.standby | none => false)

/-- A journal entry (R380). -/
def journalEntry (kind : Nat) (c : LiveCmd) (status : Nat) : Bytes :=
  [byte kind, byte c.sid, byte c.tag, 0] ++ le 2 c.opcode ++ zeros 2 ++ le 4 c.acceptedCycle ++ [byte status] ++ zeros 3

/-- The command leaves the live list and every dependency bound to it learns its status (R74, R521). -/
def retire (c : LiveCmd) (status : Nat) (h : HostSide) : HostSide :=
  { h with
    live := (h.live.filter (fun d => d.seq != c.seq)).map
      (fun d => if d.dep = .live c.seq then { d with dep := .status status } else d) }

/-- A command completes: its final status is recorded, its slot and credits return, its reply is queued unless QUIET_OK
silences a success (R83). A command without a session is answered on its transport (R45). The credits a reply returns are those
owed when it is queued (R39). Mark: DESIGN CHOICE (log entry 157). -/
def complete (c : LiveCmd) (status detail : Nat) (params : Bytes) (s : State) : State :=
  let s := s.modHost (retire c status)
  let s := if s.twin.latch && journalOp c.opcode then twinSend 0x0B (journalEntry 2 c status) s else s
  if 4 ≤ c.sid then
    pushBare c.transport (replyPacket 1 c (zeros 4) status detail params) c.seq
      (s.modHost (fun h => { h with
        bareBusy := if h.bareBusy.contains c.transport then h.bareBusy else h.bareBusy ++ [c.transport] }))
  else if c.orphan then s
  else
    let s := s.modSession c.sid (fun x => { x with statuses := put x.statuses c.tag status })
    let s := giveCredits c.sid c.credits s
    let s :=
      if success status && c.flags.testBit flQuiet then creditNotice c.sid s
      else s.modSession c.sid (fun x =>
        let b := replyPacket 1 c (le 2 (min c.retries 65535) ++ le 2 (min x.owed 65535)) status detail params
        { x with replies := x.replies ++ [{ bytes := b, slot := true, seq := c.seq }], owed := 0 })
    checkBacklog c.sid s

/-- A failure reply without parameters. -/
def fail (c : LiveCmd) (status detail : Nat) (s : State) : State := complete c status detail [] s

/-- Completes every command that waits for something, with one status and reply (R97). -/
def completeAll (p : LiveCmd → Bool) (status detail : Nat) (params : Bytes) (s : State) : State :=
  (s.host.live.filter p).foldl (fun s c => complete c status detail params s) s

/-- As `completeAll`, each command with parameters of its own. -/
def completeEach (p : LiveCmd → Bool) (status detail : Nat) (params : LiveCmd → Bytes) (s : State) : State :=
  (s.host.live.filter p).foldl (fun s c => complete c status detail (params c) s) s

/-- A counter of a command that several outcomes make up (Table 7.5). -/
def wk (c : LiveCmd) (i : Nat) : Nat := c.work.getD i 0

/-- The reply of LAMP_SET and SCENE_DEFINE (Table 7.5). -/
def lampReply (c : LiveCmd) : Bytes :=
  le 2 (wk c 0) ++ le 2 (wk c 1) ++ le 2 (wk c 2) ++ le 2 (wk c 3) ++ [byte (wk c 4), byte (b2n c.coalesced)] ++ zeros 2

/-- The parameters that the reply of a command has whatever its final status, once it has begun (R268). -/
def partReply (c : LiveCmd) : Bytes := if c.begun && (c.opcode == 0x0501 || c.opcode == 0x0502) then lampReply c else []

/-- Pending sets are dropped, and no boundary is owed to a command any more (R31, R387). -/
def dropPend (s : State) : State :=
  (s.modSet (fun x => { x with pend := [] })).modHost (fun h => { h with
    late := h.late.filter (fun r => match r.wait with | .commit _ => false | .calibrated _ => false | _ => true) })

/-- R80: a success after a TIMEOUT sends one LATE_COMPLETION. -/
def lateSuccess (p : LateRec → Bool) (status : Nat) (s : State) : State :=
  (s.host.late.filter p).foldl (fun s r =>
    evS r.sid r.tag evLateCompletion ([byte r.sid, byte r.tag] ++ le 2 r.opcode ++ le 4 r.acceptedCycle
      ++ le 2 (min r.retries 65535) ++ [byte status] ++ zeros 3)
      (s.modHost (fun h => { h with late := h.late.filter (fun x => x.seq != r.seq) }))) s

/-- R47: closing a session cancels what has not begun, leaves the rest to run unheard, and drops replies and notices.
Packets of it that intake has not checked are dropped with it, and a RESET whose reply is dropped happens 10 ms after the close.
Marks: DESIGN CHOICE (log entries 46 and 163). -/
def closeSession (sid : Nat) (s : State) : State :=
  match s.session sid with
  | none => s
  | some x =>
    let s := completeAll (fun c => c.sid == sid && !c.begun) stCancelled dNone [] s
    let owed := x.replies.map (·.seq)
    s.modHost (fun h => { h with
      sessions := modAt h.sessions sid (fun _ => none),
      resetWait := h.resetWait.filter (fun w => !owed.contains w.2.2.2),
      resetAt := h.resetAt.orElse (fun _ => (h.resetWait.find? (fun w => owed.contains w.2.2.2)).map (fun w =>
        (s.now + 10 * ms, w.1, w.2.1, w.2.2.1))),
      live := h.live.map (fun c => if c.sid = sid then { c with orphan := true } else c),
      intake := h.intake.filter (fun e => e.sid != some sid), late := h.late.filter (fun r => r.sid != sid),
      huartBaud := if x.transport = .huart then 115200 else h.huartBaud,
      baudNext := if x.transport = .huart then none else h.baudNext,
      debugChals := h.debugChals.filter (fun d => d.sid != sid),
      clearChals := h.clearChals.filter (fun d => d.sid != sid),
      win := if x.transport = .hspi then { h.win with head := none, popped := 0 } else h.win })

def closeSessions (p : Session → Bool) (s : State) : State :=
  [0, 1, 2, 3].foldl (fun s sid => match s.session sid with
    | some x => if p x then closeSession sid s else s
    | none => s) s

/-! ### Contactor control, lamps, meter saves, time, power: what safe state, resets and their own chapters share -/

/-- Contactor control changes hands, levels kept (R324). -/
def takeControl (a : Agent) (s : State) : State :=
  if s.fb.agent = a then s
  else
    let s := s.modFb (fun f => { f with
      agent := a, keepalive := if a = .firmware then some (s.now + s.live 0x0113 * ms) else none })
    ev (if a = .sequencer then evFallbackActive else evFallbackReleased) [] s

/-- The LAMP domain runs: in SLUMBER only if it is kept (R264). -/
def State.lampRuns (s : State) : Bool := s.pwr.state != .slumber || (s.live 0x0202).testBit 1

/-- R264: `LD_EN` follows its conditions; the instant of a rise is kept (R266). -/
def refreshLdEn (s : State) : State :=
  let on := s.live 0x0500 == 1 && s.lampRuns && s.holder && !s.par.safe && !s.lamp.latched && s.lamp.catchUp
    && s.boot.phase == .firmware
  s.modLamp (fun l => { l with ldEn := on, ldEnAt := if on && !l.ldEn then s.now else l.ldEnAt })

/-- Bytes 0 to 303 of a totals copy (Table 10.6). -/
def TotalsCopy.bytes (t : TotalsCopy) : Bytes :=
  le 2 t.format ++ [byte t.kind, byte (b2n t.standby + 2 * b2n t.filled)] ++ le 4 t.generation ++ encTime t.time ++ zeros 2
    ++ le 4 (ofS 32 t.prevailing) ++ fit 240 (t.regs.flatMap (fun r => le 8 (r / 2 ^ 32) ++ le 4 (r % 2 ^ 32)))
    ++ fit 32 (t.pins.flatMap (le 8)) ++ le 4 t.metrology ++ zeros 4

/-- All 77 words of a copy. -/
def TotalsCopy.words (t : TotalsCopy) : Bytes := t.bytes ++ le 4 t.crc

/-- The copy that 77 words of MRAM spell. -/
def TotalsCopy.ofWords (b : Bytes) : TotalsCopy :=
  { format := fld b 0 2, kind := fld b 2 1, standby := (fld b 3 1).testBit 0, filled := (fld b 3 1).testBit 1, generation := fld b 4 4,
    time := ofNs (fld b 8 6 * sec + fld b 14 4), prevailing := toS 32 (fld b 20 4),
    regs := (List.range 20).map (fun r => fld b (24 + 12 * r) 8 * 2 ^ 32 + fld b (32 + 12 * r) 4),
    pins := (List.range 4).map (fun k => fld b (264 + 8 * k) 8), metrology := fld b 296 4, crc := fld b 304 4 }

/-- Format and CRC are right (R348). -/
def TotalsCopy.valid (t : TotalsCopy) : Bool := t.format == 1 && t.crc == crc32c t.bytes

/-- The copy with its CRC written. -/
def TotalsCopy.sealed (t : TotalsCopy) : TotalsCopy := { t with crc := crc32c t.bytes }

/-- A totals copy of the present registers (Table 10.6). -/
def totalsNow (s : State) (kind generation : Nat) : TotalsCopy :=
  TotalsCopy.sealed
    { format := 1, kind := kind, standby := s.standby, filled := s.meter.filledNow, generation := generation, time := s.meterTime,
      prevailing := (match s.meter.last with | some m => (m.phases.map (·.p)).sum | none => 0),
      regs := s.meter.regs, pins := s.meter.pins.map (·.total), metrology := s.meter.metrology, crc := 0 }

/-- The generation of the next save: one above the higher. -/
def nextGeneration (m : MeterSt) : Nat := max (max m.copyA.generation m.copyB.generation) m.genFloor + 1

/-- A copy is written, the intent word first; for 200 µs the save is in progress (R346). -/
def writeCopy (toB : Bool) (t old : TotalsCopy) (s : State) : State :=
  s.modMeter (fun m => { m with
    copyA := if toB then m.copyA else t, copyB := if toB then t else m.copyB, intent := t.generation,
    saving := some { toB := toB, old := old, oldIntent := m.intent, kind := t.kind, at_ := s.now } })

/-- R346: the closed totals go over the copy with the lower generation. -/
def saveTotals (kind : Nat) (s : State) : State :=
  let m := s.meter
  let toB : Bool := m.copyB.generation < m.copyA.generation
  writeCopy toB (totalsNow s kind (nextGeneration m)) (if toB then m.copyB else m.copyA) s

/-- A save is in progress (R346). -/
def SaveRun.inProgress (r : SaveRun) (now : Nat) : Bool := decide (now < r.at_ + 200000)

/-- What stands where a save was cut short: the intent word and then the words of the copy are written in order, each atomically; how
far the save had come is free (R345, R346, log entry 148). -/
def tornCopy (k : Nat) (old new : TotalsCopy) : TotalsCopy := .ofWords (new.words.take (4 * (k - 1)) ++ old.words.drop (4 * (k - 1)))

/-- The METER domain loses its supply or is reset: a save in progress stops where it is. -/
def cutSave (now : Nat) (m : MeterSt) : MeterSt :=
  match m.saving with
  | none => m
  | some r =>
    if r.inProgress now then
      let k := Config.unstated 61 now % 79
      { m with
        saving := none, intent := if k = 0 then r.oldIntent else m.intent,
        copyA := if r.toB then m.copyA else tornCopy k r.old m.copyA, copyB := if r.toB then tornCopy k r.old m.copyB else m.copyB }
    else { m with saving := none }

/-- Sum of addend times duration, and duration in ns, of a history of addends between two elapsed instants. -/
def rateSpans (from_ : Nat) : Nat → List (Int × Nat) → Int × Nat
  | _, [] => (0, 0)
  | end_, (a, t) :: rest =>
    let d := end_ - max t from_
    if t ≤ from_ then (a * d, d) else let r := rateSpans from_ t rest; (r.1 + a * d, r.2 + d)

/-- The mean addend over the last 64 s spent LOCKED, or over all of a shorter time (R291). -/
def meanRate (s : State) : Int :=
  let r := rateSpans (s.now - 64 * sec) s.now s.time.lockHist
  if r.2 = 0 then s.time.rate else roundDiv r.1 r.2

/-- What of a history the last 64 s need. -/
def lastSpans (from_ : Nat) : List (Int × Nat) → List (Int × Nat)
  | [] => []
  | (a, t) :: rest => if t ≤ from_ then [(a, t)] else (a, t) :: lastSpans from_ rest

/-- The servo writes the addend (R278); while LOCKED it is remembered (R291). -/
def setAddend (a : Int) (s : State) : State :=
  s.modTime (fun t => { t with
    rate := a, lockHist := if t.state = .locked then lastSpans (s.now - 64 * sec) ((a, s.now) :: t.lockHist) else t.lockHist })

/-- R291: HOLDOVER freezes the addend at its mean over the last 64 s LOCKED. -/
def toHoldover (s : State) : State :=
  if s.time.state = .locked then
    ev evTimeHoldover [] (s.modTime (fun t => { t with state := .holdover, rate := meanRate s, goodRun := 0, badRun := 0 }))
  else s

/-- Time spent in the present power state is added up (Table 3.18). -/
def stateNo (p : PState) : Nat := match p with | .run => 0 | .idle => 1 | .nap => 2 | .slumber => 3

def accountState (s : State) : State :=
  s.modPwr (fun p => { p with timeIn := modAt p.timeIn (stateNo p.state) (· + (s.now - p.stateSince)), stateSince := s.now })

def setPState (q : PState) (s : State) : State := (accountState s).modPwr (fun p => { p with state := q })

/-- IDLE and NAP end as soon as there is work (R402). -/
def toRun (s : State) : State :=
  if s.pwr.state = .idle ∨ s.pwr.state = .nap then setPState .run s else s

/-- R387: losing the lease completes journaled commands with NOT_LEASE_HOLDER, drops pending sets and marks the copy. -/
def loseLease (s : State) : State :=
  let s := completeEach (fun c => journalOp c.opcode && c.wait != .yield) stNotLeaseHolder 0x80 partReply s
  (dropPend s).modTwin (fun t => { t with copyInvalid := true })

/-- `TW_LEASE_OUT` falls; on a member whose latch is set the interlock closes (R371). -/
def dropLeaseOut (s : State) : State :=
  s.modTwin (fun t => { t with
    leaseOut := false, interlock := t.interlock && !t.latch, lease := if t.latch then .standby else t.lease,
    resumeDue := t.resumeDue && !t.latch })

/-! ### The source side of an expansion joint (R20, R415) -/

/-- Whether the clock of a joint's destination runs (Tables 12.1 and 13.2): ABUT always, METER and LAMP when kept, the
others outside SLUMBER. -/
def destRuns (j : Nat) (s : State) : Bool :=
  let deck := s.boot.phase != .reset && !s.pwr.stopped
  if j = 0x09 ∨ j = 0x0A ∨ j = 0x1C then true
  else if j = 0x12 then deck || (s.live 0x0202).testBit 0
  else if j = 0x15 then s.lampRuns
  else deck

def State.joint (s : State) (j : Nat) : Joint := s.joints.getD (j - 1) default

def modJoint (j : Nat) (f : Joint → Joint) (s : State) : State := { s with joints := modAt s.joints (j - 1) f }

/-- The source side of an EJ-E takes one event while its destination's clock is stopped (R415). -/
def jointEvent (x : Joint) : Joint :=
  if x.awaiting = none then { x with awaiting := some (x.c + 1), c := 0 }
  else if x.c < 255 then { x with c := x.c + 1 }
  else { x with overrun := true, lost := satAdd 16 x.lost 1 }

/-- An event that the DECK records crosses an EJ-E: recorded at once while its clock runs, else it waits, or is lost with OVERRUN
set (R20, R415). -/
def crossNote (j code : Nat) (payload : Bytes) (s : State) : State :=
  let x := s.joint j
  if destRuns j s && x.awaiting.isNone then ev code payload (modJoint j (fun x => { x with delivered := x.delivered + 1 }) s)
  else
    let s := if x.awaiting.isNone ∨ x.c < 255 then s.modPwr (fun p => { p with crossed := p.crossed ++ [(j, code, payload)] }) else s
    modJoint j jointEvent s

end Sys2Proof.Machine
end

