-- ==== Sys2Proof/Machine/March.lean ====
section
/-! DEFINITION. The self-test engine: the March algorithms (R504), the MISR and the comparison of every read (R505), the units'
durations (R506). -/

namespace Sys2Proof.Machine

/-! ### Units (Table 17.2) -/

/-- March LR takes 14 operations a word and background, March C- 10. -/
def unitNs (alg : Nat) (u : TestUnit) : Nat :=
  match u with
  | .bank _ => (if alg = 2 then 4587520 else 3276800) + 163840
  | .abut _ => if alg = 2 then 19200 else 14080
  | .mram _ => if alg = 2 then 35840 else 26880

/-- Words of a unit, bits of a codeword, bytes of data a word holds. -/
def unitForm (u : TestUnit) : Nat × Nat × Nat := match u with | .bank _ => (16384, 72, 8) | _ => (32, 39, 4)

/-- Target, index and base offset of a unit, as SELFTEST_FAIL names it. -/
def unitName (u : TestUnit) : Nat × Nat × Nat :=
  match u with | .bank n => (1, n, 0) | .abut k => (2, 0, 128 * k) | .mram k => (3, k / 64, 128 * (k % 64))

/-! ### Algorithms (Table 17.1) -/

/-- An operation on a word: read or write, of the background or its complement. -/
inductive MarchOp where
  | r0 | r1 | w0 | w1
deriving DecidableEq, Repr

/-- An element: the operations it makes at each address, downwards or upwards. "Either" is upwards. -/
structure MarchElem where
  down : Bool
  ops : List MarchOp
deriving DecidableEq, Repr

def marchC : List MarchElem :=
  [⟨false, [.w0]⟩, ⟨false, [.r0, .w1]⟩, ⟨false, [.r1, .w0]⟩, ⟨true, [.r0, .w1]⟩, ⟨true, [.r1, .w0]⟩, ⟨false, [.r0]⟩]

def marchLR : List MarchElem :=
  [⟨false, [.w0]⟩, ⟨true, [.r0, .w1]⟩, ⟨false, [.r1, .w0, .r0, .w1]⟩, ⟨false, [.r1, .w0]⟩, ⟨false, [.r0, .w1, .r1, .w0]⟩,
    ⟨false, [.r0]⟩]

def march (alg : Nat) : List MarchElem := if alg = 2 then marchLR else marchC

/-- The alternating background 0b0101… of a codeword, from bit 0. -/
def alternating (width : Nat) : Nat := (4 ^ ((width + 1) / 2) - 1) / 3

/-- What an operation expects to read, if it reads. -/
def MarchOp.expects (width background : Nat) (o : MarchOp) : Option Nat :=
  match o with
  | .r0 => some background
  | .r1 => some (2 ^ width - 1 - background)
  | _ => none

/-- The reads of an element over a number of words: address and value expected. -/
def elemReads (words width background : Nat) (e : MarchElem) : List (Nat × Nat) :=
  (if e.down then (List.range words).reverse else List.range words).flatMap (fun a =>
    (e.ops.filterMap (MarchOp.expects width background)).map (fun x => (a, x)))

/-- Every read of a unit, in order: the algorithm with either background (R504). -/
def unitReads (alg : Nat) (u : TestUnit) : List (Nat × Nat) :=
  let f := unitForm u
  [0, alternating f.2.1].flatMap (fun b => (march alg).flatMap (elemReads f.1 f.2.1 b))

/-! ### The MISR (R505) -/

/-- The MISR takes a codeword. Mark: DESIGN CHOICE (log entry 142): the register shifts towards its top bit, and how the bits of
a codeword enter it is free. -/
def misrStep (m x : Nat) : Nat :=
  ((2 * m) % 4294967296 ^^^ (if 2147483648 ≤ m then 0x04C11DB7 else 0)) ^^^ (Config.misrFold x).toNat

/-- The reads of a unit from the k-th on: the MISR, and the byte offset of the first that differs from its expected value.
`errs` names the reads that differ and their wrong bits. -/
def runReads (width bytes : Nat) (errs : List (Nat × Nat)) : Nat → List (Nat × Nat) → Nat × Option Nat → Nat × Option Nat
  | _, [], r => r
  | k, (a, x) :: l, r =>
    let wrong := (get? errs k).getD 0 % 2 ^ width
    runReads width bytes errs (k + 1) l
      (misrStep r.1 (x ^^^ wrong), if wrong = 0 then r.2 else r.2.orElse (fun _ => some (bytes * a)))

/-- What the engine has at the end of a unit: its MISR, seeded at the start, and the offset of the first mismatch. -/
def unitResult (alg : Nat) (u : TestUnit) (errs : List (Nat × Nat)) : Nat × Option Nat :=
  let f := unitForm u
  runReads f.2.1 f.2.2 errs 0 (unitReads alg u) (0xFFFFFFFF, none)

/-- The golden signature of a unit's type under an algorithm (R505). -/
def goldenOf (b : SelfTestSt) (alg : Nat) (u : TestUnit) : Nat :=
  b.golden.getD ((match u with | .bank _ => 0 | .abut _ => 2 | .mram _ => 4) + (alg - 1)) 0

/-- A unit passes when its MISR is golden and no read mismatched (R505). -/
def unitPasses (b : SelfTestSt) (alg : Nat) (u : TestUnit) (r : Nat × Option Nat) : Bool :=
  r.1 == goldenOf b alg u && r.2.isNone

/-- SELFTEST_FAIL of a unit: origin 0 command, 1 background, 2 start-up, 3 recovery (Table 17.5). -/
def testFailure (alg origin : Nat) (u : TestUnit) (r : Nat × Option Nat) : Bytes :=
  let n := unitName u
  let off := match r.2 with | some o => n.2.2 + o | none => 0xFFFFFFFF
  [byte n.1, byte n.2.1, byte alg, byte origin] ++ le 4 r.1 ++ le 4 off ++ zeros 2

end Sys2Proof.Machine
end

