-- ==== Sys2Proof/Machine/Datapath.lean ====
section
/-! DEFINITION. The metering datapath (R332 to R338, R341 to R343): `MOD_CLK` and its gaps, the filters, the samples of a second and
what is measured of them, the routing of energy into registers and pulse outputs. -/

namespace Sys2Proof.Machine

/-! ### `MOD_CLK` and the channels (R332, R333) -/

/-- The datapath runs: METER active, and kept if the module is in SLUMBER (R349). -/
def meterRuns (s : State) : Bool :=
  s.meter.active && !s.fb.backup && (s.pwr.state != .slumber || (s.live 0x0202).testBit 0)

/-- The period of `MOD_CLK`, ns: 4.000 MHz or 2.000 MHz (R333). -/
def modClkNs (s : State) : Nat := if s.live 0x0602 = 2 then 500 else 250

/-- Edges to a decimated sample of 62.5 kHz (R336). -/
def decimation (s : State) : Nat := if s.live 0x0602 = 2 then 32 else 64

/-- `MOD_CLK` as the module drives it (R333): INTERNAL, METER active, and the interlock open (R371); else an input. -/
def modClkPin (s : State) : PinLevel :=
  if s.live 0x0603 = 1 && s.meter.active && s.twin.interlock && bankGood 2 s then
    if meterRuns s then .clock (sec / modClkNs s) else .low
  else .highZ

/-- Phases the wiring meters (R332, R339). -/
def phaseFitted (s : State) (ph : Nat) : Bool := ph == 1 || bits (s.live 0x0601) 3 0 == 1

/-- Channel `MDATn` is metered (Table 10.1, R332). -/
def channelFitted (s : State) (ch : Nat) : Bool :=
  if ch = 6 then (s.live 0x0601).testBit 4 else if ch = 7 then (s.live 0x0601).testBit 5 else phaseFitted s (ch % 3 + 1)

/-- A channel of a sample. -/
def MeterFrame.chan (f : MeterFrame) (c : Nat) : Int := f.x.getD c 0

/-! ### The filters (R336) -/

/-- n(n + 1) / 2 pairs: the second-order sum of the sinc³ response. -/
def pairs (n : Nat) : Int := (n * (n + 1) / 2 : Nat)

/-- The impulse response of the sinc³ decimator by `r`, 3r − 2 edges long, of sum r³. -/
def sincWeight (r k : Nat) : Int := pairs (k + 1) - 3 * pairs (k + 1 - r) + 3 * pairs (k + 1 - 2 * r)

/-- The decimated sample of a channel: the bits of the last 3r − 2 edges, latest first, a one counting +1 and a zero −1. -/
def sinc3 (r : Nat) (edges : List Nat) (ch : Nat) : Int :=
  ((edges.zip (List.range (3 * r - 2))).map (fun e => if e.1.testBit ch then sincWeight r e.2 else -sincWeight r e.2)).sum

/-- Taps of the FIR filter in 2^-23, which the spec does not give: free, but for a gain of 1 at 0 Hz (log entry 127). -/
def firTaps : List Int :=
  let l := (List.range 63).map (fun i => toS 24 (Config.unstated 35 i))
  l ++ [2 ^ 23 - l.sum]

/-- The output sample of a channel in LSBs, 24 bits signed: a ones density of 0.9, a mean of 0.8, is digital full scale. -/
def firSample (r : Nat) (dec : List (List Int)) (ch : Nat) : Int :=
  let y := ((dec.zip firTaps).map (fun d => d.1.getD ch 0 * d.2)).sum
  max (-8388608) (min 8388607 (roundDiv (y * (8388607 * 5)) (2 ^ 23 * (4 * r ^ 3))))

/-- The fractional delay of I1 to I3 at the measured line frequency; METER_PHASE 0 is no delay (R336, log entry 128). -/
def delayed (s : State) (ch : Nat) (recent : List Int) : Int :=
  let ph := s.liveS 16 (0x0620 + (ch - 3))
  if 3 ≤ ch ∧ ch ≤ 5 ∧ ph ≠ 0 then Config.fractional ph s.meter.path.freq recent else recent.headD 0

/-- A free sample, where R334 names one that the datapath does not hold. -/
def freeFrame (at_ : Nat) : MeterFrame :=
  let x := (List.range 8).map (fun c => toS 54 (Config.unstated 39 (8 * at_ + c)))
  { at_ := at_, x := x, lsb := x.map (fun v => v / 2 ^ 30) }

/-- The measured line frequency in µHz: the last second's, free while none has been measured (log entry 129). -/
def lineFreq (p : Datapath) : Nat := if p.freq = 0 then Config.unstated 37 0 else p.freq

/-- Samples to a line period, rounded to the nearest. -/
def linePeriod (p : Datapath) : Nat := (roundDiv (10 ^ 15) (lineFreq p * 128000)).toNat

/-- The samples one line period earlier, at a new instant (R334). -/
def interpolated (at_ : Nat) (p : Datapath) : MeterFrame :=
  let all := p.past ++ p.frames
  let n := linePeriod p
  if n = 0 ∨ all.length < n then freeFrame at_
  else { all.getD (all.length - n) default with at_ := at_ }

/-- An output sample of every channel: offset, gain, delay, the instant (R336); a dependent of a gap is replaced or dropped (R334). -/
def sampleOut (s : State) (elapsed at_ : Nat) (p : Datapath) : Datapath :=
  let p := { p with sampleAt := elapsed }
  if p.dec.length < 64 then p
  else
    let lsb := (List.range 8).map (fun c =>
      if channelFitted s c then firSample (decimation s) p.dec c - s.liveS 24 (0x0618 + c) else 0)
    let gained := (List.range 8).map (fun c => lsb.getD c 0 * s.live (0x0610 + c))
    let recent := (gained :: p.recent).take 64
    let x := (List.range 8).map (fun c => delayed s c (recent.map (fun f => f.getD c 0)))
    let p := { p with recent := recent }
    if p.depLeft = 0 then { p with frames := p.frames ++ [{ at_ := at_, x := x, lsb := lsb }] }
    else
      let q := { p with depLeft := p.depLeft - 1 }
      if p.depDrop then q else { q with frames := q.frames ++ [interpolated at_ p] }

/-- One rising edge of `MOD_CLK`: elapsed time and span time of it, and the eight bits (R333, R336). -/
def takeEdge (s : State) (elapsed at_ bits : Nat) (p : Datapath) : Datapath :=
  let r := decimation s
  let n := (p.edge + 1) % (8 * r)
  let p := { p with edges := (bits :: p.edges).take (3 * r - 2), edge := n }
  if n % r ≠ 0 ∨ p.edges.length < 3 * r - 2 then p
  else
    let p := { p with dec := ((List.range 8).map (sinc3 r p.edges) :: p.dec).take 64 }
    if n ≠ 0 then p else sampleOut s elapsed at_ p

/-- Span time that passes in `ns` of the crystal: with the addend, and in SLUMBER as counted (R278, R303). -/
def spanOf (s : State) (ns : Nat) : Nat :=
  if s.pwr.stopped then ns else ((ns : Int) + (ns : Int) * s.time.rate / (10 * 2 ^ 32)).toNat

/-- The edges since the last row, oldest first, the last of them `ago` ns back: each is one period after the one before. -/
def takeEdges (ago : Nat) (edges : List Nat) (s : State) : State :=
  let n := edges.length
  let back (i : Nat) : Nat := ago + (n - 1 - i) * modClkNs s
  s.modMeter (fun m => { m with
    path := (edges.zip (List.range n)).foldl (fun p e =>
      takeEdge s (s.now - back e.2) (s.spanNow - spanOf s (back e.2)) e.1 p) m.path })

/-- How far back the last edge lies: at the start of the gap while there is one (R334), else at the row itself. -/
def lastEdgeAgo (s : State) : Nat := match s.meter.gapSince with | some g => s.now - g | none => 0

/-- The bits of edges reach the datapath while it runs and VIO_L is good (R542). -/
def takeBits (edges : List Nat) (s : State) : State :=
  if meterRuns s && bankGood 2 s then takeEdges (lastEdgeAgo s) edges s else s

/-! ### Arithmetic: roots, sines, the DFT -/

/-- ⌊√n⌋, bit by bit from bit `k`. -/
def isqrtFrom (n : Nat) : Nat → Nat → Nat
  | 0, r => r
  | k + 1, r => isqrtFrom n k (if (r + 2 ^ k) * (r + 2 ^ k) ≤ n then r + 2 ^ k else r)

/-- √n rounded to the nearest, for n below 2^254. -/
def isqrt (n : Nat) : Nat := (isqrtFrom (4 * n) 128 0 + 1) / 2

/-- √(a / b) rounded to the nearest; 0 for b = 0. -/
def sqrtDiv (a : Int) (b : Nat) : Nat := isqrt (a.toNat / b)

def one60 : Int := 2 ^ 60

/-- The Taylor series of sine (odd 1, without its first factor) or cosine (odd 0) at x² in 2^-60. -/
def taylor (x2 : Int) (odd : Nat) : Int :=
  (List.range 14).reverse.foldl (fun acc i => one60 - x2 * acc / one60 / ((2 * i + 1 + odd) * (2 * i + 2 + odd) : Nat)) one60

/-- Sine of a fraction of a turn, both in 2^-60. -/
def sinTurn (u : Nat) : Int :=
  let x : Int := ((u % 2 ^ 58 : Nat) : Int) * 7244019458077122842 / one60
  let x2 := x * x / one60
  let sn := x * taylor x2 1 / one60
  let cs := taylor x2 0
  match u / 2 ^ 58 % 4 with
  | 0 => sn
  | 1 => cs
  | 2 => -sn
  | _ => -cs

def cosTurn (u : Nat) : Int := sinTurn (u + 2 ^ 58)

/-- The turns of harmonic `h` of a frequency in µHz over `ns`, in 2^-60 of a turn. -/
def turns (h freq ns : Nat) : Nat := h * freq * ns % 10 ^ 15 * 2 ^ 60 / 10 ^ 15

/-- The DFT of a channel at harmonic `h`: Σ x cos and Σ x sin. -/
def dft (l : List MeterFrame) (freq h ch : Nat) : Int × Int :=
  let t0 := (l.map (·.at_)).headD 0
  ((l.map (fun f => f.chan ch * cosTurn (turns h freq (f.at_ - t0)))).sum,
    (l.map (fun f => f.chan ch * sinTurn (turns h freq (f.at_ - t0)))).sum)

def power2 (x : Int × Int) : Int := x.1 * x.1 + x.2 * x.2

/-- An angle in 0.001° within 2^k steps of `lo`: the last at which the vector (c, s) still lies ahead. -/
def angleFrom (c s : Int) : Nat → Int → Int
  | 0, a => a
  | k + 1, a =>
    let b := a + 2 ^ k
    let u := ofS 60 (b * one60 / 360000)
    angleFrom c s k (if 0 ≤ s * cosTurn u - c * sinTurn u then b else a)

/-- The angle of (c, s) in 0.001°, −180° to 180°. -/
def angleOf (c s : Int) : Int :=
  if 0 ≤ c then angleFrom c s 18 (-90000) else if 0 ≤ s then angleFrom c s 17 90000 else angleFrom c s 17 (-180000)

/-! ### Quantities of a run of samples (R338) -/

/-- Digital full scale of a processed sample. -/
def fullScale : Nat := 2 ^ 30 * 8388607

/-- METER_V_SCALE × METER_I_SCALE: 10^-5 W at full scale of both. -/
def wattScale (s : State) : Nat := s.live 0x0606 * s.live 0x0607

/-- Σ x × y of two channels. -/
def dot (l : List MeterFrame) (a b : Nat) : Int := (l.map (fun f => f.chan a * f.chan b)).sum

/-- A sum of products of voltage and current over `n` samples, as their mean in µW. -/
def meanMicro (s : State) (sum : Int) (n : Nat) : Int := if n = 0 then 0 else roundDiv (sum * wattScale s * 10) (n * fullScale ^ 2)

/-- The same sum as energy: one sample lasts 128 µs, the unit is 2^-32 mWh. -/
def energyOf (s : State) (sum : Int) : Int := roundDiv (sum * wattScale s * (2 ^ 32 * 128)) (360000000000 * fullScale ^ 2)

/-- The fundamental reactive power as a sum over the samples: V1f × I1f × sin φ1, positive when the current lags. -/
def reactiveSum (l : List MeterFrame) (freq ph : Nat) : Int :=
  let v := dft l freq 1 (ph - 1)
  let i := dft l freq 1 (ph + 2)
  if l = [] then 0 else roundDiv (2 * (v.1 * i.2 - v.2 * i.1)) (l.length * 2 ^ 120)

/-- The rms of a channel in units of `scale` / `per` at full scale. -/
def rms (l : List MeterFrame) (ch scale per : Nat) : Nat :=
  if l = [] then 0 else sqrtDiv (dot l ch ch * (scale * per) ^ 2) (l.length * fullScale ^ 2)

/-- √(Σ X_h², h = 2 to 21) / X_1, in 0.01 %. -/
def thd (l : List MeterFrame) (freq ch : Nat) : Nat :=
  let x1 := power2 (dft l freq 1 ch)
  if x1 ≤ 0 then 0
  else sqrtDiv (((List.range 20).map (fun h => power2 (dft l freq (h + 2) ch))).sum * 10 ^ 8) x1.toNat

/-! ### Errors of the module's arithmetic (R341) -/

/-- A result under the conditions of Table 10.4 errs freely within its bound; outside them R338 alone gives it (log entry 130). -/
def erring (s : State) (place : Nat) (ok : Bool) (bound : Nat) (x : Int) : Int :=
  if ok then x + Config.meterError place s.now x % (2 * bound + 1 : Nat) - bound else x

/-- A current in 0.1 mA lies between `lo` per cent and 120 % of METER_I_RATED. -/
def currentWithin (s : State) (lo i : Nat) : Bool :=
  Nat.ble (lo * s.live 0x0605 * 10) (100 * i) && Nat.ble (100 * i) (120 * s.live 0x0605 * 10)

/-- |P| is at least `pct` per cent of S. -/
def ratioAtLeast (pct : Nat) (p q : Int) : Bool := Nat.ble (pct * pct * (p.natAbs ^ 2 + q.natAbs ^ 2)) (10000 * p.natAbs ^ 2)

/-! ### Line cycles and routing (R342, R343, R350) -/

/-- Energy of a line cycle or of a part of one: active and reactive in 2^-32 mWh and mvarh, apparent in 2^-32 mVAh. -/
structure CycleEnergy where
  active : Int
  reactive : Int
  apparent : Nat
deriving DecidableEq, Repr, Inhabited

/-- Starting and creep: a mean below 0.0002 × METER_V_NOMINAL × METER_I_RATED contributes nothing; µW (R342). -/
def creeps (s : State) (mean : Int) : Bool := mean.natAbs * 50 < s.live 0x0604 * s.live 0x0605

/-- The energy of a phase over samples, after R342 and within R341. -/
def cycleEnergy (s : State) (ph : Nat) (l : List MeterFrame) : CycleEnergy :=
  let freq := lineFreq s.meter.path
  let va := dot l (ph - 1) (ph + 2)
  let vr := reactiveSum l freq ph
  let p := meanMicro s va l.length
  let q := meanMicro s vr l.length
  let i := rms l (ph + 2) (s.live 0x0607) 10
  let act := energyOf s va
  let react := energyOf s vr
  let app := energyOf s (isqrt (dot l (ph - 1) (ph - 1) * dot l (ph + 2) (ph + 2)).toNat : Nat)
  let okA := currentWithin s 1 i && ratioAtLeast (if 0 ≤ q then 50 else 80) p q && Nat.ble 45000000 freq && Nat.ble freq 66000000
  let okQ := currentWithin s 5 i && Nat.ble ((p.natAbs ^ 2 + q.natAbs ^ 2)) (16 * q.natAbs ^ 2)
  { active := if creeps s p then 0 else erring s 1 okA (act.natAbs * 2 / 10000) act,
    reactive := if creeps s q then 0 else erring s 2 okQ (react.natAbs / 1000) react,
    apparent := (erring s 3 (currentWithin s 5 i) (app.natAbs * 5 / 10000) app).toNat }

/-- A pulse output has a source, and may drive its line (R350). -/
def poutDrives (s : State) (k : Nat) : Bool := s.live (0x0640 + k) != 0xFF && !s.par.safe && s.holder && meterRuns s

/-- The next due pulse starts when the output is idle (R350). -/
def startPulse (k : Nat) (s : State) : State :=
  match s.meter.pouts[k]? with
  | none => s
  | some o =>
    if poutDrives s k && o.phase == 0 && 0 < o.backlog then
      s.modMeter (fun m => { m with
        pouts := modAt m.pouts k (fun o => { o with
          backlog := o.backlog - 1, phase := 1, phaseEnd := s.now + s.live (0x0648 + k) * ms }) })
    else s

/-- Outputs that may drive again go on with their backlogs (R350). -/
def startPulses (s : State) : State := [0, 1, 2, 3].foldl (fun s k => startPulse k s) s

/-- Pulses due join the backlog; beyond 65,535 OVERFLOW latches and is recorded once (R350). -/
def duePulses (k n : Nat) (s : State) : State :=
  match s.meter.pouts[k]? with
  | none => s
  | some o =>
    let full := 65535 < o.backlog + n
    let s := s.modMeter (fun m => { m with
      pouts := modAt m.pouts k (fun o => { o with backlog := min 65535 (o.backlog + n), overflow := o.overflow || full }) })
    let s := if full && !o.overflow then crossNote 0x14 evPulseOutputOverflow [] s else s
    startPulse k s

/-- Energy routed into register `r` reaches output `k`: every 1,000,000 / C mWh makes one pulse due (R350). -/
def feedPout (k r x : Nat) (s : State) : State :=
  match s.meter.pouts[k]? with
  | none => s
  | some o =>
    if s.live (0x0640 + k) ≠ r ∨ s.standby then s
    else
      let c := max 1 (s.live (0x0644 + k))
      let one := 1000000 * 2 ^ 32
      let acc := o.acc + x
      let n := acc * c / one
      let s := s.modMeter (fun m => { m with pouts := modAt m.pouts k (fun o => { o with acc := acc - n * one / c }) })
      if n = 0 then s else duePulses k n s

/-- Energy, in 2^-32 units, is added to a register and to the outputs that follow it. -/
def addEnergy (r x : Nat) (s : State) : State :=
  if x = 0 then s
  else
    let s := s.modMeter (fun m => { m with regs := modAt m.regs r (fun v => (v + x) % 2 ^ 96) })
    [0, 1, 2, 3].foldl (fun s k => feedPout k r x s) s

/-- A signed energy goes to the first register of a pair if positive and to the second if negative. -/
def routePair (r : Nat) (x : Int) (s : State) : State :=
  if 0 ≤ x then addEnergy r x.toNat s else addEnergy (r + 1) (-x).toNat s

/-- A phase's contribution is routed, and waits for the total (R343). -/
def routeCycle (ph : Nat) (e : CycleEnergy) (s : State) : State :=
  let s := routePair (5 * ph + 2) e.reactive (routePair (5 * ph) e.active s)
  let s := addEnergy 4 e.apparent (addEnergy (5 * ph + 4) e.apparent s)
  s.modMeter (fun m => { m with totalAct := m.totalAct + e.active, totalReact := m.totalReact + e.reactive })

/-- The samples of a phase not yet routed, up to a span time. -/
def unrouted (p : Datapath) (ph until_ : Nat) : List MeterFrame :=
  (p.frames.drop (p.routed.getD (ph - 1) 0)).filter (fun f => f.at_ < until_)

/-- What a phase has summed is routed (R343). -/
def routePhase (ph until_ : Nat) (s : State) : State :=
  let l := unrouted s.meter.path ph until_
  let s := routeCycle ph (cycleEnergy s ph l) s
  s.modMeter (fun m => { m with path := { m.path with routed := modAt m.path.routed (ph - 1) (· + l.length) } })

/-- The 25 ms of R343 run from here. -/
def noteRouted (ph : Nat) (s : State) : State :=
  s.modMeter (fun m => { m with lastCross := modAt m.lastCross (ph - 1) (fun _ => s.now) })

/-- The total is routed by its sign (R343). -/
def routeTotal (s : State) : State :=
  let a := s.meter.totalAct
  let q := s.meter.totalReact
  routePair 2 q (routePair 0 a (s.modMeter (fun m => { m with totalAct := 0, totalReact := 0 })))

/-- A closing routes the partial line cycles by their own sign, the total after them (R343). -/
def closeTotals (until_ : Nat) (s : State) : State :=
  routeTotal ([1, 2, 3].foldl (fun s ph => if phaseFitted s ph then routePhase ph until_ s else s) s)

/-- A flush: the totals are closed at this instant and written, kind FLUSH (R347). -/
def flushNow (s : State) : State := saveTotals 2 (closeTotals (s.spanNow + 1) s)

/-- The instant of the crossing between the last two samples of Vp, span time in ns: where the line through them meets 0. -/
def crossingAt (p : Datapath) (ph until_ : Nat) : Nat :=
  match p.frames.reverse with
  | b :: a :: _ =>
    let x := a.chan (ph - 1)
    let y := b.chan (ph - 1)
    if x < 0 ∧ 0 ≤ y then a.at_ + ((((b.at_ - a.at_ : Nat) : Int) * -x) / (y - x)).toNat else b.at_
  | [b] => b.at_
  | [] => until_

/-- LINE_ZERO_CROSSING (R343): the line cycle of the phase is routed; the total follows at the crossings of V1. -/
def zeroCrossing (ph : Nat) (s : State) : State :=
  let t := crossingAt s.meter.path ph s.spanNow
  let s := s.modMeter (fun m => { m with path := { m.path with crossings := modAt m.path.crossings (ph - 1) (· ++ [t]) } })
  let s := routePhase ph (s.spanNow + 1) (noteRouted ph s)
  if ph = 1 then routeTotal s else s

def execLineZeroCrossing (phase : Nat) (edges : List Nat) (s : State) : Res :=
  .next (if meterRuns s && phaseFitted s phase then zeroCrossing phase (takeBits edges s) else takeBits edges s)

/-- ROUTING_TIMEOUT (R343): 25 ms without a zero crossing; phase 1 routes the total. -/
def execRoutingTimeout (phase : Nat) (edges : List Nat) (s : State) : Res :=
  .next (if meterRuns s && phaseFitted s phase && Nat.ble (s.meter.lastCross.getD (phase - 1) 0 + 25 * ms) s.now then
      let s := routePhase phase (s.spanNow + 1) (noteRouted phase (takeBits edges s))
      if phase = 1 then routeTotal s else s
    else takeBits edges s)

/-- POUT_PULSE_PHASE_END (R350): after W active follow W inactive, then the next due pulse. -/
def execPoutPulsePhaseEnd (output : Nat) (s : State) : Res :=
  .next (match s.meter.pouts[output]? with
    | none => s
    | some o =>
      if o.phase = 0 ∨ s.now < o.phaseEnd then s
      else if o.phase = 1 then
        s.modMeter (fun m => { m with
          pouts := modAt m.pouts output (fun o => { o with phase := 2, phaseEnd := o.phaseEnd + s.live (0x0648 + output) * ms }) })
      else startPulse output (s.modMeter (fun m => { m with pouts := modAt m.pouts output (fun o => { o with phase := 0 }) })))

/-- `POUTn` (R350): high-Z while the interlock is closed (R371), else active for W at its level, inactive otherwise. -/
def poutPin (s : State) (k : Nat) : PinLevel :=
  if !s.twin.interlock ∨ !bankGood 2 s then .highZ
  else if (match s.meter.pouts[k]? with | some o => o.phase == 1 | none => false) != (s.live 0x064C).testBit k then .high
  else .low

/-! ### MOD_CLK gaps (R334) -/

/-- MOD_CLK_GAP: more than 2 µs without an edge; the last came 2 µs ago. The bits up to it come with the next row that brings
bits (log entry 131). -/
def execModClkGap (s : State) : Res :=
  .next (if meterRuns s && s.meter.gapSince.isNone then s.modMeter (fun m => { m with gapSince := some (s.now - 2000) }) else s)

/-- A window loses certainty for a reason of Table 10.10. -/
def windowReason (bit : Nat) (s : State) : State :=
  s.modMeter (fun m => { m with window := m.window.map (fun w => { w with reasons := w.reasons ||| 2 ^ bit }) })

/-- The second is FILLED. -/
def markFilled (s : State) : State :=
  (windowReason 4 s).modMeter (fun m => { m with
    filledNow := true, filledSince := true, stdWindow := m.stdWindow.map (fun w => (w.1, w.2.1, w.2.2.1, true)) })

/-- The second before is FILLED too, where the gap began in it. -/
def fillLast (s : State) : State :=
  match s.meter.gapSince, s.meter.last with
  | some g, some x =>
    if s.spanNow - spanOf s (s.now - g) < stTotNs x.time then s.modMeter (fun m => { m with last := some { x with filled := true } }) else s
  | _, _ => s

/-- Each register is credited for the discarded interval at its mean rate over the last complete second before
the gap. -/
def creditGap (ns : Nat) (s : State) : State :=
  (List.range 20).foldl (fun s r => addEnergy r (s.meter.rates.getD r 0 * ns / sec) s) s

/-- Output samples that depend on a gap ending now: those due in it, and those of the 1,072 µs after it. -/
def dependents (s : State) : Nat := (s.now + 1072000 - s.meter.path.sampleAt) / 128000

/-- Samples of the gap itself: their instants have passed. -/
def missed (s : State) : Nat := (s.now - s.meter.path.sampleAt) / 128000

/-- The datapath takes up its sample instants again, the dependents still to come marked for replacement or discard. -/
def resumePath (drop : Bool) (s : State) : State :=
  let n := missed s
  let per := 128000
  let fill (p : Datapath) (k : Nat) : Datapath :=
    { p with frames := p.frames ++ [interpolated (s.spanNow - spanOf s (s.now - (s.meter.path.sampleAt + (k + 1) * per))) p] }
  s.modMeter (fun m =>
    let p := if drop then m.path else (List.range n).foldl fill m.path
    { m with
      gapSince := none,
      path := { p with
        depLeft := dependents s - n, depDrop := drop, sampleAt := p.sampleAt + n * per,
        edge := (s.now - m.path.sampleAt) % per / modClkNs s } })

/-! ### What a second measures (R337, R338) -/

/-- What the datapath measured of one phase: the quantities as read, the fine Vrms in mV and Irms in 0.1 mA, the angle in 0.001°. -/
structure PhaseIn where
  read : PhaseQ
  vrmsFine : Nat
  irmsFine : Nat
  angle : Int
deriving DecidableEq, Repr, Inhabited

/-- What it measured of a second: frequency in µHz, phases 1 to 3, neutral mA, residual 0.1 mA, the mean of each channel in LSBs. -/
structure MeterIn where
  freq : Nat
  phases : List PhaseIn
  neutral : Nat
  residual : Nat
  means : List Int
deriving DecidableEq, Repr, Inhabited

/-- The samples whose instants lie before the whole second (R337). -/
def secondFrames (s : State) : List MeterFrame := s.meter.path.frames.filter (fun f => f.at_ < s.spanNow / sec * sec)

/-- Vp over the whole second lies below METER_PRESENCE_V. -/
def phaseLow (s : State) (ph : Nat) : Bool := rms (secondFrames s) (ph - 1) (s.live 0x0606) 1 < s.live 0x0630 * 10

/-- The whole line cycles of Vp that end in the second, or the whole second while Vp is low (R338). -/
def cycleFrames (s : State) (ph : Nat) : List MeterFrame :=
  match s.meter.path.crossings.getD (ph - 1) [] with
  | a :: b :: l =>
    if phaseLow s ph then secondFrames s
    else (s.meter.path.past ++ secondFrames s).filter (fun f => a ≤ f.at_ && f.at_ < (b :: l).getLastD b)
  | _ => secondFrames s

/-- The frequency of the second in µHz, from the positive crossings of V1, or of V2 and then V3 while V1 is low (R338). -/
def measuredFreq (s : State) : Nat :=
  match [1, 2, 3].find? (fun ph => phaseFitted s ph && !phaseLow s ph) with
  | none => Config.unstated 38 s.now
  | some ph =>
    match s.meter.path.crossings.getD (ph - 1) [] with
    | a :: b :: l =>
      (erring s 4 true 2000 (roundDiv ((l.length + 1 : Nat) * 10 ^ 15) ((b :: l).getLastD b - a))).toNat
    | _ => Config.unstated 38 s.now

/-- One phase of the second (R338, R339, R341): S = Vrms × Irms, PF = P / S. -/
def measurePhase (s : State) (freq ph : Nat) : PhaseIn :=
  let l := cycleFrames s ph
  let all := secondFrames s
  let v := rms l (ph - 1) (s.live 0x0606) 10
  let i := rms l (ph + 2) (s.live 0x0607) 10
  let vOk := Nat.ble (10 * s.live 0x0604) v && Nat.ble v (120 * s.live 0x0604)
  let v := (erring s (5 + ph) vOk (v * 2 / 10000) v).toNat
  let i' := (erring s (9 + ph) (currentWithin s 1 i) (i * 5 / 10000) i).toNat
  let p := roundDiv (meanMicro s (dot all (ph - 1) (ph + 2)) all.length) 100000
  let sv := (roundDiv ((v * i' : Nat) : Int) 1000000).toNat
  let tv := thd l freq (ph - 1)
  let ti := thd l freq (ph + 2)
  let tOk (t : Nat) : Bool := Nat.ble 100 t && Nat.ble t 4000
  let a := dft l freq 1 (ph - 1)
  let b := dft l freq 1 (ph + 2)
  { read :=
      { p := p, q := roundDiv (meanMicro s (reactiveSum l freq ph) l.length) 100000, s := sv, vrms := (roundDiv v 10).toNat,
        irms := (roundDiv i' 10).toNat,
        pf := if sv = 0 then 0 else erring s (13 + ph) (currentWithin s 5 i) 5 (roundDiv (p * 10000) sv),
        thdV := (erring s (17 + ph) (tOk tv) 10 tv).toNat, thdI := (erring s (21 + ph) (tOk ti) 10 ti).toNat },
    vrmsFine := v, irmsFine := i', angle := angleOf (a.1 * b.1 + a.2 * b.2) (a.1 * b.2 - a.2 * b.1) }

/-- The second as the datapath measured it; phases not fitted read zero. -/
def measureSecond (s : State) : MeterIn :=
  let l := secondFrames s
  let freq := measuredFreq s
  { freq := freq,
    phases := [1, 2, 3].map (fun ph => if phaseFitted s ph then measurePhase s freq ph else default),
    neutral := (roundDiv (rms l 6 (s.live 0x0608) 10) 10).toNat, residual := (roundDiv (rms l 7 (s.live 0x0609) 10) 10).toNat,
    means := (List.range 8).map (fun c => if l = [] then 0 else roundDiv ((l.map (fun f => f.lsb.getD c 0)).sum) l.length) }

/-- The next second begins: its samples so far, the last crossing of each phase, the frequency just measured. -/
def nextSecond (freq : Nat) (s : State) : State :=
  let done := secondFrames s
  s.modMeter (fun m => { m with
    path := { m.path with
      past := done, frames := m.path.frames.drop done.length, freq := freq,
      routed := m.path.routed.map (fun n => n - done.length),
      crossings := m.path.crossings.map (fun l => l.drop (l.length - 1)) } })

end Sys2Proof.Machine
end

