-- ==== Sys2Proof/Machine/Contactors.lean ====
section
/-! DEFINITION. The start of the span as the contactors and SPAN_START ask for it, the fallback table and the contactors (R197, R199,
R324 to R329). -/

namespace Sys2Proof.Machine

/-! ### The span's start as the contactors and SPAN_START ask for it (R197, R199) -/

/-- Support of a PHY mode by a radio profile (Table 5.9, offset 20). -/
def phySupported (profile : Bytes) (mode : Nat) : Bool := 1 ≤ mode && (fld profile 20 1).testBit (mode - 1)

/-- A field of SPAN_IDENTITY holds its wildcard (Table 1.9). -/
def identityWild (v : Nat) : Bool :=
  bits v 39 32 == 0xFF || bits v 31 20 == 0xFFF || bits v 19 10 == 0x3FF || bits v 9 0 == 0x3FF

/-- Why the span cannot start, in the order of R197. -/
def spanRefusal (s : State) : Option (Nat × Nat) :=
  if s.mac.running || s.mac.startAt.isSome then some (stBusy, 0x80)
  else match s.mac.region, s.mac.portA.profile with
    | none, _ => some (stBadParam, 0x81)
    | _, none => some (stBadParam, 0x81)
    | some r, some pa =>
      if fld r 4 1 > 1 ∧ s.mac.portB.profile = none then some (stBadParam, 0x81)
      else if !(phySupported pa (fld r 3 1)) ||
          (fld r 4 1 > 1 && !(phySupported (s.mac.portB.profile.getD []) (fld r 3 1))) then some (stBadParam, 0x86)
      else if identityWild (s.live 0x0400) then some (stBadParam, 0x83)
      else none

/-- The first whole second of span time at or after an instant, in seconds (R22). -/
def secAtOrAfter (ns : Nat) : Nat := (ns + sec - 1) / sec

/-- Schedules cycle 0 at a whole second. -/
def scheduleStart (at_ : Nat) (s : State) : State :=
  s.modMac (fun m => { m with startAt := some at_, launched := false, heldStopped := false })

/-- R199: a closed contactor starts the span while SPAN_AUTO is 1. -/
def autoStart (s : State) : State :=
  if s.live 0x030A == 1 && s.fwUp && !s.keyless && s.holder && !s.mac.heldStopped && (spanRefusal s).isNone
      && s.fb.cont.any id then
    scheduleStart (secAtOrAfter s.spanNs) s
  else s

/-- A contactor takes a level: a closing starts the span, after its end where it is stopping; both open start the 60 s of R199. -/
def setContactor (k : Nat) (level : Bool) (s : State) : State :=
  if s.fb.cont[k]? = some level then s
  else
    let s := s.modFb (fun f => { f with cont := modAt f.cont k (fun _ => level) })
    if level then autoStart (s.modMac (fun m => { m with heldStopped := false, openSince := none, startAgain := m.stopping }))
    else if s.fb.cont.any id then s
    else s.modMac (fun m => { m with openSince := some s.now })

/-! ### The fallback table (R325 to R329) -/

def fbTable (s : State) : Option Bytes := s.fb.tableSram.orElse (fun _ => s.fb.tableVault)

/-- UTC of the RTC in whole seconds since 2000. -/
def State.utcSec (s : State) : Nat := s.rtc.ticks / tickHz

/-- The RTC is valid and within 2399 (R308, R314). -/
def rtcOk (s : State) : Bool := s.rtc.valid && s.utcSec < calRange

/-- The day index of a day number, which may lie before 2000 (R326): the calendar repeats every 146,097 days. -/
def dayIndex (d : Int) : Nat := fallbackDay (calOfSeconds ((d % 146097).toNat * 86400))

/-- The events of an entry, latest first: minute, close. -/
def entryEvents (e : Nat) : List (Nat × Bool) :=
  (if bits e 21 11 = 0x7FF then [] else [(bits e 21 11, true)]) ++ (if bits e 10 0 = 0x7FF then [] else [(bits e 10 0, false)])

/-- R327: the days still to look back, the day of l, its minute; day index, minute and action of the event found. -/
def tableLookup (tbl : Bytes) (k : Nat) (day : Int) (minute : Nat) : Nat → Nat → Option (Nat × Nat × Bool)
  | 0, _ => none
  | n + 1, back =>
    let di := dayIndex (day - back)
    let e := fld tbl (8 + 4 * di) 4
    let hit := if e.testBit (22 + k) then (entryEvents e).find? (fun x => 0 < back || x.1 ≤ minute) else none
    match hit with
    | some (m, c) => some (di, m, c)
    | none => tableLookup tbl k day minute n (back + 1)

/-- Fixed local time of the table, in seconds since 2000 (R326). -/
def tableLocal (s : State) (tbl : Bytes) : Int := (s.utcSec : Int) + toS 16 (fld tbl 0 2) * 60

/-- What the table or the no-time rule gives a contactor: level, cause, day index, minute; none for HOLD (R329). -/
def fallbackResult (s : State) (k : Nat) : Option (Bool × Nat × Nat × Nat) :=
  let noTime : Option (Bool × Nat × Nat × Nat) :=
    if s.live 0x0114 = 1 then some (true, 2, 0xFFFF, 0xFFFF) else if s.live 0x0114 = 2 then some (false, 2, 0xFFFF, 0xFFFF) else none
  match fbTable s with
  | none => noTime
  | some tbl =>
    if rtcOk s then
      let l := tableLocal s tbl
      match tableLookup tbl k (l / 86400) ((l % 86400).toNat / 60) 367 0 with
      | some (di, m, c) => some (c, 1, di, m)
      | none => noTime
    else noTime

def agentCode (a : Agent) : Nat := match a with | .sequencer => 1 | .firmware => 2

/-- Drives a contactor to the table's result and records FALLBACK_SWITCH for a change (R328). -/
def fallbackDrive (k : Nat) (s : State) : State :=
  match fallbackResult s k with
  | none => s
  | some (lvl, cause, di, m) =>
    if s.fb.cont[k]? = some lvl then s
    else ev evFallbackSwitch ([byte k, byte (b2n lvl), byte (agentCode s.fb.agent), byte cause] ++ le 2 di ++ le 2 m ++ zeros 6)
      (setContactor k lvl s)

/-- R328: both contactors are evaluated at once, by whichever agent holds control. -/
def fallbackEval (s : State) : State := if s.fb.backup then s else fallbackDrive 1 (fallbackDrive 0 s)

/-- The sequencer takes control and evaluates (R324, R328). -/
def seqTakes (s : State) : State :=
  if s.fb.agent = .sequencer then s else fallbackEval (takeControl .sequencer s)

end Sys2Proof.Machine
end

