-- ==== Sys2Proof/Machine/Parapet.lean ====
section
/-! DEFINITION. The parapet: faults and safe state (R430 to R441), and the beginning of a command (R73 to R75, R78, R380). -/

namespace Sys2Proof.Machine

/-! ### The parapet (R430 to R441) -/

/-- R441, Table 14.2: safe state is entered; the FT's code, source and record index are named. While the DECK is stopped the
FT is a request for a shallower state, and safe state follows the exit (Table 12.11). -/
def enterSafe (code source index : Nat) (s : State) : State :=
  if s.par.safe then s
  else if s.pwr.stopped then
    (s.modPar (fun p => { p with safeOwed := some (p.safeOwed.getD (code, source, index)) })).modPwr (fun p => { p with
      wakePending := true })
  else
    let s := toRun s
    let s := recordEv evSafeStateEntered sourceModule sevCritical (le 2 code ++ le 2 source ++ le 4 index ++ zeros 6) none 0 s
    let s := (if s.twin.latch && s.twin.interlock then ev evLeaseReleased [] else id) (dropLeaseOut s)
    let s := s.modPar (fun p => { p with safe := true, safeSince := s.now, safeOwed := none, pending := [], injections := [] })
    let s := refreshLdEn s
    let s := s.modSec (fun k => { k with keystone := none })
    let s := dropPend s
    let s := toHoldover s
    let s := seqTakes s
    let s := if s.meter.active then flushNow s else s
    let s := s.modMeter (fun m => { m with pouts := m.pouts.map (fun o => { o with phase := 0 }) })
    let s := s.modMac (fun m => { m with attempts := [] })
    let s := s.modPar (stageAll s.now)
    let s := closeSessions (fun x => x.transport == .eth) s
    s.modHost (fun h => { h with win := { h.win with causeSafe := true } })

/-- Records a fault's event (R432). -/
def faultRecord (source cls : Nat) (payload : Bytes) (s : State) : State :=
  recordEv (faultCode source) source (faultSeverity cls) payload none 0 s

/-- An FT is recorded and enters safe state at once (R430). -/
def raiseFT (source : Nat) (payload : Bytes) (s : State) : State :=
  let i := s.par.nextIndex
  enterSafe (faultCode source) source i (faultRecord source clsFT payload s)

/-- The deadline of a source's new entry (R434). -/
def ucDeadline (s : State) (source : Nat) : Nat :=
  let d := s.live (0x0940 + source)
  (if d = 0 then s.live 0x0901 else d) * ms

/-- R434, R436, R437: a UC merges, takes a new entry, or overflows the list; in safe state it is only recorded. -/
def raiseUC (source : Nat) (payload : Bytes) (s : State) : State :=
  let s := faultRecord source clsUC payload (s.modPar (fun p => { p with ucCount := p.ucCount + 1 }))
  if s.par.safe then s
  else if s.par.pending.any (fun e => e.source == source) then
    s.modPar (fun p => { p with
      pending := p.pending.map (fun e => if e.source = source then { e with merged := satAdd 16 e.merged 1 } else e) })
  else if 16 ≤ s.par.pending.length then raiseFT srcPendingOverflow [] s
  else
    let e (o : Nat) : UcEntry :=
      { source := source, merged := 1, deadline := s.now + ucDeadline s source, cycle := s.evCycle, order := o, infos := [] }
    s.modPar (fun p => { p with ucOrder := p.ucOrder + 1, pending := p.pending ++ [e p.ucOrder] })

/-- R430: a CE is counted and recorded. -/
def raiseCE (source : Nat) (payload : Bytes) (s : State) : State :=
  faultRecord source clsCE payload (s.modPar (fun p => { p with ceCount := p.ceCount + 1 }))

def raiseFault (source cls : Nat) (payload : Bytes) (s : State) : State :=
  if cls = clsCE then raiseCE source payload s else if cls = clsUC then raiseUC source payload s else raiseFT source payload s

/-- A deadline reached with its entry pending: ESCALATION names the source (R435). -/
def escalate (source : Nat) (s : State) : State := raiseFT srcEscalation (le 2 source) s

/-- An acknowledgement removes the source's entry and is recorded under the fault's source ID; one at the deadline escalates
(R435). Mark: DEDUCED (log entry 42). -/
def ackFault (source : Nat) (s : State) : State :=
  match s.par.pending.find? (fun e => e.source == source) with
  | none => s
  | some e =>
    if e.deadline ≤ s.now then escalate source s
    else recordEv evFaultAcknowledged source (severityOf evFaultAcknowledged) (le 2 source ++ le 2 e.merged) none 0
      (s.modPar (fun p => { p with pending := p.pending.filter (fun x => x.source != source) }))

/-! ### Running a command (R73 to R75, R78, R380) -/

/-- FENCE of scope MODULE. -/
def isModuleFence (c : LiveCmd) : Bool := c.opcode == 4 && fld c.params 0 1 == 2

/-- Table 2.11: may `c` begin while `d`, accepted earlier, has not completed? -/
def mayPass (d c : LiveCmd) : Bool :=
  if c.opcode = 0x0008 then true
  else if isModuleFence c then false
  else if d.sid != c.sid || d.orphan then true
  else if d.opcode = 0x0004 || c.opcode = 0x0004 || c.flags.testBit flFence then false
  else !(d.flags.testBit flOrdered && c.flags.testBit flOrdered)

/-- No earlier command and no dependency holds the command back. -/
def canBegin (h : HostSide) (c : LiveCmd) : Bool :=
  h.live.all (fun d => c.seq ≤ d.seq || mayPass d c) && (match c.dep with | .live _ => false | _ => true)

/-- The accepted command an opcode row runs: not begun, its turn come, journaled, its deadline ahead (R73, R79, R380). -/
def readyCmd (op sid tag : Nat) (s : State) : Option LiveCmd :=
  match s.cmd sid tag with
  | none => none
  | some c =>
    if c.opcode == op && !c.begun && c.journaled && s.fwUp && s.now < c.deadline && canBegin s.host c then some c else none

/-- Runs a command: with a failed dependency it completes with DEPENDENCY_FAILED and does not execute (R74). -/
def runCmd (op sid tag : Nat) (body : LiveCmd → State → State) (s : State) : State :=
  match readyCmd op sid tag s with
  | none => s
  | some c =>
    let s := toRun s
    match c.dep with
    | .status st =>
      if success st then body c (s.modCmd c.seq (fun c => { c with begun := true })) else fail c stDependencyFailed dNone s
    | _ => body c (s.modCmd c.seq (fun c => { c with begun := true }))

/-- The command goes on waiting for something (R29, R175). -/
def waitFor (c : LiveCmd) (w : Wait) (work : List Nat) (s : State) : State :=
  s.modCmd c.seq (fun x => { x with wait := w, work := work })

end Sys2Proof.Machine
end

