-- ==== Sys2Proof/Machine/Joints.lean ====
section
/-! DEFINITION. Expansion joints (R414 to R420): sending an event across one, delivery, loss and flush. -/

namespace Sys2Proof.Machine

/-- The EJ-E instances of Table 13.2. -/
def eventJoint (j : Nat) : Bool := (1 ≤ j && j ≤ 4) || j == 0x07 || j == 0x09 || j == 0x14 || j == 0x17

/-- Joints whose OVERRUN and loss counts stay until CLEAR_LOST (R417). -/
def pulseJoint (j : Nat) : Bool := 1 ≤ j && j ≤ 4

/-- R417: the payload of JOINT_OVERRUN and JOINT_FLUSHED. -/
def jointPayload (j : Nat) (x : Joint) : Bytes := [byte j] ++ le 2 (x.lost - x.lostRecorded) ++ zeros 11

/-- R417: an OVERRUN that is not a pulse joint's is recorded once as JOINT_OVERRUN, which clears it. -/
def recordOverrun (j : Nat) (s : State) : State :=
  let x := s.joint j
  if x.overrun && !pulseJoint j && s.fwUp then
    raiseCE srcJointOverrun (jointPayload j x) (modJoint j (fun x => { x with overrun := false, lostRecorded := x.lost }) s)
  else s

/-- R419: FLUSHED is recorded as JOINT_FLUSHED, which clears it. -/
def recordFlushed (j : Nat) (s : State) : State :=
  let x := s.joint j
  if x.flushed && s.fwUp then
    ev evJointFlushed (jointPayload j x) (modJoint j (fun x => { x with flushed := false, lostRecorded := x.lost }) s)
  else s

/-- A word or level waiting for its destination: EJ-F appends up to the depth, the others hold one (R414, R416). -/
def jointWord (depth : Nat) (dropOldest : Bool) (w : Nat) (x : Joint) : Joint :=
  if x.words.length < depth then { x with words := x.words ++ [w] }
  else { x with words := if dropOldest then x.words.drop 1 ++ [w] else x.words, overrun := true, lost := satAdd 16 x.lost 1 }

/-- A pulse event lands in the DECK: it gives the span time of the last pulse (R351). -/
def pulseLanded (j : Nat) (s : State) : State :=
  if pulseJoint j then
    s.modMeter (fun m => { m with pins := modAt m.pins (j - 1) (fun p => { p with lastPulse := some s.time.spanT }) })
  else s

/-- An event enters an EJ-E: with the destination's clock running it lands, else it waits (R415). -/
def jointSend (j : Nat) (s : State) : State :=
  if destRuns j s && (s.joint j).awaiting.isNone then
    pulseLanded j (modJoint j (fun x => { x with delivered := x.delivered + 1 }) s)
  else recordOverrun j (modJoint j jointEvent s)

/-- The first `k` events that wait at an EJ-E are recorded in the DECK, with what each carries. -/
def landCrossed (j k : Nat) (s : State) : State :=
  let mine := s.pwr.crossed.filter (fun x => x.1 == j)
  (mine.take k).foldl (fun s x => ev x.2.1 x.2.2 s)
    (s.modPwr (fun p => { p with crossed := p.crossed.filter (fun x => x.1 != j) ++ mine.drop k }))

/-- As `crossNote`, with the OVERRUN of the joint recorded (R417). -/
def crossEv (j code : Nat) (payload : Bytes) (s : State) : State := recordOverrun j (crossNote j code payload s)

/-- One transfer or word reaches its destination (R415): an EJ-E launches the next with its whole count. -/
def jointDeliver (j : Nat) (s : State) : State :=
  let x := s.joint j
  match x.awaiting with
  | some k =>
    if eventJoint j then
      recordOverrun j (landCrossed j k (pulseLanded j (modJoint j (fun x => { x with
        delivered := x.delivered + k, awaiting := if 0 < x.c then some x.c else none, c := 0 }) s)))
    else modJoint j (fun x => { x with delivered := k, awaiting := none }) s
  | none =>
    match x.words with
    | w :: l => recordOverrun j (modJoint j (fun x => { x with words := l, delivered := w }) s)
    | [] => s

/-- JOINT_DELIVERY (R414 to R418). -/
def execJointDelivery (joint : Nat) (s : State) : Res := .next (if destRuns joint s then jointDeliver joint s else s)

/-- R419: what the side not reset does. -/
def flushJoint (j : Nat) (s : State) : State :=
  let s := s.modPwr (fun p => { p with crossed := p.crossed.filter (fun x => x.1 != j) })
  modJoint j (fun x => { x with
    lost := if eventJoint j then satAdd 16 x.lost x.c else x.lost, c := 0, awaiting := none, words := [], flushed := true }) s

/-- JOINT_SIDE_RESET (R419). -/
def execJointSideReset (joint : Nat) (s : State) : Res := .next (recordFlushed joint (flushJoint joint s))

/-- R418: a joint out of a domain that SLUMBER stops holds data; METER and LAMP are among them unless kept. -/
def jointsHold (s : State) : Bool :=
  let keep := s.live 0x0202
  ([0x09, 0x0A, 0x0B, 0x0C, 0x0D, 0x0E, 0x0F, 0x10, 0x11, 0x12, 0x15, 0x18, 0x19, 0x1A, 0x1B, 0x1C]
    ++ (if keep.testBit 0 then [] else [0x13, 0x14]) ++ (if keep.testBit 1 then [] else [0x16, 0x17])).any (fun j =>
    let x := s.joint j
    x.awaiting.isSome || x.words != [] || x.c != 0)

/-- OVERRUN flags that stand since the DECK could not record them (R417). -/
def recordOverruns (s : State) : State := (List.range 28).foldl (fun s j => recordOverrun (j + 1) s) s

end Sys2Proof.Machine
end

