-- ==== Sys2Proof/Machine/Wake.lean ====
section
/-! DEFINITION. Waking and the requests for VCORE (R395, R399 to R410). -/

namespace Sys2Proof.Machine

/-! ### VCORE requests (R409, R410) -/

/-- The mantissa of VOUT_COMMAND: round(V × 2^−N), V in mV (R409). -/
def voutMantissa (exponent : Int) (mv : Nat) : Nat := (mv * 2 ^ exponent.natAbs + 500) / 1000

/-- VCORE of an operating point, mV (Table 12.9). -/
def pointMv (point : Nat) : Nat := if point = 1 then 900 else if point = 2 then 800 else 720

/-- A PMBus write to POWER_PMIC_ADDR, with PEC (R409). -/
def pmbusWrite (command : Nat) (data : Bytes) (s : State) : State :=
  let b := [byte (2 * s.live 0x0209), byte command] ++ data
  s.modOut (fun o => { o with pmbus := o.pmbus ++ [b ++ [byte (crc8 b)]] })

/-- A PMBus read: the command, then the address again to read. -/
def pmbusRead (command : Nat) (s : State) : State :=
  s.modOut (fun o => { o with pmbus := o.pmbus ++ [[byte (2 * s.live 0x0209), byte command, byte (2 * s.live 0x0209 + 1)]] })

/-- VOUT_COMMAND. -/
def sendVout (exponent : Int) (mv : Nat) (s : State) : State := pmbusWrite 0x21 (le 2 (voutMantissa exponent mv)) s

/-- The stop condition of the VOUT_COMMAND in progress, and the end of the STATUS_WORD read that follows it by POWER_PMIC_SETTLE (R409,
Table 12.6). -/
def voutStop (s : State) : Nat := s.pwr.pmbus.sentAt + (if s.live 0x020A = 2 then 47000 else 117500)
def statusRead (s : State) : Nat := voutStop s + s.live 0x020B * us + (if s.live 0x020A = 2 then 57000 else 142500)

/-- A voltage is requested on PMBus. -/
def requestVout (mv attempt : Nat) (s : State) : State :=
  let s := sendVout s.pwr.pmbus.exponent mv s
  s.modPwr (fun p => { p with
    pmbus := { p.pmbus with request := some mv, sentAt := s.now, attempt := attempt, retryAt := none, nackRetried := false, rereads := false } })

/-- The ceiling POWER_OP_POINT_MAX, one point lower while throttling applies (R395). -/
def pointAllowed (s : State) : Nat := min 3 (s.live 0x0203 + b2n s.pwr.throttled)

/-- Exit latency of SLUMBER in ns (Table 12.6). -/
def exitLatency (s : State) : Nat :=
  (if s.live 0x020A = 2 then 304000 else 460000) + s.live 0x020B * 1000

/-- An entry abandoned at an abort point counts (R401). -/
def countAbort (point : Nat) (s : State) : State :=
  s.modPwr (fun p => { p with
    aborts := p.aborts + 1, lastAbort := point, abortCounts := modAt p.abortCounts (point - 1) (satAdd 16 · 1) })

/-- The exit of Table 12.5 starts: the voltage of the point in force at entry, or a lower one now required (R400). -/
def beginExit (s : State) : State :=
  let pt := max s.pwr.opPoint (pointAllowed s)
  requestVout (pointMv pt) 1 (s.modPwr (fun p => { p with trans := some (.exit none), opPoint := pt, wakePending := false }))

/-- Each wake is recorded as its cause, at most once per cause per minute (R408). -/
def recordWake (cause : Nat) (s : State) : State :=
  let seen : Bool := match get? s.pwr.wakeRecorded cause with | some t => s.now < t + 60 * sec | none => false
  if seen then s
  else crossEv 0x07 evWake [byte cause] (s.modPwr (fun p => { p with wakeRecorded := put p.wakeRecorded cause s.now }))

/-- A wake (R401, R402, R408): causes 1 to 12 are the rows of Table 12.8, others wake from IDLE and NAP only. One that comes
during an exit is recorded too (Table 12.11). -/
def wakeUp (cause : Nat) (s : State) : State :=
  let deep : Bool := Nat.ble 1 cause && Nat.ble cause 12
  let awake (s : State) : State :=
    if s.pwr.state = .idle ∨ s.pwr.state = .nap then recordWake cause (toRun s)
    else if s.pwr.state = .slumber ∧ deep then beginExit (recordWake cause s)
    else s
  match s.pwr.trans with
  | some (.entry _ _) => if deep then recordWake cause (s.modPwr (fun p => { p with wakePending := true })) else s
  | some (.exit _) | some (.abandon _ _) => if deep then recordWake cause s else s
  | _ => awake s

end Sys2Proof.Machine
end

