-- ==== Sys2Proof/Machine/Clock.lean ====
section
/-! DEFINITION. The real-time clock, its alarms and steps (R306 to R321), the application of settings (R24 to R32), and steps and slews of span time (R292 to R297). -/

namespace Sys2Proof.Machine

/-! ### Alarms (R315 to R319) -/

/-- A field matches unless it is masked. -/
def fieldOk (masked : Bool) (a b : Nat) : Bool := masked || a == b

def dateMatches (a : Alarm) (c : Calendar) : Bool :=
  fieldOk (a.mask.testBit 0) a.cal.year c.year && fieldOk (a.mask.testBit 1) a.cal.month c.month &&
  fieldOk (a.mask.testBit 2) a.cal.day c.day && fieldOk (a.mask.testBit 3) a.cal.weekday c.weekday

def todMatches (a : Alarm) (c : Calendar) : Bool :=
  fieldOk (a.mask.testBit 4) a.cal.hour c.hour && fieldOk (a.mask.testBit 5) a.cal.minute c.minute &&
  fieldOk (a.mask.testBit 6) a.cal.second c.second

/-- R315: every unmasked field equals the calendar. -/
def alarmMatches (a : Alarm) (c : Calendar) : Bool := dateMatches a c && todMatches a c

def alarmSingle (a : Alarm) : Bool := a.mask % 128 == 0

/-- First second of the day at or after `lo` that matches the time fields. -/
def firstTod (a : Alarm) (lo : Nat) : Option Nat :=
  let hs := if a.mask.testBit 4 then List.range 24 else [a.cal.hour]
  let mins := if a.mask.testBit 5 then List.range 60 else [a.cal.minute]
  let cands := hs.flatMap (fun h => mins.map (fun m =>
    let b := h * 3600 + m * 60
    if a.mask.testBit 6 then max lo b else b + a.cal.second))
  let okc := hs.flatMap (fun h => mins.map (fun m => h * 3600 + m * 60))
  ((cands.zip okc).find? (fun p => lo ≤ p.1 && p.1 < p.2 + 60)).map (·.1)

/-- Last second of the day at or before `hi` that matches the time fields. -/
def lastTod (a : Alarm) (hi : Nat) : Option Nat :=
  let hs := if a.mask.testBit 4 then (List.range 24).reverse else [a.cal.hour]
  let mins := if a.mask.testBit 5 then (List.range 60).reverse else [a.cal.minute]
  let cands := hs.flatMap (fun h => mins.map (fun m =>
    let b := h * 3600 + m * 60
    if a.mask.testBit 6 then min hi (b + 59) else b + a.cal.second))
  let okc := hs.flatMap (fun h => mins.map (fun m => h * 3600 + m * 60))
  ((cands.zip okc).find? (fun p => p.1 ≤ hi && p.2 ≤ p.1)).map (·.1)

/-- First matching second at or after a day and second of day, over `n` days. -/
def nextFrom (a : Alarm) : Nat → Nat → Nat → Option Nat
  | 0, _, _ => none
  | n + 1, d, lo =>
    let hit := if dateMatches a (calOfSeconds (d * 86400)) then firstTod a lo else none
    match hit with
    | some t => some (d * 86400 + t)
    | none => nextFrom a n (d + 1) 0

/-- Last matching second at or before a day and second of day, over `n` days. -/
def prevFrom (a : Alarm) : Nat → Nat → Nat → Option Nat
  | 0, _, _ => none
  | n + 1, d, hi =>
    let hit := if dateMatches a (calOfSeconds (d * 86400)) then lastTod a hi else none
    match hit with
    | some t => some (d * 86400 + t)
    | none => match d with | 0 => none | d' + 1 => prevFrom a n d' 86399

/-- The next instant, in seconds since 2000, at or after `t` that an alarm matches (R102, R316). -/
def nextMatch (a : Alarm) (t : Nat) : Option Nat := nextFrom a (146097 - t / 86400) (t / 86400) (t % 86400)

/-- Matching instants in (a, b], at most `n`. -/
def countMatches (al : Alarm) (b : Nat) : Nat → Nat → Nat
  | 0, _ => 0
  | n + 1, t => match nextMatch al t with
    | some m => if m ≤ b then 1 + countMatches al b n (m + 1) else 0
    | none => 0

/-- Table 9.2. -/
def alarmPayload (i flags instants : Nat) (t : Nat) : Bytes :=
  [byte i, byte flags, byte (min instants 255), 0] ++ encCal (calOfSeconds t) ++ zeros 2

/-- A firing wakes the module and records RTC_ALARM (R317). -/
def fireAlarm (i flags instants t : Nat) (s : State) : State :=
  let s := s.modRtc (fun r => { r with alarms := modAt r.alarms i (fun a => { a with fired := alarmSingle a, again := false }) })
  wakeUp 2 (crossEv 0x07 evRtcAlarm (alarmPayload i flags instants t) s)

/-- An enabled alarm that may still match. -/
def alarmLive (a : Alarm) : Bool := a.enable && !(alarmSingle a && a.fired)

/-- Alarms are enabled on the holder; in BACKUP they compare on any module (R318, R331). -/
def alarmsOn (s : State) : Bool := s.fb.backup || s.holder

/-- One alarm compared at the second that has begun (R315, R317, R318): in BACKUP it latches, REARMED kept with the latch (R319). -/
def matchAlarm (i t : Nat) (s : State) : State :=
  match s.rtc.alarms[i]? with
  | none => s
  | some a =>
    if alarmLive a && alarmsOn s && decide (a.notBefore ≤ t) && alarmMatches a (calOfSeconds t) then
      if s.fb.backup then s.modRtc (fun r => { r with
        alarms := modAt r.alarms i (fun x => { x with latched := some t, fired := alarmSingle x }) })
      else fireAlarm i (if a.again then 8 else 0) 1 t s
    else s

/-- RTC_ALARM_MATCH (R314, R315). -/
def rtcAlarmMatch (s : State) : State :=
  let t := s.utcSec
  if s.rtc.lastSecond = t then s
  else
    let s := s.modRtc (fun r => { r with lastSecond := t })
    if s.rtc.valid && t < calRange then matchAlarm 1 t (matchAlarm 0 t s) else s

/-- R319: what a step from tick `a` to tick `b` does to alarm `i`. -/
def alarmStep (i a b : Nat) (s : State) : State :=
  match s.rtc.alarms[i]? with
  | none => s
  | some al =>
    if a < b then
      let from_ := a / tickHz + 1
      let to_ := b / tickHz
      if alarmLive al ∧ alarmsOn s ∧ from_ ≤ to_ then
        let k := countMatches al to_ 255 from_
        if k = 0 then s
        else
          let t := (prevFrom al (to_ / 86400 + 1) (to_ / 86400) (to_ % 86400)).getD to_
          if al.catchup then fireAlarm i 1 k t s
          else ev evRtcAlarmMissed (alarmPayload i 2 k t) s
      else s
    else
      let inst := calSeconds al.cal
      if alarmSingle al && al.fired && al.rearm && b < inst * tickHz && inst * tickHz ≤ a then
        s.modRtc (fun r => { r with alarms := modAt r.alarms i (fun x => { x with fired := false, again := true }) })
      else s

/-- Table 9.1. -/
def rtcStepped (n : Int) (cause : Nat) (s : State) : State := ev evRtcStepped (le 8 (ofS 64 n) ++ [byte cause] ++ zeros 5) s

/-- R311, R319: the counter is stepped by `n` ticks; an instant on the tick of the step counts as passed before it, and the alarms
follow, up to the end of the calendar (R314); R310's learning restarts. -/
def rtcMove (n : Int) (cause : Nat) (adjust : Bool) (s : State) : State :=
  let s := if adjust then rtcAlarmMatch s else s
  let a := s.rtc.ticks
  let b := ((a : Int) + n).toNat
  let s := s.modRtc (fun r => { r with
    ticks := b, learnFor := 0, correction := 0,
    lastSecond := if a ≤ b then b / tickHz else if b % tickHz = 0 then 2 ^ 60 else b / tickHz,
    alarms := if a ≤ b then r.alarms else r.alarms.map (fun x => { x with notBefore := 0 }) })
  let s := rtcStepped n cause s
  let last := calRange * tickHz - 1
  if adjust && s.rtc.valid then alarmStep 1 (min a last) (min b last) (alarmStep 0 (min a last) (min b last) s) else s

/-- A step, and the evaluation of the fallback table that follows it (R328). -/
def rtcStep (n : Int) (cause : Nat) (adjust : Bool) (s : State) : State := fallbackEval (rtcMove n cause adjust s)

/-- R308, R317, R328: the RTC becomes valid; alarms match from the first second that begins now or later. The table is evaluated once
it is. -/
def rtcValidate (s : State) : State :=
  if s.rtc.valid then s
  else fallbackEval (ev evRtcValidated [] (s.modRtc (fun r => { r with
    valid := true, lastSecond := if r.ticks % tickHz = 0 then 2 ^ 60 else r.ticks / tickHz })))

/-- A step that makes the RTC valid if it is not, which is then no clock adjustment (R308): the table is evaluated on the valid RTC. -/
def rtcStepValid (n : Int) (cause : Nat) (s : State) : State :=
  if s.rtc.valid then rtcStep n cause true s else rtcValidate (rtcMove n cause false s)

/-- TAI − UTC as it should be in use: the PTP parent's while PTP governs, else TIME_TAI_UTC (R283, R309). -/
def uWanted (s : State) : Int :=
  match s.time.ptp.parent with
  | some p => if s.time.selected = 1 && p.utcValid then p.utcOffset else s.liveS 16 0x0105
  | none => s.liveS 16 0x0105

/-- R311: each change of U by d seconds steps the counter by −d × 32,768 ticks. -/
def refreshU (s : State) : State :=
  let d := uWanted s - s.rtc.u
  if d = 0 then s else rtcStep (-d * tickHz) 2 true (s.modRtc (fun r => { r with u := r.u + d }))

/-! ### Applying settings (R24, R26, R27, R32) -/

/-- Settings whose applied change advances the metrology counter (R361). -/
def isMetrology (id : Nat) : Bool := (0x0601 ≤ id && id ≤ 0x0609) || (0x0610 ≤ id && id ≤ 0x0622)

/-- R366: clearing METER_ENABLE flushes and stops the datapath; setting it starts it. -/
def meterRun (on : Bool) (s : State) : State :=
  if on = s.meter.active then s
  else if on then startPulses <| s.modMeter (fun m => { m with
    active := true, openSec := s.spanNow / sec, gapSince := none, totalAct := 0, totalReact := 0, path := { resetMeter.path with sampleAt := s.now },
    lastCross := [s.now, s.now, s.now] })
  else (flushNow s).modMeter (fun m => { m with
    active := false, window := m.window.map (fun w => { w with reasons := w.reasons ||| 32 }) })

/-- R371, R372: TWIN_ENABLE as applied, copied to the latch. Cleared on the holder, its lease goes once the final RENEW, which this T
has sent, is on the line. -/
def twinEnable (on : Bool) (s : State) : State :=
  if on = s.twin.latch then s
  else if on then
    let s := s.modTwin (fun t => { t with latch := true, interlock := t.interlock && t.leaseOut, leaving := false })
    refreshLdEn (s.modTwin (fun t => { t with lease := if t.interlock then .holder else .standby, leaseConflict := false }))
  else
    let wasHolder := s.twin.interlock
    let s := s.modTwin (fun t => { t with latch := false, leaving := wasHolder })
    refreshLdEn (if s.twin.leaseIn then
      ev evLeaseConflict [] (s.modTwin (fun t => { t with leaseOut := false, lease := .conflict, leaseConflict := true, leaving := false }))
    else if wasHolder then s
    else s.modTwin (fun t => { t with leaseOut := true, lease := .noTwin }))

/-- The configuration version counts the changes of what lanterns hold (Table 6.4): the retry and back-off limits of SCHEDULE
and the grid of PHASE_EPOCH (log entry 38). -/
def bumpConf (s : State) : State := s.modMac (fun m => { m with confVersion := (m.confVersion + 1) % 256 })

/-- R290: |A| stays at or below TIME_SERVO_MAX_PPM. -/
def clampRate (s : State) (a : Int) : Int :=
  let m : Int := (s.live 0x0103 * 4294967296 / 100000 : Nat)
  max (-m) (min m a)

/-- The level that signals tamper is compared with `TAMPER0`: the debounce of CASE_SWITCH begins, or its condition ends (Table 15.6). -/
def caseLevel (high : Bool) (s : State) : State :=
  let on := s.sec.tamper0 == high
  s.modSec (fun k => { k with
    tamper0Since := s.now, tamper0Run := on,
    tamper := if on then k.tamper else modAt k.tamper 0 (fun t =>
      if t.active then { t with active := false, falseSince := s.now } else t) })

/-- What an applied value sets in motion beside the stored value. -/
def settingEffect (id old v : Nat) (s : State) : State :=
  let s := if isMetrology id && old != v then
      let n := s.meter.metrology + 1
      ev evMetrologyChanged (le 2 id ++ le 4 n) (s.modMeter (fun m => { m with metrology := n }))
    else s
  if id = 0x0103 then (if old = v then s else setAddend (clampRate s s.time.rate) s)
  else if id = 0x0105 then refreshU s
  else if id = 0x0111 then s.modRtc (fun r => { r with trim := toS 16 v })
  else if id = 0x0500 then refreshLdEn s
  else if id = 0x0504 ∨ id = 0x0505 then
    (if old = v then s else bumpConf (s.modLamp (fun l => { l with epochDue := true })))
  else if 0x0303 ≤ id ∧ id ≤ 0x0305 then (if old = v then s else bumpConf s)
  else if id = 0x0600 then meterRun (v == 1) s
  else if 0x0640 ≤ id ∧ id ≤ 0x0643 then
    (if old = v then s else s.modMeter (fun m => { m with
      pouts := modAt m.pouts (id - 0x0640) (fun o => { o with acc := 0, backlog := 0 }) }))
  else if id = 0x0801 then (if old = v then s else caseLevel (v == 1) s)
  else if id = 0x0A00 then twinEnable (v == 1) s
  else if 0x0C20 ≤ id ∧ id ≤ 0x0C23 then (if old = v then s else closeSessions (fun x => x.transport == .eth) s)
  else s

/-- A value takes effect: it is live and journalled (R32). -/
def applySetting (id v : Nat) (s : State) : State :=
  let old := s.live id
  settingEffect id old v (s.modSet (fun x => { x with live := put x.live id v }))

/-- A setting stands in its block's pending set. -/
def inPend (x : SettingsSt) (id : Nat) : Bool := x.pend.any (fun q => q.entries.any (fun e => e.1 == id))

/-- R26: a shadow equal to its live value needs no entry, unless a pending set will change that live value under it. -/
def syncShadow (s : State) : State :=
  s.modSet (fun x => { x with shadow := x.shadow.filter (fun p => p.2 != s.live p.1 || inPend x p.1) })

def pendOf (s : State) (block : Nat) : Option PendSet := s.set.pend.find? (fun p => p.block == block)

/-- The reply of SETTING_COMMIT (Table 3.8). -/
def commitReply (kind count cycle : Nat) (time : Option Nat) : Bytes :=
  [byte kind, 0] ++ le 2 count ++ le 4 cycle ++ (match time with | some t => encTime t | none => zeros 10) ++ zeros 2

/-- The commands waiting on a block complete with the boundary's reply, a calibration with its own, or owe LATE_COMPLETION (R29, R97,
R365). QUEUE_CONFIG has no reply layout (R90). -/
def commitDone (block : Nat) (reply : Bytes) (s : State) : State :=
  lateSuccess (fun r => r.wait.onCommit block) stOk
    (completeEach (fun c => c.begun && c.wait.onCommit block) stOk dNone (fun c => match c.wait with
      | .calibrated r => r
      | _ => if c.opcode = 0x0C01 then [] else reply) s)

/-- CLEAR of PULSE_OUTPUT_ASSIGN acts at the boundary of its commit (R362). -/
def clearPouts (s : State) : State :=
  s.modMeter (fun m => { m with pouts := m.pouts.map (fun o =>
    if o.clearAt then { o with backlog := 0, overflow := false, clearAt := false } else o) })

/-- A block's whole pending set is copied to the live values at once (R27). The kind is 1 at a cycle start, with its
number, 2 at any other boundary. -/
def applyBlock (block : Nat) (cycle : Option Nat) (s : State) : State :=
  match pendOf s block with
  | none => s
  | some p =>
    let s := p.entries.foldl (fun s e => applySetting e.1 e.2 s) s
    let s := if block = 6 then clearPouts s else s
    let s := syncShadow (s.modSet (fun x => { x with pend := x.pend.filter (fun q => q.block != block) }))
    commitDone block (match cycle with
      | some n => commitReply 1 p.count n none
      | none => commitReply 2 p.count 0 (some s.time.spanT)) s

/-! ### Steps of span time (R295, R296, R311) -/

/-- The reply of TIME_STEP (R100). -/
def stepReply (before : Nat) (x : Int) : Bytes := encTime before ++ encTime (addNs before x) ++ le 8 (ofS 64 x)

/-- The meter second in progress keeps its place where span time moves from one second to another (R337). -/
def moveSecond (a b : Nat) (s : State) : State := s.modMeter (fun m => { m with openSec := m.openSec + b - a })

/-- A step changes span time at one edge, ends a slew, is recorded, and is passed to the RTC; a pending time-block set
whose boundary it passes applies at once after it (R295, R311, Table 8.6). -/
def applyStep (x : Int) (cause application : Nat) (seq : Option Nat) (s : State) : State :=
  let before := s.time.spanT
  let after := addNs before x
  let s := s.modTime (fun t => { t with spanT := after, slew := none, refused := false, lastWhole := min t.lastWhole (stSec after) })
  let s := moveSecond (stSec before) (stSec after) s
  let s := ev evTimeStepped (le 8 (ofS 64 x) ++ [byte cause, byte application] ++ zeros 4) s
  let n := roundDiv (x * tickHz) sec
  let s := if cause = 4 ∨ n = 0 then s else rtcStep n 1 true s
  let s := s.modRtc (fun r => { r with learnFor := 0 })
  let s := if stSec before = stSec after then s else applyBlock 1 none s
  match seq with
  | none => s
  | some q =>
    let s := completeAll (fun c => c.seq == q && c.begun) stOk dNone (stepReply before x) s
    lateSuccess (fun r => r.seq == q && r.wait == .timeStep) stOk s

/-- R296: while the span runs a step waits for a cycle boundary, and above 100 µs it restarts the span. -/
def doStep (x : Int) (cause : Nat) (seq : Option Nat) (s : State) : State :=
  if s.mac.running then
    let app := if x.natAbs ≤ 100000 then 2 else 3
    let s := s.modTime (fun t => { t with
      pendSteps := t.pendSteps ++ [{ x := x, cause := cause, application := app, seq := seq }] })
    if app = 3 then s.modMac (fun m => { m with stopping := true }) else s
  else applyStep x cause 1 seq s

/-! ### Measurements and sources (R287 to R294) -/

def modSource (c : Nat) (f : Source → Source) (s : State) : State :=
  s.modTime (fun t => { t with sources := modAt t.sources (c - 1) f })

def State.source (s : State) (c : Nat) : Source := s.time.sources.getD (c - 1) default

def timeStateCode (t : TimeState) : Nat := match t with | .free => 0 | .locked => 1 | .holdover => 2

/-- A change of the selected source: recorded, the refusal flag and the run of R293 cleared, U as it now stands. -/
def selectSource (c : Nat) (s : State) : State :=
  if s.time.selected = c then s
  else
    let old := s.time.selected
    let s := s.modTime (fun t => { t with selected := c, refused := false, autoRun := [], goodRun := 0, badRun := 0 })
    refreshU (ev evTimeSourceChanged ([byte old, byte c, byte (timeStateCode s.time.state)] ++ zeros 11) s)

/-- The first qualified source of the list, 0 for none (R288). -/
def firstQualified (s : State) : Nat := (s.time.list.find? (fun c => (s.source c).qualified)).getD 0

/-- Position of a source in the list. -/
def listPos (s : State) (c : Nat) : Nat := s.time.list.findIdx (· == c)

/-- A source stands higher in the list than the selected one and has stayed qualified for 60 s (R288). -/
def preferred (s : State) (c : Nat) : Bool :=
  s.time.list.contains c && (s.source c).qualified && decide ((s.source c).since + 60 * sec ≤ s.now)
    && (s.time.selected == 0 || listPos s c < listPos s s.time.selected)

/-- The source that a list selects: the selected one stays while it is in the list and qualified, unless one before it has stayed
qualified for 60 s (R288). -/
def listSelects (s : State) : Nat :=
  if s.time.list.contains s.time.selected && (s.source s.time.selected).qualified then
    (s.time.list.find? (preferred s)).getD s.time.selected
  else firstQualified s

/-- A source qualifies; with no selection it is selected at once (R288). -/
def qualify (c : Nat) (s : State) : State :=
  if (s.source c).qualified then s
  else
    let s := modSource c (fun x => { x with qualified := true, since := s.now }) s
    if s.time.selected = 0 then selectSource (firstQualified s) s else s

/-- A source is lost: if it was selected the state leaves LOCKED and the first qualified source takes over (R288, R289). -/
def loseSource (c : Nat) (s : State) : State :=
  let s := modSource c (fun x => { x with qualified := false, count := 0 }) s
  if s.time.selected = c then
    let s := toHoldover s
    selectSource (firstQualified s) s
  else s

/-- Bounds of R289 in ns: within which LOCKED comes, beyond which it goes. -/
def lockBounds (c : Nat) : Nat × Nat := if c = 4 then (5000, 25000) else (1000, 10000)

/-- R289: the runs of good and bad measurements move the state. -/
def countMeasurement (c : Nat) (x : Int) (s : State) : State :=
  let b := lockBounds c
  let g := if x.natAbs ≤ b.1 then s.time.goodRun + 1 else 0
  let w := if b.2 < x.natAbs then s.time.badRun + 1 else 0
  let s := s.modTime (fun t => { t with goodRun := g, badRun := w })
  if s.time.state ≠ .locked ∧ 8 ≤ g then
    s.modTime (fun t => { t with state := .locked, everLocked := true, lockHist := [(t.rate, s.now)] })
  else if s.time.state = .locked ∧ 8 ≤ w then toHoldover s
  else s

/-- R293 with TIME_AUTO_ACCEPT: the run after a refused measurement, latest first. -/
def autoRunAfter (run : List Int) (x : Int) : List Int :=
  let r := x :: run
  let n : Int := r.length
  let sum := r.sum
  -- |v − m| ≤ 10 µs + 1 % of |m|, with m = sum / n, in integers: 100 |n v − sum| ≤ 10^6 n + |sum|
  if r.all (fun v => (100 * (n * v - sum)).natAbs ≤ (1000000 * n).natAbs + sum.natAbs) then r else [x]

/-- R292: a measurement above the threshold is refused, once noticed per run, or accepted as a step by R293. With
TIME_AUTO_ACCEPT at 0 it is in no run, and one begun before it is not consecutive with one after. -/
def refuseMeasurement (c : Nat) (x : Int) (s : State) : State :=
  let first := !s.time.refused
  let s := s.modTime (fun t => { t with refused := true, refusedX := x, refusedSrc := c, goodRun := 0 })
  let s := if first then ev evTimeJumpRefused (le 8 (ofS 64 x) ++ [byte c] ++ zeros 5) s else s
  let s := toHoldover s
  if s.live 0x0102 = 1 then
    let run := autoRunAfter s.time.autoRun x
    if 16 ≤ run.length then doStep x 3 none (s.modTime (fun t => { t with autoRun := [] }))
    else s.modTime (fun t => { t with autoRun := run })
  else s.modTime (fun t => { t with autoRun := [] })

/-- The servo acts on an accepted measurement (R289, R290). -/
def servo (x : Int) (s : State) : State := setAddend (clampRate s (Config.servo s.freeIdx s.time.rate x)) s.draw

/-- A measurement of a source: the reference's span time minus the module's, in ns (R287); before the first LOCKED it is a step
too (R294). -/
def measure (c : Nat) (x : Int) (s : State) : State :=
  if s.time.selected ≠ c then s
  else if !s.time.everLocked then countMeasurement c x (doStep x 2 none (servo x s))
  else if s.live 0x0101 * 1000 < x.natAbs then refuseMeasurement c x s
  else countMeasurement c x ((servo x s).modTime (fun t => { t with refused := false, autoRun := [] }))

end Sys2Proof.Machine
end

