-- ==== Sys2Proof/Machine/MeshOps.lean ====
section
/-! DEFINITION. The mesh as the module keeps it: lanterns and targets (R15, R16, R179), transactions (R175, R183, R226), and
how they end the commands they belong to (R201, R203, R268). -/

namespace Sys2Proof.Machine

/-! ### Lanterns -/

def State.lan (s : State) (n : Nat) : Option Lantern := get? s.mac.lanterns n

def modLan (n : Nat) (f : Lantern → Lantern) (s : State) : State :=
  s.modMac (fun m => { m with lanterns := m.lanterns.map (fun p => if p.1 = n then (p.1, f p.2) else p) })

/-- The short address of lantern index n (Table 6.3). -/
def shortOf (n : Nat) : Nat := 0x2000 + n

/-- The lantern index of a short address. -/
def lanOf (short : Nat) : Option Nat := if 0x2000 ≤ short ∧ short < 0x3000 then some (short - 0x2000) else none

/-- A byte field of the last descriptor; zero before the first (R15, Table 6.10). -/
def Lantern.cap (l : Lantern) (off len : Nat) : Nat := match l.descriptor with | some d => fld d off len | none => 0

/-- Reported channel count (R15). -/
def Lantern.channels (l : Lantern) : Nat := l.cap 12 1
def Lantern.sleepy (l : Lantern) : Bool := (l.cap 17 1).testBit 0
def Lantern.slots (l : Lantern) : Nat := l.cap 16 1

/-- Drift class: 50 ppm until the descriptor is received (R180). -/
def Lantern.driftPpm (l : Lantern) : Nat := if l.drift = 0 then 50 else l.drift

/-- Depth as Table 5.13 and the reply of LANTERN_ADMIT show it: 0 before the join. -/
def Lantern.depthShown (l : Lantern) : Nat := if l.state = .expected then 0 else l.depth

/-- The lanterns a target selects within the span (Table 1.3, R15, R16). -/
def selected (s : State) (target : Nat) : List Nat :=
  let n := adLantern target
  let all := s.mac.lanterns.map (·.1)
  if n < 4096 then all.filter (· == n)
  else if n = 0x1FFF then
    if adGroup target = 0x7F then all
    else (s.mac.lanterns.filter (fun p => p.2.groups.testBit (adGroup target))).map (·.1)
  else []

/-- The channel mask a target gives a lantern: none where the lantern is skipped (R15). -/
def chanMask (l : Lantern) (channel : Nat) : Option Nat :=
  if channel = 15 then (if l.channels = 0 then none else some (2 ^ l.channels - 1))
  else if channel < l.channels then some (2 ^ channel) else none

/-- The lanterns a command reaches: of those its target selects, those that have the channel named, or any channel under the
channel wildcard (R15). -/
def reached (s : State) (target : Nat) : List Nat :=
  (selected s target).filter (fun n => match s.lan n with | some l => (chanMask l (adChannel target)).isSome | none => false)

/-- R13: each upper field equals the identity's or is the wildcard. -/
def targetMatches (s : State) (t : Nat) : Bool :=
  let i := s.live 0x0400 * 2 ^ 24
  (adCauseway t == 0xFF || adCauseway t == adCauseway i) && (adCity t == 0xFFF || adCity t == adCity i)
    && (adViaduct t == 0x3FF || adViaduct t == adViaduct i) && (adSpan t == 0x3FF || adSpan t == adSpan i)

/-- R14: the combinations of Table 1.3. -/
def targetListed (t : Nat) : Bool :=
  let l := adLantern t
  let g := adGroup t
  if l < 4096 then g == 0x7F
  else if l = 0x1FFF then true
  else l == 0x1FFE && adChannel t == 15 && (g < 24 || (0x40 ≤ g && g ≤ 0x47) || g == 0x7F)

/-- R15: a lantern named alone must be admitted, and have the channel named. -/
def singleBad (s : State) (target : Nat) : Bool :=
  let n := adLantern target
  n < 4096 && (match s.lan n with
    | none => true
    | some l => adChannel target != 15 && l.channels ≤ adChannel target)

/-- EXPECTED, ADRIFT or ROUTELESS: frames are held (R183). -/
def Lantern.holds (l : Lantern) : Bool := l.state == .expected || l.adrift || l.routeless

/-- The PAN ID (Table 5.14). -/
def panId (s : State) : Nat := if s.live 0x0301 = 0 then 0x4000 + s.live 0x0400 % 1024 else s.live 0x0301

/-- PHY mode of the region profile (R162). -/
def phyMode (s : State) : Nat := match s.mac.region with | some r => fld r 3 1 | none => 0

/-- Table 5.2: the largest PSDU of a mode. -/
def maxPsdu (mode : Nat) : Nat := [32, 127, 255, 511].getD (mode - 1) 127

/-- Table 5.7: LANTERN_SEND and FLOOD_SEND payload limits. -/
def sendLimit (mode : Nat) : Nat := [64, 512, 1024, 1024].getD (mode - 1) 1024
def floodLimit (mode : Nat) : Nat := maxPsdu mode - 16

/-- The absolute slot number of an instant of span time, in ns (R161). -/
def asnAt (s : State) (ns : Nat) : Nat := (ns - s.mac.epoch) / (10 * ms)
def asnNow (s : State) : Nat := asnAt s s.spanNs

/-! ### Transactions -/

/-- How a transaction ends. -/
inductive Outcome where
  /-- the node's RESPONSE: status of Table 6.9 and data -/
  | answered (status : Nat) (data : Bytes)
  /-- an unconfirmed message acknowledged by the first hop -/
  | sent
  /-- the lantern is LOST (R183) -/
  | unreachable
  /-- a ninth frame released it from the hold (R183) -/
  | overflow
deriving DecidableEq, Repr, Inhabited

/-- DONE and DUPLICATE are successes (R228). -/
def Outcome.good (o : Outcome) : Bool := match o with | .answered st _ => st < 2 | .sent => true | .unreachable => false | .overflow => false

/-- The counters of a multi-target command: targets, done, unreachable, failed, local outputs, frames dropped by R77, the
RESPONSE status, then the RESPONSE data of a single target. -/
def meshWork (targets local_ : Nat) : List Nat := [targets, 0, 0, 0, local_, 0, 0]

def bump (i : Nat) (w : List Nat) : List Nat := modAt w i (· + 1)

/-- What an outcome adds to the counters. -/
def countOutcome (o : Outcome) (w : List Nat) : List Nat :=
  match o with
  | .answered st d =>
    let w := modAt (bump (if st < 2 then 1 else 3) w) 6 (fun _ => st)
    if w.getD 0 0 = 1 then w.take 7 ++ d.map BitVec.toNat else w
  | .sent => w
  | .unreachable => bump 2 w
  | .overflow => bump 2 w

/-- The reply of LANTERN_SEND (R203). -/
def sendReply (c : LiveCmd) : Bytes :=
  let r := c.work.drop 7
  le 2 (wk c 0) ++ le 2 (wk c 1) ++ le 2 (wk c 2) ++ le 2 (wk c 3) ++ le 2 r.length ++ zeros 2 ++ r.map byte

/-- Status and detail that the outcomes so far earn a mesh command (R203, R268). -/
def earned (opcode : Nat) (work : List Nat) (coalesced : Bool) : Nat × Nat :=
  let unreached := work.getD 2 0
  let failed := work.getD 3 0
  if opcode = 0x0306 then (if unreached + failed = 0 then (stOk, dNone) else (stUnreachable, 0x81))
  else if 0 < unreached then (stUnreachable, 0x81)
  else if 0 < failed then (stBadParam, 0x82)
  else (stOk, if coalesced then dCoalesced else dNone)

/-- Status and detail of a mesh command whose transactions have ended (R203, R268). -/
def meshStatus (c : LiveCmd) : Nat × Nat := earned c.opcode c.work c.coalesced

/-- The transactions of a command. -/
def txnsOf (s : State) (q : Nat) : List Txn := s.mac.txns.filter (fun t => t.owner == some q)

/-- A JOIN_RELAY that carries back a response for an EUI-64 (Tables 6.1 and 6.8). -/
def relaysTo (eui : Nat) (t : Txn) : Bool := t.type == 0x0012 && fld t.payload 4 8 == eui

/-- A lantern leaves the table (R201): its transactions, the frames of its join response and its entry go; triggers act at the next
evaluation. -/
def dropLantern (n : Nat) (s : State) : State :=
  let relayed (t : Txn) : Bool := match s.lan n with | some l => relaysTo l.eui t | none => false
  s.modMac (fun m => { m with
    lanterns := del m.lanterns n, txns := m.txns.filter (fun t => t.lantern != n && !relayed t), topoChanged := true,
    joinTx := m.joinTx.filter (fun f => f.1 != n),
    routes := del m.routes n, links := m.links.filter (fun l => l.lantern != n && l.neighbour != shortOf n) })

/-- A command all of whose transactions have ended completes (R203, R268, R271). -/
def finishMesh (q : Nat) (s : State) : State :=
  match s.cmdSeq q with
  | none => s
  | some c =>
    if c.wait ≠ .mesh ∨ txnsOf s q ≠ [] then s
    else if c.opcode = 0x0306 then complete c (meshStatus c).1 (meshStatus c).2 (sendReply c) s
    else if c.opcode = 0x0504 then
      complete c (meshStatus c).1 (meshStatus c).2
        (if success (meshStatus c).1 then [byte (fld c.params 0 1), byte (wk c 6)] ++ zeros 2 else []) s
    else if 0 < wk c 5 ∧ wk c 1 + wk c 2 + wk c 3 = 0 then complete c stSuperseded dNone (lampReply c) s
    else complete c (meshStatus c).1 (meshStatus c).2 (lampReply c) s

/-- Commands whose target was the removed lantern alone complete with CANCELLED, the removing one (`by_`) excepted; the others go
on without it (R201). -/
def removeLantern (by_ n : Nat) (s : State) : State :=
  let qs := (s.mac.txns.filter (fun t => t.lantern == n)).filterMap (·.owner)
  let s := dropLantern n s
  let s := completeEach (fun c => c.seq != by_ && (if c.begun then
      (c.wait == .mesh && qs.contains c.seq && wk c 0 == 1) || c.wait == .join n || c.wait == .descriptor n || c.wait == .leave n
    else adLantern c.target == n)) stCancelled dNone partReply s
  qs.foldl (fun s q => finishMesh q s) s

/-- The truss with the entries of one pier changed. -/
def modEntries (head : Nat) (f : List HeadEntry → List HeadEntry) (u : TrussSt) : TrussSt :=
  { u with piers := u.piers.map (fun p => if p.head = head then { p with entries := f p.entries } else p) }

/-- A pier none of whose entries is being pushed. -/
def Pier.unsent (p : Pier) : Pier := { p with entries := p.entries.map (fun e => { e with push := none }) }

/-- Nothing is being pushed: the transactions that pushed it are gone (R198). -/
def TrussSt.unsent (u : TrussSt) : TrussSt :=
  { u with fragments := u.fragments.map (fun f => { f with push := none }), piers := u.piers.map Pier.unsent }

/-- A lantern holds nothing of a policy that the truss could count as confirmed: what it should hold is pushed again. -/
def unconfirm (n policy : Nat) (u : TrussSt) : TrussSt :=
  modEntries n (fun es => es.map (fun e => if e.policy = policy then { e with confirmed := none } else e))
    { u with fragments := u.fragments.map (fun f => if f.site = n ∧ f.policy = policy ∧ f.state ≠ 7 then { f with confirmed := none } else f) }

/-- A push to a site that failed, or one part of which did, is to be made again (R128, R233). -/
def pushFailed (t : Txn) (u : TrussSt) : TrussSt :=
  let pol := fld t.payload 0 4
  modEntries t.lantern (fun es => es.map (fun e => if e.policy = pol then { e with push := none } else e))
    { u with fragments := u.fragments.map (fun f =>
        if f.site = t.lantern ∧ f.policy = pol ∧ f.push.isSome then { f with push := none, owed := f.state == 7 } else f) }

/-- Installs and day tables of a policy that the MAC has not taken are abandoned: a withdrawal or a new version replaces them
(Table 4.10). -/
def dropPushes (pol : Nat) (s : State) : State :=
  let drops (t : Txn) : Bool :=
    t.owner.isNone && (t.type == 0x0201 || t.type == 0x0203) && fld t.payload 0 4 == pol && t.st == .queued
  let gone := s.mac.txns.filter drops
  (s.modMac (fun m => { m with txns := m.txns.filter (fun t => !drops t) })).modTruss (fun u => gone.foldl (fun u t => pushFailed t u) u)

/-- A site has confirmed what a transaction pushed to it; a withdrawal takes with it every fragment of the policy there, and
those still wanted are pushed again (R128, R233). -/
def pushDone (t : Txn) (u : TrussSt) : TrussSt :=
  if t.type = 0x0202 then
    unconfirm t.lantern (fld t.payload 0 4)
      (modEntries t.lantern (fun es => es.filter (fun e => e.push != some t.id))
        { u with fragments := u.fragments.filter (fun f => f.push != some t.id) })
  else
    modEntries t.lantern (fun es => es.map (fun e =>
      if e.push = some t.id then { e with push := none, confirmed := some e.content } else e))
      { u with fragments := u.fragments.map (fun f =>
          if f.push = some t.id then
            { f with push := none, state := if f.state = 1 then 2 else f.state, confirmed := some f.content }
          else f) }

/-- SENSOR_WATCH confirmed: its flags octet says whether the watch was set or removed (Table 6.8). -/
def watchDone (n : Nat) (p : Bytes) (u : TrussSt) : TrussSt :=
  let set := p.take 3 ++ [0] ++ p.drop 4
  let rest := u.watches.filter (fun w => w != (n, set))
  { u with watches := if fld p 3 1 = 0 then rest ++ [(n, set)] else rest }

/-- The effect of a settled message of the module's own: what the site now holds (R128, R233, R260, R271). A node that answers
a CLAIM with END at all holds the claim no longer (R235). -/
def ownSettled (t : Txn) (o : Outcome) (s : State) : State :=
  let p := t.payload
  let answered : Bool := match o with | .answered _ _ => true | _ => false
  if t.type = 0x0205 then
    if answered then s.modTruss (fun u => { u with ends := u.ends.filter (fun e => e != (t.lantern, p)) }) else s
  else if !o.good then
    if t.type = 0x0401 then
      s.modUpd (fun u => { u with rollouts := u.rollouts.map (fun r =>
        if r.image = fld p 0 4 && !r.done then { r with targets := r.targets.map (fun x => if x.1 = t.lantern then (x.1, 4, x.2.2) else x) }
        else r) })
    else if t.type = 0x0201 ∨ t.type = 0x0202 ∨ t.type = 0x0203 then s.modTruss (pushFailed t)
    else s
  else if t.type = 0x0201 ∨ t.type = 0x0202 ∨ t.type = 0x0203 then s.modTruss (pushDone t)
  else if t.type = 0x0204 then s.modTruss (fun u => { u with configs := put u.configs t.lantern p })
  else if t.type = 0x0207 then s.modTruss (watchDone t.lantern p)
  else if t.type = 0x0102 then
    modLan t.lantern (fun l => { l with
      scenes := if (fld p 1 1).testBit 0 then del l.scenes (fld p 0 1)
        else put l.scenes (fld p 0 1) t.version }) s
  else if t.type = 0x0104 then modLan t.lantern (fun l => { l with calibration := some p }) s
  else s

/-- A LEAVE answered or lost in time lets the removal proceed (R201). -/
def finishLeave (t : Txn) (s : State) : State :=
  match t.owner with
  | none => s
  | some q => match s.cmdSeq q with
    | none => s
    | some c => if c.wait = .leave t.lantern then complete c stOk dNone [] (removeLantern q t.lantern s) else s

/-- A LEAVE answered after its command's TIMEOUT: the lantern has left, and the removal takes place (R80, R201). -/
def lateLeave (q n : Nat) (s : State) : State :=
  if s.host.late.any (fun r => r.seq == q && r.wait == .leave n) then
    lateSuccess (fun r => r.seq == q) stOk (removeLantern q n s)
  else s

/-- The first success after a TIMEOUT: the notice names the status that the outcomes earn (R80, Table 2.12). -/
def lateMesh (q : Nat) (s : State) : State :=
  match s.host.late.find? (fun r => r.seq == q && r.wait == .mesh) with
  | some r => lateSuccess (fun x => x.seq == q) (earned r.opcode r.work r.coalesced).1 s
  | none => s

/-- A transaction ends: its command counts the outcome, or owes LATE_COMPLETION if it completed with TIMEOUT (R80, R175). -/
def settle (t : Txn) (o : Outcome) (s : State) : State :=
  let s := s.modMac (fun m => { m with
    txns := m.txns.filter (fun x => x.id != t.id), attempts := m.attempts.filter (fun a => a.txn != t.id) })
  let s := ownSettled t o s
  match t.owner with
  | none => s
  | some q =>
    match s.cmdSeq q with
    | some c =>
      if c.wait = .leave t.lantern then finishLeave t s
      else if c.wait = .descriptor t.lantern then (match o with
        | .unreachable => fail c stUnreachable dNone s
        | .overflow => fail c stUnreachable 0x81 s
        | _ => s)
      else finishMesh q (s.modCmd q (fun c => { c with work := countOutcome o c.work }))
    | none =>
      let s := s.modHost (fun h => { h with
        late := h.late.map (fun r => if r.seq = q then { r with work := countOutcome o r.work } else r) })
      if o.good then lateMesh q (lateLeave q t.lantern s) else s

/-- Retries that a RESPONSE tells of are added to those of its command, or to what it still owes (R39, R80, R525). -/
def addRetries (q k : Nat) (s : State) : State :=
  (s.modCmd q (fun c => { c with retries := c.retries + k })).modHost (fun h => { h with
    late := h.late.map (fun r => if r.seq = q then { r with retries := r.retries + k } else r) })

/-- Entries before one in the table that unicast messages and floods share (R175). -/
def ahead (s : State) (id : Nat) : Nat :=
  (s.mac.txns.filter (fun t => decide (t.id < id))).length + (s.mac.floods.filter (fun f => decide (f.id < id))).length

/-- A transaction has an entry among the 1,024 (R175). -/
def tabled (s : State) (id : Nat) : Bool := decide (ahead s id < 1024)

/-- The frames the module has for a lantern that no hop has acknowledged: those it holds while the lantern is EXPECTED, ADRIFT or
ROUTELESS (R183). -/
def heldFor (s : State) (n : Nat) : List Txn :=
  s.mac.txns.filter (fun t => t.lantern == n && t.st != .awaiting && tabled s t.id)

/-- A flood joins the queue as a transaction of its own (R175). -/
def queueFlood (f : Flood) (s : State) : State :=
  s.modMac (fun m => { m with floods := m.floods ++ [{ f with id := m.nextTxn }], nextTxn := m.nextTxn + 1 })

/-- At most 8 frames are held per lantern: the oldest go (R183). -/
def trimHeld (n : Nat) (s : State) : State :=
  match s.lan n with
  | none => s
  | some l =>
    if l.holds then
      let h := heldFor s n
      (h.take (h.length - 8)).foldl (fun s t => settle t .overflow s) s
    else s

/-- Bit n of the pending table (R174). -/
def pendingBit (s : State) (n : Nat) : Bool :=
  match s.lan n with | some l => l.holds && heldFor s n != [] | none => false

/-- Creates the transaction of one message to one lantern (R175); a LOST lantern is unreachable. -/
def sendMsg (owner : Option Nat) (n type : Nat) (confirmed : Bool) (payload : Bytes) (expiry : Nat) (s : State) : State :=
  let t : Txn :=
    { id := s.mac.nextTxn, owner := owner, lantern := n, type := type, confirmed := confirmed, payload := payload, seq := 0,
      expiry := expiry, expiryAsn := asnAt s (s.spanNs + (expiry - s.now)), st := .queued, route := [], frag := 0, attempts := 0,
      retries := 0, told := 0,
      version := if type = 0x0102 then (match get? s.lamp.scenes (fld payload 0 1) with | some x => x.version | none => 0) else 0 }
  let s := s.modMac (fun m => { m with nextTxn := m.nextTxn + 1, txns := m.txns ++ [t] })
  match s.lan n with
  | none => settle t .unreachable s
  | some l => if l.state = .lost then settle t .unreachable s else trimHeld n s

/-- A message of the module's own: its expiry is 6,000 slots after origination, as R225 has it for messages without a
deadline of their own. -/
def sendOwn (n type : Nat) (payload : Bytes) (s : State) : State :=
  sendMsg none n type true payload (s.now + 60 * sec) s

/-- A lantern becomes LOST: its held frames fail (R182, R183). -/
def loseLantern (n : Nat) (s : State) : State :=
  let h := heldFor s n
  let s := modLan n (fun l => { l with state := .lost, listens := 0, routelessCycles := 0 }) s
  h.foldl (fun s t => settle t .unreachable s) s

/-- Lanterns JOINED at an instant of the present reconciliation window are expected to report for it (R354). -/
def expectJoined (s : State) : State :=
  let ns := (s.mac.lanterns.filter (fun p => p.2.state == .joined)).map (·.1)
  s.modMeter (fun m => { m with window := m.window.map (fun w => { w with expected := ns.foldl insertSet w.expected }) })

/-- An authenticated frame or ACK from a lantern, by its timestamp: its contact is renewed, so it is not ADRIFT, and LOST clears
(R180 to R183). -/
def contact (n at_ : Nat) (s : State) : State :=
  let was : Bool := match s.lan n with | some l => l.state == .lost | none => false
  let s := modLan n (fun l => { l with
    contactNs := at_, contactCycle := s.mac.cycle, adrift := false, listens := 0,
    state := if l.state = .lost then .joined else l.state }) s
  if was then expectJoined s else s

/-! ### The end of the span -/

/-- A command sends its messages, then waits for them: one that fails at once ends no command that has others to send (R203, R268). -/
def sendEach (c : LiveCmd) (work : List Nat) (send : State → State) (s : State) : State :=
  finishMesh c.seq ((send (waitFor c .none work s)).modCmd c.seq (fun c => { c with wait := .mesh }))

/-- Commands that wait on the mesh. -/
def onMesh (c : LiveCmd) : Bool :=
  c.begun && (match c.wait with
    | .mesh => true | .flood => true | .leave _ => true | .descriptor _ => true | .spanStart => true
    | _ => false)

/-- Announcements that went with the span are to be made again: their targets wait for their turn (R198, R499). -/
def Rollout.unannounced (gone : List Txn) (r : Rollout) : Rollout :=
  if r.done then r
  else { r with targets := r.targets.map (fun x =>
    if x.2.1 = 1 ∧ gone.any (fun t => t.owner.isNone && t.type == 0x0401 && t.lantern == x.1 && fld t.payload 0 4 == r.image) then
      (x.1, 0, x.2.2) else x) }

/-- The span is over: transactions, floods and attempts go, the commands that own them end, and what was being pushed is to be
pushed again (R198, R472). A pending set whose block stops running waits for its next boundary: DESIGN CHOICE (log entry 104). -/
def endSpan (status detail : Nat) (s : State) : State :=
  let cs := s.host.live.filter onMesh
  let gone := s.mac.txns
  let s := s.modMac (fun m => { m with
    saved := m.lanterns, savedLinks := m.links, running := false, startAt := none, stopping := false, txns := [], floods := [], attempts := [],
    reasm := [] })
  let s := s.modTruss TrussSt.unsent
  let s := s.modUpd (fun u => { u with rollouts := u.rollouts.map (Rollout.unannounced gone) })
  cs.foldl (fun s c =>
    complete c status (if c.opcode = 0x0501 ∧ status = stCancelled then dPartial else detail) (partReply c) s) s

end Sys2Proof.Machine
end

