-- ==== Sys2Proof/Machine/Keystore.lean ====
section
/-! DEFINITION. The keystone, the key slots, the keyless condition and erasure (R455 to R461, R467 to R472). -/

namespace Sys2Proof.Machine

/-! ### Slots (Table 15.2) -/

/-- Purpose, algorithm and length of a slot; none where it is reserved. -/
def slotSpec (slot : Nat) : Option (Nat × Nat × Nat) :=
  if slot < 4096 then some (1, 1, 16)
  else if slot ≤ 4098 then some (2, 2, 32)
  else if slot = 4099 then some (4, 3, 32)
  else if slot = 4100 then some (5, 3, 32)
  else if slot = 4101 then some (3, 2, 32)
  else none

/-- Slots occupied, as SECURITY_STATUS counts them (R459). -/
def occupiedCount (s : State) : Nat := (s.sec.slots.filter (fun p => slotOpens s p.1 p.2)).length

/-! ### The keyless condition (R471 to R473) -/

/-- A packet as a DATA datagram under the channel's next counter (R68, R69). -/
def ethData (sid : Nat) (x : Session) (ch : EthChan) (pkt : Bytes) (s : State) : State :=
  let env := [2, byte sid, 0, 0] ++ le 8 ch.txCounter
  let sealed_ := gcmSeal ch.key (le 4 2 ++ le 8 ch.txCounter) env pkt
  let s := s.modSec (fun k => { k with keystone := some { key := ch.key, attr := 0x02140000, slot := none } })
  let s := s.modOut (fun o => { o with eth := o.eth ++ (if bankGood 1 s then [(ch.peer, env ++ sealed_.1 ++ sealed_.2)] else []) })
  s.modSession sid (fun _ => { x with chan := some { ch with txCounter := ch.txCounter + 1 } })

/-- Sends a packet on an Ethernet session; no counter serves twice, and at the last one the session closes (R70). -/
def ethSend (sid : Nat) (pkt : Bytes) (s : State) : State :=
  match s.session sid with
  | none => s
  | some x => match x.chan with
    | none => s
    | some ch =>
      let s := ethData sid x ch pkt s
      if 2 ^ 64 - 1 ≤ ch.txCounter + 1 then closeSession sid s else s

/-- Packets already owed to a session's host leave before the module closes the session itself. -/
def flushSession (sid : Nat) (s : State) : State :=
  match s.session sid with
  | none => s
  | some x => (x.replies ++ x.notices).foldl (fun s p =>
      if x.transport = .eth then ethSend sid p.bytes s else pushBare x.transport p.bytes p.seq s) s

/-- The module closes sessions of a kind; replies and notices queued before leave first (R473, Table 15.7 step 6). -/
def dismiss (p : Session → Bool) (s : State) : State :=
  [0, 1, 2, 3].foldl (fun s sid => match s.session sid with
    | some x => if p x then closeSession sid (flushSession sid s) else s
    | none => s) s

/-- Sessions opened by the keyless procedure close when the condition ends (R473). -/
def closeKeyless (s : State) : State := dismiss (fun x => x.keylessProc) s

/-- What follows a change of the keyless condition (R324, R471, R472): the records, the span, contactor control. -/
def noteKeyless (s : State) : State :=
  if s.keyless = s.sec.keylessRecorded then s
  else if s.keyless then
    let s := s.modSec (fun k => { k with keylessRecorded := true })
    ev evKeylessEntered (le 4 s.sec.epoch) (seqTakes (endSpan stKeyless dNone s))
  else
    let s := s.modSec (fun k => { k with keylessRecorded := false })
    closeKeyless (ev evKeylessLeft (le 4 s.sec.epoch) s)

/-! ### The keystone (R455 to R457) -/

def clearKeystone (s : State) : State := s.modSec (fun k => { k with keystone := none })

/-- Erases a slot, clearing the keystone if it holds that key (R110, R456). -/
def eraseSlot (slot : Nat) (s : State) : State :=
  s.modSec (fun k => { k with
    slots := del k.slots slot,
    keystone := match k.keystone with | some x => if x.slot = some slot then none else some x | none => none })

/-- A challenge of SESSION_OPEN under a retired key is stale (R98). -/
def staleChallenges (slot : Nat) (s : State) : State :=
  s.modHost (fun h => { h with
    chals := h.chals.map (fun q => if 4095 + q.role = slot then { q with stale := true } else q) })

def retireSlot (slot : Nat) (s : State) : State := staleChallenges slot (eraseSlot slot s)

/-- A key enters the keystone with its attribute word (R455, R456). -/
def loadStone (key : Bytes) (attr : Nat) (slot : Option Nat) (s : State) : State :=
  s.modSec (fun k => { k with keystone := some { key := key, attr := attr, slot := slot } })

/-- The attribute word of an internal key: algorithm, purpose, no limit (Table 15.1). -/
def stoneAttr (algorithm purpose : Nat) : Nat := 16777216 * algorithm + 65536 * purpose

/-- One operation under the key of a slot: it loads into the keystone and a limited key loses one use; the last retires it
(R456, R457). -/
def useKey (slot : Nat) (s : State) : State :=
  match s.slotRec slot with
  | none => s
  | some r =>
    let s := loadStone r.key r.attr (some slot) s
    if bits r.attr 15 0 = 0 then s
    else if 1 < r.uses then s.modSec (fun k => { k with slots := put k.slots slot { r with uses := r.uses - 1 } })
    else noteKeyless (ev evKeyExhausted (le 2 slot) (clearKeystone (retireSlot slot s)))

/-- An engine asked for an operation the attribute word does not permit (R455). -/
def keystoneMisuse (s : State) : State := clearKeystone (raiseUC srcKeystoneMisuse [] s)

/-- A slot record of a key, sealed now (Table 15.3). -/
def sealRec (slot : Nat) (key : Bytes) (attr : Nat) (s : State) : SlotRec :=
  { key := key, attr := attr, epoch := if isAnchor slot then 0 else s.sec.epoch, lifecycle := s.otp.lifecycle,
    measure := s.measure, testRoot := s.testRoot, uses := bits attr 15 0, iv := s.rnd 12 }

/-! ### Derivation (R460) -/

/-- The derivation context of Table 15.4: M, life cycle, E, unit ID. -/
def kdfContext (m : Bytes) (epoch : Nat) (s : State) : Bytes := m ++ [byte s.otp.lifecycle] ++ le 4 epoch ++ le 16 s.otp.unitId

/-- The unit key-agreement private key (Table 15.4): d = (K mod (n − 1)) + 1. -/
def unitKa (s : State) : Option Nat :=
  s.root.map (fun r => beNat (kdf r (ascii "DORUA-UNIT-KA") (kdfContext (sha256 s.otp.romMeasure) 0 s)) % (p256N - 1) + 1)

/-- The unit key-agreement key in the keystone (Table 15.1: P256, UNIT_KA). -/
def stoneUnitKa (s : State) : State :=
  match unitKa s with | none => s | some d => loadStone (be 32 d) (stoneAttr 4 0x12) none s

/-- The key that seals a slot's record (R459, Table 15.4): WRAP at the present epoch, ANCHOR for the two anchors. -/
def sealKey (slot : Nat) (s : State) : Option Bytes :=
  s.root.map (fun r => kdf r (ascii (if isAnchor slot then "DORUA-ANCHOR" else "DORUA-WRAP"))
    (kdfContext s.measure (if isAnchor slot then 0 else s.sec.epoch) s))

/-- A key is sealed into its slot, under the sealing key in the keystone (R459). -/
def storeKey (slot : Nat) (key : Bytes) (attr : Nat) (s : State) : State :=
  let r := sealRec slot key attr s
  let s := match sealKey slot s with | none => s | some w => loadStone w (stoneAttr 2 0x11) none s
  s.draw.modSec (fun k => { k with slots := put k.slots slot r })

/-- Bytes 0 to 13 of a slot record, its additional authenticated data (Table 15.3). -/
def slotHead (slot : Nat) (r : SlotRec) : Bytes :=
  le 2 slot ++ [1, byte r.key.length] ++ le 4 r.attr ++ le 4 r.epoch ++ [byte r.lifecycle, 0]

/-- The 80 bytes of a slot record in flash, sealed under a key (Table 15.3). -/
def slotBytes (slot : Nat) (r : SlotRec) (w : Bytes) : Bytes :=
  let c := gcmSeal w r.iv (slotHead slot r) (fit 32 r.key)
  slotHead slot r ++ le 2 r.uses ++ r.iv ++ c.1 ++ c.2 ++ zeros 4

/-- UNIT_KA_PUBLIC: five records at a start-up with a root (R462). -/
def recordUnitKa (s : State) : State :=
  match unitKa s with
  | none => s
  | some d =>
    let q := ecPublic d ++ zeros 1
    let s := stoneUnitKa s
    (List.range 5).foldl (fun s k =>
      ev evUnitKaPublic ([byte (k + 128 * b2n s.testRoot)] ++ sub q (13 * k) 13) s) s

/-! ### Erasure (R467, R470, Table 15.7) -/

/-- The seal epoch of the vault advances. -/
def advanceEpoch (s : State) : State := s.modSec (fun k => { k with epoch := (k.epoch + 1) % 4294967296 })

/-- The mirror follows and never decreases (R470). -/
def writeMirror (s : State) : State := s.modSec (fun k => { k with epochMirror := max k.epochMirror k.epoch })

/-- The secret-tagged banks are zeroed: the network keys are there (R460). -/
def zeroBanks (s : State) : State :=
  (s.modSec (fun k => { k with banksZeroed := true })).modMac (fun m => { m with
    netKeys := [], keyUpdate := none, oldKeyUntil := none })

/-- Firmware's part of an erasure: the span ends at once, the records, then every session closes (Table 15.7 step 6). -/
def eraseFirmware (old cause : Nat) (s : State) : State :=
  let s := endSpan stKeyless dNone (zeroBanks (writeMirror s))
  let s := ev evKeysErased (le 4 old ++ le 4 s.sec.epoch ++ [byte cause]) s
  let s := noteKeyless s
  dismiss (fun _ => true) s

/-- The guard LFSR is seeded from the security core's generator at each start-up, never with zero (R468). -/
def seedGuard (s : State) : State :=
  let n := leNat (s.rnd 2)
  s.draw.modSec (fun k => { k with lfsr := if n = 0 then 1 else n })

/-- TAMPER_DETECTED of a log entry (R467, R469, Table 15.9). -/
def tamperRecord (e : TamperEnt) (inBackup : Bool) (s : State) : State :=
  recordEv evTamperDetected sourceModule (if e.policy = 1 then sevWarning else sevError)
    ([byte e.source, byte e.policy, byte (b2n inBackup), 0] ++ le 4 e.epoch ++ le 6 e.ticks) none 0 s

end Sys2Proof.Machine
end

