-- ==== Sys2Proof/Machine/Supply.lean ====
section
/-! DEFINITION. A tamper source that acts (R467 to R470). -/

namespace Sys2Proof.Machine

/-! ### Tamper (R467 to R470) -/

def State.tamperSrc (s : State) (source : Nat) : TamperSrc := s.sec.tamper.getD (source - 1) default

def modTamper (source : Nat) (f : TamperSrc → TamperSrc) (s : State) : State :=
  s.modSec (fun k => { k with tamper := modAt k.tamper (source - 1) f })

/-- An entry of the tamper log; the last 64 are kept (R469). -/
def tamperEntry (source policy : Nat) (s : State) : TamperEnt :=
  { source := source, policy := policy, ticks := s.rtc.ticks, epoch := s.sec.epoch, inBackup := s.fb.backup, fresh := true,
    owed := s.pwr.stopped }

def logTamper (e : TamperEnt) (s : State) : State :=
  s.modSec (fun k => { k with tamperLog := (k.tamperLog ++ [e]).drop (k.tamperLog.length + 1 - 64) })

/-- Sources that act within one tick make one erasure (Table 15.10): 30,518 ns. -/
def erasesNow (s : State) : Bool := match s.sec.eraseAt with | some t => t + 30518 ≤ s.now | none => true

/-- Steps 1 to 3 of Table 15.7: the tamper block's part. -/
def eraseVault (s : State) : State :=
  if erasesNow s then (clearKeystone (advanceEpoch s)).modSec (fun k => { k with eraseAt := some s.now }) else s

/-- A source acts under its policy (R467). In BACKUP and while safe state holds the cores in reset the vault's part of an erasure takes
place, and the rest follows the next start-up (Tables 14.2 and 15.7). In SLUMBER an erasure follows the exit (Table 15.10). -/
def tamperActs (source : Nat) (s : State) : State :=
  let policy := (s.tamperSrc source).policy
  if policy = 3 ∧ s.pwr.stopped then s.modSec (fun k => { k with actsOwed := insertSet k.actsOwed source })
  else
    let old := s.sec.epoch
    let erases := policy == 3 && erasesNow s
    let s := if policy = 3 then eraseVault s else s
    let e := tamperEntry source policy s
    let s := logTamper e s
    let s := if policy = 3 then seqTakes s else s
    if s.fb.backup || s.pwr.stopped || s.par.safe || s.boot.phase != .firmware then
      if erases then s.modSec (fun k => { k with eraseOwed := some (k.eraseOwed.getD (old, source)) }) else s
    else
      let s := tamperRecord e false (if policy = 1 then s else toRun s)
      if erases then eraseFirmware old source s else s

/-- A condition becomes true: ACTIVE follows it; the source acts if it has been false for 1 s (R467). -/
def tamperTrue (source : Nat) (s : State) : State :=
  let acts := (s.tamperSrc source).armed
  let s := modTamper source (fun t => { t with active := true, latched := t.latched || acts, armed := false }) s
  if acts then tamperActs source s else s

/-- A condition becomes false: the 1 s re-arm interval begins. -/
def tamperFalse (source : Nat) (s : State) : State :=
  if (s.tamperSrc source).active then modTamper source (fun t => { t with active := false, falseSince := s.now }) s else s

/-- What a wake from SLUMBER or a start-up owes for tamper: the records, the rest of an erasure, and the sources that acted under
ALARM_ERASE in SLUMBER (R468, R469, R476). -/
def tamperOwed (s : State) : State :=
  let es := s.sec.tamperLog.filter (·.owed)
  let s := s.modSec (fun k => { k with tamperLog := k.tamperLog.map (fun e => { e with owed := false }) })
  let s := es.foldl (fun s e => tamperRecord e e.inBackup s) s
  let s := match s.sec.eraseOwed with
    | none => s
    | some (old, cause) => eraseFirmware old cause (s.modSec (fun k => { k with eraseOwed := none }))
  s.sec.actsOwed.foldl (fun s source => tamperActs source s) (s.modSec (fun k => { k with actsOwed := [] }))

/-- AUTH_FAILED results of the last 60 s (Table 15.6 source 8). -/
def authFailures (s : State) : Nat := (s.sec.authFails.filter (fun t => s.now < t + 60 * sec)).length

/-- Source 8 is false again once failures have aged out of the window (R467, Table 15.6): since the instant at which the oldest of
TAMPER_AUTH_LIMIT failures left it. -/
def settleAuth (s : State) : State :=
  if (s.tamperSrc 8).active && decide (authFailures s < s.live 0x0804) then
    modTamper 8 (fun t => { t with active := false, falseSince := min s.now (s.sec.authFails.getD (s.live 0x0804 - 1) 0 + 60 * sec) }) s
  else s

/-- A source may act again once its condition has been false for 1 s (R467). -/
def rearm (source : Nat) (s : State) : State :=
  if !(s.tamperSrc source).active ∧ (s.tamperSrc source).falseSince + sec ≤ s.now then
    modTamper source (fun t => { t with armed := true }) s
  else s

/-- An AUTH_FAILED result: recorded, and counted for source 8 (Tables 15.6 and 15.9). -/
def noteAuth (opcode sid : Nat) (s : State) : State :=
  let s := rearm 8 (settleAuth s)
  let s := s.modSec (fun k => { k with authFails := (s.now :: k.authFails).take 256 })
  let s := ev evAuthFailure (le 2 opcode ++ [byte sid]) s
  if decide (s.live 0x0804 ≤ authFailures s) && !(s.tamperSrc 8).active then tamperTrue 8 s else s

end Sys2Proof.Machine
end

