-- ==== Sys2Proof/Machine/Time.lean ====
section
/-! DEFINITION. The time group and the events of span time: TIME_GET to TIME_SOURCE_SET (R99 to R101), PTP, the transparent
clock, GNSS and PPS, source changes, slews (chapter 08). -/

namespace Sys2Proof.Machine

/-! ### Commands -/

/-- TIME_GET (Table 3.11). -/
def timeGet (c : LiveCmd) (s : State) : State :=
  complete c stOk dNone (encTime s.time.spanT ++ [byte (timeStateCode s.time.state), byte s.time.selected]
    ++ le 4 (if s.mac.running then s.mac.cycle else 0) ++ le 8 s.rtc.ticks
    ++ (if s.utcSec < calRange then encCal (calOfSeconds s.utcSec) else zeros 8)
    ++ le 2 (ofS 16 s.rtc.u) ++ le 2 (b2n s.time.refused)) s

def execTimeGet (sid tag : Nat) (s : State) : Res := .next (runCmd 0x0101 sid tag timeGet s)

/-- TIME_SLEW (R99, R295, R297): offset, then rate, then state. -/
def timeSlew (c : LiveCmd) (s : State) : State :=
  let x := toS 64 (fld c.params 0 8)
  let per := if fld c.params 8 4 = 0 then s.live 0x0104 else fld c.params 8 4
  if sec < x.natAbs then fail c stOutOfRange 0x83 s
  else if s.live 0x0103 * per < x.natAbs then fail c stOutOfRange 0x80 s
  else if s.time.state = .locked then fail c stBusy 0x81 s
  else
    let end_ := addNs s.time.spanT ((per * ms : Nat) + x)
    let a := roundDiv (x * 4294967296) (per * 100000)
    complete c stOk dNone (encTime end_) (s.modTime (fun t => { t with slew := some { addend := a, until_ := end_ } }))

def execTimeSlew (sid tag : Nat) (s : State) : Res := .next (runCmd 0x0102 sid tag timeSlew s)

/-- The step TIME_STEP asks for, or its refusal (R100, R293, R295). -/
def timeStepOf (c : LiveCmd) (s : State) : Int ⊕ (Nat × Nat) :=
  let p := c.params
  let mode := fld p 0 1
  let force := (fld p 1 1).testBit 0
  let off := toS 64 (fld p 4 8)
  if mode ≠ 1 ∧ mode ≠ 2 then .inr (stBadParam, dNone)
  else if 1 < fld p 1 1 ∨ !zeroAt p 2 2 ∨ !zeroAt p 22 2 ∨ (mode = 1 ∧ !zeroAt p 12 10) ∨ (mode = 2 ∧ off ≠ 0) ∨
      2 ^ 30 ≤ fld p 18 4 then .inr (stBadParam, dReservedBit)
  else if force ∧ c.role < 3 then .inr (stNotPermitted, 0x80)
  else if s.time.state = .locked ∧ !force then .inr (stBusy, 0x81)
  else if mode = 1 ∧ off = 0 ∧ force then
    if s.time.refused then .inl s.time.refusedX else .inr (stBadParam, 0x82)
  else
    match (if mode = 1 then some off else (decTime (sub p 12 10)).map (fun t => (stTotNs t : Int) - s.spanNs)) with
    | none => .inr (stOutOfRange, dNone)
    | some x => if !force ∧ s.live 0x0101 * 1000 < x.natAbs then .inr (stJumpRefused, dNone) else .inl x

/-- TIME_STEP (R100): fixed at execution, applied at once or at the boundary of R296. -/
def timeStep (c : LiveCmd) (s : State) : State :=
  match timeStepOf c s with
  | .inr (st, d) => fail c st d s
  | .inl x => doStep x 1 (some c.seq) (waitFor c .timeStep [] s)

def execTimeStep (sid tag : Nat) (s : State) : Res := .next (runCmd 0x0103 sid tag timeStep s)

/-- The list of TIME_SOURCE_SET: no code twice, none after an empty place (R101). -/
def sourceList : List Nat → Option (List Nat)
  | [] => some []
  | c :: l =>
    if c = 0 then (if l.all (· == 0) then some [] else none)
    else if 5 < c ∨ l.contains c then none
    else (sourceList l).map (c :: ·)

/-- TIME_SOURCE_SET (R101, Table 8.6). -/
def timeSourceSet (c : LiveCmd) (s : State) : State :=
  if !zeroAt c.params 4 4 then fail c stBadParam dReservedBit s
  else match sourceList ((c.params.take 4).map (·.toNat)) with
    | none => fail c stBadParam dNone s
    | some l =>
      let s := s.modTime (fun t => { t with list := l, refused := false, autoRun := [] })
      let lost := s.time.selected ≠ 0 ∧ !(l.contains s.time.selected)
      let s := if lost then toHoldover s else s
      let s := selectSource (listSelects s) s
      complete c stOk dNone [byte s.time.selected, byte (timeStateCode s.time.state), 0, 0] s

def execTimeSourceSet (sid tag : Nat) (s : State) : Res := .next (runCmd 0x0104 sid tag timeSourceSet s)

/-! ### PTP (R281 to R283) -/

/-- Signed TX and RX parts of TIME_ETH_CORR_x (Table 8.5). -/
def ethCorr (s : State) (port : Nat) : Int × Int :=
  let v := s.live (if port = 0 then 0x010A else 0x010B)
  (toS 16 (bits v 31 16), toS 16 (bits v 15 0))

/-- Nanoseconds of a correctionField in 2^-16 ns. -/
def corrNs (c : Int) : Int := c / 65536

/-- A PTP measurement x = reference − module once t2 − t1 is known (IEEE 1588 clause 11.3). -/
def ptpMeasure (t21 : Int) (s : State) : State :=
  let s := s.modTime (fun t => { t with ptp := { t.ptp with lastT21 := some t21, twoStep := none } })
  match s.time.ptp.meanDelay with
  | none => s
  | some d =>
    let s := modSource 1 (fun x => { x with count := x.count + 1, last := s.now }) s
    let s := if s.time.ptp.parent.isSome && 8 ≤ (s.source 1).count then qualify 1 s else s
    measure 1 (d - t21) s

/-- Whether a message is one the port listens to: its transport, its domain, from the selected parent (R283). -/
def ptpOurs (transport domain source : Nat) (s : State) : Bool :=
  transport == s.live 0x0108 && domain == s.live 0x0107 &&
    (match s.time.ptp.parent with | some p => p.sourcePort == source | none => false)

/-- 2^l seconds in ns. -/
def logInterval (l : Int) : Nat := if 0 ≤ l then sec * 2 ^ l.toNat else sec / 2 ^ (-l).toNat

/-- PTP_SYNC: timestamped at ingress; a one-step Sync measures at once (R282, R283). -/
def ptpSync (m : PtpSync) (s : State) : State :=
  if ptpOurs m.transport m.domain m.source s && m.multicast && (-7 ≤ m.logInterval && m.logInterval ≤ 1) && s.fwUp then
    let t2 := (s.spanNs : Int) - (ethCorr s m.port).2
    let s := s.modTime (fun t => { t with ptp := { t.ptp with port := m.port, lastSync := s.now, syncInterval := logInterval m.logInterval } })
    if m.twoStep then s.modTime (fun t => { t with ptp := { t.ptp with twoStep := some (m.seq, t2, m.correction) } })
    else ptpMeasure (t2 - m.origin - corrNs m.correction - s.liveS 32 0x0109) s
  else s

def execPtpSync (m : PtpSync) (s : State) : Res := .next (onBank 1 (ptpSync m) s)

/-- PTP_FOLLOW_UP: completes the two-step Sync of the same sequence (R283). -/
def ptpFollowUp (m : PtpFollow) (s : State) : State :=
  match s.time.ptp.twoStep with
  | some (q, t2, cs) =>
    if ptpOurs m.transport m.domain m.source s && m.multicast && q == m.seq && s.fwUp then
      ptpMeasure (t2 - m.origin - corrNs (cs + m.correction) - s.liveS 32 0x0109) s
    else s
  | none => s

def execPtpFollowUp (m : PtpFollow) (s : State) : Res := .next (onBank 1 (ptpFollowUp m) s)

/-- The default best master clock comparison: a is better than b (IEEE 1588 clause 9.3.4). -/
def betterMaster (a b : Announce) : Bool :=
  let key (x : Announce) : List Nat :=
    if a.grandmaster = b.grandmaster then [x.steps, x.sourcePort]
    else [x.priority1, x.clockClass, x.accuracy, x.variance, x.priority2, x.grandmaster]
  match ((key a).zip (key b)).find? (fun p => p.1 != p.2) with
  | some p => p.1 < p.2
  | none => false

def announceOf (m : PtpAnn) : Announce :=
  { sourcePort := m.source, priority1 := m.priority1, clockClass := m.clockClass, accuracy := m.accuracy,
    variance := m.variance, priority2 := m.priority2, grandmaster := m.grandmaster, steps := m.steps,
    utcOffset := m.utcOffset, utcValid := m.utcValid, leap59 := m.leap59, leap61 := m.leap61,
    interval := logInterval m.logInterval }

/-- The best of the masters heard. -/
def bestMaster (l : List (Announce × Nat × Option Nat)) : Option (Announce × Nat × Option Nat) :=
  l.foldl (fun b x => match b with | none => some x | some y => if betterMaster x.1 y.1 then some x else some y) none

/-- The masters not yet timed out: heard within 3 of their announce intervals (R283). -/
def liveMasters (s : State) : List (Announce × Nat × Option Nat) :=
  s.time.ptp.foreign.filter (fun f => decide (s.now < f.2.1 + 3 * f.1.interval))

/-- A master that may be chosen: the parent, and one heard twice within 4 announce intervals (IEEE 1588 clause 9.3; PRESUMED, log
entry 126). -/
def masterQualified (s : State) (f : Announce × Nat × Option Nat) : Bool :=
  s.time.ptp.parent.map (·.sourcePort) == some f.1.sourcePort
    || (match f.2.2 with | some t => decide (s.now < t + 4 * f.1.interval) | none => false)

/-- R283: the best master among the Announce messages received is the parent; a new one starts its path delay and the count towards
qualification afresh. U follows the parent's offset. -/
def chooseParent (s : State) : State :=
  let l := liveMasters s
  let s := s.modTime (fun t => { t with ptp := { t.ptp with foreign := l } })
  match bestMaster (l.filter (masterQualified s)) with
  | none => refreshU (s.modTime (fun t => { t with
      ptp := { t.ptp with parent := none, meanDelay := none, lastT21 := none, twoStep := none, delayReq := none } }))
  | some (a, at_, _) =>
    if (s.time.ptp.parent.map (·.sourcePort)) = some a.sourcePort then
      refreshU (s.modTime (fun t => { t with ptp := { t.ptp with parent := some a, lastAnnounce := at_ } }))
    else
      let s := modSource 1 (fun x => { x with count := 0 }) s
      refreshU (s.modTime (fun t => { t with
        ptp := { t.ptp with
          parent := some a, lastAnnounce := at_, lastSync := s.now, syncInterval := sec, twoStep := none, meanDelay := none,
          lastT21 := none, delayReq := none } }))

/-- PTP_ANNOUNCE: feeds master selection (R283). A data set 255 or more steps away is no candidate (PRESUMED, log entry 126). -/
def ptpAnnounce (m : PtpAnn) (s : State) : State :=
  if m.transport = s.live 0x0108 ∧ m.domain = s.live 0x0107 ∧ m.multicast ∧ m.steps < 255 ∧ s.fwUp then
    let was := s.time.ptp.foreign.find? (fun f => f.1.sourcePort == m.source)
    chooseParent (s.modTime (fun t => { t with
      ptp := { t.ptp with
        foreign := (t.ptp.foreign.filter (fun f => f.1.sourcePort != m.source)) ++ [(announceOf m, s.now, was.map (·.2.1))] } }))
  else s

def execPtpAnnounce (m : PtpAnn) (s : State) : Res := .next (onBank 1 (ptpAnnounce m) s)

/-- PTP_DELAY_RESP: gives the mean path delay, ((t2 − t1) + (t4 − t3)) / 2 corrected (R283). -/
def ptpDelayResp (m : PtpResp) (s : State) : State :=
  match s.time.ptp.delayReq, s.time.ptp.lastT21 with
  | some (q, t3), some t21 =>
    if ptpOurs m.transport m.domain m.source s && m.multicast && m.forUs && q == m.seq && s.fwUp then
      let d := (t21 + ((m.receive : Int) - t3 - corrNs m.correction)) / 2
      s.modTime (fun t => { t with
        ptp := { t.ptp with
          meanDelay := some d, delayReq := none, delayInterval := min (8 * sec) (logInterval m.logMinInterval) } })
    else s
  | _, _ => s

def execPtpDelayResp (m : PtpResp) (s : State) : Res := .next (onBank 1 (ptpDelayResp m) s)

/-- One's complement sum of the 16-bit words of a byte string. -/
def onesSum (b : Bytes) : Nat :=
  (chunks 2 (b.length / 2) b).foldl (fun a w => let t := a + beNat w; t % 65536 + t / 65536) 0

/-- The Internet checksum of a byte string, whose length is even. -/
def inetChecksum (b : Bytes) : Nat := 65535 - onesSum b

/-- The module's Ethernet address, and its PTP port identity: constants that the spec does not give (log entry 126). -/
def ethAddress : Bytes := le 6 (Config.unstated 60 0)
def portIdentity : Bytes := le 10 (Config.unstated 60 1)

/-- The Delay_Req message the slave sends; its correctionField carries −delayAsymmetry. -/
def delayReqMessage (s : State) : Bytes :=
  [1, 2] ++ be 2 44 ++ [byte (s.live 0x0107), 0, 0, 0] ++ be 8 (ofS 64 (-(s.liveS 32 0x0109) * 65536)) ++ zeros 4
    ++ portIdentity ++ be 2 s.time.ptp.delaySeq ++ [1, 0x7F] ++ zeros 10

/-- The UDP datagram of a PTP event message, ports 319, with the checksum over its pseudo-header. -/
def ptpUdp (src dst m : Bytes) : Bytes :=
  let n := 8 + m.length
  let head (ck : Nat) : Bytes := be 2 319 ++ be 2 319 ++ be 2 n ++ be 2 ck
  let ck := inetChecksum (src ++ dst ++ be 4 n ++ be 4 17 ++ head 0 ++ m)
  head (if ck = 0 then 65535 else ck) ++ m

/-- The Ethernet frame of a PTP event message on the transport of TIME_PTP_TRANSPORT, to its multicast address (R283); none over IPv4
while it is disabled (Table 19.4). Identification, time to live and hop limit are free. -/
def ptpFrame (m : Bytes) (s : State) : Option Bytes :=
  let framed (dst type body : Bytes) : Bytes :=
    let f := dst ++ ethAddress ++ type ++ fit (max 46 body.length) body
    f ++ le 4 (crc32 f)
  match s.live 0x0108 with
  | 1 =>
    let src := be 4 (s.live 0x0C20)
    let dst : Bytes := [224, 0, 1, 129]
    let udp := ptpUdp src dst m
    let head (ck : Nat) : Bytes :=
      [0x45, 0] ++ be 2 (20 + udp.length) ++ be 2 (Config.unstated 60 2 % 65536) ++ [0, 0, byte (Config.unstated 60 3), 17] ++ be 2 ck ++ src ++ dst
    if s.live 0x0C20 = 0 then none else some (framed [0x01, 0x00, 0x5E, 0x00, 0x01, 0x81] [0x08, 0x00] (head (inetChecksum (head 0)) ++ udp))
  | 2 =>
    let src := [0xFE, 0x80] ++ zeros 6 ++ sub (le 16 s.otp.unitId) 8 8
    let dst := [0xFF, 0x0E] ++ zeros 12 ++ [0x01, 0x81]
    let udp := ptpUdp src dst m
    if s.live 0x0C23 = 0 then none
    else some (framed [0x33, 0x33, 0x00, 0x00, 0x01, 0x81] [0x86, 0xDD]
      ([0x60, 0, 0, 0] ++ be 2 udp.length ++ [17, byte (Config.unstated 60 3)] ++ src ++ dst ++ udp))
  | _ => some (framed [0x01, 0x1B, 0x19, 0x00, 0x00, 0x00] [0x88, 0xF7] m)

/-- DELAY_REQ_TIMER (R282, R283): sent by the port the parent's Sync came by, with that port's egress timestamp, and every second
until a Delay_Resp gives the interval (DESIGN CHOICE, log entry 126). -/
def delayReqTimer (s : State) : State :=
  let p := s.time.ptp
  if p.parent.isSome && p.delayDue ≤ s.now && s.fwUp then
    let port := p.port
    let s1 := s.modOut (fun o => { o with
      forwarded := o.forwarded ++ ((ptpFrame (delayReqMessage s) s).map (fun f => (port, f))).toList })
    s1.modTime (fun t => { t with
      ptp := { t.ptp with
        delayReq := some (p.delaySeq, (s.spanNs : Int) + (ethCorr s port).1), delaySeq := (p.delaySeq + 1) % 65536,
        delayDue := s.now + (if p.delayInterval = 0 then sec else p.delayInterval) } })
  else s

def execDelayReqTimer (s : State) : Res := .next (delayReqTimer s)

/-- ANNOUNCE_RECEIPT_TIMEOUT (R283, R287): no Announce for 3 intervals loses the parent and the source; the best other master heard is
the next parent. -/
def announceTimeout (s : State) : State :=
  match s.time.ptp.parent with
  | some p =>
    if s.time.ptp.lastAnnounce + 3 * p.interval ≤ s.now then
      chooseParent (loseSource 1 s)
    else s
  | none => s

def execAnnounceReceiptTimeout (s : State) : Res := .next (announceTimeout s)

/-- SYNC_LOSS_TIMEOUT (R287): no Sync for 4 sync intervals. -/
def execSyncLossTimeout (s : State) : Res :=
  .next (if s.time.ptp.parent.isSome && s.time.ptp.lastSync + 4 * s.time.ptp.syncInterval ≤ s.now then loseSource 1 s else s)

/-- Where a PTP message begins in an Ethernet frame, with the place of its UDP checksum and whether it is IPv6 (R281). -/
def ptpOffset (f : Bytes) : Option (Nat × Option (Nat × Bool)) :=
  let et := beNat (sub f 12 2)
  if et = 0x88F7 then some (14, none)
  else if et = 0x0800 then
    let ihl := 4 * bits (fld f 14 1) 3 0
    if fld f 23 1 = 17 ∧ beNat (sub f (14 + ihl + 2) 2) = 319 then some (14 + ihl + 8, some (14 + ihl + 6, false)) else none
  else if et = 0x86DD then
    if fld f 20 1 = 17 ∧ beNat (sub f 56 2) = 319 then some (62, some (60, true)) else none
  else none

/-- Replaces the bytes at an offset. -/
def patch (f : Bytes) (off : Nat) (b : Bytes) : Bytes := f.take off ++ b ++ f.drop (off + b.length)

/-- RFC 1624: the checksum after `m` became `m'`. -/
def checksumUpdate (hc : Nat) (m m' : Bytes) : Nat :=
  let inv := m.map (fun b => b ^^^ 0xFF)
  let t := (65535 - hc) + onesSum inv + onesSum m'
  let t := t % 65536 + t / 65536
  let t := t % 65536 + t / 65536
  let r := 65535 - t
  if r = 0 then 65535 else r

/-- R281: the frame with its residence added to the correctionField of a PTP event message, checksum and FCS updated. -/
def correctFrame (f : Bytes) (residence : Nat) : Bytes :=
  match ptpOffset f with
  | none => f
  | some (o, ck) =>
    if [0, 1, 2, 3].contains (bits (fld f o 1) 3 0) then
      let old := sub f (o + 8) 8
      let new := be 8 ((beNat old + residence * 65536) % 2 ^ 64)
      let g := patch f (o + 8) new
      let g := match ck with
        | none => g
        | some (at_, v6) =>
          let hc := beNat (sub f at_ 2)
          if hc = 0 && !v6 then g else patch g at_ (be 2 (checksumUpdate hc old new))
      let body := g.take (g.length - 4)
      body ++ le 4 (crc32 body)
    else f

/-- The residence of a frame: its egress timestamp less its ingress timestamp, each corrected (R281, Table 8.1). -/
def residence (ingress stamp : Nat) (s : State) : Int :=
  ((s.spanNs : Int) + (ethCorr s (1 - ingress)).1) - ((stamp : Int) - (ethCorr s ingress).2)

/-- PTP_EVENT_FORWARD (R281): the frame that came by one port with the ingress timestamp `stamp` leaves by the other, corrected.
Event frames take strict priority, so none leaves later than one maximum frame time after it came (log entry 147). -/
def execPtpEventForward (ingress stamp : Nat) (frame : Bytes) (s : State) : Res :=
  let r := residence ingress stamp s
  .next (if s.boot.phase = .firmware ∧ !s.pwr.stopped ∧ 0 ≤ r ∧ r ≤ 123040 then
    onBank 1 (fun s => s.modOut (fun o => { o with forwarded := o.forwarded ++ [(1 - ingress, correctFrame frame r.toNat)] })) s
  else s)

/-! ### GNSS and PPS (R284, R285) -/

/-- Span time, in ns, that a UTC label gives: TIME_TAI_UTC, with the leap rule of TIME_LEAP; `leap` marks second 60, which ends the
old offset though TIME_TAI_UTC has changed already. -/
def labelNs (s : State) (utc : Nat) (leap : Bool) : Int :=
  let l := s.live 0x0106
  let kind := bits l 17 16
  let atEnd := 946684800 + (bits l 15 0 + 1) * 86400
  let d : Int := if leap then (if s.time.leapAt = some utc then -1 else 0)
    else if kind = 1 ∧ atEnd ≤ utc then 1 else if kind = 2 ∧ atEnd ≤ utc + 1 then -1 else 0
  ((utc : Int) + s.liveS 16 0x0105 + d) * sec

/-- A labelled edge: counts towards qualification, and measures (R287). -/
def gnssMeasure (ref : Int) (s : State) : State :=
  let s := modSource 2 (fun x => { x with count := x.count + 1, last := s.now }) s
  let s := s.modTime (fun t => { t with gnss := { t.gnss with lastLabel := s.now, labelled := true } })
  let s := if 8 ≤ (s.source 2).count then qualify 2 s else s
  measure 2 (ref - s.time.gnss.edgeSpan) s

/-- PPS_IN_EDGE (R280, R284, R285): the corrected timestamp, spacing, and the measurements of GNSS and PPS_ONLY. -/
def ppsInEdge (s : State) : State :=
  let at_ : Int := (s.spanNs : Int) - 20 - s.liveS 16 0x010E
  let g := s.time.gnss
  let spaced := g.edgeSeen && 999 * ms ≤ s.now - g.edgeAt && s.now - g.edgeAt ≤ 1001 * ms
  let s := s.modTime (fun t => { t with gnss := { t.gnss with edgeAt := s.now, edgeSpan := at_, edgeSeen := true, labelled := false, nextLabel := none } })
  let near := (at_ + 500000000) / sec * sec
  let x := near - at_
  let s := modSource 3 (fun y => { y with
    count := if spaced && x.natAbs ≤ 400000000 then y.count + 1 else (if x.natAbs ≤ 400000000 then 1 else 0), last := s.now }) s
  let s := if 8 ≤ (s.source 3).count then qualify 3 s
    else if (s.source 3).qualified && 400000000 < x.natAbs then loseSource 3 s else s
  let run := spaced && (if s.live 0x010D = 1 then g.nextLabel.isSome else g.labelled)
  let s := if run then s else modSource 2 (fun y => { y with count := 0 }) s
  let s := measure 3 x s
  match g.nextLabel with
  | some u => gnssMeasure (labelNs s u.1 u.2) s
  | none => s

def execPpsInEdge (s : State) : Res := .next (if s.fwUp then onBank 0 ppsInEdge s else s)

/-- Hex digit of an ASCII byte. -/
def hexDigit (b : Byte) : Option Nat :=
  let n := b.toNat
  if 48 ≤ n ∧ n ≤ 57 then some (n - 48) else if 65 ≤ n ∧ n ≤ 70 then some (n - 55)
  else if 97 ≤ n ∧ n ≤ 102 then some (n - 87) else none

/-- Splits at a byte. -/
def splitAt_ (sep : Byte) : Bytes → List Bytes
  | [] => [[]]
  | b :: l => match splitAt_ sep l with
    | [] => [[b]]
    | h :: t => if b = sep then [] :: h :: t else (b :: h) :: t

/-- The decimal number a byte string spells. -/
def decNum (b : Bytes) : Option Nat :=
  b.foldl (fun a x => match a with
    | none => none
    | some n => if 48 ≤ x.toNat ∧ x.toNat ≤ 57 then some (10 * n + (x.toNat - 48)) else none) (if b = [] then none else some 0)

/-- The fields of an NMEA sentence whose checksum is present and right (R284). -/
def nmeaFields (t : Bytes) : Option (List Bytes) :=
  match t with
  | 0x24 :: rest =>
    match splitAt_ 0x2A rest with
    | [body, ck] =>
      match ck with
      | h :: l :: _ =>
        match hexDigit h, hexDigit l with
        | some a, some b => if (body.foldl (fun x y => x ^^^ y) (0 : Byte)).toNat = 16 * a + b then some (splitAt_ 0x2C body) else none
        | _, _ => none
      | _ => none
    | _ => none
  | _ => none

/-- UTC seconds since 1970 of a ZDA's fields, and whether it names second 60. -/
def zdaTime (f : List Bytes) : Option (Nat × Bool) :=
  match decNum (sub (f.getD 1 []) 0 2), decNum (sub (f.getD 1 []) 2 2), decNum (sub (f.getD 1 []) 4 2),
      decNum (f.getD 2 []), decNum (f.getD 3 []), decNum (f.getD 4 []) with
  | some h, some m, some sc, some d, some mo, some y =>
    if 1 ≤ mo ∧ mo ≤ 12 ∧ 1 ≤ d ∧ 2000 ≤ y ∧ h < 24 ∧ m < 60 ∧ sc ≤ 60 then
      some (946684800 + (daysToYear y + daysToMonth y mo + (d - 1)) * 86400 + h * 3600 + m * 60 + sc, sc == 60)
    else none
  | _, _, _, _, _, _ => none

/-- A sentence (R284): RMC gives the status, a ZDA 100 ms to 900 ms after an edge labels a second. -/
def nmeaSentence (text : Bytes) (s : State) : State :=
  match nmeaFields text with
  | none => s
  | some f =>
    let name := (f.getD 0 []).drop 2
    if name = ascii "RMC" then
      let ok := f.getD 2 [] == ascii "A"
      let s := s.modTime (fun t => { t with gnss := { t.gnss with rmcValid := ok, rmcAt := s.now } })
      if ok then s else (if (s.source 2).qualified then loseSource 2 s else modSource 2 (fun x => { x with count := 0 }) s)
    else if name = ascii "ZDA" then
      let g := s.time.gnss
      match zdaTime f with
      | some (utc, leap) =>
        if g.edgeSeen && g.edgeAt + 100 * ms ≤ s.now && s.now ≤ g.edgeAt + 900 * ms && g.rmcValid
            && s.now ≤ g.rmcAt + 2 * sec then
          if s.live 0x010D = 1 then
            s.modTime (fun t => { t with gnss := { t.gnss with nextLabel := some (utc, leap), lastLabel := s.now } })
          else if g.labelled then s
          else gnssMeasure (labelNs s utc leap) s
        else s
      | none => s
    else s

/-- NMEA_SENTENCE: what comes at another rate than TIME_GNSS_BAUD is no sentence (R284). -/
def execNmeaSentence (text : NmeaIn) (s : State) : Res :=
  .next (if s.fwUp && text.baud == s.live 0x010C then onBank 0 (nmeaSentence text.text) s else s)

/-- GNSS_EDGE_LOSS (R287): no edge for 2 s loses GNSS and PPS_ONLY. -/
def execGnssEdgeLoss (s : State) : Res :=
  .next (if s.time.gnss.edgeSeen && s.time.gnss.edgeAt + 2 * sec ≤ s.now then
    loseSource 3 (loseSource 2 (s.modTime (fun t => { t with gnss := { t.gnss with edgeSeen := false, nextLabel := none } })))
  else s)

/-- GNSS_LABEL_LOSS (R287): no label for 3 s loses GNSS. -/
def execGnssLabelLoss (s : State) : Res :=
  .next (if (s.source 2).qualified && s.time.gnss.lastLabel + 3 * sec ≤ s.now then loseSource 2 s else s)

/-- SOURCE_PREFERENCE_TIMER (R288): a source higher in the list, qualified for 60 s, becomes selected. -/
def execSourcePreferenceTimer (source : Nat) (s : State) : Res :=
  .next (if preferred s source then selectSource source s else s)

/-- SLEW_END (R297): the slew ends at the instant its reply stated. -/
def execSlewEnd (s : State) : Res :=
  .next (match s.time.slew with
    | some w => if w.until_ ≤ s.time.spanT then s.modTime (fun t => { t with slew := none }) else s
    | none => s)

end Sys2Proof.Machine
end

