-- ==== Sys2Proof/Machine/Rtc.lean ====
section
/-! DEFINITION. Commands and events of the real-time clock, the local-time table and the fallback sequencer (R102 to R105,
R304, chapter 09). -/

namespace Sys2Proof.Machine

/-! ### RTC_ALARM_SET (R102) -/

/-- Each field of the calendar with its mask bit and its range (Table 3.4). -/
def alarmFields (mask : Nat) (c : Calendar) : List (Bool × Nat × Nat × Nat) :=
  [(mask.testBit 0, c.year, 2000, 2399), (mask.testBit 1, c.month, 1, 12), (mask.testBit 2, c.day, 1, 31),
   (mask.testBit 3, c.weekday, 1, 7), (mask.testBit 4, c.hour, 0, 23), (mask.testBit 5, c.minute, 0, 59),
   (mask.testBit 6, c.second, 0, 59)]

def rtcAlarmSet (c : LiveCmd) (s : State) : State :=
  let p := c.params
  let i := fld p 0 1
  let ctl := fld p 1 1
  let mask := fld p 2 1
  let cal := decCal (sub p 4 8)
  let fs := alarmFields mask cal
  if 1 < i then fail c stBadParam dNone s
  else if 7 < ctl ∨ 127 < mask ∨ !zeroAt p 3 1 ∨ !zeroAt p 12 4 ∨ fs.any (fun f => f.1 && f.2.1 != 0) then
    fail c stBadParam dReservedBit s
  else if fs.any (fun f => !f.1 && !(f.2.2.1 ≤ f.2.1 && f.2.1 ≤ f.2.2.2)) then fail c stOutOfRange dNone s
  else
    let a : Alarm :=
      { enable := ctl.testBit 0, catchup := ctl.testBit 1, rearm := ctl.testBit 2, mask := mask, cal := cal,
        fired := false, again := false, latched := none, notBefore := s.utcSec + 1 }
    let s := s.modRtc (fun r => { r with alarms := modAt r.alarms i (fun _ => a) })
    if !s.rtc.valid then complete c stOk 0x81 (zeros 8) s
    else match nextMatch a (s.utcSec + 1) with
      | none => complete c stOk 0x80 (zeros 8) s
      | some t => complete c stOk dNone (if a.enable then encCal (calOfSeconds t) else zeros 8) s

def execRtcAlarmSet (sid tag : Nat) (s : State) : Res := .next (runCmd 0x0105 sid tag rtcAlarmSet s)

/-! ### Local time (R320) -/

/-- The offset in force at a UTC instant, in minutes, and the index of its transition. -/
def offsetAt (r : Rtc) (t : Int) : Int × Nat :=
  (r.transitions.foldl (fun (a : (Int × Nat) × Nat) v =>
    (if (v.1 : Int) ≤ t then (v.2, a.2) else a.1, a.2 + 1)) ((r.stdOffset, 0xFFFF), 0)).1

/-- The pieces of the table: from, until, offset. -/
def pieces : Option Int → Int → List (Nat × Int) → List (Option Int × Option Int × Int)
  | a, o, [] => [(a, none, o)]
  | a, o, (v, o') :: l => (a, some (v : Int), o) :: pieces (some (v : Int)) o' l

/-- The UTC instants a local time names, in rising order. -/
def localInstants (r : Rtc) (l : Int) : List Int :=
  (pieces none r.stdOffset r.transitions).filterMap (fun p =>
    let t := l - p.2.2 * 60
    if (match p.1 with | some a => decide (a ≤ t) | none => true) && (match p.2.1 with | some b => decide (t < b) | none => true)
    then some t else none)

/-- The transition whose gap holds a local time. -/
def gapOf : Int → List (Nat × Int) → Int → Option Int
  | _, [], _ => none
  | o, (v, o') :: rest, l => if (v : Int) + o * 60 ≤ l ∧ l < v + o' * 60 then some (v : Int) else gapOf o' rest l

/-- A local time in UTC: the instant, in a gap, in an overlap. -/
def localToUtc (r : Rtc) (l : Int) : Int × Bool × Bool :=
  match localInstants r l with
  | [t] => (t, false, false)
  | t :: _ => (t, false, true)
  | [] => ((gapOf r.stdOffset r.transitions l).getD l, true, false)

/-- Local state byte and offset at an instant (Table 3.14). -/
def localState (r : Rtc) (t : Int) : Nat × Int :=
  let o := (offsetAt r t).1
  (b2n (o != r.stdOffset) + 2 * b2n (2 ≤ (localInstants r (t + o * 60)).length), o)

/-! ### CALENDAR_CONVERT (R103) -/

def convertReply (ticks : Nat) (cal : Calendar) (st : Nat × Int) : Bytes :=
  le 8 ticks ++ encCal cal ++ le 2 (ticks % tickHz) ++ [byte st.1, 0] ++ le 2 (ofS 16 st.2) ++ zeros 2

/-- s_RTC in ns (R309). -/
def rtcNs (s : State) : Int := (946684800 + s.rtc.u) * sec + (s.rtc.ticks * sec / tickHz : Nat) + (s.rtc.phase / tickHz : Nat)

/-- RTC_SET (R308, R311): writes the counter, makes the RTC valid, and steps span time to it. The step is a clock adjustment
(R311, R319) unless it makes the RTC valid. Mark: DEDUCED (log entry 100). -/
def rtcSet (utc : Nat) (s : State) : State :=
  let s := rtcStepValid ((utc * tickHz : Nat) - (s.rtc.ticks : Int)) 3 (s.modRtc (fun r => { r with phase := 0 }))
  doStep (rtcNs s - s.spanNs) 4 none s

def inRange (t : Int) : Bool := decide (0 ≤ t) && decide (t < calRange)

def calendarConvert (c : LiveCmd) (s : State) : State :=
  let p := c.params
  let mode := fld p 0 1
  let local_ := (fld p 1 1).testBit 0
  let ticks := fld p 4 8
  let cal := decCal (sub p 12 8)
  if mode = 0 ∨ 3 < mode then fail c stBadParam dNone s
  else if 1 < fld p 1 1 ∨ !zeroAt p 2 2 ∨ !zeroAt p 20 4 ∨ 2 ^ 52 ≤ ticks ∨ (mode = 1 ∧ !zeroAt p 12 8) ∨
      (mode ≠ 1 ∧ (ticks ≠ 0 ∨ cal.weekday ≠ 0)) then fail c stBadParam dReservedBit s
  else if mode = 3 ∧ local_ then fail c stBadParam 0x83 s
  else if mode = 3 ∧ c.role < 2 then fail c stNotPermitted dRoleBelow s
  else if mode = 3 ∧ s.time.selected ≠ 0 then fail c stNotPermitted 0x82 s
  else if mode ≠ 1 ∧ !validCal cal then fail c stInvalidDate dNone s
  else if mode = 1 then
    let u : Int := (ticks / tickHz : Nat)
    let st := localState s.rtc u
    let v := if local_ then u + st.2 * 60 else u
    if inRange u && inRange v then complete c stOk dNone (convertReply ticks (calOfSeconds v.toNat) st) s
    else fail c stOutOfRange dNone s
  else
    let given := calSeconds cal
    let r := if local_ then localToUtc s.rtc given else ((given : Int), false, false)
    if inRange r.1 then
      let s := if mode = 3 then rtcSet given s else s
      complete c stOk (if r.2.1 then 0x80 else if r.2.2 then 0x81 else dNone)
        (convertReply (r.1.toNat * tickHz) (calOfSeconds given) (localState s.rtc r.1)) s
    else fail c stOutOfRange dNone s

def execCalendarConvert (sid tag : Nat) (s : State) : Res := .next (runCmd 0x0106 sid tag calendarConvert s)

/-! ### LOCAL_TIME_TABLE_LOAD (R104, R321) -/

/-- R321: fewer than two transitions lie in the future, recorded once per load. -/
def checkTableShort (s : State) : State :=
  if !s.rtc.shortRecorded && (s.rtc.transitions.filter (fun v => s.utcSec < v.1)).length < 2 then
    ev evLocalTableShort [] (s.modRtc (fun r => { r with shortRecorded := true }))
  else s

def offsetOk (o : Int) : Bool := decide (-720 ≤ o) && decide (o ≤ 840)

/-- Entries in index order, or the failing index with status and detail. -/
def readTransitions (p : Bytes) : Nat → Nat → Option Nat → List (Nat × Int) ⊕ (Nat × Nat × Nat)
  | 0, _, _ => .inl []
  | n + 1, i, prev =>
    let e := sub p (8 + 16 * i) 16
    let cal := decCal (sub e 0 8)
    let o := toS 16 (fld e 8 2)
    if !zeroAt e 10 6 ∨ cal.weekday ≠ 0 then .inr (i, stBadParam, dReservedBit)
    else if !validCal cal then .inr (i, stInvalidDate, dNone)
    else if !offsetOk o then .inr (i, stOutOfRange, dNone)
    else
      let t := calSeconds cal
      if (match prev with | some q => decide (t ≤ q) | none => false) then .inr (i, stBadParam, 0x80)
      else match readTransitions p n (i + 1) (some t) with
        | .inl l => .inl ((t, o) :: l)
        | .inr e => .inr e

def localTimeTableLoad (c : LiveCmd) (s : State) : State :=
  let p := c.params
  let n := fld p 2 2
  let bad (i st d : Nat) : State := complete c st d (le 2 i ++ zeros 2) s
  if !offsetOk (toS 16 (fld p 0 2)) then bad 0xFFFF stOutOfRange dNone
  else if 252 < n ∨ p.length ≠ 8 + 16 * n then bad 0xFFFF stBadLength dLengthOpcode
  else if !zeroAt p 4 4 then bad 0xFFFF stBadParam dReservedBit
  else match readTransitions p n 0 none with
    | .inr (i, st, d) => bad i st d
    | .inl l =>
      let s := s.modRtc (fun r => { r with stdOffset := toS 16 (fld p 0 2), transitions := l, shortRecorded := false })
      let s := checkTableShort s
      complete c stOk dNone (le 2 n ++ le 2 (offsetAt s.rtc s.utcSec).2) s

def execLocalTimeTableLoad (sid tag : Nat) (s : State) : Res := .next (runCmd 0x0107 sid tag localTimeTableLoad s)

/-! ### FALLBACK_TABLE_LOAD (R105, R325) -/

/-- The first entry that fails its checks: index, status, detail. -/
def badEntry (p : Bytes) : Nat → Nat → Option (Nat × Nat × Nat)
  | 0, _ => none
  | n + 1, d =>
    let e := fld p (8 + 4 * d) 4
    let o := bits e 10 0
    let cl := bits e 21 11
    let bad (m : Nat) : Bool := 1440 ≤ m && m ≤ 0x7FE
    if 2 ^ 24 ≤ e then some (d, stBadParam, dReservedBit)
    else if bad o || bad cl then some (d, stOutOfRange, dNone)
    else if o ≠ 0x7FF ∧ cl ≠ 0x7FF ∧ cl ≤ o then some (d, stBadParam, 0x80)
    else badEntry p n (d + 1)

def fallbackTableLoad (c : LiveCmd) (s : State) : State :=
  let p := c.params
  let bad (i st d : Nat) : State := complete c st d (le 2 i ++ zeros 2) s
  if fld p 2 2 ≠ 366 then bad 0xFFFF stBadParam 0x81
  else if !zeroAt p 4 4 then bad 0xFFFF stBadParam dReservedBit
  else if !offsetOk (toS 16 (fld p 0 2)) then bad 0xFFFF stOutOfRange dNone
  else match badEntry p 366 0 with
    | some (i, st, d) => bad i st d
    | none =>
      let s := s.modFb (fun f => { f with tableSram := some p, tableVault := some p, tableStore := some p })
      let s := if s.fb.agent = .sequencer then fallbackEval s else s
      complete c stOk dNone (le 4 (crc32c p)) s

def execFallbackTableLoad (sid tag : Nat) (s : State) : Res := .next (runCmd 0x0108 sid tag fallbackTableLoad s)

/-! ### Events -/

/-- R310: one whole second of discipline: at most 8 correction ticks, made one to a crystal cycle. -/
def discipline (s : State) : State :=
  let locked := s.time.state = .locked
  if s.live 0x0112 = 1 ∧ (locked ∨ s.time.slew.isSome) then
    let o := (s.spanNs : Int) - rtcNs s
    let n := roundDiv (o * tickHz) sec
    if o.natAbs * 100 < 1526000 then s
    else if o.natAbs ≤ sec then
      let s := s.modRtc (fun r => { r with correction := max (-8) (min 8 n) })
      if locked then rtcValidate s else s
    else
      if locked then rtcStepValid n 4 s else rtcStep n 4 s.rtc.valid s
  else s

/-- Learning counts whole seconds LOCKED without a step (R310). -/
def learnSecond (s : State) : State :=
  if s.time.state = .locked ∧ s.live 0x0112 = 1 then
    s.modRtc (fun r =>
      if r.learnFor = 0 then { r with learnFor := 1, learnStart := r.ticks, learnTicks := s.spanNs, learnCorr := 0 }
      else { r with learnFor := r.learnFor + 1 })
  else s.modRtc (fun r => { r with learnFor := 0 })

/-- R351: the totals are extended from the abutment's 32-bit counts. -/
def extendPins (s : State) : State :=
  s.modMeter (fun m => { m with pins := m.pins.map (fun p =>
    { p with total := p.total + (p.count + 2 ^ 32 - p.readCount) % 2 ^ 32, readCount := p.count }) })

/-- A whole second of span time begins: `PPS_OUT` rises with it, in safe state too (R286, Table 14.3). -/
def ppsSecond (s : State) : State :=
  s.modTime (fun t => { t with
    lastWhole := stSec t.spanT, ppsOut := s.live 0x010F == 1 && t.state != .free, ppsAt := s.now })

/-- WHOLE_SECOND (R37, R286, R304, R310, R351): the time block's boundary, and those of blocks 6, 9 and 0x0A while the span
is not running; PPS_OUT; the RTC. -/
def wholeSecond (s : State) : State :=
  let s := ppsSecond s
  let s := applyBlock 1 none s
  let s := if s.mac.running then s else applyBlock 0x0A none (applyBlock 9 none (applyBlock 6 none s))
  extendPins (checkTableShort (learnSecond (discipline s)))

/-- LEAP_SECOND (R283, R304, R311): at the end of TIME_LEAP's day, or of the PTP parent's flagged day, U changes. -/
def leapSecond (s : State) : State :=
  let utc : Int := (stSec s.time.spanT : Int) - 946684800 - s.rtc.u
  let ptp := if s.time.selected = 1 then s.time.ptp.parent.filter (·.utcValid) else none
  match ptp with
  | some p =>
    let d : Int := if p.leap61 && utc % 86400 == 0 then 1 else if p.leap59 && utc % 86400 == 86399 then -1 else 0
    if d = 0 then s
    else refreshU (s.modTime (fun t => { t with
      ptp := { t.ptp with parent := some { p with utcOffset := p.utcOffset + d, leap59 := false, leap61 := false } } }))
  | none =>
    let l := s.live 0x0106
    let k := bits l 17 16
    let atEnd : Int := (bits l 15 0 + 1 : Nat) * 86400
    if (k = 1 ∧ atEnd ≤ utc) ∨ (k = 2 ∧ atEnd ≤ utc + 1) then
      let v := ofS 16 (s.liveS 16 0x0105 + (if k = 1 then 1 else -1))
      let s := if k = 1 then s.modTime (fun t => { t with leapAt := some (946684800 + atEnd.toNat) }) else s
      syncShadow (applySetting 0x0106 0 (applySetting 0x0105 v s))
    else s

def execLeapSecond (s : State) : Res := .next (if s.fwUp then leapSecond s else s)

def execRtcAlarmMatch (s : State) : Res := .next (rtcAlarmMatch s)

/-- RTC_TRIM_ACCUMULATE (R307): after 32,768 crystal cycles the accumulator adds 32,768 × T and moves whole ticks. -/
def execRtcTrimAccumulate (s : State) : Res :=
  .next (if 32768 ≤ s.rtc.cycles then s.modRtc (fun r =>
    let a := r.trimAcc + 32768 * (r.trim + r.tempComp)
    let k := if 0 ≤ a then a / 10000000 else -((-a) / 10000000)
    { r with cycles := r.cycles - 32768, trimAcc := a - k * 10000000, trimTicks := r.trimTicks + k })
  else s)

/-- RTC_TEMP_COMPENSATION (R307): every 64 s the sensor's compensation, in 0.1 ppm, is taken. -/
def execRtcTempCompensation (correction : Int) (s : State) : Res :=
  .next (if s.rtc.lastTemp + 64 * sec ≤ s.now then s.modRtc (fun r => { r with tempComp := correction, lastTemp := s.now }) else s)

/-- RTC_TRIM_LEARN (R310): after 1,024 s LOCKED without a step, RTC_TRIM cancels the measured rate error;
the next interval begins where this one ends. -/
def execRtcTrimLearn (s : State) : Res :=
  .next (if 1024 < s.rtc.learnFor ∧ s.time.state = .locked then
    let r := s.rtc
    let ns : Int := (s.spanNs : Int) - r.learnTicks
    let got : Int := (r.ticks : Int) - r.learnStart - r.learnCorr
    let want := ns * tickHz
    let err := roundDiv ((got * sec - want) * 10000000) (max 1 want.toNat)
    let t := max (-2000) (min 2000 (r.trim - err))
    let s := applySetting 0x0111 (ofS 16 t) s
    s.modRtc (fun r => { r with learnFor := 1, learnStart := r.ticks, learnTicks := s.spanNs, learnCorr := 0 })
  else s)

/-- The minute of fixed local time, kept as a number that never goes below 0. -/
def minuteKey (l : Int) : Nat := (l / 60 + 1000000).toNat

/-- A table event of this very minute for a contactor under firmware: a decision that a CONTACTOR action of the cycle
outranks (R137, R328). -/
def firmwareMinute (k : Nat) (tbl : Bytes) (s : State) : State :=
  let l := tableLocal s tbl
  let m := (l % 86400).toNat / 60
  match tableLookup tbl k (l / 86400) m 1 0 with
  | some (_, em, _) =>
    if em = m ∧ !(s.truss.decisions.any (fun d => d.contactor == k && d.cycle == s.spanNs / sec)) then fallbackDrive k s else s
  | none => s

/-- FALLBACK_MINUTE (R328): the agent in control evaluates the table at each minute; firmware applies R327 at once in the
minute that follows the calendar's end (R314). -/
def fallbackMinute (s : State) : State :=
  let key := match fbTable s with | some t => minuteKey (tableLocal s t) | none => minuteKey s.utcSec
  if s.fb.lastMinute = some key ∨ s.fb.backup then s
  else
    let s := s.modFb (fun f => { f with lastMinute := some key })
    match s.fb.agent with
    | .sequencer => fallbackEval s
    | .firmware =>
      if s.rtc.valid && calRange ≤ s.utcSec && s.utcSec < calRange + 60 then fallbackEval s
      else match fbTable s with
      | some t => if rtcOk s then firmwareMinute 1 t (firmwareMinute 0 t s) else s
      | none => s

def execFallbackMinute (s : State) : Res := .next (fallbackMinute s)

/-- FALLBACK_KEEPALIVE_RENEW (R324). -/
def execFallbackKeepaliveRenew (s : State) : Res :=
  .next (if s.fwUp && s.fb.agent == .firmware && s.fb.keepalive.isSome then
    jointSend 0x09 (s.modFb (fun f => { f with keepalive := some (s.now + s.live 0x0113 * ms) })) else s)

/-- FALLBACK_KEEPALIVE_EXPIRY (R324): the sequencer takes control and evaluates. -/
def execFallbackKeepaliveExpiry (s : State) : Res :=
  .next (match s.fb.keepalive with
    | some t => if t ≤ s.now ∧ s.fb.agent = .firmware then seqTakes s else s
    | none => s)

end Sys2Proof.Machine
end

