-- ==== Sys2Proof/Machine/System.lean ====
section
/-! DEFINITION. The system group: ECHO, DEVICE_INFO, RESET, FENCE, settings and SESSION_OPEN (R24 to R37, R92 to R98), and
QUEUE_CONFIG and QUEUE_STATUS (R108). -/

namespace Sys2Proof.Machine

/-! ### ECHO, DEVICE_INFO, RESET, FENCE -/

def echo (c : LiveCmd) (s : State) : State := complete c stOk dNone c.params s

/-- ECHO returns its parameters unchanged (R88). -/
def execEcho (sid tag : Nat) (s : State) : Res := .next (runCmd 0x0001 sid tag echo s)

/-- 0 no twin, 1 lease holder, 2 standby (Table 3.5). -/
def twinRole (s : State) : Nat := if !s.twin.latch then 0 else if s.holder then 1 else 2

/-- Flags of DEVICE_INFO (Table 3.5). -/
def infoFlags (s : State) : Nat := b2n s.keyless + 2 * b2n s.debugEnabled

def bootState (s : State) : Nat := match s.upd.boot.trial with | some (_, n) => n | none => 0

/-- DEVICE_INFO (R3, Table 3.5). -/
def deviceInfo (c : LiveCmd) (s : State) : State :=
  let o := s.otp
  complete c stOk dNone (le 2 0x0D4B ++ [byte o.orderCode, byte o.lifecycle] ++ le 16 o.unitId
    ++ fit 6 (sub (s.upd.slot s.upd.booted).header 12 6) ++ [byte s.upd.booted, byte (bootState s), byte o.antiRollback,
      byte (twinRole s)] ++ le 2 o.stepping ++ le 5 (s.live 0x0400) ++ [byte (infoFlags s)] ++ zeros 2
    ++ le 8 ((s.now - s.boot.resetAt) / ms) ++ zeros 16) s

def execDeviceInfo (sid tag : Nat) (s : State) : Res := .next (runCmd 0x0002 sid tag deviceInfo s)

/-- Why RESET is refused (R92). -/
def resetRefusal (p : Bytes) (role : Nat) : Option (Nat × Nat) :=
  let k := fld p 0 1
  if k = 0 ∨ 3 < k then some (stBadParam, dNone)
  else if !zeroAt p 1 3 then some (stBadParam, dReservedBit)
  else if k = 3 ∧ role < 3 then some (stNotPermitted, dRoleBelow)
  else none

/-- Reset type codes of R531 for the types RESET names: WARM, SYSTEM, RECOVERY. -/
def resetTypeOf (k : Nat) : Nat := if k = 1 then 4 else if k = 2 then 3 else 5

/-- A command whose reset follows its reply's last byte; silenced by QUIET_OK it counts from completion (R92, R464). Only
RESET itself is a session that sent RESET (R531). -/
def awaitReset (c : LiveCmd) (type source : Nat) (s : State) : State :=
  let sid := if source = 3 then c.sid else 0xFF
  if c.flags.testBit flQuiet then s.modHost (fun h => { h with
      resetAt := h.resetAt.orElse (fun _ => some (s.now + 10 * ms, type, source, sid)) })
  else s.modHost (fun h => { h with resetWait := h.resetWait ++ [(type, source, sid, c.seq)] })

/-- RESET (R92): the OK reply, then the reset 10 ms after its last byte. -/
def resetCmd (c : LiveCmd) (s : State) : State :=
  match resetRefusal c.params c.role with
  | some (st, d) => fail c st d s
  | none =>
    complete c stOk dNone [] (awaitReset c (resetTypeOf (fld c.params 0 1)) 3 s)

def execReset (sid tag : Nat) (s : State) : Res := .next (runCmd 0x0003 sid tag resetCmd s)

/-- FENCE (R75, R93): it has begun, so every earlier command in its scope has completed. -/
def fence (c : LiveCmd) (s : State) : State :=
  let k := fld c.params 0 1
  if k ≠ 1 ∧ k ≠ 2 then fail c stBadParam dNone s
  else if !zeroAt c.params 1 3 then fail c stBadParam dReservedBit s
  else complete c stOk dNone [] s

def execFence (sid tag : Nat) (s : State) : Res := .next (runCmd 0x0004 sid tag fence s)

/-! ### Settings -/

/-- Table 1.10: when a block counts as running. -/
def blockRunning (s : State) (block : Nat) : Bool :=
  if block = 1 then s.time.selected != 0
  else if block = 3 ∨ block = 4 then s.mac.running
  else if block = 5 then s.lamp.ldEn
  else if block = 6 then s.meter.active
  else if block = 7 then s.upd.session.isSome
  else if block = 8 then s.otp.lifecycle == lcField
  else if block = 0x0A then s.twin.link == .up
  else if block = 0x0B then s.bist.sliceRunning
  else if block = 0x0C then s.host.sessions.any Option.isSome
  else true

/-- The checks of one entry (R25 step 3): status and detail of the first that fails. -/
def entryCheck (s : State) (role id v : Nat) : Option (Nat × Nat) :=
  match settingInfo id with
  | none => some (stBadParam, dNone)
  | some r =>
    if role < blockRole (blockOf id) then some (stNotPermitted, dRoleBelow)
    else if r.cls == .l && blockRunning s (blockOf id) then some (stLocked, dNone)
    else if 2 ^ r.width ≤ v then some (stOutOfRange, dNone)
    else if r.reserved.any (fun b => bits v b.1 b.2 != 0) then some (stBadParam, dReservedBit)
    else if r.fields.any (fun f => !f.2.2.ok (bits v f.1 f.2.1)) then some (stOutOfRange, dNone)
    else if 0x0941 ≤ id && id ≤ 0x0958 && v != 0 && !ucSources.contains (id - 0x0940) then some (stBadParam, dNone)
    else none

/-- The first refused entry: index, status, detail. -/
def firstBad (s : State) (role : Nat) : Nat → List (Nat × Nat) → Option (Nat × Nat × Nat)
  | _, [] => none
  | i, e :: l => match entryCheck s role e.1 e.2 with
    | some r => some (i, r)
    | none => firstBad s role (i + 1) l

/-- The bounds between settings (R561): the first entry of the command that breaks one. -/
def boundBroken (s : State) (es : List (Nat × Nat)) : Option Nat :=
  let val (id : Nat) : Nat := match es.find? (fun e => e.1 == id) with | some e => e.2 | none => s.shadow id
  let named (id : Nat) : Bool := es.any (fun e => e.1 == id)
  let idx (id : Nat) : Nat := es.findIdx (fun e => e.1 == id)
  let broken (b : Nat × Nat × Bool) : Bool := (named b.1 || named b.2.1) &&
    (if b.2.2 then Nat.blt (val b.2.1) (val b.1) else Nat.ble (val b.2.1) (val b.1))
  ((settingBounds.filter broken).map (fun b => if named b.1 then idx b.1 else idx b.2.1)).min?

/-- R25: the refused entry of a write, with status and detail. -/
def writeRefusal (s : State) (role : Nat) (es : List (Nat × Nat)) : Option (Nat × Nat × Nat) :=
  match firstBad s role 0 es with
  | some r => some r
  | none => (boundBroken s es).map (fun i => (i, stOutOfRange, dNone))

/-- One entry is written: to the shadow of an S setting, else at once (R24, R26). -/
def writeOne (id v : Nat) (s : State) : State :=
  match settingInfo id with
  | some r =>
    if r.cls = .s then syncShadow (s.modSet (fun x => { x with shadow := put x.shadow id v })) else applySetting id v s
  | none => s

def writeSettings (es : List (Nat × Nat)) (s : State) : State := es.foldl (fun s e => writeOne e.1 e.2 s) s

/-- A refusal of LOCKED is also a CE of source SETTING_LOCKED (R24). -/
def noteLocked (st : Nat) (s : State) : State := if st = stLocked then raiseCE srcSettingLocked [] s else s

/-- Count, length, duplicates and reserved fields of Table 3.7: the reply of a failure names an entry where there is one;
what it names otherwise the spec does not state. Of an ID that stands twice the second is the refused entry: DESIGN CHOICE (log
entry 107). -/
def listRefusal (p : Bytes) (unit : Nat) : Option (Nat × Nat × Bytes) :=
  let n := fld p 0 2
  let ids := (List.range n).map (fun i => fld p (4 + unit * i) 2)
  let none_ := le 4 (Config.unstated 1 n)
  let entry (i : Nat) : Bytes := le 2 i ++ le 2 (ids.getD i 0)
  if n = 0 ∨ 64 < n then some (stBadParam, 0x80, none_)
  else if p.length ≠ 4 + unit * n then some (stBadLength, dLengthOpcode, none_)
  else match (List.range n).find? (fun i => (ids.take i).contains (ids.getD i 0)) with
    | some i => some (stBadParam, 0x80, entry i)
    | none =>
      if !zeroAt p 2 2 then some (stBadParam, dReservedBit, none_)
      else ((List.range n).find? (fun i => !zeroAt p (6 + unit * i) 2)).map (fun i => (stBadParam, dReservedBit, entry i))

def classCode (c : SetClass) : Nat := match c with | .s => 1 | .l => 2 | .i => 3

/-- One entry of the SETTING_READ reply (R33, Table 3.7). -/
def readEntry (s : State) (shadow : Bool) (id : Nat) (r : SettingInfo) : Bytes :=
  let sh := shadow && r.cls == .s
  let pend := match pendOf s (blockOf id) with | some p => p.entries.any (fun e => e.1 == id) | none => false
  le 2 id ++ [byte (classCode r.cls), byte r.width, byte (b2n sh + 2 * b2n pend)] ++ zeros 3
    ++ le 8 (if sh then s.shadow id else s.live id)

/-- SETTING_READ (R33, R96). -/
def settingRead (c : LiveCmd) (s : State) : State :=
  let p := c.params
  match listRefusal p 4 with
  | some (st, d, r) => complete c st d r s
  | none =>
    let n := fld p 0 2
    let ids := (List.range n).map (fun i => fld p (4 + 4 * i) 2)
    match (List.range n).find? (fun i => (settingInfo (ids.getD i 0)).isNone) with
    | some i => complete c stBadParam dNone (le 2 i ++ le 2 (ids.getD i 0)) s
    | none => complete c stOk dNone (le 2 n ++ zeros 2 ++ ids.flatMap (fun id =>
        match settingInfo id with | some r => readEntry s (c.flags.testBit flShadow) id r | none => [])) s

def execSettingRead (sid tag : Nat) (s : State) : Res := .next (runCmd 0x0005 sid tag settingRead s)

def writeEntries (p : Bytes) : List (Nat × Nat) :=
  (List.range (fld p 0 2)).map (fun i => (fld p (4 + 12 * i) 2, fld p (8 + 12 * i) 8))

/-- SETTING_WRITE (R24, R25, R34, R96). -/
def settingWrite (c : LiveCmd) (s : State) : State :=
  let p := c.params
  match listRefusal p 12 with
  | some (st, d, r) => complete c st d r s
  | none =>
    let es := writeEntries p
    if s.standby ∧ !(es.all (fun e => blockOf e.1 == 0x0A)) then
      complete c stNotLeaseHolder dNone (le 4 (Config.unstated 1 es.length)) s
    else match writeRefusal s c.role es with
      | some (i, st, d) => complete c st d (le 2 i ++ le 2 (es.getD i (0, 0)).1) (noteLocked st s)
      | none => complete c stOk dNone (le 2 es.length ++ zeros 2) (writeSettings es s)

def execSettingWrite (sid tag : Nat) (s : State) : Res := .next (runCmd 0x0006 sid tag settingWrite s)

/-- The snapshot of a block: its shadows that differ from their live values (R27). -/
def snapshot (s : State) (block : Nat) : List (Nat × Nat) :=
  s.set.shadow.filter (fun e => blockOf e.1 == block && e.2 != s.live e.1)

/-- SETTING_COMMIT of a block for a command (R27, R28, R97). -/
def commitBlock (c : LiveCmd) (block : Nat) (s : State) : State :=
  let es := snapshot s block
  let s := waitFor c (.commit block) [] s
  let s := syncShadow (s.modSet (fun x => { x with pend := x.pend.filter (fun q => q.block != block) }))
  if es = [] then commitDone block (commitReply 0 0 0 none) (if block = 6 then clearPouts s else s)
  else if blockRunning s block then
    s.modSet (fun x => { x with pend := x.pend ++ [{ block := block, entries := es, count := es.length }] })
  else
    let s := es.foldl (fun s e => applySetting e.1 e.2 s) s
    let s := syncShadow (if block = 6 then clearPouts s else s)
    commitDone block (commitReply 3 es.length 0 (some s.time.spanT)) s

/-- SETTING_COMMIT (R29, R34, R97). -/
def settingCommit (c : LiveCmd) (s : State) : State :=
  let b := fld c.params 0 1
  if b = 0 ∨ 0x0C < b then fail c stBadParam dNone s
  else if !zeroAt c.params 1 3 then fail c stBadParam dReservedBit s
  else if s.standby ∧ b ≠ 0x0A then fail c stNotLeaseHolder dNone s
  else if c.role < blockRole b then fail c stNotPermitted dRoleBelow s
  else commitBlock c b s

def execSettingCommit (sid tag : Nat) (s : State) : Res := .next (runCmd 0x0007 sid tag settingCommit s)

/-- Writes settings and commits a block for an opcode that does both (R106, R108, R119, R123). -/
def writeAndCommit (c : LiveCmd) (es : List (Nat × Nat)) (block : Nat) (s : State) : State :=
  match writeRefusal s c.role es with
  | some (_, st, d) => fail c st d (noteLocked st s)
  | none => commitBlock c block (writeSettings es s)

/-! ### SESSION_OPEN (R43 to R48, R98, R473) -/

def baudOf (code : Nat) : Nat := [115200, 230400, 460800, 921600, 1500000, 2000000, 3000000].getD code 115200

/-- The host authentication key slot of a role (Table 15.2). -/
def roleSlot (role : Nat) : Nat := 4095 + role

/-- Session numbers an outstanding challenge reserves for other transports (R98). -/
def reservedSids (s : State) (t : Transport) : List Nat :=
  (s.host.chals.filter (fun q => q.transport != t)).map (·.sid)

/-- A free session number for a transport: its own session's number may be taken again (R43, R98). Of several the lowest is taken.
Mark: DESIGN CHOICE (log entry 156). -/
def freeSid (s : State) (t : Transport) : Option Nat :=
  [0, 1, 2, 3].find? (fun n => !(reservedSids s t).contains n &&
    (match s.session n with | none => true | some x => t != .eth && x.transport == t))

def newSession (t : Transport) (role : Nat) (keylessProc : Bool) : Session :=
  { transport := t, role := role, keylessProc := keylessProc, credits := 512, owed := 0, owedSince := 0, statuses := [],
    replies := [], refusals := [], notices := [], creditViolations := 0, noticesLost := 0, backlog := false,
    backlogSince := 0, holdRecorded := false, chan := none }

/-- The session of a transport. -/
def sidOf (s : State) (t : Transport) : Option Nat :=
  [0, 1, 2, 3].find? (fun n => match s.session n with | some x => x.transport == t | none => false)

/-- A SESSION_OPEN closes its transport's session first. On HUART the reply still goes at the old rate, and 2 ms after it
the rate of the closed session gives way (R47, R64). -/
def closeTransport (t : Transport) (s : State) : State :=
  match sidOf s t with
  | some n =>
    let old := s.host.huartBaud
    let s := closeSession n s
    if t = .huart then s.modHost (fun h => { h with huartBaud := old, baudNext := some (0, none) }) else s
  | none => s

/-- Grants session `n`: the transport's old session closes first; the reply holds the credits, the rate follows it. -/
def grantSession (c : LiveCmd) (n role baud : Nat) (keylessProc : Bool) (s : State) : State :=
  let s := closeTransport c.transport s
  let s := s.modHost (fun h => { h with
    sessions := modAt h.sessions n (fun _ => some (newSession c.transport role keylessProc)),
    chals := h.chals.filter (fun q => q.transport != c.transport),
    baudNext := if c.transport = .huart then some (baud, none) else h.baudNext,
    win := if c.transport = .hspi then { h.win with causeCredits := true } else h.win })
  complete { c with sid := 4 } stOk dNone ([byte n, 1] ++ le 2 512 ++ zeros 16) s

/-- Answers SESSION_OPEN on its transport; a session already open there stays when the command is refused. -/
def refuseOpen (c : LiveCmd) (st d : Nat) (s : State) : State := fail c st d s

/-- Phase 1 (R98). -/
def openPhase1 (c : LiveCmd) (role baud : Nat) (s : State) : State :=
  match freeSid s c.transport with
  | none => refuseOpen c stBusy dNone s
  | some n =>
    if role = 1 then grantSession c n 1 baud false s
    else if role = 4 then
      if c.transport = .dbg ∧ (s.otp.lifecycle = lcTest ∨ s.otp.lifecycle = lcReturn) then grantSession c n 4 baud false s
      else refuseOpen c stNotPermitted dLifecycle s
    else if role = 3 ∧ s.otp.lifecycle = lcScrapped then refuseOpen c stNotPermitted dLifecycle s
    else if s.keyless then
      if role = 3 then grantSession c n 3 baud true s else refuseOpen c stKeyless dNone s
    else if !s.occupied (roleSlot role) then refuseOpen c stNotPermitted 0x83 s
    else
      let nonce := s.rnd 16
      let s := closeTransport c.transport s.draw
      let s := s.modHost (fun h => { h with
        chals := h.chals.filter (fun q => q.transport != c.transport) ++
          [{ transport := c.transport, sid := n, role := role, nonce := nonce, issued := s.now, stale := false }] })
      complete { c with sid := 4 } stOk dNone ([byte n, 2] ++ le 2 0 ++ nonce) s

/-- Phase 2 (R46, R98) with the challenge it has consumed: it serves within 5 s. -/
def openPhase2 (c : LiveCmd) (role baud : Nat) (q : Option OpenChal) (s : State) : State :=
  match q with
  | none => noteAuth 0x0009 0xFF (refuseOpen c stAuthFailed 0x80 s)
  | some q =>
    if q.issued + 5 * sec < s.now ∨ q.role ≠ role ∨ q.stale then noteAuth 0x0009 q.sid (refuseOpen c stAuthFailed 0x80 s)
    else match s.slotRec (roleSlot role) with
      | none => noteAuth 0x0009 q.sid (refuseOpen c stAuthFailed 0x80 s)
      | some r =>
        let s := useKey (roleSlot role) s
        if cmac r.key (q.nonce ++ le 16 s.otp.unitId ++ [byte role, byte q.sid]) = sub c.params 4 16 then
          grantSession c q.sid role baud false s
        else noteAuth 0x0009 q.sid (refuseOpen c stAuthFailed dNone s)

/-- SESSION_OPEN (R44, R98): a phase 2 consumes its transport's challenge, whatever check it fails. -/
def sessionOpen (c : LiveCmd) (s : State) : State :=
  let p := c.params
  let phase := fld p 0 1
  let role := fld p 1 1
  let baud := fld p 2 1
  let q := s.host.chals.find? (fun q => q.transport == c.transport)
  let s := if phase = 2 then s.modHost (fun h => { h with chals := h.chals.filter (fun q => q.transport != c.transport) }) else s
  if c.transport = .eth then refuseOpen c stNotPermitted dNone s
  else if phase ≠ 1 ∧ phase ≠ 2 then refuseOpen c stBadParam 0x81 s
  else if !zeroAt p 3 1 ∨ (phase = 1 ∧ !zeroAt p 4 16) then refuseOpen c stBadParam dReservedBit s
  else if role = 0 ∨ 4 < role then refuseOpen c stBadParam dRoleValue s
  else if 6 < baud ∨ (c.transport ≠ .huart ∧ baud ≠ 0) then refuseOpen c stBadParam 0x82 s
  else if phase = 1 then openPhase1 c role baud s
  else openPhase2 c role baud q s

def execSessionOpen (sid tag : Nat) (s : State) : Res := .next (runCmd 0x0009 sid tag sessionOpen s)

/-! ### The queue group (R108, R423) -/

def queueConfig (c : LiveCmd) (s : State) : State :=
  let p := c.params
  let q := fld p 0 1
  let n := fld p 1 1
  let hi := fld p 2 1
  let lo := fld p 3 1
  let spill := fld p 4 2
  if !zeroAt p 6 2 then fail c stBadParam dReservedBit s
  else if !((q = 1 ∧ n = 0xFF) ∨ (q = 2 ∧ n ≤ 3)) then fail c stBadParam dNone s
  else if q = 2 ∧ spill ≠ 256 then fail c stOutOfRange dNone s
  else if q = 1 then writeAndCommit c [(0x0C00, hi), (0x0C01, lo), (0x0C02, spill)] 0x0C s
  else writeAndCommit c [(0x0C10 + n, hi), (0x0C14 + n, lo)] 0x0C s

def execQueueConfig (sid tag : Nat) (s : State) : Res := .next (runCmd 0x0C01 sid tag queueConfig s)

/-- One session of QUEUE_STATUS (Table 3.20). -/
def queueEntry (s : State) (n : Nat) : Bytes :=
  match s.session n with
  | some x =>
    [2, byte (transportCode x.transport)] ++ le 2 (min x.credits 65535)
      ++ le 2 (s.host.live.filter (fun c => c.sid == n && !c.orphan)).length ++ le 2 (replyFill s.host n)
      ++ le 2 x.notices.length ++ le 2 x.creditViolations ++ le 2 x.noticesLost ++ zeros 2
  | none =>
    match s.host.chals.find? (fun q => q.sid == n) with
    | some q => [1, byte (transportCode q.transport)] ++ zeros 14
    | none => zeros 16

/-- QUEUE_STATUS (Table 3.20); the peak counts from the previous one. -/
def queueStatus (c : LiveCmd) (s : State) : State :=
  let r := le 2 s.host.intake.length ++ le 2 s.host.inboundPeak ++ [byte (b2n s.hostFlow)] ++ zeros 3
    ++ [0, 1, 2, 3].flatMap (queueEntry s)
  complete c stOk dNone r (s.modHost (fun h => { h with inboundPeak := h.intake.length }))

def execQueueStatus (sid tag : Nat) (s : State) : Res := .next (runCmd 0x0C02 sid tag queueStatus s)

end Sys2Proof.Machine
end

