-- ==== Sys2Proof/Machine/Faults.lean ====
section
/-! DEFINITION. Fault collection, watchdogs and the event recorder (chapter 14, R114 to R118). -/

namespace Sys2Proof.Machine

/-! ### The fault group -/

/-- Microseconds from now to an instant. -/
def usTo (s : State) (at_ : Nat) : Nat := min ((at_ - s.now) / us) 0xFFFFFFFE

/-- Inserts an entry by deadline, equal deadlines in order of addition. -/
def insertByDeadline (e : UcEntry) : List UcEntry → List UcEntry
  | [] => [e]
  | x :: l => if e.deadline < x.deadline ∨ (e.deadline = x.deadline ∧ e.order < x.order) then e :: x :: l
    else x :: insertByDeadline e l

/-- Pending entries by deadline (FAULT_STATUS). -/
def pendingSorted (s : State) : List UcEntry := s.par.pending.foldl (fun l e => insertByDeadline e l) []

/-- Table 3.23. -/
def faultStatus (c : LiveCmd) (s : State) : State :=
  let es := pendingSorted s
  let next := match es with | [] => 0xFFFFFFFF | e :: _ => usTo s e.deadline
  complete c stOk dNone ([byte es.length] ++ zeros 3 ++ le 4 s.par.ceCount ++ le 4 s.par.ucCount ++ le 4 next
    ++ es.flatMap (fun e => le 2 e.source ++ le 2 e.merged ++ le 4 (usTo s e.deadline) ++ le 4 e.cycle
      ++ le 2 (faultCode e.source) ++ zeros 2)) s

/-- FAULT_STATUS (R88, Table 3.23). -/
def execFaultStatus (sid tag : Nat) (s : State) : Res := .next (runCmd 0x0901 sid tag faultStatus s)

def ackReply (c : LiveCmd) (s : State) : State :=
  if s.par.safe then s else complete c stOk dNone ([byte s.par.pending.length] ++ zeros 3) s

/-- R114; an acknowledgement at its deadline escalates, and safe state answers no command (R435). -/
def faultAck (c : LiveCmd) (s : State) : State :=
  let src := fld c.params 0 2
  if !zeroAt c.params 2 2 then fail c stBadParam dReservedBit s
  else if src = 0xFFFF then ackReply c ((pendingSorted s).foldl (fun s e => ackFault e.source s) s)
  else if s.par.pending.any (fun e => e.source == src) then ackReply c (ackFault src s)
  else fail c stBadParam 0x80 s

/-- FAULT_ACK (R114, R435). -/
def execFaultAck (sid tag : Nat) (s : State) : Res := .next (runCmd 0x0902 sid tag faultAck s)

/-! ### The event group -/

/-- Every record held, in index order (R448, R452). -/
def Parapet.records (p : Parapet) : List EventRec := p.flashRing ++ p.staged ++ p.volatileBuf

/-- The oldest retained index (R452). -/
def Parapet.oldest (p : Parapet) : Nat := p.nextIndex - p.records.length

/-- EVENT_READ (R115, R452). -/
def eventRead (c : LiveCmd) (s : State) : State :=
  let p := c.params
  let n := fld p 4 1
  if n = 0 ∨ 126 < n then fail c stBadParam 0x80 s
  else
    let sel (r : EventRec) : Bool :=
      fld p 0 4 ≤ r.index && fld p 5 1 ≤ r.severity && (fld p 6 2 == 0xFFFF || fld p 6 2 == r.code)
    let rs := (s.par.records.filter sel).take n
    let first := match rs with | r :: _ => r.index | [] => s.par.nextIndex
    complete c stOk dNone (le 4 first ++ le 4 s.par.oldest ++ le 4 s.par.nextIndex ++ le 2 rs.length ++ zeros 2
      ++ rs.flatMap recBytes) s

def execEventRead (sid tag : Nat) (s : State) : Res := .next (runCmd 0x0903 sid tag eventRead s)

/-- Phase 1 of EVENT_CLEAR: the challenge and the next index (R116). -/
def clearPhase1 (c : LiveCmd) (s : State) : State :=
  let nonce := s.rnd 16
  let n := s.par.nextIndex
  let s := s.draw.modHost (fun h => { h with
    clearChals := h.clearChals.filter (fun q => q.sid != c.sid) ++ [{ sid := c.sid, nonce := nonce, n := n, issued := s.now }] })
  complete c stOk dNone (nonce ++ le 4 n) s

/-- The key and signature of phase 2 (R116): the digest in slot 4,100 names the authority. -/
def clearAuthentic (q : SidChal) (p : Bytes) (s : State) : Bool :=
  match s.slotRec 4100 with
  | none => false
  | some r => sha256 (sub p 8 64) == r.key &&
      ecdsaOk (sub p 8 64) (sub p 72 64) (ascii "DORUA-EVENT-CLEAR" ++ le 16 s.otp.unitId ++ q.nonce ++ le 4 q.n)

/-- R116: all three tiers go; EVENT_LOG_CLEARED takes index 0. -/
def clearLog (q : SidChal) (c : LiveCmd) (s : State) : State :=
  let next := s.par.nextIndex
  let payload := le 4 q.n ++ le 4 next ++ [byte c.sid, byte c.role] ++ (sha256 (sub c.params 8 64)).take 4
  let s := s.modPar (fun p => { p with
    volatileBuf := [], staged := [], stagedAt := [], flashRing := [], nextIndex := 0, mramNext := 0, dropped := 0, erasing := true })
  complete c stOk dNone (le 4 next) (ev evEventLogCleared payload s)

def clearPhase2 (c : LiveCmd) (s : State) : State :=
  let q := s.host.clearChals.find? (fun q => q.sid == c.sid)
  let s := s.modHost (fun h => { h with clearChals := h.clearChals.filter (fun q => q.sid != c.sid) })
  match q with
  | none => noteAuth 0x0904 c.sid (fail c stAuthFailed 0x80 s)
  | some q =>
    if q.issued + 60 * sec < s.now ∨ q.n ≠ fld c.params 4 4 ∨ clearAuthentic q c.params s = false then
      noteAuth 0x0904 c.sid (fail c stAuthFailed 0x80 s)
    else clearLog q c s

def eventClear (c : LiveCmd) (s : State) : State :=
  let p := c.params
  if fld p 0 1 ≠ 1 ∧ fld p 0 1 ≠ 2 then fail c stBadParam dNone s
  else if p.length ≠ (if fld p 0 1 = 1 then 4 else 136) then fail c stBadLength dLengthOpcode s
  else if !zeroAt p 1 3 then fail c stBadParam dReservedBit s
  else if fld p 0 1 = 1 then clearPhase1 c s
  else clearPhase2 c s

/-- EVENT_CLEAR (R116, R452). -/
def execEventClear (sid tag : Nat) (s : State) : Res := .next (runCmd 0x0904 sid tag eventClear s)

/-- A bucket takes a new limit and refills to its burst (R447). -/
def setBucket (burst refill now : Nat) (b : Bucket) : Bucket :=
  { b with burst := burst, refill := refill, tokens := burst, since := now }

/-- R117, R447: the limit of one code, or of every code that is not exempt. -/
def setRate (code burst refill : Nat) (s : State) : State :=
  if code = 0xFFFF then
    s.modPar (fun p => { p with
      defaultBurst := burst, defaultRefill := refill,
      buckets := p.buckets.map (fun b => (b.1, setBucket burst refill s.now b.2)) })
  else s.modPar (fun p => { p with buckets := put p.buckets code (setBucket burst refill s.now (bucketOf p code)) })

/-- EVENT_RATE_SET (R117). -/
def eventRateSet (c : LiveCmd) (s : State) : State :=
  let p := c.params
  let code := fld p 0 2
  let burst := fld p 2 1
  let refill := fld p 4 4
  if !zeroAt p 3 1 ∨ (refill = 0 ∧ burst ≠ 0) then fail c stBadParam dReservedBit s
  else if rateExempt code then fail c stBadParam 0x80 s
  else if refill = 0 then complete c stOk dNone [] (setRate code 8 10000 s)
  else if burst = 0 ∨ refill < 100 ∨ 86400000 < refill then fail c stOutOfRange dNone s
  else complete c stOk dNone [] (setRate code burst refill s)

def execEventRateSet (sid tag : Nat) (s : State) : Res := .next (runCmd 0x0905 sid tag eventRateSet s)

/-- Why FAULT_INJECT is refused, in the order R118 gives. -/
def injectRefusal (p : Bytes) : Option (Nat × Nat) :=
  let src := fld p 0 2
  let cls := fld p 2 1
  if src = 0 ∨ 0x18 < src then some (stBadParam, 0x81)
  else if cls = 0 ∨ 3 < cls then some (stBadParam, dNone)
  else if !canRaise src cls then some (stBadParam, 0x80)
  else if fld p 3 1 = 0 ∨ 60000 < fld p 4 4 then some (stOutOfRange, dNone)
  else none

/-- FAULT_INJECT (R118): the first after the delay, each further one 1 ms later. -/
def faultInject (c : LiveCmd) (s : State) : State :=
  let p := c.params
  match injectRefusal p with
  | some (st, d) => fail c st d s
  | none =>
    let l := (List.range (fld p 3 1)).map (fun k : Nat =>
      ({ source := fld p 0 2, cls := fld p 2 1, at_ := s.now + (fld p 4 4 + k) * ms } : Injection))
    complete c stOk dNone [] (s.modPar (fun q => { q with injections := q.injections ++ l }))

def execFaultInject (sid tag : Nat) (s : State) : Res := .next (runCmd 0x0906 sid tag faultInject s)

/-! ### Raising and clearing faults -/

/-- The DECK is out of reset: the parapet works. -/
def State.deckUp (s : State) : Bool := s.boot.phase == .firmware || s.boot.phase == .recovery

/-- What a fault names is kept with its pending entry. -/
def noteInfo (source : Nat) (info : Bytes) (s : State) : State :=
  s.modPar (fun p => { p with
    pending := p.pending.map (fun e => if e.source = source then { e with infos := e.infos ++ [info] } else e) })

/-- A detected fault takes its class's path. KEYSTONE_MISUSE clears the keystone; an UC of a main SRAM bank queues the bank
for test (payload byte 0 of the operand names it); a command that INTERNAL_ERROR concerns, or whose operation KEYSTONE_MISUSE names
(session and tag in the operand's first two bytes), completes with INTERNAL (Table 14.1, R455). -/
def detectFault (source cls : Nat) (info : Bytes) (s : State) : State :=
  let s := raiseFault source cls [] s
  let s := if cls = clsUC then noteInfo source info s else s
  let s := if source = srcKeystoneMisuse then s.modSec (fun k => { k with keystone := none }) else s
  if source = srcMainSram ∧ cls = clsUC ∧ info ≠ [] then
    s.modBist (fun b => { b with queued := insertSet b.queued (fld info 0 1 % 32) })
  else if (source = srcInternalError ∨ source = srcKeystoneMisuse) ∧ info.length = 2 ∧ s.fwUp then
    match s.cmd (fld info 0 1) (fld info 1 1) with
    | some c => if c.begun then fail c stInternal dNone s else s
    | none => s
  else s

/-- FAULT_RAISED (R430 to R438). -/
def execFaultRaised (source cls : Nat) (payload : Bytes) (s : State) : Res :=
  .next (if s.deckUp && canRaise source cls then detectFault source cls payload s else s)

/-- FAULT_INJECTION (R118): the earliest injection that is due takes the real path. -/
def execFaultInjection (s : State) : Res :=
  .next (match s.par.injections.find? (fun i => i.at_ ≤ s.now) with
    | none => s
    | some i => detectFault i.source i.cls [] (s.modPar (fun p => { p with injections := p.injections.erase i })))

/-- UC_ESCALATION (R435): the earliest deadline has passed with its entry pending. -/
def execUcEscalation (s : State) : Res :=
  .next (match pendingSorted s with
    | e :: _ => if e.deadline ≤ s.now ∧ !s.par.safe then escalate e.source s else s
    | [] => s)

/-! ### Watchdogs (R440) -/

/-- The timeout of a watchdog: cores 0 and 1 APP, 2 MAC, 3 security. -/
def wdtTimeout (s : State) (core : Nat) : Nat := (if core = 2 then s.live 0x0905 else s.live 0x0904) * ms

def rearmWatchdog (core : Nat) (s : State) : State :=
  s.modPar (fun p => { p with watchdogs := modAt p.watchdogs core (fun w => { w with left := wdtTimeout s core }) })

/-- A watchdog counts while its core executes: firmware runs, the cores do not wait for an interrupt (IDLE, NAP, SLUMBER),
DBG does not hold them (R440). -/
def wdtCounts (s : State) : Bool := s.fwUp && s.pwr.state == .run && !s.bist.coresHalted

/-- WATCHDOG_EXPIRY (R440). -/
def execWatchdogExpiry (core : Nat) (s : State) : Res :=
  .next (match s.par.watchdogs[core]? with
    | none => s
    | some w =>
      if wdtCounts s && w.left == 0 then
        rearmWatchdog core (detectFault (srcApp0Wdt + core) (if core = 3 then clsFT else clsUC) [] s)
      else s)

/-- WATCHDOG_RENEWAL (R440). -/
def execWatchdogRenewal (core : Nat) (s : State) : Res := .next (if s.fwUp then rearmWatchdog core s else s)

/-! ### The recorder's tiers (R447 to R452) -/

/-- Batches of staged records without their first `n` records. -/
def dropStaged : Nat → List (Nat × Nat) → List (Nat × Nat)
  | _, [] => []
  | n, (t, k) :: l => if k ≤ n then dropStaged (n - k) l else (t, k - n) :: l

/-- 60 s have passed since the oldest uncopied record was staged (R450). -/
def stagedLong (s : State) : Bool := match s.par.stagedAt with | (t, _) :: _ => decide (t + 60 * sec ≤ s.now) | [] => false

/-- Copying a page: up to 128 staged records; the ring erases its oldest sector of 2,048 to make room (R450). -/
def copyPage (s : State) : State :=
  let full := 8192 ≤ s.par.staged.length
  let s := s.modPar (fun p =>
    let page := p.staged.take 128
    let ring := if 262144 < p.flashRing.length + page.length then p.flashRing.drop 2048 else p.flashRing
    { p with flashRing := ring ++ page, staged := p.staged.drop 128, stagedAt := dropStaged 128 p.stagedAt })
  if full then s.modPar (stageAll s.now) else s

/-- EVENT_PAGE_COPY (R450): 128 uncopied records, or 60 s after the oldest was staged. -/
def execEventPageCopy (s : State) : Res :=
  .next (if s.fwUp ∧ (128 ≤ s.par.staged.length ∨ stagedLong s) then copyPage s
    else s)

/-- EVENT_LOG_ERASE_DONE (R452). -/
def execEventLogEraseDone (s : State) : Res := .next (s.modPar (fun p => { p with erasing := false }))

/-- RATE_BUCKET_REFILL (R447). -/
def execRateBucketRefill (code : Nat) (s : State) : Res :=
  .next (match get? s.par.buckets code with
    | none => s
    | some b => s.modPar (fun p => { p with buckets := put p.buckets code (refilled s.now b) }))

end Sys2Proof.Machine
end

