-- ==== Sys2Proof/Machine/Keys.lean ====
section
/-! DEFINITION. Keys, life cycle and tamper: the security group and its events (R109 to R113, R455 to R476). -/

namespace Sys2Proof.Machine

/-! ### KEY_LOAD (R109, R458, R473) -/

/-- The parameters of KEY_LOAD (Table 3.21). -/
structure KeyLoad where
  slot : Nat
  attr : Nat
  method : Nat
  flags : Nat
  kek : Nat
  iv : Bytes
  pub : Bytes
  len : Nat
  cipher : Bytes
  tag : Bytes

def decKeyLoad (p : Bytes) : KeyLoad :=
  { slot := fld p 0 2, attr := fld p 4 4, method := fld p 8 1, flags := fld p 9 1, kek := fld p 10 2, iv := sub p 12 12,
    pub := sub p 24 64, len := fld p 88 1, cipher := sub p 92 32, tag := sub p 124 16 }

/-- Reserved fields of Table 3.21. -/
def keyLoadReserved (p : Bytes) : Bool :=
  let k := decKeyLoad p
  zeroAt p 2 2 && k.flags ≤ 1 && bits k.attr 31 28 == 0 && zeroAt p 89 3 && (k.method == 1 || k.kek == 0)
    && (k.method == 2 || zeroAt p 24 64)

/-- The attribute word and length a slot wants (R458). -/
def attrMatches (k : KeyLoad) : Bool :=
  match slotSpec k.slot with
  | none => false
  | some (purpose, alg, len) => bits k.attr 23 16 == purpose && bits k.attr 27 24 == alg && k.len == len

/-- Opened by the keyless procedure. -/
def onKeylessSession (c : LiveCmd) (s : State) : Bool := match s.session c.sid with | some x => x.keylessProc | none => false

/-- A trial boot is open (R461). -/
def State.inTrial (s : State) : Bool := s.upd.boot.trial.isSome

/-- Why KEY_LOAD is refused before any key is used. That BUSY is answered before the reserved fields are tested is a DESIGN
CHOICE (log entry 103). -/
def keyLoadRefusal (c : LiveCmd) (s : State) : Option (Nat × Nat) :=
  let k := decKeyLoad c.params
  if s.otp.lifecycle = lcScrapped then some (stNotPermitted, dLifecycle)
  else if s.inTrial then some (stBusy, 0x84)
  else if !keyLoadReserved c.params then some (stBadParam, dReservedBit)
  else if 4351 < k.slot ∨ (k.method ≠ 1 ∧ k.method ≠ 2) then some (stBadParam, dNone)
  else if (slotSpec k.slot).isNone then some (stBadParam, 0x83)
  else if !attrMatches k then some (stBadParam, 0x81)
  else if s.keyless ∧ k.method = 1 then some (stKeyless, dNone)
  else if onKeylessSession c s ∧ k.slot < 4096 then some (stKeyless, dNone)
  else if s.occupied k.slot ∧ k.flags = 0 then some (stBusy, 0x80)
  else none

/-- The key-encryption key of method UNIT_ECDH (R109). -/
def ecdhKek (k : KeyLoad) (s : State) : Option Bytes :=
  match unitKa s with
  | none => none
  | some d => (ecdh d k.pub).map (fun z => kdf z (ascii "DORUA-KEYLOAD") (le 16 s.otp.unitId ++ le 2 k.slot))

/-- R473: in the keyless condition an occupied owner anchor names the host key that may load. -/
def anchorRefuses (k : KeyLoad) (s : State) : Bool :=
  s.keyless && (match s.slotRec 4099 with | some r => sha256 k.pub != r.key | none => false)

/-- The unsealed key of a load, under a key-encryption key. -/
def unsealKey (k : KeyLoad) (kek p : Bytes) (s : State) : Option Bytes :=
  (gcmOpen kek k.iv (p.take 92 ++ le 16 s.otp.unitId) k.cipher k.tag).map (·.take k.len)

/-- The key is stored; the reply carries its check value (R109). -/
def installKey (c : LiveCmd) (k : KeyLoad) (key : Bytes) (s : State) : State :=
  let check := (cmac key (zeros 16)).take 4
  let s := loadStone key k.attr (some k.slot) s
  let s := ev evKeyLoaded (le 2 k.slot ++ [byte k.method] ++ check) (storeKey k.slot key k.attr s)
  noteKeyless (complete c stOk dNone (le 2 k.slot ++ zeros 2 ++ check) s)

/-- The key is opened under its key-encryption key (R109). A public key that is no point of the curve is answered AUTH_FAILED:
DESIGN CHOICE (log entry 108). -/
def loadUnder (c : LiveCmd) (k : KeyLoad) (kek : Option Bytes) (s : State) : State :=
  match kek.bind (fun x => unsealKey k x c.params s) with
  | none => noteAuth 0x0801 c.sid (fail c stAuthFailed dNone s)
  | some key => installKey c k key s

def keyLoad (c : LiveCmd) (s : State) : State :=
  let k := decKeyLoad c.params
  match keyLoadRefusal c s with
  | some (st, d) => fail c st d s
  | none =>
    if k.method = 1 then
      match s.slotRec k.kek with
      | none => fail c stBadParam dNone s
      | some r =>
        if bits r.attr 23 16 = 3 then loadUnder c k (some r.key) (useKey k.kek s)
        else fail c stInternal dNone (keystoneMisuse s)
    else if anchorRefuses k s then noteAuth 0x0801 c.sid (fail c stAuthFailed 0x82 s)
    else loadUnder c k (ecdhKek k s) (stoneUnitKa s)

/-- KEY_LOAD (R109, R458, R461, R465, R473). -/
def execKeyLoad (sid tag : Nat) (s : State) : Res := .next (runCmd 0x0801 sid tag keyLoad s)

/-! ### KEY_RETIRE (R110) -/

def keyRetire (c : LiveCmd) (s : State) : State :=
  let slot := fld c.params 0 2
  if !zeroAt c.params 2 2 then fail c stBadParam dReservedBit s
  else if s.inTrial then fail c stBusy 0x84 s
  else if 4351 < slot then fail c stBadParam dNone s
  else if !s.occupied slot then fail c stBadParam 0x80 s
  else noteKeyless (complete c stOk dNone [] (ev evKeyRetired (le 2 slot) (retireSlot slot s)))

/-- KEY_RETIRE (R110, R456, R461). -/
def execKeyRetire (sid tag : Nat) (s : State) : Res := .next (runCmd 0x0802 sid tag keyRetire s)

/-! ### LIFECYCLE_ADVANCE (R111, R463, R464) -/

/-- Table 15.5: whether a transition exists and needs a signature. -/
def transition (from_ to_ : Nat) : Option Bool :=
  if to_ = lcScrapped then (if 1 ≤ from_ ∧ from_ ≤ 5 then some false else none)
  else if from_ = lcBlank ∧ to_ = lcTest then some false
  else if from_ = lcTest ∧ to_ = lcProvisioned then some true
  else if from_ = lcProvisioned ∧ to_ = lcField then some false
  else if from_ = lcField ∧ to_ = lcReturn then some true
  else if from_ = lcReturn ∧ to_ = lcProvisioned then some true
  else none

/-- Conditions of a transition beside its signature (Table 15.5). -/
def transitionAllowed (c : LiveCmd) (to_ : Nat) (s : State) : Bool :=
  let o := s.otp
  if to_ = lcScrapped then !onKeylessSession c s
  else if o.lifecycle = lcTest then o.rootProgrammed && o.unitId != 0
  else if o.lifecycle = lcReturn then o.returns < 3
  else true

def lifecycleSigned (p : Bytes) (s : State) : Bool :=
  sha256 (sub p 20 64) == s.otp.lifecycleAuth &&
    ecdsaOk (sub p 20 64) (sub p 84 64) (ascii "DORUA-LIFECYCLE" ++ le 16 s.otp.unitId ++ [byte (fld p 0 1)] ++ le 4 s.sec.epoch)

/-- Why LIFECYCLE_ADVANCE is refused. -/
def lifecycleRefusal (c : LiveCmd) (s : State) : Option (Nat × Nat) :=
  let p := c.params
  if s.otp.lifecycle = lcScrapped then some (stNotPermitted, dLifecycle)
  else if !zeroAt p 1 3 then some (stBadParam, dReservedBit)
  else if fld p 4 16 ≠ s.otp.unitId then some (stBadParam, 0x80)
  else match transition s.otp.lifecycle (fld p 0 1) with
    | none => some (stNotPermitted, dLifecycle)
    | some signed =>
      if !transitionAllowed c (fld p 0 1) s then some (stNotPermitted, dLifecycle)
      else if !signed ∧ !zeroAt p 20 128 then some (stBadParam, dReservedBit)
      else if signed ∧ !lifecycleSigned p s then some (stAuthFailed, 0x80)
      else none

/-- What the settings store holds. -/
def storeCopy (s : State) : StoreCopy :=
  { live := s.set.live, list := s.time.list, region := s.mac.region, scenes := s.lamp.scenes,
    cals := s.lamp.chans.map (fun c => c.calNext.orElse (fun _ => c.cal)), stdOffset := s.rtc.stdOffset, transitions := s.rtc.transitions,
    table := s.fb.tableStore, backup := s.meter.backup, buckets := s.par.buckets, defaultBurst := s.par.defaultBurst,
    defaultRefill := s.par.defaultRefill }

/-- An erased settings store. -/
def emptyStore : StoreCopy :=
  { live := [], list := [], region := none, scenes := [], cals := [], stdOffset := 0, transitions := [], table := none, backup := none,
    buckets := [], defaultBurst := 8, defaultRefill := 10000 }

/-- The module goes on with another content of the settings store. -/
def useStore (c : StoreCopy) (s : State) : State :=
  let s := s.modSet (fun _ => { live := c.live, shadow := [], pend := [] })
  let s := s.modTime (fun t => { t with list := c.list })
  let s := s.modMac (fun m => { m with region := c.region })
  let s := s.modLamp (fun l => { l with
    scenes := c.scenes, chans := (l.chans.zip (List.range l.chans.length)).map (fun x => { x.1 with cal := c.cals.getD x.2 none, calNext := none }) })
  let s := s.modRtc (fun r => { r with stdOffset := c.stdOffset, transitions := c.transitions })
  let s := s.modFb (fun f => { f with tableStore := c.table })
  let s := s.modMeter (fun m => { m with backup := c.backup })
  s.modPar (fun p => { p with buckets := c.buckets, defaultBurst := c.defaultBurst, defaultRefill := c.defaultRefill })

/-- Steps 1 to 5 of R464: fuses, epoch, keystone and banks, slot records, the records. -/
def advanceLife (to_ : Nat) (s : State) : State :=
  let from_ := s.otp.lifecycle
  let old := s.sec.epoch
  let erase := from_ = lcReturn ∧ to_ = lcProvisioned
  let s := s.modOtp (fun o => { o with
    lifecycle := to_, returns := if erase then o.returns + 1 else o.returns, rootKilled := o.rootKilled || to_ == lcScrapped })
  let s := zeroBanks (clearKeystone (writeMirror (advanceEpoch s)))
  let s := s.modSec (fun k => { k with slots := [], slots2 := none, advance := none })
  let s := if erase then useStore emptyStore s else s
  let s := ev evLifecycleChanged [byte from_, byte to_] s
  noteKeyless (ev evKeysErased (le 4 old ++ le 4 s.sec.epoch ++ [0]) s)

/-- LIFECYCLE_ADVANCE (R111): the reply first, the transition when it has left. A second one accepted
before that replaces the first: DESIGN CHOICE (log entry 109). -/
def lifecycleAdvance (c : LiveCmd) (s : State) : State :=
  match lifecycleRefusal c s with
  | some (st, d) => if st = stAuthFailed then noteAuth 0x0803 c.sid (fail c st d s) else fail c st d s
  | none =>
    let to_ := fld c.params 0 1
    let s := awaitReset c 3 6 (s.modSec (fun k => { k with advance := some (to_, c.seq) }))
    let s := complete c stOk dNone ([byte to_] ++ zeros 3) s
    if c.flags.testBit flQuiet then advanceLife to_ s else s

def execLifecycleAdvance (sid tag : Nat) (s : State) : Res := .next (runCmd 0x0803 sid tag lifecycleAdvance s)

/-! ### TAMPER_POLICY_SET (R112, R467) -/

def tamperPolicySet (c : LiveCmd) (s : State) : State :=
  let src := fld c.params 0 1
  let pol := fld c.params 1 1
  if !zeroAt c.params 2 2 then fail c stBadParam dReservedBit s
  else if src = 0 ∨ 8 < src ∨ pol = 0 ∨ 3 < pol then fail c stBadParam dNone s
  else if src = 7 then fail c stBadParam 0x80 s
  else
    let old := (s.tamperSrc src).policy
    let s := modTamper src (fun t => { t with policy := pol }) s
    let s := if old = pol then s
      else ev evTamperPolicyChanged [byte src, byte old, byte pol] (logTamper (tamperEntry src pol s) s)
    complete c stOk dNone [] s

def execTamperPolicySet (sid tag : Nat) (s : State) : Res := .next (runCmd 0x0804 sid tag tamperPolicySet s)

/-! ### DEBUG_UNLOCK (R113, R466) -/

def unlockPhase1 (c : LiveCmd) (s : State) : State :=
  let nonce := s.rnd 16
  let s := s.draw.modHost (fun h => { h with
    debugChals := h.debugChals.filter (fun q => q.sid != c.sid) ++ [{ sid := c.sid, nonce := nonce, n := 0, issued := s.now }] })
  complete c stOk dNone nonce s

/-- R466: the debug authority's signature over the unit ID and the challenge. -/
def unlockAuthentic (q : SidChal) (p : Bytes) (s : State) : Bool :=
  sha256 (sub p 4 64) == s.otp.debugAuth &&
    ecdsaOk (sub p 4 64) (sub p 68 64) (ascii "DORUA-DEBUG" ++ le 16 s.otp.unitId ++ q.nonce)

def unlockPhase2 (c : LiveCmd) (s : State) : State :=
  let q := s.host.debugChals.find? (fun q => q.sid == c.sid)
  let s := s.modHost (fun h => { h with debugChals := h.debugChals.filter (fun q => q.sid != c.sid) })
  match q with
  | none => noteAuth 0x0805 c.sid (fail c stAuthFailed 0x80 s)
  | some q =>
    if q.issued + 60 * sec < s.now ∨ unlockAuthentic q c.params s = false then
      noteAuth 0x0805 c.sid (fail c stAuthFailed 0x80 s)
    else
      let s := (clearKeystone s).modSec (fun k => { k with debugUnlocked := true })
      noteKeyless (complete c stOk dNone [] (ev evDebugUnlocked [byte c.sid] s))

def debugUnlock (c : LiveCmd) (s : State) : State :=
  let p := c.params
  if (s.otp.lifecycle ≠ lcTest ∧ s.otp.lifecycle ≠ lcReturn) ∨ c.transport = .dbg then fail c stNotPermitted dLifecycle s
  else if fld p 0 1 ≠ 1 ∧ fld p 0 1 ≠ 2 then fail c stBadParam dNone s
  else if p.length ≠ (if fld p 0 1 = 1 then 4 else 132) then fail c stBadLength dLengthOpcode s
  else if !zeroAt p 1 3 then fail c stBadParam dReservedBit s
  else if fld p 0 1 = 1 then unlockPhase1 c s
  else unlockPhase2 c s

/-- DEBUG_UNLOCK (R113, R466). -/
def execDebugUnlock (sid tag : Nat) (s : State) : Res := .next (runCmd 0x0805 sid tag debugUnlock s)

/-! ### SECURITY_STATUS (Table 3.22) -/

def securityStatus (c : LiveCmd) (s : State) : State :=
  let s := settleAuth s
  let flags := b2n s.keyless + 2 * b2n s.debugEnabled + 4 * b2n s.testRoot
  let src (t : TamperSrc) : Byte := byte (t.policy + 4 * b2n t.active + 8 * b2n t.latched)
  let r := [byte s.otp.lifecycle, byte flags] ++ le 2 (occupiedCount s) ++ le 4 s.sec.epoch ++ [byte s.otp.antiRollback]
    ++ zeros 3 ++ fit 8 (s.sec.tamper.map src) ++ zeros 4
  complete c stOk dNone r (s.modSec (fun k => { k with tamper := k.tamper.map (fun t => { t with latched := false }) }))

/-- SECURITY_STATUS (Table 3.22, R467): LATCHED clears when read. -/
def execSecurityStatus (sid tag : Nat) (s : State) : Res := .next (runCmd 0x0806 sid tag securityStatus s)

/-! ### Tamper sources (R467, R468) -/

/-- `TAMPER0` at TAMPER0_LEVEL for the debounce time. -/
def caseOpen (s : State) : Bool :=
  s.sec.tamper0 == (s.live 0x0801 == 1) && s.sec.tamper0Since + s.live 0x0802 * ms ≤ s.now

/-- Two mismatches within the last 32 samples (R468). -/
def guardBroken (s : State) : Bool := s.live 0x0803 == 1 && 2 ≤ (s.sec.guardSamples.filter id).length

/-- Whether a source's condition can hold as the module sees it; supply, clock and temperature detectors are the
environment's, and the first of them does not look within a transition (Table 15.6). -/
def conditionHolds (source : Nat) (s : State) : Bool :=
  if source = 1 then caseOpen s
  else if source = 2 then guardBroken s
  else if source = 3 then s.fb.backup
  else if source = 4 then !s.fb.backup && s.pwr.trans.isNone && s.pwr.pmbus.request.isNone
  else if source = 5 then !s.fb.backup
  else if source = 6 then true
  else if source = 8 then s.live 0x0804 ≤ authFailures s
  else false

/-- A source becomes true; ALARM and ALARM_ERASE wake the module (R408, R467). -/
def senseTamper (source : Nat) (s : State) : State :=
  let acts := (s.tamperSrc source).armed && 2 ≤ (s.tamperSrc source).policy
  let s := tamperTrue source s
  if acts && !s.fb.backup then wakeUp 12 s else s

/-- TAMPER_CONDITION (R467). -/
def execTamperCondition (source : Nat) (s : State) : Res :=
  .next (if conditionHolds source s && !(s.tamperSrc source).active then senseTamper source s else s)

/-- TAMPER_CONDITION_END (R467). -/
def execTamperConditionEnd (source : Nat) (s : State) : Res :=
  .next (if (source = 1 ∨ source = 2 ∨ source = 8) ∧ conditionHolds source s then s else tamperFalse source (settleAuth s))

/-- TAMPER0_EDGE (R467): the debounce of CASE_SWITCH starts, or ends with the condition. -/
def execTamper0Edge (level : Bool) (s : State) : Res :=
  .next (if s.sec.tamper0 = level then s
    else caseLevel (s.live 0x0801 == 1) (s.modSec (fun k => { k with tamper0 := level })))

/-- TAMPER0_DEBOUNCE_EXPIRY (R467). -/
def execTamper0DebounceExpiry (s : State) : Res :=
  .next (if s.sec.tamper0Run && caseOpen s then
      senseTamper 1 (s.modSec (fun k => { k with tamper0Run := false }))
    else s)

/-- The next state of the 16-bit LFSR x^16 + x^14 + x^13 + x^11 + 1 (R468). -/
def lfsrNext (l : Nat) : Nat :=
  let b := (bits l 0 0 + bits l 2 2 + bits l 3 3 + bits l 5 5) % 2
  l / 2 + 32768 * b

/-- With the loop disabled no sample is taken, and the condition is false (R468, Table 15.6). -/
def guardOff (s : State) : State := tamperFalse 2 (s.modSec (fun k => { k with guardSamples := [] }))

/-- GUARD_LFSR_ADVANCE (R468): every 32 ticks, 976,562.5 ns. -/
def execGuardLfsrAdvance (s : State) : Res :=
  .next (if s.live 0x0803 ≠ 1 then guardOff s
    else if 1953125 ≤ 2 * (s.now - s.sec.lfsrAt) then
      s.modSec (fun k => { k with lfsr := lfsrNext k.lfsr, lfsrAt := s.now, guardSampled := false })
    else s)

/-- GUARD_SAMPLE (R468): 16 ticks after each change `TAMPER1` is compared with `TGUARD_OUT`. -/
def execGuardSample (level : Bool) (s : State) : Res :=
  .next (if s.live 0x0803 ≠ 1 then guardOff s
    else if !s.sec.guardSampled ∧ 976562 ≤ 2 * (s.now - s.sec.lfsrAt) then
      let bad := level != s.sec.lfsr.testBit 0
      let s := s.modSec (fun k => { k with
        tamper1 := level, guardSampled := true, guardSamples := (bad :: k.guardSamples).take 32 })
      if guardBroken s then (if (s.tamperSrc 2).active then s else senseTamper 2 s) else tamperFalse 2 s
    else s)

/-- VBAT_LOW_TIMER (R467): `VBAT` below 1.90 V for 1 s while it supplies the abutment. -/
def execVbatLowTimer (s : State) : Res :=
  .next (if conditionHolds 3 s && !(s.tamperSrc 3).active then senseTamper 3 s else s)

/-- TAMPER_REARM_TIMER (R467): false for 1 s, the source may act again. -/
def execTamperRearmTimer (source : Nat) (s : State) : Res :=
  .next (rearm source (settleAuth s))

end Sys2Proof.Machine
end

