-- ==== Sys2Proof/Machine/Radio.lean ====
section
/-! DEFINITION. Region and radio profiles, the transceiver sequences, and the frames of the air (R162 to R171, R192 to R196,
R211 to R220). The frames follow IEEE 802.15.4 (log entry 4). -/

namespace Sys2Proof.Machine

/-! ### Region profile (R169, R170, Table 5.5) -/

def rgN (r : Bytes) : Nat := fld r 4 1
def rgS (r : Bytes) : Nat := fld r 5 1
def rgBoff (r : Bytes) : Nat := fld r 6 1
def rgHop (r : Bytes) (i : Nat) : Nat := fld r (16 + i % rgN r) 1
def rgBand (r : Bytes) (ch : Nat) : Nat := fld r (84 + 8 * ch) 1
def rgDwell (r : Bytes) (ch : Nat) : Nat := fld r (86 + 8 * ch) 2
def rgDuty (r : Bytes) (sb : Nat) : Nat := fld r (80 + 8 * rgN r + 4 * sb) 4

/-- |a − b|. -/
def absDiff (a b : Nat) : Nat := (a - b) + (b - a)

/-- Every field in the range Table 5.5 gives. -/
def regionFields (r : Bytes) : Bool :=
  let n := rgN r
  fld r 0 2 == 1 && (fld r 2 1 == 1 || fld r 2 1 == 2 || (0x80 ≤ fld r 2 1 && fld r 2 1 ≤ 0xFE))
    && 1 ≤ fld r 3 1 && fld r 3 1 ≤ 4
    && (if n = 1 then rgBoff r == 0 else 1 ≤ rgBoff r && rgBoff r ≤ n - 1)
    && 1 ≤ fld r 7 1 && fld r 7 1 ≤ 32 && 100 ≤ fld r 8 4 && fld r 8 4 ≤ 3600000 && 1 ≤ fld r 12 4 && fld r 12 4 ≤ 3600
    && zeroAt r (16 + n) (64 - n)
    && (List.range n).all (fun i => rgBand r i < rgS r && -10 ≤ toS 8 (fld r (85 + 8 * i) 1) && toS 8 (fld r (85 + 8 * i) 1) ≤ 21)
    && (List.range (rgS r)).all (fun j => 1 ≤ rgDuty r j && rgDuty r j ≤ 1000000)

/-- Why a region profile is refused (R170). -/
def regionRefusal (r : Bytes) : Option (Nat × Nat) :=
  let n := rgN r
  if n = 0 ∨ 64 < n ∨ rgS r = 0 ∨ 8 < rgS r then some (stBadParam, 0x84)
  else if r.length ≠ 84 + 8 * n + 4 * rgS r then some (stBadLength, dLengthOpcode)
  else if !(List.range n).all (fun c => (List.range n).any (fun i => rgHop r i == c)) then some (stBadParam, 0x81)
  else if 1 < n ∧ (List.range n).any (fun j => absDiff (rgHop r j) (rgHop r (j + rgBoff r)) < fld r 7 1) then
    some (stBadParam, 0x82)
  else if !crcOk r then some (stBadParam, 0x83)
  else if !regionFields r then some (stBadParam, 0x84)
  else none

/-- The hop channel of a cell (R167): port 0 A or 1 B. -/
def hopChannel (r : Bytes) (asn port offset : Nat) : Nat := rgHop r (asn + offset + (if port = 1 then rgBoff r else 0))

/-! ### Radio profile and its sequences (R194, R195, Tables 5.9 to 5.11) -/

/-- The offset of a sequence in a profile. -/
def seqOffset (p : Bytes) (id : Nat) : Option Nat :=
  ((List.range (fld p 83 1)).find? (fun k => fld p (84 + 4 * k) 1 == id)).map (fun k => fld p (86 + 4 * k) 2)

/-- Bytes of an operation (Table 5.10); none for an unknown code. -/
def opLen (p : Bytes) (at_ : Nat) : Option Nat :=
  match fld p at_ 1 with
  | 1 => some 1 | 2 => some 1 | 3 => some (2 + fld p (at_ + 1) 1) | 4 => some 3 | 5 => some 1 | 6 => some 3 | 7 => some 2
  | 8 => some 3 | 9 => some 1 | 10 => some 6 | 11 => some 1 | _ => none

/-- A sequence reaches END inside the profile. -/
def seqEnds (p : Bytes) : Nat → Nat → Bool
  | 0, _ => false
  | n + 1, at_ =>
    if p.length - 4 ≤ at_ then false
    else if fld p at_ 1 = 11 then true
    else match opLen p at_ with
      | some k => seqEnds p n (at_ + k)
      | none => false

/-- R195: why a radio profile is refused, under the region's PHY mode if one is loaded. -/
def radioRefusal (p : Bytes) (mode : Option Nat) : Option Nat :=
  let signedOk (off : Nat) : Bool := off < p.length
  if p.length < 88 ∨ 4064 < p.length ∨ fld p 0 2 ≠ 1 ∨ fld p 2 2 ≠ p.length ∨ !crcOk p then some 0x84
  else if 15 < fld p 20 1 ∨ fld p 21 1 < 5 ∨ 100 < fld p 21 1 ∨ fld p 22 2 = 0 ∨ 10000 < fld p 22 2 ∨ 5000 < fld p 24 2 ∨
      1795 < fld p 26 2 ∨ (!(fld p 20 1).testBit 3 ∧ fld p 26 2 ≠ 0) ∨ 500000 < fld p 28 4 ∨ fld p 44 4 = 0 ∨
      fld p 83 1 = 0 ∨ 16 < fld p 83 1 ∨ !signedOk 83 then some 0x84
  else if (List.range (fld p 83 1)).any (fun k => !zeroAt p (85 + 4 * k) 1) then some 0x84
  else if !(List.range 8).all (fun i => match seqOffset p (i + 1) with
      | some o => 84 + 4 * fld p 83 1 ≤ o && seqEnds p p.length o
      | none => false) then some 0x84
  else match mode with
    | some m => if phySupported p m then none else some 0x86
    | none => none

/-- A sequence in progress: ns since it began, ns at its mark and whether the bytes from the transceiver were used up there, what it
did on its lines, captures, frame read, bytes still to come from the transceiver. -/
structure SeqRun where
  at_ : Nat
  mark : Nat
  t : Nat
  since : Nat
  dry : Bool
  lines : List RadioLine
  cap : Bytes
  frame : Bytes
  miso : Bytes
  ended : Bool
  timedOut : Bool

/-- One bit of SPI, in ns: 100 MHz / divisor (Table 5.8). -/
def bitNs (p : Bytes) : Nat := 10 * fld p 21 1

/-- Bytes sent in a sequence. -/
def SeqRun.out (r : SeqRun) : Bytes := r.lines.flatMap (fun l => match l with | .shift b _ => b | _ => [])

/-- Captures from an index onwards. -/
def setCap (cap : Bytes) (i : Nat) (b : Bytes) : Bytes := ((cap.take i ++ b) ++ cap.drop (i + b.length)).take 8

/-- Bytes go out on `xx_MOSI`. -/
def shiftOut (p b : Bytes) (r : SeqRun) : SeqRun :=
  { r with lines := r.lines ++ [.shift b (bitNs p)], t := r.t + 8 * b.length * bitNs p }

/-- Bytes are clocked in; a transceiver that has no more to say leaves the line low. -/
def shiftIn (p : Bytes) (n : Nat) (r : SeqRun) : SeqRun := { r with miso := r.miso.drop n, t := r.t + 8 * n * bitNs p }

/-- POLL: on to the next operation, the end of its timeout, or once more from the mark. A pass that began with no byte left
would repeat until the timeout. -/
def pollOp (hit : Bool) (timeout : Nat) (r : SeqRun) : SeqRun :=
  if hit then { r with at_ := r.at_ + 6 }
  else if r.dry ∨ r.since + timeout * us ≤ r.t then { r with ended := true, timedOut := true, t := max r.t (r.since + timeout * us) }
  else { r with at_ := r.mark, dry := r.miso == [] }

/-- One operation (Table 5.10). -/
def seqOp (p : Bytes) (param : Nat → Nat) (frame : Bytes) (r : SeqRun) : SeqRun :=
  let a := r.at_
  let b (k : Nat) : Nat := fld p (a + k) 1
  match fld p a 1 with
  | 1 => { r with at_ := a + 1, lines := r.lines ++ [.select true] }
  | 2 => { r with at_ := a + 1, lines := r.lines ++ [.select false] }
  | 3 => shiftOut p (sub p (a + 2) (b 1)) { r with at_ := a + 2 + b 1 }
  | 4 => shiftOut p (be (b 2) (param (b 1))) { r with at_ := a + 3 }
  | 5 => shiftOut p frame { r with at_ := a + 1 }
  | 6 => shiftIn p (b 2) { r with at_ := a + 3, cap := setCap r.cap (b 1) (fit (b 2) (r.miso.take (b 2))) }
  | 7 =>
    let n := min (fld r.cap (b 1) 1) 511
    shiftIn p n { r with at_ := a + 2, frame := fit n (r.miso.take n) }
  | 8 => { r with at_ := a + 3, t := r.t + fld p (a + 1) 2 * us }
  | 9 => { r with at_ := a + 1, mark := a + 1, since := r.t, dry := r.miso == [] }
  | 10 => pollOp (Nat.land (fld r.cap (b 1) 1) (b 2) == b 3) (fld p (a + 4) 2) r
  | _ => { r with ended := true }

def seqLoop (p : Bytes) (param : Nat → Nat) (frame : Bytes) : Nat → SeqRun → SeqRun
  | 0, r => { r with timedOut := true }
  | n + 1, r => if r.ended then r else seqLoop p param frame n (seqOp p param frame r)

/-- Runs sequence `id` of a profile (Table 5.11). -/
def runSeq (p : Bytes) (id : Nat) (param : Nat → Nat) (frame cap miso : Bytes) : SeqRun :=
  let r : SeqRun :=
    { at_ := 0, mark := 0, t := 0, since := 0, dry := miso == [], lines := [], cap := fit 8 cap, frame := [], miso := miso,
      ended := true, timedOut := false }
  match seqOffset p id with
  | none => r
  | some o => seqLoop p param frame (p.length + (miso.length + 1) * p.length) { r with at_ := o, mark := o, ended := false }

/-! ### Ports -/

def State.port (s : State) (k : Nat) : Port := if k = 0 then s.mac.portA else s.mac.portB

def modPort (k : Nat) (f : Port → Port) (s : State) : State :=
  s.modMac (fun m => if k = 0 then { m with portA := f m.portA } else { m with portB := f m.portB })

/-- The parameters of OUT_PARAM: frequency word, power code, frame length (Table 5.10). -/
def seqParams (s : State) (profile : Bytes) (ch len k : Nat) : Nat :=
  let r := s.mac.region.getD []
  if k = 1 then
    (fld r (80 + 8 * ch) 4 * fld profile 40 4 * 2 + fld profile 44 4) / (2 * fld profile 44 4)
  else if k = 2 then fld profile (48 + (toS 8 (fld r (85 + 8 * ch) 1) + 10).toNat) 1
  else if k = 3 then len
  else 0

/-- `xx_CS_N` after what a sequence did on the lines. -/
def selectAfter (low : Bool) (ls : List RadioLine) : Bool :=
  ls.foldl (fun b l => match l with | .select x => x | _ => b) low

/-- One sequence on a port: its captures, its lines, and how it ended. -/
def runOne (k id ch : Nat) (frame miso : Bytes) (s : State) : State × SeqRun :=
  let p := (s.port k).profile.getD []
  let r := runSeq p id (seqParams s p ch frame.length) frame (s.port k).capture miso
  let s := s.modOut (fun o => { o with spi := o.spi ++ [(k, r.out)], radio := o.radio ++ r.lines.map (fun l => (k, l)) })
  (modPort k (fun q => { q with capture := r.cap, channel := ch, csLow := selectAfter q.csLow r.lines }) s, r)

/-- Runs sequences on a port in order until one times out: whether none did, and the bytes left. Without a
profile, or while VIO_R is not good, the port fails as at a timeout (R542, Table 20.17). -/
def runSeqs (k ch : Nat) (frame : Bytes) : List Nat → Bytes → State → State × Bool × Bytes
  | [], miso, s => (s, true, miso)
  | id :: ids, miso, s =>
    if (s.port k).profile.isNone || !bankGood 0 s then (s, false, miso)
    else
      let r := runOne k id ch frame miso s
      if r.2.timedOut then (r.1, false, r.2.miso) else runSeqs k ch frame ids r.2.miso r.1

/-- The span's own cells use a port (R164, R170): B only with more than one channel, and not in ANNEX role. -/
def ownPort (s : State) (k : Nat) : Bool :=
  k == 0 || (s.live 0x0302 != 1 && (match s.mac.region with | some r => decide (1 < rgN r) | none => false))

/-- The lanterns of a failed port go to the other port, where the span uses it (R196). -/
def moveLanterns (k : Nat) (s : State) : State :=
  if ownPort s (1 - k) && !(s.port (1 - k)).failed then
    s.modMac (fun m => { m with
      topoChanged := true,
      lanterns := m.lanterns.map (fun p => if p.2.port = k then (p.1, { p.2 with port := 1 - k, portRun := 0 }) else p) })
  else s

/-- `xx_RST_N` low for the profile's reset time, then, its ready time later, INIT (R196, R206, Table 5.9): whether INIT ended, and
the bytes left. -/
def pulseInit (k : Nat) (miso : Bytes) (s : State) : State × Bool × Bytes :=
  let p := (s.port k).profile.getD []
  let s := s.modOut (fun o => { o with radio := o.radio ++ [(k, .reset s.now (s.now + fld p 22 2 * us) (s.now + (fld p 22 2 + fld p 24 2) * us))] })
  runSeqs k (s.port k).channel [] [1] miso (modPort k (fun q => { q with csLow := false, window := none }) s)

/-! ### Frames (R211 to R215) -/

/-- The module's own EUI-64 (log entry 5) and short address (Table 6.3). -/
def State.eui (s : State) : Nat := s.otp.unitId % 2 ^ 64
def State.short (s : State) : Nat := if s.standby then 0x1001 else 0x1000

/-- The root EUI-64 that the nodes took at their join (R215). -/
def State.rootEui (s : State) : Nat := s.mac.rootEui.getD s.eui

/-- The network key of a phase. -/
def netKey (s : State) (phase : Nat) : Bytes := (get? s.mac.netKeys phase).getD (zeros 16)

/-- The next outgoing frame counter of a key index, 0 the join key's (R216). -/
def nextCounter (s : State) (idx : Nat) : Nat := (get? s.mac.counters idx).getD 0

/-- A network key in the keystone (Table 15.1: AES-128, NETWORK). -/
def stoneNetwork (phase : Nat) (s : State) : State := loadStone (netKey s phase) (stoneAttr 1 0x13) none s

/-- A frame is secured: its counter is used, under a network key that the keystone then holds. -/
def useCounter (idx : Nat) (s : State) : State :=
  (if idx = 0 then s else stoneNetwork (idx - 1) s).modMac (fun m => { m with counters := put m.counters idx (nextCounter s idx + 1) })

def withFcs (b : Bytes) : Bytes := b ++ le 2 (crc16 b)
def fcsOk (b : Bytes) : Bool := 2 ≤ b.length && leNat (b.drop (b.length - 2)) == crc16 (b.take (b.length - 2))

/-- Frame control fields of the five forms of Table 6.1. -/
abbrev fcBeacon : Nat := 0xA948
abbrev fcData : Nat := 0xA869
abbrev fcJoinReq : Nat := 0xE849
/-- A join request to the module's extended address (Table 5.6). -/
abbrev fcJoinReqExt : Nat := 0xEC49
abbrev fcJoinResp : Nat := 0xAC49
abbrev fcFlood : Nat := 0x2941
abbrev fcAck : Nat := 0x2A4A

/-- The CCM* nonce: source EUI-64, frame counter, security level. -/
def nonceOf (eui ctr level : Nat) : Bytes := be 8 eui ++ be 4 ctr ++ [byte level]

/-- A frame secured at level 1: header and body in clear, MIC-32. -/
def seal1 (key nonce hdr body : Bytes) : Bytes := hdr ++ body ++ ccmSeal key nonce (hdr ++ body) [] 4

/-- A data frame (Table 6.1): its key and key index, frame counter, the sender's EUI-64 and short address. -/
def dataPsdu (key : Bytes) (idx ctr eui src seq dst : Nat) (body : Bytes) : Bytes :=
  let hdr := le 2 fcData ++ [byte seq] ++ le 2 dst ++ le 2 src ++ [0x0D] ++ le 4 ctr ++ [byte idx]
  withFcs (hdr ++ ccmSeal key (nonceOf eui ctr 5) hdr body 4)

/-- A beacon of a span (Table 6.4). -/
def beaconPsdu (key : Bytes) (ctr eui pan src : Nat) (body : Bytes) : Bytes :=
  let hdr := le 2 fcBeacon ++ le 2 pan ++ le 2 0xFFFF ++ le 2 src ++ [0x01] ++ le 4 ctr
  withFcs (seal1 key (nonceOf eui ctr 1) hdr body)

/-- The body of a beacon (Table 6.4). -/
def beaconBody (asn correction state rank conf : Nat) : Bytes :=
  le 5 asn ++ le 4 correction ++ [byte state] ++ le 2 rank ++ [byte conf]

/-- An enhanced ACK (R173, R212): its header IE is the Time Correction IE, of 2 octets. -/
def ackPsdu (key : Bytes) (ctr eui seq dst : Nat) (pending : Bool) (correctionUs : Int) : Bytes :=
  let ie := le 2 (2 + 0x1E * 128) ++ le 2 (ofS 12 (max (-2047) (min 2047 correctionUs)))
  let hdr := le 2 (fcAck + 16 * b2n pending) ++ [byte seq] ++ le 2 dst ++ [0x01] ++ le 4 ctr
  withFcs (seal1 key (nonceOf eui ctr 1) hdr ie)

/-- A data frame to a short address under the network key in use. -/
def dataFrame (s : State) (seq dst : Nat) (body : Bytes) : Bytes :=
  let idx := s.mac.phase + 1
  dataPsdu (netKey s s.mac.phase) idx (nextCounter s idx) s.eui s.short seq dst body

/-- The body of the beacon of the root or of the standby (R219). Its correction is the launch error as measured: until `xx_TS` has marked
its end of SFD it is free (R298, log entry 49). -/
def ownBeaconBody (s : State) (asn : Nat) : Bytes :=
  let hold := s.time.state != .locked
  let joinOpen := s.mac.lanterns.any (fun p => p.2.state == .expected)
  let st := 16 * s.mac.phase + 32 * b2n hold + 64 * b2n joinOpen + 128 * b2n (s.twin.link == .up)
  beaconBody asn (Config.unstated 26 s.now) st 0 s.mac.confVersion

def beaconFrame (s : State) (asn : Nat) : Bytes :=
  beaconPsdu (netKey s s.mac.phase) (nextCounter s (s.mac.phase + 1)) s.eui (panId s) s.short (ownBeaconBody s asn)

/-- The beacon before MAC security, as ECHO_FEED carries it (Table 11.2). -/
def beaconPlain (s : State) (asn : Nat) : Bytes :=
  le 2 fcBeacon ++ le 2 (panId s) ++ le 2 0xFFFF ++ le 2 s.short ++ ownBeaconBody s asn

/-- A beacon with another correction, under its own frame counter and the key of its phase bit. -/
def withCorrection (s : State) (psdu : Bytes) (correction : Int) : Bytes :=
  let body := sub psdu 13 (psdu.length - 19)
  beaconPsdu (netKey s (bits (fld body 9 1) 4 4)) (fld psdu 9 4) s.eui (panId s) s.short
    (body.take 5 ++ le 4 (ofS 32 correction) ++ body.drop 9)

/-- A flood with its end-to-end MIC (Table 6.2, R215). -/
def floodFrame (s : State) (f : Flood) (seq : Nat) : Bytes :=
  let ctl := f.ttl + 32 * f.group + 4096 * s.mac.phase
  let fc := le 2 fcFlood ++ le 2 0xFFFF
  let rest := le 2 seq ++ le 2 f.type ++ f.payload
  let mic := ccmSeal (netKey s s.mac.phase) (nonceOf s.rootEui (0x80000000 + seq) 1) (fc ++ le 2 (ctl - f.ttl) ++ rest) [] 4
  withFcs (fc ++ le 2 ctl ++ rest ++ mic)

/-- A join response frame to a lantern's EUI-64 under its join key. -/
def joinFrame (s : State) (eui : Nat) (key body : Bytes) : Bytes :=
  let ctr := nextCounter s 0
  let hdr := le 2 fcJoinResp ++ [byte s.mac.macSeq] ++ le 8 eui ++ le 2 s.short ++ [0x05] ++ le 4 ctr
  withFcs (hdr ++ ccmSeal key (nonceOf s.eui ctr 5) hdr body 4)

/-- The enhanced ACK under the key of the frame it acknowledges (R214). -/
def ackFrame (s : State) (seq dst : Nat) (pending : Bool) (correctionUs : Int) (keyPhase : Nat) : Bytes :=
  ackPsdu (netKey s keyPhase) (nextCounter s (keyPhase + 1)) s.eui seq dst pending correctionUs

/-! ### On-air time (R162, R171) -/

/-- On-air time of a PSDU, in us. -/
def airUs (s : State) (k : Nat) (len : Nat) : Nat :=
  let h := match (s.port k).profile with | some p => fld p 26 2 | none => 0
  match phyMode s with
  | 1 => (8 + len) * 160
  | 2 => ((8 + len) * 160 + 2) / 3
  | 3 => ((8 + len) * 80 + 2) / 3
  | _ => len * 10 + h

/-- Duration of the synchronisation header in ns (R220): 6 octet times in SUN-FSK; the spec gives no figure for SUN-OFDM (log
entry 41). -/
def tShr (s : State) : Nat := match phyMode s with | 1 => 960000 | 2 => 320000 | 3 => 160000 | _ => Config.unstated 19 (phyMode s)

/-- On-air us of a set of channels in a window of ms that ends at an instant of ms. -/
def airSum (s : State) (p : Nat → Bool) (window end_ : Nat) : Nat :=
  ((s.mac.onAir.filter (fun a => p a.1 && end_ < a.2.1 + window && a.2.1 ≤ end_)).map (·.2.2)).sum

/-- The dwell and duty limits a transmission would exceed (R171). -/
def overDwell (s : State) (r : Bytes) (ch dur end_ : Nat) : Bool :=
  rgDwell r ch != 0 && rgDwell r ch * 1000 < airSum s (· == ch) (fld r 8 4) end_ + dur

def overDuty (s : State) (r : Bytes) (ch dur end_ : Nat) : Bool :=
  let sb := rgBand r ch
  rgDuty r sb * fld r 12 4 < airSum s (fun c => rgBand r c == sb) (fld r 12 4 * 1000) end_ + dur

/-- The elapsed ms at which a transmission ends whose first symbol leaves at an instant of span time (R171). -/
def airEnd (s : State) (start dur : Nat) : Nat := (s.now + (start - s.spanNs) + dur * us) / ms

/-- A transmission that the dwell or duty limit of its channel suppresses is counted against it (R171). -/
def suppressed (k ch start : Nat) (psdu : Bytes) (s : State) : Option State :=
  let r := s.mac.region.getD []
  let dur := airUs s k psdu.length
  let dw := overDwell s r ch dur (airEnd s start dur)
  let du := overDuty s r ch dur (airEnd s start dur)
  if dw || du then
    some (s.modMac (fun m => { m with
      suppressedCh := if dw then modAt m.suppressedCh ch (satAdd 16 · 1) else m.suppressedCh,
      suppressedSb := if du then modAt m.suppressedSb (rgBand r ch) (satAdd 16 · 1) else m.suppressedSb }))
  else none

/-- The `xx_TXGO` edge of a transmission: the profile's latency before its first symbol, in steps of 10 ns (R161, R193). -/
def txGoAt (s : State) (k start : Nat) : Nat := (start - fld ((s.port k).profile.getD []) 28 4) / 10 * 10

/-- A frame goes on the air: its `xx_TXGO` pulse, its time on the channel, and the frame (R171, Table 5.8). -/
def launch (k ch start : Nat) (psdu : Bytes) (s : State) : State :=
  let dur := airUs s k psdu.length
  let end_ := airEnd s start dur
  let go := txGoAt s k start
  let s := s.modMac (fun m => { m with onAir := m.onAir.filter (fun a => end_ < a.2.1 + 3600000) ++ [(ch, end_, dur)] })
  s.modOut (fun o => { o with
    radio := o.radio ++ [(k, .txGo go (go + us))], air := o.air ++ [{ port := k, channel := ch, asn := asnNow s, psdu := psdu }] })

end Sys2Proof.Machine
end

