-- ==== Sys2Proof/Machine/Air.lean ====
section
/-! DEFINITION. Cells, attempts and acknowledgements of the span's own MAC, and the reception of its frames (chapter 05, R211 to
R226). The rows that drive them stand in Cells.lean. -/

namespace Sys2Proof.Machine

/-! ### Guard (R180, R181) -/

/-- The receive guard of a one-hop partner, in ns (R180). -/
def guardNs (s : State) (l : Lantern) : Nat :=
  300000 + (l.driftPpm + (if s.time.state = .locked then 2 else 10)) * (s.spanNs - l.contactNs) / 1000000

/-- A joined partner whose guard exceeds 2,000 us is ADRIFT; frames for it are held from then on (R181, R182). -/
def checkAdrift (n : Nat) (s : State) : State :=
  match s.lan n with
  | none => s
  | some l =>
    if l.state = .joined ∧ l.port ≠ 0xFF ∧ !l.adrift ∧ 2000000 < guardNs s l then
      trimHeld n (modLan n (fun l => { l with adrift := true, listens := 0, listenCycle := 0 }) s)
    else s

/-! ### Messages (Table 6.7, R191, R213) -/

/-- The type under which a message is relayed for another node: its payload is the whole message (R225). -/
abbrev tyRelay : Nat := 0x10000

/-- The type under which a LIVE query fetches a capability descriptor: Table 6.8 has none for it, so its code is free (log entry
117). -/
abbrev tyFetch : Nat := 0x10001

/-- Intermediate short addresses of the route to a lantern (R190). -/
def routeOf (s : State) (n : Nat) : List Nat := (get? s.mac.routes n).getD []

/-- The route of a transaction: the one it was given when the MAC took it, which it keeps (R184). -/
def txnRoute (s : State) (t : Txn) : List Nat := if t.st = .queued then routeOf s t.lantern else t.route

/-- The first hop of a transaction. -/
def hopOf (s : State) (t : Txn) : Nat :=
  if t.type = tyRelay then shortOf t.lantern else (txnRoute s t).headD (shortOf t.lantern)

/-- A message with its mesh header (Table 6.7). -/
def meshMessage (s : State) (t : Txn) : Bytes :=
  if t.type = tyRelay then t.payload.take 15 ++ [byte (min 255 (fld t.payload 15 1 + t.told))] ++ t.payload.drop 16
  else
    let r := txnRoute s t
    le 2 (if t.type = tyFetch then Config.unstated 28 0 else t.type) ++ [byte (b2n t.confirmed + 16 * r.length), byte (min 1 r.length)] ++ le 2 0x1000 ++ le 2 (shortOf t.lantern)
      ++ le 2 t.seq ++ le 5 t.expiryAsn ++ [byte (min 255 t.told)] ++ r.flatMap (le 2) ++ t.payload

/-- Message octets of one link fragment (R213). -/
def fragSize (s : State) : Nat := maxPsdu (phyMode s) - 20

/-- Last link fragment index of a message. -/
def lastFrag (s : State) (t : Txn) : Nat := ((meshMessage s t).length - 1) / fragSize s

/-- The body of the next frame of a transaction: link header and slice (R213). -/
def fragBody (s : State) (t : Txn) : Bytes :=
  byte (16 * t.frag + lastFrag s t) :: sub (meshMessage s t) (t.frag * fragSize s) (fragSize s)

def modTxn (id : Nat) (f : Txn → Txn) (s : State) : State :=
  s.modMac (fun m => { m with txns := m.txns.map (fun t => if t.id = id then f t else t) })

def State.txn (s : State) (id : Nat) : Option Txn := s.mac.txns.find? (fun t => t.id == id)

/-- The MAC takes a transaction: its message takes its route and the next number of the lantern's series (R184, R226). -/
def takeTxn (t : Txn) (s : State) : State :=
  if t.st = .queued then
    let q := (match s.lan t.lantern with | some l => (l.downSeq + 1) % 65536 | none => 0)
    modTxn t.id (fun t => { t with st := .taken, seq := q, route := routeOf s t.lantern }) (modLan t.lantern (fun l => { l with downSeq := q }) s)
  else s

/-! ### Attempts (R176, R177) -/

/-- Attempts a frame may have on a hop. -/
def maxAttempts (s : State) : Nat := s.live 0x0303 + 1

/-- BE of a port: MAC_BE_MIN and one more for each failure since the last success, up to MAC_BE_MAX (R177). -/
def beOf (s : State) (k : Nat) : Nat := min (s.live 0x0304 + (s.port k).be) (s.live 0x0305)

/-- A failure in a SHARED cell: a wait is drawn under BE as it stands, then BE rises (R177, log entry 117). -/
def backOff (k : Nat) (s : State) : State :=
  let w := Config.freeNat s.freeIdx
  let top := 2 ^ beOf s k
  modPort k (fun q => { q with backoff := w % top, be := min (q.be + 1) 6 }) s.draw

/-- An attempt ends (R176): acknowledged, the next fragment follows, or the message has left the first hop; failed for the
last time, the frame waits for its expiry. -/
def endAttempt (a : Attempt) (ok : Bool) (s : State) : State :=
  let s := s.modMac (fun m => { m with attempts := m.attempts.filter (fun x => x != a) })
  let s := if !a.shared then s
    else if ok then modPort a.port (fun q => { q with be := 0 }) s
    else backOff a.port s
  match s.txn a.txn with
  | none => s
  | some t =>
    if ok then
      if t.frag < lastFrag s t then modTxn t.id (fun t => { t with frag := t.frag + 1, attempts := 0 }) s
      else if t.confirmed then modTxn t.id (fun t => { t with st := .awaiting }) s
      else settle t .sent s
    else if maxAttempts s ≤ t.attempts then modTxn t.id (fun t => { t with st := .awaiting }) s
    else s

/-- Records an attempt that has begun; a repeat counts as a retry (R39, R176). -/
def beginAttempt (a : Attempt) (s : State) : State :=
  match s.txn a.txn with
  | none => s
  | some t =>
    let again := b2n (0 < t.attempts)
    let s := modTxn t.id (fun t => { t with attempts := t.attempts + 1, retries := t.retries + again }) s
    let s := (match t.owner with
      | some q => s.modCmd q (fun c => { c with retries := c.retries + again })
      | none => s)
    s.modMac (fun m => { m with attempts := m.attempts ++ [a] })

/-- The standby's echo attempts carry the destination beside transaction numbers. -/
def echoTxn (dst : Nat) : Nat := 2 ^ 64 + dst

/-- ECHO_RESULT: outcome 0 acknowledged, 1 no ACK, 2 not sent. -/
def echoResult (k asn outcome : Nat) (s : State) : State :=
  twinSend 0x0A (le 5 asn ++ [byte k, byte outcome, 0]) s

/-- An attempt ends without an ACK: an echo is reported to the holder, an attempt of its own has failed (R176, R381). -/
def lostAttempt (a : Attempt) (s : State) : State :=
  if 2 ^ 64 ≤ a.txn then
    echoResult a.port (a.echo.getD 0) 1 (s.modMac (fun m => { m with attempts := m.attempts.filter (fun x => x != a) }))
  else endAttempt a false s

/-- Every attempt in progress on a port counts as failed (R196). -/
def failAttempts (k : Nat) (s : State) : State :=
  (s.mac.attempts.filter (fun a => a.port == k)).foldl (fun s a => lostAttempt a s) s

/-- A third reset of a port within 60 s (R196). -/
def thirdReset (k : Nat) (s : State) : Bool :=
  (s.port k).resets.length == 3 && decide (s.now < ((s.port k).resets.getD 2 0) + 60 * sec) && !(s.port k).failed

/-- Port resets (R196): `xx_RST_N`, INIT and RADIO_PORT_RESET; the third within 60 s fails the port. An INIT whose own POLL times
out calls for the next. -/
def resetPorts (k : Nat) : Nat → Bytes → State → State
  | 0, _, s => s
  | fuel + 1, miso, s =>
    let s := ev evRadioPortReset [] (modPort k (fun q => { q with resets := (s.now :: q.resets).take 3 }) s)
    let third := thirdReset k s
    let r := pulseInit k miso s
    if third then raiseUC srcRadioPortFailed [] (moveLanterns k (modPort k (fun q => { q with failed := true, window := none }) r.1))
    else if r.2.1 || (s.port k).profile.isNone then r.1
    else resetPorts k fuel r.2.2 r.1

/-- A port reset, with what the transceiver answers. -/
def resetPort (k : Nat) (miso : Bytes) (s : State) : State := resetPorts k 3 miso (failAttempts k s)

/-! ### Cells (R161 to R167) -/

def cellAsn (s : State) (c : Cell) : Nat := 100 * s.mac.cycle + c.slot

/-- The instant of span time at which a slot of the span begins (R161). -/
def slotStart (s : State) (asn : Nat) : Nat := s.mac.epoch + asn * 10 * ms

/-- The cells that expect an acknowledgement (Table 5.4). -/
def ackedCell (c : Cell) : Bool :=
  match c.kind with
  | .shared => true | .dedicated => true | .rendezvous => true | .echo => c.slot != 1 | .beacon => false | .flood => false

/-- Slots of a cell (R162). -/
def cellLen (s : State) (acked : Bool) : Nat := if phyMode s = 1 && acked then 2 else 1

/-- The channel of a cell: a rendezvous channel does not hop, and a lantern's BEACON cell has its own offset on either port
(R165, R167, R182). -/
def cellChannel (s : State) (c : Cell) : Nat :=
  let r := s.mac.region.getD []
  match c.kind with
  | .rendezvous => rgHop r s.mac.rendezvous
  | .beacon => if c.slot = 0 then hopChannel r (cellAsn s c) c.port 0 else hopChannel r (cellAsn s c) 0 c.offset
  | _ => hopChannel r (cellAsn s c) c.port 0

/-- What became of a transmission: on the air, suppressed by R171, or abandoned (R196). -/
inductive TxRes where
  | sent | suppressed | failed
deriving DecidableEq, Repr

/-- IDLE comes first where the port still receives (Table 5.11). -/
def idleFirst (s : State) (k : Nat) : List Nat := if (s.port k).window.isSome then [8] else []

/-- A transmission in a cell that begins at an instant of span time: suppressed by R171; abandoned where its sequences miss
step 2 of Table 5.1, which the row tells or its own instant shows (R196); or on the air. -/
def transmitAt (k ch start : Nat) (late : Bool) (miso psdu : Bytes) (s : State) : State × TxRes :=
  let first := start + 800 * us
  match suppressed k ch first psdu s with
  | some s => (s, .suppressed)
  | none =>
    if late || decide (txGoAt s k first < s.spanNs) then (raiseCE srcRadioLate [] s, .failed)
    else
      let r := runSeqs k ch psdu (idleFirst s k ++ [2, 3, 4]) miso (modPort k (fun q => { q with window := none, echoAt := none }) s)
      if r.2.1 then (launch k ch first psdu r.1, .sent) else (resetPort k r.2.2 r.1, .failed)

/-- A transmission in a cell of the span. -/
def transmit (c : Cell) (psdu : Bytes) (s : State) : State × TxRes :=
  transmitAt c.port (cellChannel s c) (slotStart s (cellAsn s c)) c.late c.miso psdu s

/-- Reception begins in a cell: the window runs the guard to either side of the expected end of SFD (Table 5.1 step 4). -/
def listenAt (k ch start guard asn : Nat) (kind : CellKind) (miso : Bytes) (s : State) : State :=
  let r := runSeqs k ch [] (idleFirst s k ++ [2, 5]) miso (modPort k (fun q => { q with window := none, echoAt := none }) s)
  if r.2.1 then
    modPort k (fun q => { q with
      window := some { asn := asn, kind := kind, expected := start + 800 * us + tShr s, guard := guard } }) r.1
  else resetPort k r.2.2 r.1

/-- The widest guard of a set of partners; 300 us where there is none (R180). -/
def widest (s : State) (p : Lantern → Bool) : Nat :=
  (s.mac.lanterns.filter (fun e => p e.2)).foldl (fun g e => max g (guardNs s e.2)) 300000

/-- The guard of a cell's window: the partner's own where the cell has one, else the widest of those who may transmit there: no
lantern does in the cells of the root's and the standby's beacons (R180, log entry 116). -/
def cellGuard (s : State) (c : Cell) : Nat :=
  match c.kind, (lanOf c.peer).bind s.lan with
  | .dedicated, some l => guardNs s l
  | .beacon, some l => guardNs s l
  | .rendezvous, _ => widest s (fun l => l.state == .joined && l.adrift)
  | _, _ => if c.slot < 2 then 300000 else widest s (fun l => l.state == .joined && l.port == c.port && !l.adrift)

/-- A window with a guard opens before its cell begins (R163, Table 5.1 step 4). -/
def early (s : State) (guard : Nat) : Bool := decide (800 * us + tShr s < guard)

/-- A cell in which the module listens. -/
def listen (c : Cell) (s : State) : State :=
  listenAt c.port (cellChannel s c) (slotStart s (cellAsn s c)) (cellGuard s c) (cellAsn s c) c.kind c.miso s

/-! ### The slotframe (R162 to R167, Tables 5.3 and 5.4) -/

/-- An assigned cell falls in an absolute slot. -/
def CellAsg.at_ (a : CellAsg) (asn : Nat) : Bool := a.slot == asn % 100 && asn / 100 % a.period == a.phase

/-- A joined partner whose cells run (R182). -/
def partnerRuns (s : State) (n : Nat) : Bool :=
  match s.lan n with | some l => l.state == .joined && !l.adrift | none => false

/-- A cell of the root with a lantern in an absolute slot of a port. -/
def asgAt (s : State) (k asn : Nat) : List CellAsg :=
  s.mac.cells.filter (fun a => a.at_ asn && (match s.lan a.lantern with | some l => l.port == k | none => false))

/-- Some partner is ADRIFT. -/
def anyAdrift (s : State) : Bool := s.mac.lanterns.any (fun p => p.2.adrift && p.2.state == .joined)

/-- The port of the RENDEZVOUS window: B; A in ANNEX role, and where the span has no port B (Table 5.3, log entry 116). -/
def rendezvousPort (s : State) : Nat := if ownPort s 1 && !(s.port 1).failed then 1 else 0

/-- The kinds of cell that a slot of a port may hold (Table 5.3). -/
def slotKinds (s : State) (k slot : Nat) : List CellKind :=
  if slot = 0 then [.beacon]
  else if slot = 1 then (if s.standby || s.live 0x0A00 == 1 then [.echo] else [.shared])
  else if slot < 10 then [.beacon]
  else if slot < 20 then (if k = 0 then [.flood] else [])
  else if slot < 90 then [.dedicated, .shared] ++ (if s.twin.link = .up then [.echo] else [])
  else if slot < 98 ∧ k = rendezvousPort s ∧ anyAdrift s = true then [.rendezvous]
  else [.shared]

/-- A window in the slot that follows opens before that slot begins, and borrows the end of this one: an assigned cell's, or that of
the RENDEZVOUS window (R163). -/
def borrowed (s : State) (k asn : Nat) : Bool :=
  (asgAt s k asn).any (fun a => a.kind != .down && partnerRuns s a.lantern && (match s.lan a.lantern with
    | some l => early s (guardNs s l)
    | none => false))
  || (asn % 100 == 90 && k == rendezvousPort s && anyAdrift s && early s (widest s (fun l => l.state == .joined && l.adrift)))

/-- A cell in which the module listens (Table 5.4). -/
def listens (s : State) (c : Cell) : Bool :=
  match c.kind with
  | .beacon => c.slot != 0 || s.standby
  | .echo => c.slot == 1 && !s.standby
  | .rendezvous => true
  | _ => !c.transmit

/-- A window that opens early needs the slot before it, where no other cell may have run (R163). -/
def slotBefore (s : State) (c : Cell) : Bool :=
  !listens s c || !early s (cellGuard s c) || (s.port c.port).ranTo != cellAsn s c

/-- The cell is the one its kind has there: DEDICATED and BEACON cells as assigned and with a partner whose cells run, SHARED
cells where none is assigned; the root's own cells use offset 0 (R164, R165, R167, R182). -/
def cellOwned (s : State) (c : Cell) : Bool :=
  let here := asgAt s c.port (cellAsn s c)
  let mine (k : AsgKind) : Bool := here.any (fun a => a.kind == k && shortOf a.lantern == c.peer && a.offset == c.offset)
    && (lanOf c.peer).any (partnerRuns s)
  match c.kind with
  | .dedicated => c.offset == 0 && mine (if c.transmit then .down else .up)
  | .beacon => if c.slot = 0 then c.offset == 0 else !c.transmit && mine .beacon
  | .shared => c.offset == 0 && here == []
  | _ => c.offset == 0

/-- A cell that the MAC runs now (R161 to R167, R170): its slot has begun, the slotframe has it there, a cell of two slots begins
on an even slot, the port is not kept free for an echo, and neither its window nor the next borrows the end of a slot in use. -/
def cellRuns (s : State) (c : Cell) : Bool :=
  let asn := cellAsn s c
  asnNow s == asn && ownPort s c.port && (slotKinds s c.port c.slot).contains c.kind && cellOwned s c
    && (cellLen s (ackedCell c) == 1 || c.slot % 2 == 0)
    && (s.standby || (s.port c.port).echoAt != some asn)
    && slotBefore s c && !borrowed s c.port (asn + cellLen s (ackedCell c))

/-! ### Transmission in a cell (R166, R176, R187) -/

/-- May this transaction be attempted in the cell (R166, R176, R182, R183, R225)? -/
def eligible (s : State) (c : Cell) (t : Txn) : Bool :=
  t.st != .awaiting && !(s.mac.attempts.any (fun a => a.txn == t.id)) && cellAsn s c + cellLen s true - 1 < t.expiryAsn
    && (match s.lan t.lantern with | some l => l.state == .joined && !l.holds | none => false)
    && (match lanOf (hopOf s t) with
      | some h => (match s.lan h with | some l => l.port == c.port && !l.adrift && l.state != .lost | none => false)
      | none => false)
    && (c.kind == .shared || hopOf s t == c.peer)

/-- Cell kinds on the twin link: the spec gives the field no codes, so the code is a free value. -/
def kindCode (k : CellKind) : Nat :=
  match k with
  | .beacon => Config.unstated 2 0 | .shared => Config.unstated 2 1 | .dedicated => Config.unstated 2 2
  | .echo => Config.unstated 2 3 | .flood => Config.unstated 2 4 | .rendezvous => Config.unstated 2 5

/-- ECHO_FEED of a frame for the cell that will repeat it (R381). -/
def echoFeed (k asn : Nat) (kind : CellKind) (plain : Bytes) (s : State) : State :=
  twinSend 0x09 ([byte k] ++ le 5 asn ++ [byte (kindCode kind), 0] ++ plain) s

/-- A downlink frame is fed to the standby, and the position of its echo kept free (R166). -/
def feedEcho (k asn : Nat) (kind : CellKind) (plain : Bytes) (s : State) : State :=
  modPort k (fun q => { q with echoAt := some asn }) (echoFeed k asn kind plain s)

/-- The retries that the header tells of while its octet 15 is on the air, the attempt now due among them (R225, R228). -/
def toldNow (s : State) (t : Txn) : Nat :=
  if t.frag = 15 / fragSize s then t.retries + b2n (0 < t.attempts) else t.told

/-- A unicast attempt in a DEDICATED or SHARED cell (R166, R176, R177). A message that 16 fragments do not hold is not sent (R213). -/
def sendUnicast (c : Cell) (s : State) : State :=
  match s.mac.txns.find? (fun t => tabled s t.id && eligible s c t) with
  | none => s
  | some t0 =>
    let s := takeTxn t0 s
    let s := modTxn t0.id (fun t => { t with told := toldNow s t }) s
    match s.txn t0.id with
    | none => s
    | some t =>
      if 15 < lastFrag s t then settle t .unreachable s else
      let q := s.mac.macSeq
      let hop := hopOf s t
      let body := fragBody s t
      let psdu := dataFrame s q hop body
      let s := useCounter (s.mac.phase + 1) (s.modMac (fun m => { m with macSeq := (m.macSeq + 1) % 256 }))
      let echoed := c.kind == .dedicated && s.twin.latch && s.twin.link == .up
      let asn := cellAsn s c + cellLen s true
      let plain := le 2 fcData ++ [byte q] ++ le 2 hop ++ le 2 s.short ++ body
      let a : Attempt :=
        { port := c.port, txn := t.id, seqNo := q, shared := c.kind == .shared, echo := if echoed then some asn else none,
          noAck := false }
      match transmit c psdu s with
      | (s, .suppressed) => s
      | (s, .sent) => beginAttempt a (if echoed then feedEcho c.port asn c.kind plain s else s)
      | (s, .failed) =>
        if echoed then beginAttempt { a with noAck := true } (feedEcho c.port asn c.kind plain s)
        else endAttempt a false (beginAttempt a s)

/-! ### Floods (R187, R188, R215, R261) -/

/-- FLOOD cells counted consecutively (R262), and the end of the k-th, in ns of span time. -/
def floodCell (asn : Nat) : Nat := asn / 100 * 10 + (asn % 100 - 10)
def floodCellEnd (s : State) (k : Nat) : Nat := s.mac.epoch + (k / 10 * 100 + 11 + k % 10) * 10 * ms

/-- The FLOOD cell that follows one. -/
def nextFloodAsn (asn : Nat) : Nat := if asn % 100 < 19 then asn + 1 else (asn / 100 + 1) * 100 + 10

/-- An entry of the seen cache: the oldest goes when it is full (R188). -/
def addSeen (origin seq : Nat) (s : State) : State :=
  s.modMac (fun m => { m with seen := (m.seen ++ [(origin, seq, m.cycle)]).drop (m.seen.length + 1 - 1024) })

def isSeen (s : State) (origin seq : Nat) : Bool :=
  s.mac.seen.any (fun e => e.1 == origin && e.2.1 == seq && s.mac.cycle < e.2.2 + 64)

/-- The reply of the command whose flood is originated (R205, R270). -/
def floodReply (c : LiveCmd) (f : Flood) (seq : Nat) (s : State) : Bytes :=
  if c.opcode = 0x0503 then
    sub f.payload 0 2 ++ [byte f.ttl, 0] ++ sub f.payload 4 10 ++ le 2 seq ++ zeros 2 ++ le 4 s.mac.cycle ++ zeros 2
  else le 2 seq ++ zeros 2 ++ le 4 s.mac.cycle

/-- A flood is on the air: its command completes, and a scene launch's next copy is queued (R205, R261, R270). -/
def floodSent (f : Flood) (seq asn : Nat) (s : State) : State :=
  let s := addSeen 0x1000 seq (s.modMac (fun m => { m with floodSeq := seq, floodsUsed := m.floodsUsed + 1 }))
  let s := if 0 < f.repeats then
      queueFlood { f with owner := none, notBefore := asn + 1, repeats := f.repeats - 1 } s
    else s
  match f.owner with
  | none => s
  | some q => match s.cmdSeq q with
    | some c => complete c stOk dNone (floodReply c f seq s) s
    | none => lateSuccess (fun r => r.seq == q && r.wait == .flood) stOk s

/-- A copy of a scene launch is sent only if its last relay cell ends before the apply time (R261). -/
def copyInTime (s : State) (f : Flood) (asn : Nat) : Bool :=
  f.owner.isSome || f.applyNs == 0 || floodCellEnd s (floodCell asn + 4 * (f.ttl - 1)) < f.applyNs

/-- A FLOOD cell of the lease holder: the first flood due is originated (R187). -/
def originate (c : Cell) (s : State) : State :=
  let asn := cellAsn s c
  let s := s.modMac (fun m => { m with floods := m.floods.filter (fun f => asn < f.notBefore || copyInTime s f asn) })
  match s.mac.floods.find? (fun f => decide (f.notBefore ≤ asn) && tabled s f.id) with
  | none => s
  | some f =>
    let seq := (s.mac.floodSeq + 1) % 65536
    let psdu := floodFrame s f seq
    match transmit c psdu s with
    | (s, .sent) =>
      let s := s.modMac (fun m => { m with floods := m.floods.eraseP (· == f) })
      let s := if s.twin.latch then echoFeed c.port (nextFloodAsn asn) .flood (psdu.take (psdu.length - 2)) s else s
      floodSent f seq asn s
    | (s, _) => s

/-! ### The standby's cells (R381, R382) -/

/-- The feed for a cell of the standby. -/
def feedFor (c : Cell) (s : State) : Option (Nat × Nat × Nat × Bytes) :=
  s.twin.feeds.find? (fun f => f.1 == c.port && f.2.1 == cellAsn s c)

def dropFeed (f : Nat × Nat × Nat × Bytes) (s : State) : State := s.modTwin (fun t => { t with feeds := t.feeds.eraseP (· == f) })

/-- What became of a copy that no acknowledgement answers: sent, or not sent (Table 11.2; DEDUCED, log entry 152). -/
def sentOutcome (r : TxRes) : Nat := match r with | .sent => 1 | _ => 2

/-- The standby repeats what was fed for the cell, and reports it (R381). -/
def echoCell (c : Cell) (s : State) : State :=
  let asn := cellAsn s c
  match feedFor c s with
  | none => s
  | some f =>
    let p := f.2.2.2
    let s := dropFeed f s
    if c.kind = .flood then
      let x := transmit c (withFcs p) (if isSeen s 0x1000 (fld p 6 2) then s else addSeen 0x1000 (fld p 6 2) s)
      echoResult c.port asn (sentOutcome x.2) x.1
    else
      let q := fld p 2 1
      let dst := fld p 3 2
      let psdu := dataFrame s q dst (p.drop 7)
      match transmit c psdu (useCounter (s.mac.phase + 1) s) with
      | (s, .sent) =>
        let a : Attempt := { port := c.port, txn := echoTxn dst, seqNo := q, shared := false, echo := some asn, noAck := false }
        s.modMac (fun m => { m with attempts := m.attempts ++ [a] })
      | (s, _) => echoResult c.port asn 2 s

/-- The standby's own beacon in slot 1, whether or not one was fed for it (R164, R381, R382). -/
def standbyBeacon (c : Cell) (s : State) : State :=
  let x := transmit c (beaconFrame s (cellAsn s c)) (useCounter (s.mac.phase + 1) s)
  let told := match feedFor c s with
    | some f => echoResult c.port (cellAsn s c) (sentOutcome x.2) (dropFeed f x.1)
    | none => x.1
  if x.2 = .suppressed then ev evBeaconSuppressed [] told else told

/-! ### CELL_START -/

/-- ADRIFT partners that stand for their rendezvous channel: the lowest index of each channel (R182). -/
def rendezvousTurns (s : State) : List Nat :=
  let n := rgN (s.mac.region.getD [])
  let l := (s.mac.lanterns.filter (fun p => p.2.adrift && p.2.state == .joined)).map (·.1)
  l.filter (fun a => !l.any (fun b => decide (b < a) && b % n == a % n))

/-- The next of them, round-robin in order of lantern index (R182). -/
def nextAdrift (s : State) : Option Nat :=
  let l := rendezvousTurns s
  (l.find? (fun n => s.mac.rendezvous < n)).orElse (fun _ => l.head?)

/-- Join response frames wait for slots 98 and 99 (Table 6.6 step 5). -/
def sendJoin (c : Cell) (s : State) : State :=
  match s.mac.joinTx.find? (fun f => f.2.1 == c.port) with
  | none => s
  | some f => match transmit c f.2.2 s with
    | (s, .suppressed) => s
    | (s, _) => s.modMac (fun m => { m with joinTx := m.joinTx.eraseP (· == f) })

/-- A SHARED cell of a port: it counts towards the wait of R177, whatever is done in it. The module transmits a join frame due there,
or once it has waited what is next; else it listens. -/
def sharedCell (c : Cell) (s : State) : State :=
  let waits : Bool := 0 < (s.port c.port).backoff
  let s := modPort c.port (fun q => { q with backoff := q.backoff - 1 }) s
  if !c.transmit then listen c s
  else if 98 ≤ c.slot ∧ s.mac.joinTx.any (fun f => f.2.1 == c.port) then sendJoin c s
  else if waits then s
  else if s.holder then sendUnicast c s
  else s

/-- Attempts left without an outcome when the next cell on the port begins have failed. -/
def staleAttempts (k : Nat) (s : State) : State :=
  (s.mac.attempts.filter (fun a => a.port == k)).foldl (fun s a =>
    if a.noAck && a.echo.any (fun e => asnNow s ≤ e) then s else lostAttempt a s) s

/-- The RENDEZVOUS window: its channel is chosen once a cycle (R182). -/
def rendezvousCell (c : Cell) (s : State) : State :=
  if s.mac.rendezvousCycle = s.mac.cycle + 1 then listen c s
  else
    match nextAdrift s with
    | some n => listen c (s.modMac (fun m => { m with rendezvous := n, rendezvousCycle := m.cycle + 1 }))
    | none => s

/-- A FLOOD cell of the span: a flood that was heard is rebroadcast when its cells have passed; else the standby repeats what was fed,
the lease holder originates, or the module listens (R187). -/
def floodCellOf (c : Cell) (s : State) : State :=
  let due := s.mac.relays.find? (fun r => r.1 == 0)
  let s := s.modMac (fun m => { m with relays := (m.relays.filter (fun r => some r != due)).map (fun r => (r.1 - 1, r.2)) })
  if !c.transmit then listen c (s.modMac (fun m => { m with relays := due.toList ++ m.relays }))
  else match due with
    | some r => (transmit c r.2 s).1
    | none => if s.standby then echoCell c s else originate c s

/-- What the module does in a cell of the span (Table 5.4). The root's beacons are CYCLE_BOUNDARY's. -/
def cellStart (c : Cell) (s : State) : State :=
  match c.kind with
  | .beacon => if c.slot ≠ 0 || s.standby then listen c s else s
  | .shared => sharedCell c s
  | .dedicated => if !c.transmit then listen c s else if s.holder then sendUnicast c s else s
  | .echo =>
    if c.slot = 1 then (if s.standby then standbyBeacon c s else listen c s)
    else if s.standby then echoCell c s
    else s
  | .flood => floodCellOf c s
  | .rendezvous => rendezvousCell c s

/-- A cell of the span begins: what is left of the cell before ends, and the guard of its partner is evaluated (R181). -/
def spanCell (c : Cell) (s : State) : State :=
  let s := staleAttempts c.port s
  let s := (match lanOf c.peer with | some n => checkAdrift n s | none => s)
  if cellRuns s c then
    cellStart c (modPort c.port (fun q => { q with ranTo := cellAsn s c + cellLen s (ackedCell c) }) s)
  else s

/-! ### Acknowledgement -/

/-- The EUI-64 behind a short address, as the nonce needs it. -/
def euiOf (s : State) (short : Nat) : Option Nat :=
  if short = 0x1000 ∨ short = 0x1001 then s.twin.hello.map (fun h => h.unitId % 2 ^ 64)
  else match lanOf short with
    | some n => (s.lan n).map (·.eui)
    | none => none

/-- A frame's counter must exceed the highest accepted of its key and source (R172, R216). -/
def counterOk (s : State) (key ctr : Nat) : Bool := match get? s.mac.rxCounters key with | some h => h < ctr | none => true

def acceptCounter (key ctr : Nat) (s : State) : State :=
  (if key / 65536 = 1 ∨ key / 65536 = 2 then stoneNetwork (key / 65536 - 1) s else s).modMac (fun m => { m with rxCounters := put m.rxCounters key ctr })

/-- A passed frame that fails verification is dropped and counted (R172). -/
def securityDrop (s : State) : State := s.modMac (fun m => { m with securityDrops := m.securityDrops + 1 })

/-- The lantern an attempt was sent to, or the destination of an echo. -/
def attemptDst (s : State) (a : Attempt) : Nat :=
  if 2 ^ 64 ≤ a.txn then a.txn - 2 ^ 64 else match s.txn a.txn with | some t => hopOf s t | none => 0

/-- The outcome of an acknowledgement: a NACK is a failed attempt (R212). -/
def acked (a : Attempt) (nack : Bool) (s : State) : State :=
  if 2 ^ 64 ≤ a.txn then
    echoResult a.port (a.echo.getD 0) (b2n nack) (s.modMac (fun m => { m with attempts := m.attempts.filter (fun x => x != a) }))
  else endAttempt a (!nack) s

/-- The form of an enhanced ACK (Table 6.1, R212): level 1, key ID mode 0, one Time Correction IE of 2 octets. -/
def ackForm (p : Bytes) : Bool :=
  p.length == 20 && fcsOk p && (fld p 0 2 == fcAck || fld p 0 2 == fcAck + 16) && fld p 5 1 == 0x01 && fld p 10 2 == 2 + 0x1E * 128

/-- An enhanced ACK, verified under the key in use (R211, R212). -/
def enhancedAck (a : Attempt) (p : Bytes) (s : State) : State :=
  let dst := attemptDst s a
  let idx := s.mac.phase + 1
  let ctr := fld p 6 4
  if !ackForm p ∨ fld p 2 1 ≠ a.seqNo ∨ fld p 3 2 ≠ s.short then s
  else match euiOf s dst with
    | none => s
    | some eui =>
      let ok := ccmSeal (netKey s s.mac.phase) (nonceOf eui ctr 1) (p.take 14) [] 4 == sub p 14 4
      if ok ∧ counterOk s (65536 * idx + dst) ctr then
        let s := acceptCounter (65536 * idx + dst) ctr s
        let s := (match lanOf dst with | some n => contact n s.spanNs s | none => s)
        acked a ((fld p 12 2).testBit 15) s
      else securityDrop s

/-! ### Reception (R172 to R174, R211 to R216, R225, R226) -/

/-- The instant of span time at which the ACK to a frame begins: 250 us after its end (Table 5.1 step 5). -/
def ackStart (s : State) (f : RxFrame) : Nat := f.at_ + (airUs s f.port f.psdu.length * us - tShr s) + 250 * us

/-- The ACK to a frame would end by step 6 of Table 5.1 in the cell that begins in a slot (R173). -/
def ackFits (s : State) (f : RxFrame) (cellEnd : Nat) : Bool := decide (ackStart s f + airUs s f.port 20 * us ≤ cellEnd - 50 * us)

/-- The end of the cell in which a frame came. -/
def cellEndOf (s : State) (f : RxFrame) : Nat :=
  slotStart s (asnAt s (((f.at_ : Int) - f.deviation).toNat) + cellLen s true)

/-- An ACK leaves at its instant: TX_LOAD and TX_ARM, then the launch, unless R171 suppresses it (R173, Table 5.11). -/
def sendAck (k start idx : Nat) (psdu miso : Bytes) (use : Nat → State → State) (s : State) : State :=
  match suppressed k (s.port k).channel start psdu s with
  | some s => s
  | none =>
    let r := runSeqs k (s.port k).channel psdu [3, 4] miso (use idx s)
    if r.2.1 then launch k (s.port k).channel start psdu r.1 else resetPort k r.2.2 r.1

/-- The ACK engine (R173): the correction, and the pending bit of the source. -/
def ackEngine (f : RxFrame) (miso : Bytes) (s : State) : State :=
  let p := f.psdu
  let src := fld p 5 2
  let idx := fld p 12 1
  if ackFits s f (cellEndOf s f) then
    sendAck f.port (ackStart s f) idx
      (ackFrame s (fld p 2 1) src (match lanOf src with | some n => pendingBit s n | none => false) (roundDiv f.deviation us) (idx - 1))
      miso useCounter s
  else s

/-- A response of the module to a confirmed message of a node (R226, R228). -/
def respond (n seq status retries : Nat) (s : State) : State :=
  sendMsg none n 0x001B false (le 2 seq ++ [byte status, byte retries]) (s.now + 60 * sec) s

/-- Uplink message types (Table 6.8). -/
def upTypes : List Nat :=
  [0x0012, 0x0013, 0x0015, 0x0016, 0x0018, 0x0019, 0x001A, 0x001B, 0x0106, 0x0206] ++
  [0x0301, 0x0302, 0x0303, 0x0304, 0x0305, 0x0402, 0x0404]

/-- R226: a is newer than b. -/
def newer (a b : Nat) : Bool := let d := (a + 65536 - b) % 65536; 1 ≤ d && d ≤ 32767

/-- How R226 takes a sequence: new, duplicate or stale, and the record after it. -/
inductive SeqRes where
  | fresh | duplicate | stale
deriving DecidableEq, Repr

/-- How a receiver with a highest value and its record of 64 takes a sequence, and both after it. -/
def seqMark (high : Option Nat) (record q : Nat) : SeqRes × Nat × Nat :=
  match high with
  | none => (.fresh, q, 1)
  | some h =>
    if newer q h then
      let d := (q + 65536 - h) % 65536
      (.fresh, q, if 64 ≤ d then 1 else (record * 2 ^ d + 1) % 2 ^ 64)
    else
      let d := (h + 65536 - q) % 65536
      if 64 ≤ d then (.stale, h, record)
      else if record.testBit d then (.duplicate, h, record)
      else (.fresh, h, record + 2 ^ d)

/-- A lantern's uplink sequence. -/
def seqCheck (l : Lantern) (q : Nat) : SeqRes × Lantern :=
  let r := seqMark l.upHigh l.upRecord q
  (r.1, match r.1 with | .fresh => { l with upHigh := some r.2.1, upRecord := r.2.2 } | _ => l)

/-- A message for the module itself: numbered, de-duplicated, and kept for its row (R226, R229). -/
def deliver (k src : Nat) (m : Bytes) (at_ : Nat) (s : State) : State :=
  let origin := fld m 4 2
  match lanOf origin with
  | none => s
  | some n => match s.lan n with
    | none => s
    | some l =>
      let ctl := fld m 2 1
      let q := fld m 8 2
      let r := fld m 15 1
      let conf := ctl.testBit 0
      let s := contact n at_ s
      match seqCheck l q with
      | (.duplicate, _) => if conf then respond n q 1 r s else s
      | (.stale, _) => if conf then respond n q 2 r s else s
      | (.fresh, l') =>
        let s := modLan n (fun x => { x with upHigh := l'.upHigh, upRecord := l'.upRecord }) s
        let ty := fld m 0 2
        if upTypes.contains ty then
          let msg : InMsg :=
            { type := ty, origin := origin, src := src, confirmed := conf, seq := q, retries := r,
              payload := m.drop (16 + 2 * (ctl / 16)), at_ := at_, port := k }
          s.modMac (fun x => { x with inbox := x.inbox ++ [msg] })
        else if conf then respond n q 3 r s
        else s

/-- A message for another node is forwarded along its route, exact repeats within 32 cycles excepted (R225). -/
def forwardMsg (m : Bytes) (s : State) : State :=
  let h := fld m 2 1 / 16
  let ptr := fld m 3 1
  let dst := fld m 6 2
  let key := (fld m 4 2, dst, fld m 8 2)
  let next := if ptr < h then fld m (16 + 2 * ptr) 2 else dst
  let exp := fld m 10 5
  if s.mac.forwarded.any (fun e => (e.1, e.2.1, e.2.2.1) == key && s.mac.cycle < e.2.2.2 + 32) then s
  else match lanOf next with
    | none => s
    | some n =>
      if (s.lan n).isNone ∨ exp ≤ asnNow s then s
      else
        let s := s.modMac (fun x => { x with
          forwarded := (x.forwarded.filter (fun e => x.cycle < e.2.2.2 + 32)) ++ [(key.1, key.2.1, key.2.2, x.cycle)] })
        sendMsg none n tyRelay false (m.take 3 ++ [byte (if ptr < h then ptr + 1 else ptr)] ++ m.drop 4)
          (s.now + (exp - asnNow s) * 10 * ms) s

/-- A whole message: too short a one carries no mesh header. -/
def message (k src : Nat) (m : Bytes) (at_ : Nat) (s : State) : State :=
  if m.length < 16 + 2 * (fld m 2 1 / 16) then s
  else if fld m 6 2 = 0x1000 then deliver k src m at_ s
  else forwardMsg m s

/-- A link fragment joins the reassembly of its source, which 8 cycles end (R213): what stays, and the message once whole. -/
def reassemble (l : List MeshReasm) (src cycle : Nat) (body : Bytes) : List MeshReasm × Option Bytes :=
  let i := fld body 0 1 / 16
  let last := fld body 0 1 % 16
  let part := body.drop 1
  let rest := l.filter (fun x => x.src != src && decide (cycle < x.since + 8))
  if last = 0 then (rest, some part)
  else
    let r : MeshReasm := match l.find? (fun x => x.src == src && x.last == last && decide (cycle < x.since + 8)) with
      | some x => { x with parts := put x.parts i part }
      | none => { src := src, last := last, parts := [(i, part)], since := cycle }
    if r.parts.length = last + 1 then (rest, some (r.parts.flatMap (·.2))) else (rest ++ [r], none)

/-- Link fragments of one hop are put together (R191, R213). -/
def linkFragment (k src : Nat) (body : Bytes) (at_ : Nat) (s : State) : State :=
  let r := reassemble s.mac.reasm src s.mac.cycle body
  let s := s.modMac (fun m => { m with reasm := r.1 })
  match r.2 with
  | some m => message k src m at_ s
  | none => s

/-- A frame the address filter does not pass (R172). -/
def filterDrop (s : State) : State := s.modMac (fun m => { m with filterDrops := m.filterDrops + 1 })

/-- A data frame to the module (R172, R173, R211, R216). -/
def rxData (f : RxFrame) (miso : Bytes) (s : State) : State :=
  let p := f.psdu
  let dst := fld p 3 2
  let src := fld p 5 2
  let ctr := fld p 8 4
  let idx := fld p 12 1
  if p.length < 19 ∨ fld p 7 1 ≠ 0x0D ∨ !(dst = 0x1000 ∨ (dst = 0x1001 ∧ s.standby)) then filterDrop s
  else
    let s := if dst = s.short then ackEngine f miso s else s
    match euiOf s src, get? s.mac.netKeys (idx - 1) with
    | some eui, some key =>
      match ccmOpen key (nonceOf eui ctr 5) (p.take 13) (sub p 13 (p.length - 15)) 4 with
      | some body =>
        if 1 ≤ idx ∧ counterOk s (65536 * idx + src) ctr then
          let s := acceptCounter (65536 * idx + src) ctr s
          let s := (match lanOf src with | some n => contact n f.at_ s | none => s)
          if dst = 0x1000 ∧ s.holder then linkFragment f.port src body f.at_ s else s
        else securityDrop s
      | none => securityDrop s
    | _, _ => securityDrop s

/-- A verified beacon joins the inbox (BEACON_RECEIVED). -/
def keepBeacon (f : RxFrame) (body : Bytes) (s : State) : State :=
  s.modMac (fun m => { m with inbox := m.inbox ++ [
    { type := 0, origin := fld f.psdu 6 2, src := fld f.psdu 6 2, confirmed := false, seq := fld f.psdu 2 2,
      retries := (s.port f.port).channel, payload := body, at_ := f.at_, port := f.port }] })

/-- The form of a beacon (Table 6.1). -/
def beaconForm (p : Bytes) : Bool := p.length == 32 && fld p 4 2 == 0xFFFF && fld p 8 1 == 0x01

/-- A beacon of the span (Table 6.4): its key is named by the phase bit of its body (R214). -/
def rxBeacon (f : RxFrame) (s : State) : State :=
  let p := f.psdu
  let src := fld p 6 2
  let ctr := fld p 9 4
  let body := sub p 13 13
  let phase := bits (fld body 9 1) 4 4
  if !beaconForm p ∨ fld p 2 2 ≠ panId s then filterDrop s
  else
    match euiOf s src, get? s.mac.netKeys phase with
    | some eui, some key =>
      let cid := 65536 * (phase + 1) + src
      if ccmSeal key (nonceOf eui ctr 1) (p.take 26) [] 4 == sub p 26 4 && counterOk s cid ctr then
        keepBeacon f body (acceptCounter cid ctr s)
      else securityDrop s
    | _, _ => securityDrop s

/-- The source EUI-64 of a join request and the offset of its security header (Tables 5.6 and 6.1). -/
def joinSource (p : Bytes) : Nat × Nat := if fld p 0 2 = fcJoinReqExt then (fld p 11 8, 19) else (fld p 5 8, 13)

/-- A join request reaches the root directly (Table 6.6 step 3), at its short or its extended address; its verification is
JOIN_REQUEST's. One to the root passes on the standby as well, which leaves it to the lease holder (R172). -/
def rxJoin (f : RxFrame) (s : State) : State :=
  let p := f.psdu
  let here : Bool := if fld p 0 2 = fcJoinReqExt then fld p 3 8 == s.eui else fld p 3 2 == 0x1000
  if p.length < 24 ∨ !here ∨ fld p (joinSource p).2 1 ≠ 0x05 then filterDrop s
  else if s.standby then s
  else s.modMac (fun m => { m with inbox := m.inbox ++ [
    { type := 0x0010, origin := (joinSource p).1, src := 0x1000, confirmed := false, seq := fld p 2 1, retries := 0,
      payload := p.take (p.length - 2), at_ := f.at_, port := f.port }] })

/-- The MIC of a flood holds under a key and a root EUI-64 (R215). -/
def floodOk (key : Bytes) (eui : Nat) (p : Bytes) : Bool :=
  let ctl := fld p 4 2
  let seq := fld p 6 2
  decide (16 ≤ p.length) && ccmSeal key (nonceOf eui (0x80000000 + seq) 1)
      (p.take 4 ++ le 2 (ctl - ctl % 32) ++ sub p 6 (p.length - 12)) [] 4 == sub p (p.length - 6) 4

/-- A broadcast passes in a SHARED, FLOOD or RENDEZVOUS cell (Table 5.6). -/
def broadcastCell (k : CellKind) : Bool := match k with | .shared => true | .flood => true | .rendezvous => true | _ => false

/-- A flood's frame with its TTL less 1 (R187). -/
def relayFrame (p : Bytes) : Bytes := withFcs (p.take 4 ++ le 2 (fld p 4 2 - 1) ++ sub p 6 (p.length - 8))

/-- A flood of the span heard (R187, R188, R215): verified and new to the seen cache, it is rebroadcast once while its TTL lasts. The
module is the origin, or its standby: a member of no group, to which a flood brings nothing to do (log entry 118). -/
def rxFlood (f : RxFrame) (s : State) : State :=
  let p := f.psdu
  if !broadcastCell f.kind then filterDrop s
  else match get? s.mac.netKeys (bits (fld p 4 2) 12 12) with
    | none => securityDrop s
    | some key =>
      if !floodOk key s.rootEui p then securityDrop s
      else if isSeen s 0x1000 (fld p 6 2) then s
      else
        let s := addSeen 0x1000 (fld p 6 2) s
        if fld p 4 2 % 32 < 2 then s
        else s.draw.modMac (fun m => { m with relays := m.relays ++ [(Config.freeNat s.freeIdx % 4, relayFrame p)] })

/-- The address filter and what each form of frame of the span leads to (R172, R211). -/
def receiveFrame (f : RxFrame) (miso : Bytes) (s : State) : State :=
  let fc := fld f.psdu 0 2
  if !fcsOk f.psdu then filterDrop s
  else if fc = fcBeacon then rxBeacon f s
  else if fc = fcData then rxData f miso s
  else if fc = fcJoinReq ∨ fc = fcJoinReqExt then rxJoin f s
  else if fc = fcFlood ∧ fld f.psdu 2 2 = 0xFFFF then rxFlood f s
  else filterDrop s

end Sys2Proof.Machine
end

