-- ==== Sys2Proof/Machine/Lamp.lean ====
section
/-! DEFINITION. The lamp engine: spread dimming, fades, colour, claims, apply instants, LD_EN and LD_FAULT_N (R134 to R136,
R244 to R267), and the events of the local outputs. Arithmetic is exact or in fixed point. -/

namespace Sys2Proof.Machine

/-! ### Channels and colour sets (R253, Table 7.10) -/

def chCfg (s : State) (n : Nat) : Nat := s.live (0x0520 + n)
def chOn (s : State) (n : Nat) : Bool := (chCfg s n).testBit 0
def chSpread (s : State) (n : Nat) : Nat := bits (chCfg s n) 4 1
def chRole (s : State) (n : Nat) : Nat := bits (chCfg s n) 7 5
def chGroup (s : State) (n : Nat) : Nat := bits (chCfg s n) 11 8
def chInvert (s : State) (n : Nat) : Bool := (chCfg s n).testBit 12
def chStagger (s : State) (n : Nat) : Nat := bits (chCfg s n) 31 16

def outputs : List Nat := List.range 24

/-- The channels of a colour group. -/
def members (s : State) (g : Nat) : List Nat := outputs.filter (fun n => chGroup s n == g)

/-- The colour models (Table 7.2). -/
inductive ColModel where
  | tunableWhite | rgb | rgbw | rgbTw
deriving DecidableEq, Repr

def modelOf (roles : List Nat) : Option ColModel :=
  let has (l : List Nat) : Bool := roles.length == l.length && l.all roles.contains
  if has [1, 2] then some .tunableWhite
  else if has [3, 4, 5] then some .rgb
  else if has [3, 4, 5, 6] then some .rgbw
  else if has [1, 2, 3, 4, 5] then some .rgbTw
  else none

def groupModel (s : State) (g : Nat) : Option ColModel := if g < 8 then modelOf ((members s g).map (chRole s)) else none

def State.ch (s : State) (n : Nat) : LampCh := s.lamp.chans.getD n default

def modCh (n : Nat) (f : LampCh → LampCh) (s : State) : State := s.modLamp (fun l => { l with chans := modAt l.chans n f })
def modGroup (g : Nat) (f : ColSet → ColSet) (s : State) : State := s.modLamp (fun l => { l with groups := modAt l.groups g f })

/-- A set with a calibration entry of each channel's own role (R257). -/
def calibrated (s : State) (g : Nat) : Bool :=
  (members s g).all (fun n => match (s.ch n).cal with | some c => c.role == chRole s n | none => false)

/-! ### Spread dimming (R246) -/

/-- The duty with the minimum-pulse adjustments. -/
def clampDuty (m d : Nat) : Nat :=
  let t := if d < m then m else d
  if 65536 - t < m then 65536 - m else t

/-- The derived spread j: k halved away until both test intervals are at least m. -/
def spreadJ (m t : Nat) : Nat → Nat
  | 0 => 0
  | j + 1 =>
    let n := 2 ^ (j + 1)
    if t / n < m ∨ 65536 / n - (t + n - 1) / n < m then spreadJ m t j else j + 1

/-- j and MIN_CLAMPED as LAMP_STATUS reports them. -/
def spreadOf (s : State) (n : Nat) : Nat × Bool :=
  let d := (s.ch n).duty
  let m := s.live 0x0502
  if d = 0 ∨ d = 65535 then (0, false)
  else (spreadJ m (clampDuty m d) (chSpread s n), clampDuty m d != d)

/-- i's j-bit reversal. -/
def bitrev : Nat → Nat → Nat
  | 0, _ => 0
  | j + 1, i => (i % 2) * 2 ^ j + bitrev j (i / 2)

/-- The active ticks of each sub-period (R246). -/
def subPulses (t j : Nat) : List Nat :=
  let n := 2 ^ j
  (List.range n).map (fun i => if bitrev j i < t % n then t / n + 1 else t / n)

/-! ### Fades (R251, R252) -/

/-- floor of the cube root, found bit by bit from bit b − 1. -/
def cbrtBits (x : Nat) : Nat → Nat → Nat
  | 0, r => r
  | b + 1, r => let q := r + 2 ^ b; if q * q * q ≤ x then cbrtBits x b q else cbrtBits x b r

/-- Scale of the LSTAR arithmetic. -/
def lsK : Nat := 10 ^ 15

/-- L* of a duty over 65,535, scaled. -/
def lstar (d : Nat) : Int :=
  if 216 * 65535 < d * 24389 then 116 * (cbrtBits (d * lsK ^ 3 / 65535) 51 0 : Nat) - 16 * (lsK : Nat)
  else (24389 * d * lsK / (27 * 65535) : Nat)

/-- The duty of a scaled L*. -/
def lstarInv (l : Int) : Nat :=
  if 8 * (lsK : Int) < l then
    let q := (l + 16 * (lsK : Int)).toNat
    (2 * 65535 * q ^ 3 + (116 * lsK) ^ 3) / (2 * (116 * lsK) ^ 3)
  else (2 * 65535 * 27 * l.toNat + 24389 * lsK) / (2 * 24389 * lsK)

/-- a + (b − a) × num / den, rounded to the nearest integer, halves up. -/
def mixInt (a b num den : Nat) : Nat := ((2 * ((a : Int) * den + ((b : Int) - a) * num) + den) / (2 * den : Nat)).toNat

/-- The duty at step k of a fade of f steps (R252); the target exactly at the last. -/
def fadeDuty (curve d0 d1 k f : Nat) : Nat :=
  if f ≤ k then d1
  else if curve = 2 then
    let r := Nat.sqrt (16 * k ^ 2 * (f - k) ^ 2 * d0 * d1)
    (2 * (d0 * (f - k) ^ 2 + d1 * k ^ 2) + f ^ 2 + r) / (2 * f ^ 2)
  else if curve = 4 then mixInt d0 d1 (3 * k ^ 2 * f - 2 * k ^ 3) (f ^ 3)
  else if curve = 1 then mixInt d0 d1 k f
  else lstarInv (lstar d0 + (lstar d1 - lstar d0) * k / f)

/-! ### Colour (R254 to R256) -/

/-- Scale of the colour arithmetic. -/
def fx : Int := 10 ^ 15

/-- u and v of a CCT in 10^-6 K, scaled (R254). -/
def uOf (t : Int) : Int :=
  (860117757 * 10 ^ 12 + 154118254 * t * 1000 + 128641212 * t * t / 10 ^ 6) * fx
    / (10 ^ 21 + 842420235 * t * 1000 + 708145163 * t * t / 10 ^ 6)

def vOf (t : Int) : Int :=
  (317398726 * 10 ^ 12 + 422806245 * t * 100 + 420481691 * t * t / 10 ^ 7) * fx
    / (10 ^ 21 - 289741816 * t * 100 + 161456053 * t * t / 10 ^ 6)

/-- The target chromaticity x, y, scaled (R254). -/
def targetXY (p : ColPt) : Int × Int :=
  let t : Int := p.cct
  let du := uOf (t + 1000000) - uOf (t - 1000000)
  let dv := vOf (t + 1000000) - vOf (t - 1000000)
  let norm : Int := (Nat.sqrt (du * du + dv * dv).toNat : Nat)
  let u := uOf t + p.duv * 100000 * dv / norm
  let v := vOf t - p.duv * 100000 * du / norm
  let d := 2 * u - 8 * v + 4 * fx
  (3 * u * fx / d, 2 * v * fx / d)

/-- Tristimulus values, scaled. Their sum is S of R255. -/
structure Tri where
  x : Int
  y : Int
  z : Int
deriving DecidableEq, Repr, Inhabited

def Tri.sum (t : Tri) : Int := t.x + t.y + t.z

/-- X, Y, Z of a calibrated channel at full duty (R255). -/
def triOf (c : CalEntry) : Tri :=
  let yv : Int := (c.flux : Int) * fx
  { x := (c.x : Int) * yv / c.y, y := yv, z := ((65536 : Int) - c.x - c.y) * yv / c.y }

/-- The tristimulus of a chromaticity with Y = 1 (R255). -/
def triXY (x y : Int) : Tri := { x := x * fx / y, y := fx, z := (fx - x - y) * fx / y }

def chromX (t : Tri) : Int := t.x * fx / t.sum
def chromY (t : Tri) : Int := t.y * fx / t.sum

/-- TUNABLE_WHITE of two emitters for a target, the sum of whose luminances is the target's. Coinciding emitters give no
line to project on: λ is then free. -/
def twWeights (t a b : Tri) : Int × Int :=
  let ax := chromX a
  let ay := chromY a
  let dx := chromX b - ax
  let dy := chromY b - ay
  let den := dx * dx + dy * dy
  let num := (chromX t - ax) * dx + (chromY t - ay) * dy
  let l : Int := if den = 0 then ((Config.unstated 7 0 : Nat) : Int) % (fx + 1) else max 0 (min fx (num * fx / den))
  let ra := (fx - l) * b.sum
  let rb := l * a.sum
  let y := (ra * a.y + rb * b.y) / fx
  (t.y * ra / y, t.y * rb / y)

def det3 (a b c : Tri) : Int :=
  a.x * (b.y * c.z - c.y * b.z) - b.x * (a.y * c.z - c.y * a.z) + c.x * (a.y * b.z - b.y * a.z)

/-- RGB weights that reproduce a tristimulus (R255). Emitters on one line give no solution: the weights are then free. -/
def rgbWeights (t r g b : Tri) : Int × Int × Int :=
  let d := det3 r g b
  if d = 0 then
    (((Config.unstated 8 0 : Nat) : Int) % (fx + 1), ((Config.unstated 8 1 : Nat) : Int) % (fx + 1), ((Config.unstated 8 2 : Nat) : Int) % (fx + 1))
  else
    let wr := det3 t g b * fx / d
    let wg := det3 r t b * fx / d
    let wb := det3 r g t * fx / d
    let one (e : Tri) : Int := t.y * fx / e.y
    if wr < 0 ∧ wg < 0 then (0, 0, one b)
    else if wr < 0 ∧ wb < 0 then (0, one g, 0)
    else if wg < 0 ∧ wb < 0 then (one r, 0, 0)
    else if wr < 0 then let w := twWeights t g b; (0, w.1, w.2)
    else if wg < 0 then let w := twWeights t r b; (w.1, 0, w.2)
    else if wb < 0 then let w := twWeights t r g; (w.1, w.2, 0)
    else (wr, wg, wb)

/-- RGBW weights: the white takes as much as every colour can give up (R255). -/
def rgbwWeights (t r g b w : Tri) : Int × Int × Int × Int :=
  let a := rgbWeights t r g b
  let v := rgbWeights w r g b
  let ratio (p q : Int) : List Int := if 0 < q then [p * fx / q] else []
  let cands := ratio a.1 v.1 ++ ratio a.2.1 v.2.1 ++ ratio a.2.2 v.2.2
  let al := max 0 (cands.foldl min (cands.headD 0))
  (max 0 (a.1 - al * v.1 / fx), max 0 (a.2.1 - al * v.2.1 / fx), max 0 (a.2.2 - al * v.2.2 / fx), al)

/-- The tristimulus of the channel of a role in a set. -/
def roleTri (s : State) (g role : Nat) : Tri :=
  match (members s g).find? (fun n => chRole s n == role) with
  | some n => match (s.ch n).cal with | some c => triOf c | none => default
  | none => default

/-- The weights of a set by role, scaled so that the largest is 1 (R255). -/
def setWeights (s : State) (g : Nat) (m : ColModel) (p : ColPt) : List (Nat × Int) :=
  let xy := targetXY p
  let t := triXY xy.1 xy.2
  let tri := roleTri s g
  let raw : List (Nat × Int) := match m with
    | .tunableWhite => let w := twWeights t (tri 1) (tri 2); [(1, w.1), (2, w.2)]
    | .rgb => let w := rgbWeights t (tri 3) (tri 4) (tri 5); [(3, w.1), (4, w.2.1), (5, w.2.2)]
    | .rgbw => let w := rgbwWeights t (tri 3) (tri 4) (tri 5) (tri 6); [(3, w.1), (4, w.2.1), (5, w.2.2.1), (6, w.2.2.2)]
    | .rgbTw =>
      let z := targetXY { p with duv := 0 }
      let q := twWeights (triXY z.1 z.2) (tri 1) (tri 2)
      let top := max q.1 q.2
      let qa := q.1 * fx / top
      let qb := q.2 * fx / top
      let a := tri 1
      let b := tri 2
      let w : Tri := { x := (qa * a.x + qb * b.x) / fx, y := (qa * a.y + qb * b.y) / fx, z := (qa * a.z + qb * b.z) / fx }
      let r := rgbwWeights t (tri 3) (tri 4) (tri 5) w
      [(3, r.1), (4, r.2.1), (5, r.2.2.1), (1, r.2.2.2 * qa / fx), (2, r.2.2.2 * qb / fx)]
  let top := (raw.map (·.2)).foldl max 1
  raw.map (fun e => (e.1, e.2 * fx / top))

/-- The point of a set now: its fade moves linearly in mired and in Duv (R256). -/
def pointNow (c : ColSet) : ColPt :=
  if c.steps = 0 ∨ c.steps ≤ c.step then c.target
  else if c.point.cct = 0 ∨ c.target.cct = 0 then c.target
  else
    let m0 : Int := 10 ^ 21 / (c.point.cct : Int)
    let m1 : Int := 10 ^ 21 / (c.target.cct : Int)
    let m := m0 + (m1 - m0) * c.step / c.steps
    { cct := (10 ^ 21 / m).toNat, duv := c.point.duv + (c.target.duv - c.point.duv) * c.step / c.steps }

/-- The duty a level gives a channel (R245, R256). A calibrated set that has been given no colour point yet has no stated
weights: the duty is then free. -/
def dutyOf (s : State) (n level : Nat) : Nat :=
  let g := chGroup s n
  match groupModel s g with
  | none => level
  | some m =>
    let c := s.lamp.groups.getD g default
    if c.manual || !calibrated s g then level
    else
      let p := pointNow c
      if p.cct = 0 then Config.unstated 9 (level + 65536 * n) % 65536
      else match (setWeights s g m p).find? (fun e => e.1 == chRole s n) with
        | some e => (mixInt 0 level e.2.toNat fx.toNat)
        | none => level

/-- The sub-pulses of a period of `len` ticks: where each begins and ends (R245, R246). -/
def wave (m k d len : Nat) : List (Nat × Nat) :=
  if d = 0 then []
  else if d = 65535 then [(0, len)]
  else
    let t := clampDuty m d
    let j := spreadJ m t k
    ((List.range (2 ^ j)).zip (subPulses t j)).map (fun e => (e.1 * (65536 / 2 ^ j), e.1 * (65536 / 2 ^ j) + e.2))

/-- R250: the period at a change of duty. Sub-pulses already run stay; the one in progress ends when it has run its new width, or
now if it already has, but never before m ticks; later ones are the new duty's. A sub-pulse that began where the new duty begins
none takes the width of the new sub-period it began in (DESIGN CHOICE, log entry 122). -/
def reshape (m tick : Nat) (old new : List (Nat × Nat)) : List (Nat × Nat) :=
  let width (a : Nat) : Nat := match (new.filter (fun w => w.1 ≤ a)).getLast? with | some w => w.2 - w.1 | none => 0
  let cur := (old.filter (fun w => w.1 ≤ tick && tick < w.2)).map (fun w => (w.1, max (w.1 + m) (max tick (w.1 + width w.1))))
  old.filter (fun w => w.2 ≤ tick) ++ cur ++ new.filter (fun w => tick < w.1 || (w.1 == tick && cur == []))

/-- An output takes a duty at the present instant (R250). -/
def takeDuty (s : State) (n d : Nat) (c : LampCh) : LampCh :=
  if d = c.duty then c
  else { c with
    duty := d,
    pulses := reshape (s.live 0x0502) ((s.now - c.periodAt) / 25) c.pulses (wave (s.live 0x0502) (chSpread s n) d c.ticks) }

/-- Duties follow levels and points. -/
def refreshDuty (ns : List Nat) (s : State) : State :=
  ns.foldl (fun s n => modCh n (fun c => takeDuty s n (dutyOf s n c.level) c) s) s

/-- The output stands in a sub-pulse at an elapsed instant. -/
def LampCh.active (c : LampCh) (at_ : Nat) : Bool :=
  c.pulses.any (fun w => decide (c.periodAt + 25 * w.1 ≤ at_) && decide (at_ < c.periodAt + 25 * w.2))

/-- `LDn` at an elapsed instant (R245, R264, R267): high-Z on a member without the lease and from a reset until the engine runs;
its inactive level while `LD_EN` is low or the channel is disabled. -/
def ldPin (s : State) (n at_ : Nat) : PinLevel :=
  if !s.twin.interlock || s.boot.phase != .firmware || !bankGood 2 s then .highZ
  else if (s.lamp.ldEn && chOn s n && (s.ch n).active at_) == chInvert s n then .low
  else .high

/-- `LD_EN` (R264, R267, R532). -/
def ldEnPin (s : State) : PinLevel :=
  if !bankGood 2 s || !s.twin.interlock then .highZ else if s.lamp.ldEn then .high else .low

/-! ### Level changes (R250, R251, R256) -/

/-- DEFAULT is the curve of the setting (R252). -/
def curveOf (s : State) (k : Nat) : Nat := if k = 0 then s.live 0x0503 else k

/-- A channel takes a level, at once or by a fade from the value it has (R251). -/
def startFade (level steps curve now : Nat) (c : LampCh) : LampCh :=
  if steps = 0 then { c with level := level, fade := none }
  else { c with fade := some { start := c.level, target := level, steps := steps, t0 := now, curve := curve, step := 0 } }

/-- A set whose channels are partly set goes MANUAL: each channel holds the duty it has (R256). -/
def goManual (g : Nat) (s : State) : State :=
  if (s.lamp.groups.getD g default).manual then s
  else
    let ns := members s g
    let s' := modGroup g (fun c => { c with manual := true, steps := 0, step := 0 }) s
    ns.foldl (fun t n => modCh n (fun c => { c with
      level := c.duty,
      fade := c.fade.map (fun f => { f with start := dutyOf s n f.start, target := dutyOf s n f.target }) }) t) s'

/-- A set named as a whole takes a new point, by the fade of its level; without CCT_SET it keeps the one it has now (R256). -/
def setPoint (g : Nat) (ch : Change) (s : State) : State :=
  modGroup g (fun c =>
    let c := { c with manual := false }
    if ch.cct = 0 then { c with target := pointNow c, steps := 0, step := 0 }
    else
      let q : ColPt := { cct := ch.cct * 1000000, duv := ch.duv * 1000000 }
      { c with point := pointNow c, target := q, t0 := s.now, steps := ch.fade, step := 0 }) s

/-- A change falls on local outputs at the present instant: whole sets as sets, parts of sets channel by channel. -/
def applyLocal (outs : List Nat) (ch : Change) (s : State) : State :=
  let s := (List.range 8).foldl (fun s g =>
    let ms := members s g
    if (groupModel s g).isNone || !(ms.any outs.contains) then s
    else if ms.all outs.contains then setPoint g ch s
    else goManual g s) s
  let curve := curveOf s ch.curve
  let s := outs.foldl (fun s n => modCh n (startFade ch.level ch.fade curve s.now) s) s
  refreshDuty outputs s

def markDirect (b : Bool) (outs : List Nat) (s : State) : State :=
  outs.foldl (fun s n => modCh n (fun c => { c with direct := b }) s) s

/-- A direct set, by LAMP_SET or a scene, and a change that a claim makes (R136, R259). -/
def applyDirect (outs : List Nat) (ch : Change) (s : State) : State := markDirect true outs (applyLocal outs ch s)
def applyClaim (outs : List Nat) (ch : Change) (s : State) : State := markDirect false outs (applyLocal outs ch s)

/-- The outputs a LOCAL target selects (Table 1.3): one, a colour group, or every configured output. -/
def localOuts (s : State) (target : Nat) : List Nat :=
  let g := adGroup target
  if g < 24 then [g]
  else if 0x40 ≤ g ∧ g ≤ 0x47 then members s (g - 0x40)
  else outputs.filter (chOn s)

/-! ### Claims (R134 to R136) -/

/-- The claim a channel follows: priority and specificity first, then the policy ID (R135). Of two claims of one policy the later
placed is followed (DESIGN CHOICE, log entry 124). -/
def claimKey (c : Claim) : Nat := c.rank * 2 ^ 32 + c.policy

def topClaim (l : List Claim) : Option Claim :=
  l.foldl (fun b c => match b with | none => some c | some x => if claimKey x ≤ claimKey c then some c else some x) none

/-- The level a channel is going to. -/
def goal (c : LampCh) : Nat := match c.fade with | some f => f.target | none => c.level

/-- Follows the winning claim with the fade and curve given (R134, R136). -/
def followTop (outs : List Nat) (fade curve : Nat) (s : State) : State :=
  let tops := outs.filterMap (fun n => (topClaim (s.ch n).claims).map (fun c => (n, c)))
  let changes := (tops.map (fun e => e.2.change)).eraseDups
  changes.foldl (fun s ch =>
    applyClaim ((tops.filter (fun e => e.2.change == ch)).map (·.1)) { ch with fade := fade, curve := curve } s) s

/-- A claim starts on outputs (R134): it ends the policy's lasting claim there, and a new firing of the same action restarts its
hold. Where another claim ranks higher, that one replaces a level set directly since, and the channel moves to it from a claim of
the policy that ended on top (R136). -/
def placeClaims (outs : List Nat) (cl : Claim) (s : State) : State :=
  let ends (x : Claim) : Bool := x.policy == cl.policy && !(x.until_.isSome && x.action != cl.action)
  let was := s
  let s := outs.foldl (fun s n => modCh n (fun c => { c with claims := c.claims.filter (fun x => !ends x) ++ [cl] }) s) s
  let rest := outs.filter (fun n => topClaim (s.ch n).claims != some cl)
  let mine := outs.filter (fun n => topClaim (s.ch n).claims == some cl)
  let s := if mine = [] then s else applyClaim mine cl.change s
  let ended := rest.filterMap (fun n => ((topClaim (was.ch n).claims).filter ends).map (fun e => (n, e.change)))
  let s := ended.foldl (fun s x => followTop [x.1] x.2.fade x.2.curve s) s
  followTop (rest.filter (fun n => (was.ch n).direct && !(ended.any (fun x => x.1 == n)))) cl.change.fade cl.change.curve s

/-- Claims end: each channel moves to the winning claim that remains, with the fade and curve of the one that ended; with
none it keeps its level (R136). -/
def endClaims (outs : List Nat) (p : Claim → Bool) (s : State) : State :=
  outs.foldl (fun s n =>
    match topClaim ((s.ch n).claims.filter p) with
    | none => s
    | some e =>
      let s := modCh n (fun c => { c with claims := c.claims.filter (fun x => !p x) }) s
      followTop [n] e.change.fade e.change.curve s) s

/-! ### Events of the engine -/

/-- A pending set of block 0x05 applies in parts; it is done when its last entry has applied (Table 1.10, R275). -/
def applyLampPart (p : Nat → Bool) (s : State) : State :=
  match pendOf s 5 with
  | none => s
  | some q =>
    let mine := q.entries.filter (fun e => p e.1)
    if mine = [] then s
    else
      let rest := q.entries.filter (fun e => !p e.1)
      let s := mine.foldl (fun s e => applySetting e.1 e.2 s) s
      let s := s.modSet (fun x => { x with
        pend := (x.pend.map (fun z => if z.block = 5 then { z with entries := rest } else z)).filter
          (fun z => z.block != 5 || z.entries != []) })
      let s := syncShadow s
      if rest = [] then commitDone 5 (commitReply 2 q.count 0 (some s.time.spanT)) s else s

/-- The nearest grid start of an output to an instant of span time: period number and error in ns (R247, R248). -/
def gridOf (s : State) (n at_ : Nat) : Nat × Int :=
  let off := (s.live 0x0501 + chStagger s n) % 65536 * 25
  let d : Int := (at_ : Int) - off
  let p := (d + 819200) / 1638400
  (p.toNat, d - p * 1638400)

/-- The ticks of the period that follows a start with an error in ns: one less when late, one more when early, until the error is
at most one tick; 65,536 while PCLK is stopped (R248). -/
def periodTicks (pclk : Bool) (error : Int) : Nat :=
  if !pclk then 65536 else if 25 < error then 65535 else if error < -25 then 65537 else 65536

/-- A period of an output may begin: the one in progress has run its ticks; the first begins on the grid (R247), within the tick
in which the engine counts. -/
def periodDue (s : State) (n : Nat) : Bool :=
  let c := s.ch n
  if c.ticks = 0 then !s.pwr.stopped && decide ((gridOf s n s.spanNs).2.natAbs ≤ 25) else decide (c.periodAt + 25 * c.ticks ≤ s.now)

/-- LAMP_PERIOD_START (R245 to R248): the period in progress has run its ticks, and the next begins. PCLK stopped, its start is
not measured. -/
def execLampPeriodStart (output : Nat) (s : State) : Res :=
  .next (
    if s.boot.phase ≠ .firmware ∨ !s.lampRuns ∨ 24 ≤ output ∨ !periodDue s output then s
    else
      let s := applyLampPart (fun id => id == 0x0520 + output || (output == 0 && id < 0x0520)) s
      let g := if s.pwr.stopped then ((s.ch output).period + 1, (s.ch output).error) else gridOf s output s.spanNs
      let s := modCh output (fun c => { c with
        period := g.1, error := g.2, cal := c.calNext.orElse (fun _ => c.cal), calNext := none,
        periodAt := s.now, ticks := periodTicks (!s.pwr.stopped) g.2, pulses := [] }) s
      let s := s.modLamp (fun l => { l with phaseUnlocked := l.chans.any (fun c => 50 < c.error.natAbs) })
      modCh output (fun c =>
        let d := dutyOf s output c.level
        { c with duty := d, pulses := wave (s.live 0x0502) (chSpread s output) d c.ticks }) s)

/-- FADE_STEP (R251): steps count elapsed time from the fade's start. -/
def execFadeStep (output : Nat) (s : State) : Res :=
  .next (
    match (s.ch output).fade with
    | none => s
    | some f =>
      if s.boot.phase = .firmware ∧ f.t0 + (f.step + 1) * 10 * ms ≤ s.now then
        let k := f.step + 1
        let v := fadeDuty f.curve f.start f.target k f.steps
        let s := modCh output (fun c => { c with
          level := v, fade := if f.steps ≤ k then none else some { f with step := k } }) s
        let g := chGroup s output
        let s := modGroup g (fun c =>
          if c.step < c.steps ∧ c.t0 + (c.step + 1) * 10 * ms ≤ s.now then
            (if c.steps ≤ c.step + 1 then { c with point := c.target, step := 0, steps := 0 } else { c with step := c.step + 1 })
          else c) s
        refreshDuty outputs s
      else s)

/-! ### Scenes on local outputs (R259 to R263) -/

/-- The local outputs and the change of a scene entry (Table 7.6). -/
def sceneLocal (s : State) (e : Bytes) : Option (List Nat × Change) :=
  if fld e 0 2 = 0x1FFE then
    let ch : Change :=
      { level := fld e 4 2, fade := fld e 10 4, curve := fld e 9 1, cct := fld e 6 2, duv := toS 8 (fld e 8 1) }
    some (localOuts s (fld e 2 1 * 16 + 0xF), ch)
  else none

/-- A later entry overrides an earlier one for the same channel (R260). -/
def sceneChanges (s : State) (es : List Bytes) : List (List Nat × Change) :=
  let l := es.filterMap (sceneLocal s)
  (l.zip (List.range l.length)).map (fun x =>
    (x.1.1.filter (fun n => !((l.drop (x.2 + 1)).any (fun y => y.1.contains n))), x.1.2))

def applyScene (scene : Nat) (s : State) : State :=
  match get? s.lamp.scenes scene with
  | none => s
  | some x => (sceneChanges s x.entries).foldl (fun s c => if c.1 = [] then s else applyDirect c.1 c.2 s) s

/-- The instants of span time that lamp changes wait for: launches and timed changes. -/
def lampInstants (s : State) : List Nat := (s.lamp.launches.map (·.applyNs)) ++ (s.lamp.chans.filterMap (fun c => c.timed.map (·.1)))

/-- Those that have come. -/
def dueInstants (s : State) : List Nat := (lampInstants s).filter (· ≤ s.spanNs)

/-- What falls on one instant: scenes first, then timed commands (R259). -/
def applyInstant (t : Nat) (s : State) : State :=
  let ls := s.lamp.launches.filter (fun l => l.applyNs == t)
  let s := s.modLamp (fun l => { l with launches := l.launches.filter (fun x => x.applyNs != t) })
  let s := ls.foldl (fun s l => applyScene l.scene s) s
  let es := outputs.filterMap (fun n => match (s.ch n).timed with
    | some (u, ch, outs) => if u = t then some (n, ch, outs) else none
    | none => none)
  let s := es.foldl (fun s e => modCh e.1 (fun c => { c with timed := none }) s) s
  ((es.map (fun e => e.2)).eraseDups).foldl (fun s e =>
    applyDirect ((es.filter (fun x => x.2 == e)).map (·.1)) e.1 s) s

/-- The least of a list. -/
def least (l : List Nat) : Option Nat := l.foldl (fun b n => match b with | none => some n | some m => some (min m n)) none

def applyDue : Nat → State → State
  | 0, s => s
  | k + 1, s => match least (dueInstants s) with
    | none => s
    | some t => applyDue k (applyInstant t s)

/-! ### LD_EN and LD_FAULT_N (R264 to R266) -/

/-- The map of the outputs active now (R266). -/
def activeMap (s : State) : Nat :=
  if !s.lamp.ldEn then 0 else (outputs.map (fun n => if chOn s n && (s.ch n).active s.now then 2 ^ n else 0)).sum

/-- LD_FAULT_FALL (R266): ignored for 1 ms after LD_EN rose; it wakes the module while LAMP is active. -/
def execLdFaultFall (s : State) : Res :=
  .next (
    if s.lamp.faultLow ∨ !bankGood 2 s then s
    else
      let s := s.modLamp (fun l => { l with
        faultLow := true, fallAt := s.now, fallSpan := ofNs s.spanNow, fallMap := activeMap s, filtered := false })
      if s.boot.phase = .firmware ∧ s.lampRuns then wakeUp 11 s else s)

/-- A shutdown latches; a third within 3,600 s of the first has no retry (R266). -/
def latchShutdown (s : State) : State :=
  let shut := (s.now :: s.lamp.shutdowns).take 3
  let third := shut.length = 3 ∧ s.now < shut.getD 2 0 + 3600 * sec
  let retry := s.live 0x050A
  refreshLdEn (s.modLamp (fun l => { l with
    latched := true, stuck := third, shutdowns := shut,
    retryAt := if retry = 0 ∨ third then none else some (s.now + retry * sec) }))

/-- LD_FAULT_FILTER_EXPIRY (R266): the pin has stayed low for the filter time, the first millisecond after each rise of `LD_EN` left
out. A pin that is still low after a rise counts anew (DEDUCED, log entry 123: a third shutdown within 3,600 s is foreseen). -/
def execLdFaultFilterExpiry (s : State) : Res :=
  .next (
    let from_ := if s.lamp.ldEn then max s.lamp.fallAt (s.lamp.ldEnAt + ms) else s.lamp.fallAt
    let again := s.lamp.filtered && s.lamp.ldEn && decide (s.lamp.filteredAt < s.lamp.ldEnAt)
    if s.boot.phase = .firmware ∧ s.lampRuns ∧ s.lamp.faultLow ∧ (!s.lamp.filtered ∨ again) ∧ from_ + s.live 0x0509 * us ≤ s.now then
      let s := crossEv 0x17 evLdFault (le 3 s.lamp.fallMap ++ zeros 1 ++ encTime s.lamp.fallSpan)
        (s.modLamp (fun l => { l with filtered := true, filteredAt := s.now }))
      if s.live 0x0508 = 1 then latchShutdown s else s
    else s)

/-- LD_FAULT_RISE (R266). -/
def execLdFaultRise (s : State) : Res :=
  .next (
    if !s.lamp.faultLow ∨ !bankGood 2 s then s
    else
      let low := min ((s.now - s.lamp.fallAt) / us) 0xFFFFFFFF
      let was := s.lamp.filtered
      let s := s.modLamp (fun l => { l with faultLow := false, filtered := false })
      if was ∧ s.boot.phase = .firmware then crossEv 0x17 evLdFaultClear (le 4 low ++ [byte (b2n s.lamp.latched)] ++ zeros 9) s else s)

/-- LD_FAULT_RETRY_TIMER (R266). -/
def execLdFaultRetryTimer (s : State) : Res :=
  .next (match s.lamp.retryAt with
    | none => s
    | some t =>
      if t ≤ s.now ∧ s.lamp.latched ∧ s.boot.phase = .firmware then
        refreshLdEn (s.modLamp (fun l => { l with latched := false, retryAt := none }))
      else s)

/-! ### The wire forms of lamp messages (Tables 6.13, 7.7) -/

/-- LAMP_COMMAND (Table 6.13). -/
def lampCommand (mask : Nat) (s : State) (p : Bytes) : Bytes :=
  let fl := fld p 9 1
  le 2 mask ++ sub p 0 2 ++ sub p 4 4 ++ [byte (curveOf s (fld p 8 1)), byte fl]
    ++ (if fl.testBit 0 then sub p 2 2 ++ sub p 10 1 else zeros 3) ++ zeros 1 ++ (if fl.testBit 1 then sub p 12 10 else [])

/-- PHASE_EPOCH: one period start of the lantern grid and its period (R249). -/
def phaseEpoch (s : State) : Bytes :=
  let per := s.live 0x0504
  let k := (s.spanNs - s.live 0x0505) / per
  encTime (ofNs (s.live 0x0505 + k * per)) ++ le 4 per ++ zeros 2

/-- The channels of a lantern a scene entry names. -/
def sceneMask (s : State) (n : Nat) (e : Bytes) : Nat :=
  match s.lan n with
  | none => 0
  | some l =>
    let f := fld e 0 2
    let g := fld e 2 1
    if f = n || (f == 0x1FFF && (g == 0x7F || l.groups.testBit g)) then (chanMask l (fld e 3 1)).getD 0 else 0

/-- SCENE_STORE for a lantern: its entries, later ones overriding, at most 30 (Table 7.7). -/
def sceneStore (scene : Nat) (x : Scene) (n : Nat) (s : State) : Bytes :=
  let es := (x.entries.map (fun e => (sceneMask s n e, e))).filter (fun p => p.1 != 0)
  let es := ((es.zip (List.range es.length)).map (fun p =>
    let later := ((es.drop (p.2 + 1)).map (·.1)).foldl Nat.lor 0
    (Nat.land p.1.1 (65535 - later), p.1.2))).filter (fun p => p.1 != 0)
  let es := es.take 30
  [byte scene, 0, byte es.length, 0] ++ es.flatMap (fun p =>
    le 2 p.1 ++ sub p.2 4 5 ++ [byte (curveOf s (fld p.2 9 1))] ++ sub p.2 10 4 ++ zeros 2)

/-- The lanterns a scene's entries name. -/
def sceneLanterns (s : State) (x : Scene) : List Nat :=
  (s.mac.lanterns.map (·.1)).filter (fun n => x.entries.any (fun e => sceneMask s n e != 0))

end Sys2Proof.Machine
end

