-- ==== Sys2Proof/Machine/Pads.lean ====
section
/-! DEFINITION. The pads: their grid and characteristics (Tables 20.1 and 20.2), the level each shows in service, during a reset
(R532), in the recovery ROM and in safe state (Table 14.3), in SLUMBER (Table 12.7) and in BACKUP; `STATUS` (R535) and
`HOST_IRQ_N` (R59). -/

namespace Sys2Proof.Machine

/-! ### The grid and the pads' characteristics (R538, R540) -/

/-- Table 20.1, top view: rows A to M without I, columns 1 to 12. -/
def padGrid : List (List Pad) :=
  let radio (k : Nat) : List Pad :=
    [.radioSck k, .radioCsN k, .radioMosi k, .radioMiso k, .radioIrqN k, .radioTs k, .radioTxgo k, .radioRstN k]
  [[.gnd] ++ radio 0 ++ [.ppsIn, .ppsOut, .gnssRx],
   [.pmScl] ++ radio 1 ++ [.gnssTx, .twLeaseOut, .twLeaseIn],
   [.pmSda, .pmAlertN, .pmPgood, .twTxc, .twTxd, .twRxc, .twRxd, .hspiSck, .hspiCsN, .hspiMosi, .hspiMiso, .hostIrqN],
   [.resetN, .recoveryN, .pfailN, .v33, .gnd, .vioR, .gnd, .vioN, .gnd, .hostFlow, .huartTx, .huartRx],
   [.wake 0, .wake 1, .status, .gnd, .vcore, .gnd, .vcore, .gnd, .dbgClk, .ethRefclk, .ethTxd 0 0, .ethTxd 0 1],
   [.cont 0, .cont 1, .tamper 0, .v33, .gnd, .gnd, .gnd, .gnd, .dbgIo, .ethTxen 0, .ethRxd 0 0, .ethRxd 0 1],
   [.ldEn, .tamper 1, .tguardOut, .vbat, .gnd, .gnd, .gnd, .gnd, .gnd, .ethCrsdv 0, .ethTxd 1 0, .ethTxd 1 1],
   [.ldFaultN, .pulseIn 0, .pulseIn 1, .gnd, .vcore, .gnd, .vcore, .gnd, .v33, .ethTxen 1, .ethRxd 1 0, .ethRxd 1 1],
   [.pulseIn 2, .pulseIn 3, .modClk, .gnd, .vioL, .gnd, .gnd, .gnd, .gnd, .ethCrsdv 1, .ethMdc, .ethMdio],
   (List.range 8).map .mdat ++ (List.range 4).map .pulseOut,
   (List.range 12).map .ld,
   (List.range 12).map (fun n => .ld (12 + n))]

/-- What supplies a pad: bank 0 VIO_R, 1 VIO_N, 2 VIO_L; `V33`; the output of the backup switch; or it is a supply pad itself. -/
inductive PadSupply where
  | bank (k : Nat) | v33 | switched | supply
deriving DecidableEq, Repr

inductive PadDir where
  | input | output | both | openDrain | power
deriving DecidableEq, Repr

inductive PadPull where
  | none | up | down
deriving DecidableEq, Repr

/-- A row of Table 20.2: supply, direction, internal pull, rated drive in mA. -/
structure PadInfo where
  supply : PadSupply
  dir : PadDir
  pull : PadPull
  drive : Nat
deriving DecidableEq, Repr

/-- Table 20.2. -/
def padInfo (p : Pad) : PadInfo :=
  match p with
  | .gnd | .vcore | .v33 | .vbat | .vioR | .vioN | .vioL => ⟨.supply, .power, .none, 0⟩
  | .hspiSck | .hspiMosi => ⟨.bank 1, .input, .none, 0⟩
  | .hspiCsN | .huartRx => ⟨.bank 1, .input, .up, 0⟩
  | .hspiMiso => ⟨.bank 1, .output, .none, 8⟩
  | .hostIrqN | .hostFlow | .huartTx => ⟨.bank 1, .output, .none, 4⟩
  | .ethRefclk => ⟨.bank 1, .both, .none, 12⟩
  | .ethTxd _ _ | .ethTxen _ | .ethMdc => ⟨.bank 1, .output, .none, 8⟩
  | .ethRxd _ _ | .ethCrsdv _ => ⟨.bank 1, .input, .down, 0⟩
  | .ethMdio => ⟨.bank 1, .both, .none, 8⟩
  | .dbgClk => ⟨.bank 1, .input, .down, 4⟩
  | .dbgIo => ⟨.bank 1, .both, .down, 4⟩
  | .radioSck _ | .radioCsN _ | .radioMosi _ | .radioRstN _ | .radioTxgo _ => ⟨.bank 0, .output, .none, 8⟩
  | .radioMiso _ => ⟨.bank 0, .input, .none, 0⟩
  | .radioIrqN _ | .gnssRx => ⟨.bank 0, .input, .up, 0⟩
  | .radioTs _ | .ppsIn => ⟨.bank 0, .input, .down, 0⟩
  | .ppsOut | .gnssTx => ⟨.bank 0, .output, .none, 8⟩
  | .twTxc | .twTxd => ⟨.bank 0, .output, .none, 12⟩
  | .twRxc | .twRxd | .twLeaseIn => ⟨.bank 0, .input, .none, 0⟩
  | .twLeaseOut => ⟨.bank 0, .output, .none, 4⟩
  | .modClk => ⟨.bank 2, .both, .none, 8⟩
  | .mdat _ | .pulseIn _ | .ldFaultN => ⟨.bank 2, .input, .none, 0⟩
  | .pulseOut _ | .ld _ | .ldEn => ⟨.bank 2, .output, .none, 8⟩
  | .pmScl | .pmSda => ⟨.v33, .openDrain, .none, 20⟩
  | .pmAlertN | .pmPgood | .pfailN => ⟨.v33, .input, .none, 0⟩
  | .resetN | .recoveryN => ⟨.v33, .input, .up, 0⟩
  | .wake _ => ⟨.v33, .input, .down, 0⟩
  | .cont _ => ⟨.v33, .output, .none, 8⟩
  | .status => ⟨.v33, .output, .none, 12⟩
  | .tamper _ => ⟨.switched, .input, .none, 0⟩
  | .tguardOut => ⟨.switched, .output, .none, 4⟩

/-- The drive of a pad in its bank's mode, in hundredths of a mA: 75 % of the rated at 2.5 V, 50 % at 1.8 V (R540). -/
def padDrive (s : State) (p : Pad) : Nat :=
  let i := padInfo p
  i.drive * (match i.supply with
    | .bank k => (match s.boot.banks[k]? with
      | some b => if b.mode = 3 then 100 else if b.mode = 2 then 75 else if b.mode = 1 then 50 else 0
      | none => 0)
    | _ => 100)

/-- A pad's supply is there: its bank is good, and `V33` pads are unpowered in BACKUP (R541, R542, Table 20.17). -/
def padPowered (s : State) (p : Pad) : Bool :=
  match (padInfo p).supply with
  | .bank k => bankGood k s && !s.fb.backup
  | .v33 => !s.fb.backup
  | .switched => true
  | .supply => false

/-! ### The host window's lines (R59, R60) -/

/-- The packet a transport sends next: what it owes without a session, then replies, refusals and notices of its session. The
order among them is the model's. Mark: DESIGN CHOICE (log entry 47). -/
def outFront (t : Transport) (sid : Option Nat) (s : State) : Option OutPkt :=
  match s.host.bare.find? (fun p => p.1 == t) with
  | some p => some p.2
  | none => match sid.bind s.session with
    | none => none
    | some x => x.replies.head?.orElse (fun _ => x.refusals.head?.orElse (fun _ => x.notices.head?))

/-- IN_READY: intake, or the recovery ROM, accepts entries and the DECK's clocks run (R60, R406, R495). -/
def inReady (s : State) : Bool := (s.host.intakeOpen || s.upd.recovery.running) && !s.pwr.stopped

/-- The packet at the head of the window: the one partly popped, else the next. -/
def winHead (s : State) : Option OutPkt :=
  if s.pwr.stopped then none else s.host.win.head.orElse (fun _ => outFront .hspi (sidOf s .hspi) s)

/-- WIN_IRQ_CAUSE (Table 2.6). -/
def winIrqCause (s : State) : Nat :=
  let w := s.host.win
  b2n (winHead s).isSome + 2 * b2n w.causeCredits + 4 * b2n w.causeUnderrun + 8 * b2n w.causeOverrun
    + 16 * b2n w.causeFrameErr + 32 * b2n w.causeSafe

/-- `HOST_IRQ_N` (R59). -/
def hostIrqN (s : State) : Bool := winIrqCause s &&& s.host.win.irqMask == 0

/-! ### `STATUS` (R535) -/

/-- The pattern of Table 19.3 that `STATUS` shows, by its priority. -/
def statusPattern (s : State) : Nat :=
  if s.par.safe then 1
  else if s.sec.tamper.any (fun t => t.latched && decide (2 ≤ t.policy)) then 2
  else if s.boot.phase = .pmicFault then 3
  else if s.boot.phase = .recovery then 4
  else if s.boot.phase = .reset then 5
  else if s.keyless then 6
  else if s.standby then 7
  else if s.mac.running then 8
  else 9

/-- The on and off times of a pattern in ms, alternating from on, within its 2 s frame. -/
def patternMs (k : Nat) : List Nat :=
  match k with
  | 1 => List.replicate 16 125
  | 2 => [125, 125, 125, 1625]
  | 3 => [125, 125, 125, 125, 125, 1375]
  | 4 => [1000, 1000]
  | 5 => [500, 500, 500, 500]
  | 6 => [125, 875, 125, 875]
  | 7 => [1875, 125]
  | 8 => [2000]
  | _ => [125, 1875]

/-- The level at an instant of a list of on and off times. -/
def levelAt : List Nat → Nat → Bool → Bool
  | [], _, on => on
  | t :: l, x, on => if x < t then on else levelAt l (x - t) (!on)

/-- The level of `STATUS` (R535): frames begin at even seconds of the RTC; unpowered in BACKUP. -/
def statusPin (s : State) : Bool :=
  !s.fb.backup && levelAt (patternMs (statusPattern s)) (s.rtc.ticks % (2 * tickHz) * 1000 / tickHz) true

/-! ### Pads of the DECK, MAC, NET, TWIN and HOST domains -/

/-- Firmware or the recovery ROM drives these pads; else they are as a reset leaves them (R532). -/
def padsDriven (s : State) : Bool := s.boot.phase == .firmware || s.boot.phase == .recovery

/-- A pulse of a radio port's line is in progress. -/
def linePulse (s : State) (k now : Nat) (f : RadioLine → Option (Nat × Nat)) : Bool :=
  s.out.radio.any (fun e => e.1 == k && (match f e.2 with
    | some (a, b) => decide (a ≤ now) && decide (now < b)
    | none => false))

/-- `xx_RST_N` (R196, R532, Table 14.3): low until a profile drives its port, during a reset of the port, in safe state and in the
recovery ROM (log entry 145). -/
def radioReset (s : State) (k : Nat) : Bool :=
  !s.fwUp || (s.port k).profile.isNone || linePulse s k s.now (fun l => match l with | .reset a b _ => some (a, b) | _ => none)

/-- `PPS_OUT` (R286): high for 100 ms from each whole second, with TIME_PPS_OUT at 1 and span time not FREE. -/
def ppsPin (s : State) : Bool :=
  s.time.ppsOut && s.live 0x010F == 1 && s.time.state != .free && decide (s.now < s.time.ppsAt + 100 * ms)

/-- These pads between a reset and their block's first drive (R532). -/
def deckReset (p : Pad) : PinLevel :=
  match p with
  | .hostFlow | .hostIrqN => .high
  | .radioRstN _ | .radioTxgo _ => .low
  | _ => .highZ

/-- These pads while their blocks drive them. A line of an interface that carries data is at rest: what it carries stands in the
outputs. Levels at rest that no rule states are `data` (log entry 145). -/
def deckLive (s : State) (p : Pad) : PinLevel :=
  let lvl (b : Bool) : PinLevel := if b then .high else .low
  match p with
  | .hostIrqN => lvl (hostIrqN s)
  | .hostFlow => lvl s.hostFlow
  | .huartTx | .gnssTx => .high
  | .ethRefclk => if s.live 0x0110 = 1 ∨ s.boot.phase = .recovery then .clock 50000000 else .highZ
  | .ethTxen _ | .radioSck _ => .low
  | .ethTxd _ _ | .ethMdc | .radioMosi _ => .data
  | .radioCsN k => lvl (!(s.port k).csLow)
  | .radioTxgo k =>
    lvl (s.fwUp && linePulse s k s.spanNow (fun l => match l with | .txGo a b => some (a, b) | _ => none))
  | .radioRstN k => lvl (!radioReset s k)
  | .ppsOut => lvl (ppsPin s)
  | .twTxc => if s.twin.latch then .clock 100000000 else .data
  | .twTxd => .data
  | _ => .highZ

/-- The pads whose hold cells latch at step 2 of an entry (R404). -/
def heldPads : List Pad :=
  [.hspiMiso, .hostIrqN, .hostFlow, .huartTx, .ethMdc, .ethMdio]
    ++ [0, 1].flatMap (fun k => [.ethTxen k, .ethTxd k 0, .ethTxd k 1, .radioSck k, .radioCsN k, .radioMosi k, .radioRstN k])

/-- What the hold cells latch. -/
def latchPads (s : State) : List (Pad × PinLevel) := heldPads.map (fun p => (p, deckLive s p))

/-- These pads while the DECK's clocks are stopped (Table 12.7). -/
def deckHeld (s : State) (p : Pad) : PinLevel :=
  match p with
  | .gnssTx => .high
  | .ethRefclk => if s.live 0x0110 = 1 then .low else .highZ
  | .radioTxgo _ | .ppsOut | .twTxc | .twTxd => .low
  | p => match s.pwr.held.find? (fun e => e.1 == p) with | some e => e.2 | none => .highZ

def deckPad (s : State) (p : Pad) : PinLevel :=
  if !padsDriven s then deckReset p else if s.pwr.stopped then deckHeld s p else deckLive s p

/-! ### Interlocked outputs (R371, R532) -/

/-- The reset leaves the METER domain's outputs alone: SYSTEM and WARM (R532). -/
def meterPadsKept (s : State) : Bool := padsDriven s || s.boot.resetType == 3 || s.boot.resetType == 4

/-- POUTn: idle in safe state and in the recovery ROM, inactive in SLUMBER without METER (Tables 12.7 and 14.3). -/
def pulseOutPad (s : State) (n : Nat) : PinLevel :=
  if !s.twin.interlock || !meterPadsKept s then .highZ
  else if s.par.safe || s.boot.phase == .recovery || !meterRuns s then (if (s.live 0x064C).testBit n then .high else .low)
  else poutPin s n

/-- LDn: at its inactive level in the recovery ROM too (R494, Table 14.3). -/
def ldPad (s : State) (n : Nat) : PinLevel :=
  if s.boot.phase == .recovery && s.twin.interlock then (if chInvert s n then .high else .low) else ldPin s n s.now

/-! ### Every pad -/

/-- What the module drives on a pad now; high-Z for an input, for a supply pad, and where the pad's supply is not there. -/
def padOut (s : State) (p : Pad) : PinLevel :=
  if !padPowered s p then .highZ
  else
    let lvl (b : Bool) : PinLevel := if b then .high else .low
    match p with
    | .cont n => if s.twin.interlock then lvl (s.fb.cont.getD n false) else .highZ
    | .twLeaseOut => lvl s.twin.leaseOut
    | .status => lvl (statusPin s)
    | .tguardOut => lvl (s.live 0x0803 == 1 && s.sec.lfsr.testBit 0)
    | .ld n => ldPad s n
    | .ldEn => ldEnPin s
    | .modClk => if meterPadsKept s then modClkPin s else .highZ
    | .pulseOut n => pulseOutPad s n
    | p => if (padInfo p).dir == .output || (padInfo p).dir == .both then deckPad s p else .highZ

end Sys2Proof.Machine
end

