-- ==== Sys2Proof/Machine/LampCmds.lean ====
section
/-! DEFINITION. The lamp group: LAMP_SET, SCENE_DEFINE, SCENE_LAUNCH, CALIBRATION_LOAD, LOCAL_CHANNEL_CONFIG, LAMP_STATUS
(R258 to R273). -/

namespace Sys2Proof.Machine

/-- A target of the module's local outputs (R15). -/
def isLocal (target : Nat) : Bool := adLantern target == 0x1FFE

/-! ### LAMP_SET -/

/-- The lanterns a command reaches with their channel masks; those R15 skips are left out. -/
def lampTargets (s : State) (target : Nat) : List (Nat × Nat) :=
  (selected s target).filterMap (fun n => match s.lan n with
    | some l => (chanMask l (adChannel target)).map (fun m => (n, m))
    | none => none)

/-- The local outputs of a command's target. -/
def lampLocal (s : State) (target : Nat) : List Nat := if isLocal target then localOuts s target else []

/-- CCT_SET names part of a colour set (R256, R268). -/
def partialSet (s : State) (outs : List Nat) : Bool :=
  (List.range 8).any (fun g =>
    let ms := members s g
    (groupModel s g).isSome && ms.any outs.contains && !(ms.all outs.contains))

def cctOk (cct : Nat) (duv : Int) : Bool := 1800 ≤ cct && cct ≤ 6500 && -60 ≤ duv && duv ≤ 60

/-- Why LAMP_SET is refused (R15, R258, R268). The order of its tests is a DESIGN CHOICE (log entry 103). -/
def lampRefusal (c : LiveCmd) (s : State) : Option (Nat × Nat) :=
  let p := c.params
  let fl := fld p 9 1
  let cctSet := fl.testBit 0
  let timed := fl.testBit 1
  let duv := toS 8 (fld p 10 1)
  if singleBad s c.target then some (stBadParam, dTargetField)
  else if 4 ≤ fl ∨ !zeroAt p 11 1 then some (stBadParam, dReservedBit)
  else if p.length ≠ (if timed then 22 else 12) then some (stBadLength, dLengthOpcode)
  else if !cctSet ∧ (fld p 2 2 ≠ 0 ∨ duv ≠ 0) then some (stBadParam, dReservedBit)
  else if cctSet ∧ partialSet s (lampLocal s c.target) then some (stBadParam, 0x83)
  else if 360000 < fld p 4 4 ∨ 4 < fld p 8 1 ∨ (cctSet ∧ !cctOk (fld p 2 2) duv) then some (stOutOfRange, dNone)
  else if timed then
    match decTime (sub p 12 10) with
    | none => some (stBadParam, dReservedBit)
    | some t =>
      if stTotNs t < s.spanNs + s.live 0x0506 * ms then some (stTooSoon, dNone)
      else if s.spanNs + 86400 * sec < stTotNs t then some (stOutOfRange, dNone)
      else none
  else none

/-- The change of a LAMP_SET (Table 7.4). -/
def lampChange (p : Bytes) : Change :=
  { level := fld p 0 2, fade := fld p 4 4, curve := fld p 8 1, cct := fld p 2 2, duv := toS 8 (fld p 10 1) }

/-- Local outputs take a LAMP_SET now, or keep it as their one pending timed change; a newer one replaces it (R258). -/
def lampLocally (outs : List Nat) (p : Bytes) (s : State) : State :=
  if outs = [] then s
  else if (fld p 9 1).testBit 1 then
    let t := stTotNs ((decTime (sub p 12 10)).getD 0)
    outs.foldl (fun s n => modCh n (fun c => { c with timed := some (t, lampChange p, outs) }) s) s
  else
    applyDirect outs (lampChange p) (outs.foldl (fun s n => modCh n (fun c => { c with timed := none }) s) s)

/-- LAMP_SET (R268). -/
def lampSet (c : LiveCmd) (s : State) : State :=
  match lampRefusal c s with
  | some (st, d) => fail c st d s
  | none =>
    let ts := lampTargets s c.target
    let outs := lampLocal s c.target
    sendEach c (meshWork ts.length outs.length) (fun s =>
      ts.foldl (fun s t => sendMsg (some c.seq) t.1 0x0101 true (lampCommand t.2 s c.params) c.deadline s)
        (lampLocally outs c.params s)) s

def execLampSet (sid tag : Nat) (s : State) : Res := .next (runCmd 0x0501 sid tag lampSet s)

/-! ### Scenes -/

/-- An entry's lantern, group and channel form a row of Table 1.3. -/
def entryTarget (e : Bytes) : Bool :=
  let n := fld e 0 2
  let g := fld e 2 1
  let ch := fld e 3 1
  if n < 4096 then g == 0x7F && ch ≤ 15
  else if n = 0x1FFF then g ≤ 127 && ch ≤ 15
  else n == 0x1FFE && ch == 0xF && (g < 24 || (0x40 ≤ g && g ≤ 0x47) || g == 0x7F)

def sceneEntries (p : Bytes) : List Bytes := (List.range (fld p 2 2)).map (fun i => sub p (4 + 16 * i) 16)

/-- Why SCENE_DEFINE is refused (R269, Table 7.6). -/
def sceneRefusal (p : Bytes) : Option (Nat × Nat) :=
  let n := fld p 2 2
  let del := (fld p 1 1).testBit 0
  let es := sceneEntries p
  if 2 ≤ fld p 1 1 then some (stBadParam, dReservedBit)
  else if 254 < n ∨ (n = 0 ∧ !del) ∨ (n ≠ 0 ∧ del) then some (stBadParam, dNone)
  else if p.length ≠ 4 + 16 * n then some (stBadLength, dLengthOpcode)
  else if es.any (fun e => !entryTarget e) then some (stBadParam, dTargetField)
  else if es.any (fun e => !zeroAt e 14 2 || (fld e 6 2 == 0 && !zeroAt e 8 1)) then some (stBadParam, dReservedBit)
  else if es.any (fun e => decide (360000 < fld e 10 4) || decide (4 < fld e 9 1) ||
      (fld e 6 2 != 0 && !cctOk (fld e 6 2) (toS 8 (fld e 8 1)))) then some (stOutOfRange, dNone)
  else none

/-- SCENE_DEFINE (R260, R269): the scene is stored and pushed to every lantern its entries name; a deletion goes to every
lantern that holds it. -/
def sceneDefine (c : LiveCmd) (s : State) : State :=
  let p := c.params
  match sceneRefusal p with
  | some (st, d) => fail c st d s
  | none =>
    let k := fld p 0 1
    if (fld p 1 1).testBit 0 then
      let ns := (s.mac.lanterns.filter (fun l => (get? l.2.scenes k).isSome)).map (·.1)
      sendEach c (meshWork ns.length 0) (fun s =>
        ns.foldl (fun s n => sendMsg (some c.seq) n 0x0102 true [byte k, 1, 0, 0] c.deadline s) s)
        (s.modLamp (fun l => { l with scenes := del l.scenes k }))
    else
      let v := s.lamp.sceneVersion + 1
      let x : Scene := { version := v, entries := sceneEntries p }
      let ns := sceneLanterns s x
      let outs := ((sceneChanges s x.entries).flatMap (·.1)).length
      sendEach c (meshWork ns.length outs) (fun s =>
        ns.foldl (fun s n => sendMsg (some c.seq) n 0x0102 true (sceneStore k x n s) c.deadline s) s)
        (s.modLamp (fun l => { l with scenes := put l.scenes k x, sceneVersion := v }))

def execSceneDefine (sid tag : Nat) (s : State) : Res := .next (runCmd 0x0502 sid tag sceneDefine s)

/-- The first FLOOD cell at or after an ASN. -/
def floodAtOrAfter (a : Nat) : Nat := if a % 100 < 10 then a - a % 100 + 10 else if a % 100 < 20 then a else (a / 100 + 1) * 100 + 10

/-- The ASN of the first slot that starts at or after an instant. -/
def asnFrom (s : State) (ns : Nat) : Nat := (ns - s.mac.epoch + 10 * ms - 1) / (10 * ms)

/-- Cells the floods already queued will take, in order (R261). -/
def takenCells (s : State) : List Nat :=
  s.mac.floods.foldl (fun l f =>
    let a := floodAtOrAfter (max f.notBefore (match l.getLast? with | some x => x + 1 | none => asnFrom s s.spanNs))
    l ++ [a]) []

/-- The first FLOOD cell from `a` on that is not taken. -/
def freeCell (taken : List Nat) : Nat → Nat → Nat
  | 0, a => a
  | k + 1, a => if taken.contains a then freeCell taken k (nextFloodAsn a) else a

/-- FLOOD cell q0 of a launch that begins now (R261). -/
def launchCell (s : State) : Nat :=
  freeCell (takenCells s) (s.mac.floods.length + 1) (floodAtOrAfter (asnFrom s (s.spanNs + 10 * ms)))

/-- D: the greatest depth among the lanterns that hold the scene, at least 1 (R261). -/
def sceneDepth (s : State) (k : Nat) : Nat :=
  ((s.mac.lanterns.filter (fun l => (get? l.2.scenes k).isSome)).map (fun l => l.2.depth)).foldl max 1

/-- t_min (R262). While the span does not run there are no cells to count, and the margin alone governs. -/
def launchMin (s : State) (k : Nat) (x : Scene) (q0 : Nat) : Nat :=
  if x.entries.all (fun e => fld e 0 2 == 0x1FFE) || !s.mac.running then s.spanNs + s.live 0x0506 * ms
  else floodCellEnd s (floodCell q0 + 4 * (sceneDepth s k - 1)) + s.live 0x0506 * ms

/-- SCENE_LAUNCH (R261, R262, R270). -/
def sceneLaunch (c : LiveCmd) (s : State) : State :=
  let p := c.params
  let k := fld p 0 1
  if !zeroAt p 1 3 ∨ !zeroAt p 14 2 then fail c stBadParam dReservedBit s
  else match decTime (sub p 4 10), get? s.lamp.scenes k with
    | none, _ => fail c stBadParam dReservedBit s
    | _, none => fail c stBadParam 0x80 s
    | some t, some x =>
      let q0 := launchCell s
      let tmin := launchMin s k x q0
      let at_ := if zeroAt p 4 10 then tmin else stTotNs t
      if at_ < tmin then complete c stTooSoon dNone (encTime (ofNs tmin)) s
      else
        let id := s.lamp.nextLaunch
        let pay := le 2 id ++ [byte k, 0] ++ encTime (ofNs at_) ++ zeros 2
        let f : Flood :=
          { id := 0, owner := some c.seq, type := 0x0103, group := 0x7F, ttl := sceneDepth s k, payload := pay,
            notBefore := if s.mac.running then q0 else 0, repeats := s.live 0x0507, applyNs := at_ }
        let s := s.modLamp (fun l => { l with
          nextLaunch := (id + 1) % 65536,
          launches := l.launches ++ [{ id := id, scene := k, applyNs := at_, repeats := f.repeats }] })
        waitFor c .flood [] (queueFlood f s)

def execSceneLaunch (sid tag : Nat) (s : State) : Res := .next (runCmd 0x0503 sid tag sceneLaunch s)

/-! ### Calibration and channel configuration -/

def calEntries (p : Bytes) : List Bytes := (List.range (fld p 0 1)).map (fun e => sub p (4 + 12 * e) 12)

/-- Fields of an entry of Table 7.3. -/
def calFieldOk (local_ : Bool) (e : Bytes) : Bool :=
  fld e 0 1 < (if local_ then 24 else 15) && fld e 1 1 ≤ 6
    && (fld e 1 1 == 0 || (fld e 4 2 != 0 && fld e 6 2 != 0 && fld e 8 2 != 0))

/-- Why CALIBRATION_LOAD is refused (R271). -/
def calRefusal (c : LiveCmd) (s : State) : Option (Nat × Nat) :=
  let p := c.params
  let loc := isLocal c.target
  let m := fld p 0 1
  let es := calEntries p
  if m = 0 ∨ (if loc then 24 else 15) < m then some (stBadParam, 0x80)
  else if !zeroAt p 1 3 then some (stBadParam, dReservedBit)
  else if p.length ≠ 4 + 12 * m then some (stBadLength, dLengthOpcode)
  else if es.any (fun e => !zeroAt e 10 2) then some (stBadParam, dReservedBit)
  else if es.any (fun e => !calFieldOk loc e) then some (stBadParam, 0x80)
  else if loc ∧ es.any (fun e => fld e 1 1 != chRole s (fld e 0 1)) then some (stBadParam, 0x81)
  else none

/-- CALIBRATION_LOAD (R257, R271). -/
def calibrationLoad (c : LiveCmd) (s : State) : State :=
  match calRefusal c s with
  | some (st, d) => fail c st d s
  | none =>
    let es := calEntries c.params
    if isLocal c.target then
      let s := es.foldl (fun s e =>
        let k : CalEntry := { role := fld e 1 1, bin := fld e 2 2, x := fld e 4 2, y := fld e 6 2, flux := fld e 8 2 }
        modCh (fld e 0 1) (fun x => { x with calNext := some k }) s) s
      complete c stOk dNone ([byte es.length, 0] ++ zeros 2) s
    else
      let ts := reached s c.target
      sendEach c (meshWork ts.length 0) (fun s =>
        ts.foldl (fun s n => sendMsg (some c.seq) n 0x0104 true c.params c.deadline s) s) s

def execCalibrationLoad (sid tag : Nat) (s : State) : Res := .next (runCmd 0x0504 sid tag calibrationLoad s)

/-- LOCAL_CHANNEL_CONFIG (R272): all 24 outputs under the wildcard. -/
def localChannelConfig (c : LiveCmd) (s : State) : State :=
  let p := c.params
  let v := fld p 0 4
  let outs := if adGroup c.target = 0x7F then outputs else localOuts s c.target
  let es := outs.map (fun n => (0x0520 + n, v))
  if 2 ≤ fld p 4 1 ∨ !zeroAt p 5 3 then fail c stBadParam dReservedBit s
  else match writeRefusal s c.role es with
    | some (_, st, d) => fail c st d (noteLocked st s)
    | none =>
      let s := if (fld p 4 1).testBit 0 then
          refreshLdEn (s.modLamp (fun l => { l with latched := false, stuck := false, retryAt := none, shutdowns := [] }))
        else s
      commitBlock c 5 (writeSettings es s)

def execLocalChannelConfig (sid tag : Nat) (s : State) : Res := .next (runCmd 0x0505 sid tag localChannelConfig s)

/-! ### LAMP_STATUS (R273, Table 7.8) -/

def outState (s : State) (n : Nat) : Nat :=
  let g := chGroup s n
  if !chOn s n then 0
  else if g < 8 && (groupModel s g).isNone then 4
  else if g < 8 && (s.lamp.groups.getD g default).manual then 3
  else if (s.ch n).fade.isSome then 2
  else 1

def outEntry (s : State) (n : Nat) : Bytes :=
  let c := s.ch n
  let j := spreadOf s n
  let g := chGroup s n
  [byte n, byte (outState s n), byte (if g < 8 then g else 0xFF), byte j.1] ++ le 2 c.duty ++ le 2 (goal c)
    ++ [byte (b2n j.2 + 2 * b2n c.timed.isSome + 4 * b2n c.cal.isSome)] ++ zeros 3

def lanternLampEntry (s : State) (n : Nat) : Bytes :=
  match s.lan n with
  | none => le 2 n ++ [byte 0x80] ++ zeros 45
  | some l => match l.report with
    | none => le 2 n ++ [byte 0x80] ++ zeros 45
    | some (r, cyc) =>
      le 2 n ++ [byte (fld r 0 1 % 128), byte (fld r 1 1)] ++ le 4 cyc ++ fit 8 (sub r 2 8) ++ zeros 2
        ++ fit 30 (sub r 12 (2 * min (fld r 1 1) 15))

def lampStatus (c : LiveCmd) (s : State) : State :=
  let p := c.params
  let start := fld p 0 2
  let mx := fld p 2 2
  if mx = 0 ∨ 64 < mx then fail c stBadParam dNone s
  else if !zeroAt p 4 4 then fail c stBadParam dReservedBit s
  else
    let loc := isLocal c.target
    let ids := (if loc then localOuts s c.target else selected s c.target).filter (start ≤ ·)
    let k := ids.take mx
    let l := s.lamp
    complete c stOk dNone (le 2 k.length ++ le 2 (match ids[mx]? with | some n => n | none => 0xFFFF)
      ++ [byte (b2n l.ldEn + 2 * b2n l.latched + 4 * b2n l.faultLow + 8 * b2n l.phaseUnlocked)] ++ zeros 3
      ++ k.flatMap (if loc then outEntry s else lanternLampEntry s)) s

def execLampStatus (sid tag : Nat) (s : State) : Res := .next (runCmd 0x0506 sid tag lampStatus s)

end Sys2Proof.Machine
end

