-- ==== Sys2Proof/Machine/Topology.lean ====
section
/-! DEFINITION. The mesh as a graph: routes (R189, R190), latencies of links and routes (R129), and what lies within two hops
of a lantern (R139). -/

namespace Sys2Proof.Machine

/-- The short address of the root (Table 6.3). -/
abbrev rootShort : Nat := 0x1000

/-- Mark: DEDUCED (log entry 30). Links at or above a ratio, usable both ways, with their cost (R189). -/
def linkEdges (s : State) (minPdr : Nat) : List (Nat × Nat × Nat) :=
  (s.mac.links.filter (fun l => minPdr ≤ l.pdr && 0 < l.pdr)).flatMap (fun l =>
    let c := 25600 / l.pdr
    [(shortOf l.lantern, l.neighbour, c), (l.neighbour, shortOf l.lantern, c)])

/-- The lantern of a short address is SILENT. -/
def silentAt (s : State) (short : Nat) : Bool :=
  match lanOf short with
  | some n => (match s.lan n with | some l => l.silent | none => false)
  | none => false

/-- Of two routes of equal cost the one with the lower short address at the first hop that differs (R190). -/
def pathLt : List Nat → List Nat → Bool
  | [], [] => false
  | [], _ :: _ => true
  | _ :: _, [] => false
  | a :: l, b :: m => a < b || (a == b && pathLt l m)

/-- One more hop on the best routes found: node, cost, nodes after the source. -/
def relax (s : State) (edges : List (Nat × Nat × Nat)) (src : Nat) (tbl : List (Nat × Nat × List Nat)) :
    List (Nat × Nat × List Nat) :=
  edges.foldl (fun new e =>
    if e.2.1 = src ∨ (e.1 ≠ src ∧ silentAt s e.1) then new
    else match (if e.1 = src then some (0, []) else get? tbl e.1) with
      | none => new
      | some (c, path) =>
        let cand : Nat × List Nat := (c + e.2.2, path ++ [e.2.1])
        match get? new e.2.1 with
        | none => put new e.2.1 cand
        | some old =>
          if cand.1 < old.1 ∨ (cand.1 = old.1 ∧ pathLt cand.2 old.2) then put new e.2.1 cand else new) tbl

def relaxAll (s : State) (edges : List (Nat × Nat × Nat)) (src : Nat) :
    Nat → List (Nat × Nat × List Nat) → List (Nat × Nat × List Nat)
  | 0, tbl => tbl
  | k + 1, tbl => relaxAll s edges src k (relax s edges src tbl)

/-- The cheapest routes from a node within 12 hops that avoid SILENT nodes on the way (R190). -/
def bestRoutes (s : State) (minPdr src : Nat) : List (Nat × Nat × List Nat) :=
  relaxAll s (linkEdges s minPdr) src 12 []

/-- A cheapest route: the nodes after the source, the destination last. -/
def routeFrom (s : State) (minPdr src dst : Nat) : Option (List Nat) :=
  (get? (bestRoutes s minPdr src) dst).map (·.2)

/-- The reverse of a lantern's reported parent chain: the nodes between the root and it. -/
def chainOf (s : State) : Nat → Nat → List Nat → Option (List Nat)
  | 0, _, _ => none
  | k + 1, n, acc =>
    match s.lan n with
    | none => none
    | some l =>
      if l.parent = rootShort then some acc
      else match lanOf l.parent with
        | none => none
        | some m => chainOf s k m (l.parent :: acc)

/-- The downward route to a lantern by R190: intermediate nodes, none when it is ROUTELESS. -/
def downRoute (s : State) (best : List (Nat × Nat × List Nat)) (n : Nat) : Option (List Nat) :=
  let alt := match get? best (shortOf n) with
    | some (_, p) => if p.length ≤ 12 then some p.dropLast else none
    | none => none
  match chainOf s 12 n [] with
  | some c => if c.any (silentAt s) then alt else some c
  | none => alt

/-- Routes computed again (R190): every lantern's route, and whether it is ROUTELESS (R179). -/
def recomputeRoutes (s : State) : State :=
  let best := bestRoutes s (s.live 0x0307) rootShort
  let rs := s.mac.lanterns.filterMap (fun p => (downRoute s best p.1).map (fun r => (p.1, r)))
  s.modMac (fun m => { m with
    routes := rs, topoChanged := false,
    lanterns := m.lanterns.map (fun p =>
      (p.1, { p.2 with
        routeless := (get? rs p.1).isNone,
        routelessCycles := if (get? rs p.1).isNone then p.2.routelessCycles else 0 })) })

/-- The link between two nodes, whoever reported it. -/
def linkOf (s : State) (a b : Nat) : Option Link :=
  s.mac.links.find? (fun l => (shortOf l.lantern == a && l.neighbour == b) || (shortOf l.lantern == b && l.neighbour == a))

/-- H of a link: 500 ms with less than 64 cycles of history (R129). -/
def linkH (s : State) (a b : Nat) : Nat :=
  match linkOf s a b with
  | some l => if l.history < 64 then 500 else l.h
  | none => 500

def pathH (s : State) : Nat → List Nat → Nat
  | _, [] => 0
  | a, b :: l => linkH s a b + pathH s b l

/-- The mesh route from one node to another, nodes after the first: by R190 from or to the root, else the cheapest one. -/
def meshRoute (s : State) (a b : Nat) : Option (List Nat) :=
  if a = b then some []
  else if a = rootShort then
    match lanOf b with
    | some n => (get? s.mac.routes n).map (fun r => r ++ [b])
    | none => none
  else if b = rootShort then
    match lanOf a with
    | some n => (get? s.mac.routes n).map (fun r => r.reverse ++ [rootShort])
    | none => none
  else routeFrom s (s.live 0x0307) a b

/-- L(x → y) of R129. -/
def latency (s : State) (a b : Nat) : Option Nat := (meshRoute s a b).map (pathH s a)

/-- Every link of a route has at least a delivery ratio (Table 4.6). -/
def pathOk (s : State) (minPdr : Nat) : Nat → List Nat → Bool
  | _, [] => true
  | a, b :: l => (match linkOf s a b with | some x => minPdr ≤ x.pdr | none => false) && pathOk s minPdr b l

/-- The lanterns one hop from a lantern over links at or above a ratio. -/
def oneHop (s : State) (minPdr n : Nat) : List Nat :=
  (linkEdges s minPdr).filterMap (fun e => if e.1 = shortOf n then lanOf e.2.1 else none)

/-- Hop count of a lantern from another, within two (R139). -/
def hopsWithin2 (s : State) (minPdr c n : Nat) : Option Nat :=
  if c = n then some 0
  else
    let near := oneHop s minPdr c
    if near.contains n then some 1
    else if near.any (fun m => (oneHop s minPdr m).contains n) then some 2
    else none

/-- The intermediate node of a two-hop route, 0xFFFF for a direct link (PIER_CONFIG, Table 6.8). -/
def viaOf (s : State) (minPdr c n : Nat) : Nat :=
  let near := oneHop s minPdr c
  if near.contains n then 0xFFFF
  else match (near.filter (fun m => (oneHop s minPdr m).contains n)).min? with
    | some m => shortOf m
    | none => 0xFFFF

end Sys2Proof.Machine
end

