-- ==== Sys2Proof/Machine/Truss.lean ====
section
/-! DEFINITION. The truss: policy records and their checks (R124, R125), compilation (R128), the choice of a tier (R129 to
R133), piers (R138 to R140), re-placement (R141 to R145) and what is pushed to the sites (R146, R148, Tables 6.14, 6.15). -/

namespace Sys2Proof.Machine

/-! ### The record (Table 4.1) -/

def rId (r : Bytes) : Nat := fld r 0 4
def rPriority (r : Bytes) : Nat := fld r 5 1 % 16
def rSurvive (r : Bytes) : Bool := (fld r 6 1).testBit 0
def rCross (r : Bytes) : Bool := (fld r 6 1).testBit 1
def rScope (r : Bytes) : Nat := fld r 8 8
def rBudget (r : Bytes) : Nat := fld r 16 4
def rTrigger (r : Bytes) : Nat := fld r 40 1
def rTp (r : Bytes) : Bytes := sub r 44 16
def rConds (r : Bytes) : List Bytes := (List.range (fld r 41 1)).map (fun i => sub r (60 + 16 * i) 16)
def rActions (r : Bytes) : List Bytes := (List.range (fld r 42 1)).map (fun i => sub r (60 + 16 * (fld r 41 1) + 16 * i) 16)

/-- The scope names one channel: a channel of lanterns, or one local output (Table 1.3; DESIGN CHOICE, log entry 125). -/
def oneChannel (r : Bytes) : Bool := adChannel (rScope r) != 15 || (adLantern (rScope r) == 0x1FFE && adGroup (rScope r) < 24)

/-- Specificity (R135). A scope on the module's own outputs counts as one on a lantern. Mark: DESIGN CHOICE (log entry 164). -/
def rSpec (r : Bytes) : Nat :=
  (if adLantern (rScope r) ≠ 0x1FFF then 2 else if adGroup (rScope r) ≠ 0x7F then 1 else 0) * 2
    + (if adChannel (rScope r) ≠ 15 then 1 else 0)

/-- The rank of claims and decisions (R135), without the policy ID. -/
def rRank (r : Bytes) : Nat := rPriority r * 8 + rSpec r

/-- The rank of placement, larger first (R132). -/
def placeRank (r : Bytes) : Nat := ((b2n (rSurvive r) * 16 + rPriority r) * 8 + rSpec r) * 2 ^ 32 + rId r

/-- The rank octet of Table 6.14. -/
def rankByte (r : Bytes) : Byte := byte (rPriority r + 16 * rSpec r + 128 * b2n (rSurvive r))

/-- Validity at an instant of span time in ns (R126): all zero from acceptance, all zero without end. -/
def validAt (p : Policy) (ns : Nat) : Bool :=
  let f := if zeroAt p.record 20 10 then p.acceptedNs else match decTime (sub p.record 20 10) with | some t => stTotNs t | none => 0
  let u := match decTime (sub p.record 30 10) with | some t => stTotNs t | none => 0
  f ≤ ns && (zeroAt p.record 30 10 || ns < u)

/-- The instant at which validity ends, in ns. -/
def validUntil (r : Bytes) : Option Nat := if zeroAt r 30 10 then none else (decTime (sub r 30 10)).map stTotNs

/-! ### The checks of POLICY_LOAD (R125, R339) -/

/-- Quantity and phase of Table 10.3. -/
def quantityOk (q ph : Nat) : Bool := 1 ≤ q && q ≤ 0x0C && ph ≤ 3 && (ph == 0 || !([0x07, 0x0A, 0x0B, 0x0C].contains q))

/-- A part of the record: right, with a reserved bit set, or with a parameter out of its range. -/
inductive Check where
  | ok | reserved | bad
deriving DecidableEq, Repr

def checkOf (bad reserved : Bool) : Check := if bad then .bad else if reserved then .reserved else .ok

/-- Table 4.2. -/
def triggerCheck (type : Nat) (p : Bytes) : Check :=
  match type with
  | 1 => checkOf (decTime (sub p 0 10)).isNone (!zeroAt p 10 6)
  | 2 => checkOf (1439 < fld p 0 2 || 59 < fld p 2 1 || fld p 3 1 % 128 == 0) (127 < fld p 3 1 || 1 < fld p 4 1 || !zeroAt p 5 11)
  | 3 =>
    let e := toS 16 (fld p 0 2)
    let o := toS 16 (fld p 4 2)
    checkOf (e < -1800 || 1000 < e || fld p 2 1 == 0 || 2 < fld p 2 1 || o < -180 || 180 < o) (!zeroAt p 3 1 || !zeroAt p 6 10)
  | 4 => checkOf (fld p 0 4 < 1000 || 86400000 < fld p 0 4 || fld p 0 4 ≤ fld p 4 4) (!zeroAt p 8 8)
  | 5 => checkOf (fld p 0 1 == 0 || 16 < fld p 0 1 || fld p 1 1 == 0 || 2 < fld p 1 1 || fld p 8 1 == 0 || 3 < fld p 8 1)
      (!zeroAt p 2 2 || !zeroAt p 9 7)
  | 6 => checkOf (fld p 0 1 == 0 || 16 < fld p 0 1 || 31 < fld p 1 1 || 31 < fld p 2 1) (1 < fld p 3 1 || !zeroAt p 8 8)
  | 7 => checkOf (!quantityOk (fld p 0 1) (fld p 1 1) || fld p 2 1 == 0 || 2 < fld p 2 1 || 600000 < fld p 8 4)
      (!zeroAt p 3 1 || !zeroAt p 12 4)
  | 8 => checkOf false (!zeroAt p 1 15)
  | _ => .bad

/-- A month, and a day it can have, 29 February included. -/
def dateOk (m d : Nat) : Bool := 1 ≤ m && m ≤ 12 && 1 ≤ d && d ≤ monthDays 2000 m

/-- Table 4.3, but for impossible dates. -/
def conditionCheck (p : Bytes) : Check :=
  let neg : Bool := 1 < fld p 1 1
  match fld p 0 1 with
  | 1 => checkOf (1439 < fld p 2 2 || 1439 < fld p 4 2 || fld p 2 2 == fld p 4 2) (neg || !zeroAt p 6 10)
  | 2 => checkOf (fld p 2 1 % 128 == 0) (neg || 127 < fld p 2 1 || !zeroAt p 3 13)
  | 3 => checkOf false (neg || !zeroAt p 6 10)
  | 4 => checkOf (fld p 2 1 == 0 || 2 < fld p 2 1) (neg || !zeroAt p 3 1 || !zeroAt p 8 8)
  | 5 => checkOf (!quantityOk (fld p 2 1) (fld p 3 1) || fld p 4 1 == 0 || 2 < fld p 4 1) (neg || !zeroAt p 5 3 || !zeroAt p 12 4)
  | _ => .bad

def dateBad (p : Bytes) : Bool := fld p 0 1 == 3 && !(dateOk (fld p 2 1) (fld p 3 1) && dateOk (fld p 4 1) (fld p 5 1))

/-- Table 4.4. -/
def actionCheck (single : Bool) (p : Bytes) : Check :=
  match fld p 0 1 with
  | 1 =>
    let hold : Bool := (fld p 1 1).testBit 0
    let cct : Bool := (fld p 1 1).testBit 1
    let mask := fld p 2 2
    let duv := toS 8 (fld p 8 1)
    checkOf ((if single then mask % 32768 != 0 else mask % 32768 == 0)
        || (if cct then !(1800 ≤ fld p 6 2 && fld p 6 2 ≤ 6500) else fld p 6 2 != 0)
        || duv < -60 || 60 < duv || 4 < fld p 9 1 || 360000 < fld p 10 4
        || (if hold then fld p 14 2 == 0 else fld p 14 2 != 0))
      (3 < fld p 1 1 || 32767 < mask)
  | 2 => checkOf false (!zeroAt p 1 1 || !zeroAt p 4 12)
  | 3 => checkOf (fld p 2 1 % 4 == 0 || fld p 3 1 == 0 || 2 < fld p 3 1) (3 < fld p 2 1 || !zeroAt p 1 1 || !zeroAt p 4 12)
  | _ => .bad

/-! ### Targets and home tier (R128, Table 4.5) -/

def scopeLocal (r : Bytes) : Bool := adLantern (rScope r) == 0x1FFE

/-- The lanterns of the scope that have its channel (R15). -/
def scopeLanterns (s : State) (r : Bytes) : List Nat :=
  reached s (rScope r)

/-- The pier of a lantern: the one it heads, else the one it is a member of. Mark: DESIGN CHOICE (log entry 112). -/
def pierOf (s : State) (n : Nat) : Option Pier :=
  match s.truss.piers.find? (fun p => p.head == n) with
  | some p => some p
  | none => s.truss.piers.find? (fun p => p.members.contains n)

/-- The scope lanterns all belong to one pier. -/
def onePier (s : State) (ts : List Nat) : Bool :=
  match ts with
  | [] => true
  | n :: _ => match pierOf s n with | some p => ts.all p.members.contains | none => false

/-- Table 4.5. -/
def homeTier (s : State) (r : Bytes) : Nat :=
  let scopeSensor : Bool := rTrigger r == 5 && fld (rTp r) 1 1 == 2
  if rCross r then 4
  else if rTrigger r = 7 ∨ rTrigger r = 8 ∨ (rConds r).any (fun c => fld c 0 1 == 5) ∨ (rActions r).any (fun a => fld a 0 1 == 3)
      ∨ scopeLocal r then 3
  else if scopeSensor && !onePier s (scopeLanterns s r) then 3
  else if rTrigger r = 6 ∨ scopeSensor then 2
  else 1

/-- What POLICY_LOAD finds wrong with a record, in the order of R125 and its detail codes (R154): status and detail. -/
def recordRefusal (s : State) (r : Bytes) : Option (Nat × Nat) :=
  let t := rScope r
  let checks := [(triggerCheck (rTrigger r) (rTp r), 0x84)] ++ (rConds r).map (fun c => (conditionCheck c, 0x85))
    ++ (rActions r).map (fun a => (actionCheck (oneChannel r) a, 0x86))
  let u := validUntil r
  let f := if zeroAt r 20 10 then none else (decTime (sub r 20 10)).map stTotNs
  if fld r 4 1 ≠ 1 ∨ rId r = 0 ∨ rId r = 0xFFFFFFFF ∨ 8 < fld r 41 1 ∨ fld r 42 1 = 0 ∨ 8 < fld r 42 1
      ∨ 3600000 < rBudget r then some (stBadParam, 0x83)
  else if 15 < fld r 5 1 ∨ 3 < fld r 6 1 ∨ !zeroAt r 7 1 ∨ !zeroAt r 43 1 then some (stBadParam, dReservedBit)
  else if !targetMatches s t then some (stBadParam, dTargetMismatch)
  else if !targetListed t ∨ singleBad s t then some (stBadParam, dTargetField)
  else match checks.find? (fun c => c.1 != .ok) with
    | some (.reserved, _) => some (stBadParam, dReservedBit)
    | some (_, d) => some (stBadParam, d)
    | none =>
      if (rConds r).any dateBad then some (stInvalidDate, dNone)
      else if rCross r && !(adCauseway t == 0xFF || adCity t == 0xFFF || adViaduct t == 0x3FF || adSpan t == 0x3FF) then
        some (stBadParam, 0x87)
      else if rSurvive r && 3 ≤ homeTier s r then some (stBadParam, 0x82)
      else if (!zeroAt r 20 10 && f.isNone) || (!zeroAt r 30 10 && u.isNone) then some (stBadParam, 0x88)
      else match u with
        | some u => if decide (u ≤ s.spanNs) || (match f with | some f => decide (u ≤ f) | none => false) then some (stBadParam, 0x88) else none
        | none => none

/-! ### Inputs and latency estimates (R129) -/

/-- Rank of a lantern within the scope (R126). -/
def rankIn (ts : List Nat) (n : Nat) : Nat := (ts.takeWhile (· != n)).length

/-- Whether a target lies in the window of a source (R126); with DIRECTIONAL both ranges can apply. -/
def inWindow (r : Bytes) (ts : List Nat) (heading sN tN : Nat) : Bool :=
  let ahead : Int := fld (rTp r) 1 1
  let behind : Int := fld (rTp r) 2 1
  let d : Int := (rankIn ts tN : Int) - rankIn ts sN
  let up : Bool := -behind ≤ d && d ≤ ahead
  let down : Bool := -ahead ≤ d && d ≤ behind
  if !(fld (rTp r) 3 1).testBit 0 then up
  else if heading = 1 then up else if heading = 2 then down else up || down

/-- The input sources of a target. -/
def sourcesOf (s : State) (r : Bytes) (t : Nat) : List Nat :=
  let ts := scopeLanterns s r
  if rTrigger r = 6 then ts.filter (fun x => inWindow r ts 0 x t)
  else if rTrigger r = 5 then (if fld (rTp r) 1 1 = 2 then ts else [t])
  else []

def addOpt (a b : Option Nat) : Option Nat := match a, b with | some a, some b => some (a + b) | _, _ => none

/-- The short address of the head a source reports to; an unpiered source reports to the fragment's head. -/
def headFor (s : State) (own n : Nat) : Nat := match pierOf s n with | some p => p.head | none => own

/-- The legs of the path from a source to a fragment's head, and from that head to a target (R129). -/
def legsTo (s : State) (head x : Nat) : List (Nat × Nat) :=
  let h := headFor s head x
  [(shortOf x, shortOf h), (shortOf h, shortOf head)]

/-- The latency of a chain of legs; none where one has no route. -/
def legsH (s : State) (ls : List (Nat × Nat)) : Option Nat := ls.foldl (fun a l => addOpt a (latency s l.1 l.2)) (some 0)

/-- Every link on a chain of legs has the delivery ratio that Table 4.6 asks. -/
def legsOk (s : State) (ls : List (Nat × Nat)) : Bool :=
  ls.all (fun l => match meshRoute s l.1 l.2 with | some r => pathOk s (s.live 0x0404) l.1 r | none => false)

/-- The chains of legs from the sources of a target that have a route, each with the way down to the target. A source without a
route counts no link and no latency. Mark: DEDUCED (log entry 113). -/
def chains (s : State) (up : Nat → List (Nat × Nat)) (down : Nat × Nat) (srcs : List Nat) : List (List (Nat × Nat)) :=
  let routed := srcs.filter (fun x => (legsH s (up x)).isSome)
  if routed = [] then [[down]] else routed.map (fun x => up x ++ [down])

/-- The greatest latency of a list of chains (R129). -/
def worst (s : State) (cs : List (List (Nat × Nat))) : Nat := cs.foldl (fun a c => max a ((legsH s c).getD 0)) 0

/-- The chains of a policy's fragment on a head: every pair of a source and a target among the members, to targets with a
route (R129). -/
def pierChains (s : State) (r : Bytes) (head : Nat) (ts : List Nat) : List (List (Nat × Nat)) :=
  (ts.filter (fun t => (latency s (shortOf head) (shortOf t)).isSome)).flatMap (fun t =>
    chains s (legsTo s head) (shortOf head, shortOf t) (sourcesOf s r t))

/-- E at PIER, of the fragment on a head for the scope's members of its pier. -/
def estPier (s : State) (r : Bytes) (p : Pier) : Nat := worst s (pierChains s r p.head ((scopeLanterns s r).filter p.members.contains))

/-- E at SPAN, over every pair of the policy. -/
def estSpan (s : State) (r : Bytes) : Nat :=
  20 + worst s (((scopeLanterns s r).filter (fun t => (latency s rootShort (shortOf t)).isSome)).flatMap (fun t =>
    chains s (fun x => [(shortOf x, rootShort)]) (rootShort, shortOf t) (sourcesOf s r t)))

def meets (budget e : Nat) : Bool := budget == 0 || e ≤ budget

/-! ### Piers (R138 to R140) -/

/-- R138, but for SILENT. -/
def headFit (l : Lantern) (minSlots : Nat) : Bool :=
  l.cap 1 1 == 1 && !l.sleepy && minSlots ≤ l.slots && l.slots != 0 && !l.adrift

/-- R138. -/
def headEligible (s : State) (n : Nat) : Bool :=
  match s.lan n with
  | some l => headFit l (s.live 0x0406) && !l.silent
  | none => false

/-- A head SILENT for PLACE_SILENT_DELAY (Table 4.8). -/
def silentLong (s : State) (n : Nat) : Bool :=
  match s.lan n with
  | some l => l.silent && (match get? s.truss.silentSince n with | some t => t + s.live 0x0403 * sec ≤ s.now | none => true)
  | none => false

/-- A kept pier's head (R140): a SILENT one is kept until its delay ends. -/
def headKept (s : State) (n : Nat) : Bool :=
  match s.lan n with
  | some l => headFit l (s.live 0x0406) && !silentLong s n
  | none => false

/-- Within two hops of a pier's head over links at or above a ratio. -/
def near2 (s : State) (minPdr c n : Nat) : Bool := (hopsWithin2 s minPdr c n).isSome

def uncovered (s : State) (ps : List Pier) : List Nat :=
  (s.mac.lanterns.filter (fun p => !p.2.silent && !p.2.adrift && !(ps.any (fun q => q.members.contains p.1)))).map (·.1)

/-- Reach of a candidate head, by hop count, then index (R139). -/
def reach (s : State) (unc : List Nat) (c : Nat) : List Nat :=
  let at_ (h : Nat) := unc.filter (fun n => n != c && hopsWithin2 s (s.live 0x0404) c n == some h)
  at_ 1 ++ at_ 2

/-- The head with the largest reach, capped at 32, ties to the lowest index (R139); its count includes itself. Any eligible head
that heads no pier is a candidate. -/
def bestHead (s : State) (unc : List Nat) (ps : List Pier) : Option (Nat × Nat) :=
  (((s.mac.lanterns.map (·.1)).filter (fun c => headEligible s c && !(ps.any (fun p => p.head == c)))).map
    (fun c => (c, min 32 ((reach s unc c).length + 1)))).foldl
      (fun a x => match a with | none => some x | some b => if b.2 < x.2 then some x else some b) none

/-- New piers (R139), numbered by their heads. -/
def formPiers (s : State) : Nat → List Pier → List Pier
  | 0, ps => ps
  | k + 1, ps =>
    let unc := uncovered s ps
    match bestHead s unc ps with
    | some (c, m) =>
      if m < 2 ∨ 512 ≤ ps.length then ps
      else formPiers s k (ps ++ [{ head := c, members := ([c] ++ reach s unc c).take 32, formed := s.mac.cycle, entries := [] }])
    | none => ps

/-- Uncovered lanterns try the kept piers in order of pier number (R140). -/
def joinKept (s : State) (ps : List Pier) : List Pier :=
  (uncovered s ps).foldl (fun ps n =>
    match (ps.filter (fun p => p.members.length < 32 && near2 s (s.live 0x0404) p.head n)).map (·.head) |>.min? with
    | some h => ps.map (fun p => if p.head = h then { p with members := p.members ++ [n] } else p)
    | none => ps) ps

/-- The piers after R139 and R140. -/
def nextPiers (s : State) : List Pier :=
  let low := s.live 0x0404 - s.live 0x0405
  let kept := (s.truss.piers.filter (fun p => headKept s p.head)).map (fun p =>
    { p with members := p.members.filter (fun n => (s.lan n).isSome && near2 s low p.head n) })
  let ps := formPiers s (s.mac.lanterns.length) (joinKept s kept)
  sortBy (fun a b => decide (a.head ≤ b.head)) ps

/-! ### Choosing sites (R130 to R132, R142 to R145) -/

def State.policy (s : State) (id : Nat) : Option Policy := get? s.truss.policies id

def policyRank (s : State) (id : Nat) : Nat := match s.policy id with | some p => placeRank p.record | none => 0

/-- Fragments that fill a lantern's slots: withdrawn ones count while the withdrawal is owed to a lost route (R143). -/
def residents (fs : List Fragment) (n : Nat) : List Fragment :=
  fs.filter (fun f => f.tier == 1 && f.site == n && f.state != 6 && f.state != 4 && (f.owed || (f.state != 7 && f.targets != [])))

/-- Sources of a PIER fragment in other piers: the heads that carry a bridge entry to it (R131). -/
def bridgeHeads (s : State) (f : Fragment) : List Nat :=
  match s.policy f.policy with
  | none => []
  | some p =>
    ((f.targets.flatMap (sourcesOf s p.record)).filterMap (fun x => (pierOf s x).map (·.head))).eraseDups.filter (· != f.site)

/-- A PIER fragment that fills a pier slot. -/
def fillsPier (f : Fragment) : Bool := f.tier == 2 && f.state != 7 && f.state != 6 && f.state != 4 && f.targets != []

/-- Pier slots that PIER fragments and bridge entries use on a head (Table 4.7). -/
def pierLoad (s : State) (fs : List Fragment) (h : Nat) : Nat :=
  let live := fs.filter fillsPier
  (live.filter (fun f => f.site == h)).length + (live.filter (fun f => (bridgeHeads s f).contains h)).length

/-- Entries on a head beside its fragments and the bridges to fragments in force: forwards, and what it is still to be rid of. -/
def forwardsOn (s : State) (h : Nat) : Nat :=
  match s.truss.piers.find? (fun p => p.head == h) with
  | some p => (p.entries.filter (fun e => e.kind == 4 || e.gone)).length
  | none => 0

/-- Pier slots in use on a head: PIER fragments, bridge entries, forwards (Table 4.7). -/
def pierUsed (s : State) (fs : List Fragment) (h : Nat) : Nat := pierLoad s fs h + forwardsOn s h

/-- Fragments of a policy at a site, in force; those SUSPENDED stand apart. -/
def standsAt (pol tier site : Nat) (suspended : Bool) (f : Fragment) : Bool :=
  f.policy == pol && f.tier == tier && f.site == site && f.state != 7 && f.state != 4 && (f.state == 6) == suspended

/-- The lowest-ranked resident that may be evicted for a policy (R132): not pinned, not STRANDED (R143). -/
def evictable (s : State) (fs : List Fragment) (pol n : Nat) : Option Fragment :=
  ((residents fs n).filter (fun f => f.state != 7 && f.state != 3 && f.policy != pol
    && (match s.policy f.policy with | some p => p.pin == 0 | none => true) && policyRank s f.policy < policyRank s pol)).foldl
    (fun a f => match a with
      | none => some f
      | some g => if policyRank s f.policy < policyRank s g.policy then some f else some g) none

/-- LANTERN for a target (Table 4.6): a free slot, or one freed by eviction. -/
def lanternTier (s : State) (fs : List Fragment) (pol t : Nat) (evict : Bool) : List (Nat × Nat × Nat) :=
  let slots := match s.lan t with | some l => l.slots | none => 0
  if (residents fs t).length < slots || (evict && slots != 0 && (evictable s fs pol t).isSome) then [(1, t, 0)] else []

/-- PIER for a target (Table 4.6): a slot is free, of what the policy itself does not use, on every head its fragment would use. -/
def pierTier (s : State) (fs : List Fragment) (pol : Nat) (r : Bytes) (t : Nat) : List (Nat × Nat × Nat) :=
  match pierOf s t with
  | none => []
  | some p =>
    let mine := fs.filter (standsAt pol 2 p.head false)
    let whole : Fragment :=
      { (default : Fragment) with policy := pol, tier := 2, site := p.head, state := 1, targets := t :: mine.flatMap (·.targets) }
    let others := fs.filter (fun f => !standsAt pol 2 p.head false f)
    let room := (p.head :: bridgeHeads s whole).all (fun h => decide (pierUsed s others h < 64))
    let sound := (latency s (shortOf p.head) (shortOf t)).isSome
      && (pierChains s r p.head ((scopeLanterns s r).filter p.members.contains)).all (legsOk s)
    if room && sound then [(2, p.head, estPier s r p)] else []

/-- SPAN for a target (Table 4.6). -/
def spanTier (s : State) (fs : List Fragment) (pol : Nat) (r : Bytes) (t : Nat) : List (Nat × Nat × Nat) :=
  if !rSurvive r && (latency s rootShort (shortOf t)).isSome
      && (fs.filter (fun f => f.tier == 3 && f.policy != pol)).length < 2048 then [(3, 0xFFFF, estSpan s r)] else []

/-- Eligible tiers of a target from the lowest, with E (Table 4.6): tier, site, estimate. -/
def eligibleTiers (s : State) (fs : List Fragment) (pol : Nat) (r : Bytes) (t : Nat) (lantern evict : Bool) :
    List (Nat × Nat × Nat) :=
  let home := homeTier s r
  (if home = 1 && lantern then lanternTier s fs pol t evict else []) ++ (if home ≤ 2 then pierTier s fs pol r t else [])
    ++ (if home ≤ 3 then spanTier s fs pol r t else [])

/-- R130: the lowest eligible tier within the budget, else the lowest eligible, BUDGET_UNMET. -/
def chooseTier (budget : Nat) (el : List (Nat × Nat × Nat)) : Option (Nat × Nat × Bool) :=
  match el.find? (fun e => meets budget e.2.2) with
  | some (t, x, _) => some (t, x, false)
  | none => el.head?.map (fun e => (e.1, e.2.1, true))

/-- The fragment of a policy that serves a target. -/
def fragOf (fs : List Fragment) (pol t : Nat) : Option Fragment :=
  fs.find? (fun f => f.policy == pol && f.state != 7 && f.targets.contains t)

/-- A target leaves its fragment; an empty fragment of a removed target goes into withdrawal when the sites are settled. -/
def dropTarget (fs : List Fragment) (pol t : Nat) : List Fragment :=
  fs.map (fun f => if f.policy = pol && f.state != 7 then { f with targets := f.targets.filter (· != t) } else f)

/-- A fragment takes its policy's present version, to be pushed anew; a STRANDED one keeps the old until its route returns
(R143). -/
def newVersion (p : Policy) (f : Fragment) : Fragment :=
  if f.state = 3 ∨ f.version = p.version then f
  else { f with version := p.version, push := none, state := if f.tier < 3 ∧ f.state = 2 then 1 else f.state }

/-- A target joins a fragment at a site, made new where none is in force (R128); the whole fragment has one estimate. -/
def addTarget (s : State) (fs : List Fragment) (p : Policy) (tier site t : Nat) (unmet : Bool) (state : Nat) : List Fragment :=
  let pol := rId p.record
  let here := standsAt pol tier site (state == 6)
  if fs.any here then
    fs.map (fun f => if here f then { newVersion p f with targets := insertSet f.targets t, unmet := unmet } else f)
  else fs ++ [{ policy := pol, tier := tier, site := site, state := state, unmet := unmet, version := p.version,
                moveCycle := s.mac.cycle, movedAt := s.now, targets := [t], confirmed := none, push := none, content := 0,
                owed := false, tableDay := s.utcSec / 86400 }]

/-- The state a fragment starts in: the module's own run at once (Table 4.14). -/
def startState (tier : Nat) : Nat := if tier < 3 then 1 else 2

def holdOn (s : State) : Bool := match s.truss.hold with | some (t, _) => s.now < t | none => false

/-- What an evaluation carries along: the fragments, the triggers it keeps, and the policies evicted from lanterns (R132). -/
structure Eval where
  frags : List Fragment
  kept : List (Nat × Nat × Nat)
  /-- lantern, policy -/
  evicted : List (Nat × Nat)
deriving DecidableEq, Repr, Inhabited

/-- An evicted fragment is placed again with LANTERN excluded (R132). -/
def placeEvicted (s : State) (pol t : Nat) (e : Eval) : Eval :=
  let e := { e with evicted := e.evicted ++ [(t, pol)] }
  match s.policy pol with
  | none => e
  | some q =>
    match chooseTier (rBudget q.record) (eligibleTiers s e.frags pol q.record t false false) with
    | some (tier, site, unmet) => { e with frags := addTarget s e.frags q tier site t unmet (startState tier) }
    | none => e

/-- The tiers a pin leaves: its own, and of a fragment already placed its own site (R144). -/
def pinned (pin : Nat) (at_ : Option Nat) (el : List (Nat × Nat × Nat)) : List (Nat × Nat × Nat) :=
  if pin = 0 then el else el.filter (fun x => x.1 == pin && (match at_ with | some site => site == x.2.1 | none => true))

/-- The site at which a pin holds a target: the one its fragment has at the pinned tier (R144). -/
def pinSite (fs : List Fragment) (p : Policy) (t : Nat) : Option Nat :=
  match fragOf fs (rId p.record) t with
  | some f => if f.tier = p.pin ∧ f.site ≠ 0xFFFF then some f.site else none
  | none => none

/-- A target placed (R130, R132, R144). Under a hold nothing is evicted for it (R145). A pinned fragment stays at the site it
has, and is SUSPENDED where that can no longer host the target. -/
def placeTarget (s : State) (p : Policy) (t : Nat) (at_ : Option Nat) (e : Eval) : Eval :=
  let pol := rId p.record
  let fs := dropTarget e.frags pol t
  let el := eligibleTiers s fs pol p.record t (!e.evicted.contains (t, pol)) (!holdOn s)
  match chooseTier (rBudget p.record) (pinned p.pin at_ el) with
  | some (tier, site, unmet) =>
    let full : Bool := tier == 1 && (match s.lan t with | some l => l.slots | none => 0) ≤ (residents fs t).length
    match (if full then evictable s fs pol t else none) with
    | none => { e with frags := addTarget s fs p tier site t unmet (startState tier) }
    | some v => placeEvicted s v.policy t { e with frags := addTarget s (dropTarget fs v.policy t) p tier site t unmet 1 }
  | none =>
    { e with frags := if p.pin ≠ 0 then addTarget s fs p p.pin (at_.getD (if p.pin = 1 then t else 0xFFFF)) t false 6 else fs }

/-! What an evaluation compares with the one before it (Table 4.8): the pier of a target, and the side of the budget on which an
estimate lies. -/

/-- The head a lantern reports to by a pier map. -/
def headBy (ps : List Pier) (n : Nat) : Option Nat :=
  match ps.find? (fun p => p.head == n) with
  | some p => some p.head
  | none => (ps.find? (fun p => p.members.contains n)).map (·.head)

/-- The side of the budget of a policy's estimates, at every pier and at SPAN: policy, pier or 0xFFFF, met. -/
def budgetSides (s : State) : List (Nat × Nat × Bool) :=
  s.truss.policies.flatMap (fun e =>
    let r := e.2.record
    if rBudget r = 0 ∨ 2 < homeTier s r then []
    else (e.1, 0xFFFF, meets (rBudget r) (estSpan s r)) :: s.truss.piers.map (fun p => (e.1, p.head, meets (rBudget r) (estPier s r p))))

/-- An estimate has moved to the other side of its budget since the last evaluation. -/
def sideMoved (s : State) (pol site : Nat) (met : Bool) : Bool :=
  s.truss.sides.any (fun x => x.1 == pol && x.2.1 == site && x.2.2 != met)

/-- The mark of a kept trigger that is an event and no lasting condition, over its fragment's site. -/
def keptEvent : Nat := 65536

/-- What has happened to a target since the last evaluation that may open it another tier (Table 4.8): its descriptor changed, it
joined, left or changed a pier, or an estimate crossed the budget; or such a trigger was kept. -/
def eventTrigger (s : State) (p : Policy) (f : Fragment) (t : Nat) : Bool :=
  let r := p.record
  let pol := rId r
  s.truss.kept.any (fun k => k.1 == t && (k.2 == (0, 0) || k.2 == (pol, keptEvent + f.site)))
    || (decide (f.tier = 2 ∨ f.tier = 3) && decide (homeTier s r ≤ 2)
      && ((f.tier == 3 && headBy s.truss.savedPiers t != headBy s.truss.piers t)
        || (match pierOf s t with | some q => rBudget r != 0 && sideMoved s pol q.head (meets (rBudget r) (estPier s r q)) | none => false)
        || (rBudget r != 0 && sideMoved s pol 0xFFFF (meets (rBudget r) (estSpan s r)))))

/-- A PIER fragment uses a head beyond its 64 slots (R133): sources or piers have changed since it was placed. -/
def overloaded (s : State) (fs : List Fragment) (f : Fragment) : Bool :=
  f.tier == 2 && (f.site :: bridgeHeads s f).any (fun h => decide (64 < pierLoad s fs h))

/-- Whether a target's placement must be looked at again (Table 4.8), and whether the hold-down does not apply: none of it
moves a STRANDED fragment (R143), and a pinned one follows its pin alone (R144). -/
def trigger (s : State) (fs : List Fragment) (p : Policy) (f : Fragment) (t : Nat) : Option Bool :=
  let r := p.record
  let pier := pierOf s t
  let left : Bool := f.tier == 2 && pier.map (·.head) != some f.site
  if f.state = 3 then none
  else if p.pin ≠ 0 then (if f.tier ≠ p.pin ∨ f.state = 6 ∨ f.state = 4 ∨ left then some true else none)
  else if f.state = 4 ∨ f.state = 6 then some true
  else if f.tier < homeTier s r ∨ left ∨ overloaded s fs f ∨ eventTrigger s p f t then some false
  else if f.tier == 2 && (match pier with | some q => meets (rBudget r) (estPier s r q) == f.unmet | none => false) then some false
  else if f.tier == 3 && !scopeLocal r && meets (rBudget r) (estSpan s r) == f.unmet then some false
  else none

/-- The target is served where it was. -/
def sameSite (a b : List Fragment) (pol t : Nat) : Bool :=
  match fragOf a pol t, fragOf b pol t with
  | some f, some g => f.tier == g.tier && f.site == g.site && (f.state == 6) == (g.state == 6)
  | _, _ => false

/-- One trigger at an evaluation: acted on, or kept under a hold or the hold-down; what stays at its site is no move (R142,
R145). -/
def visitTrigger (s : State) (e : Eval) (k : Nat × Nat × Nat) : Eval :=
  match s.policy k.2.1, fragOf e.frags k.2.1 k.1 with
  | some p, some f =>
    match trigger s e.frags p f k.1 with
    | none => e
    | some now =>
      let e' := placeTarget s p k.1 (pinSite e.frags p k.1) e
      if !holdOn s && (now || f.movedAt + s.live 0x0401 * sec ≤ s.now || sameSite e.frags e'.frags k.2.1 k.1) then e'
      else { e with kept := e.kept ++ [(k.1, k.2.1, if eventTrigger s p f k.1 then keptEvent + f.site else f.site)] }
  | _, _ => e

/-- The triggers on the fragments in force, in order of lantern index, policy ID and site (R141). -/
def triggersOf (s : State) (fs : List Fragment) : List (Nat × Nat × Nat) :=
  let all := fs.flatMap (fun f => match s.policy f.policy with
    | some p => if f.state = 7 ∨ scopeLocal p.record ∨ homeTier s p.record = 4 then []
        else (f.targets.filter (fun t => (trigger s fs p f t).isSome)).map (fun t => (t, f.policy, f.site))
    | none => [])
  let key (k : Nat × Nat × Nat) : Nat := (k.1 * 2 ^ 32 + k.2.1) * 65536 + k.2.2
  sortBy (fun a b => decide (key a ≤ key b)) all

/-- A policy's validity has ended. -/
def expired (s : State) (p : Policy) : Bool := match validUntil p.record with | some u => u ≤ s.spanNs | none => false

/-- A policy's fragments follow its scope and home tier (R128): one that has ended leaves none, VIADUCT and local outputs have
one of their own kind, and targets no longer in the scope are dropped. -/
def settlePolicy (s : State) (fs : List Fragment) (p : Policy) : List Fragment :=
  let r := p.record
  let pol := rId r
  let ts := scopeLanterns s r
  let home := homeTier s r
  let own (f : Fragment) : Bool := f.policy == pol && f.state != 7
  if expired s p then fs.filter (fun f => f.policy != pol)
  else if home = 4 ∨ scopeLocal r then
    let tier := if home = 4 then 4 else 3
    let outs := if home = 4 then [] else localOuts s (rScope r)
    let fs := fs.map (fun f => if own f && f.tier != tier then { f with targets := [] } else f)
    let fs := if fs.any (fun f => own f && f.tier == tier) then fs else addTarget s fs p tier 0xFFFF 0 false 2
    fs.map (fun f => if own f && f.tier == tier then
      { newVersion p f with targets := outs, state := if p.pin ≠ 0 ∧ p.pin ≠ tier then 6 else 2 } else f)
  else fs.map (fun f => if own f then { f with targets := if f.tier = 4 then [] else f.targets.filter ts.contains } else f)

/-- A policy's targets without a fragment are placed; a new version is placed afresh (R128), but under a hold it stays where the
old one is (R145), and a STRANDED fragment waits (R143). All of its targets leave the old version's fragments first, so that each is
given a tier under the new record. -/
def placePolicy (s : State) (e : Eval) (p : Policy) : Eval :=
  let r := p.record
  let pol := rId r
  if expired s p ∨ homeTier s r = 4 ∨ scopeLocal r then e
  else
    let e := if holdOn s then
        { e with frags := e.frags.map (fun f => if f.policy = pol ∧ f.state ≠ 7 then newVersion p f else f) } else e
    let due := (scopeLanterns s r).filter (fun t => match fragOf e.frags pol t with
      | none => true
      | some f => f.version != p.version && f.state != 3)
    let sites := due.map (fun t => (t, pinSite e.frags p t))
    sites.foldl (fun e x => placeTarget s p x.1 x.2 e)
      { e with frags := due.foldl (fun fs t => dropTarget fs pol t) e.frags }

/-! ### What the sites are sent (Tables 6.14, 6.15) -/

/-- The policy needs local-time tables (Table 6.15). -/
def needsLocal (r : Bytes) : Bool := rTrigger r == 2 || (rConds r).any (fun c => [1, 2, 3].contains (fld c 0 1))

/-- Latitude and longitude of the site of an ASTRO computation: the centroid of the target's pier, or the lantern itself. -/
def siteOf (s : State) (n : Nat) : Int × Int :=
  let ns := match pierOf s n with | some p => p.members | none => [n]
  let ls := ns.filterMap s.lan
  if ls = [] then (toS 32 (Config.unstated 14 n), toS 32 (Config.unstated 15 n))
  else (roundDiv ((ls.map (·.lat)).sum) ls.length, roundDiv ((ls.map (·.lon)).sum) ls.length)

/-- The instant of the shifted crossing that a day's crossing gives, in UTC minutes since 2000; none on a day without one. For
latitudes up to 60° the computed instant lies within a minute of the true one (R146). Mark: DESIGN CHOICE (log entry 13): the
true crossing and the error are free. -/
def shiftedCrossing (s : State) (r : Bytes) (n day : Nat) : Option Int :=
  let pos := siteOf s n
  let a := fld (rTp r) 0 3
  if Config.sunSide day pos.1 pos.2 a % 3 ≠ 0 then none
  else
    let e := Config.sunError day pos.1 pos.2 a
    let e := if pos.1.natAbs ≤ 600000000 then max (-1) (min 1 e) else e
    some (day * 1440 + Config.sunMinute day pos.1 pos.2 a + e + toS 16 (fld (rTp r) 4 2))

/-- The UTC minute of the shifted crossing that falls on a day, or a code of Table 6.15 for a day with none. -/
def astroMinute (s : State) (r : Bytes) (n day : Nat) : Nat :=
  match ([day - 1, day, day + 1].filterMap (shiftedCrossing s r n)).find? (fun m : Int => m / 1440 == (day : Int)) with
  | some m => (m % 1440).toNat
  | none => if Config.sunSide day (siteOf s n).1 (siteOf s n).2 (fld (rTp r) 0 3) % 3 = 1 then 0xFFFE else 0xFFFD

/-- The day tables of a fragment (Table 6.15), from a UTC day. -/
def dayTables (s : State) (r : Bytes) (n day : Nat) : Bytes :=
  let astro := if rTrigger r = 3 then
      [byte 1, byte 0] ++ le 2 day ++ (List.range 7).flatMap (fun k => le 2 (astroMinute s r n (day + k))) else []
  let lo := day * 86400
  let ts := (s.rtc.transitions.filter (fun v => lo < v.1 && v.1 < lo + 7 * 86400)).take 2
  let local_ := if needsLocal r then
      [byte 2, byte ts.length] ++ le 2 day ++ le 2 (ofS 16 (offsetAt s.rtc lo).1) ++ zeros 2
        ++ ts.flatMap (fun v => le 4 ((v.1 - lo) / 60) ++ le 2 (ofS 16 v.2)) else []
  astro ++ local_

/-- R252: LAMP_DEFAULT_CURVE takes the place of curve 0x00 in what the module compiles. -/
def compiledAction (s : State) (a : Bytes) : Bytes :=
  if fld a 0 1 = 1 then a.take 9 ++ [byte (curveOf s (fld a 9 1))] ++ a.drop 10 else a

/-- The content of FRAGMENT_INSTALL (Table 6.14), part octet zero, with day tables from a UTC day. -/
def installBytes (s : State) (p : Policy) (kind : Nat) (targets sources : List Nat) (site day : Nat) : Bytes :=
  let r := p.record
  let ts := scopeLanterns s r
  let ref (n : Nat) := le 2 n ++ le 2 (rankIn ts n)
  le 4 (rId r) ++ le 2 p.version ++ [byte kind, rankByte r, byte (adChannel (rScope r)), 0, byte (min targets.length 32),
    byte (min sources.length 255)] ++ sub r 20 20 ++ sub r 40 (20 + 16 * fld r 41 1) ++ (rActions r).flatMap (compiledAction s) ++ (targets.take 32).flatMap ref ++ (sources.take 255).flatMap ref
    ++ dayTables s r site day

/-- Lantern indices in order, each once. -/
def inOrder (ns : List Nat) : List Nat := sortBy (fun a b => decide (a ≤ b)) ns.eraseDups

/-- Sources of a fragment as its site needs them. -/
def fragSources (s : State) (f : Fragment) : List Nat :=
  match s.policy f.policy with
  | some p => if rTrigger p.record = 5 ∧ fld (rTp p.record) 1 1 = 1 ∧ f.tier = 1 then []
      else inOrder (f.targets.flatMap (sourcesOf s p.record))
  | none => []

/-- An install in at most 16 parts (R213, R233): every part repeats offsets 0 to 11. -/
def installParts (s : State) (site : Nat) (b : Bytes) : List Bytes :=
  let room := max 1 (16 * (maxPsdu (phyMode s) - 20) - 16 - 2 * ((get? s.mac.routes site).getD []).length - 12)
  let n := max 1 ((b.length - 12 + room - 1) / room)
  let rest := chunks room (min n 16) (b.drop 12)
  (rest.zip (List.range rest.length)).map (fun p => b.take 9 ++ [byte (p.2 * 16 + (rest.length - 1))] ++ sub b 10 2 ++ p.1)

/-- The lantern can be sent to now: the span runs and its frames are not held (R141, R183). -/
def reachable (s : State) (n : Nat) : Bool :=
  s.mac.running && (match s.lan n with | some l => l.state == .joined && !l.holds | none => false)

/-- The content of a fragment with day tables from a UTC day. -/
def fragContent (s : State) (f : Fragment) (day : Nat) : Bytes :=
  match s.policy f.policy with
  | some p => installBytes s { p with version := f.version } f.tier f.targets (fragSources s f) f.site day
  | none => []

/-- Sends an install and answers the transaction of its last part. -/
def sendInstall (n : Nat) (b : Bytes) (s : State) : State := (installParts s n b).foldl (fun s p => sendOwn n 0x0201 p s) s

/-- The transaction that will carry the last part of an install. -/
def lastPart (s : State) (n : Nat) (b : Bytes) : Nat := s.mac.nextTxn + ((installParts s n b).length - 1)

/-- FRAGMENT_WITHDRAW (Table 6.8). -/
def withdrawBytes (policy version : Nat) : Bytes := le 4 policy ++ le 2 version ++ zeros 2

/-- A LANTERN or PIER fragment is pushed when the site holds something else (R128), with tables from the present day. -/
def pushFragment (f : Fragment) (s : State) : State :=
  let day := s.utcSec / 86400
  let change (g : Fragment) (s : State) : State :=
    s.modTruss (fun u => { u with fragments := u.fragments.map (fun x => if x = f then g else x) })
  if 2 < f.tier ∨ !reachable s f.site ∨ f.push.isSome then s
  else if f.state = 7 then
    sendOwn f.site 0x0202 (withdrawBytes f.policy f.version) (change { f with push := some s.mac.nextTxn, owed := false } s)
  else if (f.state = 1 ∨ f.state = 2 ∨ f.state = 3) ∧ (f.state = 1 ∨ f.confirmed ≠ some (crc32c (fragContent s f f.tableDay))) then
    let b := fragContent s f day
    sendInstall f.site b (change { f with push := some (lastPart s f.site b), content := crc32c b, tableDay := day } s)
  else s

/-! ### Forwards and bridges (R131, R148) -/

/-- Whether a SPAN or VIADUCT fragment consumes sensor events (R148). -/
def consumesSensor (r : Bytes) : Bool := rTrigger r == 5 || rTrigger r == 6

/-- Lanterns whose events must reach the module, by the key of what consumes them. -/
def consumers (s : State) : List (Nat × List Nat) :=
  (s.truss.fragments.filterMap (fun f => match s.policy f.policy with
    | some p => if f.tier = 3 ∧ f.state ≠ 7 ∧ consumesSensor p.record ∧ !scopeLocal p.record then
        some (f.policy, (f.targets.flatMap (sourcesOf s p.record)).eraseDups) else none
    | none => none))
  ++ s.truss.subs.map (fun u => (2 ^ 32 + u.number, reached s u.target))

/-- The record a forward of a consumer carries: the policy's, or one the spec does not lay out for a subscription. Mark:
DESIGN CHOICE (log entry 31): policy ID and threshold of a subscription's forward are free. -/
def forwardRecord (s : State) (key : Nat) : Policy :=
  match s.policy key with
  | some p => p
  | none =>
    let u := s.truss.subs.find? (fun u => 2 ^ 32 + u.number == key)
    let sensor := match u with | some u => u.sensor | none => 0
    { record := le 4 (Config.unstated 11 key) ++ [1, 0, 0, 0] ++ le 8 adAll ++ zeros 24 ++ [5, 0, 0, 0]
        ++ [byte sensor, 2, 0, 0] ++ le 4 (Config.unstated 12 key) ++ [3] ++ zeros 7,
      version := 1, pin := 0, acceptedNs := 0, unplaced := [], considered := 0, meterRun := 0, meterFired := false }

/-- The members of a pier whose events an entry forwards: a bridge those that its destination's fragment takes as sources, a
forward those that its consumer does. -/
def entrySources (s : State) (p : Pier) (kind key dest : Nat) : List Nat :=
  if kind = 3 then
    match s.policy key, s.truss.fragments.find? (fun f => fillsPier f && f.policy == key && f.site == dest) with
    | some q, some f => inOrder ((f.targets.flatMap (sourcesOf s q.record)).filter p.members.contains)
    | _, _ => []
  else inOrder (((consumers s).filter (fun c => c.1 == key)).flatMap (fun c => c.2.filter p.members.contains))

/-- The content of an entry with day tables from a UTC day (Table 6.14). -/
def entryContent (s : State) (p : Pier) (e : HeadEntry) (day : Nat) : Bytes :=
  installBytes s (forwardRecord s e.key) e.kind (if e.kind = 3 then [e.dest] else []) (entrySources s p e.kind e.key e.dest) p.head day

/-- What a pier's head should carry: the bridges to the fragments that take events of its members, then the forwards, both only as
far as its 64 slots go beside its own fragments (R133): kind, key, destination. -/
def wantedEntries (s : State) (p : Pier) : List (Nat × Nat × Nat) :=
  let live := s.truss.fragments.filter fillsPier
  let bridges := (live.filter (fun f => (bridgeHeads s f).contains p.head)).map (fun f => (3, f.policy, f.site))
  let fw := ((consumers s).filter (fun c => c.2.any p.members.contains)).map (fun c => (4, c.1, 0xFFFF))
  (bridges ++ fw).take (64 - (live.filter (fun f => f.site == p.head)).length)

/-- Entries that follow what is wanted: one no longer wanted is to be withdrawn, one wanted anew takes a free slot and
begins unconfirmed, one whose policy has a new version takes it. -/
def nextEntries (s : State) (p : Pier) : List HeadEntry :=
  let want := wantedEntries s p
  let room := 64 - ((s.truss.fragments.filter (fun f => fillsPier f && f.site == p.head)).length + p.entries.length)
  let named (e : HeadEntry) : Nat × Nat × Nat := (e.kind, e.key, e.dest)
  let old := p.entries.map (fun e =>
    if want.contains (named e) then
      let q := forwardRecord s e.key
      (if e.policy = rId q.record ∧ e.version = q.version then { e with gone := false }
        else { e with policy := rId q.record, version := q.version, confirmed := none, push := none, gone := false })
    else { e with gone := true, push := if e.gone then e.push else none })
  old ++ ((want.filter (fun w => !(p.entries.any (fun e => named e == w)))).take room).map (fun w =>
    let q := forwardRecord s w.2.1
    { kind := w.1, key := w.2.1, dest := w.2.2, policy := rId q.record, version := q.version, confirmed := none, push := none,
      content := 0, gone := false, tableDay := s.utcSec / 86400 })

/-- An entry is pushed or withdrawn when its head holds something else. -/
def pushEntry (p : Pier) (e : HeadEntry) (s : State) : State :=
  let day := s.utcSec / 86400
  let change (g : HeadEntry) (s : State) : State := s.modTruss (modEntries p.head (fun es => es.map (fun x => if x = e then g else x)))
  if !reachable s p.head ∨ e.push.isSome then s
  else if e.gone then sendOwn p.head 0x0202 (withdrawBytes e.policy e.version) (change { e with push := some s.mac.nextTxn } s)
  else if e.confirmed ≠ some (crc32c (entryContent s p e e.tableDay)) then
    let b := entryContent s p e day
    sendInstall p.head b (change { e with push := some (lastPart s p.head b), content := crc32c b, tableDay := day } s)
  else s

/-! ### Watches, pier configurations and ends of claims owed to lanterns -/

/-- A message of the module's own to a lantern, unless one of the same content is under way. -/
def sendOnce (n type : Nat) (payload : Bytes) (s : State) : State :=
  if s.mac.txns.any (fun t => t.lantern == n && t.type == type && t.payload == payload) then s else sendOwn n type payload s

/-- SENSOR_WATCH to an unpiered source, with the module as destination; the watch number is free (log entry 31). -/
def watchBytes (s : State) (key : Nat) : Bytes :=
  let r := (forwardRecord s key).record
  let interval := match s.truss.subs.find? (fun u => 2 ^ 32 + u.number == key) with | some u => u.interval | none => 0
  [byte (Config.unstated 13 key), byte (fld (rTp r) 0 1), byte (if rTrigger r = 6 then 1 else fld (rTp r) 8 1), 0]
    ++ sub (rTp r) 4 4 ++ le 2 interval ++ le 2 rootShort

/-- The watches that unpiered lanterns should hold (R148, R160, R232). -/
def wantedWatches (s : State) : List (Nat × Bytes) :=
  (consumers s).flatMap (fun c => (c.2.filter (fun n => (pierOf s n).isNone)).map (fun n => (n, watchBytes s c.1)))

/-- Watches are set on the lanterns that should hold them and removed where they should not be. -/
def pushWatches (site : Option Nat) (s : State) : State :=
  let here (w : Nat × Bytes) : Bool := (site.isNone || site == some w.1) && reachable s w.1
  let want := wantedWatches s
  let s := ((s.truss.watches.filter (fun w => here w && !want.contains w)).foldl (fun s w =>
    sendOnce w.1 0x0207 (w.2.take 3 ++ [1] ++ w.2.drop 4) s) s)
  (want.filter (fun w => here w && !s.truss.watches.contains w)).foldl (fun s w => sendOnce w.1 0x0207 w.2 s) s

/-- PIER_CONFIG as a lantern should have it: a head receives its members, a member its head, the others NONE (Table 6.8). -/
def configBytes (s : State) (n : Nat) : Bytes :=
  let entry (p : Pier) (m : Nat) := le 2 m ++ le 2 (viaOf s (s.live 0x0404 - s.live 0x0405) p.head m) ++ zeros 2
  match pierOf s n with
  | none => [byte 0, byte 0] ++ le 2 0xFFFF
  | some p =>
    if p.head = n then
      let ms := p.members.filter (· != n)
      [byte 1, byte ms.length] ++ le 2 p.head ++ ms.flatMap (entry p)
    else [byte 2, byte 1] ++ le 2 p.head ++ le 2 p.head ++ le 2 (viaOf s (s.live 0x0404 - s.live 0x0405) p.head n) ++ zeros 2

/-- PIER_CONFIG goes to a lantern that last confirmed another one; none is owed to a lantern that never had a pier. -/
def pushConfigs (site : Option Nat) (s : State) : State :=
  ((s.mac.lanterns.map (·.1)).filter (fun n => (site.isNone || site == some n) && reachable s n)).foldl (fun s n =>
    let b := configBytes s n
    match get? s.truss.configs n with
    | some c => if c = b then s else sendOnce n 0x0204 b s
    | none => if fld b 0 1 = 0 then s else sendOnce n 0x0204 b s) s

/-- The ends of claims still owed go out (R134). -/
def pushEnds (site : Option Nat) (s : State) : State :=
  (s.truss.ends.filter (fun e => (site.isNone || site == some e.1) && reachable s e.1)).foldl (fun s e => sendOnce e.1 0x0205 e.2 s) s

/-- Everything owed to the sites, or to one site after its join (R128, R233): withdrawals first. -/
def pushAll (site : Option Nat) (s : State) : State :=
  let here (n : Nat) : Bool := site.isNone || site == some n
  let s := pushConfigs site (pushEnds site s)
  let s := (s.truss.fragments.filter (fun f => here f.site && f.state == 7)).foldl (fun s f => pushFragment f s) s
  let es := (s.truss.piers.filter (fun p => here p.head)).flatMap (fun p => p.entries.map (fun e => (p, e)))
  let s := (es.filter (fun x => x.2.gone)).foldl (fun s x => pushEntry x.1 x.2 s) s
  let s := (s.truss.fragments.filter (fun f => here f.site && f.state != 7)).foldl (fun s f => pushFragment f s) s
  let s := (es.filter (fun x => !x.2.gone)).foldl (fun s x => pushEntry x.1 x.2 s) s
  pushWatches site s

/-- Forwards, bridges and watches follow the fragments and the subscriptions; what changed is sent. -/
def syncHeads (s : State) : State :=
  let s := s.modTruss (fun u => { u with piers := u.piers.map (fun p => { p with entries := nextEntries s p }) })
  let es := s.truss.piers.flatMap (fun p => p.entries.map (fun e => (p, e)))
  pushWatches none (es.foldl (fun s x => pushEntry x.1 x.2 s) s)

/-! ### The evaluation (R141) -/

/-- A lantern whose slots shrank keeps its highest-ranked fragments (R132, Table 4.8): the rest are placed again. -/
def overfull (s : State) (fs : List Fragment) (n : Nat) : List Fragment :=
  let rs := residents fs n
  let fixed (f : Fragment) : Bool := f.state == 3 || f.owed || (match s.policy f.policy with | some p => p.pin != 0 | none => false)
  let sorted := sortBy (fun a b => (fixed a && !fixed b) || (fixed a == fixed b && policyRank s b.policy ≤ policyRank s a.policy)) rs
  (sorted.drop (match s.lan n with | some l => l.slots | none => 0)).filter (fun f => f.state != 3 && !f.owed)

/-- A pier whose head is SILENT loses its fragments: when it dissolves, or at once under a hold (Tables 4.8, 4.10). -/
def loseSite (lost : Nat → Bool) (fs : List Fragment) : List Fragment :=
  fs.map (fun f => if f.tier = 2 ∧ f.state ≠ 7 ∧ f.state ≠ 6 ∧ lost f.site then { f with state := 4 } else f)

/-- Fragments before the policies are visited: removed lanterns, lost sites, lost slots (Table 4.8). A lantern without room
for its fragments evicts the lowest-ranked (R132). -/
def settleSites (s : State) (fs : List Fragment) : Eval :=
  let fs := fs.filter (fun f => !(f.tier = 1 && (s.lan f.site).isNone))
  let fs := loseSite (fun n => !(s.truss.piers.any (fun p => p.head == n))) fs
  let out := (s.mac.lanterns.map (·.1)).flatMap (overfull s fs)
  { frags := fs.map (fun f => if out.contains f then { f with state := 4 } else f), kept := [],
    evicted := out.map (fun f => (f.site, f.policy)) }

/-- A policy on local outputs, or one forwarded, keeps its fragment without targets. -/
def standsAlone (s : State) (f : Fragment) : Bool :=
  match s.policy f.policy with
  | some p => if homeTier s p.record = 4 then f.tier == 4 else scopeLocal p.record && f.tier == 3
  | none => false

/-- Fragments without targets go: a site that may hold one is sent the withdrawal (Table 4.10), the module's own and lost
sites' vanish. -/
def settleEmpty (s : State) (fs : List Fragment) : List Fragment :=
  fs.filterMap (fun f =>
    if f.state = 7 then
      (if fs.any (fun g => g.policy == f.policy && g.tier == f.tier && g.site == f.site && g.state != 7 && g.targets != []) then none
       else some f)
    else if f.targets ≠ [] then some f
    else if 3 ≤ f.tier then (if standsAlone s f then some f else none)
    else if (s.lan f.site).isNone ∨ f.state = 6 then none
    else some { f with state := 7, push := none, owed := f.state == 3 || f.state == 4 })

/-- A site without a route (R143). -/
def siteCut (s : State) (n : Nat) : Bool := match s.lan n with | some l => l.state == .lost || l.routeless | none => false

/-- Route lost: confirmed fragments become STRANDED (Table 4.8, R143). -/
def strand (s : State) (fs : List Fragment) : List Fragment :=
  fs.map (fun f => if f.tier ≤ 2 ∧ f.state = 2 ∧ siteCut s f.site then { f with state := 3 } else f)

/-- Route regained: STRANDED fragments return to ACTIVE (Table 4.8). -/
def unstrand (s : State) (fs : List Fragment) : List Fragment :=
  fs.map (fun f => if f.state = 3 ∧ !siteCut s f.site then { f with state := 2 } else f)

/-- Routes are computed again: fragments whose route they give back are ACTIVE, and of the frames now held for a lantern without
a route at most 8 stay (R183, R190, Table 4.8). -/
def newRoutes (s : State) : State :=
  let s := recomputeRoutes s
  let s := (s.mac.lanterns.filter (fun p => p.2.routeless)).foldl (fun s p => trimHeld p.1 s) s
  s.modTruss (fun u => { u with fragments := unstrand s u.fragments })

/-- The unplaced targets of a policy; of the local outputs, those whose fragment is SUSPENDED (R130, R144). -/
def unplacedOf (s : State) (p : Policy) (fs : List Fragment) : List Nat :=
  if homeTier s p.record = 4 ∨ expired s p then []
  else if scopeLocal p.record then
    (fs.filter (fun f => f.policy == rId p.record && f.state == 6)).flatMap (·.targets)
  else (scopeLanterns s p.record).filter (fun t => match fragOf fs (rId p.record) t with | some f => f.state == 6 || f.state == 4 | none => true)

/-- A command that waits for the evaluation that places its policy. -/
def isPlacement (w : Wait) : Bool := match w with | .placement _ => true | _ => false

/-- Table 4.12. -/
def placementReply (id : Nat) (deferred : Bool) (s : State) : Bytes :=
  match s.policy id with
  | none => []
  | some p =>
    let fs := s.truss.fragments.filter (fun f => f.policy == id && f.state != 7)
    let count (t : Nat) := (fs.filter (fun f => f.tier == t)).length
    let spanTs := ((fs.filter (fun f => f.tier == 3)).map (fun f => f.targets.length)).sum
    le 4 id ++ le 2 p.version ++ [byte (homeTier s p.record),
        byte (b2n (fs.any (·.unmet)) + 2 * b2n (p.unplaced != []) + 4 * b2n deferred)]
      ++ le 2 (count 1) ++ le 2 (count 2) ++ le 2 spanTs ++ le 2 p.unplaced.length ++ le 4 (if deferred then 0 else s.mac.cycle)

/-- R130: a new count of unplaced targets is recorded. -/
def noteShortfall (s : State) : State :=
  s.truss.policies.foldl (fun s e =>
    let un := unplacedOf s e.2 s.truss.fragments
    let s' := s.modTruss (fun u => { u with policies := put u.policies e.1 { e.2 with unplaced := un } })
    if un = e.2.unplaced ∨ un = [] then s' else ev evPlacementShortfall (le 4 e.1 ++ le 2 un.length ++ zeros 10) s') s

/-- The subscription a VIADUCT policy makes of the sensor its trigger names, while a place among the 64 is free (R128, R133). -/
def viaductSub (r : Bytes) (s : State) : State :=
  if consumesSensor r && s.truss.subs.length < 64 && !(s.truss.subs.any (fun u => u.policy == some (rId r))) then
    let n := ((List.range 256).find? (fun k => !(s.truss.subs.any (fun u => u.number == k)))).getD 0
    s.modTruss (fun t => { t with subs := t.subs ++
      [{ number := n, target := rScope r, sensor := fld (rTp r) 0 1, interval := 0, until_ := none, last := [], policy := some (rId r) }] })
  else s

/-- Every VIADUCT policy whose trigger names a sensor has its subscription. -/
def viaductSubs (s : State) : State :=
  s.truss.policies.foldl (fun s e => if homeTier s e.2.record = 4 ∧ !expired s e.2 then viaductSub e.2.record s else s) s

/-- The fragments an evaluation leaves: sites settled, policies settled, triggers acted on in order (R141), then targets placed
in rank order (R132). -/
def evaluated (s : State) : Eval :=
  let fs := unstrand s (strand s s.truss.fragments)
  let e := if holdOn s then { frags := fs, kept := [], evicted := [] } else settleSites s fs
  let ps := sortBy (fun a b => decide (placeRank b.record ≤ placeRank a.record)) (s.truss.policies.map (·.2))
  let e := { e with frags := ps.foldl (settlePolicy s) e.frags }
  let e := (triggersOf s e.frags).foldl (visitTrigger s) e
  ps.foldl (placePolicy s) e

/-- The commands that wait for an evaluation complete with what it placed (R154). -/
def placementsDone (s : State) : State :=
  let s := (s.host.live.filter (fun c => c.begun && isPlacement c.wait)).foldl (fun s c =>
    complete c stOk dNone (placementReply (wk c 0) (!s.mac.running) s) s) s
  lateSuccess (fun r => isPlacement r.wait) stOk s

/-- One placement evaluation on the topology as it stands (R128 to R145), the persisted one while the span does not run; the maps
are written back if it changed them (Table 4.9). -/
def evaluatePlacement (s : State) : State :=
  let s := if !s.mac.running && s.mac.topoChanged then newRoutes s else s
  let s := s.modTruss (fun u => { u with piers := if holdOn s then u.piers else nextPiers s })
  let e := evaluated s
  let s := s.modTruss (fun u => { u with fragments := settleEmpty s e.frags, kept := e.kept.eraseDups, evalDue := false, evalNow := false })
  let s := noteShortfall s
  let s := pushAll none (syncHeads (viaductSubs s))
  placementsDone (s.modTruss (fun u => { u with savedFragments := u.fragments, savedPiers := u.piers, sides := budgetSides s }))

end Sys2Proof.Machine
end

