-- ==== Sys2Proof/Machine/Rollout.lean ====
section
/-! DEFINITION. Lantern images: the store (R497, R498), rollouts (R499) with their caches (R149), and the image messages (R239,
R240). -/

namespace Sys2Proof.Machine

def imgLen (h : Bytes) : Nat := fld h 20 4
def imgFrags (h : Bytes) : Nat := (imgLen h + 1023) / 1024

/-- Length of fragment i of an image of n bytes. -/
def fragLen (n i : Nat) : Nat := if (i + 1) * 1024 ≤ n then 1024 else n - i * 1024

def LanImage.payload (i : LanImage) : Bytes := i.frags.flatMap (·.2)

def State.image (s : State) (id : Nat) : Option LanImage := s.upd.images.find? (fun i => i.id == id)

def imageReply (i : LanImage) : Bytes := le 4 i.id ++ le 4 i.frags.length ++ [byte i.state] ++ zeros 3

/-- A rollout that still runs. -/
def Rollout.active (r : Rollout) : Bool := !r.done && !r.aborted

/-- R498: an operation BEGIN, DATA or DELETE on the image store. Reserved fields of the header that are not zero make the image bad,
as a header that is not well formed. Mark: DESIGN CHOICE (log entry 155). -/
def imageStage (c : LiveCmd) (s : State) : State :=
  let p := c.params
  let op := fld p 0 1
  let id := fld p 4 4
  if op = 0 ∨ 3 < op then fail c stBadParam 0x82 s
  else if p.length ≠ (if op = 3 then 8 else if op = 1 then 72 else max 17 (min 1040 p.length)) then fail c stBadLength dLengthOpcode s
  else if !zeroAt p 1 3 ∨ (op = 2 ∧ !zeroAt p 12 4) then fail c stBadParam dReservedBit s
  else if op = 1 then
    let h := p.drop 8
    if id ≠ 0 then fail c stBadParam dNone s
    else if fld h 0 4 ≠ 0x4D494C44 ∨ fld h 4 2 ≠ 1 ∨ !zeroAt h 6 2 ∨ !zeroAt h 18 2 ∨ imgLen h = 0 ∨ 8388608 < imgLen h ∨ !zeroAt h 56 8 then
      fail c stImageBad 0x80 s
    else if 16 ≤ s.upd.images.length ∨ 25165824 < ((s.upd.images.map (fun i => imgLen i.header)).sum + imgLen h)
        ∨ 0xFFFFFFFE < s.upd.nextImage then fail c stBusy 0x80 s
    else
      let i : LanImage := { id := s.upd.nextImage, header := h, frags := [], state := 0 }
      complete c stOk dNone (imageReply i)
        (s.modUpd (fun u => { u with images := u.images ++ [i], nextImage := u.nextImage + 1 }))
  else match s.image id with
    | none => fail c stBadParam dNone s
    | some i =>
      if op = 3 then
        if s.upd.rollouts.any (fun r => r.active && r.image == id) then fail c stBusy 0x81 s
        else complete c stOk dNone (imageReply i) (s.modUpd (fun u => { u with images := u.images.filter (fun x => x.id != id) }))
      else
        let k := fld p 8 4
        let d := p.drop 16
        if imgFrags i.header ≤ k ∨ d.length ≠ fragLen (imgLen i.header) k then fail c stBadParam 0x83 s
        else if (get? i.frags k).isSome then complete c stOk dNone (imageReply i) s
        else
          let i := { i with frags := put i.frags k d }
          let i := if i.frags.length = imgFrags i.header then
              { i with state := if sha256 i.payload = sub i.header 24 32 then 1 else 2 } else i
          complete c stOk dNone (imageReply i)
            (s.modUpd (fun u => { u with images := u.images.map (fun x => if x.id = id then i else x) }))

def execLanternImageStage (sid tag : Nat) (s : State) : Res := .next (runCmd 0x0707 sid tag imageStage s)

/-! ### Rollouts (R499) -/

/-- The cache role and size a head can take for an image (R149): 1 WHOLE, 2 WINDOW, 0 none. -/
def cacheRole (l : Lantern) (len : Nat) : Nat :=
  let kib := l.cap 18 2
  if len ≤ kib * 1024 then 1 else if 16 ≤ kib then 2 else 0

/-- The head that caches an image for a lantern (R149), a target of the rollout or not. Mark: DEDUCED (log entry 35): a head of
another image family takes no chunks (R239), so it caches none. -/
def cacheHead (s : State) (h : Bytes) (n : Nat) : Option (Nat × Lantern) :=
  match pierOf s n with
  | none => none
  | some p => match s.lan p.head with
    | some l => if l.cap 8 4 = fld h 8 4 ∧ cacheRole l (imgLen h) ≠ 0 then some (p.head, l) else none
    | none => none

/-- Another rollout holds the head's cache: its members wait (R149). -/
def cacheTaken (s : State) (r : Rollout) (head : Nat) : Bool :=
  s.upd.rollouts.any (fun q => q.active && q.image != r.image && q.caches.contains head)

/-- IMAGE_ANNOUNCE (R239). -/
def announceBytes (s : State) (i : LanImage) (n : Nat) : Bytes :=
  let h := i.header
  let cache := cacheHead s h n
  let server := match cache with | some (m, _) => if m = n then rootShort else shortOf m | none => rootShort
  let role := match cache with | some (m, l) => if m = n then cacheRole l (imgLen h) else 0 | none => 0
  let window := match cache with | some (m, l) => if m = n && role == 2 then l.cap 18 2 / 16 else 0 | none => 0
  le 4 i.id ++ sub h 8 4 ++ sub h 12 6 ++ le 4 (imgLen h) ++ le 2 (if phyMode s = 1 then 128 else 1024) ++ le 2 server
    ++ [byte role, byte window] ++ zeros 2 ++ sub h 24 32

def setTarget (img n code : Nat) (s : State) : State :=
  s.modUpd (fun u => { u with rollouts := u.rollouts.map (fun r =>
    if r.image = img ∧ !r.done then { r with targets := r.targets.map (fun x => if x.1 = n then (x.1, code, x.2.2) else x) } else r) })

/-- A head takes the image into its cache before its members fetch: it is announced with its role, once (R149, R239). -/
def announceCache (r : Rollout) (i : LanImage) (m : Nat) (s : State) : State :=
  let waits : Bool := r.targets.any (fun t => t.1 == m && t.2.1 == 0)
  let s := s.modUpd (fun u => { u with rollouts := u.rollouts.map (fun q =>
    if q.image = r.image ∧ q.active then { q with caches := insertSet q.caches m } else q) })
  sendOwn m 0x0401 (announceBytes s i m) (if waits then setTarget r.image m 1 s else s)

/-- A waiting target takes its turn: announced, finished with another family, or left waiting for its descriptor or a cache. A
head that waits for its own turn goes first where the turns would not suffice for both. -/
def visitRollout (img : Nat) (s : State) (n : Nat) : State :=
  match s.upd.rollouts.find? (fun r => r.image == img && r.active), s.image img, s.lan n with
  | some r, some i, some l =>
    if l.descriptor.isNone then s
    else if l.cap 8 4 ≠ fld i.header 8 4 then setTarget img n 5 s
    else if r.parallel ≤ (r.targets.filter (fun t => t.2.1 == 1)).length then s
    else match cacheHead s i.header n with
      | some (m, _) =>
        let waits : Bool := r.targets.any (fun t => t.1 == m && t.2.1 == 0)
        if cacheTaken s r m ∨ (m ≠ n ∧ waits ∧ r.parallel < (r.targets.filter (fun t => t.2.1 == 1)).length + 2) then s
        else if m = n then announceCache r i n s
        else
          let s := if r.caches.contains m then s else announceCache r i m s
          sendOwn n 0x0401 (announceBytes s i n) (setTarget img n 1 s)
      | none => sendOwn n 0x0401 (announceBytes s i n) (setTarget img n 1 s)
  | _, _, none => setTarget img n 4 s
  | _, _, _ => s

/-- Every target of a rollout has finished: ROLLOUT_DONE (Table 16.7), and the caches are released. -/
def finishRollouts (s : State) : State :=
  (s.upd.rollouts.filter (fun r => r.active && r.targets.all (fun t => 3 ≤ t.2.1))).foldl (fun s r =>
    let count (k : Nat) := (r.targets.filter (fun t => t.2.1 == k)).length
    ev evRolloutDone (le 4 r.image ++ le 2 (count 3) ++ le 2 (count 4) ++ zeros 8)
      (s.modUpd (fun u => { u with rollouts := u.rollouts.map (fun q => if q = r then { q with done := true, caches := [] } else q) }))) s

/-- Rollouts go on: waiting targets in index order, then those that have finished (R499). -/
def progressRollouts (s : State) : State :=
  if !s.holder then s
  else
    let s := (s.upd.rollouts.filter (·.active)).foldl (fun s r =>
      (r.targets.filter (fun t => t.2.1 == 0)).foldl (fun s t => visitRollout r.image s t.1) s) s
    finishRollouts s

/-- The reply of every LANTERN_IMAGE_ROLLOUT operation. -/
def rolloutReply (r : Rollout) : Bytes :=
  let count (k : Nat) := (r.targets.filter (fun t => t.2.1 == k)).length
  le 4 r.image ++ le 2 r.targets.length ++ le 2 (r.targets.length - count 5) ++ le 2 (count 1) ++ le 2 (count 2) ++ le 2 (count 3)
    ++ le 2 (count 4) ++ zeros 4

/-- The lantern's last descriptor reports the image's version (R499). -/
def reportsVersion (s : State) (i : LanImage) (n : Nat) : Bool :=
  match s.lan n with
  | some l => (match l.descriptor with | some d => sub d 8 4 == sub i.header 8 4 && sub d 2 6 == sub i.header 12 6 | none => false)
  | none => false

def imageRollout (c : LiveCmd) (s : State) : State :=
  let p := c.params
  let op := fld p 0 1
  let par := fld p 2 2
  let id := fld p 4 4
  if op = 0 ∨ 3 < op then fail c stBadParam dNone s
  else if !zeroAt p 1 1 then fail c stBadParam dReservedBit s
  else if 512 < par then fail c stOutOfRange dNone s
  else match s.image id with
    | none => fail c stBadParam dNone s
    | some i =>
      if op = 1 then
        if i.state ≠ 1 ∨ singleBad s c.target then fail c stBadParam (if i.state ≠ 1 then dNone else dTargetField) s
        else if 4 ≤ (s.upd.rollouts.filter (·.active)).length ∨ s.upd.rollouts.any (fun r => r.active && r.image == id) then
          fail c stBusy 0x82 s
        else
          let r : Rollout :=
            { image := id, parallel := if par = 0 then s.live 0x0702 else par,
              targets := (reached s c.target).map (fun n => (n, if reportsVersion s i n then 3 else 0, 0)), aborted := false,
              done := false, caches := [] }
          let s := s.modUpd (fun u => { u with rollouts := (u.rollouts.filter (fun q => q.image != id)) ++ [r] })
          progressRollouts (complete c stOk dNone (rolloutReply r) s)
      else match s.upd.rollouts.find? (fun r => r.image == id) with
        | none => fail c stBadParam dNone s
        | some r =>
          if op = 2 then
            complete c stOk dNone (rolloutReply r) (s.modUpd (fun u => { u with rollouts := u.rollouts.map (fun q =>
              if q.image = id then { q with aborted := !q.done || q.aborted, caches := [] } else q) }))
          else complete c stOk dNone (rolloutReply r) s

def execLanternImageRollout (sid tag : Nat) (s : State) : Res := .next (runCmd 0x0708 sid tag imageRollout s)

/-- A CAPABILITY with the image's version installs it in the rollout's count (R499). -/
def rolloutCapability (n : Nat) (s : State) : State :=
  let s := (s.upd.rollouts.filter (fun r => r.active && r.targets.any (fun t => t.1 == n && t.2.1 != 3))).foldl (fun s r =>
    match s.image r.image with
    | some i => if reportsVersion s i n then setTarget r.image n 3 s else s
    | none => s) s
  progressRollouts s

/-- IMAGE_STATUS (Table 6.8, R499): FAILED twice finishes a target; once, and it is announced again. -/
def imageStatus (n : Nat) (p : Bytes) (s : State) : State :=
  let id := fld p 0 4
  match fld p 8 1 with
  | 1 => progressRollouts (setTarget id n 2 s)
  | 2 =>
    progressRollouts (s.modUpd (fun u => { u with rollouts := u.rollouts.map (fun r =>
      if r.image = id && r.active then
        { r with targets := r.targets.map (fun x => if x.1 = n && x.2.1 < 3 then (n, if 1 ≤ x.2.2 then 4 else 0, x.2.2 + 1) else x) }
      else r) }))
  | _ => s

/-- CHUNK_REQUEST (R239, R240): the module serves the chunks of a staged image. -/
def chunkRequest (n : Nat) (p : Bytes) (s : State) : State :=
  match s.image (fld p 0 4) with
  | none => s
  | some i =>
    let size := if phyMode s = 1 then 128 else 1024
    let first := fld p 4 4
    let total := (imgLen i.header + size - 1) / size
    if i.state ≠ 1 then s
    else ((List.range (min 8 (fld p 8 1))).filter (fun k => first + k < total)).foldl (fun s k =>
      sendMsg none n 0x0403 false (le 4 i.id ++ le 4 (first + k) ++ sub i.payload ((first + k) * size) size) (s.now + 60 * sec) s) s

end Sys2Proof.Machine
end

