-- ==== Sys2Proof/Machine/Annex.lean ====
section
/-! DEFINITION. The module in ANNEX role as a lantern of its parent span, on port B (R185, R210 to R231, R241): scan, join, its
cells, the frames it receives, relays and answers. Where the spec gives a node no value, it is free (log entry 41). -/

namespace Sys2Proof.Machine

def modAnnex (f : AnnexSt → AnnexSt) (s : State) : State := s.modMac (fun m => { m with annex := f m.annex })

def modNet (f : AnnexNet → AnnexNet) (s : State) : State := modAnnex (fun a => { a with net := a.net.map f }) s

/-- MAC_ROLE is ANNEX and the module serves a span: a standby leaves the parent span to the lease holder. -/
def annexed (s : State) : Bool := s.live 0x0302 == 1 && s.holder

/-- Where the slots of the parent span begin on the span clock: at E once a verified parent beacon has disciplined it, else where the
beacon heard puts them (R161, R220, R222). -/
def annexBase (s : State) (p : AnnexCand) : Nat :=
  match s.mac.annex.net with
  | some n => if n.beacon.isSome && s.time.everLocked && !s.time.refused then n.epoch else p.base
  | none => p.base

/-- Absolute slot of the parent span now, and the start of a slot (R161). -/
def annexAsn (s : State) (p : AnnexCand) : Nat := (s.spanNs - annexBase s p) / (10 * ms)
def annexSlot (s : State) (p : AnnexCand) (asn : Nat) : Nat := annexBase s p + asn * 10 * ms

/-- The EUI-64 behind a short address of the parent span: the root's is known from the join; the others' are free (log entry
41). -/
def annexEui (s : State) (src : Nat) : Nat :=
  match s.mac.annex.net with
  | some n => if src = 0x1000 then n.rootEui else Config.unstated 4 src
  | none => Config.unstated 4 src

/-- The node's own frame counter of a key index (R216), by index with 0 the join key. -/
def annexCounter (s : State) (idx : Nat) : Nat := (get? s.mac.annex.counters idx).getD 0

def useAnnexCounter (idx : Nat) (s : State) : State :=
  modAnnex (fun a => { a with counters := put a.counters idx (annexCounter s idx + 1) }) s

/-- The counter of a network key would pass 0xFFFFFFFF: nothing more is sent under it (R216). -/
def annexSpent (s : State) (idx : Nat) : Bool := decide (2 ^ 32 ≤ annexCounter s idx)

/-- A network key is installed at a key index: its counters and tracking start again from zero, unless it is the key they already
stand for (R216). -/
def annexKeyAt (idx : Nat) (key : Bytes) (s : State) : State :=
  if get? s.mac.annex.counterKeys idx = some (sha256 key) then s
  else modAnnex (fun a => { a with
    counterKeys := put a.counterKeys idx (sha256 key), counters := put a.counters idx 0,
    rxCounters := a.rxCounters.filter (fun e => e.1 / 65536 != idx) }) s

/-- The next MAC sequence number. -/
def nextMacSeq (s : State) : State := s.modMac (fun m => { m with macSeq := (m.macSeq + 1) % 256 })

/-- The key in use. -/
def AnnexNet.key (n : AnnexNet) : Bytes := (get? n.keys n.phase).getD (zeros 16)

/-! ### Messages up the parent span (R225, R226, R228) -/

/-- A message waits for its cells. -/
def annexQueue (dst expiry : Nat) (resync : Bool) (m : Bytes) (s : State) : State :=
  modAnnex (fun a => { a with
    nextTx := a.nextTx + 1,
    tx := a.tx ++ [
      { id := a.nextTx, dst := dst, message := m, expiry := expiry, notBefore := 0, frag := 0, attempts := 0, retries := 0,
        resync := resync }] }) s

/-- A message of the node's own to the root: 6,000 slots of expiry (R225). -/
def annexSend (type : Nat) (confirmed resync : Bool) (payload : Bytes) (s : State) : State :=
  match s.mac.annex.parent, s.mac.annex.net with
  | some p, some n =>
    let q := (s.mac.annex.upSeq + 1) % 65536
    let exp := annexAsn s p + 6000
    let m := le 2 type ++ [byte (b2n confirmed + 2), 0] ++ le 2 n.short ++ le 2 0x1000 ++ le 2 q ++ le 5 exp ++ [0] ++ payload
    annexQueue p.src exp resync m (modAnnex (fun a => { a with upSeq := q }) s)
  | _, _ => s

/-- A report for the head of the node's pier, by the node on the way there, or for the root (R147, R232). -/
def annexReportTo (n : AnnexNet) (type life : Nat) (payload : Bytes) (s : State) : State :=
  match s.mac.annex.parent with
  | none => s
  | some p =>
    let q := (s.mac.annex.upSeq + 1) % 65536
    let exp := annexAsn s p + life
    let (ctl, dst, route) := match n.head with
      | some (h, via) => if via = 0xFFFF then (0, h, []) else (16, h, [via])
      | none => (2, 0x1000, [])
    let hop := match n.head with | some (h, via) => if via = 0xFFFF then h else via | none => p.src
    let m := le 2 type ++ [byte ctl, byte route.length] ++ le 2 n.short ++ le 2 dst ++ le 2 q ++ le 5 exp ++ [0] ++ route.flatMap (le 2) ++ payload
    annexQueue hop exp false m (modAnnex (fun a => { a with upSeq := q }) s)

/-- RESPONSE to a confirmed message (R228); it is kept for a repeat while its sequence is in the record (R226). -/
def annexRespond (seq retries status : Nat) (data : Bytes) (s : State) : State :=
  let p := le 2 seq ++ [byte status, byte retries] ++ data
  annexSend 0x001B false false p (modNet (fun n => { n with
    responses := (seq, p) :: (n.responses.filter (fun r => r.1 != seq)).take 63 }) s)

/-- The capability descriptor (Table 6.10): an ANNEX_MODULE runs no fragments and holds no chunks for its parent span; what the
spec gives it no value for is free (log entry 41). -/
def annexDescriptor (s : State) : Bytes :=
  let hdr := (s.upd.slot s.upd.booted).header
  [1, 3] ++ fit 6 (sub hdr 12 6) ++ le 4 (Config.unstated 31 0) ++ [byte (Config.unstated 31 1 % 16), 0] ++ le 2 0 ++ [0, 0] ++ le 2 0
    ++ [byte ([5, 20, 50].getD (Config.unstated 31 2 % 3) 50), byte (1 + Config.unstated 31 3 % 100)] ++ le 2 0
    ++ le 2 (Config.unstated 31 4) ++ [8] ++ zeros 5

/-- R180 for a node: 2,000 us at most (Table 6.16), in ns. -/
def annexGuardOf (s : State) (drift since : Nat) : Nat :=
  300000 + (drift + (if s.time.state = .locked then 2 else 10)) * (s.spanNs - since) / 1000000

/-- The guard towards the parent, whose drift class no descriptor tells (R180). -/
def annexGuard (s : State) : Nat := min 2000000 (annexGuardOf s 50 s.mac.annex.contactAt)

/-- The guard towards a child, and whether it makes the child ADRIFT (R181, R210). -/
def childGuard (s : State) (c : AnnexChild) : Nat := annexGuardOf s c.drift c.contact
def childAdrift (s : State) (c : AnnexChild) : Bool := decide (2000000 < childGuard s c)

def annexChild (s : State) (short : Nat) : Option AnnexChild := s.mac.annex.children.find? (fun c => c.short == short)

/-- An authenticated frame or ACK of the parent or of a child renews its contact (R180, R182). -/
def annexContact (src at_ : Nat) (s : State) : State :=
  if s.mac.annex.parent.any (fun p => p.src == src) then modAnnex (fun a => { a with contactAt := at_ }) s
  else modAnnex (fun a => { a with children := a.children.map (fun c =>
    if c.short = src then { c with contact := at_, listens := 0 } else c) }) s

/-- NEIGHBOUR_REPORT of the links with the parent and the children (R230); ratio, RSSI and H are as measured: free (log entry 41). -/
def annexReport (s : State) : State :=
  match s.mac.annex.parent with
  | some p =>
    let entry (short pdr flags guard : Nat) : Bytes :=
      le 2 short ++ [byte pdr, byte (Config.unstated 32 (s.freeIdx * 65536 + short))] ++ le 2 (Config.unstated 33 (s.freeIdx * 65536 + short))
        ++ [byte flags, byte (min 255 (guard / 10000))]
    let kids := s.mac.annex.children.take ((16 * fragSize s - 26) / 8)
    annexSend 0x0019 false false ([byte (1 + kids.length), 0] ++ entry p.src p.pdr 1 (annexGuard s)
      ++ kids.flatMap (fun c => entry c.short (Config.unstated 63 (s.freeIdx * 65536 + c.short) % 101) 2 (childGuard s c))) s.draw
  | none => s

/-! ### Scan and join (R185, R222, R223) -/

/-- Candidates by rank, the lowest short address first among equals. -/
def bestCand (l : List AnnexCand) : Option AnnexCand :=
  l.foldl (fun b c => match b with
    | none => some c
    | some d => if c.rank < d.rank ∨ (c.rank = d.rank ∧ c.src < d.src) then some c else some d) none

/-- The cost of a link of a ratio (R189). -/
def linkCost (pdr : Nat) : Nat := 25600 / max 1 pdr

/-- A neighbour that may be a parent: its depth leaves room, and the link is good enough (R185, R189). -/
def parentOk (s : State) (c : AnnexCand) : Bool := decide (c.depth + 1 ≤ 12) && decide (s.live 0x0307 ≤ c.pdr)

/-- A candidate that can be joined: its span takes joins, and its PAN is not avoided (R222, R223). -/
def candOk (s : State) (c : AnnexCand) : Bool :=
  parentOk s c && c.open_ && !s.mac.annex.avoid.any (fun e => e.1 == c.pan && decide (s.now < e.2))

/-- The node turns to the best of the candidates that stay, or scans again. -/
def annexChoose (p : AnnexCand → Bool) (s : State) : State :=
  let l := s.mac.annex.candidates.filter (fun c => p c && candOk s c)
  let b := bestCand l
  modAnnex (fun a => { a with
    parent := b, net := none, misses := 0, scanning := b.isNone, requests := 0, requestSlot := none,
    scanAt := 0, joinFrom := none, candidates := match b with | some c => l.filter (· != c) | none => [], joinTx := [], tx := [],
    attempt := none }) s

/-- One cycle of a scan: a channel in hop order, repeating; the choice comes 4 cycles after the first JOIN_OPEN beacon (R185 steps
2 and 3, R222). -/
def annexScan (s : State) : State :=
  if s.mac.annex.joinFrom.any (fun t => decide (t + 4 ≤ s.spanNs / sec)) then annexChoose (fun _ => true) s
  else modAnnex (fun a => { a with scanning := true, scanAt := (a.scanAt + 1) % max 1 (rgN (s.mac.region.getD [])) }) s

/-- The frames of a join message of the node: link header and slices of P - 25 octets (R213, Table 6.1). -/
def annexJoinFrames (s0 : State) (dst last : Nat) : List Bytes → Nat → State → State × List Bytes
  | [], _, s => (s, [])
  | b :: bs, i, s =>
    let ctr := annexCounter s 0
    let hdr := le 2 fcJoinReq ++ [byte s.mac.macSeq] ++ le 2 dst ++ le 8 s0.eui ++ [0x05] ++ le 4 ctr
    let f := withFcs (hdr ++ ccmSeal (Config.annexKey 0) (nonceOf s0.eui ctr 5) hdr (byte (16 * i + last) :: b) 4)
    let r := annexJoinFrames s0 dst last bs (i + 1) (nextMacSeq (useAnnexCounter 0 s))
    (r.1, f :: r.2)

/-- JOIN_REQUEST to the chosen parent, in slot 98 or 99 as drawn (Table 6.6 step 2). -/
def annexRequest (p : AnnexCand) (s : State) : State :=
  let slot := 98 + Config.freeNat s.freeIdx % 2
  let body := le 2 0x0010 ++ le 2 p.src ++ sub (annexDescriptor s) 20 1 ++ [3, 0, 0]
  let size := maxPsdu (phyMode s) - 25
  let n := (body.length + size - 1) / size
  let r := annexJoinFrames s p.src (n - 1) (chunks size n body) 0 s.draw
  modAnnex (fun a => { a with
    requests := a.requests + 1, requestAt := s.spanNs / sec, requestSlot := some slot, joinTx := r.2 }) r.1

/-- A cycle of a join under way: a request every 8 cycles, 4 in all; then the PAN is avoided for 600 s (R223). -/
def annexJoining (p : AnnexCand) (s : State) : State :=
  let a := s.mac.annex
  if a.requests ≠ 0 ∧ s.spanNs / sec < a.requestAt + 8 then s
  else if a.requests < 4 then annexRequest p s
  else annexChoose (fun _ => true) (modAnnex (fun a => { a with avoid := put a.avoid p.pan (s.now + 600 * sec) }) s)

/-- The node holds nothing of the span any more, and scans for it (R185, R216, R217, R224). -/
def annexLeave (s : State) : State :=
  modPort 1 (fun q => { q with ranTo := 0 }) (modAnnex (fun a => { a with
    parent := none, net := none, misses := 0, scanning := true, scanAt := 0, joinFrom := none, candidates := [], requests := 0,
    requestSlot := none, joinTx := [], tx := [], attempt := none, lostContact := false, reasm := [], relays := [], children := [],
    heard := [] }) s)

/-- The new network key takes over at its ASN, and 64 cycles later the old one goes (R217). -/
def annexKeys (asn : Nat) (n : AnnexNet) : AnnexNet :=
  let n := match n.keyUpdate with
    | some (ph, at_) => if at_ ≤ asn then { n with phase := ph, keyUpdate := none, oldKeyUntil := some (at_ + 6400) } else n
    | none => n
  match n.oldKeyUntil with
  | some e => if e ≤ asn then { n with oldKeyUntil := none, keys := n.keys.filter (fun k => k.1 == n.phase) } else n
  | none => n

/-- An 8-byte cell of SCHEDULE falls in a cycle: period and phase (Table 6.8). -/
def cellIn (b : Bytes) (cycle : Nat) : Bool := fld b 3 1 != 0 && cycle % fld b 3 1 == fld b 4 1

/-- It falls in an absolute slot, and is of a kind. -/
def cellDue (kind asn : Nat) (b : Bytes) : Bool := fld b 0 1 == asn % 100 && fld b 2 1 == kind && cellIn b (asn / 100)

/-- SCHEDULE takes effect (Table 6.8): it replaces the whole schedule. -/
def annexSchedule (asn : Nat) (n : AnnexNet) : AnnexNet :=
  match n.nextSchedule with
  | some (at_, p) =>
    if at_ ≤ asn then
      { n with
        conf := fld p 0 1, retries := fld p 1 1, beMin := fld p 2 1, beMax := fld p 3 1, nextSchedule := none,
        cells := (List.range (fld p 9 1)).map (fun i => sub p (10 + 8 * i) 8) }
    else n
  | none => n

/-- The children that the schedule names: the peers of its receptions (Table 6.8). A new one's contact begins now (R180). -/
def annexKids (p : AnnexCand) (n : AnnexNet) (s : State) : State :=
  let shorts := ((n.cells.filter (fun b => fld b 2 1 == 2 && fld b 5 2 != p.src)).map (fun b => fld b 5 2)).eraseDups
  modAnnex (fun a => { a with children := shorts.map (fun k => match a.children.find? (fun c => c.short == k) with
    | some c => c
    | none => { short := k, contact := s.spanNs, drift := 50, listens := 0, listenCycle := 0 }) }) s

/-- BEACON_MISS names the children whose scheduled beacons were not heard in the cycle that has ended (R184, R230). -/
def annexMissed (asn : Nat) (n : AnnexNet) (s : State) : State :=
  let due := s.mac.annex.children.filter (fun c => n.cells.any (fun b =>
    fld b 2 1 == 2 && fld b 5 2 == c.short && 2 ≤ fld b 0 1 && fld b 0 1 ≤ 9 && cellIn b (asn / 100 - 1)) && !s.mac.annex.heard.contains c.short)
  let s := modAnnex (fun a => { a with heard := [] }) s
  if due = [] ∨ asn < 100 then s
  else annexSend 0x001A false false (le 4 (asn / 100 - 1) ++ [byte due.length, 0] ++ due.flatMap (fun c => le 2 c.short)) s

/-- ENERGY_REPORT for the window that has ended, at the cycle R147 gives the node's index: to its head, or to the root. What the
module's lamps took is estimated, and as estimated: free (R232, log entry 41). -/
def annexEnergy (asn : Nat) (n : AnnexNet) (s : State) : State :=
  let cyc := asn / 100
  let k := (cyc + 900 - n.windowPhase) % 900
  if k ≠ 1 + (n.short - 0x2000) % 60 ∨ cyc < k then s
  else
    let start := cyc - k
    let whole : Bool := decide (n.epoch + (start - 900) * sec + (s.now - s.boot.resetAt) ≥ s.spanNs)
    let body := le 4 (if start < 900 then 0 else start - 900) ++ le 4 (Config.unstated 36 s.freeIdx) ++ le 2 (Config.unstated 62 s.freeIdx)
      ++ [byte (4 + 2 * b2n !whole), 0]
    annexReportTo n 0x0302 60000 body s.draw

/-- A LEAVE received takes effect once its RESPONSE has gone (Table 6.8, R224). -/
def annexGone (s : State) : State :=
  if (match s.mac.annex.net with | some n => n.leaving | none => false) && s.mac.annex.tx == [] then annexLeave s else s

/-- A whole second in ANNEX role, which is a cycle start of the parent span: the scan, the join, and a joined node's duties. -/
def annexSecond (s : State) : State :=
  if !annexed s then s
  else match s.mac.annex.parent, s.mac.annex.net with
    | none, _ => annexScan s
    | some p, none => annexJoining p s
    | some p, some n =>
      let asn := annexAsn s p
      let s := annexMissed asn n s
      let n := annexSchedule asn (annexKeys asn n)
      let s := annexKids p n (modNet (fun _ => n) s)
      let s := modAnnex (fun a => { a with
        relayed := 0, tx := a.tx.filter (fun t => asn < t.expiry),
        forwarded := a.forwarded.filter (fun e => s.spanNs / sec < e.2.2.2 + 32),
        seen := a.seen.filter (fun e => s.spanNs / sec < e.2 + 64) }) s
      let s := annexEnergy asn n s
      annexGone (if asn / 100 % 64 = (n.short - 0x2000) % 64 then annexReport s else s)

/-! ### Cells on port B (R161, R164, R176, R177, R187, R224, R230) -/

/-- Retry and back-off limits: of the SCHEDULE held, else the module's own. -/
def annexRetries (s : State) (n : AnnexNet) : Nat := if n.cells = [] then s.live 0x0303 else n.retries
def annexBe (s : State) (n : AnnexNet) : Nat :=
  if n.cells = [] then beOf s 1 else min (n.beMin + (s.port 1).be) n.beMax

/-- A message as its next frame carries it: the retries spent here are added to its header (R225). -/
def AnnexTx.bytes (t : AnnexTx) : Bytes :=
  t.message.take 15 ++ [byte (min 255 (fld t.message 15 1 + t.retries))] ++ t.message.drop 16

def AnnexTx.last (s : State) (t : AnnexTx) : Nat := (t.bytes.length - 1) / fragSize s

/-- The attempt on the air ends (R176, R177, R230). -/
def endAnnex (ok : Bool) (s : State) : State :=
  match s.mac.annex.attempt with
  | none => s
  | some (id, _, shared) =>
    let s := modAnnex (fun a => { a with attempt := none }) s
    match s.mac.annex.tx.find? (fun t => t.id == id), s.mac.annex.net with
    | some t, some n =>
      let up : Bool := s.mac.annex.parent.any (fun p => p.src == t.dst)
      let s := if shared then
          (if ok then modPort 1 (fun q => { q with be := 0 }) s
           else modPort 1 (fun q => { q with backoff := Config.freeNat s.freeIdx % 2 ^ annexBe s n, be := min (q.be + 1) 6 }) s.draw)
        else s
      let gone := if ok then t.last s ≤ t.frag else !t.resync && annexRetries s n + 1 ≤ t.attempts
      let s := modAnnex (fun a => { a with
        lostContact := if up then !ok else a.lostContact,
        tx := if gone then a.tx.filter (fun x => x.id != id)
          else a.tx.map (fun x => if x.id = id ∧ ok then { x with frag := x.frag + 1, attempts := 0 } else x) }) s
      let s := if ok && t.resync then modAnnex (fun a => { a with tx := a.tx.filter (fun x => !x.resync) }) s else s
      if up && !ok && !s.mac.annex.tx.any (·.resync) then
        annexSend 0x0018 true true (le 5 (match n.beacon with | some b => b.1 | none => 0) ++ zeros 3) s
      else annexGone s
    | _, _ => s

/-- A transmission on port B in a slot of the parent span. -/
def annexTransmit (c : Cell) (p : AnnexCand) (asn ch : Nat) (psdu : Bytes) (s : State) : State × TxRes :=
  transmitAt 1 ch (annexSlot s p asn) c.late c.miso psdu (modPort 1 (fun q => { q with ranTo := asn + cellLen s (ackedCell c) }) s)

/-- The channel of a cell with an offset. -/
def annexChannel (s : State) (asn offset : Nat) : Nat := rgHop (s.mac.region.getD []) (asn + offset)

/-- An attempt of the first message that may go in the cell (R176, R225). -/
def annexAttempt (c : Cell) (p : AnnexCand) (asn ch : Nat) (pick : AnnexTx → Bool) (s : State) : State :=
  match s.mac.annex.net, s.mac.annex.tx.find? (fun t => pick t && decide (t.notBefore ≤ asn) && decide (asn + cellLen s true - 1 < t.expiry)) with
  | some n, some t =>
    let idx := n.phase + 1
    let q := s.mac.macSeq
    let psdu := dataPsdu n.key idx (annexCounter s idx) s.eui n.short q t.dst
      (byte (16 * t.frag + t.last s) :: sub t.bytes (t.frag * fragSize s) (fragSize s))
    if 15 < t.last s then modAnnex (fun a => { a with tx := a.tx.filter (fun x => x.id != t.id) }) s
    else
      let again := b2n (0 < t.attempts)
      match annexTransmit c p asn ch psdu (nextMacSeq (useAnnexCounter idx s)) with
      | (s, .suppressed) => s
      | (s, r) =>
        let s := modAnnex (fun a => { a with
          attempt := some (t.id, q, c.kind == .shared),
          tx := a.tx.map (fun x => if x.id = t.id then { x with attempts := x.attempts + 1, retries := x.retries + again } else x) }) s
        if r = .sent then s else endAnnex false s
  | _, _ => s

/-- The instant at which the end of SFD of a cell is due on the span clock (R161, R220). -/
def annexSfd (s : State) (p : AnnexCand) (asn : Nat) : Nat := annexSlot s p asn + 800 * us + tShr s

/-- The node's own beacon as it is launched; the end of its SFD sets its correction right (R219, R220). -/
def annexBeaconBody (s : State) (p : AnnexCand) (n : AnnexNet) (asn : Nat) : Bytes :=
  let sfd : Int := (annexSfd s p asn : Nat)
  let recent := n.beacon.filter (fun b => decide (asn ≤ b.1 + 200))
  let corr : Int := match recent with
    | some b => b.2.1 + (sfd - (b.2.2.1 : Nat)) - ((10 * ms * asn : Nat) - (10 * ms * b.1 : Nat) : Int)
    | none => sfd - (n.epoch + 10 * ms * asn + 800 * us + tShr s : Nat)
  let hold : Bool := match recent with | some b => b.2.2.2.1 | none => true
  let openJ : Bool := match recent with | some b => b.2.2.2.2 | none => false
  beaconBody asn (ofS 32 corr) (min 12 (p.depth + 1) + 16 * n.phase + 32 * b2n hold + 64 * b2n openJ)
    (p.rank + linkCost p.pdr) n.conf

def annexBeacons (n : AnnexNet) : Bool := n.cells.any (fun b => fld b 2 1 == 4)

/-- Reception on port B. -/
def annexListen (c : Cell) (start guard asn ch : Nat) (s : State) : State := listenAt 1 ch start guard asn c.kind c.miso s

/-! The slotframe of the parent span on port B (R162 to R167, Tables 5.3 and 5.4). -/

/-- The kinds of cell a slot may hold for a node. -/
def annexKinds (slot : Nat) : List CellKind :=
  if slot = 0 then [.beacon] else if slot = 1 then [.echo, .shared] else if slot < 10 then [.beacon] else if slot < 20 then [.flood]
  else if slot < 90 then [.dedicated, .shared, .echo] else if slot < 98 then [.rendezvous, .shared] else [.shared]

/-- A cell of the schedule held falls in an absolute slot with an offset. -/
def scheduled (n : Option AnnexNet) (kind asn offset : Nat) : Bool :=
  n.any (fun n => n.cells.any (fun b => cellDue kind asn b && fld b 1 1 == offset))

/-- The offset of slots 98 and 99: a proxy's own beacon offset, or that of the parent's beacon (Table 6.6, R224). -/
def joinOffset (p : AnnexCand) (n : Option AnnexNet) : Nat :=
  match n.bind (fun n => n.cells.find? (fun b => fld b 2 1 == 4)) with
  | some b => fld b 1 1
  | none => p.offset

/-- The cell is one that the parent's layout and the schedule held give the node: the root's cells have offset 0 or, on its port B,
the profile's; a lantern's beacon has its own; a SHARED cell is the parent's, or one of the schedule, where no other is assigned. -/
def annexOwned (s : State) (p : AnnexCand) (n : Option AnnexNet) (c : Cell) (asn : Nat) : Bool :=
  let r := s.mac.region.getD []
  let ofRoot : Bool := c.offset == 0 || c.offset == rgBoff r
  (annexKinds (asn % 100)).contains c.kind && (cellLen s (ackedCell c) == 1 || asn % 2 == 0)
    && match c.kind with
      | .beacon => if asn % 100 = 0 then ofRoot else decide (c.offset < rgN r) && (c.offset != 0 || rgN r == 1)
      | .flood => c.offset == 0
      | .echo => if asn % 100 = 1 then ofRoot else p.src == 0x1000 && scheduled n 2 (asn - cellLen s true) c.offset
      | .dedicated => true
      | .shared => !(n.any (fun n => n.cells.any (fun b => [1, 2, 4].any (fun k => cellDue k asn b))))
          && (if 98 ≤ asn % 100 then c.offset == joinOffset p n else c.offset == p.offset || scheduled n 3 asn c.offset)
      | .rendezvous => c.offset == 0 && asn % 2 == 0

/-- Who may transmit in a cell in which the node listens sets its guard: the peer of a cell of the schedule, else the widest of the
parent's and the children's (R180, R210). -/
def annexCellGuard (s : State) (n : Option AnnexNet) (c : Cell) (asn : Nat) : Nat :=
  let kids := (s.mac.annex.children.filter (fun k => !childAdrift s k)).map (childGuard s)
  match n.bind (fun n => n.cells.find? (fun b => cellDue 2 asn b && fld b 1 1 == c.offset)) with
  | some b => match annexChild s (fld b 5 2) with | some k => min 2000000 (childGuard s k) | none => annexGuard s
  | none => kids.foldl max (annexGuard s)

/-- A reception of the schedule in the slot that follows opens before it (R163). -/
def annexBorrowed (s : State) (n : Option AnnexNet) (asn : Nat) : Bool :=
  n.any (fun n => n.cells.any (fun b => cellDue 2 asn b && early s (match annexChild s (fld b 5 2) with
    | some k => min 2000000 (childGuard s k)
    | none => annexGuard s)))

/-- Reception on port B; a window that opens early needs the slot before it (R163). -/
def annexHear (c : Cell) (p : AnnexCand) (asn ch : Nat) (s : State) : State :=
  let n := s.mac.annex.net
  let g := annexCellGuard s n c asn
  if early s g && !scheduled n 2 asn c.offset && (s.port 1).ranTo == asn then s
  else annexListen c (annexSlot s p asn) g asn ch (modPort 1 (fun q => { q with ranTo := asn + cellLen s (ackedCell c) }) s)

/-- A FLOOD cell: the rebroadcast that is due, else reception (R187). -/
def annexFlood (c : Cell) (p : AnnexCand) (asn ch : Nat) (s : State) : State :=
  match s.mac.annex.relays.find? (fun r => r.1 == 0) with
  | some r =>
    let s := modAnnex (fun a => { a with relays := (a.relays.eraseP (· == r)).map (fun x => (x.1 - 1, x.2)) }) s
    (annexTransmit c p asn ch r.2 s).1
  | none => annexHear c p asn ch (modAnnex (fun a => { a with relays := a.relays.map (fun x => (x.1 - 1, x.2)) }) s)

/-- Slots 98 and 99: a join frame that waits there (Table 6.6 steps 2 and 5). -/
def annexJoinCell (c : Cell) (p : AnnexCand) (asn ch : Nat) (s : State) : State :=
  let a := s.mac.annex
  match a.joinTx with
  | f :: rest =>
    if a.net.isNone && a.requestSlot.any (fun k => decide (c.slot < k)) then s
    else match annexTransmit c p asn ch f s with
      | (s, .suppressed) => s
      | (s, _) => modAnnex (fun a => { a with joinTx := rest, requestSlot := none }) s
  | [] => annexHear c p asn ch s

/-- A message of the node may go to its next hop: RESYNC has cells of its own, and frames for an ADRIFT child are held (R182, R230). -/
def annexMay (s : State) (t : AnnexTx) : Bool := !t.resync && !(annexChild s t.dst).any (childAdrift s)

/-- A SHARED cell: it counts towards the wait of R177, then a message, else reception. -/
def annexShared (c : Cell) (p : AnnexCand) (asn ch : Nat) (s : State) : State :=
  let waits : Bool := 0 < (s.port 1).backoff
  let s := modPort 1 (fun q => { q with backoff := q.backoff - 1 }) s
  if 98 ≤ c.slot ∧ s.mac.annex.joinTx ≠ [] then annexJoinCell c p asn ch s
  else if !c.transmit then annexHear c p asn ch s
  else if waits then s
  else annexAttempt c p asn ch (annexMay s) s

/-- A DEDICATED cell of the schedule held: transmission to its peer, or reception from one that is not ADRIFT (R182). -/
def annexDedicated (c : Cell) (p : AnnexCand) (n : AnnexNet) (asn ch : Nat) (s : State) : State :=
  if n.cells.any (fun b => cellDue 1 asn b && fld b 1 1 == c.offset && fld b 5 2 == c.peer) then
    annexAttempt c p asn ch (fun t => annexMay s t && t.dst == c.peer) s
  else if n.cells.any (fun b => cellDue 2 asn b && fld b 1 1 == c.offset && !(annexChild s (fld b 5 2)).any (childAdrift s)) then
    annexHear c p asn ch s
  else s

/-- A BEACON cell: the node's own, or reception. -/
def annexBeaconCell (c : Cell) (p : AnnexCand) (asn ch : Nat) (s : State) : State :=
  match s.mac.annex.net with
  | some n =>
    if scheduled (some n) 4 asn c.offset then
      let idx := n.phase + 1
      match annexTransmit c p asn ch (beaconPsdu n.key (annexCounter s idx) s.eui p.pan n.short (annexBeaconBody s p n asn))
          (useAnnexCounter idx s) with
      | (s, .suppressed) => ev evBeaconSuppressed [] s
      | (s, _) => s
    else annexHear c p asn ch s
  | none => annexHear c p asn ch s

/-- The RENDEZVOUS window: RESYNC on the node's own channel, else a listen on that of an ADRIFT child, round-robin by cycle; after
its 64th the child is served no more until it is heard (R182, R210, R230). -/
def annexRendezvous (c : Cell) (p : AnnexCand) (n : AnnexNet) (asn : Nat) (s : State) : State :=
  let r := s.mac.region.getD []
  let kids := sortBy (fun a b => decide (a.short ≤ b.short)) (s.mac.annex.children.filter (fun k => childAdrift s k && decide (k.listens < 64)))
  if s.mac.annex.lostContact then annexAttempt c p asn (rgHop r (n.short - 0x2000)) (·.resync) s
  else match kids.getD (asn / 100 % max 1 kids.length) default with
    | k =>
      if kids = [] then s
      else
        let s := modAnnex (fun a => { a with children := a.children.map (fun x =>
          if x.short = k.short ∧ x.listenCycle ≠ asn / 100 + 1 then { x with listens := x.listens + 1, listenCycle := asn / 100 + 1 } else x) }) s
        annexListen c (annexSlot s p asn) 2000000 asn (rgHop r (k.short - 0x2000)) s

/-- What the node does in a cell of the parent span. -/
def annexRun (c : Cell) (p : AnnexCand) (asn : Nat) (s : State) : State :=
  let ch := annexChannel s asn c.offset
  match c.kind, s.mac.annex.net with
  | .beacon, _ => annexBeaconCell c p asn ch s
  | .flood, _ => annexFlood c p asn ch s
  | .shared, some _ => annexShared c p asn ch s
  | .shared, none => if 98 ≤ c.slot then annexJoinCell c p asn ch s else s
  | .dedicated, some n => annexDedicated c p n asn ch s
  | .echo, some _ => annexHear c p asn ch s
  | .rendezvous, some n => annexRendezvous c p n asn s
  | _, none => s

/-- Port B in ANNEX role: one channel under scan, or the parent span's layout (R164, R185). An attempt still without an outcome has
failed; a node whose counter is spent rejoins (R176, R216). -/
def annexCell (c : Cell) (s : State) : State :=
  match s.mac.annex.parent with
  | none =>
    annexListen c (s.spanNs / (10 * ms) * (10 * ms)) (10 * ms) 0 (rgHop (s.mac.region.getD []) s.mac.annex.scanAt) s
  | some p =>
    let asn := annexAsn s p
    let n := s.mac.annex.net
    if asn % 100 ≠ c.slot ∨ !annexOwned s p n c asn ∨ annexBorrowed s n (asn + cellLen s (ackedCell c)) then s
    else if n.any (fun n => annexSpent s (n.phase + 1)) then annexLeave s
    else annexRun c p asn (endAnnex false s)

/-! ### Frames received on port B (R172, R211 to R217, R222 to R226) -/

/-- The highest counter of a key and source is exceeded (R216). -/
def annexFresh (s : State) (key ctr : Nat) : Bool := match get? s.mac.annex.rxCounters key with | some h => h < ctr | none => true

def annexAccept (key ctr : Nat) (s : State) : State := modAnnex (fun a => { a with rxCounters := put a.rxCounters key ctr }) s

/-- A join response installs what it carries; CAPABILITY and FRAGMENT_INVENTORY follow (Table 6.6 step 6), and the report of a new
parent (R230). -/
def annexInstall (m : Bytes) (s : State) : State :=
  let ph := fld m 3 1 % 2
  let n : AnnexNet :=
    { (default : AnnexNet) with
      short := fld m 20 2, epoch := match decTime (sub m 24 10) with | some t => stTotNs t | none => 0, rootEui := fld m 34 8,
      groups := fld m 48 16 % 2 ^ 127, windowPhase := fld m 42 2, floodSeq := fld m 44 2, keys := [(ph, sub m 4 16)], phase := ph,
      high := fld m 22 2, record := 1 }
  let s := annexKeyAt (ph + 1) (sub m 4 16) (modAnnex (fun a => { a with
    net := some n, requests := 0, requestSlot := none, joinTx := [], lostContact := false, contactAt := s.spanNs }) s)
  annexReport (annexSend 0x0206 false false [0, 0] (annexSend 0x0015 false false (annexDescriptor s) s))

/-- JOIN_RESPONSE, once its fragments are together (R222, R223). -/
def annexJoined (m : Bytes) (s : State) : State :=
  if fld m 0 2 ≠ 0x0011 then s
  else if fld m 2 1 = 0 then annexInstall m s
  else if fld m 2 1 = 1 then
    (match s.mac.annex.parent with
    | some p => annexChoose (fun c => decide (c.depth < p.depth)) s
    | none => s)
  else modAnnex (fun a => { a with requests := 0 }) s

/-- A join response frame to the node's own EUI-64, under its join key. -/
def annexResponse (f : RxFrame) (s : State) : State :=
  let p := f.psdu
  let ctr := fld p 14 4
  if p.length < 24 ∨ fld p 3 8 ≠ s.eui ∨ fld p 13 1 ≠ 0x05 ∨ s.mac.annex.net.isSome ∨ s.mac.annex.parent.isNone then filterDrop s
  else match ccmOpen (Config.annexKey 0) (nonceOf (annexEui s (fld p 11 2)) ctr 5) (p.take 18) (sub p 18 (p.length - 20)) 4 with
    | none => securityDrop s
    | some body =>
      if !annexFresh s (fld p 11 2) ctr then securityDrop s
      else
        let r := reassemble s.mac.annex.reasm (2 ^ 32) (s.spanNs / sec) body
        let s := modAnnex (fun a => { a with reasm := r.1 }) (annexAccept (fld p 11 2) ctr s)
        match r.2 with
        | some m => annexJoined m s
        | none => s

/-- A message for the node itself, by its type (Table 6.8): the status of its RESPONSE, or none where it answers otherwise. -/
def annexAct (at_ : Nat) (m : Bytes) (s : State) : State × Option Nat :=
  let p := m.drop (16 + 2 * (fld m 2 1 / 16))
  let ty := fld m 0 2
  if ty = 0x0013 then (modAnnex (fun a => { a with tx := [], attempt := none }) (modNet (fun n => { n with leaving := true }) s), some 0)
  else if ty = 0x0014 then
    (annexKeyAt (fld p 0 1 % 2 + 1) (sub p 4 16)
      (modNet (fun n => { n with keys := put n.keys (fld p 0 1 % 2) (sub p 4 16), keyUpdate := some (fld p 0 1 % 2, fld p 20 5) }) s), some 0)
  else if ty = 0x0017 then (modNet (fun n => { n with nextSchedule := some (fld p 4 5, p) }) s, some 0)
  else if ty = 0x001C then (modNet (fun n => { n with groups := fld p 0 16 % 2 ^ 127 }) s, some 0)
  else if ty = 0x0012 then
    (modAnnex (fun a => { a with joinTx := a.joinTx ++ (pieces p.length p).map withFcs }) s, none)
  else if ty = 0x0204 then
    (modNet (fun n => { n with head := if fld p 0 1 = 2 then some (shortOf (fld p 4 2), fld p 6 2) else none }) s, some 0)
  else if ty = 0x0401 then (s, some (if fld p 4 4 = fld (annexDescriptor s) 8 4 then 4 else 0))
  else if ty = 0x0202 then (s, some 0)
  else if ty = 0x0201 then (s, some 4)
  else if ty = 0xFFFE then
    (s.modMac (fun x => { x with inbox := x.inbox ++ [
      { type := 0xFFFE, origin := fld m 4 2, src := fld m 4 2, confirmed := (fld m 2 1).testBit 0, seq := fld m 8 2,
        retries := fld m 15 1, payload := p, at_ := at_, port := 1 }] }), none)
  else (s, some 3)
where
  /-- the PSDUs of a JOIN_RELAY, each preceded by its length -/
  pieces : Nat → Bytes → List Bytes
    | 0, _ => []
    | _, [] => []
    | k + 1, n :: b => b.take n.toNat :: pieces k (b.drop n.toNat)

/-- A message to the node: new, repeated or stale (R226), and its RESPONSE if it is confirmed (R228, R229). -/
def annexDeliver (at_ : Nat) (m : Bytes) (s : State) : State :=
  match s.mac.annex.net with
  | none => s
  | some n =>
    let q := fld m 8 2
    let conf := (fld m 2 1).testBit 0
    let answer (st : Nat) (s : State) : State := if conf then annexRespond q (fld m 15 1) st [] s else s
    match seqMark (some n.high) n.record q with
    | (.stale, _) => answer 2 s
    | (.duplicate, _) =>
      match get? n.responses q with
      | some r => if conf then annexSend 0x001B false false r s else s
      | none => answer 1 s
    | (.fresh, h, rec_) =>
      match annexAct at_ m (modNet (fun n => { n with high := h, record := rec_ }) s) with
      | (s, some st) => annexGone (answer st s)
      | (s, none) => s

/-- A message for another node goes on: up to the parent, or down its route (R225). -/
def annexForward (m : Bytes) (s : State) : State :=
  let h := fld m 2 1 / 16
  let ptr := fld m 3 1
  let up : Bool := (fld m 2 1).testBit 1 && fld m 6 2 == 0x1000
  let key := (fld m 4 2, fld m 6 2, fld m 8 2)
  match s.mac.annex.parent with
  | none => s
  | some p =>
    if s.mac.annex.forwarded.any (fun e => (e.1, e.2.1, e.2.2.1) == key && decide (s.spanNs / sec < e.2.2.2 + 32)) then s
    else
      let next := if up then p.src else if ptr < h then fld m (16 + 2 * ptr) 2 else fld m 6 2
      let m' := if !up && decide (ptr < h) then m.take 3 ++ [byte (ptr + 1)] ++ m.drop 4 else m
      annexQueue next (fld m 10 5) false m'
        (modAnnex (fun a => { a with forwarded := a.forwarded ++ [(key.1, key.2.1, key.2.2, s.spanNs / sec)] }) s)

/-- The ACK of the node to a frame, under the frame's own key (R173, R212, R214). -/
def annexAck (f : RxFrame) (miso : Bytes) (p : AnnexCand) (n : AnnexNet) (s : State) : State :=
  let src := fld f.psdu 5 2
  let idx := fld f.psdu 12 1
  let asn := (((f.at_ : Int) - f.deviation).toNat - annexBase s p) / (10 * ms)
  match get? n.keys (idx - 1) with
  | none => s
  | some key =>
    if !ackFits s f (annexSlot s p (asn + cellLen s true)) || annexSpent s idx then s
    else
      sendAck 1 (ackStart s f) idx
        (ackPsdu key (annexCounter s idx) s.eui (fld f.psdu 2 1) src (s.mac.annex.tx.any (fun t => t.dst == src)) (roundDiv f.deviation us))
        miso useAnnexCounter s

/-- What a frame or an ACK of the parent tells of the node's clock beside its beacons: it disciplines the rate, and is no measurement
towards LOCKED or a qualification (R221, R287). -/
def annexDeviation (x : Int) (s : State) : State :=
  if s.time.selected = 4 ∧ s.time.everLocked ∧ x.natAbs ≤ s.live 0x0101 * 1000 then
    setAddend (clampRate s (Config.servo s.freeIdx s.time.rate x)) s.draw
  else s

/-- CAPABILITY of a child on its way to the root tells its drift class (R180, Table 6.10). -/
def annexOverhear (m : Bytes) (s : State) : State :=
  if fld m 0 2 = 0x0015 then
    let d := fld m (16 + 2 * (fld m 2 1 / 16) + 20) 1
    modAnnex (fun a => { a with children := a.children.map (fun c => if c.short = fld m 4 2 then { c with drift := d } else c) }) s
  else s

/-- A data frame to the node: acknowledged, verified, timed against its parent (R221), reassembled. -/
def annexData (f : RxFrame) (miso : Bytes) (s : State) : State :=
  let p := f.psdu
  let src := fld p 5 2
  let ctr := fld p 8 4
  let idx := fld p 12 1
  match s.mac.annex.parent, s.mac.annex.net with
  | some par, some n =>
    if p.length < 19 ∨ fld p 3 2 ≠ n.short ∨ fld p 7 1 ≠ 0x0D then filterDrop s
    else
      let s := annexAck f miso par n s
      match get? n.keys (idx - 1) with
      | none => securityDrop s
      | some key =>
        match ccmOpen key (nonceOf (annexEui s src) ctr 5) (p.take 13) (sub p 13 (p.length - 15)) 4 with
        | none => securityDrop s
        | some body =>
          if idx = 0 ∨ !annexFresh s (65536 * idx + src) ctr then securityDrop s
          else
            let s := annexContact src f.at_ (annexAccept (65536 * idx + src) ctr s)
            let s := if src = par.src then annexDeviation (-f.deviation) s else s
            let r := reassemble s.mac.annex.reasm src (s.spanNs / sec) body
            let s := modAnnex (fun a => { a with reasm := r.1 }) s
            match r.2 with
            | none => s
            | some m =>
              if m.length < 16 + 2 * (fld m 2 1 / 16) then s
              else if fld m 6 2 = n.short then annexDeliver f.at_ m s
              else annexForward m (annexOverhear m s)
  | _, _ => filterDrop s

/-- The PAN IDs of beacons that pass on port B: the parent's, or the one looked for (Table 5.6, R185). -/
def annexPanOk (s : State) (pan : Nat) : Bool :=
  match s.mac.annex.parent with
  | some p => p.pan == pan
  | none => s.live 0x030B == 0xFFFF || s.live 0x030B == pan

/-- A beacon on port B: a candidate's is read without verification; those a joined node hears are verified under the keys held, and a
node that cannot verify its parent's rejoins (R217, R222). -/
def annexRxBeacon (f : RxFrame) (s : State) : State :=
  let p := f.psdu
  let src := fld p 6 2
  let ctr := fld p 9 4
  let body := sub p 13 13
  let phase := bits (fld body 9 1) 4 4
  if !beaconForm p ∨ !annexPanOk s (fld p 2 2) then filterDrop s
  else match s.mac.annex.parent, s.mac.annex.net with
    | some par, some n =>
      let key := (get? n.keys phase).getD []
      let cid := 65536 * (phase + 1) + src
      if (get? n.keys phase).isSome && ccmSeal key (nonceOf (annexEui s src) ctr 1) (p.take 26) [] 4 == sub p 26 4 then
        (if annexFresh s cid ctr then keepBeacon f body (annexContact src f.at_ (annexAccept cid ctr s)) else securityDrop s)
      else if src = par.src then annexLeave (securityDrop s)
      else securityDrop s
    | _, _ => keepBeacon f body s

/-- A join request to the node as a proxy, in slots 98 and 99, where it listens on its own beacon's offset; of the form of Table 6.1,
and at most 2 in a cycle (R211, R224). -/
def annexProxy (f : RxFrame) (s : State) : State :=
  match s.mac.annex.parent, s.mac.annex.net with
  | some p, some n =>
    let slot := (((f.at_ : Int) - f.deviation).toNat - annexBase s p) / (10 * ms) % 100
    if annexBeacons n && fld f.psdu 3 2 == n.short && decide (24 ≤ f.psdu.length) && fld f.psdu 13 1 == 0x05 && decide (98 ≤ slot)
        && decide (s.mac.annex.relayed < 2) then
      annexSend 0x0012 false false (byte (f.psdu.length - 2) :: f.psdu.take (f.psdu.length - 2))
        (modAnnex (fun a => { a with relayed := a.relayed + 1 }) s)
    else filterDrop s
  | _, _ => filterDrop s

/-- A flood of the parent span: verified, then rebroadcast once with its TTL less 1 in the (1 + r)th FLOOD cell (R187, R188,
R215). The node has no application for it, so its delivery has no effect (R229). -/
def annexRxFlood (f : RxFrame) (s : State) : State :=
  let p := f.psdu
  let ctl := fld p 4 2
  match s.mac.annex.net with
  | none => filterDrop s
  | some n =>
    match get? n.keys (bits ctl 12 12) with
    | none => securityDrop s
    | some key =>
      if !broadcastCell f.kind then filterDrop s
      else if !floodOk key n.rootEui p then securityDrop s
      else if s.mac.annex.seen.any (fun e => e.1 == fld p 6 2 && decide (s.spanNs / sec < e.2 + 64)) then s
      else
        let s := modAnnex (fun a => { a with seen := (a.seen ++ [(fld p 6 2, s.spanNs / sec)]).drop (a.seen.length + 1 - 1024) }) s
        if ctl % 32 < 2 then s
        else
          modAnnex (fun a => { a with relays := a.relays ++ [(Config.freeNat s.freeIdx % 4, relayFrame p)] }) s.draw

/-- A frame received on port B in ANNEX role, by its form. -/
def annexFrame (f : RxFrame) (miso : Bytes) (s : State) : State :=
  let fc := fld f.psdu 0 2
  if !fcsOk f.psdu then filterDrop s
  else if fc = fcBeacon then annexRxBeacon f s
  else if fc = fcData then annexData f miso s
  else if fc = fcJoinResp then annexResponse f s
  else if fc = fcJoinReq then annexProxy f s
  else if fc = fcFlood ∧ fld f.psdu 2 2 = 0xFFFF then annexRxFlood f s
  else filterDrop s

/-- An enhanced ACK to the attempt of the node; the parent's Time Correction is a lag of the node's clock (R212, R221). -/
def annexEnhancedAck (p : Bytes) (s : State) : State :=
  match s.mac.annex.attempt, s.mac.annex.net with
  | some (id, q, _), some n =>
    match s.mac.annex.tx.find? (fun t => t.id == id) with
    | none => s
    | some t =>
      let idx := n.phase + 1
      let ctr := fld p 6 4
      if !ackForm p ∨ fld p 2 1 ≠ q ∨ fld p 3 2 ≠ n.short then s
      else if ccmSeal n.key (nonceOf (annexEui s t.dst) ctr 1) (p.take 14) [] 4 == sub p 14 4 && annexFresh s (65536 * idx + t.dst) ctr then
        let s := annexContact t.dst s.spanNs (annexAccept (65536 * idx + t.dst) ctr s)
        let s := if s.mac.annex.parent.any (fun c => c.src == t.dst) then annexDeviation (toS 12 (fld p 12 2 % 4096) * 1000) s else s
        endAnnex (!(fld p 12 2).testBit 15) s
      else securityDrop s
  | _, _ => s

end Sys2Proof.Machine
end

