-- ==== Sys2Proof/Machine/Cells.lean ====
section
/-! DEFINITION. The rows of the MAC: CELL_START, ACK_WINDOW_EXPIRY, ENHANCED_ACK_RECEIVED, RADIO_IRQ, RADIO_POLL_TIMEOUT,
FRAME_RECEIVED and the timers of chapter 05. Port B of an annexed module is the parent span's (R164, R185). -/

namespace Sys2Proof.Machine

/-- A port that the parent span's layout governs (R164). -/
def parentPort (s : State) (k : Nat) : Bool := k == 1 && s.live 0x0302 == 1

/-- CELL_START (R161): cells run while the span runs and the port has not failed; those of port B in ANNEX role are the parent's. -/
def execCellStart (c : Cell) (s : State) : Res :=
  .next (if !s.fwUp || s.mac.region.isNone || (s.port c.port).failed then s
    else if parentPort s c.port then (if annexed s then annexCell c s else s)
    else if s.mac.running then spanCell c s
    else s)

/-! ### Acknowledgement -/

/-- ACK_WINDOW_EXPIRY (R176, R381): the attempt failed, unless its echo may still be acknowledged. -/
def execAckWindowExpiry (port : Nat) (s : State) : Res :=
  .next (if parentPort s port then endAnnex false s
    else match s.mac.attempts.find? (fun a => a.port == port && !a.noAck) with
    | none => s
    | some a =>
      if a.txn < 2 ^ 64 ∧ a.echo.isSome ∧ s.twin.link = .up then
        s.modMac (fun m => { m with attempts := m.attempts.map (fun x => if x = a then { x with noAck := true } else x) })
      else lostAttempt a s)

/-- ENHANCED_ACK_RECEIVED (R176, R212): the row is the end of the ACK's SFD. -/
def execEnhancedAckReceived (port : Nat) (psdu : Bytes) (s : State) : Res :=
  .next (if !s.fwUp then s
    else if parentPort s port then annexEnhancedAck psdu s
    else match s.mac.attempts.find? (fun a => a.port == port && !a.noAck) with
    | some a => enhancedAck a psdu s
    | none => s)

/-! ### The radio port -/

/-- The end of SFD at the antenna port, in ns of span time (R193): the edge of `xx_TS` as the timestamp unit latched it, less the
20 ns of its synchroniser, with the profile's correction at an offset. -/
def stampOf (s : State) (p : Bytes) (off : Nat) (edge : Int) : Nat := ((s.spanNs : Int) + edge - 20 + toS 32 (fld p off 4)).toNat

/-- A frame fetched with its timestamp, where its end of SFD lies in the receive window (Table 5.1 step 4). -/
def keepFrame (port at_ : Nat) (psdu : Bytes) (s : State) : State :=
  match (s.port port).window with
  | some w =>
    if w.expected ≤ at_ + w.guard ∧ at_ ≤ w.expected + w.guard then
      (modPort port (fun q => { q with window := none }) s).modMac (fun m => { m with
        rx := m.rx ++ [{ port := port, psdu := psdu, deviation := (at_ : Int) - w.expected, at_ := at_, kind := w.kind }] })
    else s
  | none => s

/-- Changes the last element for which a condition holds. -/
def modLast {α : Type} (p : α → Bool) (f : α → α) : List α → List α
  | [] => []
  | x :: l => if p x && !l.any p then f x :: l else x :: modLast p f l

/-- An annexed module's beacon with its correction at its end of SFD, under its own counter and the key of its phase bit (R220). -/
def annexCorrected (s : State) (at_ : Nat) (psdu : Bytes) : Bytes :=
  match s.mac.annex.parent, s.mac.annex.net with
  | some p, some n =>
    let body := sub psdu 13 (psdu.length - 19)
    let late : Int := (at_ : Int) - annexSfd s p (fld body 0 5)
    beaconPsdu ((get? n.keys (bits (fld body 9 1) 4 4)).getD (zeros 16)) (fld psdu 9 4) s.eui p.pan n.short
      (body.take 5 ++ le 4 (ofS 32 (toS 32 (fld body 5 4) + late)) ++ body.drop 9)
  | _, _ => psdu

/-- R298: the root's or the standby's beacon, if it is the port's last frame, carries its end of SFD by `xx_TS`, less N(ASN); an
annexed module's carries its correction to that instant (R220). -/
def correctBeacon (port at_ : Nat) (s : State) : State :=
  s.modOut (fun o => { o with
    air := modLast (fun f => f.port == port) (fun f =>
      if fld f.psdu 0 2 ≠ fcBeacon then f
      else if parentPort s port then { f with psdu := annexCorrected s at_ f.psdu }
      else { f with psdu := withCorrection s f.psdu ((at_ : Int) - (slotStart s f.asn + 800 * us + tShr s : Nat)) }) o.air })

/-- A port reset of either span: the attempt in progress on it has failed (R196). -/
def resetAny (port : Nat) (miso : Bytes) (s : State) : State :=
  resetPort port miso (if parentPort s port then endAnnex false s else s)

/-- What the cause in capture byte 0 asks for (Table 5.9): the timestamp of a transmission, or the frame received. -/
def serveIrq (port : Nat) (miso : Bytes) (edge : Int) (s : State) : State :=
  let p := (s.port port).profile.getD []
  let cause := fld (s.port port).capture 0 1
  let s := if Nat.land cause (fld p 81 1) = 0 then s
    else correctBeacon port (stampOf s p 36 edge) (modPort port (fun q => { q with sentAt := some (stampOf s p 36 edge) }) s)
  if Nat.land cause (fld p 80 1) = 0 ∨ Nat.land cause (fld p 82 1) ≠ 0 then s
  else
    let r := runOne port 6 (s.port port).channel [] miso s
    if r.2.timedOut then resetAny port r.2.miso r.1 else keepFrame port (stampOf s p 32 edge) r.2.frame r.1

/-- RADIO_IRQ (R193, R194): the cause is read and served. `edge` is the latched instant of the last rising edge of `xx_TS`, in ns
from the row's own. -/
def execRadioIrq (port : Nat) (miso : Bytes) (edge : Int) (s : State) : Res :=
  .next (if !s.fwUp ∨ (s.port port).profile = none ∨ !bankGood 0 s then s
    else
      let r := runSeqs port (s.port port).channel [] [7] miso s
      if r.2.1 then serveIrq port r.2.2 edge r.1 else resetAny port r.2.2 r.1)

/-- RADIO_POLL_TIMEOUT (R196): the port is reset and its INIT run. -/
def execRadioPollTimeout (poll : PollIn) (s : State) : Res :=
  .next (if s.fwUp && (s.port poll.port).profile.isSome then resetAny poll.port poll.miso s else s)

/-- FRAME_RECEIVED (R172): the first frame fetched on the port. -/
def execFrameReceived (poll : PollIn) (s : State) : Res :=
  .next (if s.fwUp then
      match s.mac.rx.find? (fun f => f.port == poll.port) with
      | none => s
      | some f =>
        let s := s.modMac (fun m => { m with rx := m.rx.eraseP (· == f) })
        if parentPort s poll.port then annexFrame f poll.miso s else receiveFrame f poll.miso s
    else s)

/-! ### Timers -/

/-- MESH_REASSEMBLY_TIMEOUT (R213). -/
def execMeshReassemblyTimeout (src : Nat) (s : State) : Res :=
  .next (s.modMac (fun m => { m with
    reasm := m.reasm.filter (fun r => r.src != src || m.cycle < r.since + 8),
    annex := { m.annex with reasm := m.annex.reasm.filter (fun r => r.src != src || decide (s.spanNs / sec < r.since + 8)) } }))

/-- A lantern's own rendezvous channel is the one this cycle serves (R182). -/
def listenServed (s : State) (n : Nat) : Bool :=
  let k := rgN (s.mac.region.getD [])
  s.mac.rendezvousCycle == s.mac.cycle + 1 && n % k == s.mac.rendezvous % k

/-- RENDEZVOUS_LISTEN_END (R182, Table 5.15): the listen of this cycle counts once for each partner of its channel; the 64th without
a resync makes the partner LOST. -/
def execRendezvousListenEnd (lantern : Nat) (s : State) : Res :=
  .next (match s.lan lantern with
    | none => s
    | some l =>
      if s.fwUp && s.mac.running && l.adrift && l.state == .joined && listenServed s lantern && l.listenCycle != s.mac.cycle + 1 then
        if 64 ≤ l.listens + 1 then loseLantern lantern s
        else modLan lantern (fun l => { l with listens := l.listens + 1, listenCycle := s.mac.cycle + 1 }) s
      else s)

/-- ROUTELESS_LOST (R183): 64 consecutive cycles without a route. A lantern that has not joined stays EXPECTED (R179). -/
def execRoutelessLost (lantern : Nat) (s : State) : Res :=
  .next (match s.lan lantern with
    | none => s
    | some l =>
      if s.fwUp && l.routeless && l.state == .joined && 64 ≤ l.routelessCycles then loseLantern lantern s else s)

/-- ROOT_PORT_REASSIGN (R168): a first-hop lantern moves to the other root port once that port's ratio has been the better by
ROUTE_HYST_PDR for 64 cycles. -/
def execRootPortReassign (lantern : Nat) (s : State) : Res :=
  .next (match s.lan lantern with
    | none => s
    | some l =>
      if s.fwUp && l.port < 2 && l.state == .joined && decide (64 ≤ l.portRun) && ownPort s (1 - l.port) && !(s.port (1 - l.port)).failed
          && (s.port (1 - l.port)).profile.isSome then
        (modLan lantern (fun l => { l with port := 1 - l.port, portRun := 0 }) s).modMac (fun m => { m with topoChanged := true })
      else s)

/-! ### Network keys (R217) -/

/-- KEY_UPDATE_ACTIVATION: from the activation ASN the new key is in use; the old one is accepted for 64 cycles. -/
def activateKey (s : State) : State :=
  match s.mac.keyUpdate with
  | none => s
  | some (phase, asn) =>
    if asn ≤ asnNow s then
      s.modMac (fun m => { m with
        phase := phase, keyUpdate := none, floodsUsed := 0, oldKeyUntil := some (asn / 100 + 64),
        counters := put m.counters (phase + 1) 0,
        rxCounters := m.rxCounters.filter (fun e => e.1 / 65536 != phase + 1) })
    else s

/-- The keys of an annexed module follow the parent span's ASN. -/
def annexKeyStep (s : State) : State :=
  match s.mac.annex.parent with
  | some p => modNet (annexKeys (annexAsn s p)) s
  | none => s

def execKeyUpdateActivation (s : State) : Res := .next (annexKeyStep (activateKey s))

/-- OLD_NETWORK_KEY_EXPIRY. -/
def execOldNetworkKeyExpiry (s : State) : Res :=
  .next (annexKeyStep (match s.mac.oldKeyUntil with
    | none => s
    | some c =>
      if c ≤ s.mac.cycle then
        s.modMac (fun m => { m with oldKeyUntil := none, netKeys := m.netKeys.filter (fun k => k.1 == m.phase) })
      else s))

end Sys2Proof.Machine
end

