-- ==== Sys2Proof/Machine/Schedule.lean ====
section
/-! DEFINITION. The MAC as the span's scheduler (R165): DEDICATED cells on the links of the routing tree, BEACON cells, and SCHEDULE,
which carries them (Table 6.8). Mark: DESIGN CHOICE (log entry 38): where a cell falls among those that the bounds of R165 allow is
free. -/

namespace Sys2Proof.Machine

/-- The nodes that beacon: pier heads and route parents (R165). -/
def beaconing (s : State) (n : Nat) : Bool :=
  s.truss.piers.any (fun p => p.head == n) || s.mac.lanterns.any (fun e => e.2.parent == shortOf n)

/-- The upper end of a lantern's link: its parent, or one of the root's two radios by port. -/
def upperEnd (s : State) (n : Nat) : Nat :=
  match s.lan n with
  | some l => if l.parent = rootShort then l.port else l.parent
  | none => 0xFF

/-- Root ports stand for their radios in `upperEnd`. -/
def isRadio (e : Nat) : Bool := e < 2

/-- The nodes a cell keeps busy. -/
def asgNodes (s : State) (a : CellAsg) : List Nat :=
  match a.kind with | .beacon => [shortOf a.lantern] | _ => [shortOf a.lantern, upperEnd s a.lantern]

/-- The channel offset a cell occupies: port B of the root hops at the profile's own (R167). -/
def asgChannel (s : State) (a : CellAsg) : Nat := if a.port = 1 ∧ a.kind ≠ .beacon then rgBoff (s.mac.region.getD []) else a.offset

/-- Slots a cell takes: a downlink cell of the root keeps the position of its echo as well (R162, R166). -/
def asgLen (s : State) (a : CellAsg) : Nat :=
  match a.kind with
  | .beacon => 1
  | .down => cellLen s true * (if s.live 0x0A00 = 1 ∧ isRadio (upperEnd s a.lantern) then 2 else 1)
  | .up => cellLen s true

/-- Two assigned cells meet in some cycle. -/
def cellsMeet (s : State) (a b : CellAsg) : Bool :=
  a.phase % min a.period b.period == b.phase % min a.period b.period
    && decide (a.slot < b.slot + asgLen s b) && decide (b.slot < a.slot + asgLen s a)

/-- Lanterns within a number of hops over the links reported. -/
def nearby (s : State) : Nat → List Nat → List Nat
  | 0, l => l
  | k + 1, l => nearby s k (l.flatMap (oneHop s 0) |>.foldl insertSet l)

/-- Two cells cannot both stand: one node would be in both, or two nodes within 3 hops would share a BEACON cell (R165). -/
def clashes (s : State) (a b : CellAsg) : Bool :=
  if a.kind = .beacon ∧ b.kind = .beacon then
    a.slot == b.slot && a.offset == b.offset && (nearby s 3 [a.lantern]).contains b.lantern
  else cellsMeet s a b && (asgNodes s a).any (asgNodes s b).contains

/-- Two cells that would meet on one channel: the scheduler avoids it while it has another place. -/
def sharesChannel (s : State) (a b : CellAsg) : Bool := cellsMeet s a b && asgChannel s a == asgChannel s b

/-- The offsets a cell may have: 0 with the root, 1 to N - 1 between lanterns (R167). -/
def offsetsOf (s : State) (n : Nat) (k : AsgKind) : List Nat :=
  let last := rgN (s.mac.region.getD []) - 1
  if (k != .beacon && isRadio (upperEnd s n)) || last == 0 then [0] else (List.range last).map (· + 1)

/-- A cell has the form of its link and its place in the slotframe: a joined lantern, its port, an offset it may have, the whole of
it, its echo included, in the slots of its kind (Table 5.3, R166); and it can stand beside others. -/
def asgFits (s : State) (l : List CellAsg) (a : CellAsg) : Bool :=
  (match s.lan a.lantern with | some x => x.state == .joined && a.port == x.port | none => false)
    && (a.kind != .beacon || beaconing s a.lantern) && (offsetsOf s a.lantern a.kind).contains a.offset
    && (a.kind == .beacon || decide (a.slot + asgLen s a ≤ 90)) && !l.any (clashes s a)

/-- Where a cell of a kind may fall: slot, period, phase, offset (Table 5.3); a BEACON cell in the slot of its node's depth (R299). -/
def places (s : State) (n : Nat) (k : AsgKind) : List (Nat × Nat × Nat × Nat) :=
  let step := cellLen s true
  let depth := match s.lan n with | some l => l.depth | none => 1
  let slots := if k = .beacon then [(2 + (depth - 1) % 8, 1, 0)]
    else (List.range (70 / step)).flatMap (fun i => (List.range 8).map (fun p => (20 + step * i, 8, p)))
  slots.flatMap (fun x => (offsetsOf s n k).map (fun o => (x.1, x.2.1, x.2.2, o)))

/-- One more cell of a kind for a lantern: from a free place on, the first that can stand and shares no channel, or else the first
that can stand. -/
def addCell (s : State) (draw : Nat) (l : List CellAsg) (n : Nat) (k : AsgKind) : List CellAsg :=
  let ps := places s n k
  let at_ := if ps.length = 0 then 0 else Config.freeNat draw % ps.length
  let port := match s.lan n with | some x => x.port | none => 0xFF
  let mk (x : Nat × Nat × Nat × Nat) : CellAsg :=
    { lantern := n, kind := k, port := port, slot := x.1, offset := x.2.2.2, period := x.2.1, phase := x.2.2.1 }
  let fit := ((ps.drop at_ ++ ps.take at_).map mk).filter (asgFits s l)
  match (fit.find? (fun a => !l.any (sharesChannel s a))).orElse (fun _ => fit.head?) with
  | some a => l ++ [a]
  | none => l

/-- A transaction's route crosses the link of a lantern with its parent. -/
def crossesLink (s : State) (n : Nat) (t : Txn) : Bool := t.lantern == n || (routeOf s t.lantern).contains (shortOf n)

/-- Messages queued on a link: downwards those to be sent, upwards the responses that are awaited. -/
def queuedOn (s : State) (n : Nat) (up : Bool) : Nat :=
  (s.mac.txns.filter (fun t => (t.st == .awaiting) == up && (!up || t.confirmed) && crossesLink s n t)).length

/-- Cells that a link should have in 8 cycles: one each way, and more in proportion to what is queued (R165); the proportion is
free. -/
def wantedCells (s : State) (n : Nat) (k : AsgKind) : Nat :=
  let more (up : Bool) : Nat := queuedOn s n up * (1 + Config.unstated 27 0 % 8) / 8
  match k with
  | .beacon => b2n (beaconing s n)
  | .up => 1 + more true
  | .down => 1 + more false

def countCells (l : List CellAsg) (n : Nat) (k : AsgKind) : Nat := (l.filter (fun a => a.lantern == n && a.kind == k)).length

/-- The assignments that stay: those that still have the form of their link and exclude no other that stays. -/
def keptCells (s : State) : List CellAsg :=
  s.mac.cells.foldl (fun l a =>
    if asgFits s l a && decide (countCells l a.lantern a.kind < wantedCells s a.lantern a.kind) then l ++ [a] else l) []

/-- Each joined lantern is given what it still lacks of a number of cells of each kind. -/
def fillCells (s : State) (want : Nat → AsgKind → Nat) (l : List CellAsg) : List CellAsg :=
  (s.mac.lanterns.filter (fun e => e.2.state == .joined)).foldl (fun l e =>
    [AsgKind.down, .up, .beacon].foldl (fun l k =>
      (List.range (want e.1 k - countCells l e.1 k)).foldl (fun l i => addCell s (s.freeIdx + l.length + i) l e.1 k) l) l) l

/-- The schedule of the tree as it stands: what stays, then one cell each way of every link, then what each still lacks. -/
def newCells (s : State) : List CellAsg :=
  fillCells s (wantedCells s) (fillCells s (fun n k => min 1 (wantedCells s n k)) (keptCells s))

/-! ### SCHEDULE (Table 6.8) -/

/-- A cell of SCHEDULE: 1 TX, 2 RX, 4 BEACON_TX. -/
def cellBytes (a : CellAsg) (kind peer : Nat) : Bytes :=
  [byte a.slot, byte a.offset, byte kind, byte a.period, byte a.phase] ++ le 2 peer ++ [0]

/-- An assigned cell as a lantern sees it: its own link, its children's links and beacons, its parent's beacon. -/
def cellFor (s : State) (n : Nat) (a : CellAsg) : Option Bytes :=
  let parent := match s.lan n with | some l => l.parent | none => 0
  let child : Bool := match s.lan a.lantern with | some l => l.parent == shortOf n | none => false
  if a.lantern = n then
    some (match a.kind with | .down => cellBytes a 2 parent | .up => cellBytes a 1 parent | .beacon => cellBytes a 4 0xFFFF)
  else if child then
    some (match a.kind with | .down => cellBytes a 1 (shortOf a.lantern) | _ => cellBytes a 2 (shortOf a.lantern))
  else if a.kind = .beacon ∧ shortOf a.lantern = parent then some (cellBytes a 2 parent)
  else none

/-- The cells SCHEDULE tells a lantern of: as many as its count octet and one message hold (R213). -/
def scheduleCells (s : State) (n : Nat) : List Bytes :=
  (s.mac.cells.filterMap (cellFor s n)).take (min 255 ((16 * fragSize s - 48) / 8))

/-- SCHEDULE (Table 6.8, R165); its effective ASN lies ahead, and is free. -/
def sendSchedule (n : Nat) (s : State) : State :=
  let cells := scheduleCells s n
  sendOwn n 0x0017 ([byte s.mac.confVersion, byte (s.live 0x0303), byte (s.live 0x0304), byte (s.live 0x0305)]
    ++ le 5 (asnNow s + 1 + Config.unstated 18 s.freeIdx % 6400) ++ [byte cells.length] ++ cells.flatten) s.draw

/-- The assignments follow the tree; a change counts in the configuration version, and those whose cells it touches are told
(R165, Table 6.4). `joining` is told by what follows its join. -/
def reschedule (joining : Option Nat) (s : State) : State :=
  let old := s
  let cells := newCells s
  if cells = s.mac.cells then s
  else
    let s := bumpConf ({ s with freeIdx := s.freeIdx + cells.length }.modMac (fun m => { m with cells := cells }))
    (s.mac.lanterns.filter (fun e => e.2.state == .joined && some e.1 != joining && scheduleCells old e.1 != scheduleCells s e.1)).foldl
      (fun s e => sendSchedule e.1 s) s

end Sys2Proof.Machine
end

