-- ==== Sys2Proof/Machine/TrussRun.lean ====
section
/-! DEFINITION. What the truss runs and answers: SPAN fragments' triggers, conditions and actions (R126, R127, R134 to R137),
sensor events and subscriptions (R148, R160), catch-up (R265), and the placement commands (R154 to R160). -/

namespace Sys2Proof.Machine

/-! ### Values the conditions compare (R127, R339, R340) -/

def maxOf (l : List Nat) : Nat := l.foldl max 0

/-- A quantity of Table 10.3 in the latest closed second or reconciled window. -/
def quantity (s : State) (q ph : Nat) : Option Int :=
  if q = 0x0C then (if s.meter.results = [] then none else some s.meter.unexplained)
  else match s.meter.last with
    | none => none
    | some m =>
      let x := m.phases.getD (ph - 1) default
      let sumI (f : PhaseQ → Int) := (m.phases.map f).sum
      let pick (f : PhaseQ → Nat) : Int := if ph = 0 then (maxOf (m.phases.map f) : Nat) else (f x : Nat)
      let tp := sumI (·.p)
      let ts : Nat := (m.phases.map (·.s)).sum
      match q with
      | 1 => some (if ph = 0 then tp else x.p)
      | 2 => some (if ph = 0 then sumI (·.q) else x.q)
      | 3 => some (if ph = 0 then (ts : Nat) else (x.s : Nat))
      | 4 => some (pick (·.vrms))
      | 5 => some (pick (·.irms))
      | 6 => some (if ph = 0 then (if ts = 0 then 0 else roundDiv (tp * 10000) ts) else x.pf)
      | 7 => some m.frequency
      | 8 => some (pick (·.thdV))
      | 9 => some (pick (·.thdI))
      | 0x0A => some m.neutral
      | 0x0B => some m.residual
      | _ => none

/-- ABOVE or BELOW a threshold. -/
def onSide (cmp : Nat) (thr v : Int) : Bool := if cmp = 1 then thr < v else v < thr

/-- The local calendar at the present instant (R320). -/
def localNow (s : State) : Calendar :=
  calOfSeconds ((s.utcSec : Int) + (offsetAt s.rtc s.utcSec).1 * 60).toNat

/-- The last reading of a lantern's sensor; free where the module has none yet (log entry 16). -/
def reading (s : State) (n sensor : Nat) : Int :=
  (get? s.truss.readings (32 * n + sensor)).getD (toS 32 (Config.unstated 16 (32 * n + sensor)))

def hasSensor (s : State) (n sensor : Nat) : Bool :=
  match s.lan n with | some l => (l.cap 14 2).testBit (sensor - 1) | none => false

/-- A condition for a target, the local outputs being no lantern (R127). -/
def conditionHolds' (s : State) (c : Bytes) (t : Option Nat) : Bool :=
  let cal := localNow s
  let raw : Bool := match fld c 0 1 with
    | 1 =>
      let m := cal.hour * 60 + cal.minute
      let a := fld c 2 2
      let b := fld c 4 2
      if a < b then a ≤ m && m < b else a ≤ m || m < b
    | 2 => (fld c 2 1).testBit (cal.weekday - 1)
    | 3 =>
      let d := cal.month * 32 + cal.day
      let a := fld c 2 1 * 32 + fld c 3 1
      let b := fld c 4 1 * 32 + fld c 5 1
      if a ≤ b then a ≤ d && d ≤ b else a ≤ d || d ≤ b
    | 4 => (match t with
      | some n => hasSensor s n 2 && onSide (fld c 2 1) (toS 32 (fld c 4 4)) (reading s n 2)
      | none => false)
    | 5 => (match quantity s (fld c 2 1) (fld c 3 1) with
      | some v => onSide (fld c 4 1) (toS 32 (fld c 8 4)) v
      | none => false)
    | _ => false
  raw != (fld c 1 1).testBit 0

def conditionsHold (s : State) (r : Bytes) (t : Option Nat) : Bool := (rConds r).all (fun c => conditionHolds' s c t)

/-! ### Actions (Table 4.4, R134, R137) -/

/-- The change a LAMP_TARGET asks for. -/
def actionChange (a : Bytes) : Change :=
  { level := fld a 4 2, fade := fld a 10 4, curve := fld a 9 1, cct := fld a 6 2, duv := toS 8 (fld a 8 1) }

/-- CLAIM (Table 6.14). -/
def claimBytes (s : State) (p : Policy) (i : Nat) (a : Bytes) (flags elapsed : Nat) : Bytes :=
  le 4 (rId p.record) ++ le 2 p.version ++ [rankByte p.record, byte (adChannel (rScope p.record)), byte i, byte flags]
    ++ le 2 elapsed ++ compiledAction s a

/-- The local outputs a LAMP_TARGET names: its scope's, and of those the ones in its channel mask, bit n for `LDn`, unless the
scope names one output (DESIGN CHOICE, log entry 125). -/
def claimOuts (s : State) (p : Policy) (a : Bytes) : List Nat :=
  (localOuts s (rScope p.record)).filter (fun n => oneChannel p.record || (fld a 2 2).testBit n)

/-- A LAMP_TARGET on the local outputs: a claim on each it names, with its hold already run for a time. -/
def claimLocal (p : Policy) (i : Nat) (a : Bytes) (elapsed : Nat) (noFade : Bool) (s : State) : State :=
  let hold := fld a 14 2
  let ch := actionChange a
  if (fld a 1 1).testBit 0 && hold ≤ elapsed then s
  else placeClaims (claimOuts s p a)
    { policy := rId p.record, rank := rRank p.record, action := i,
      change := if noFade then { ch with fade := 0 } else ch,
      until_ := if (fld a 1 1).testBit 0 then some (s.now + (hold - elapsed) * sec) else none } s

/-- A new claim of a policy on a lantern replaces the one whose end was owed (R134). -/
def claimAgain (p : Policy) (n : Nat) (s : State) : State :=
  s.modTruss (fun u => { u with ends := u.ends.filter (fun e => !(e.1 == n && fld e.2 0 4 == rId p.record)) })

/-- R137: within one cycle the highest-ranked CONTACTOR action decides each contactor. -/
def decideContactor (r : Bytes) (k : Nat) (close : Bool) (s : State) : State :=
  let cyc := s.spanNs / sec
  let rank := rRank r * 2 ^ 32 + rId r
  let ds := s.truss.decisions.filter (fun d => d.cycle == cyc)
  if ds.any (fun d => d.contactor == k && rank < d.rank) ∨ s.fb.agent ≠ .firmware then s
  else
    setContactor k close (s.modTruss (fun u => { u with
      decisions := (ds.filter (fun d => d.contactor != k)) ++ [{ contactor := k, rank := rank, close := close, cycle := cyc }] }))

/-- One action for the targets whose conditions hold; none among them stands for the local outputs or an empty scope. -/
def runAction (p : Policy) (ts : List (Option Nat)) (i : Nat) (a : Bytes) (s : State) : State :=
  match fld a 0 1 with
  | 1 => ts.foldl (fun s t => match t with
      | none => if scopeLocal p.record then claimLocal p i a 0 false s else s
      | some n => sendOwn n 0x0205 (claimBytes s p i a 0 0) (claimAgain p n s)) s
  | 2 => ts.foldl (fun s t =>
      ev evPolicyReport (le 4 (rId p.record) ++ le 2 (fld a 2 2) ++ le 2 (match t with | some n => n | none => 0x1FFE) ++ zeros 8) s) s
  | 3 =>
    if ts = [] then s
    else
      let close : Bool := fld a 3 1 == 1
      [0, 1].foldl (fun s k => if (fld a 2 1).testBit k then decideContactor p.record k close s else s) s
  | _ => s

/-- The SPAN fragment of a policy, running. -/
def spanFrag (s : State) (pol : Nat) : Option Fragment :=
  s.truss.fragments.find? (fun f => f.policy == pol && f.tier == 3 && f.state == 2)

/-- A policy fires on the module for some of its targets (R126, R127). Mark: DESIGN CHOICE (log entry 32): an empty target
set or the local outputs stand as one target that is no lantern. -/
def firePolicy (p : Policy) (only : Nat → Bool) (s : State) : State :=
  match spanFrag s (rId p.record) with
  | none => s
  | some f =>
    let cand : List (Option Nat) := if scopeLocal p.record ∨ f.targets = [] then [none] else (f.targets.filter only).map some
    let ts := cand.filter (conditionsHold s p.record)
    let acts := rActions p.record
    (acts.zip (List.range acts.length)).foldl (fun s a => runAction p ts a.2 a.1 s) s

/-- The module runs policies: firmware up, and lease holder or alone. -/
def trussRuns (s : State) : Bool := s.fwUp && s.holder && s.boot.evaluated

/-! ### Time triggers (R126) -/

/-- The instant on a policy's time scale: the RTC's UTC in ms for calendar triggers, span time in ns for TIME_ABS, in ms for
PERIODIC. -/
def trigNow (s : State) (r : Bytes) : Nat :=
  if rTrigger r = 2 ∨ rTrigger r = 3 then s.utcSec * 1000 else if rTrigger r = 1 then s.spanNs else s.spanNs / ms

/-- Firing instants of a calendar trigger, in UTC seconds, on a local or UTC day. -/
def dayFirings (s : State) (r : Bytes) (site : Nat) (day : Nat) : List Nat :=
  let p := rTp r
  if rTrigger r = 2 then
    let l : Int := (day * 86400 + fld p 0 2 * 60 + fld p 2 1 : Nat)
    let wd := (calOfSeconds (day * 86400)).weekday
    if !(fld p 3 1).testBit (wd - 1) then []
    else match localInstants s.rtc l with
      | [] => [(localToUtc s.rtc l).1.toNat]
      | t :: rest => if (fld p 4 1).testBit 0 then (t :: rest).map Int.toNat else [t.toNat]
  else
    let m := astroMinute s r site day
    if 0xFFFD ≤ m then [] else [day * 86400 + m * 60]

/-- The last firing in (lo, hi] on the trigger's scale, for a site. -/
def lastFiring (s : State) (r : Bytes) (site lo hi : Nat) : Option Nat :=
  let p := rTp r
  match rTrigger r with
  | 1 => match decTime (sub p 0 10) with
    | some t => if lo < stTotNs t ∧ stTotNs t ≤ hi then some (stTotNs t) else none
    | none => none
  | 4 =>
    let per := fld p 0 4
    let ph := fld p 4 4
    if per = 0 ∨ hi < ph then none
    else let t := (hi - ph) / per * per + ph; if lo < t then some t else none
  | 2 | 3 =>
    let d := hi / 86400000
    let days := (List.range 9).map (fun k => d + 1 - k)
    ((days.flatMap (dayFirings s r site)).map (· * 1000)).filter (fun t => lo < t && t ≤ hi) |>.max?
  | _ => none

/-- A time trigger comes due for a site between the instant considered last and the present one. PERIODIC fires only at an instant
that span time takes: one that a step passes over is none (R126). -/
def timeFires (s : State) (r : Bytes) (site lo hi : Nat) : Bool :=
  if rTrigger r = 4 then fld (rTp r) 0 4 ≠ 0 && hi % fld (rTp r) 0 4 == fld (rTp r) 4 4 && lo < hi
  else (lastFiring s r site lo hi).isSome

/-- Policies with a SCENE trigger of a scene applied now (R126). -/
def scenePolicies (scene : Nat) (s : State) : State :=
  if !trussRuns s then s
  else (s.truss.policies.map (·.2)).foldl (fun s p =>
    if rTrigger p.record = 8 ∧ fld (rTp p.record) 0 1 = scene ∧ validAt p s.spanNs then firePolicy p (fun _ => true) s else s) s

/-- The instants due on the local outputs, in order, each with the policies its scenes fire (R258, R259, R126). -/
def applyDueAll : Nat → State → State
  | 0, s => s
  | k + 1, s => match least (dueInstants s) with
    | none => s
    | some t =>
      let scenes := (s.lamp.launches.filter (fun l => l.applyNs == t)).map (·.scene)
      applyDueAll k (scenes.foldl (fun s x => scenePolicies x s) (applyInstant t s))

/-- What has come due on the local outputs falls before the claims that start or end now (R259). -/
def lampDue (s : State) : State := if s.deckUp then applyDueAll (dueInstants s).length s else s

/-- SPAN_POLICY_TRIGGER (R126): a time trigger's instant has come. ASTRO fires for the targets of each site at its own
instant. A backward step never fires TIME_ABS again; the others fire at the instants that come again, the present one among them.
Mark: DESIGN CHOICE (log entry 114). -/
def spanTrigger (pol : Nat) (s : State) : State :=
  match s.policy pol, spanFrag s pol with
  | some p, some f =>
    let r := p.record
    let hi := trigNow s r
    let lo := if hi < p.considered ∧ rTrigger r ≠ 1 then hi - 1 else p.considered
    if !trussRuns s ∨ ((rTrigger r = 2 ∨ rTrigger r = 3) ∧ !rtcOk s) ∨ rTrigger r = 0 ∨ 4 < rTrigger r ∨ hi < lo then s
    else
      let s' := s.modTruss (fun u => { u with policies := put u.policies pol { p with considered := hi } })
      if !validAt p s.spanNs then s'
      else if rTrigger r = 3 ∧ !scopeLocal r ∧ f.targets ≠ [] then
        let ts := f.targets.filter (fun t => timeFires s r t lo hi)
        if ts = [] then s' else firePolicy p ts.contains s'
      else if timeFires s r 0x1FFE lo hi then firePolicy p (fun _ => true) s' else s'
  | _, _ => s

def execSpanPolicyTrigger (policy : Nat) (s : State) : Res := .next (spanTrigger policy (lampDue s))

/-- CLAIM_HOLD_EXPIRY (R134): HOLD_RELEASE claims whose hold has run out. -/
def execClaimHoldExpiry (output policy : Nat) (s : State) : Res :=
  .next (if s.boot.phase = .firmware then
      let s := lampDue s
      endClaims [output] (fun c => c.policy == policy && (match c.until_ with | some t => t ≤ s.now | none => false)) s
    else s)

/-- R265: the 24-hour catch-up of R237 for SPAN fragments on the local outputs. -/
def catchUpPolicy (s : State) (p : Policy) : State :=
  let r := p.record
  let hi := trigNow s r
  if !scopeLocal r ∨ (spanFrag s (rId r)).isNone ∨ !validAt p s.spanNs ∨ !conditionsHold s r none
      ∨ ((rTrigger r = 2 ∨ rTrigger r = 3) ∧ !rtcOk s) then s
  else
    let unit := if rTrigger r = 1 then sec else 1000
    match lastFiring s r 0x1FFE (hi - 86400 * unit) hi with
    | none => s
    | some t =>
      let acts := rActions r
      let s := s.modTruss (fun u => { u with policies := put u.policies (rId r) { p with considered := hi } })
      (acts.zip (List.range acts.length)).foldl (fun s a =>
        if fld a.1 0 1 = 1 then claimLocal p a.2 a.1 ((hi - t) / unit) true s else s) s

/-- Firmware takes the contactors at a placement evaluation, unless keyless or without the lease (R324, Table 9.5). -/
def firmwareTakes (s : State) : State :=
  if s.keyless || !s.holder || s.fb.agent == .firmware then s
  else (takeControl .firmware s).modFb (fun f => { f with keepalive := some (s.now + s.live 0x0113 * ms) })

/-- An evaluation at once, while the span does not run (R141); firmware takes the contactors at it (Table 9.5). -/
def evaluateNow (s : State) : State := firmwareTakes (evaluatePlacement s)

/-- PLACEMENT_EVALUATION (R141): at the cycle start that asked for it, and the first one after start-up (Table 19.2 step 9), which
gives the local outputs their catch-up (R265). -/
def placementEvaluation (s : State) : State :=
  let first : Bool := !s.boot.evaluated && (match s.boot.firstEvalAt with | some t => decide (t ≤ s.now) | none => false)
  if !s.fwUp ∨ !(s.truss.evalNow || first) then s
  else
    let s := if s.holder then evaluatePlacement s else s.modTruss (fun u => { u with evalDue := false, evalNow := false })
    let s := firmwareTakes s
    if !first then s
    else
      let s := (s.modBoot (fun b => { b with evaluated := true, firstEvalAt := none })).modBist (fun b => { b with
        sweepFrom := some s.now })
      let s := if s.holder then (s.truss.policies.map (·.2)).foldl catchUpPolicy s else s
      autoStart (refreshLdEn (s.modLamp (fun l => { l with catchUp := true })))

def execPlacementEvaluation (s : State) : Res := .next (placementEvaluation s)

/-! ### Sensor events, subscriptions, meter conditions -/

/-- A reading crosses a threshold on an edge. Mark: DEDUCED (log entry 33): a node raises an event at a crossing, so a value
on the far side fires unless the last value known was there too; PRESENCE fires at every detection. -/
def crosses (sensor edge : Nat) (thr : Int) (prev : Option Int) (v : Int) : Bool :=
  let rise : Bool := thr ≤ v && (sensor == 1 || (match prev with | some q => decide (q < thr) | none => true))
  let fall : Bool := v < thr && (match prev with | some q => decide (thr ≤ q) | none => true)
  if edge = 1 then rise else if edge = 2 then fall else rise || fall

/-- A policy at SPAN consumes an event of a lantern (R126). -/
def sensorPolicy (n sensor heading : Nat) (prev : Option Int) (v : Int) (s : State) (p : Policy) : State :=
  let r := p.record
  let tp := rTp r
  let ts := scopeLanterns s r
  if !validAt p s.spanNs ∨ fld tp 0 1 ≠ sensor then s
  else if rTrigger r = 5 then
    if !crosses sensor (fld tp 8 1) (toS 32 (fld tp 4 4)) prev v then s
    else if fld tp 1 1 = 1 then firePolicy p (· == n) s
    else if (selected s (rScope r)).contains n then firePolicy p (fun _ => true) s else s
  else if rTrigger r = 6 then
    if ts.contains n && crosses sensor 1 (toS 32 (fld tp 4 4)) prev v then firePolicy p (fun t => inWindow r ts heading n t) s else s
  else s

/-- SENSOR_REPORT notices (R160): at most one per lantern and minimum interval of a subscription. The payload is free: the
spec lays none out (log entry 34). -/
def reportSubs (n sensor : Nat) (payload : Bytes) (s : State) : State :=
  let hit := s.truss.subs.filter (fun u => u.sensor == sensor && (reached s u.target).contains n
    && (match get? u.last n with | some t => decide (t + u.interval * sec ≤ s.now) | none => true))
  if hit = [] then s
  else
    let s := s.modTruss (fun t => { t with subs := t.subs.map (fun u => if hit.contains u then { u with last := put u.last n s.now } else u) })
    evL n evSensorReport (le 16 (Config.unstated 17 (leNat (le 2 n ++ payload)))) s

def sensorEvent (n : Nat) (payload : Bytes) (s : State) : State :=
  let sensor := fld payload 0 1
  let v := toS 32 (fld payload 4 4)
  let prev := get? s.truss.readings (32 * n + sensor)
  let s := s.modTruss (fun u => { u with readings := put u.readings (32 * n + sensor) v })
  let s := reportSubs n sensor payload s
  let s := lampDue s
  if trussRuns s then (s.truss.policies.map (·.2)).foldl (sensorPolicy n sensor (fld payload 1 1 % 4) prev v) s else s

/-- The close of a meter second: METER_CONDITION triggers at SPAN (R340). -/
def meterConditions (s : State) : State :=
  (s.truss.policies.filter (fun e => rTrigger e.2.record == 7 && (spanFrag s e.1).isSome)).foldl (fun s e =>
    let p := e.2
    let tp := rTp p.record
    match quantity s (fld tp 0 1) (fld tp 1 1) with
    | none => s
    | some v =>
      let on := onSide (fld tp 2 1) (toS 32 (fld tp 4 4)) v
      let need := max 1 ((fld tp 8 4 + 999) / 1000)
      let run := if on then p.meterRun + 1 else 0
      let fires : Bool := on && need ≤ run && !p.meterFired
      let p' := { p with meterRun := run, meterFired := on && (p.meterFired || fires) }
      let s := s.modTruss (fun u => { u with policies := put u.policies e.1 p' })
      if fires && trussRuns s && validAt p s.spanNs then firePolicy p' (fun _ => true) (lampDue s) else s) s

/-- LOCAL_APPLY_TIME (R250, R258, R263). -/
def execLocalApplyTime (s : State) : Res :=
  .next (lampDue s)

/-! ### Ends -/

/-- The claims of a policy end on the local outputs, and their ends are owed to the lanterns its SPAN fragment served until those
have answered (R134, R136). -/
def endPolicyClaims (pol : Nat) (s : State) : State :=
  let s := endClaims outputs (fun c => c.policy == pol) (lampDue s)
  match s.policy pol, s.truss.fragments.find? (fun f => f.policy == pol && f.tier == 3) with
  | some p, some f =>
    if scopeLocal p.record then s
    else
      let acts := rActions p.record
      let lamps := (acts.zip (List.range acts.length)).filter (fun a => fld a.1 0 1 == 1)
      let es := lamps.flatMap (fun a => f.targets.map (fun n => (n, claimBytes s p a.2 a.1 1 0)))
      pushEnds none (s.modTruss (fun u => { u with ends := u.ends ++ es.filter (fun e => !u.ends.contains e) }))
  | _, _ => s

/-- POLICY_VALIDITY_END (Table 4.10): the sites drop their fragments themselves; the slots are freed at the next evaluation. -/
def execPolicyValidityEnd (policy : Nat) (s : State) : Res :=
  .next (match s.policy policy with
    | none => s
    | some p =>
      match validUntil p.record with
      | none => s
      | some u =>
        if s.fwUp && s.holder && u ≤ s.spanNs && s.truss.fragments.any (fun f => f.policy == policy) then
          let s := endPolicyClaims policy s
          let s := s.modTruss (fun t => { t with
            evalDue := true,
            fragments := t.fragments.map (fun f => if f.policy = policy ∧ f.tier = 3 then { f with state := 7 } else f) })
          if s.mac.running then s else evaluateNow s
        else s)

/-- PLACEMENT_HOLD_END (R145). -/
def execPlacementHoldEnd (s : State) : Res :=
  .next (match s.truss.hold with
    | some (t, _) => if t ≤ s.now then s.modTruss (fun u => { u with hold := none }) else s
    | none => s)

/-- SUBSCRIPTION_EXPIRY (R160). -/
def execSubscriptionExpiry (number : Nat) (s : State) : Res :=
  .next (let live : Bool := s.truss.subs.any (fun u => u.number == number && (match u.until_ with | some t => decide (t ≤ s.now) | none => false))
    if s.fwUp && live then
      syncHeads (s.modTruss (fun t => { t with subs := t.subs.filter (fun u => u.number != number) }))
    else s)

/-- The day tables of a policy's fragments at a site are those of a day, which a transaction brings (R146). -/
def refreshTables (s : State) (policy site day id : Nat) (u : TrussSt) : TrussSt :=
  let u : TrussSt := { u with fragments := u.fragments.map (fun f =>
    if f.policy = policy ∧ f.site = site ∧ f.tier < 3 ∧ f.state ≠ 7 ∧ f.push.isNone then
      { f with tableDay := day, push := some id, content := crc32c (fragContent s f day) }
    else f) }
  { u with piers := u.piers.map (fun p =>
      if p.head = site then { p with entries := p.entries.map (fun e =>
        if e.policy = policy ∧ !e.gone ∧ e.push.isNone then
          { e with tableDay := day, push := some id, content := crc32c (entryContent s p e day) }
        else e) }
      else p) }

/-- DAY_TABLE_REFRESH (R146): daily, from (site index mod 600) seconds after midnight UTC. A refresh is not a move. -/
def execDayTableRefresh (policy site : Nat) (s : State) : Res :=
  .next (match s.policy policy with
    | some p =>
      let day := s.utcSec / 86400
      let r := p.record
      let stale := (s.truss.fragments.filter (fun f => f.policy == policy && f.site == site && f.tier < 3 && f.state != 7)).map
          (fun f => (f.version, f.tableDay))
        ++ (s.truss.piers.filter (fun q => q.head == site)).flatMap (fun q =>
          (q.entries.filter (fun e => e.policy == policy && !e.gone)).map (fun e => (e.version, e.tableDay)))
      match stale.find? (fun x => Nat.blt x.2 day) with
      | some (v, _) =>
        if trussRuns s && reachable s site && (rTrigger r == 3 || needsLocal r) && site % 600 ≤ s.utcSec % 86400 then
          sendOwn site 0x0203 (le 4 policy ++ le 2 v ++ zeros 2 ++ dayTables s r site day)
            (s.modTruss (refreshTables s policy site day s.mac.nextTxn))
        else s
      | none => s
    | none => s)

/-! ### The commands (R154 to R160) -/

/-- An evaluation is asked for: at the next cycle start, or at once while the span does not run (R141). -/
def askEvaluation (s : State) : State :=
  if s.mac.running then s.modTruss (fun u => { u with evalDue := true }) else evaluateNow s

/-- The policy that a record makes: of the version after the old one's, and pinned as the old one is (R125, R144). -/
def loadedPolicy (r : Bytes) (old : Option Policy) (s : State) : Policy :=
  let was : Nat × Nat := match old with | some p => (if p.version = 65535 then 1 else p.version + 1, p.pin) | none => (1, 0)
  { record := r, version := was.1, pin := was.2, acceptedNs := s.spanNs, unplaced := [], considered := trigNow s r, meterRun := 0,
    meterFired := false }

/-- POLICY_LOAD (R125, R154). A queued move of the policy is abandoned (R152); a VIADUCT policy completes at once. -/
def policyLoad (c : LiveCmd) (s : State) : State :=
  let r := c.params.drop 4
  let repl := (fld c.params 0 1).testBit 0
  let id := rId r
  if 1 < fld c.params 0 1 ∨ !zeroAt c.params 1 3 then fail c stBadParam dReservedBit s
  else if fld r 41 1 ≤ 8 ∧ fld r 42 1 ≤ 8 ∧ r.length ≠ 60 + 16 * (fld r 41 1 + fld r 42 1) then fail c stBadLength dLengthOpcode s
  else match recordRefusal s r with
    | some (st, d) => fail c st d s
    | none =>
      let old := s.policy id
      if repl ∧ old.isNone then fail c stBadParam 0x89 s
      else if !repl ∧ old.isSome then fail c stBusy 0x80 s
      else if old.isNone ∧ 1024 ≤ s.truss.policies.length then fail c stBusy 0x81 s
      else
        let p := loadedPolicy r old s
        let s := dropPushes id s
        let s := s.modTruss (fun u => { u with
          policies := put u.policies id p, subs := u.subs.filter (fun x => x.policy != some id),
          kept := u.kept.filter (fun k => k.2.1 != id) })
        if homeTier s r = 4 then
          let s := s.modTruss (fun u => { u with fragments := settleEmpty s (settlePolicy s u.fragments p) })
          let s := syncHeads (viaductSub r (ev evPolicyForward (le 4 id ++ le 2 p.version ++ zeros 10) s))
          askEvaluation (complete c stOk dNone (placementReply id (!s.mac.running) s) s)
        else askEvaluation (waitFor c (.placement id) [id] s)

def execPolicyLoad (sid tag : Nat) (s : State) : Res := .next (runCmd 0x0401 sid tag policyLoad s)

/-- A policy is removed: its fragments go into withdrawal, those of the module vanish (R155, Table 4.10). -/
def removePolicy (id : Nat) (s : State) : State :=
  let s := dropPushes id (endPolicyClaims id s)
  s.modTruss (fun u => { u with
    policies := del u.policies id, subs := u.subs.filter (fun x => x.policy != some id),
    fragments := (u.fragments.filter (fun f => !(f.policy == id && (3 ≤ f.tier || f.state == 6)))).map (fun f =>
      if f.policy = id ∧ f.state ≠ 7 then { f with state := 7, push := none, owed := f.state == 3 } else f) })

/-- POLICY_REMOVE (R155). -/
def policyRemove (c : LiveCmd) (s : State) : State :=
  let id := fld c.params 0 4
  let ids := if id = 0xFFFFFFFF then s.truss.policies.map (·.1) else [id]
  if id ≠ 0xFFFFFFFF ∧ (s.policy id).isNone then fail c stBadParam 0x89 s
  else
    let n := (s.truss.fragments.filter (fun f => ids.contains f.policy && f.tier < 3 && f.state != 7 && f.state != 6)).length
    let s := ids.foldl (fun s i => removePolicy i s) s
    let s := (s.host.live.filter (fun x => x.begun && isPlacement x.wait && ids.contains (wk x 0))).foldl (fun s x =>
      fail x stCancelled dNone s) s
    let s := s.modHost (fun h => { h with late := h.late.filter (fun r => !(ids.any (fun i => r.wait == .placement i))) })
    complete c stOk dNone (le 2 ids.length ++ zeros 2 ++ le 4 n) (askEvaluation s)

def execPolicyRemove (sid tag : Nat) (s : State) : Res := .next (runCmd 0x0402 sid tag policyRemove s)

/-- POLICY_LIST (R156, Table 4.13). -/
def policyList (c : LiveCmd) (s : State) : State :=
  let q := c.params
  let max_ := fld q 4 1
  if max_ = 0 ∨ 200 < max_ then fail c stBadParam dNone s
  else if !zeroAt q 5 3 then fail c stBadParam dReservedBit s
  else
    let all := s.truss.policies.filter (fun e => fld q 0 4 ≤ e.1)
    let es := all.take max_
    let entry (e : Nat × Policy) : Bytes :=
      let b := placementReply e.1 false s
      le 4 e.1 ++ le 2 e.2.version ++ [byte (rPriority e.2.record), byte (fld e.2.record 6 1), byte (rTrigger e.2.record), byte (fld b 6 1)]
        ++ sub b 8 8 ++ [byte e.2.pin, 0]
    complete c stOk dNone (le 2 s.truss.policies.length ++ le 2 es.length ++ le 4 (match all.drop max_ with | e :: _ => e.1 | [] => 0)
      ++ es.flatMap entry) s

def execPolicyList (sid tag : Nat) (s : State) : Res := .next (runCmd 0x0403 sid tag policyList s)

/-- Bank use and contents codes of PLACEMENT_READ mode 5. -/
def bankCode (u : BankUse) : Nat := match u with | .inUse => 0 | .spare => 1 | .underTest => 2 | .retired => 3

def stateByte (f : Fragment) : Byte := byte (f.state + 128 * b2n f.unmet)

/-- The entries of unplaced targets, which no fragment serves (R130, R157): tier, site, policy and version. Mark: DESIGN CHOICE
(log entry 115): the home tier, and the target as the site. -/
def unplacedEntries (s : State) : List (Nat × Nat × Policy) :=
  s.truss.policies.flatMap (fun e =>
    (e.2.unplaced.filter (fun t => (fragOf s.truss.fragments e.1 t).isNone)).map (fun t => (homeTier s e.2.record, t, e.2)))

/-- Entries of a PLACEMENT_READ mode, each with its key (Table 4.14). -/
def placementEntries (s : State) (mode key policy : Nat) : List (Nat × Bytes) :=
  match mode with
  | 1 =>
    let placed := (s.truss.fragments.filter (fun f => f.policy == policy && key ≤ f.site)).map (fun f =>
      (f.site, [byte f.tier, stateByte f] ++ le 2 f.site ++ le 2 f.version ++ le 4 f.moveCycle ++ le 2 f.targets.length))
    let not_ := ((unplacedEntries s).filter (fun x => rId x.2.2.record == policy && key ≤ x.2.1)).map (fun x =>
      (x.2.1, [byte x.1, 5] ++ le 2 x.2.1 ++ le 2 x.2.2.version ++ le 4 0 ++ le 2 1))
    sortBy (fun a b => decide (a.1 ≤ b.1)) (placed ++ not_)
  | 2 =>
    let placed := (s.truss.fragments.filter (fun f => (match s.policy f.policy with | some p => !scopeLocal p.record | none => true)
        && f.targets.contains key || (f.tier == 1 && f.site == key))).map (fun f =>
      (f.policy, le 4 f.policy ++ [byte f.tier, stateByte f] ++ le 2 f.site ++ le 2 f.version ++ zeros 2))
    let not_ := ((unplacedEntries s).filter (fun x => x.2.1 == key)).map (fun x =>
      (rId x.2.2.record, le 4 (rId x.2.2.record) ++ [byte x.1, 5] ++ le 2 x.2.1 ++ le 2 x.2.2.version ++ zeros 2))
    sortBy (fun a b => decide (a.1 ≤ b.1)) (placed ++ not_)
  | 3 => (s.truss.piers.filter (fun p => key ≤ p.head)).map (fun p =>
      (p.head, le 2 p.head ++ [byte p.members.length, byte (pierUsed s s.truss.fragments p.head)] ++ le 4 p.formed))
  | 4 => match s.truss.piers.find? (fun p => p.head == key) with
    | some p => p.members.map (fun n => (n, le 2 n))
    | none => []
  | _ => (s.bist.banks.zip (List.range s.bist.banks.length)).map (fun b => (b.2, [byte b.2, byte (bankCode b.1.1), byte b.1.2, 0]))

def placementLimit (mode : Nat) : Nat := match mode with | 1 => 300 | 2 => 64 | 3 => 512 | _ => 32

/-- PLACEMENT_READ (R157). -/
def placementRead (c : LiveCmd) (s : State) : State :=
  let q := c.params
  let mode := fld q 0 1
  let key := fld q 2 2
  let pol := fld q 4 4
  if mode = 0 ∨ 5 < mode then fail c stBadParam dNone s
  else if !zeroAt q 1 1 ∨ (mode ≠ 1 ∧ pol ≠ 0) ∨ (mode = 5 ∧ key ≠ 0) then fail c stBadParam dReservedBit s
  else
    let es := placementEntries s mode key pol
    let k := placementLimit mode
    complete c stOk dNone ([byte mode, 0] ++ le 2 (es.take k).length
      ++ le 4 (match es.drop k with | e :: _ => e.1 | [] => 0xFFFFFFFF) ++ (es.take k).flatMap (·.2)) s

def execPlacementRead (sid tag : Nat) (s : State) : Res := .next (runCmd 0x0404 sid tag placementRead s)

/-- PLACEMENT_PIN (R144, R158). -/
def placementPin (c : LiveCmd) (s : State) : State :=
  let q := c.params
  let id := fld q 0 4
  let tier := fld q 4 1
  if 4 < tier then fail c stBadParam dNone s
  else if !zeroAt q 5 3 then fail c stBadParam dReservedBit s
  else match s.policy id with
    | none => fail c stBadParam 0x89 s
    | some p =>
      if tier ≠ 0 ∧ tier < homeTier s p.record then fail c stBadParam 0x80 s
      else if 3 ≤ tier ∧ rSurvive p.record then fail c stBadParam 0x81 s
      else askEvaluation (waitFor c (.placement id) [id]
        (s.modTruss (fun u => { u with policies := put u.policies id { p with pin := tier } })))

def execPlacementPin (sid tag : Nat) (s : State) : Res := .next (runCmd 0x0405 sid tag placementPin s)

/-- PLACEMENT_HOLD (R145, R159). The cycle at which the hold ends is the one running then, 0 while the span does not run: DESIGN
CHOICE (log entry 111). A pier whose head is SILENT in a hold loses its fragments at once (Table 4.10). -/
def placementHold (c : LiveCmd) (s : State) : State :=
  let d := fld c.params 0 4
  if 86400 < d then fail c stOutOfRange dNone s
  else
    let endCycle := if s.mac.running then (s.spanNs + d * sec - s.mac.epoch) / sec else 0
    let silent (n : Nat) : Bool := match s.lan n with | some l => l.silent | none => false
    let s := s.modTruss (fun u => { u with
      hold := if d = 0 then none else some (s.now + d * sec, endCycle),
      fragments := if d = 0 then u.fragments else loseSite silent u.fragments })
    complete c stOk dNone (le 4 (if d = 0 then 0 else endCycle) ++ le 4 s.truss.kept.length) s

def execPlacementHold (sid tag : Nat) (s : State) : Res := .next (runCmd 0x0406 sid tag placementHold s)

/-- SENSOR_SUBSCRIBE (R160). -/
def sensorSubscribe (c : LiveCmd) (s : State) : State :=
  let q := c.params
  let sensor := fld q 0 1
  let unsub := (fld q 1 1).testBit 0
  let interval := fld q 2 2
  let dur := fld q 4 4
  let covered := (reached s c.target).length
  if singleBad s c.target then fail c stBadParam dTargetField s
  else if 1 < fld q 1 1 then fail c stBadParam dReservedBit s
  else if sensor = 0 ∨ 16 < sensor then fail c stBadParam dNone s
  else if 3600 < interval ∨ 604800 < dur then fail c stOutOfRange dNone s
  else
    let mine (u : Subscription) : Bool := u.target == c.target && u.sensor == sensor && u.policy.isNone
    if unsub then
      match s.truss.subs.find? mine with
      | none => fail c stBadParam 0x81 s
      | some u =>
        complete c stOk dNone ([byte u.number, 0] ++ le 2 covered)
          (syncHeads (s.modTruss (fun t => { t with subs := t.subs.filter (fun x => x.number != u.number) })))
    else if 64 ≤ s.truss.subs.length then fail c stBusy 0x80 s
    else
      let n := ((List.range 256).find? (fun k => !(s.truss.subs.any (fun u => u.number == k)))).getD 0
      let u : Subscription :=
        { number := n, target := c.target, sensor := sensor, interval := interval,
          until_ := if dur = 0 then none else some (s.now + dur * sec), last := [], policy := none }
      let s := syncHeads (s.modTruss (fun t => { t with subs := t.subs ++ [u] }))
      complete c stOk dNone ([byte n, 0] ++ le 2 covered) s

def execSensorSubscribe (sid tag : Nat) (s : State) : Res := .next (runCmd 0x0407 sid tag sensorSubscribe s)

end Sys2Proof.Machine
end

