-- ==== Sys2Proof/Machine/Mesh.lean ====
section
/-! DEFINITION. Commands of the span and the mesh (R197 to R207) and what each message from a lantern does (R179 to R186, R217 to
R241, Table 6.8). -/

namespace Sys2Proof.Machine

/-! ### The span (R197 to R199) -/

/-- SPAN_START (R197): it completes after the root beacon of cycle 0. -/
def spanStart (c : LiveCmd) (s : State) : State :=
  match spanRefusal s with
  | some (st, d) => fail c st d s
  | none => scheduleStart (secAtOrAfter s.spanNs) (waitFor c .spanStart [] s)

def execSpanStart (sid tag : Nat) (s : State) : Res := .next (runCmd 0x0301 sid tag spanStart s)

/-- The span is to end at the end of the current cycle; a start not yet made is withdrawn (R198). -/
def stopSpan (s : State) : State :=
  if s.mac.running then s.modMac (fun m => { m with stopping := true })
  else
    completeAll (fun c => c.begun && c.wait == .spanStart) stCancelled 0x80 []
      ((s.modMac (fun m => { m with startAt := none })).modHost (fun h => { h with late := h.late.filter (fun r => r.wait != .spanStart) }))

/-- SPAN_STOP (R198, R199). Mark: DEDUCED (log entry 36): on a stopped span it answers with the last cycle number held. -/
def spanStop (c : LiveCmd) (s : State) : State :=
  let s := s.modMac (fun m => { m with heldStopped := s.fb.cont.any id })
  if s.mac.running then stopSpan (waitFor c .spanStop [] s)
  else complete c stOk dNone (le 4 s.mac.cycle) (stopSpan s)

def execSpanStop (sid tag : Nat) (s : State) : Res := .next (runCmd 0x0302 sid tag spanStop s)

/-- SPAN_AUTO_STOP_TIMER (R199): 60 s after both contactors have opened. -/
def execSpanAutoStopTimer (s : State) : Res :=
  .next (match s.mac.openSince with
    | some t =>
      if t + 60 * sec ≤ s.now ∧ s.fwUp ∧ s.live 0x030A = 1 then stopSpan (s.modMac (fun m => { m with openSince := none })) else s
    | none => s)

/-! ### The lantern table (R200 to R202) -/

def lanStateCode (l : Lantern) : Nat := match l.state with | .expected => 1 | .joined => 2 | .lost => 3

/-- The reply of LANTERN_ADMIT. -/
def admitReply (s : State) (n : Nat) : Bytes :=
  match s.lan n with
  | some l => [byte (lanStateCode l), byte l.depthShown] ++ le 2 l.parent ++ le 4 (if l.depthShown = 0 then 0 else l.joinCycle)
  | none => zeros 8

/-- A new entry: nothing is known of the lantern before its join, and no route leads to it (R179, R200). -/
def newLantern (eui groups : Nat) (lat lon : Int) : Lantern :=
  { eui := eui, groups := groups, lat := lat, lon := lon, state := .expected, silent := false, adrift := false, routeless := true,
    parent := 0, depth := 0, port := 0xFF, rank := 0, drift := 0, contactNs := 0, contactCycle := 0, pdr := 0, h := 0,
    joinCycle := 0, descriptor := none, listens := 0, listenCycle := 0, portRun := 0, routelessCycles := 0, misses := 0, missCycle := 0, downSeq := 0,
    upHigh := none, upRecord := 0, joinResp := none, report := none, inventory := [], calibration := none, scenes := [] }

/-- LANTERN_ADMIT (R200, Table 5.12). -/
def lanternAdmit (c : LiveCmd) (s : State) : State :=
  let p := c.params
  let n := adLantern c.target
  let eui := fld p 0 8
  let groups := fld p 8 16
  let lat := toS 32 (fld p 24 4)
  let lon := toS 32 (fld p 28 4)
  let update := (fld p 32 1).testBit 0
  let old := s.lan n
  if 2 ^ 127 ≤ groups ∨ 3 < fld p 32 1 ∨ !zeroAt p 33 3 then fail c stBadParam dReservedBit s
  else if lat < -900000000 ∨ 900000000 < lat ∨ lon < -1800000000 ∨ 1800000000 < lon then fail c stOutOfRange dNone s
  else if update ∧ old.isNone then fail c stBadParam dTargetField s
  else if !update ∧ old.isSome then fail c stBusy 0x80 s
  else if s.mac.lanterns.any (fun e => e.1 != n && e.2.eui == eui) then fail c stBadParam 0x81 s
  else if !s.occupied n then fail c stBadParam 0x82 s
  else if update ∧ (match old with | some l => l.eui != eui | none => false) = true then fail c stBadParam 0x83 s
  else
    let s := match old with
      | some l =>
        let s := modLan n (fun l => { l with groups := groups, lat := lat, lon := lon }) s
        if l.groups ≠ groups ∧ l.state ≠ .expected ∧ (reached s c.target).contains n then sendOwn n 0x001C (le 16 groups) s else s
      | none => s.modMac (fun m => { m with lanterns := put m.lanterns n (newLantern eui groups lat lon), topoChanged := true })
    let joined : Bool := match s.lan n with | some l => l.state == .joined | none => false
    if (fld p 32 1).testBit 1 && !joined then waitFor c (.join n) [] s
    else complete c stOk dNone (admitReply s n) s

def execLanternAdmit (sid tag : Nat) (s : State) : Res := .next (runCmd 0x0303 sid tag lanternAdmit s)

/-- LANTERN_REMOVE (R201). Mark: DESIGN CHOICE (log entry 37): with NOTIFY, a lantern that cannot be reached
is removed at once. One without a reported channel is sent no frame (R15). -/
def lanternRemove (c : LiveCmd) (s : State) : State :=
  let p := c.params
  let n := adLantern c.target
  if singleBad s c.target then fail c stBadParam dTargetField s
  else if 1 < fld p 0 1 ∨ !zeroAt p 1 3 then fail c stBadParam dReservedBit s
  else if (fld p 0 1).testBit 0 && reachable s n && (reached s c.target).contains n then
    sendMsg (some c.seq) n 0x0013 true [1] c.deadline (waitFor c (.leave n) (meshWork 1 0) s)
  else complete c stOk dNone [] (removeLantern c.seq n s)

def execLanternRemove (sid tag : Nat) (s : State) : Res := .next (runCmd 0x0304 sid tag lanternRemove s)

/-- An entry of LANTERN_QUERY (Table 5.13). -/
def lanternEntry (s : State) (n : Nat) : Bytes :=
  match s.lan n with
  | none => []
  | some l =>
    let r := s.mac.region.getD []
    let held := if l.holds then min 8 (heldFor s n).length else 0
    let flags := b2n l.silent + 2 * b2n l.adrift + 4 * b2n l.routeless + 8 * b2n l.sleepy
      + 16 * b2n (s.truss.piers.any (fun p => p.head == n))
    le 2 n ++ [byte (lanStateCode l), byte flags] ++ le 8 l.eui ++ le 2 l.parent ++ [byte l.depthShown, byte l.port] ++ le 2 l.rank
      ++ [byte l.driftPpm, byte held] ++ le 4 l.contactCycle ++ [byte l.pdr, byte (if rgN r = 0 then 0 else rgHop r (n % rgN r))]
      ++ le 2 l.h ++ zeros 4

/-- The reply header of LANTERN_QUERY and TOPOLOGY_READ. -/
def pageHeader (k next : Nat) : Bytes := le 2 k ++ le 2 next ++ zeros 4

/-- LANTERN_QUERY (R202). LIVE asks for the lantern's capability descriptor, and waits for it (log entry 117). -/
def lanternQuery (c : LiveCmd) (s : State) : State :=
  let p := c.params
  let mode := fld p 0 1
  let start := fld p 2 2
  let most := fld p 4 2
  if singleBad s c.target then fail c stBadParam dTargetField s
  else if !zeroAt p 1 1 ∨ !zeroAt p 6 2 then fail c stBadParam dReservedBit s
  else if mode = 0 ∨ 2 < mode ∨ most = 0 ∨ 126 < most then fail c stBadParam dNone s
  else if mode = 2 then
    let n := adLantern c.target
    if 4096 ≤ n then fail c stBadParam 0x80 s
    else match s.lan n with
      | some _ =>
        if !(reached s c.target).contains n then complete c stOk dNone (pageHeader 1 0xFFFF ++ lanternEntry s n) s
        else sendMsg (some c.seq) n tyFetch true [] c.deadline (waitFor c (.descriptor n) [] s)
      | none => fail c stBadParam dTargetField s
  else
    let ns := (selected s c.target).filter (fun n => start ≤ n)
    let k := ns.take most
    complete c stOk dNone (pageHeader k.length ((ns.drop most).headD 0xFFFF) ++ k.flatMap (lanternEntry s)) s

def execLanternQuery (sid tag : Nat) (s : State) : Res := .next (runCmd 0x0305 sid tag lanternQuery s)

/-! ### Sending (R203, R205) -/

/-- LANTERN_SEND (R203): one message to each target that has channels (R15). -/
def lanternSend (c : LiveCmd) (s : State) : State :=
  let p := c.params
  let type := fld p 0 2
  let n := fld p 4 2
  if singleBad s c.target then fail c stBadParam dTargetField s
  else if 1 < fld p 2 1 ∨ !zeroAt p 3 1 ∨ !zeroAt p 6 2 then fail c stBadParam dReservedBit s
  else if type < 0x8000 ∨ type = 0xFFFF then fail c stBadParam 0x80 s
  else if n = 0 ∨ (match s.mac.region with | some _ => sendLimit (phyMode s) | none => 1024) < n ∨ p.length ≠ 8 + n then
    fail c stBadLength dLengthOpcode s
  else
    let ts := reached s c.target
    sendEach c (meshWork ts.length 0) (fun s =>
      ts.foldl (fun s m => sendMsg (some c.seq) m type ((fld p 2 1).testBit 0) (p.drop 8) c.deadline s) s) s

def execLanternSend (sid tag : Nat) (s : State) : Res := .next (runCmd 0x0306 sid tag lanternSend s)

/-- FLOOD_SEND (R205). -/
def floodSend (c : LiveCmd) (s : State) : State :=
  let p := c.params
  let type := fld p 0 2
  let n := fld p 4 2
  if !zeroAt p 6 2 then fail c stBadParam dReservedBit s
  else if type < 0x8000 ∨ 0xFFFD < type then fail c stBadParam 0x80 s
  else if 0x7F < fld p 2 1 then fail c stBadParam dNone s
  else if 31 < fld p 3 1 then fail c stOutOfRange dNone s
  else if n = 0 ∨ (match s.mac.region with | some _ => floodLimit (phyMode s) | none => 495) < n ∨ p.length ≠ 8 + n then
    fail c stBadLength dLengthOpcode s
  else
    let f : Flood :=
      { id := 0, owner := some c.seq, type := type, group := fld p 2 1, ttl := if fld p 3 1 = 0 then s.live 0x0306 else fld p 3 1,
        payload := p.drop 8, notBefore := if s.mac.running then asnNow s + 1 else 0, repeats := 0, applyNs := 0 }
    waitFor c .flood [] (queueFlood f s)

def execFloodSend (sid tag : Nat) (s : State) : Res := .next (runCmd 0x0308 sid tag floodSend s)

/-! ### Topology, profiles, dwell (R204, R206, R207) -/

/-- The hop before a lantern on its downward route. -/
def lastHop (s : State) (n : Nat) : Option Nat :=
  (get? s.mac.routes n).map (fun r => r.getLastD rootShort)

def topologyEntry (s : State) (l : Link) : Bytes :=
  le 2 l.lantern ++ le 2 l.neighbour
    ++ [byte (b2n l.parent + 2 * b2n (silentAt s l.neighbour) + 4 * b2n (lastHop s l.lantern == some l.neighbour)), byte l.pdr]
    ++ le 2 l.h ++ [byte l.history, byte (ofS 8 l.rssi), byte (match s.lan l.lantern with | some x => x.depthShown | none => 0), 0]

/-- TOPOLOGY_READ (R204). -/
def topologyRead (c : LiveCmd) (s : State) : State :=
  let p := c.params
  let most := fld p 2 2
  if 1 < fld p 4 1 ∨ !zeroAt p 5 3 then fail c stBadParam dReservedBit s
  else if most = 0 ∨ 300 < most then fail c stBadParam dNone s
  else
    let ls := sortBy (fun a b => a.lantern < b.lantern || (a.lantern == b.lantern && a.neighbour ≤ b.neighbour))
      (s.mac.links.filter (fun l => fld p 0 2 ≤ l.lantern && (!(fld p 4 1).testBit 0 || l.parent)))
    let k := ls.take most
    complete c stOk dNone (pageHeader k.length (match ls.drop most with | l :: _ => l.lantern | [] => 0xFFFF)
      ++ k.flatMap (topologyEntry s)) s

def execTopologyRead (sid tag : Nat) (s : State) : Res := .next (runCmd 0x0307 sid tag topologyRead s)

/-- REGION_PROFILE_LOAD (R169, R170, R206). -/
def regionLoad (c : LiveCmd) (s : State) : State :=
  if s.mac.running then fail c stBusy 0x80 s
  else match regionRefusal c.params with
    | some (st, d) => fail c st d s
    | none => complete c stOk dNone (c.params.drop (c.params.length - 4)) (s.modMac (fun m => { m with region := some c.params }))

def execRegionProfileLoad (sid tag : Nat) (s : State) : Res := .next (runCmd 0x0309 sid tag regionLoad s)

/-- A port is reset and its INIT run on a new profile (R206). -/
def loadPort (k : Nat) (p miso : Bytes) (s : State) : State × Bool :=
  let s := failAttempts k (modPort k (fun q => { q with profile := some p, failed := false, capture := [] }) s)
  let r := pulseInit k miso s
  (r.1, r.2.1)

/-- RADIO_PROFILE_LOAD (R194, R195, R206): the transceivers' answers during INIT come with the command. That BUSY is answered
before the reserved bits are tested is a DESIGN CHOICE (log entry 103). -/
def radioLoad (misoA misoB : Bytes) (c : LiveCmd) (s : State) : State :=
  let mask := fld c.params 0 1
  let p := c.params.drop 4
  if s.mac.running then fail c stBusy 0x80 s
  else if mask = 0 then fail c stBadParam dNone s
  else if 3 < mask ∨ !zeroAt c.params 1 3 then fail c stBadParam dReservedBit s
  else match radioRefusal p (s.mac.region.map (fun r => fld r 3 1)) with
    | some d => fail c stBadParam d s
    | none =>
      let a := if mask.testBit 0 then loadPort 0 p misoA s else (s, true)
      let b := if mask.testBit 1 then loadPort 1 p misoB a.1 else (a.1, true)
      if a.2 && b.2 then complete c stOk dNone (p.drop (p.length - 4) ++ [byte mask] ++ zeros 3) b.1
      else fail c stBadParam 0x85 (modPort 0 (fun q => { q with profile := (s.port 0).profile, failed := (s.port 0).failed })
        (modPort 1 (fun q => { q with profile := (s.port 1).profile, failed := (s.port 1).failed }) b.1))

def execRadioProfileLoad (sid tag : Nat) (misoA misoB : Bytes) (s : State) : Res :=
  .next (runCmd 0x030B sid tag (radioLoad misoA misoB) s)

/-- DWELL_STATUS (R207). -/
def dwellStatus (c : LiveCmd) (s : State) : State :=
  match s.mac.region with
  | none => complete c stOk dNone (zeros 8) s
  | some r =>
    let now := s.now / ms
    let chan (k : Nat) := [byte k, 0] ++ le 2 (min 65535 (airSum s (· == k) (fld r 8 4) now / 1000)) ++ le 2 (rgDwell r k)
      ++ le 2 (min 65535 (s.mac.suppressedCh.getD k 0))
    let band (b : Nat) := [byte b, 0] ++ le 2 (min 65535 (s.mac.suppressedSb.getD b 0))
      ++ le 4 (if fld r 12 4 = 0 then 0 else airSum s (fun c => rgBand r c == b) (fld r 12 4 * 1000) now / fld r 12 4)
    complete c stOk dNone ([byte (rgN r), byte (rgS r)] ++ zeros 6 ++ (List.range (rgN r)).flatMap chan
      ++ (List.range (rgS r)).flatMap band) s

def execDwellStatus (sid tag : Nat) (s : State) : Res := .next (runCmd 0x030A sid tag dwellStatus s)

/-! ### Messages -/

/-- Takes the first message of a type from an origin out of the inbox; firmware of the lease holder acts on it. -/
def withMsg (type origin : Nat) (f : InMsg → State → State) (s : State) : State :=
  match s.mac.inbox.find? (fun m => m.type == type && m.origin == origin) with
  | none => s
  | some m =>
    if !s.fwUp then s
    else f m (s.modMac (fun x => { x with inbox := x.inbox.eraseP (fun y => y.type == type && y.origin == origin) }))

/-- A message of a lantern that is still admitted. -/
def fromLantern (type n : Nat) (f : Lantern → InMsg → State → State) (s : State) : State :=
  withMsg type (shortOf n) (fun m s => match s.lan n with | some l => f l m s | none => s) s

/-! ### Joining (R179, R217, R222 to R224) -/

def joinRefused (eui reason proxy : Nat) (s : State) : State :=
  ev evJoinRefused (le 8 eui ++ [byte reason] ++ le 2 proxy ++ zeros 3) s

/-- The body of JOIN_RESPONSE (Table 6.5). -/
def joinBody (s : State) (n : Nat) (l : Lantern) (status : Nat) : Bytes :=
  if status ≠ 0 then le 2 0x0011 ++ [byte status] ++ zeros 61
  else
    le 2 0x0011 ++ [0, byte s.mac.phase] ++ fit 16 (netKey s s.mac.phase) ++ le 2 (shortOf n) ++ le 2 l.downSeq
      ++ encTime (ofNs s.mac.epoch) ++ le 8 s.rootEui ++ le 2 s.mac.windowPhase ++ le 2 s.mac.floodSeq ++ zeros 2 ++ le 16 l.groups

/-- The frames of a join response: link header and slices of P - 25 octets (R213, Table 6.1), each one operation under the
lantern's join key (R457). -/
def joinFrames (n eui last : Nat) : List Bytes → Nat → State → State × List Bytes
  | [], _, s => (s, [])
  | b :: bs, i, s =>
    match s.slotRec n with
    | none => (s, [])
    | some k =>
      let f := joinFrame s eui k.key (byte (16 * i + last) :: b)
      let s := (useKey n (useCounter 0 s)).modMac (fun m => { m with macSeq := (m.macSeq + 1) % 256 })
      let r := joinFrames n eui last bs (i + 1) s
      (r.1, f :: r.2)

/-- JOIN_RELAY payloads: frames without their FCS, each after its length, as many in each as a message holds (R213, R224). -/
def relayPayloads (s : State) (fs : List Bytes) : List Bytes :=
  (fs.foldl (fun (acc : List Bytes × Bytes) f =>
    let b := byte (f.length - 2) :: f.take (f.length - 2)
    if acc.2 ≠ [] ∧ 16 * fragSize s - 38 < acc.2.length + b.length then (acc.1 ++ [acc.2], b) else (acc.1, acc.2 ++ b)) ([], []))
    |> fun r => if r.2 = [] then r.1 else r.1 ++ [r.2]

/-- The response leaves by the proxy it came from, or by the root's own slots 98 and 99 (Table 6.6). -/
def sendJoinResponse (proxy port lan eui : Nat) (body : Bytes) (s : State) : State :=
  let size := maxPsdu (phyMode s) - 25
  let n := (body.length + size - 1) / size
  let r := joinFrames lan eui (n - 1) (chunks size n body) 0 s
  match lanOf proxy with
  | none => r.1.modMac (fun m => { m with joinTx := m.joinTx ++ r.2.map (fun f => (lan, port, f)) })
  | some m => (relayPayloads s r.2).foldl (fun s p => sendMsg none m 0x0012 false p (s.now + 60 * sec) s) r.1

/-- The ratio of a first-hop lantern's link with a root port in a cycle, in percent. Mark: DESIGN CHOICE (log entry 120): the spec
says neither how the module measures it nor over what, so it is free. -/
def portRatio (s : State) (n k : Nat) : Nat := Config.unstated 34 ((s.mac.cycle * 2 + k) * 4096 + n) % 101

/-- The root port of a first-hop lantern: of those the span uses, the one with the higher ratio, A on a tie (R168). -/
def firstPort (s : State) (n heard : Nat) : Nat :=
  let ok (k : Nat) : Bool := ownPort s k && !(s.port k).failed && (s.port k).profile.isSome
  if ok 0 && ok 1 then (if portRatio s n 0 < portRatio s n 1 then 1 else 0)
  else if ok 0 then 0 else if ok 1 then 1 else heard

/-- A verified join request, whole (Table 6.6 step 4, R179, R223). -/
def joinAccepted (proxy port at_ n : Nat) (l : Lantern) (s : State) : State :=
  let depth := match lanOf proxy with | some m => (match s.lan m with | some x => x.depth + 1 | none => 13) | none => 1
  if 12 < depth then sendJoinResponse proxy port n l.eui (joinBody s n l 1) (joinRefused l.eui 2 proxy s)
  else
    let b := match l.joinResp with | some b => b | none => joinBody s n l 0
    let s := modLan n (fun l => { l with
      joinResp := some b, parent := proxy, depth := depth, port := if proxy = rootShort then firstPort s n port else 0xFF, portRun := 0,
      upHigh := none, upRecord := 0, contactNs := at_, contactCycle := s.mac.cycle }) s
    sendJoinResponse proxy port n l.eui b (s.modMac (fun m => { m with topoChanged := true }))

/-- A join request frame reaches the module: PSDU without FCS. It is verified under the join key of the lantern with its source
EUI-64; the slices of one message are put together (R213). -/
def joinRequest (proxy port at_ : Nat) (psdu : Bytes) (s : State) : State :=
  let eui := (joinSource psdu).1
  let sec_ := (joinSource psdu).2
  let ctr := fld psdu (sec_ + 1) 4
  match s.mac.lanterns.find? (fun e => e.2.eui == eui) with
  | none => joinRefused eui 1 proxy s
  | some (n, l) =>
    match s.slotRec n with
    | none => joinRefused eui 4 proxy s
    | some r =>
      let s := useKey n s
      match ccmOpen r.key (nonceOf eui ctr 5) (psdu.take (sec_ + 5)) (psdu.drop (sec_ + 5)) 4 with
      | none => joinRefused eui 3 proxy (securityDrop s)
      | some body =>
        if !counterOk s (2 ^ 32 + eui) ctr ∨ fld psdu sec_ 1 ≠ 0x05 then joinRefused eui 3 proxy (securityDrop s)
        else
          let r' := reassemble s.mac.reasm (2 ^ 32 + eui) s.mac.cycle body
          let s := acceptCounter (2 ^ 32 + eui) ctr (s.modMac (fun m => { m with reasm := r'.1 }))
          match r'.2 with
          | none => s
          | some m =>
            if fld m 0 2 ≠ 0x0010 then joinRefused eui 3 proxy (securityDrop s) else joinAccepted proxy port at_ n l s

/-- JOIN_REQUEST: one the root received directly. -/
def execJoinRequest (eui : Nat) (s : State) : Res :=
  .next (withMsg 0x0010 eui (fun m s => if s.holder && s.mac.running then joinRequest rootShort m.port m.at_ m.payload s else s) s)

/-- The PSDUs of a JOIN_RELAY, each preceded by its length (Table 6.8). -/
def relayed : Nat → Bytes → List Bytes
  | 0, _ => []
  | _, [] => []
  | k + 1, n :: b => b.take n.toNat :: relayed k (b.drop n.toNat)

/-- JOIN_RELAY from a lantern proxy (R224). -/
def execJoinRelay (proxy : Nat) (s : State) : Res :=
  .next (fromLantern 0x0012 proxy (fun _ m s =>
    (relayed m.payload.length m.payload).foldl (fun s p => joinRequest (shortOf proxy) m.port m.at_ p s) s) s)

/-! ### Configuration messages -/

/-- KEY_UPDATE to a lantern (Table 6.8). -/
def sendKey (phase asn n : Nat) (s : State) : State :=
  sendOwn n 0x0014 ([byte phase] ++ zeros 3 ++ fit 16 (netKey s phase) ++ le 5 asn ++ zeros 3) s

/-- After a join, the scenes that the lantern lacks, those it holds in another version, though it be with no entry of its own, and
the deletion of those that are no more (R260). -/
def pushScenes (n : Nat) (s : State) : State :=
  let held := match s.lan n with | some l => l.scenes | none => []
  let due := s.lamp.scenes.filter (fun x => match get? held x.1 with
    | some v => v != x.2.version
    | none => (sceneLanterns s x.2).contains n)
  let gone := held.filter (fun x => (get? s.lamp.scenes x.1).isNone)
  due.foldl (fun s x => sendOwn n 0x0102 (sceneStore x.1 x.2 n s) s)
    (gone.foldl (fun s x => sendOwn n 0x0102 [byte x.1, 1, 0, 0] s) s)

/-- After a join: schedule, a key update under way (R217), calibration, period grid, scenes it lacks, then the truss's pushes, PIER_CONFIG and watches among them (Table 6.6, R249, R260, R271). -/
def welcome (n : Nat) (s : State) : State :=
  let s := sendSchedule n s
  let s := match s.mac.keyUpdate with | some (phase, asn) => sendKey phase asn n s | none => s
  let s := match s.lan n with
    | some l => (match l.calibration with | some b => sendOwn n 0x0104 b s | none => s)
    | none => s
  let s := sendOwn n 0x0105 (phaseEpoch s) s
  let s := pushScenes n s
  pushAll (some n) (s.modTruss (fun u => { u with configs := del u.configs n, watches := u.watches.filter (fun w => w.1 != n) }))

/-- CAPABILITY (R231, R179): the join completes with the first one after it; a changed descriptor is a placement trigger. -/
def capability (n : Nat) (l : Lantern) (m : InMsg) (s : State) : State :=
  let d := m.payload.take 32
  let joins : Bool := l.state == .expected || l.joinResp.isSome
  let s := modLan n (fun l => { l with
    descriptor := some d, state := .joined, joinResp := none, joinCycle := if joins then s.mac.cycle else l.joinCycle,
    drift := fld d 20 1 }) s
  let s := expectJoined s
  let s := if l.descriptor != some d then
      s.modTruss (fun u => { u with kept := if u.kept.contains (n, 0, 0) then u.kept else u.kept ++ [(n, 0, 0)] }) else s
  let s := if joins then
      let s := reschedule (some n) (newRoutes s)
      let s := completeAll (fun c => c.begun && c.wait == .join n) stOk dNone (admitReply s n) s
      welcome n (lateSuccess (fun r => r.wait == .join n) stOk s)
    else s
  let s := (s.host.live.filter (fun c => c.begun && c.wait == .descriptor n)).foldl (fun s c =>
    complete c stOk dNone (pageHeader 1 0xFFFF ++ lanternEntry s n ++ fit 32 d) s) s
  let s := lateSuccess (fun r => r.wait == .descriptor n) stOk s
  rolloutCapability n s

def execCapability (lantern : Nat) (s : State) : Res := .next (fromLantern 0x0015 lantern (capability lantern) s)

/-- CONFIG_REQUEST is answered with SCHEDULE (R219). -/
def execConfigRequest (lantern : Nat) (s : State) : Res := .next (fromLantern 0x0016 lantern (fun _ _ s => sendSchedule lantern s) s)

/-- RESYNC (R182, R230): its reception has renewed the contact; it is answered DONE. -/
def execResync (lantern : Nat) (s : State) : Res :=
  .next (fromLantern 0x0018 lantern (fun _ m s =>
    let s := modLan lantern (fun l => { l with adrift := false, listens := 0 }) s
    if m.confirmed then respond lantern m.seq 0 m.retries s else s) s)

/-! ### Topology messages -/

/-- One entry of NEIGHBOUR_REPORT (Table 6.8). Mark: DEDUCED (log entry 39): a link's history is the reporter's cycles since its
join, up to 64. -/
def neighbourLink (n history : Nat) (e : Bytes) : Link :=
  { lantern := n, neighbour := fld e 0 2, pdr := fld e 2 1, h := fld e 4 2, history := history, rssi := toS 8 (fld e 3 1),
    parent := (fld e 6 1).testBit 0, guard := fld e 7 1 }

/-- NEIGHBOUR_REPORT (R189, R230): links, parent, rank and depth of the reporter. -/
def neighbourReport (n : Nat) (l : Lantern) (m : InMsg) (s : State) : State :=
  let p := m.payload
  let es := (List.range (fld p 0 1)).map (fun i => neighbourLink n (min 64 (s.mac.cycle - l.joinCycle)) (sub p (2 + 8 * i) 8))
  let s := s.modMac (fun x => { x with
    links := sortBy (fun a b => decide (a.lantern ≤ b.lantern)) ((x.links.filter (fun k => k.lantern != n)) ++ es), topoChanged := true })
  match es.find? (·.parent) with
  | none => s
  | some e =>
    let up := match lanOf e.neighbour with | some k => s.lan k | none => none
    let cost := if e.pdr = 0 then 0 else 25600 / e.pdr
    modLan n (fun l => { l with
      parent := e.neighbour, pdr := e.pdr, h := e.h, rank := (match up with | some u => u.rank | none => 0) + cost,
      depth := (match up with | some u => u.depth | none => 0) + 1,
      port := if e.neighbour = rootShort then (if l.port = 0xFF then firstPort s n m.port else l.port) else 0xFF }) s

def execNeighbourReport (lantern : Nat) (s : State) : Res := .next (fromLantern 0x0019 lantern (neighbourReport lantern) s)

/-- R184: SILENT clears, with the notice that marks the clearing; the mark is free (log entry 40). -/
def clearSilent (n : Nat) (s : State) : State :=
  match s.lan n with
  | some l =>
    let s := modLan n (fun l => { l with silent := false, misses := 0 }) s
    if l.silent then
      evL n evLanternSilent (le 14 (Config.unstated 6 (2 * n + 1)))
        (s.modTruss (fun u => { u with silentSince := del u.silentSince n }) |>.modMac (fun m => { m with topoChanged := true }))
    else s
  | none => s

/-- A beacon of a lantern was missed in a cycle. -/
def missBeacon (n cyc : Nat) (s : State) : State :=
  modLan n (fun l => { l with
    misses := if l.missCycle = cyc ∧ l.misses ≠ 0 then l.misses else if l.missCycle + 1 = cyc then l.misses + 1 else 1,
    missCycle := cyc }) s

/-- BEACON_MISS (R184, R230): the children named missed theirs; the sender's other children were heard. -/
def beaconMiss (n : Nat) (m : InMsg) (s : State) : State :=
  let p := m.payload
  let cyc := fld p 0 4
  let named := (List.range (fld p 4 1)).filterMap (fun i => lanOf (fld p (6 + 2 * i) 2))
  let others := (s.mac.lanterns.filter (fun e => e.2.parent == shortOf n && !named.contains e.1)).map (·.1)
  others.foldl (fun s k => clearSilent k s) (named.foldl (fun s k => missBeacon k cyc s) s)

def execBeaconMiss (lantern : Nat) (s : State) : Res :=
  .next (fromLantern 0x001A lantern (fun _ m s => beaconMiss lantern m s) s)

/-- PIER_HEAD_SILENT (R184): three consecutive misses of a pier head. In a hold its pier's fragments are SITE_LOST at once
(Table 4.10). -/
def execPierHeadSilent (lantern : Nat) (s : State) : Res :=
  .next (match s.lan lantern with
    | none => s
    | some l =>
      if s.fwUp && s.holder && s.mac.running && s.truss.piers.any (fun p => p.head == lantern) && 3 ≤ l.misses && !l.silent then
        let s := modLan lantern (fun l => { l with silent := true }) s
        let s := s.modMac (fun m => { m with topoChanged := true })
        evL lantern evLanternSilent (le 14 (Config.unstated 6 (2 * lantern)))
          (s.modTruss (fun u => { u with
            silentSince := put u.silentSince lantern s.now,
            fragments := if holdOn s then loseSite (· == lantern) u.fragments else u.fragments }))
      else s)

/-! ### Beacons (R184 to R186, R220) -/

/-- What a beacon on port B tells of its sender: the offset of its channel among those of its slot (R222), and where the slot numbers
of its span begin on the module's span clock (R220). The ratio of the link is as measured: free (log entry 41). -/
def annexCand (s : State) (m : InMsg) : AnnexCand :=
  let b := m.payload
  let r := s.mac.region.getD []
  let asn := fld b 0 5
  { src := m.src, rank := fld b 10 2, depth := bits (fld b 9 1) 3 0, pan := m.seq, open_ := (fld b 9 1).testBit 6,
    offset := ((List.range (rgN r)).find? (fun o => rgHop r (asn + o) == m.retries)).getD 0,
    pdr := Config.unstated 29 s.freeIdx % 101,
    base := ((m.at_ : Int) - toS 32 (fld b 5 4)).toNat - (asn * 10 * ms + 800 * us + tShr s) }

/-- A parent beacon is a measurement of ANNEX_PARENT (R185, R220, R221); another configuration version asks for SCHEDULE (R219). -/
def parentBeacon (m : InMsg) (n : AnnexNet) (s : State) : State :=
  let b := m.payload
  let asn := fld b 0 5
  let corr := toS 32 (fld b 5 4)
  let st := fld b 9 1
  let s := modNet (fun n => { n with beacon := some (asn, corr, m.at_, st.testBit 5, st.testBit 6) }) s
  let s := modSource 4 (fun y => { y with count := y.count + 1, last := s.now }) s
  let s := if 4 ≤ (s.source 4).count then qualify 4 s else s
  let s := measure 4 (((n.epoch + asn * 10 * ms + 800 * us + tShr s : Nat) : Int) + corr - m.at_) s
  if fld b 12 1 = n.conf ∨ s.mac.annex.tx.any (fun t => fld t.message 0 2 == 0x0016) then s
  else annexSend 0x0016 false false [] s

/-- A candidate under scan: the first with JOIN_OPEN begins the 4 cycles of R222. -/
def annexHeard (c : AnnexCand) (s : State) : State :=
  modAnnex (fun a => { a with
    joinFrom := if c.open_ && a.joinFrom.isNone then some (s.spanNs / sec) else a.joinFrom,
    candidates := (a.candidates.filter (fun x => !(x.src == c.src && x.pan == c.pan))) ++ [c] }) s

/-- The beacon of the parent of an annexed module. -/
def annexParentBeacon (c : AnnexCand) (m : InMsg) (s : State) : State :=
  let s := modAnnex (fun a => { a with misses := 0, parent := some c }) s
  match s.mac.annex.net with
  | some n => parentBeacon m n s
  | none => s

/-- A neighbour becomes the parent: what waits for the old one goes to it, and a report tells the root (R189, R230). -/
def annexReparent (old : Nat) (c : AnnexCand) (m : InMsg) (s : State) : State :=
  let s := modAnnex (fun a => { a with
    parent := some c, contactAt := m.at_, tx := a.tx.map (fun t => if t.dst = old then { t with dst := c.src } else t) }) s
  annexReport (annexParentBeacon c m s)

/-- A beacon on port B in ANNEX role: a candidate's while the module has no parent; the parent's; a child's; or that of a neighbour,
which becomes the parent if it gives a rank lower by more than ROUTE_HYST (R189). -/
def annexBeacon (m : InMsg) (s0 : State) : State :=
  let c := annexCand s0 m
  let s := s0.draw
  match s.mac.annex.parent with
  | none => annexHeard c s
  | some p =>
    if p.src = c.src then annexParentBeacon c m s
    else if (annexChild s c.src).isSome then modAnnex (fun a => { a with heard := insertSet a.heard c.src }) s
    else if s.mac.annex.net.isSome && parentOk s c && decide (c.rank + linkCost c.pdr + s.live 0x0308 < p.rank + linkCost p.pdr) then
      annexReparent p.src c m s
    else s

/-- BEACON_RECEIVED: a beacon that passed its verification, by its sender. -/
def beaconReceived (m : InMsg) (s : State) : State :=
  if s.live 0x0302 = 1 && m.port = 1 then annexBeacon m s
  else
    let s := s.modMac (fun x => { x with heard := insertSet x.heard m.src })
    if m.src = rootShort then
      let locked := !(fld m.payload 9 1).testBit 5
      let s := s.modMac (fun x => { x with holderMisses := 0, holderLocked := locked })
      if locked then s else loseSource 5 s
    else match lanOf m.src with
      | none => s
      | some n => clearSilent n (modLan n (fun l => { l with rank := fld m.payload 10 2, depth := bits (fld m.payload 9 1) 3 0 }) s)

def execBeaconReceived (src : Nat) (s : State) : Res := .next (withMsg 0 src beaconReceived s)

/-- ANNEX_PARENT_LOST (R185): a cycle's end in ANNEX role, with or without the parent's beacon; the third miss loses the parent. -/
def execAnnexParentLost (heard : Bool) (s : State) : Res :=
  .next (let a := s.mac.annex
    if !s.fwUp ∨ s.live 0x0302 ≠ 1 ∨ a.parent.isNone then s
    else if heard then modAnnex (fun a => { a with misses := 0 }) s
    else if a.misses + 1 < 3 then modSource 4 (fun y => { y with count := 0 }) (modAnnex (fun a => { a with misses := a.misses + 1 }) s)
    else loseSource 4 (annexLeave s))

/-! ### Responses and reports -/

/-- RESPONSE (R228, R175): the transaction it answers ends. A refused CLAIM makes the truss push the current version (R243). -/
def response (n : Nat) (m : InMsg) (s : State) : State :=
  let p := m.payload
  match s.mac.txns.find? (fun t => t.lantern == n && t.seq == fld p 0 2 && t.confirmed && t.st != .queued) with
  | none => s
  | some t =>
    let extra := fld p 3 1 + m.retries - t.told
    let s := match t.owner with
      | some q => addRetries q extra s
      | none => s
    let s := settle t (.answered (fld p 2 1) (p.drop 4)) s
    if t.type = 0x0205 ∧ fld p 2 1 = 5 then
      pushAll (some n) (s.modTruss (unconfirm n (fld t.payload 0 4)))
    else s

def execResponse (lantern : Nat) (s : State) : Res := .next (fromLantern 0x001B lantern (fun _ m s => response lantern m s) s)

/-- LAMP_REPORT (R274): kept for LAMP_STATUS. -/
def execLampReport (lantern : Nat) (s : State) : Res :=
  .next (fromLantern 0x0106 lantern (fun _ m s => modLan lantern (fun l => { l with report := some (m.payload, s.mac.cycle) }) s) s)

/-- The fragments a lantern should hold, by policy and version: its own, and those of the pier it heads. -/
def expectedHere (s : State) (n : Nat) : List (Nat × Nat) :=
  (s.truss.fragments.filter (fun f => f.site == n && f.tier < 3 && f.state != 7 && f.state != 6 && f.state != 4 && f.targets != [])).map
      (fun f => (f.policy, f.version))
    ++ (s.truss.piers.filter (fun p => p.head == n)).flatMap (fun p => (p.entries.filter (fun e => !e.gone)).map (fun e => (e.policy, e.version)))

/-- FRAGMENT_INVENTORY (R233): the truss pushes and withdraws the differences. A policy of which the lantern holds fewer
fragments than it should is pushed again, one of which it holds more is withdrawn first. -/
def fragmentInventory (n : Nat) (m : InMsg) (s : State) : State :=
  let p := m.payload
  let inv := (List.range (fld p 0 1)).map (fun i => (fld p (2 + 6 * i) 4, fld p (6 + 6 * i) 2))
  let want := expectedHere s n
  let s := modLan n (fun l => { l with inventory := inv }) s
  let s := ((want.filter (fun w => inv.count w != want.count w)).map (·.1)).eraseDups.foldl (fun s k => s.modTruss (unconfirm n k)) s
  let owed (k : Nat) : Bool := s.truss.fragments.any (fun f => f.site == n && f.state == 7 && f.policy == k)
  let extra := inv.eraseDups.filter (fun e => !owed e.1 && ((want.all (fun w => w.1 != e.1)) || want.count e < inv.count e))
  pushAll (some n) (extra.foldl (fun s e => sendOnce n 0x0202 (withdrawBytes e.1 e.2) s) s)

def execFragmentInventory (lantern : Nat) (s : State) : Res :=
  .next (fromLantern 0x0206 lantern (fun _ m s => fragmentInventory lantern m s) s)

/-- SENSOR_EVENT (R148, R232). -/
def execSensorEvent (lantern : Nat) (s : State) : Res :=
  .next (fromLantern 0x0301 lantern (fun _ m s => sensorEvent lantern m.payload s) s)

/-- POLICY_REPORT (R127): a REPORT action's record names the policy, the code and the lantern. -/
def execPolicyReport (lantern : Nat) (s : State) : Res :=
  .next (fromLantern 0x0304 lantern (fun _ m s => ev evPolicyReport (sub m.payload 0 6 ++ le 2 lantern ++ zeros 6) s) s)

/-- FAULT_REPORT (R229): the spec gives the module no act on it beyond receiving it. -/
def execFaultReport (lantern : Nat) (s : State) : Res := .next (fromLantern 0x0305 lantern (fun _ _ s => s) s)

/-- CHUNK_REQUEST (R240). -/
def execChunkRequest (lantern : Nat) (s : State) : Res :=
  .next (fromLantern 0x0402 lantern (fun _ m s => chunkRequest lantern m.payload s) s)

/-- IMAGE_STATUS (R499). -/
def execImageStatus (lantern : Nat) (s : State) : Res :=
  .next (fromLantern 0x0404 lantern (fun _ m s => imageStatus lantern m.payload s) s)

/-- LEAVE from a node that leaves (Table 6.8). Mark: DEDUCED (log entry 36): it has left the mesh, so it is EXPECTED again. -/
def execLeave (lantern : Nat) (s : State) : Res :=
  .next (fromLantern 0x0013 lantern (fun _ m s =>
    let s := if m.confirmed then respond lantern m.seq 0 m.retries s else s
    (modLan lantern (fun l => { l with state := .expected, depth := 0, joinResp := none }) s).modMac (fun x => { x with
      topoChanged := true })) s)

end Sys2Proof.Machine
end

