-- ==== Sys2Proof/Machine/Meter.lean ====
section
/-! DEFINITION. Feeder metering and reconciliation (chapter 10): routing of energy, pulses, the meter second, saves, pulse
inputs, windows, and the meter group of commands. -/

namespace Sys2Proof.Machine

/-! ### MOD_CLK returns (R334) -/

/-- R334: at most 12 dependent samples are interpolated, more are discarded and credited. -/
def settleGap (s : State) : State :=
  let n := dependents s
  if n ≤ 12 then (resumePath false s).modMeter (fun m => { m with interpNow := true })
  else
    let ns := n * 128000
    crossEv 0x14 evMeterClockGap (le 8 ns ++ le 6 (s.meter.rates.getD 0 0 * ns / sec / 2 ^ 32)) (creditGap ns (markFilled (resumePath true (fillLast s))))

/-- The edges that no row has brought yet reach the datapath, and a gap that is open is settled. -/
def returnClock (edges : List Nat) (s : State) : State :=
  if s.meter.gapSince.isSome then settleGap (takeBits edges s) else takeBits edges s

/-- MOD_CLK_RETURN (R334). -/
def execModClkReturn (edges : List Nat) (s : State) : Res := .next (returnClock edges s)

/-! ### The meter second (R337, R338, R346, R352) -/

/-- The second as METER_READ gives it (R332, R339). -/
def closedSecond (m : MeterIn) (s : State) : MeterSec :=
  { time := ofNs (s.spanNow / sec * sec), interpolated := s.meter.interpNow, filled := s.meter.filledNow,
    frequency := (roundDiv m.freq 10000).toNat, phases := m.phases.map (·.read), neutral := m.neutral, residual := m.residual }

/-- Feeder presence: 2 consecutive seconds on the other side change it (R352). -/
def presenceSecond (s : State) : State :=
  match s.meter.last with
  | none => s
  | some m =>
    let v := m.phases.foldl (fun a x => max a x.vrms) 0
    let on : Bool := Nat.ble (s.live 0x0630 * 10) v
    if on = s.meter.present then s.modMeter (fun x => { x with presenceRun := 0 })
    else if s.meter.presenceRun + 1 < 2 then s.modMeter (fun x => { x with presenceRun := x.presenceRun + 1 })
    else
      let s := s.modMeter (fun x => { x with present := on, presenceRun := 0 })
      wakeUp 10 (crossEv 0x14 (if on then evFeederEnergised else evFeederDeenergised) [] s)

/-- R346, R348: the save, and the backup of the settings store at every multiple of 900 s. -/
def saveSecond (s : State) : State :=
  let s := saveTotals 1 s
  if s.spanNow / sec % 900 = 0 then
    s.modMeter (fun m => { m with
      backup := some (if m.copyA.generation ≤ m.copyB.generation then m.copyB else m.copyA) })
  else s

/-- METER_RESTART states the interval from a reset that stopped the datapath to the first closed second after it (R349). -/
def restartSecond (s : State) : State :=
  match s.meter.restartAt with
  | some t => ev evMeterRestart (le 8 (s.now - t)) (s.modMeter (fun m => { m with restartAt := none }))
  | none => s

/-- A second's currents into the window: E_C needs the sum of Irms² of each phase (R354). -/
def windowSecond (s : State) : State :=
  match s.meter.last with
  | none => s
  | some x => s.modMeter (fun m => { m with
      window := m.window.map (fun w => { w with
        irms2 := (w.irms2.zip (x.phases.map (fun p => p.irms * p.irms))).map (fun a => a.1 + a.2) }) })

/-! ### Calibration (R365) -/

/-- Every second within 0.05 % of the mean. -/
def stable (l : List Nat) : Bool := l.all (fun v => ((v * l.length : Nat) - (l.sum : Int)).natAbs * 2000 ≤ l.sum)

def inGain (g : Int) : Bool := decide (0x20000000 ≤ g) && decide (g ≤ 0x60000000)

/-- old × reference / measured, the measured value being a mean over the seconds; 0 where nothing was measured. -/
def newGain (old reference : Nat) (l : List Nat) : Int :=
  if l.sum = 0 then 0 else roundDiv ((old * reference * l.length : Nat) : Int) l.sum

/-- The settings and reply of a finished GAIN_PHASE, or its refusal. -/
def gainResult (k : Calib) (s : State) : (List (Nat × Nat) × Bytes) ⊕ (Nat × Nat) :=
  let vs := k.samples.map (·.1)
  let is := k.samples.map (·.2.1)
  let n := k.samples.length
  let angle := roundDiv ((k.samples.map (·.2.2)).sum) n
  let gv := newGain (s.live (0x060F + k.phase)) k.refV vs
  let gi := newGain (s.live (0x0612 + k.phase)) k.refI is
  let ph := s.liveS 16 (0x061F + k.phase) + angle - k.refAngle
  if !(stable vs && stable is) then .inr (stBadParam, 0x82)
  else if !(inGain gv && inGain gi && (decide (-3000 ≤ ph) && decide (ph ≤ 3000))) then .inr (stOutOfRange, 0x81)
  else
    .inl ([(0x060F + k.phase, gv.toNat), (0x0612 + k.phase, gi.toNat), (0x061F + k.phase, ofS 16 ph)],
      le 4 gv.toNat ++ le 4 gi.toNat ++ le 2 (ofS 16 ph) ++ zeros 2 ++ le 4 ((roundDiv (vs.sum : Nat) n).toNat)
        ++ le 4 ((roundDiv (is.sum : Nat) n).toNat) ++ le 4 (ofS 32 angle))

/-- The offsets of a finished OFFSET: the measured mean of each masked channel is added; each masked voltage and current is to have
been stable. -/
def offsetResult (k : Calib) (s : State) : (List (Nat × Nat) × Bytes) ⊕ (Nat × Nat) :=
  let mean (c : Nat) : Int := roundDiv ((k.means.map (fun l => l.getD c 0)).sum) k.means.length
  let new (c : Nat) : Int := s.liveS 24 (0x0618 + c) + (if k.phase.testBit c then mean c else 0)
  if !((List.range 6).all (fun c => !k.phase.testBit c || stable (k.rms.map (fun l => l.getD c 0)))) then .inr (stBadParam, 0x82)
  else if ((List.range 8).all (fun c => decide (-838860 ≤ new c) && decide (new c ≤ 838860))) = false then .inr (stOutOfRange, 0x81)
  else
    .inl (((List.range 8).filter k.phase.testBit).map (fun c => (0x0618 + c, ofS 24 (new c))),
      (List.range 8).flatMap (fun c => le 4 (ofS 32 (new c))))

/-- The results are written and their pending set replaces that of block 0x06; at the block's boundary they take effect and the
reply is due (R27, R365). -/
def finishCalib (k : Calib) (s : State) : State :=
  let s := s.modMeter (fun m => { m with calib := m.calib.filter (fun x => x.seq != k.seq) })
  match (if k.mode = 1 then gainResult k s else offsetResult k s) with
  | .inr (st, d) => (match s.cmdSeq k.seq with | some c => fail c st d s | none => s)
  | .inl (es, reply) =>
    let s := writeSettings es s
    let set := snapshot s 6
    let s := s.modSet (fun x => { x with
      pend := x.pend.filter (fun q => q.block != 6) ++ [{ block := 6, entries := set, count := set.length }] })
    (s.modCmd k.seq (fun c => { c with wait := .calibrated reply })).modHost (fun h => { h with
      late := h.late.map (fun r => if r.seq = k.seq then { r with wait := .calibrated [] } else r) })

/-- One closed second of a calibration. -/
def calibSecond (m : MeterIn) (s : State) : State :=
  let take (k : Calib) : Calib :=
    let x := m.phases.getD (k.phase - 1) default
    { k with
      left := k.left - 1, samples := k.samples ++ [(x.vrmsFine, x.irmsFine, x.angle)], means := k.means ++ [m.means],
      rms := k.rms ++ [m.phases.map (·.vrmsFine) ++ m.phases.map (·.irmsFine)] }
  let ks := s.meter.calib.map take
  let s := s.modMeter (fun m => { m with calib := ks })
  (ks.filter (fun k => k.left == 0)).foldl (fun s k => finishCalib k s) s

/-- METER_SECOND_CLOSE (R337, R338, R340, R343, R346, R352, R365): the partial line cycles are routed at the close. A gap that is open
leaves the rates of the second before it (R334). -/
def meterSecondClose (s : State) : State :=
  let m := measureSecond s
  let s := nextSecond m.freq (closeTotals (s.spanNow / sec * sec) s)
  let s := if s.meter.gapSince.isSome && Nat.blt 12 (dependents s) then markFilled s else s
  let q := closedSecond m s
  let s := s.modMeter (fun x => { x with
    last := some q, regsClosed := x.regs, openSec := s.spanNow / sec,
    rates := if x.gapSince.isSome then x.rates else (x.regs.zip x.regsClosed).map (fun a => (a.1 + 2 ^ 96 - a.2) % 2 ^ 96) })
  let s := windowSecond (saveSecond s)
  let s := s.modMeter (fun x => { x with filledNow := false, interpNow := false })
  let s := if s.pwr.stopped then recordOverrun 0x13 (modJoint 0x13 (jointWord 4 true (s.spanNow / sec)) s) else s
  let s := presenceSecond (restartSecond s)
  if s.fwUp then meterConditions (calibSecond m s) else s

/-- The meter second in progress ends: span time has come to the next whole second (R337). -/
def secondOver (s : State) : Bool := Nat.blt s.meter.openSec (s.spanNow / sec)

def execMeterSecondClose (edges : List Nat) (s : State) : Res :=
  .next (if meterRuns s && secondOver s then meterSecondClose (takeBits edges s) else takeBits edges s)

/-! ### PFAIL (R347) -/

/-- The flush at the falling edge (R347): it takes the place of a save in progress, in the same copy with the same generation, and
while it is in progress a further edge is ignored. -/
def flushTotals (s : State) : State :=
  match s.meter.saving with
  | some r =>
    if !r.inProgress s.now then flushNow s
    else if r.kind = 2 then s
    else
      let s := closeTotals (s.spanNow + 1) s
      let was := if r.toB then s.meter.copyB else s.meter.copyA
      writeCopy r.toB (totalsNow s 2 was.generation) (tornCopy (Config.unstated 61 s.now % 79) r.old was) s
  | none => flushNow s

/-- PFAIL_RISE (R347): metering goes on, and the next save follows the flushed generation. -/
def execPfailRise (s : State) : Res := .next (s.modMeter (fun m => { m with pfail := false }))

/-! ### Pulse inputs (R351) -/

/-- ⌈D × 16.384⌉ ticks of the abutment's 32,768 Hz, in ns. -/
def debounceNs (s : State) (k : Nat) : Nat :=
  let t := (s.live (0x0650 + k) * 2048 + 124) / 125
  (t * sec + tickHz - 1) / tickHz

/-- PIN_EDGE (R351): the debounce of a level that differs from the stable one starts. -/
def execPinEdge (input : Nat) (level : Bool) (s : State) : Res :=
  .next (match s.meter.pins[input]? with
    | none => s
    | some p =>
      if s.fb.backup ∨ p.level = level ∨ !bankGood 2 s then s
      else s.modMeter (fun m => { m with
        pins := modAt m.pins input (fun p => { p with
          level := level, changing := if level = p.stable then none else some (s.now + debounceNs s input) }) }))

/-- PIN_DEBOUNCE_EXPIRY (R351, R415): the level is stable; a rising edge counts and its event crosses joint 1 + n. -/
def execPinDebounceExpiry (input : Nat) (s : State) : Res :=
  .next (match s.meter.pins[input]? with
    | none => s
    | some p =>
      match p.changing with
      | none => s
      | some t =>
        if s.now < t ∨ s.fb.backup then s
        else
          let s := s.modMeter (fun m => { m with
            pins := modAt m.pins input (fun p => { p with
              changing := none, stable := p.level, count := if p.level then (p.count + 1) % 2 ^ 32 else p.count }) })
          if p.level then jointSend (1 + input) s else s)

/-! ### Reconciliation (R147, R353 to R355) -/

/-- Total import and export as the last meter second closed them, in 2^-32 mWh (R23). -/
def importNow (s : State) : Nat := s.meter.regsClosed.getD 0 0
def exportNow (s : State) : Nat := s.meter.regsClosed.getD 1 0

/-- Settings that govern a window's computation, as they stand at its end. -/
def reconIds : List Nat :=
  [0x0654, 0x0655, 0x0656, 0x0657, 0x0658, 0x0660, 0x0661, 0x0662, 0x0663, 0x0664, 0x0665, 0x0666, 0x0667]

/-- A window begins (R353). -/
def newWindow (start : Nat) (partial_ : Bool) (s : State) : ReconWin :=
  let pins := s.meter.pins.map (·.total)
  { start := start, partial_ := partial_, importAt := importNow s, exportAt := exportNow s, importEnd := importNow s,
    exportEnd := exportNow s, pinAt := pins, pinEnd := pins, irms2 := [0, 0, 0],
    reasons := if s.meter.active then 0 else 32, params := [], covered := [], aggregated := 0, aggregatedLanterns := [],
    expected := (s.mac.lanterns.filter (fun p => p.2.state == .joined)).map (·.1) }

/-- A window as it ends now. -/
def endWindow (s : State) (w : ReconWin) : ReconWin :=
  { w with
    importEnd := importNow s, exportEnd := exportNow s, pinEnd := s.meter.pins.map (·.total),
    params := reconIds.map (fun i => (i, s.live i)) }

def ReconWin.param (w : ReconWin) (id : Nat) : Nat := (get? w.params id).getD 0

/-- Units of the computation in one mWh: 3.6 × 10^9 × 2^32. -/
def reconUnit : Nat := 3600000000 * 2 ^ 32

/-- E_F in units (R354). -/
def winF (w : ReconWin) : Int := (((w.importEnd : Int) - w.importAt) - ((w.exportEnd : Int) - w.exportAt)) * 3600000000

/-- E_L in 1/65,536 mWh. -/
def winL (w : ReconWin) : Nat := w.aggregated + (w.covered.map (·.2)).sum

def winMissing (w : ReconWin) : List Nat :=
  w.expected.filter (fun n => !(w.covered.any (fun e => e.1 == n)) && !w.aggregatedLanterns.contains n)

/-- E_M: the counted energies of the missing lanterns in the window before, in 1/65,536 mWh. -/
def winM (prev : List (Nat × Nat)) (w : ReconWin) : List Nat := (winMissing w).filterMap (get? prev)

/-- E_S in mWh: pulses of each DEDUCT input × its weight. -/
def winS (w : ReconWin) : Nat :=
  ((List.range 4).map (fun k =>
    if (w.param 0x0658).testBit k then (w.pinEnd.getD k 0 - w.pinAt.getD k 0) * w.param (0x0654 + k) else 0)).sum

/-- E_C in units: Σ Irms² × cable, 1 mA² mΩ s being 1/(3.6 × 10^9) mWh, and RECON_FIXED × 900 s, 0.1 W being 25 mWh. -/
def winC (w : ReconWin) : Nat :=
  ((List.range 3).map (fun k => w.irms2.getD k 0 * w.param (0x0660 + k))).sum * 2 ^ 32 + w.param 0x0663 * 25 * reconUnit

/-- U in units. -/
def winU (prev : List (Nat × Nat)) (w : ReconWin) : Int :=
  winF w - ((winL w + (winM prev w).sum) * (reconUnit / 65536) : Nat) - (winS w * reconUnit : Nat) - (winC w : Nat)

/-- θ in units. -/
def winTheta (w : ReconWin) : Int := winF w * w.param 0x0664 / 1000 + (w.param 0x0665 * 25 * reconUnit : Nat)

/-- Reason bits of Table 10.10. -/
def winReasons (w : ReconWin) : Nat :=
  let many : Bool := Nat.blt (w.param 0x0666 * w.expected.length) ((winMissing w).length * 100)
  w.reasons ||| (if w.partial_ then 1 else 0) ||| (if many then 64 else 0)

/-- The result of a window (R354, R355). -/
def winResult (prev : List (Nat × Nat)) (w : ReconWin) : ReconRes :=
  let u := winU prev w
  let th := winTheta w
  let mwh (x : Int) : Int := roundDiv x reconUnit
  { window := w.start,
    state := if winReasons w ≠ 0 then 3 else if th < u then 1 else if u < -th then 2 else 0,
    reasons := winReasons w, expected := w.expected.length, reported := w.expected.length - (winMissing w).length,
    estimated := (winM prev w).length, eF := mwh (winF w), eL := (roundDiv (winL w : Nat) 65536).toNat,
    eM := (roundDiv ((winM prev w).sum : Nat) 65536).toNat, eS := winS w, eC := (mwh (winC w : Nat)).toNat, u := mwh u,
    theta := (mwh th).toNat }

/-- R355: the alarm run and its records: RECON_ALARM once in a run that has reached its length. -/
def noteResult (r : ReconRes) (need : Nat) (s : State) : State :=
  if r.state = 1 then
    let run := s.meter.alarmRun + 1
    let tell : Bool := decide (need ≤ run) && !s.meter.alarmTold
    let s := s.modMeter (fun m => { m with alarmRun := run, alarmTold := m.alarmTold || tell, alarmOn := m.alarmOn || tell })
    if tell then ev evReconAlarm (le 4 r.window ++ le 8 (ofS 64 r.u) ++ [byte r.state, 0]) s else s
  else if r.state = 2 then ev evReconOverReport [] (s.modMeter (fun m => { m with alarmRun := 0, alarmTold := false }))
  else if r.state = 0 then
    let was := s.meter.alarmOn
    let s := s.modMeter (fun m => { m with alarmRun := 0, alarmTold := false, alarmOn := false })
    if was then ev evReconClear [] s else s
  else s

/-- The ended window is reconciled: its result joins the last 96 (R354, R355). -/
def reconcile (w : ReconWin) (s : State) : State :=
  let r := winResult s.meter.prevEnergy w
  let s := s.modMeter (fun m => { m with
    results := (m.results ++ [r]).drop (m.results.length + 1 - 96), prevEnergy := w.covered, prevWindow := none,
    unexplained := roundDiv (winU m.prevEnergy w * 4) (100 * reconUnit) })
  noteResult r (w.param 0x0667) s

def reconcilePrev (s : State) : State := match s.meter.prevWindow with | some w => reconcile w s | none => s

/-- RECONCILE_WINDOW (R354): at the end of cycle REPORT_AGG_DEADLINE of the window after. -/
def execReconcileWindow (s : State) : Res :=
  .next (match s.meter.prevWindow, s.meter.window with
    | some w, some cur =>
      if s.mac.running && s.fwUp && s.holder && Nat.blt (cur.start + s.live 0x0407) s.mac.cycle then reconcile w s else s
    | _, _ => s)

/-- A cycle that begins a window (R353). -/
def windowStarts (c : Nat) (s : State) : Bool := c == 0 || c % 900 == s.mac.windowPhase

/-- The window that the cycle before ended, under the settings of its time (R353, R366). -/
def windowEnds (c : Nat) (s : State) : State :=
  if windowStarts c s then
    let s := reconcilePrev s
    s.modMeter (fun m => { m with prevWindow := m.window.map (endWindow s), window := none })
  else s

/-- The window that this cycle begins. -/
def windowBegins (c : Nat) (s : State) : State :=
  if windowStarts c s then
    let w := newWindow c (c % 900 != s.mac.windowPhase) s
    s.modMeter (fun m => { m with window := some w })
  else s

/-- The span stops or restarts: what remains is reconciled at once (R354, R355). -/
def windowsStop (s : State) : State :=
  let s := reconcilePrev s
  match s.meter.window with
  | none => s
  | some w => reconcile { endWindow s w with reasons := w.reasons ||| 2 } (s.modMeter (fun m => { m with window := none }))

/-- The window a report names, changed. -/
def modWindow (start : Nat) (f : ReconWin → ReconWin) (s : State) : State :=
  s.modMeter (fun m => { m with
    window := m.window.map (fun w => if w.start = start then f w else w),
    prevWindow := m.prevWindow.map (fun w => if w.start = start then f w else w) })

/-- ENERGY_REPORT (R147, Table 6.12): the lantern is covered for the window. -/
def execEnergyReport (lantern : Nat) (s : State) : Res :=
  .next (fromLantern 0x0302 lantern (fun _ m s =>
    modWindow (fld m.payload 0 4) (fun w => { w with
      covered := put w.covered lantern (fld m.payload 4 4 * 65536 + fld m.payload 8 2) }) s) s)

/-- ENERGY_AGGREGATE (R147, Table 6.12): the head's members but those in its missing map are covered. -/
def energyAggregate (head : Nat) (p : Bytes) (s : State) : State :=
  let members := match s.truss.piers.find? (fun x => x.head == head) with | some x => x.members | none => []
  let missing := fld p 20 4
  let got := ((members.zip (List.range members.length)).filter (fun x => !missing.testBit x.2)).map (·.1)
  modWindow (fld p 0 4) (fun w => { w with
    aggregated := w.aggregated + fld p 4 8 * 65536 + fld p 12 4, aggregatedLanterns := got.foldl insertSet w.aggregatedLanterns }) s

def execEnergyAggregate (lantern : Nat) (s : State) : Res :=
  .next (fromLantern 0x0303 lantern (fun _ m s => energyAggregate lantern m.payload s) s)

/-! ### The standby's window (R356) -/

/-- d of R356, in ppm. -/
def meterDisagreement (dS dH : Nat) (filled : Bool) : Int :=
  if filled || dH < 10000 * 2 ^ 32 then 0 else roundDiv (((dS : Int) - dH) * 1000000) dH

/-- STANDBY_METER_WINDOW (R356): the window that ends at a UTC quarter-hour. -/
def standbyWindow (s : State) : State :=
  let q := ((stSec s.time.spanT : Int) - s.rtc.u).toNat / 900
  let own := importNow s
  let next := some (q, own, s.meter.holderImport, false)
  match s.meter.stdWindow with
  | none => s.modMeter (fun m => { m with stdWindow := next })
  | some (q0, own0, h0, filled) =>
    if q0 = q then s
    else
      let d := meterDisagreement (own - own0) (s.meter.holderImport - h0) (filled || s.meter.holderFilled)
      let s := s.modMeter (fun m => { m with stdWindow := next, holderFilled := false })
      s.modTwin (fun t => { t with disagreement := d, meterMismatch := Nat.blt 1000 d.natAbs })

def execStandbyMeterWindow (s : State) : Res := .next (if s.standby && s.fwUp && s.meter.active then standbyWindow s else s)

/-! ### Commands of the meter group (R358 to R365) -/

/-- The nine settings of METER_CONFIG (Table 10.8). -/
def meterEntries (p : Bytes) : List (Nat × Nat) :=
  [(0x0601, fld p 0 1), (0x0602, fld p 1 1), (0x0603, fld p 2 1), (0x0604, fld p 4 2), (0x0605, fld p 8 4), (0x0606, fld p 12 4),
   (0x0607, fld p 16 4), (0x0608, fld p 20 4), (0x0609, fld p 24 4)]

def meterConfig (c : LiveCmd) (s : State) : State :=
  if !zeroAt c.params 3 1 ∨ !zeroAt c.params 6 2 then fail c stBadParam dReservedBit s
  else match writeRefusal s c.role (meterEntries c.params) with
    | some (_, st, d) => fail c st d (noteLocked st s)
    | none =>
      let s := writeSettings (meterEntries c.params) s
      complete c stOk dNone (le 4 s.meter.metrology) s

/-- METER_CONFIG (R358). -/
def execMeterConfig (sid tag : Nat) (s : State) : Res := .next (runCmd 0x0601 sid tag meterConfig s)

/-- One 28-byte block of METER_READ. -/
def meterBlock (x : PhaseQ) : Bytes :=
  le 4 (ofS 32 x.p) ++ le 4 (ofS 32 x.q) ++ le 4 x.s ++ le 4 x.vrms ++ le 4 x.irms ++ le 2 (ofS 16 x.pf) ++ le 2 x.thdV ++ le 2 x.thdI
    ++ zeros 2

/-- Phase 0 as Table 10.3 gives it: totals, and the highest phase. -/
def totalBlock (ps : List PhaseQ) : PhaseQ :=
  let high (f : PhaseQ → Nat) : Nat := (ps.map f).foldl max 0
  let p := (ps.map (·.p)).sum
  let sv := (ps.map (·.s)).sum
  { p := p, q := (ps.map (·.q)).sum, s := sv, vrms := high (·.vrms), irms := high (·.irms),
    pf := if sv = 0 then 0 else roundDiv (p * 10000) sv, thdV := high (·.thdV), thdI := high (·.thdI) }

def meterRead (c : LiveCmd) (s : State) : State :=
  let m := s.meter
  let none_ : MeterSec :=
    { time := 0, interpolated := false, filled := false, frequency := 0, phases := [default, default, default], neutral := 0,
      residual := 0 }
  let x := m.last.getD none_
  let flags := b2n m.present + 2 * b2n x.interpolated + 4 * b2n x.filled + 8 * b2n s.standby + 16 * b2n m.active
  let excess := ((m.pouts.zip [1, 2, 4, 8]).map (fun o => b2n o.1.overflow * o.2)).sum
  complete c stOk dNone (encTime x.time ++ le 2 flags ++ le 2 x.frequency ++ zeros 2
    ++ (totalBlock x.phases :: x.phases).flatMap meterBlock ++ le 4 x.neutral ++ le 4 x.residual
    ++ m.pouts.flatMap (fun o => le 2 o.backlog) ++ [byte excess] ++ zeros 3) s

/-- METER_READ (R359, Table 10.9). -/
def execMeterRead (sid tag : Nat) (s : State) : Res := .next (runCmd 0x0602 sid tag meterRead s)

/-- R344: a register's view in 0.1 Wh, and its wrap count. -/
def regView (r : Nat) : Nat := r / 2 ^ 32 / 100 % 2 ^ 32
def regWraps (r : Nat) : Nat := r / 2 ^ 32 / (100 * 2 ^ 32) % 256

def energyRead (c : LiveCmd) (s : State) : State :=
  let m := s.meter
  let flags := b2n s.standby + 2 * b2n m.saveIncomplete + 4 * b2n m.restored + 8 * b2n m.filledSince
  complete c stOk dNone (encTime s.time.spanT ++ le 2 flags ++ le 4 (max m.copyA.generation m.copyB.generation) ++ le 4 m.metrology
    ++ zeros 4 ++ m.regs.flatMap (fun r => le 8 (r / 2 ^ 32) ++ le 4 (r % 2 ^ 32) ++ le 4 (regView r))
    ++ m.regs.map (fun r => byte (regWraps r)) ++ zeros 4) s

/-- ENERGY_READ (R344, R360). -/
def execEnergyRead (sid tag : Nat) (s : State) : Res := .next (runCmd 0x0603 sid tag energyRead s)

def pulseOutputAssign (c : LiveCmd) (s : State) : State :=
  let p := c.params
  let k := fld p 0 1
  let flags := fld p 2 1
  if 3 < flags ∨ !zeroAt p 3 1 ∨ !zeroAt p 10 2 then fail c stBadParam dReservedBit s
  else if 3 < k then fail c stBadParam dNone s
  else
    let inv := s.shadow 0x064C
    let inv' := if inv.testBit k = flags.testBit 1 then inv else inv ^^^ 2 ^ k
    let es := [(0x0640 + k, fld p 1 1), (0x0644 + k, fld p 4 4), (0x0648 + k, fld p 8 2), (0x064C, inv')]
    match writeRefusal s c.role es with
    | some (_, st, d) => fail c st d (noteLocked st s)
    | none =>
      let s := if flags.testBit 0 then
          s.modMeter (fun m => { m with pouts := modAt m.pouts k (fun o => { o with clearAt := true }) }) else s
      commitBlock c 6 (writeSettings es s)

/-- PULSE_OUTPUT_ASSIGN (R362). -/
def execPulseOutputAssign (sid tag : Nat) (s : State) : Res := .next (runCmd 0x0604 sid tag pulseOutputAssign s)

/-- One entry of PULSE_INPUT_READ. -/
def pinEntry (s : State) (k : Nat) : Bytes :=
  let p := s.meter.pins.getD k default
  let j := s.joint (1 + k)
  le 8 p.total ++ (match p.lastPulse with | some t => encTime t | none => zeros 10) ++ le 2 j.lost
    ++ [byte (b2n j.overrun + 2 * b2n ((s.live 0x0658).testBit k))] ++ zeros 3

def pulseInputRead (c : LiveCmd) (s : State) : State :=
  if 1 < fld c.params 0 1 ∨ !zeroAt c.params 1 3 then fail c stBadParam dReservedBit s
  else if fld c.params 0 1 = 1 ∧ c.role < 2 then fail c stNotPermitted dRoleBelow s
  else
    let r := [0, 1, 2, 3].flatMap (pinEntry s)
    let s := if fld c.params 0 1 = 1 then
        [1, 2, 3, 4].foldl (fun s j => modJoint j (fun x => { x with lost := 0, lostRecorded := 0, overrun := false }) s) s
      else s
    complete c stOk dNone r s

/-- PULSE_INPUT_READ (R363, R417). -/
def execPulseInputRead (sid tag : Nat) (s : State) : Res := .next (runCmd 0x0605 sid tag pulseInputRead s)

/-- An entry of RECONCILE_READ (Table 10.10). -/
def reconEntry (r : ReconRes) : Bytes :=
  le 4 r.window ++ [byte r.state, byte r.reasons] ++ le 2 r.expected ++ le 2 r.reported ++ le 2 r.estimated ++ zeros 4
    ++ le 8 (ofS 64 r.eF) ++ le 8 r.eL ++ le 8 r.eM ++ le 8 r.eS ++ le 8 r.eC ++ le 8 (ofS 64 r.u) ++ le 8 r.theta

def reconcileRead (c : LiveCmd) (s : State) : State :=
  let start := fld c.params 0 4
  let n := fld c.params 4 1
  if !zeroAt c.params 5 3 then fail c stBadParam dReservedBit s
  else if n = 0 ∨ 48 < n then fail c stBadParam dNone s
  else
    let all := s.meter.results
    let k := if start = 0xFFFFFFFF then all.drop (all.length - n) else (all.filter (fun r => start ≤ r.window)).take n
    complete c stOk dNone (le 2 k.length ++ le 2 all.length ++ zeros 4 ++ k.flatMap reconEntry) s

/-- RECONCILE_READ (R364). -/
def execReconcileRead (sid tag : Nat) (s : State) : Res := .next (runCmd 0x0606 sid tag reconcileRead s)

def meterCalibrate (c : LiveCmd) (s : State) : State :=
  let p := c.params
  let mode := fld p 0 1
  let ph := fld p 1 1
  let n := fld p 2 2
  if mode ≠ 1 ∧ mode ≠ 2 then fail c stBadParam dNone s
  else if !zeroAt p 16 4 ∨ (mode = 2 ∧ !zeroAt p 4 12) then fail c stBadParam dReservedBit s
  else if mode = 1 ∧ (ph = 0 ∨ 3 < ph) then fail c stBadParam dNone s
  else if n = 0 ∨ 60 < n then fail c stOutOfRange dNone s
  else if !s.meter.active then fail c stBusy 0x80 s
  else
    let k : Calib :=
      { seq := c.seq, mode := mode, phase := ph, left := n, refV := fld p 4 4, refI := fld p 8 4,
        refAngle := toS 32 (fld p 12 4), samples := [], means := [], rms := [] }
    waitFor c .calibrate [] (s.modMeter (fun m => { m with calib := m.calib ++ [k] }))

/-- METER_CALIBRATE (R365). -/
def execMeterCalibrate (sid tag : Nat) (s : State) : Res := .next (runCmd 0x0607 sid tag meterCalibrate s)

end Sys2Proof.Machine
end

