-- ==== Sys2Proof/Machine/SelfTest.lean ====
section
/-! DEFINITION. Built-in self-test (chapter 17): units, slices, the sweep, commanded runs, scan access; and the fall of
`PFAIL_N`, which ends a run (R347, R449, R513). -/

namespace Sys2Proof.Machine

/-! ### Units -/

def allAbut : List TestUnit := (List.range 896).map .abut
def allMram : List TestUnit := (List.range 14272).map (fun k => .mram (2112 + k))

def bankUse (b : SelfTestSt) (n : Nat) : BankUse := match b.banks[n]? with | some x => x.1 | none => .retired

/-- The spare bank (R151). -/
def spareBank (b : SelfTestSt) : Option Nat := (List.range 32).find? (fun n => bankUse b n == .spare)

def setBank (n : Nat) (u : BankUse) (contents : Nat) (s : State) : State :=
  s.modBist (fun b => { b with banks := modAt b.banks n (fun _ => (u, contents)) })

/-! ### Jobs -/

/-- Units a sweep or run still has to test. -/
def jobUnits (isRun : Bool) (b : SelfTestSt) : List TestUnit :=
  if isRun then (match b.active with | some r => r.units | none => [])
  else (match b.sweep with | some w => w.units | none => [])

def dropUnit (isRun : Bool) (s : State) : State :=
  s.modBist (fun b =>
    if isRun then { b with active := b.active.map (fun r => { r with units := r.units.drop 1 }) }
    else { b with sweep := b.sweep.map (fun w => { w with units := w.units.drop 1 }) })

/-- A failure is recorded and shows in the health word; a failing bank is retired (R151, R512). -/
def unitFailed (alg origin : Nat) (u : TestUnit) (r : Nat × Option Nat) (s : State) : State :=
  let s := ev evSelftestFail (testFailure alg origin u r) s
  match u with
  | .bank k => ev evBankRetired [] ((setBank k .retired 0 s).modBist (fun b => { b with bankFailed := true }))
  | _ => s.modBist (fun b => { b with otherFailed := true })

/-- What a run keeps of a unit: the first failure's signature and offset, else the last signature. -/
def noteRun (alg : Nat) (u : TestUnit) (res : Nat × Option Nat) (ok : Bool) (b : SelfTestSt) (r : TestRun) : TestRun :=
  if r.outcome = some 1 then r
  else
    { r with
      misr := res.1, golden := goldenOf b alg u, outcome := if ok then none else some 1,
      failOffset := match res.2 with
        | some o => (match u with | .bank n => if r.target = 4 then 131072 * n else 0 | _ => (unitName u).2.2) + o
        | none => 0xFFFFFFFF }

/-- A unit ends: pass or fail, and a bank that passes becomes the spare (R151, R505, R512). -/
def unitEnds (isRun : Bool) (alg : Nat) (u : TestUnit) (r : Nat × Option Nat) (s : State) : State :=
  let ok := unitPasses s.bist alg u r
  let s := s.modBist (fun b =>
    if isRun then { b with active := b.active.map (noteRun alg u r ok b) }
    else { b with sweep := b.sweep.map (fun w => { w with tested := w.tested + 1, failed := w.failed + b2n (!ok) }) })
  let s := dropUnit isRun (s.modBist (fun b => { b with unitDone := 0, unitOwner := 0 }))
  if ok then (match u with | .bank k => setBank k .spare 0 s | _ => s)
  else unitFailed alg (if isRun then 0 else 1) u r s

/-- A bank with the workspace of an evaluation in progress; a standby has none (R151, R386). -/
def holdsWorkspace (n : Nat) (s : State) : Bool :=
  s.truss.evalNow && !s.standby && (match s.bist.banks[n]? with | some x => x.2 == 4 | none => false)

/-- An evacuation is refused for this slice (R151, R513). -/
def refuseEvacuation (isRun : Bool) (s : State) : State :=
  s.modBist (fun b => { b with
    active := if isRun then b.active.map (fun r => { r with refusals := r.refusals + 1 }) else b.active })

/-- The time left of the copy of bank `n` into the spare. The spec states no copy time: a copy that begins takes a free time
(log entry 143). -/
def copyLeft (n : Nat) (s : State) : Nat :=
  match s.bist.copying with
  | some (m, t) => if m = n then t else Config.unstated 41 s.bist.sliceAt
  | none => Config.unstated 41 s.bist.sliceAt

/-- The mapping swaps at the end of a slice: the spare takes the contents, the bank goes to test (R151). -/
def swapBanks (isRun : Bool) (n k : Nat) (s : State) : State :=
  let contents := match s.bist.banks[n]? with | some x => x.2 | none => 0
  (setBank n .underTest 0 (setBank k .inUse contents s)).modBist (fun b => { b with
    copying := none, unitDone := 0, unitOwner := if isRun then 2 else 1 })

/-- A slice's part in the evacuation of bank `n` into the spare (R151): a refusal, a further part of the copy, or its last part and
the swap. Without a spare the sweep leaves the bank out. -/
def evacuate (isRun : Bool) (n left : Nat) (s : State) : State × Nat :=
  match spareBank s.bist with
  | none => (if isRun then refuseEvacuation true s else dropUnit false s, 0)
  | some k =>
    if holdsWorkspace n s then (refuseEvacuation isRun s, left)
    else
      let t := copyLeft n s
      let s := s.modBist (fun b => { b with active := b.active.map (fun r => { r with refusals := 0 }) })
      if left < t then (s.modBist (fun b => { b with copying := some (n, t - left) }), 0) else (swapBanks isRun n k s, left - t)

/-- A unit that is retired already is not tested; a commanded run of it fails (log entry 140). -/
def skipRetired (isRun : Bool) (s : State) : State :=
  dropUnit isRun (if isRun then s.modBist (fun b => { b with active := b.active.map (fun r => { r with outcome := some 1 }) }) else s)

/-- The work of one slice within a time (R511): segments whole, a bank pausing where the time ends; `obs` names, for each unit
that ends, the reads that differ. Answers the state and the time left. -/
def sliceWork (isRun : Bool) (alg : Nat) : Nat → Nat → List (List (Nat × Nat)) → State → State × Nat
  | 0, left, _, s => (s, left)
  | f + 1, left, obs, s =>
    match jobUnits isRun s.bist with
    | [] => (s, left)
    | .bank n :: _ =>
      match bankUse s.bist n with
      | .retired => sliceWork isRun alg f left obs (skipRetired isRun s)
      | .spare =>
        sliceWork isRun alg f left obs
          ((setBank n .underTest 0 s).modBist (fun b => { b with unitDone := 0, unitOwner := if isRun then 2 else 1 }))
      | .inUse =>
        if s.live 0x0408 = 1 then evacuate isRun n left s else sliceWork isRun alg f left obs (dropUnit isRun s)
      | .underTest =>
        let need := unitNs alg (.bank n) - s.bist.unitDone
        if left < need then (s.modBist (fun b => { b with unitDone := b.unitDone + left }), 0)
        else match obs with
          | [] => (s, left)
          | r :: rs => sliceWork isRun alg f (left - need) rs (unitEnds isRun alg (.bank n) (unitResult alg (.bank n) r) s)
    | u :: _ =>
      if left < unitNs alg u then (s, left)
      else match obs with
        | [] => (s, left)
        | r :: rs => sliceWork isRun alg f (left - unitNs alg u) rs (unitEnds isRun alg u (unitResult alg u r) s)

/-! ### Runs (R121, R513) -/

/-- The reply of SELFTEST_RUN (Table 3.27). -/
def runReply (r : TestRun) : Bytes :=
  le 2 r.number ++ [byte (r.outcome.getD 0), 0] ++ le 4 r.misr ++ le 4 r.slices ++ le 4 r.elapsed

/-- A run ends: its result is kept among the last 64, its command completes. A cancelled run's reply
carries Table 3.27 too: DESIGN CHOICE (log entry 106). -/
def finishRun (r : TestRun) (outcome status : Nat) (s : State) : State :=
  let r := { r with outcome := some outcome, elapsed := (s.now - r.startedNs) / ms, units := [] }
  let s := s.modBist (fun b => { b with
    active := none, runs := (b.runs ++ [r]).drop (b.runs.length + 1 - 64), unitDone := if b.unitOwner = 2 then 0 else b.unitDone,
    unitOwner := if b.unitOwner = 2 then 0 else b.unitOwner })
  match s.cmdSeq r.seq with
  | some c => complete c status dNone (runReply r) s
  | none => lateSuccess (fun x => x.seq == r.seq && x.wait == .selftest r.number) status s

/-- A run that ends early: a bank it left under test becomes the spare again. -/
def abortRun (r : TestRun) (status : Nat) (s : State) : State :=
  let s := if s.bist.unitOwner = 2 then
      match r.units with
      | .bank n :: _ => if bankUse s.bist n = .underTest then setBank n .spare 0 s else s
      | _ => s
    else s
  finishRun r 2 status s

/-- After a slice: a run without units ends PASS or FAIL, one refused 100 times or cancelled between units is ABORTED. -/
def checkRun (s : State) : State :=
  match s.bist.active with
  | none => s
  | some r =>
    if r.cancelled ∧ s.bist.unitOwner ≠ 2 then abortRun r stCancelled s
    else if r.units = [] then finishRun r (r.outcome.getD 0) stOk s
    else if 100 ≤ r.refusals then abortRun r stOk s
    else s

/-- A sweep that has tested every unit is recorded (R512). -/
def checkSweep (s : State) : State :=
  match s.bist.sweep with
  | none => s
  | some w =>
    if w.units ≠ [] then s
    else
      let s := s.modBist (fun b => { b with sweep := none, otherFailed := b.otherFailed && !(w.full && w.failed == 0) })
      if w.full then ev evSelftestSweepDone (le 2 w.tested ++ le 2 w.failed ++ le 4 w.slices) s else s

/-! ### Slices (R511, R513) -/

/-- Banks that a fault queued for test join the sweep (Table 14.1). -/
def takeQueued (s : State) : State :=
  if s.bist.queued = [] then s
  else s.modBist (fun b =>
    let us := b.queued.map TestUnit.bank
    { b with
      queued := [],
      sweep := some (match b.sweep with
        | some w => if b.unitOwner = 1 then { w with units := w.units.take 1 ++ us ++ w.units.drop 1 } else { w with units := us ++ w.units }
        | none => { full := false, units := us, tested := 0, failed := 0, slices := 0 }) })

/-- Whose slice is next: a background unit in progress first, then a commanded run, then the sweep (R513). -/
def runNext (b : SelfTestSt) : Bool := b.active.isSome && b.unitOwner != 1

/-- The algorithm and the budget of a job's slice. -/
def jobAlg (isRun : Bool) (s : State) : Nat :=
  if isRun then (match s.bist.active with | some a => a.algorithm | none => 1) else s.live 0x0B02

def jobBudget (isRun : Bool) (s : State) : Nat :=
  (if isRun then (match s.bist.active with | some a => a.sliceUs | none => 0) else s.live 0x0B03) * us

/-- A slice begins; its work is done by the time it ends. -/
def sliceStart (r : SliceIn) (s : State) : State :=
  let s := takeQueued s
  let isRun := runNext s.bist
  if jobUnits isRun s.bist = [] then checkSweep (checkRun s)
  else
    let s := s.modBist (fun b => { b with sliceRunning := true, sliceRun := isRun, sliceAt := s.now, sliceObs := r.results })
    let left := (sliceWork isRun (jobAlg isRun s) 4096 (jobBudget isRun s) r.results s).2
    s.modBist (fun b => { b with lastSliceEnd := s.now + (jobBudget isRun s - left) })

/-- The work of the running slice up to now, or up to its end, and the time left over. -/
def sliceSoFar (s : State) : State × Nat :=
  sliceWork s.bist.sliceRun (jobAlg s.bist.sliceRun s) 4096 (min s.now s.bist.lastSliceEnd - s.bist.sliceAt) s.bist.sliceObs s

/-- The running slice ends now: the units it has ended are judged, a segment in progress is restored (R506, R511). -/
def stopSlice (s : State) : State :=
  let isRun := s.bist.sliceRun
  let stop := min s.now s.bist.lastSliceEnd
  let s := (sliceSoFar s).1.modBist (fun b => { b with
    sliceRunning := false, lastSliceEnd := stop, sliceObs := [],
    active := if isRun then b.active.map (fun a => { a with slices := a.slices + 1 }) else b.active,
    sweep := if isRun then b.sweep else b.sweep.map (fun a => { a with slices := a.slices + 1 }) })
  checkSweep (checkRun s)

/-- A slice of a run that is cancelled ends with the segment in progress; a bank's test goes on to its end (R513). -/
def cutSlice (s : State) : State :=
  let w := sliceSoFar s
  match jobUnits true w.1.bist with
  | .bank _ :: _ | [] => s
  | u :: _ => s.modBist (fun b => { b with lastSliceEnd := min b.lastSliceEnd (s.now + (unitNs (jobAlg true s) u - w.2)) })

/-- SELFTEST_SLICE_START (R511): once a slot has started at least SELFTEST_SLICE_GAP after the previous slice ended. -/
def execSelftestSliceStart (r : SliceIn) (s : State) : Res :=
  .next (if s.fwUp && !s.bist.sliceRunning && s.bist.lastSliceEnd + s.live 0x0B04 * ms + s.intoSlot ≤ s.now then sliceStart r s else s)

/-- The end of a slice is the boundary of block 0x0B (R515); safe state stops one (Table 17.6). -/
def endSlice (s : State) : State :=
  if s.bist.sliceRunning && (decide (s.bist.lastSliceEnd ≤ s.now) || s.par.safe) then applyBlock 0x0B none (stopSlice s) else s

/-- The units of a sweep, in the order of R510. -/
def sweepUnits (rotation : Bool) (b : SelfTestSt) : List TestUnit :=
  (match spareBank b with | some k => [TestUnit.bank k] | none => [])
    ++ (if rotation then ((List.range 32).filter (fun n => bankUse b n == .inUse)).map .bank else [])

/-- SELFTEST_SWEEP_START (R510). -/
def execSelftestSweepStart (s : State) : Res :=
  .next (match s.bist.sweepFrom with
    | some t =>
      if s.fwUp && s.bist.sweep.isNone && s.live 0x0B01 != 0 && t + s.live 0x0B01 * 3600 * sec ≤ s.now then
        s.modBist (fun b => { b with
          sweepFrom := some (s.now - (s.now - t) % (s.live 0x0B01 * 3600 * sec)),
          sweep := some { full := true, units := sweepUnits (s.live 0x0408 == 1) b ++ allAbut ++ allMram, tested := 0, failed := 0,
                          slices := 0 } })
      else s
    | none => s)

/-! ### Commands -/

/-- The units of a commanded run, or its refusal (R513). A bank now under a background test is the spare by then (log entry 140). -/
def runUnits (s : State) (target index : Nat) : Option (List TestUnit) :=
  let b := s.bist
  let rot := s.live 0x0408 == 1
  if target = 1 then
    (match bankUse b index with
      | .spare => some [.bank index]
      | .underTest => some [.bank index]
      | .inUse => if rot && (spareBank b).isSome then some [.bank index] else none
      | .retired => none)
  else if target = 2 then some allAbut
  else if target = 3 then (if index < 33 then none else some ((List.range 64).map (fun k => .mram (64 * index + k))))
  else if (spareBank b).isSome then some (sweepUnits rot b) else none

def selftestRun (c : LiveCmd) (s : State) : State :=
  let p := c.params
  let target := fld p 0 1
  let index := fld p 1 1
  let alg := fld p 2 1
  let budget := if fld p 4 4 = 0 then s.live 0x0B03 else fld p 4 4
  if target = 0 ∨ 4 < target ∨ (target = 1 ∧ 31 < index) ∨ alg = 0 ∨ 2 < alg then fail c stBadParam dNone s
  else if !zeroAt p 3 1 ∨ ((target = 2 ∨ target = 4) ∧ index ≠ 0) then fail c stBadParam dReservedBit s
  else if budget < 100 ∨ 20000 < budget then fail c stOutOfRange dNone s
  else if s.bist.active.isSome then fail c stBusy 0x81 s
  else match runUnits s target index with
    | none => fail c stBusy 0x80 s
    | some us =>
      let n := s.bist.nextRun
      let r : TestRun :=
        { number := n, target := target, index := index, algorithm := alg, sliceUs := budget, seq := c.seq,
          started := s.time.spanT, startedNs := s.now, slices := 0, outcome := none, misr := 0, golden := 0,
          failOffset := 0xFFFFFFFF, elapsed := 0, units := us, refusals := 0, cancelled := false }
      waitFor c (.selftest n) [] (s.modBist (fun b => { b with active := some r, nextRun := (n + 1) % 0xFFFF }))

/-- SELFTEST_RUN (R121, R513). -/
def execSelftestRun (sid tag : Nat) (s : State) : Res := .next (runCmd 0x0B01 sid tag selftestRun s)

def selftestResult (c : LiveCmd) (s : State) : State :=
  let n := fld c.params 0 2
  if !zeroAt c.params 2 2 then fail c stBadParam dReservedBit s
  else match (if n = 0xFFFF then s.bist.runs.getLast? else s.bist.runs.find? (fun r => r.number == n)) with
    | none => fail c stBadParam 0x80 s
    | some r =>
      complete c stOk dNone (le 2 r.number ++ [byte r.target, byte r.index, byte r.algorithm, byte (r.outcome.getD 0)] ++ zeros 2
        ++ encTime r.started ++ zeros 2 ++ le 4 r.misr ++ le 4 r.golden ++ le 4 r.failOffset) s

/-- SELFTEST_RESULT (R122). -/
def execSelftestResult (sid tag : Nat) (s : State) : Res := .next (runCmd 0x0B02 sid tag selftestResult s)

def selftestSchedule (c : LiveCmd) (s : State) : State :=
  let p := c.params
  if !zeroAt p 3 1 then fail c stBadParam dReservedBit s
  else writeAndCommit c [(0x0B01, fld p 0 2), (0x0B02, fld p 2 1), (0x0B03, fld p 4 4)] 0x0B s

/-- SELFTEST_SCHEDULE (R123). -/
def execSelftestSchedule (sid tag : Nat) (s : State) : Res := .next (runCmd 0x0B03 sid tag selftestSchedule s)

/-! ### Scan, the vault and PFAIL -/

/-- Main SRAM banks that hold secrets. -/
def secretBanks (s : State) : Nat := (s.bist.banks.filter (fun b => b.2 == 6)).length

/-- SCAN_REQUEST (R514): steps 1 to 3 of Table 17.3 take 2 µs at most; step 4 takes 163.84 µs for each secret-tagged bank. -/
def scanRequest (s : State) : State :=
  let n := secretBanks s
  let s := s.modBist (fun b => { b with coresHalted := true })
  let s := clearKeystone (seqTakes s)
  let s := s.modSec (fun k => { k with lfsr := 0, guardSamples := [] })
  s.modBist (fun b => { b with scanAt := some (s.now + n * 163840) })

/-- Step 5 of Table 17.3: the secret banks are written with zeros, scan is enabled and recorded. -/
def scanTick (s : State) : State :=
  match s.bist.scanAt with
  | none => s
  | some t =>
    if s.now < t then s
    else ev evScanEntered [byte (secretBanks s)] ((zeroBanks s).modBist (fun b => { b with scanAt := none, scanEnabled := true }))

/-- SCAN_REQUEST: in TEST too DEBUG_UNLOCK permits scan (R466, R514). Mark: DEDUCED (log entry 141). -/
def execScanRequest (s : State) : Res :=
  .next (if s.testRoot && s.sec.debugUnlocked && s.boot.phase == .firmware && !s.bist.scanEnabled && s.bist.scanAt.isNone
      then scanRequest s else s)

/-- VAULT_SCRUB (R433, R508): result 0 clean, 1 a single-bit error corrected, 2 a double error. -/
def execVaultScrub (result : Nat) (s : State) : Res :=
  .next (if !s.deckUp then s
    else if result = 1 then raiseCE srcAbutSram [] s
    else if result = 2 then raiseUC srcAbutSram [] s
    else s)

/-- A falling `PFAIL_N` ends the slice: an MRAM segment in progress keeps its marker, one of ABUT SRAM is restored (Table
17.6). -/
def pfailSlice (s : State) : State :=
  if !s.bist.sliceRunning then s
  else
    let w := sliceSoFar s
    let mark := match jobUnits s.bist.sliceRun w.1.bist with | .mram k :: _ => if w.2 = 0 then none else some (128 * k) | _ => none
    (applyBlock 0x0B none (stopSlice s)).modBist (fun b => { b with marker := mark.orElse (fun _ => b.marker) })

/-- PFAIL_FALL (R347, R408, R449, R513): the flush, the staging, the end of a commanded run, the wake. The flush covers the samples
that the rows before it brought (log entry 131). -/
def pfailFall (s : State) : State :=
  let s := s.modMeter (fun m => { m with pfail := true })
  let s := if meterRuns s then flushTotals s else s
  let s := pfailSlice (s.modPar (stageAll s.now))
  let s := match s.bist.active with | some r => abortRun r stOk s | none => s
  if s.fb.backup || s.boot.phase != .firmware then s else wakeUp 7 s

def execPfailFall (s : State) : Res := .next (if s.meter.pfail then s else pfailFall s)

end Sys2Proof.Machine
end

