-- ==== Sys2Proof/Machine/Twin.lean ====
section
/-! DEFINITION. Twin operation (chapter 11): the link, health, the cycle-end copy, the journal, time exchange, the lease and
takeover, with TWIN_STATUS, TWIN_CONFIG and LEASE_YIELD. -/

namespace Sys2Proof.Machine

/-! ### Health (R385, R386, Table 11.6) -/

/-- A port that the region profile uses has failed. -/
def usedPortFailed (s : State) : Bool :=
  match s.mac.region with
  | none => false
  | some r => s.mac.portA.failed || (Nat.blt 1 (fld r 4 1) && s.mac.portB.failed)

/-- A bank has been retired and no spare is left. -/
def noSpareLeft (b : SelfTestSt) : Bool := b.banks.any (fun x => x.1 == .retired) && (spareBank b).isNone

def State.firmwareVersion (s : State) : Nat := fld (s.upd.slot s.upd.booted).header 12 6

/-- The health word. -/
def health (s : State) : Nat :=
  let t := s.twin
  let bs : List Bool :=
    [s.par.safe, s.keyless, s.par.pending != [], s.bist.bankFailed || s.bist.otherFailed || noSpareLeft s.bist, usedPortFailed s,
     s.time.state == .free, t.copyInvalid, t.copyStale, t.leaseConflict, t.beaconsMissed, t.meterMismatch,
     Nat.blt 16 (t.crcRecent.filter (fun c => s.spanNs / sec < c + 64)).length,
     (match t.hello with | some h => h.leaseMs != s.live 0x0A01 | none => false),
     (match t.hello with | some h => h.firmware != s.firmwareVersion | none => false)]
  ((bs.zip (List.range 14)).map (fun x => b2n x.1 * 2 ^ x.2)).sum

def cleanWord (h : Nat) : Bool := bits h 8 0 == 0

/-- HEALTH is sent once per cycle and at each change (R368). -/
def sendHealth (s : State) : State :=
  let h := health s
  twinSend 0x0D (le 4 h ++ zeros 4) (s.modTwin (fun t => { t with lastHealthSent := h }))

/-! ### The link (R367 to R370) -/

/-- HELLO goes out whether or not the link is up. -/
def sendHello (s : State) : State :=
  let flags := s.live 0x0A02 + 2 * b2n (s.twin.latch && s.twin.interlock)
  (twinPut 0x01 (le 16 s.otp.unitId ++ le 6 s.firmwareVersion ++ le 4 (s.live 0x0A01) ++ [byte flags] ++ zeros 5) s).modTwin
    (fun t => { t with lastHello := s.now })

/-- The member can use its link: its latch is set and its cores run. -/
def twinAlive (s : State) : Bool := s.twin.latch && s.fwUp

/-- TWIN_HELLO_TIMER (R369): every 10 ms while the link is down. -/
def execTwinHelloTimer (s : State) : Res :=
  .next (if twinAlive s && s.twin.link != .up && s.twin.lastHello + 10 * ms ≤ s.now then sendHello s else s)

/-- HEARTBEAT_TIMER (R368): 1 ms without another frame, and none waiting to leave. -/
def execHeartbeatTimer (s : State) : Res :=
  .next (if twinAlive s && s.twin.link == .up && s.twin.lastSent + ms ≤ s.now && s.twin.tx == []
      then twinSend 0x02 [] s else s)

/-- The link goes down: what waited on it does not come (R369, R379, R380). -/
def linkDown (s : State) : State :=
  let s := s.modTwin (fun t => { t with
    link := .down, validSince := s.now, copyIn := none, copyOut := none, tx := [], rxSeq := [], journalWait := [],
    t1Next := none, t2 := none, t3 := none, t4 := none })
  let s := s.modHost (fun h => { h with live := h.live.map (fun c => { c with journaled := true }) })
  ev evTwinLinkDown [] (loseSource 5 s)

/-- TWIN_LINK_DOWN_TIMEOUT (R369): 8 ms without a valid frame. In training the peer's HELLO is waited for again. -/
def execTwinLinkDownTimeout (s : State) : Res :=
  .next (if twinAlive s && s.twin.link == .up && s.twin.lastValid + 8 * ms ≤ s.now then linkDown s
    else if s.twin.link == .training && s.twin.lastValid + 8 * ms ≤ s.now then s.modTwin (fun t => { t with link := .down })
    else s)

/-- Every valid frame keeps the link alive. -/
def heard (s : State) : State := s.modTwin (fun t => { t with lastValid := s.now })

/-- Payload lengths of a frame type, least and greatest (Table 11.2). -/
def linkLength (type : Nat) : Nat × Nat :=
  if type = 0x04 then (8, 4096) else if type = 0x09 then (8, 4096)
  else
    let n := match type with
      | 0x01 => 32 | 0x03 => 24 | 0x05 => 16 | 0x06 => 8 | 0x07 => 24 | 0x08 => 20 | 0x0A => 8 | 0x0B => 16 | 0x0C => 4 | 0x0D => 8
      | 0x0E => 4 | _ => 0
    (n, n)

/-- A frame with a wrong CRC or length is discarded and counted (R368). -/
def frameBad (s : State) : State :=
  s.modTwin (fun t => { t with
    crcErrors := t.crcErrors + 1, validSince := s.now,
    crcRecent := (t.crcRecent.filter (fun c => s.spanNs / sec < c + 64)) ++ [s.spanNs / sec] })

/-- TWIN_FRAME_BAD (R368). -/
def execTwinFrameBad (s : State) : Res := .next (if twinAlive s && bankGood 0 s then frameBad s else s)

/-- The frame's length is its type's. -/
def lengthOk (type : Nat) (f : LinkIn) : Bool :=
  Nat.ble (linkLength type).1 f.payload.length && Nat.ble f.payload.length (linkLength type).2

/-- A frame of a type that is used only while the link is up. -/
def onLink (type : Nat) (f : LinkIn) (k : State → State) (s : State) : State :=
  if twinAlive s && bankGood 0 s then
    if lengthOk type f then (let s := heard s; if s.twin.link = .up then k s else s) else frameBad s
  else s

/-- The election at start-up (R374): PREFERRED wins over its absence, then the lower unit ID. -/
def winsElection (s : State) (h : PeerHello) : Bool :=
  let own := s.live 0x0A02 == 1
  if own != h.preferred then own else Nat.blt s.otp.unitId h.unitId

/-- `TW_LEASE_OUT` is asserted for a take (R372); the lease is taken when the interlock opens. -/
def assertLease (cause : Nat) (s : State) : State := s.modTwin (fun t => { t with leaseOut := true, takeCause := cause })

def decHello (p : Bytes) : PeerHello :=
  { unitId := fld p 0 16, firmware := fld p 16 6, leaseMs := fld p 22 4, preferred := (fld p 26 1).testBit 0,
    holder := (fld p 26 1).testBit 1 }

/-- The link comes up: sequences start anew, a FULL copy is due, and at start-up the election takes place (R369, R374, R378). -/
def linkUp (h : PeerHello) (s : State) : State :=
  let s := s.modTwin (fun t => { t with
    link := .up, linkUpSinceReset := true, copyInvalid := true, needFull := true, rxSeq := [], copyIn := none, copyOut := none,
    journalWait := [] })
  let s := s.modMeter (fun m => { m with seeded := false })
  let s := ev evTwinLinkUp [] s
  let s := sendHealth s
  if s.standby && !s.twin.leaseOut && !s.twin.leaseIn && !h.holder && winsElection s h then assertLease 3 s else s

/-- 256 consecutive valid characters take 12.8 µs of the line; between frames it carries commas (R367, R369). -/
def charsValid (s : State) : Bool := Nat.ble (s.twin.validSince + 12800) s.now

/-- A trained link comes up as soon as both conditions of R369 hold. -/
def trainLink (s : State) : State :=
  match s.twin.hello with
  | some h => if s.twin.link == .training && charsValid s then linkUp h s else s
  | none => s

/-- TWIN_HELLO (R369, R372, R374). A peer whose link is still down goes on sending HELLO and needs one: a member whose link is up
answers it, at most every 10 ms (log entry 149). -/
def twinHello (f : LinkIn) (s : State) : State :=
  let h := decHello f.payload
  let s := heard s
  let s := s.modTwin (fun t => { t with hello := some h, helloSinceReset := true })
  if s.twin.link = .up then (if s.twin.lastHello + 10 * ms ≤ s.now then sendHello s else s)
  else trainLink (s.modTwin (fun t => { t with link := .training }))

def execTwinHello (f : LinkIn) (s : State) : Res :=
  .next (if twinAlive s && bankGood 0 s then (if lengthOk 0x01 f then twinHello f s else frameBad s) else s)

/-- HEARTBEAT (R368). -/
def execHeartbeat (f : LinkIn) (s : State) : Res := .next (onLink 0x02 f id s)

/-- HEALTH (R385). -/
def execHealth (f : LinkIn) (s : State) : Res :=
  .next (onLink 0x0D f (fun s => s.modTwin (fun t => { t with peerHealth := fld f.payload 0 4 })) s)

/-- What the receiver of COPY and JOURNAL frames does with a sequence number (R368): the next one expected passes, a gap is
reported with NAK, an old one is a repeat. -/
def inSequence (type : Nat) (f : LinkIn) (ok : State → State) (s : State) : State :=
  match get? s.twin.rxSeq type with
  | none => ok (s.modTwin (fun t => { t with rxSeq := put t.rxSeq type ((f.seq + 1) % 65536) }))
  | some n =>
    if f.seq = n then ok (s.modTwin (fun t => { t with rxSeq := put t.rxSeq type ((n + 1) % 65536) }))
    else if (f.seq + 65536 - n) % 65536 < 32768 then twinSend 0x0E ([byte type, 0] ++ le 2 n) s
    else s

/-- NAK (R368): the kept frames of the type from the named sequence go out again with RESEND set, but for those still waiting. -/
def nak (f : LinkIn) (s : State) : State :=
  let type := fld f.payload 0 1
  let first := fld f.payload 2 2
  let again := s.twin.sent.filter (fun x => x.type == type && (x.seq + 65536 - first) % 65536 < 32768
    && !s.twin.tx.any (fun y => y.type == type && y.seq == x.seq))
  s.modTwin (fun t => { t with tx := again.foldl (fun l x => insertAgain { x with resend := true } l) t.tx })

def execNak (f : LinkIn) (s : State) : Res := .next (onLink 0x0E f (nak f) s)

/-! ### The cycle-end copy (R377 to R379) -/

/-- The cycle whose end the copy beside a RENEW carries: the one before, none before cycle 0 or while the span is stopped (R377,
R379). -/
def endedCycle (cycle : Nat) : Nat := if cycle = 0xFFFFFFFF ∨ cycle = 0 then 0xFFFFFFFF else cycle - 1

/-- The state a copy carries (Table 11.5): of the registers, the totals as the last second closed them (R23). -/
def toCopy (cycle : Nat) (s : State) : CopyImage :=
  { cycle := cycle, timeT := s.time.spanT, capturedAt := s.now, cont := s.fb.cont, agent := s.fb.agent, lease := s.twin.lease, phase := s.mac.phase,
    counters := s.mac.counters, floodSeq := s.mac.floodSeq, settings := s.set.live.filter (fun e => blockOf e.1 != 0x0A),
    stdOffset := s.rtc.stdOffset, transitions := s.rtc.transitions, table := s.fb.tableSram, alarms := s.rtc.alarms,
    lanterns := s.mac.lanterns, policies := s.truss.policies, fragments := s.truss.fragments, piers := s.truss.piers,
    sides := s.truss.sides, silentSince := s.truss.silentSince, kept := s.truss.kept, hold := s.truss.hold, configs := s.truss.configs, watches := s.truss.watches, ends := s.truss.ends, chans := s.lamp.chans, groups := s.lamp.groups, scenes := s.lamp.scenes, sceneVersion := s.lamp.sceneVersion,
    launches := s.lamp.launches, nextLaunch := s.lamp.nextLaunch, regs := s.meter.regsClosed,
    generation := max s.meter.copyA.generation s.meter.copyB.generation, pouts := s.meter.pouts,
    pins := s.meter.pins.map (·.total), results := s.meter.results, rollouts := s.upd.rollouts, links := s.mac.links,
    routes := s.mac.routes, heldTxns := s.mac.txns.filter (fun t => t.st == .queued), running := s.mac.running,
    epoch := s.mac.epoch, windowPhase := s.mac.windowPhase, floodsUsed := s.mac.floodsUsed, rootEui := s.mac.rootEui,
    keyUpdate := s.mac.keyUpdate, oldKeyUntil := s.mac.oldKeyUntil, cells := s.mac.cells, confVersion := s.mac.confVersion,
    netKeys := s.mac.netKeys, filled := (match s.meter.last with | some x => x.filled | none => false) }

/-- Byte strings cut into records of `k` bytes, with their offsets. -/
def records (k : Nat) (b : Bytes) : List (Nat × Bytes) :=
  (List.range ((b.length + k - 1) / k)).map (fun i => (k * i, sub b (k * i) k))

/-- Segments of a copy: all of it, or the 256-byte records that differ from the last committed one (R378). -/
def segments (old : Option Bytes) (new : Bytes) : List (Nat × Bytes) :=
  match old with
  | none => records 4088 new
  | some o => (records 256 new).filter (fun r => sub o r.1 256 != r.2)

/-- The sets that apply at this T clear TWIN_ENABLE: the RENEW of this T is the last (R372). -/
def twinEnds (s : State) : Bool :=
  match pendOf s 0x0A with
  | some p => p.entries.any (fun e => e.1 == 0x0A00 && e.2 == 0)
  | none => false

/-- RENEW, then the copy of the state at T (Table 11.4, R377, R378): cycle n + 1 begins, the copy carries the end of n. -/
def renewAndCopy (cycle : Nat) (step : Int) (s : State) : State :=
  let ended := endedCycle cycle
  let img := toCopy ended s
  let full := s.twin.needFull || s.twin.copyAcked.isNone
  let raw := Config.copyEncode img
  let segs := segments (if full then none else s.twin.copyAcked.map Config.copyEncode) raw
  let s := twinSend 0x03 (le 4 cycle ++ le 4 (s.live 0x0A01) ++ le 4 (health s) ++ [byte (b2n (s.twin.yielding || twinEnds s) + 2 * b2n full)]
    ++ zeros 3 ++ le 8 (ofS 64 step)) s
  let s := segs.foldl (fun s g => twinSend 0x04 (le 4 ended ++ le 4 g.1 ++ g.2) s) s
  let body := segs.flatMap (·.2)
  let s := twinSend 0x05 (le 4 ended ++ le 4 body.length ++ le 4 (crc32c body) ++ zeros 4) s
  s.modTwin (fun t => { t with
    copyOut := if t.link = .up then some (ended, img) else none, copyCycle := some ended, copySize := body.length,
    renewedAt := s.now, renewCycle := some cycle })

/-- The lease is given up in order: the pin falls after the final copy, and LEASE_RELEASED is recorded (R372, R387). -/
def releaseLease (s : State) : State :=
  let s := loseLease (dropLeaseOut (s.modTwin (fun t => { t with yielding := false })))
  ev evLeaseReleased [] (refreshLdEn s)

/-- TWIN_ENABLE was cleared on the holder and its final RENEW has gone: the lease is lost, and its pin falls (R372, R387). -/
def leaveTwin (s : State) : State :=
  let s := loseLease (s.modTwin (fun t => { t with leaving := false, leaseOut := false, lease := .standby }))
  ev evLeaseReleased [] (refreshLdEn s)

/-- COPY (R378): a segment of the cycle's copy. -/
def copySegment (f : LinkIn) (s : State) : State :=
  inSequence 0x04 f (fun s =>
    s.modTwin (fun t => { t with
      copyIn := t.copyIn.map (fun c =>
        if c.1 = fld f.payload 0 4 then (c.1, c.2.1, c.2.2 ++ [(fld f.payload 4 4, f.payload.drop 8)]) else c) })) s

def execCopy (f : LinkIn) (s : State) : Res := .next (onLink 0x04 f (fun s => if s.standby then copySegment f s else s) s)

/-- Replaces bytes at an offset, extending if needed. -/
def overlay (b : Bytes) (g : Nat × Bytes) : Bytes := fit (max b.length (g.1 + g.2.length)) b |>.take g.1 |>.append (g.2 ++ b.drop (g.1 + g.2.length))

/-- Network keys that a copy brings: own counters and tracking of a key that is new start again from zero (R216). -/
def installKeys (img : CopyImage) (m : MacSt) : MacSt :=
  let fresh (idx : Nat) : Bool := img.netKeys.any (fun k => k.1 + 1 == idx && get? m.netKeys k.1 != some k.2)
  { m with
    netKeys := img.netKeys, phase := img.phase, keyUpdate := img.keyUpdate, oldKeyUntil := img.oldKeyUntil,
    counters := m.counters.map (fun c => if fresh c.1 then (c.1, 0) else c),
    rxCounters := m.rxCounters.filter (fun e => !fresh (e.1 / 65536)) }

/-- What the standby puts into service at once: settings, keys, the lantern table and routes it transmits and listens under
(R34, R356, R381). -/
def installStandby (img : CopyImage) (s : State) : State :=
  let ids := (s.set.live.filter (fun e => blockOf e.1 != 0x0A)).map (·.1) ++ img.settings.map (·.1)
  let s := ids.foldl (fun s id =>
    let v := (get? img.settings id).getD (settingReset s id)
    if s.live id = v then s else applySetting id v s) s
  let s := (syncShadow s).modMac (fun m => { installKeys img m with
    lanterns := img.lanterns, links := img.links, routes := img.routes, cells := img.cells, rootEui := img.rootEui,
    epoch := img.epoch, running := img.running, windowPhase := img.windowPhase, floodSeq := img.floodSeq,
    floodsUsed := img.floodsUsed, confVersion := img.confVersion,
    cycle := if img.running then (s.spanNs - img.epoch) / sec else m.cycle })
  s.modMeter (fun m => { m with
    regs := if m.seeded then m.regs else img.regs, regsClosed := if m.seeded then m.regsClosed else img.regs, seeded := true,
    holderImport := img.regs.getD 0 0, holderFilled := m.holderFilled || img.filled })

/-- The copy carries the end of the cycle in which the entry's command completed: cycles are whole seconds of span time, and so are the
copy's T of a stopped span (R380, log entry 151). -/
def coveredBy (img : CopyImage) (j : JournalEnt) : Bool := j.completed && Nat.blt j.doneSec (stSec img.timeT)

/-- A copy is committed whole (R379): journal entries completed by its cycle go, and room is told to the holder (R380). -/
def commitCopy (cycle : Nat) (full : Bool) (raw : Bytes) (img : CopyImage) (s : State) : State :=
  let s := installStandby img s
  let wasFull := 4096 ≤ s.twin.journal.length
  let s := s.modTwin (fun t => { t with
    committed := some img, copyRaw := raw, copyCycle := some cycle, copySize := raw.length, copyStale := false, staleCount := 0,
    copyInvalid := t.copyInvalid && !full, ownRegs := s.meter.regsClosed, ownPins := s.meter.pins.map (·.total),
    journal := t.journal.filter (fun j => !coveredBy img j) })
  if wasFull ∧ s.twin.journal.length < 4096 then
    match get? s.twin.rxSeq 0x0B with
    | some n => twinSend 0x0E ([0x0B, 0] ++ le 2 n) s
    | none => s
  else s

/-- COPY_END (R379): byte count and CRC-32C decide. -/
def copyEnd (f : LinkIn) (s : State) : State :=
  let cycle := fld f.payload 0 4
  let answer (r : Nat) (s : State) : State := twinSend 0x06 (le 4 cycle ++ [byte r] ++ zeros 3) s
  match s.twin.copyIn with
  | none => answer 1 s
  | some (c, full, segs) =>
    let s := s.modTwin (fun t => { t with copyIn := none })
    let body := segs.flatMap (·.2)
    if c ≠ cycle ∨ body.length ≠ fld f.payload 4 4 ∨ crc32c body ≠ fld f.payload 8 4 ∨ (!full ∧ s.twin.copyInvalid) then answer 1 s
    else
      let raw := segs.foldl overlay (if full then [] else s.twin.copyRaw)
      match Config.copyDecode raw with
      | none => answer 1 s
      | some img => answer 0 (commitCopy cycle full raw img s)

def execCopyEnd (f : LinkIn) (s : State) : Res := .next (onLink 0x05 f (fun s => if s.standby then copyEnd f s else s) s)

/-- COPY_ACK (R378, R379): the next delta is built on an accepted copy; a yielding
holder whose final copy this answers then releases the lease (R120). -/
def copyAck (f : LinkIn) (s : State) : State :=
  let s := match s.twin.copyOut with
    | some (c, img) =>
      if c = fld f.payload 0 4 then
        if fld f.payload 4 1 = 0 then
          s.modTwin (fun t => { t with copyAcked := some img, copyOut := none, needFull := false })
        else s.modTwin (fun t => { t with copyOut := none, needFull := true })
      else s
    | none => s
  if s.twin.yielding && s.twin.yieldSent && s.twin.latch && s.holder then releaseLease s else s

def execCopyAck (f : LinkIn) (s : State) : Res := .next (onLink 0x06 f (fun s => if s.standby then s else copyAck f s) s)

/-! ### Renewal (R377, R384) -/

/-- The peer reports lease holder: a LEASE_YIELD completes (R120). -/
def yieldDone (cycle : Nat) (s : State) : State :=
  let r := le 4 (s.twin.renewCycle.getD 0xFFFFFFFF) ++ le 4 (endedCycle cycle)
  lateSuccess (fun r => r.wait == .yield) stOk (completeAll (fun c => c.begun && c.wait == .yield) stOk dNone r s)

/-- A step that the holder applied at T is applied here at the same T; above 100 µs it restarts the span (R296, R384). -/
def followStep (x : Int) (s : State) : State :=
  if x = 0 then s
  else if s.mac.running && Nat.blt 100000 x.natAbs then
    let s := applyStep x 5 3 none (endSpan stCancelled 0x80 s)
    ev evSpanRestarted [] (scheduleStart (secAtOrAfter (s.spanNs + sec)) s)
  else applyStep x 5 (if s.mac.running then 2 else 1) none s

/-- RENEW. -/
def renew (f : LinkIn) (s : State) : State :=
  let p := f.payload
  let cycle := fld p 0 4
  let flags := fld p 12 1
  let s := yieldDone cycle s
  let s := s.modTwin (fun t => { t with
    renewedAt := s.now, renewCycle := some cycle, peerHealth := fld p 8 4, peerYields := flags.testBit 0,
    hello := t.hello.map (fun h => { h with leaseMs := fld p 4 4 }),
    copyIn := some (endedCycle cycle, flags.testBit 1, []) })
  followStep (toS 64 (fld p 16 8)) s

def execRenew (f : LinkIn) (s : State) : Res := .next (onLink 0x03 f (fun s => if s.standby then renew f s else s) s)

/-- COPY_STALE (R385). -/
def execCopyStale (s : State) : Res :=
  .next (if s.standby && s.fwUp && Nat.blt (s.live 0x0A04) s.twin.staleCount then s.modTwin (fun t => { t with copyStale := true })
    else s)

/-- A cycle start on a standby: HEALTH, an incomplete copy abandoned, and the count of COPY_STALE (R368, R379, R385). -/
def standbyCycle (s : State) : State :=
  sendHealth (s.modTwin (fun t => { t with copyIn := none, staleCount := if t.leaseIn then t.staleCount + 1 else t.staleCount }))

/-- A cycle start on a holder: renewal and copy. A holder that yields stops renewing after its final copy: one never answered
by the next cycle start, or one that found the link down, lets the lease go (R120, R377). -/
def holderCycle (cycle : Nat) (step : Int) (s : State) : State :=
  if !s.twin.latch then s
  else if s.twin.yielding && s.twin.yieldSent then releaseLease s
  else
    let s := sendHealth (renewAndCopy cycle step s)
    if s.twin.yielding && s.twin.link != .up then releaseLease s else s.modTwin (fun t => { t with yieldSent := t.yielding })

/-! ### The journal (R380) -/

/-- JOURNAL on the standby: an ACCEPTED entry is kept and acknowledged, a COMPLETED one is noted. -/
def journalFrame (f : LinkIn) (s : State) : State :=
  let p := f.payload
  if fld p 0 1 = 1 ∧ 4096 ≤ s.twin.journal.length then s
  else
    inSequence 0x0B f (fun s =>
      let s :=
        if fld p 0 1 = 1 then
          s.modTwin (fun t => { t with
            journal := t.journal ++ [{ sid := fld p 1 1, tag := fld p 2 1, opcode := fld p 4 2, acceptedCycle := fld p 8 4,
                                       completed := false, status := 0xFF, doneSec := 0 }] })
        else
          s.modTwin (fun t => { t with
            journal := t.journal.map (fun j =>
              if j.sid = fld p 1 1 ∧ j.tag = fld p 2 1 ∧ j.acceptedCycle = fld p 8 4 ∧ !j.completed then
                { j with completed := true, status := fld p 12 1, doneSec := s.spanNs / sec }
              else j) })
      twinSend 0x0C (le 2 f.seq ++ zeros 2) s) s

def execJournal (f : LinkIn) (s : State) : Res := .next (onLink 0x0B f (fun s => if s.standby then journalFrame f s else s) s)

/-- JOURNAL_ACK (R380): the entry's command may begin. -/
def journalAck (f : LinkIn) (s : State) : State :=
  let q := fld f.payload 0 2
  match s.twin.journalWait.find? (fun w => w.1 == q) with
  | none => s
  | some w =>
    (s.modCmd w.2 (fun c => { c with journaled := true })).modTwin (fun t => { t with
      journalWait := t.journalWait.filter (fun x => x.1 != q) })

def execJournalAck (f : LinkIn) (s : State) : Res := .next (onLink 0x0C f (journalAck f) s)

/-- A command that must be journaled is sent; until its acknowledgement it waits (R380). -/
def journalAccept (c : LiveCmd) (s : State) : State :=
  if s.twin.latch && s.holder && s.twin.link == .up && journalOp c.opcode then
    let q := (get? s.twin.txSeq 0x0B).getD 0
    let s := s.modCmd c.seq (fun c => { c with journaled := false })
    (twinSend 0x0B (journalEntry 1 c 0) s).modTwin (fun t => { t with journalWait := t.journalWait ++ [(q, c.seq)] })
  else s

/-! ### Echo (R381) -/

/-- ECHO_FEED on the standby; one that arrives late is not sent. -/
def echoFed (f : LinkIn) (s : State) : State :=
  let p := f.payload
  let asn := fld p 1 5
  if asn ≤ asnNow s then echoResult (fld p 0 1) asn 2 s
  else s.modTwin (fun t => { t with feeds := t.feeds ++ [(fld p 0 1, asn, fld p 6 1, p.drop 8)] })

def execEchoFeed (f : LinkIn) (s : State) : Res :=
  .next (onLink 0x09 f (fun s => if s.standby && s.mac.running then echoFed f s else s) s)

/-- ECHO_RESULT on the holder: either acknowledgement makes the attempt a success, the pair being one attempt. -/
def echoDone (f : LinkIn) (s : State) : State :=
  let asn := fld f.payload 0 5
  match s.mac.attempts.find? (fun a => a.port == fld f.payload 5 1 && a.echo == some asn) with
  | none => s
  | some a =>
    if fld f.payload 6 1 = 0 then endAttempt a true s
    else if a.noAck then endAttempt a false s
    else s.modMac (fun m => { m with attempts := m.attempts.map (fun x => if x = a then { x with echo := none } else x) })

def execEchoResult (f : LinkIn) (s : State) : Res := .next (onLink 0x0A f (fun s => if s.standby then s else echoDone f s) s)

/-! ### Time (R383) -/

def encTimeI (t : Option Int) : Bytes := match t with | some x => encTime (ofNs x.toNat) | none => zeros 10

def decTimeI (b : Bytes) : Option Int := if zeroAt b 0 10 then none else (decTime b).map (fun t => (stTotNs t : Int))

/-- Span time of the K27.7 character of a frame that has just ended: 14 bytes of framing and the payload, 50 ns each. -/
def frameStart (f : LinkIn) (s : State) : Int := (s.spanNs : Int) - (14 + f.payload.length) * 50

/-- TIME_EXCHANGE_TIMER: TIME at T + 500 ms of each cycle; its own timestamp is taken as it leaves. -/
def timeExchange (s : State) : State :=
  let s1 := twinSend 0x07 (le 4 s.evCycle ++ encTimeI s.twin.t1Next ++ encTimeI s.twin.t4) s
  s1.modTwin (fun t => { t with t4 := none, timeSentCycle := some (s.spanNs / sec) })

def execTimeExchangeTimer (s : State) : Res :=
  .next (if twinAlive s && s.holder && s.twin.link == .up && Nat.ble 500000000 (s.spanNs % sec)
      && s.twin.timeSentCycle != some (s.spanNs / sec) then timeExchange s else s)

/-- TWIN_TIME on the standby: one measurement from the exchange before, then TIME_ECHO. Source TWIN qualifies while the link is
up and the holder LOCKED: its beacons do not carry HOLDOVER, and its health word not TIME_FREE (R219, R287; DEDUCED, log entry 65). The echo leaves as soon as the line is free. -/
def twinTime (f : LinkIn) (s : State) : State :=
  let t2 : Int := frameStart f s
  let s1 := match decTimeI (sub f.payload 4 10), s.twin.t2, s.twin.t3, decTimeI (sub f.payload 14 10) with
    | some t1, some p2, some p3, some t4 =>
      let s := modSource 5 (fun x => { x with count := x.count + 1, last := s.now }) s
      let s := if s.twin.peerHealth.testBit 5 || !s.mac.holderLocked then loseSource 5 s else qualify 5 s
      measure 5 (((t1 - p2) + (t4 - p3)) / 2) s
    | _, _, _, _ => s
  let t3 : Int := ((s1.spanNs + (s1.twin.lineFree - s1.now) : Nat) : Int)
  twinSend 0x08 (encTimeI (some t2) ++ encTimeI (some t3)) (s1.modTwin (fun t => { t with t2 := some t2, t3 := some t3 }))

def execTwinTime (f : LinkIn) (s : State) : Res := .next (onLink 0x07 f (fun s => if s.standby then twinTime f s else s) s)

/-- TIME_ECHO on the holder: t4. -/
def execTimeEcho (f : LinkIn) (s : State) : Res :=
  .next (onLink 0x08 f (fun s => if s.standby then s else s.modTwin (fun t => { t with t4 := some (frameStart f s) })) s)

/-! ### Takeover (R357, R388, R389) -/

/-- The shift from elapsed instants on the old holder's clock to this member's. -/
def copyShift (img : CopyImage) (s : State) : Int := ((s.now : Int) - ((s.spanNs : Int) - stTotNs img.timeT)) - img.capturedAt

def shiftBy (d : Int) (x : Nat) : Nat := ((x : Int) + d).toNat

/-- A fade stands at the step that its start gives (R251, R267). -/
def catchFade (now : Nat) (c : LampCh) : LampCh :=
  match c.fade with
  | none => c
  | some f =>
    let k := min f.steps ((now - f.t0) / (10 * ms))
    if k = 0 then c
    else { c with
      level := fadeDuty f.curve f.start f.target k f.steps, fade := if f.steps ≤ k then none else some { f with step := k } }

/-- So does the fade of a set's point (R256). -/
def catchPoint (now : Nat) (g : ColSet) : ColSet :=
  let k := min g.steps ((now - g.t0) / (10 * ms))
  if g.steps ≤ k then { g with point := g.target, steps := 0, step := 0 } else { g with step := k }

/-- A channel of the copy in service: its level, fade and claims; the periods are this member's own, on the same grid (R247, R267). -/
def takeChan (d : Int) (now : Nat) (own c : LampCh) : LampCh :=
  catchFade now { c with
    fade := c.fade.map (fun f => { f with t0 := shiftBy d f.t0 }),
    claims := c.claims.map (fun x => { x with until_ := x.until_.map (shiftBy d) }),
    duty := own.duty, period := own.period, error := own.error, periodAt := own.periodAt, ticks := own.ticks, pulses := own.pulses }

/-- Totals, pulses and windows (R357): the copy's registers plus this member's own increments since; what was routed since
is not pulsed. -/
def resumeMeter (img : CopyImage) (s : State) : State :=
  let inc (r : Nat) : Nat := s.meter.regs.getD r 0 - s.twin.ownRegs.getD r 0
  let regs := (List.range 20).map (fun r => img.regs.getD r 0 + inc r)
  let s := s.modMeter (fun m => { m with
    regs := regs, regsClosed := regs, genFloor := img.generation, results := img.results,
    pouts := img.pouts.map (fun o => { o with phase := 0 }),
    pins := (m.pins.zip (List.range 4)).map (fun p =>
      { p.1 with total := img.pins.getD p.2 0 + (p.1.total - s.twin.ownPins.getD p.2 0) }) })
  let s := [0, 1, 2, 3].foldl (fun s k =>
    let r := s.live (0x0640 + k)
    if r < 20 then ev evMeterPulseGap ([byte k] ++ le 8 (inc r / 2 ^ 32)) s else s) s
  startPulses s

/-- Alarms of the copy, the instants since it handled as a forward step (R319, R331). -/
def resumeAlarms (img : CopyImage) (s : State) : State :=
  let b := s.rtc.ticks
  let a := b - (s.spanNs - stTotNs img.timeT) * tickHz / sec
  let s := s.modRtc (fun r => { r with alarms := img.alarms, stdOffset := img.stdOffset, transitions := img.transitions })
  let last := calRange * tickHz - 1
  if s.rtc.valid then alarmStep 1 (min a last) (min b last) (alarmStep 0 (min a last) (min b last) s) else s

/-- Before its first origination a new holder advances every downlink series by 4,096 and the flood sequence by 1,024, all of it
used up under the present key (R217, R227). -/
def advanceSeries (s : State) : State :=
  s.modMac (fun m => { m with
    lanterns := m.lanterns.map (fun p => (p.1, { p.2 with downSeq := (p.2.downSeq + 4096) % 65536 })),
    floodSeq := (m.floodSeq + 1024) % 65536, floodsUsed := m.floodsUsed + 1024 })

/-- The state of the last committed copy goes into service (Table 11.7 step 3). -/
def resumeCopy (img : CopyImage) (s : State) : State :=
  let d := copyShift img s
  let s := s.modFb (fun f => { f with cont := img.cont, tableSram := img.table, tableVault := img.table, tableStore := img.table })
  let s := s.modTruss (fun u => { u with
    policies := img.policies, fragments := img.fragments.map (fun f => { f with movedAt := shiftBy d f.movedAt, push := none }),
    piers := img.piers.map Pier.unsent, savedPiers := img.piers, sides := img.sides,
    silentSince := img.silentSince.map (fun x => (x.1, shiftBy d x.2)), configs := img.configs, watches := img.watches, ends := img.ends, kept := img.kept, hold := img.hold.map (fun h => (shiftBy d h.1, h.2)), evalDue := true })
  let s := s.modLamp (fun l => { l with
    chans := (l.chans.zip img.chans).map (fun c => takeChan d s.now c.1 c.2),
    groups := img.groups.map (fun g => catchPoint s.now { g with t0 := shiftBy d g.t0 }),
    scenes := img.scenes, sceneVersion := img.sceneVersion, launches := img.launches, nextLaunch := img.nextLaunch })
  let s := refreshDuty outputs s
  let s := s.modUpd (fun u => { u with rollouts := img.rollouts })
  let s := s.modMac (fun m => { m with
    lanterns := img.lanterns, floodSeq := img.floodSeq, floodsUsed := img.floodsUsed, holderMisses := 0,
    counters := img.counters.foldl (fun l c => put l c.1 (max ((get? l c.1).getD 0) (c.2 + Config.unstated 21 c.2))) m.counters,
    txns := img.heldTxns.map (fun t => { t with owner := none, expiry := shiftBy d t.expiry }) })
  resumeAlarms img (resumeMeter img s)

/-- Journaled commands that had not completed by the end of the copy's cycle (R389). -/
def unknownCommands (s : State) (img : CopyImage) : List JournalEnt := s.twin.journal.filter (fun j => !coveredBy img j)

/-- UNKNOWN_COMMAND for each, with the command's tag as the tag concerned (R84, R389). -/
def reportUnknown (us : List JournalEnt) (s : State) : State :=
  (us.zip (List.range us.length)).foldl (fun s x =>
    let j := x.1
    recordEv evUnknownCommand sourceModule (severityOf evUnknownCommand) ([byte j.sid, byte j.tag] ++ le 2 j.opcode ++ le 4 j.acceptedCycle ++ [byte j.status, byte x.2] ++ zeros 4) none j.tag s) s

/-- The window that contains the takeover: the new holder has its totals from here on only, and it is INCONCLUSIVE (R355, R357). -/
def takeoverWindow (s : State) : State :=
  if s.mac.running && s.meter.active && s.meter.window.isNone then
    let c := s.mac.cycle
    let p := s.mac.windowPhase
    let start := if c < p then 0 else c - (c - p) % 900
    s.modMeter (fun m => { m with window := some (newWindow start (decide (c < p)) s) })
  else s

/-- The takeover sequence (Table 11.7). Without a valid copy the member resumes from its own state (R375). -/
def takeover (s : State) : State :=
  let t := s.twin
  let s := s.modTwin (fun t => { t with
    interlock := true, resumeDue := false, lease := .holder, takeovers := t.takeovers + 1, beaconsMissed := false, staleCount := 0, needFull := true,
    backoffUntil := none, yielding := false, copyAcked := none })
  let from_ : Option CopyImage := if t.copyInvalid then none else t.committed
  let cycle := match from_ with | some img => img.cycle | none => 0xFFFFFFFF
  let us := match from_ with | some img => unknownCommands s img | none => []
  let s := loseSource 5 s
  let s := windowReason 2 (takeoverWindow (advanceSeries (match from_ with | some img => resumeCopy img s | none => s)))
  let s := refreshLdEn (startPulses s)
  let s := if s.keyless then s
    else (takeControl .firmware s).modFb (fun f => { f with keepalive := some (s.now + s.live 0x0113 * ms) })
  let s := fallbackEval s
  let s := ev evTakeover (le 4 cycle ++ le 4 (t.renewCycle.getD 0xFFFFFFFF) ++ le 2 us.length ++ [byte t.takeCause] ++ zeros 3) s
  let s := reportUnknown us s
  autoStart (s.modTwin (fun t => { t with journal := [] }))

/-- INTERLOCK_OPEN (R371, R388): `TW_LEASE_IN` low for 10 µs, and with the latch set `TW_LEASE_OUT` asserted. It is hardware; the
takeover follows once firmware runs. -/
def execInterlockOpen (s : State) : Res :=
  .next (if !s.twin.interlock && (!s.twin.leaseIn || (!s.twin.latch && !bankGood 0 s))
      && s.twin.leaseInLowSince + 10 * us ≤ s.now && (!s.twin.latch || (s.twin.leaseOut && bankGood 0 s)) then
      if s.twin.latch && s.fwUp then takeover s
      else refreshLdEn (s.modTwin (fun t => { t with
        interlock := true, lease := if t.latch then .holder else t.lease, resumeDue := t.latch }))
    else s)

/-! ### The lease pins (R371 to R376) -/

/-- A random number from 1 to 255, in ms. -/
def backoffMs (s : State) : Nat := 1 + Config.freeNat s.freeIdx % 255

/-- Both pins asserted on twin members (R374): the member whose unit ID is higher gives way; one that has never received HELLO
gives way for a random time. -/
def arbitrate (s : State) : State :=
  match s.twin.hello with
  | some h =>
    if h.unitId < s.otp.unitId then s.modTwin (fun t => { t with leaseOut := false, lease := .standby }) else s
  | none =>
    let b := backoffMs s
    s.draw.modTwin (fun t => { t with
      leaseOut := false, lease := .standby, backoffUntil := some (s.now + b * ms), loneWait := some (b * ms) })

/-- LEASE_IN_ASSERT (R371, R372, R374): the interlock closes. -/
def leaseInAssert (s : State) : State :=
  let held := s.twin.interlock
  let s := s.modTwin (fun t => { t with leaseIn := true, interlock := false })
  if !s.twin.latch then
    refreshLdEn (ev evLeaseConflict [] (s.modTwin (fun t => { t with
      leaseOut := false, lease := .conflict, leaseConflict := true, leaving := false })))
  else if s.twin.leaseOut then
    let s := s.modTwin (fun t => { t with lease := .conflict, resumeDue := false })
    let s := if held then refreshLdEn (loseLease s) else s
    arbitrate s
  else s

def execLeaseInAssert (s : State) : Res := .next (if s.twin.leaseIn || !bankGood 0 s then s else leaseInAssert s)

/-- LEASE_IN_DEASSERT (R371, R372, R408): the 10 µs wait starts; a module without a twin leaves CONFLICT; the fall wakes. -/
def leaseInDeassert (s : State) : State :=
  let s := s.modTwin (fun t => { t with leaseIn := false, leaseInLowSince := s.now })
  let s := if s.twin.latch then s
    else s.modTwin (fun t => { t with leaseOut := true, lease := .noTwin, leaseConflict := false })
  if s.boot.phase = .firmware then wakeUp 9 s else s

def execLeaseInDeassert (s : State) : Res := .next (if s.twin.leaseIn && bankGood 0 s then leaseInDeassert s else s)

/-- The take rule (R373). -/
def mayTake (s : State) : Bool :=
  s.standby && s.fwUp && !s.twin.leaseOut && !s.twin.leaseIn && s.twin.backoffUntil.isNone
    && s.twin.renewedAt + s.live 0x0A01 * ms ≤ s.now && cleanWord (health s)

/-- LEASE_EXPIRY_TAKE (R372, R373). -/
def execLeaseExpiryTake (s : State) : Res :=
  .next (if mayTake s then assertLease (if s.twin.peerYields then 2 else 1) s else s)

/-- The lone-start rule (R375), COPY_INVALID not counted; after a conflict the random wait stands for its 2 × TWIN_LEASE_MS. -/
def mayStartAlone (s : State) : Bool :=
  s.standby && s.fwUp && !s.twin.leaseOut && !s.twin.leaseIn && s.twin.backoffUntil.isNone
    && !s.twin.helloSinceReset && !s.twin.linkUpSinceReset
    && max s.twin.resetAt s.twin.leaseInLowSince + s.twin.loneWait.getD (2 * s.live 0x0A01 * ms) ≤ s.now
    && cleanWord (health s - (if s.twin.copyInvalid then 64 else 0))

/-- LONE_START_TIMER (R372, R375). -/
def execLoneStartTimer (s : State) : Res := .next (if mayStartAlone s then assertLease 4 s else s)

/-- CONFLICT_BACKOFF_TIMER (R374, R375): the wait is over; with no HELLO received the lone-start rule stands in place of R373. -/
def execConflictBackoffTimer (s : State) : Res :=
  .next (match s.twin.backoffUntil with
    | none => s
    | some t =>
      if s.now < t then s
      else
        let s := s.modTwin (fun t => { t with backoffUntil := none })
        if s.twin.helloSinceReset then (if mayTake s then assertLease 1 s else s)
        else if mayStartAlone s then assertLease 4 s
        else s)

/-- R376: since when each of the bits 0 to 5 of the own word has been set; the tick keeps it. -/
def noteUnhealthy (s : State) : State :=
  let h := health s
  s.modTwin (fun t => { t with
    unhealthySince := (List.range 6).filterMap (fun k =>
      if h.testBit k then some (k, (get? t.unhealthySince k).getD s.now) else none) })

/-- One of the health bits 0 to 5 has been set continuously for 10 s (R376). -/
def unhealthyLong (s : State) : Bool :=
  s.twin.unhealthySince.any (fun e => (health s).testBit e.1 && decide (e.2 + 10 * sec ≤ s.now))

/-- HEALTH_YIELD_TIMER (R376): the holder yields as LEASE_YIELD without FORCE would. -/
def execHealthYieldTimer (s : State) : Res :=
  .next (if s.live 0x0A03 == 1 && s.twin.latch && s.holder && s.fwUp && unhealthyLong s && s.twin.link == .up
      && cleanWord s.twin.peerHealth && !s.twin.yielding then s.modTwin (fun t => { t with yielding := true, yieldSent := false })
    else s)

/-- HOLDER_BEACONS_MISSED (R186): one cycle's slot 0 on the standby. -/
def execHolderBeaconsMissed (heard : Bool) (s : State) : Res :=
  .next (if s.standby && s.fwUp && s.mac.running then
      let n := if heard then 0 else s.mac.holderMisses + 1
      (s.modMac (fun m => { m with holderMisses := n })).modTwin (fun t => { t with beaconsMissed := Nat.ble 3 n })
    else s)

/-! ### Commands -/

def linkCode (l : LinkSt) : Nat := match l with | .down => 0 | .training => 1 | .up => 2

def twinStatus (c : LiveCmd) (s : State) : State :=
  let t := s.twin
  complete c stOk dNone ([byte (twinRole s), byte (linkCode t.link), byte (b2n t.leaseOut + 2 * b2n t.leaseIn), 0]
    ++ le 4 (health s) ++ le 4 t.peerHealth ++ le 4 (t.renewCycle.getD 0xFFFFFFFF) ++ le 4 (min ((s.now - t.renewedAt) / ms) 0xFFFFFFFF)
    ++ le 4 (s.live 0x0A01) ++ le 4 (t.copyCycle.getD 0xFFFFFFFF) ++ le 4 t.copySize ++ le 4 t.crcErrors ++ le 4 t.takeovers
    ++ le 4 (ofS 32 t.disagreement)) s

/-- TWIN_STATUS (Table 3.26). -/
def execTwinStatus (sid tag : Nat) (s : State) : Res := .next (runCmd 0x0A01 sid tag twinStatus s)

def twinConfig (c : LiveCmd) (s : State) : State :=
  let p := c.params
  let flags := fld p 4 1
  if 3 < flags ∨ !zeroAt p 5 3 then fail c stBadParam dReservedBit s
  else writeAndCommit c [(0x0A01, fld p 0 4), (0x0A00, flags % 2), (0x0A02, flags / 2)] 0x0A s

/-- TWIN_CONFIG (R119). -/
def execTwinConfig (sid tag : Nat) (s : State) : Res := .next (runCmd 0x0A02 sid tag twinConfig s)

/-- LEASE_YIELD (R120). On a module without a twin it waits until its deadline: DESIGN CHOICE (log entry 110). -/
def leaseYield (c : LiveCmd) (s : State) : State :=
  if 1 < fld c.params 0 1 ∨ !zeroAt c.params 1 3 then fail c stBadParam dReservedBit s
  else if fld c.params 0 1 = 0 ∧ !cleanWord s.twin.peerHealth then fail c stBusy 0x80 s
  else waitFor c .yield [] (s.modTwin (fun t => { t with yielding := true, yieldSent := false }))

/-- LEASE_YIELD (R120). -/
def execLeaseYield (sid tag : Nat) (s : State) : Res := .next (runCmd 0x0A03 sid tag leaseYield s)

end Sys2Proof.Machine
end

