-- ==== Sys2Proof/Machine/Power.lean ====
section
/-! DEFINITION. The power manager: its commands (R106, R107), the choice of a state (R395 to R398), the steps of entries and
exits (R399 to R408), the PMIC dialogue (R409 to R411). -/

namespace Sys2Proof.Machine

/-! ### NET, work and known events (R396, R397, Table 12.2) -/

def ethOpen (s : State) : Bool := s.host.sessions.any (fun x => match x with | some x => x.transport == .eth | none => false)

/-- A check-in window is open. -/
def inCheckin (s : State) : Bool := s.pwr.checkinEnd.isSome

/-- R397: NET is active as POWER_NET_ACTIVE states. -/
def netActive (s : State) : Bool :=
  if s.live 0x0205 = 1 then true
  else if s.live 0x0205 = 2 then inCheckin s
  else ethOpen s || inCheckin s || (s.pwr.linkA && s.pwr.linkB)

/-- Work is runnable: packets, messages or commands wait for firmware, or a UC entry does (Table 14.5). -/
def workRunnable (s : State) : Bool :=
  s.host.intake != [] || s.mac.rx != [] || s.mac.inbox != [] || s.truss.evalNow || s.par.pending != [] || s.par.safe
    || s.host.live.any (fun c => !c.begun && c.journaled && decide (s.now < c.deadline) && canBegin s.host c)

/-- Time to an instant of span time, ns; 0 once it has come. -/
def toSpan (s : State) (t : Nat) : Nat := t - s.spanNow

/-- Time to an instant of UTC in seconds since 2000, ns. -/
def toUtc (s : State) (t : Nat) : Nat := (t * tickHz - s.rtc.ticks) * sec / tickHz

/-- The next match of the enabled alarms. -/
def alarmNext (s : State) : List Nat :=
  if rtcOk s then
    let t := if s.rtc.lastSecond = s.utcSec then s.utcSec + 1 else s.utcSec
    s.rtc.alarms.filterMap (fun a => if alarmLive a then (nextMatch a t).map (toUtc s) else none)
  else []

/-- Next event of a table entry after a minute: over `n` days, from day `day`. -/
def tableNext (tbl : Bytes) (k : Nat) (day : Int) : Nat → Nat → Int → Option (Int × Nat)
  | 0, _, _ => none
  | n + 1, fwd, minute =>
    let e := fld tbl (8 + 4 * dayIndex (day + fwd)) 4
    let ms := if e.testBit (22 + k) then ((entryEvents e).map (·.1)).filter (fun m : Nat => decide (minute < (m : Int))) else []
    match ms.min? with
    | some m => some (day + fwd, m)
    | none => tableNext tbl k day n (fwd + 1) (-1)

/-- The next fallback table events, while firmware holds the contactors (R328). -/
def contactorNext (s : State) : List Nat :=
  match fbTable s with
  | some tbl =>
    if s.fb.agent = .firmware ∧ rtcOk s then
      let l := tableLocal s tbl
      [0, 1].filterMap (fun k => (tableNext tbl k (l / 86400) 367 0 ((l % 86400) / 60)).map (fun x =>
        ((x.1 * 86400 + x.2 * 60 - l) * sec).toNat - s.rtc.ticks % tickHz * sec / tickHz))
    else []
  | none => []

/-- The next firing of a time trigger at SPAN after the present instant, as a time to it in ns (R126). -/
def nextFiring (s : State) (p : Policy) : Option Nat :=
  let r := p.record
  let q := rTp r
  match rTrigger r with
  | 1 => match decTime (sub q 0 10) with
    | some t => if s.spanNow < stTotNs t then some (toSpan s (stTotNs t)) else none
    | none => none
  | 4 =>
    let per := fld q 0 4 * ms
    let ph := fld q 4 4 * ms
    if per = 0 then none
    else some (if s.spanNow < ph then toSpan s ph else toSpan s (((s.spanNow - ph) / per + 1) * per + ph))
  | 2 | 3 =>
    if !rtcOk s then none
    else
      let d := s.utcSec / 86400
      let days := (List.range 10).map (fun k => d + k - 1)
      (((days.flatMap (dayFirings s r 0x1FFE)).filter (fun t => s.utcSec < t)).min?).map (toUtc s)
  | _ => none

def policyNext (s : State) : List Nat :=
  s.truss.fragments.filterMap (fun f => if f.tier = 3 ∧ f.state = 2 then
    (match s.policy f.policy with | some p => nextFiring s p | none => none) else none)

/-- The next check-in instant (Table 12.2). -/
def checkinNext (s : State) : List Nat :=
  let per := s.live 0x0206 * sec
  if per = 0 then [] else [toSpan s ((s.spanNow / per + 1) * per)]

/-- The next period start of each output, while a pending set of block 0x05 waits for one (Table 1.10). -/
def lampBoundary (s : State) : List Nat :=
  if s.set.pend.any (fun p => p.block == 5) && s.lampRuns then s.lamp.chans.map (fun c => c.periodAt + 25 * c.ticks - s.now) else []

def nextWhole (s : State) : Nat := toSpan s ((s.spanNow / sec + 1) * sec)

/-- Pending sets whose boundary is a whole second or a cycle start (Table 1.10), and the next armed launch: those placed
already, and the root beacon of the next cycle (R302). -/
def boundaryNext (s : State) : List Nat :=
  (s.out.radio.filterMap (fun e => match e.2 with
    | .txGo a _ => if s.spanNow < a then some (toSpan s a) else none
    | _ => none)) ++
  if s.mac.running ∨ s.mac.startAt.isSome ∨ s.set.pend.any (fun p => [1, 3, 4, 6, 9, 0x0A].contains p.block) then [nextWhole s] else []

/-- The scheduled start of the next background slice or sweep (R510, R511). -/
def sliceNext (s : State) : List Nat :=
  let b := s.bist
  if b.active.isSome || b.sweep.isSome || b.queued != [] then
    let t := b.lastSliceEnd + s.live 0x0B04 * ms - s.now
    [t + (10 * ms - (s.intoSlot + t) % (10 * ms)) % (10 * ms)]
  else if s.live 0x0B01 = 0 then []
  else match b.sweepFrom with
    | some t => [t + s.live 0x0B01 * 3600 * sec - s.now]
    | none => []

/-- Keepalive renewal, in IDLE and NAP only. -/
def keepaliveNext (deep : PState) (s : State) : List Nat :=
  if deep = .slumber then []
  else match s.fb.keepalive with | some t => [t - s.now] | none => []

/-- Table 12.2: the time to the earliest known event; none when there is none. -/
def knownEvent (deep : PState) (s : State) : Option Nat :=
  (alarmNext s ++ contactorNext s ++ policyNext s ++ checkinNext s ++ boundaryNext s ++ sliceNext s ++ keepaliveNext deep s
    ++ (lampInstants s).map (toSpan s) ++ lampBoundary s).min?

/-! ### Choice (R396 to R398) -/

/-- Exit latency and break-even of a state, ns (Tables 12.1 and 12.6). -/
def stateCost (q : PState) (s : State) : Nat :=
  match q with
  | .run => 0
  | .idle => 1000
  | .nap => 56000
  | .slumber => exitLatency s + (if s.live 0x020A = 2 then 3000000 else 3400000)

/-- The latency alone. -/
def stateLatency (q : PState) (s : State) : Nat := match q with | .run => 0 | .idle => 1000 | .nap => 6000 | .slumber => exitLatency s

/-- R397: SLUMBER is excluded. -/
def slumberExcluded (s : State) : Bool :=
  s.mac.running || netActive s || s.bist.sliceRunning
    || s.host.sessions.any (fun x => match x with | some x => x.transport == .dbg | none => false)

/-- A flash program or erase is in progress. -/
def flashWrites (s : State) : Bool :=
  s.par.erasing || (match s.upd.session with | some x => decide (x.erased < 128) | none => false)

/-- Table 12.3: the refusers that are busy and block a state. Words that wait for the host at WIN_OUT and twin frames that wait to leave
stand in joints 0x1B and 0x18 (R418). Whether a frame stands in a switch buffer, an MRAM write or the copy of a page to flash is in
progress or a HUART frame is partly received is free (log entry 66). -/
def refusers (q : PState) (s : State) : List Nat :=
  let env := Config.unstated 22 s.freeIdx
  let deep := q = .slumber
  let all : List (Nat × Bool) :=
    [ (1, deep && (s.mac.attempts != [] || s.mac.txns.any (fun t => t.st == .taken))),
      (2, deep && env.testBit 0),
      (3, env.testBit 1),
      (4, deep && (jointsHold s || (winHead s).isSome || s.twin.tx != [])),
      (5, deep && (s.pwr.pmbus.request.isSome || s.pwr.pmbus.retryAt.isSome)),
      (6, flashWrites s || env.testBit 3),
      (7, s.twin.copyOut.isSome || s.twin.journalWait != []),
      (8, s.bist.sliceRunning),
      (9, deep && (s.host.win.inWords != [] || env.testBit 2)) ]
  if q = .idle then [] else (all.filter (·.2)).map (·.1)

/-- R398: each refusal counts and names the last refuser. -/
def countRefusals (l : List Nat) (s : State) : State :=
  s.modPwr (fun p => { p with
    refusals := l.foldl (fun r k => modAt r (k - 1) (satAdd 16 · 1)) p.refusals, lastRefuser := l.foldl (fun _ k => k) p.lastRefuser })

/-- A state is entered: the counts of Table 3.18. -/
def countEntry (q : PState) (s : State) : State :=
  s.modPwr (fun p => { p with entries := p.entries + 1, lastEntered := stateNo q })

/-- Entry to SLUMBER begins: A1, then the pads are latched, the clocks are gated and the time unit moves to its SLUMBER count (Table 12.4). -/
def beginEntry (s : State) : State :=
  if s.pwr.wakePending then (countAbort 1 s).modPwr (fun p => { p with wakePending := false })
  else s.modPwr (fun p => { p with
    trans := some (.entry 0 (s.now + 3000)), held := latchPads s, slumberSpan := s.time.spanT, slumberAt := s.now, slumberTicks := s.rtc.ticks })

/-- The loop of R396 over the states that are deeper than the present one, deepest first. -/
def chooseState : List PState → State → State
  | [], s => s
  | q :: l, s =>
    if s.live 0x0201 < stateNo q ∨ stateNo q ≤ stateNo s.pwr.state ∨ (q = .slumber ∧ slumberExcluded s) then chooseState l s
    else
      let rs := refusers q s
      let s := s.draw
      if rs ≠ [] then chooseState l (countRefusals rs s)
      else
        let fits : Bool := match knownEvent q s with
          | some t => decide (stateCost q s + s.live 0x0204 * 1000 ≤ t)
          | none => true
        if !fits then chooseState l s
        else if q = .slumber then beginEntry s
        else countEntry q (setPState q s)

/-- The operating point follows the ceiling and throttling (R395, R403). To raise it VCORE changes first, to lower it CCLK. -/
def applyOpPoint (s : State) : State :=
  let dest := pointAllowed s
  if s.pwr.trans.isSome then
    s.modPwr (fun p => { p with pendingReq := true, superseded := p.superseded + b2n p.pendingReq })
  else if (dest = s.pwr.opPoint ∧ s.pwr.vcore = pointMv dest) ∨ s.pwr.state = .slumber then s
  else if s.pwr.opPoint < dest then
    requestVout (pointMv dest) 1 (s.modPwr (fun p => { p with opPoint := dest, trans := some (.opPoint dest) }))
  else requestVout (pointMv dest) 1 (s.modPwr (fun p => { p with trans := some (.opPoint dest) }))

/-- POWER_EVALUATION (R396): the pending set applies first, then a state is chosen. -/
def powerEvaluation (s : State) : State :=
  let s := applyOpPoint (applyBlock 2 none s)
  if workRunnable s then toRun s else if s.pwr.trans.isSome then s else chooseState [.slumber, .nap, .idle] s

/-- The manager works: firmware has started, no transition is in progress, and the DECK's clocks run (R396). -/
def managerIdle (s : State) : Bool := s.boot.phase == .firmware && s.pwr.trans.isNone && s.pwr.state != .slumber

def execPowerEvaluation (s : State) : Res := .next (if managerIdle s then powerEvaluation s else s)

/-! ### Steps of entries and exits (R399 to R407) -/

/-- Span time is restored from its SLUMBER count (R303). -/
def restoreSpan (s : State) : State :=
  s.modTime (fun t => { t with spanT := s.pwr.slumberSpan + ofNs (slumberNs s) })

/-- Step 6 of Table 12.4: the keepalive is suspended (R407); a METER that is not kept flushes and
stops, and a LAMP that is not kept begins anew on its grid (R247). -/
def enterSlumber (s : State) : State :=
  let s := (countEntry .slumber (setPState .slumber s)).modPwr (fun p => { p with trans := none })
  let s := s.modFb (fun f => match f.keepalive with
    | some t => { f with keepalive := none, keepaliveLeft := t - s.now }
    | none => f)
  let s := if s.meter.active && !(s.live 0x0202).testBit 0 then
      (windowReason 5 (flushNow s)).modMeter (fun m => { m with pausedAt := some s.now })
    else s
  let s := if s.lampRuns then s
    else s.modLamp (fun l => { l with chans := l.chans.map (fun c => { c with ticks := 0, pulses := [] }) })
  let s := refreshLdEn s
  if s.pwr.wakePending then beginExit s else s

/-- The record of METER_PAUSED at a wake: the interval in ns; the outputs may drive again (R350). -/
def meterResumes (s : State) : State :=
  match s.meter.pausedAt with
  | some t => startPulses (ev evMeterPaused (le 8 (s.now - t)) (s.modMeter (fun m => { m with
      pausedAt := none, openSec := s.spanNow / sec })))
  | none => s

/-- What is owed once the DECK runs again: records of joints and of tamper sources, safe state, an operating point (R403, Table 12.11). -/
def afterTransition (s : State) : State :=
  let s := recordOverruns (tamperOwed (meterResumes s))
  let s := match s.par.safeOwed with
    | some (c, src, i) => enterSafe c src i (s.modPar (fun p => { p with safeOwed := none }))
    | none => s
  if s.pwr.pendingReq then applyOpPoint (s.modPwr (fun p => { p with pendingReq := false })) else s

/-- Step 3 of Table 12.5: RUN at the point restored, a lower one if throttling has begun meanwhile (R400, Table 12.11), span time
restored, the pads released (R405), HOLDOVER unless FREE, the keepalive resumed. -/
def arriveExit (s : State) : State :=
  let s := (setPState .run (restoreSpan s)).modPwr (fun p => { p with
    trans := none, wakePending := false, held := [], opPoint := max p.opPoint (pointAllowed s) })
  let s := s.modFb (fun f => if f.agent = .firmware ∧ f.keepalive = none then
    { f with keepalive := some (s.now + f.keepaliveLeft) } else f)
  afterTransition (refreshLdEn (toHoldover s))

/-- An abandoned entry ends as if none had begun (R401). -/
def arriveAbandoned (s : State) : State :=
  afterTransition ((toRun (restoreSpan s)).modPwr (fun p => { p with trans := none, wakePending := false, held := [] }))

/-- PLL lock and restore: steps 2 and 3 of Table 12.5, 200 µs. -/
def restoreTime : Nat := 200000

/-- An entry is abandoned at an abort point (R401): from A3 on VCORE is requested again first. -/
def abandonAt (point : Nat) (s : State) : State :=
  let s := countAbort point s
  if point < 3 then s.modPwr (fun p => { p with trans := some (.abandon point (some (s.now + restoreTime))) })
  else requestVout (pointMv s.pwr.opPoint) 1 (s.modPwr (fun p => { p with trans := some (.abandon point none) }))

/-- The steps of a transition that come with time; part of the tick. -/
def powerTick (s : State) : State :=
  match s.pwr.trans with
  | some (.entry ph t) =>
    if ph = 1 ∨ s.now < t then s
    else if ph = 3 then enterSlumber s
    else if s.pwr.wakePending then abandonAt (if ph = 0 then 2 else 4) s
    else if ph = 0 then requestVout 600 1 (s.modPwr (fun p => { p with trans := some (.entry 1 0) }))
    else s.modPwr (fun p => { p with trans := some (.entry 3 (s.now + 10000)) })
  | some (.abandon _ (some t)) => if t ≤ s.now then arriveAbandoned s else s
  | some (.exit (some t)) => if t ≤ s.now then arriveExit s else s
  | some _ => s
  | none => if s.pwr.state = .slumber ∧ s.pwr.wakePending then beginExit s else s

/-- A check-in window opens at each check-in instant (R397); part of the tick. -/
def checkinTick (s : State) : State :=
  let per := s.live 0x0206
  let t := stSec s.time.spanT
  if s.fwUp && per != 0 && t % per == 0 && t != s.pwr.lastCheckin then
    s.modPwr (fun p => { p with lastCheckin := t, checkinEnd := some (s.now + s.live 0x0207 * ms) })
  else s

/-! ### The PMIC (R409 to R411) -/

/-- A request is acknowledged: VCORE stands, and the transition takes its next step. -/
def voutAcked (mv : Nat) (s : State) : State :=
  let s := s.modPwr (fun p => { p with vcore := mv, pmbus := { p.pmbus with request := none, retryAt := none } })
  match s.pwr.trans with
  | some (.entry _ _) =>
    if s.pwr.wakePending then abandonAt 3 s else s.modPwr (fun p => { p with trans := some (.entry 2 (s.now + 5000)) })
  | some (.abandon k none) => s.modPwr (fun p => { p with trans := some (.abandon k (some (s.now + restoreTime))) })
  | some (.exit none) => s.modPwr (fun p => { p with trans := some (.exit (some (s.now + restoreTime))) })
  | some (.opPoint dest) => afterTransition (s.modPwr (fun p => { p with opPoint := dest, trans := none }))
  | _ => s

/-- Bits 15, 14, 13, 11 and 6 to 1 of STATUS_WORD are zero. -/
def statusGood (w : Nat) : Bool := bits w 15 13 == 0 && !w.testBit 11 && bits w 6 1 == 0

/-- PMIC_ACK (R409): the STATUS_WORD read, once its time has come, or a NACK. -/
def pmicAck (nack pgood : Bool) (status : Nat) (s : State) : State :=
  match s.pwr.pmbus.request with
  | none => s
  | some mv =>
    if s.pwr.pmbus.retryAt.isSome then s
    else if nack then
      if s.pwr.pmbus.nackRetried then s
      else s.modPwr (fun p => { p with
        pmbus := { p.pmbus with retryAt := some (s.now + 20 * us), nackRetried := true, rereads := false } })
    else if s.now < statusRead s then s
    else
      let s := pmbusRead 0x79 (s.modPwr (fun p => { p with pgood := pgood }))
      if status.testBit 7 then s.modPwr (fun p => { p with
        pmbus := { p.pmbus with retryAt := some (s.now + 20 * us), rereads := true } })
      else if pgood && statusGood status then voutAcked mv s else s

def execPmicAck (nack pgood : Bool) (status : Nat) (s : State) : Res := .next (pmicAck nack pgood status s)

/-- PMIC_ACK_TIMEOUT (R410). Mark: DESIGN CHOICE (log entry 43): at the FT of a second timeout the transition ends where it
stands, so that safe state can follow. -/
def pmicTimeout (s : State) : State :=
  match s.pwr.pmbus.request, s.pwr.trans with
  | none, _ => s
  | some _, some (.entry _ _) =>
    requestVout (pointMv s.pwr.opPoint) 1 ((countAbort 2 s).modPwr (fun p => { p with trans := some (.abandon 2 none) }))
  | some mv, tr =>
    if s.pwr.pmbus.attempt < 2 then requestVout mv 2 s
    else
      let s := s.modPwr (fun p => { p with pmbus := { p.pmbus with request := none, retryAt := none } })
      let s := match tr with
        | some (.exit _) => arriveExit s
        | some (.abandon _ _) => arriveAbandoned s
        | _ => s.modPwr (fun p => { p with trans := none })
      raiseFT srcPmicAckTimeout [] s

def execPmicAckTimeout (s : State) : Res :=
  .next (if voutStop s + ms ≤ s.now then pmicTimeout s else s)

/-- PMBUS_RETRY_TIMER (R409, R410): STATUS_WORD is read again, or the VOUT_COMMAND is sent again. -/
def execPmbusRetryTimer (s : State) : Res :=
  .next (match s.pwr.pmbus.retryAt, s.pwr.pmbus.request with
    | some t, some mv =>
      if s.now < t then s
      else
        let s := s.modPwr (fun p => { p with pmbus := { p.pmbus with retryAt := none } })
        if s.pwr.pmbus.rereads then s
        else sendVout s.pwr.pmbus.exponent mv s
    | _, _ => s)

/-- PM_ALERT (R411): the word is recorded, CLEAR_FAULTS is sent, and the module wakes. -/
def execPmAlert (status : Nat) (s : State) : Res :=
  .next (if s.deckUp then
    wakeUp 8 (pmbusWrite 0x03 [] (raiseCE srcPmicAlert (le 2 status) (pmbusRead 0x79 s)))
  else s)

/-- PM_PGOOD_FALL (R411): outside a transition an FT. -/
def execPmPgoodFall (s : State) : Res :=
  .next (if s.pwr.pgood then
    let s := s.modPwr (fun p => { p with pgood := false })
    if s.pwr.trans.isNone ∧ s.deckUp then raiseFT srcPmicPgoodLost [] s else s
  else s)

/-! ### Wakes, temperature, Ethernet (R395, R397, R400, R408) -/

/-- A wake source's condition holds (Table 12.8). -/
def wakeEnabled (cause : Nat) (s : State) : Bool :=
  if cause = 3 then bits (s.live 0x0208) 1 0 != 0
  else if cause = 4 then bits (s.live 0x0208) 3 2 != 0
  else if cause = 5 ∨ cause = 6 then bankGood 1 s
  else if cause = 9 then bankGood 0 s
  else if cause = 10 then meterRuns s && bankGood 2 s
  else if cause = 11 then s.lampRuns && bankGood 2 s
  else true

/-- WAKE (R401, R402, R408). -/
def execWake (cause : Nat) (s : State) : Res :=
  .next (if s.boot.phase = .firmware ∧ wakeEnabled cause s then wakeUp cause s else s)

/-- KNOWN_EVENT_TIMER (R400): the exit latency plus POWER_WAKE_LEAD before the earliest known event. -/
def execKnownEventTimer (s : State) : Res :=
  .next (if s.boot.phase = .firmware ∧ s.pwr.trans = none ∧ s.pwr.state ≠ .run then
    (match knownEvent s.pwr.state s with
      | some t => if t ≤ stateLatency s.pwr.state s + s.live 0x0204 * 1000 then wakeUp 1 s else s
      | none => s)
  else s)

/-- THERMAL_SENSOR_CHANGE (R395): throttling begins above 105 °C and ends below 95 °C; above 110 °C THERMAL_LIMIT (Table 14.1). -/
def thermal (celsius : Int) (s : State) : State :=
  let hot : Bool := if 105 < celsius then true else if celsius < 95 then false else s.pwr.throttled
  let s :=
    if hot = s.pwr.throttled then s
    else applyOpPoint (ev evThermalThrottle [] (s.modPwr (fun p => { p with throttled := hot })))
  if 110 < celsius ∧ !s.par.safe then raiseFT srcThermalLimit [] s else s

def execThermalSensorChange (celsius : Int) (s : State) : Res :=
  .next (if s.boot.phase = .firmware then thermal celsius s else s)

/-- ETH_LINK_POLL (R397): every 1 s in RUN. -/
def execEthLinkPoll (a b : Bool) (s : State) : Res :=
  .next (if s.fwUp && s.pwr.state == .run && decide (s.pwr.lastPoll + sec ≤ s.now) then
    s.modPwr (fun p => { p with linkA := a && bankGood 1 s, linkB := b && bankGood 1 s, lastPoll := s.now }) else s)

/-- CHECKIN_WINDOW_END (R397): an Ethernet session extends it. -/
def execCheckinWindowEnd (s : State) : Res :=
  .next (match s.pwr.checkinEnd with
    | some t => if t ≤ s.now ∧ !ethOpen s then s.modPwr (fun p => { p with checkinEnd := none }) else s
    | none => s)

/-! ### Commands (R106, R107) -/

/-- POWER_POLICY_SET (R106). -/
def powerPolicySet (c : LiveCmd) (s : State) : State :=
  let p := c.params
  if fld p 3 1 ≠ 0 then fail c stBadParam dReservedBit s
  else writeAndCommit c [(0x0201, fld p 0 1), (0x0202, fld p 1 1), (0x0203, fld p 2 1), (0x0204, fld p 4 4)] 2 s

def execPowerPolicySet (sid tag : Nat) (s : State) : Res := .next (runCmd 0x0201 sid tag powerPolicySet s)

/-- Domains that are active (Table 3.18). -/
def activeDomains (s : State) : Nat :=
  b2n s.meter.active + 2 * b2n s.lampRuns + 4 * b2n (netActive s) + 8 * b2n s.twin.latch

/-- POWER_STATUS (Table 3.18). -/
def powerStatus (c : LiveCmd) (s : State) : State :=
  let s := accountState s
  let p := s.pwr
  let reply := [byte p.opPoint, byte (s.live 0x0201), byte p.lastEntered, byte p.lastAbort, byte (activeDomains s),
    byte (b2n p.backupSeen + 2 * b2n p.pgood)] ++ le 2 p.vcore ++ (p.timeIn.flatMap (fun t => le 8 (t / ms)))
    ++ le 4 p.entries ++ le 4 p.aborts ++ le 4 p.superseded ++ zeros 4
  complete c stOk dNone reply (s.modPwr (fun p => { p with backupSeen := false }))

def execPowerStatus (sid tag : Nat) (s : State) : Res := .next (runCmd 0x0202 sid tag powerStatus s)

/-- POWER_REFUSALS_READ (R107, Table 3.19). -/
def powerRefusalsRead (c : LiveCmd) (s : State) : State :=
  let clear := (fld c.params 0 1).testBit 0
  if fld c.params 0 4 > 1 then fail c stBadParam dReservedBit s
  else if clear ∧ c.role < 2 then fail c stNotPermitted dRoleBelow s
  else
    let p := s.pwr
    let reply := [byte p.lastRefuser] ++ zeros 3 ++ p.abortCounts.flatMap (le 2) ++ p.refusals.flatMap (le 2)
    complete c stOk dNone reply (if clear then s.modPwr (fun p => { p with
      refusals := List.replicate 9 0, abortCounts := List.replicate 4 0 }) else s)

def execPowerRefusalsRead (sid tag : Nat) (s : State) : Res := .next (runCmd 0x0203 sid tag powerRefusalsRead s)

end Sys2Proof.Machine
end

