-- ==== Sys2Proof/Machine/Update.lean ====
section
/-! DEFINITION. Own-firmware update: header checks (R477 to R481), the fragment journal (R482 to R484), verification (R485),
status, activation, confirmation and abort (R486 to R491). -/

namespace Sys2Proof.Machine

/-! ### The image (Table 16.1) -/

def hdrLen (h : Bytes) : Nat := fld h 20 4
def hdrFrags (h : Bytes) : Nat := (hdrLen h + 1023) / 1024
def hdrEncrypted (h : Bytes) : Bool := (fld h 8 1).testBit 0
def hdrBound (h : Bytes) : Bool := (fld h 8 1).testBit 1
def hdrCounter (h : Bytes) : Nat := fld h 9 1
def hdrVersion (h : Bytes) : Bytes := fit 6 (sub h 12 6)
def hdrFormat (h : Bytes) : Nat := fld h 18 2

/-- The sectors of a slot: 128 of 64 KiB (R483). -/
def slotSectors : Nat := 128

/-- The last sector fragment `i` of an image touches, at slot offset 512 + 1,024 i (R483). -/
def fragSector (h : Bytes) (i : Nat) : Nat := (512 + 1024 * i + fragLen (hdrLen h) i - 1) / 65536

/-- R479: the image key. -/
def imageKey (h : Bytes) (s : State) : Option Bytes :=
  match unitKa s with
  | none => none
  | some d => match ecdh d (sub h 72 64) with
    | none => none
    | some z => gcmOpen (kdf z (ascii "DORUA-IMAGE") (le 16 s.otp.unitId)) (sub h 136 12) (h.take 72) (sub h 148 32) (sub h 180 16)

/-- The order code of DOR4K-L144-SEA (Table 1.5). -/
def isSea (s : State) : Bool := s.otp.orderCode == 2

/-- The fields of Table 16.1 that are zero, and the range of its counter: the reserved ones, the binding without UNIT_BOUND, bytes
72 to 223 without ENCRYPTED (R477). Mark: DEDUCED (log entry 136): check 1 takes them all. -/
def hdrZeros (h : Bytes) : Bool :=
  decide (fld h 8 1 < 4) && decide (hdrCounter h < 128) && zeroAt h 10 2 && zeroAt h 224 32 && zeroAt h 384 128
    && (hdrBound h || zeroAt h 24 16) && (hdrEncrypted h || zeroAt h 72 152)

/-- Checks 1 to 5 and 7 to 9 of Table 16.2, with check 6 as the channel is privileged or not, and check 10 if asked for. -/
def headerRefusal (h : Bytes) (privileged checkKey : Bool) (s : State) : Option (Nat × Nat) :=
  if fld h 0 4 ≠ 0x4D495244 ∨ fld h 4 2 ≠ 1 ∨ !hdrZeros h then some (stImageBad, 0x80)
  else if fld h 6 2 ≠ 0x0D4B then some (stImageBad, 0x81)
  else if hdrLen h = 0 ∨ 8388096 < hdrLen h then some (stImageBad, 0x82)
  else if hdrBound h ∧ fld h 24 16 ≠ s.otp.unitId then some (stImageBad, 0x83)
  else if isSea s ∧ !(hdrEncrypted h && hdrBound h) then some (stImageBad, 0x84)
  else if isSea s ∧ !privileged then some (stImageBad, 0x85)
  else if sha256 (sub h 256 64) ≠ s.otp.firmwareAuth ∨ !ecdsaOk (sub h 256 64) (sub h 320 64) (h.take 256) then
    some (stAuthFailed, 0x80)
  else if hdrCounter h < s.otp.antiRollback then some (stRollbackRefused, dNone)
  else if hdrFormat h < s.upd.storeFormat then some (stImageBad, 0x86)
  else if checkKey ∧ hdrEncrypted h ∧ (imageKey h s).isNone then some (stImageBad, 0x88)
  else none

def modSlot (k : Nat) (f : SlotImg → SlotImg) (s : State) : State :=
  s.modUpd (fun u => if k = 0 then { u with slotA := f u.slotA } else { u with slotB := f u.slotB })

/-- The inactive slot. -/
def inactive (s : State) : Nat := 1 - s.upd.booted

/-! ### UPDATE_BEGIN and UPDATE_FRAGMENT -/

/-- The channel a command arrived on is privileged (R480). -/
def privilegedChannel (c : LiveCmd) (s : State) : Bool :=
  c.transport != .dbg && (match s.session c.sid with | some x => x.role == 3 && !x.keylessProc | none => false)

def beginReply (h : Bytes) (held : Nat) : Bytes := le 4 (hdrFrags h) ++ le 4 held

/-- Fragments that still wait for a sector of a session that has ended are fragments of no session (log entry 137). -/
def endFragments (s : State) : State :=
  (s.host.live.filter (fun c => c.begun && c.wait == .erase)).foldl (fun s c => fail c stBadParam 0x89 s) s

/-- A new session: the slot is invalid and its erasure begins (R482, R483). -/
def newSessionUpd (h : Bytes) (target : Nat) (s : State) : State :=
  let s := endFragments s
  let s := modSlot target (fun _ => { header := h, frags := [], valid := false, confirmed := false, plain := false }) s
  s.modUpd (fun u => { u with
    state := .receiving, detail := 0,
    session := some { header := h, target := target, bitmap := [], erased := 0, decrypted := 0, lastStored := s.now } })

/-- UPDATE_BEGIN (R481, R482, R484, R487). -/
def updateBegin (c : LiveCmd) (s : State) : State :=
  let p := c.params
  let h := p.drop 4
  if 2 ≤ fld p 0 4 then fail c stBadParam dReservedBit s
  else if s.inTrial then fail c stBusy 0x84 s
  else match headerRefusal h (privilegedChannel c s) true s with
    | some (st, d) => if st = stAuthFailed then noteAuth c.opcode c.sid (fail c st d s) else fail c st d s
    | none =>
      let fresh (s : State) : State :=
        let t := inactive s
        complete c stOk dNone (beginReply h 0)
          (ev evUpdateBegun (hdrVersion h ++ [byte (hdrCounter h), byte t]) (newSessionUpd h t s))
      match s.upd.session with
      | none => fresh s
      | some x =>
        if x.header = h then complete c stOk dNone (beginReply h x.bitmap.length) s
        else if (fld p 0 1).testBit 0 then fresh s
        else fail c stBusy 0x80 s

def execUpdateBegin (sid tag : Nat) (s : State) : Res := .next (runCmd 0x0701 sid tag updateBegin s)

/-- A fragment is programmed, verified and its bit set; the last missing one starts verification (R483, R485). -/
def programFrag (x : UpdSession) (i : Nat) (d : Bytes) (s : State) : State :=
  let s := modSlot x.target (fun g => { g with frags := put g.frags i d }) s
  let bm := insertSet x.bitmap i
  s.modUpd (fun u => { u with
    session := some { x with bitmap := bm, lastStored := s.now },
    state := if bm.length = hdrFrags x.header then .verifying else u.state })

/-- The fragment of a command is stored, or waits for its sector (R483). -/
def storeFragment (c : LiveCmd) (s : State) : State :=
  let i := fld c.params 0 4
  let d := c.params.drop 8
  match s.upd.session with
  | none => fail c stBadParam 0x89 s
  | some x =>
    if hdrFrags x.header ≤ i ∨ d.length ≠ fragLen (hdrLen x.header) i then fail c stBadParam 0x89 s
    else if x.bitmap.contains i then complete c stOk dNone (le 4 x.bitmap.length) s
    else if x.erased ≤ fragSector x.header i then waitFor c .erase [] s
    else complete c stOk dNone (le 4 (x.bitmap.length + 1)) (programFrag x i d s)

/-- UPDATE_FRAGMENT (R483, R487), on any channel: Table 16.2 and R483 look at the channel of UPDATE_BEGIN alone. Mark: DESIGN CHOICE
(log entry 154). -/
def updateFragment (c : LiveCmd) (s : State) : State :=
  if !zeroAt c.params 4 4 then fail c stBadParam dReservedBit s else storeFragment c s

def execUpdateFragment (sid tag : Nat) (s : State) : Res := .next (runCmd 0x0702 sid tag updateFragment s)

/-- UPDATE_SECTOR_ERASED (R483): waiting fragments whose sectors are now erased proceed. -/
def sectorErased (s : State) : State :=
  match s.upd.session with
  | none => s
  | some x =>
    if slotSectors ≤ x.erased then s
    else
      let s := s.modUpd (fun u => { u with session := some { x with erased := x.erased + 1 } })
      (s.host.live.filter (fun c => c.begun && c.wait == .erase)).foldl (fun s c => storeFragment c s) s

def execUpdateSectorErased (s : State) : Res := .next (if s.fwUp then sectorErased s else s)

/-! ### Verification (R485) -/

/-- A payload as stored, verified: the plaintext, or the failure's detail. -/
def verifyPayload (h : Bytes) (payload : Bytes) (s : State) : Bytes ⊕ Nat :=
  if sha256 payload ≠ sub h 40 32 then .inr 0x87
  else if hdrEncrypted h then
    match imageKey h s with
    | none => .inr 0x88
    | some k => match gcmOpen k (sub h 212 12) (h.take 72) payload (sub h 196 16) with
      | some m => .inl m
      | none => .inr 0x88
  else .inl payload

/-- A plaintext in fragments of 1,024 bytes. -/
def asFrags (m : Bytes) : List (Nat × Bytes) :=
  let n := (m.length + 1023) / 1024
  (List.range n).zip (chunks 1024 n m)

/-- Sectors a payload occupies in its slot. -/
def usedSectors (h : Bytes) : Nat := (512 + hdrLen h + 65535) / 65536

/-- UPDATE_VERIFY_DONE (R485): READY with the slot decrypted in place, or FAILED with the slot invalid. -/
def verifyDone (s : State) : State :=
  match s.upd.session with
  | none => s
  | some x =>
    match verifyPayload x.header (s.upd.slot x.target).payload s with
    | .inl m =>
      (modSlot x.target (fun g => { g with frags := asFrags m, valid := true, plain := true }) s).modUpd (fun u => { u with
        state := .ready, session := some { x with decrypted := if hdrEncrypted x.header then usedSectors x.header else 0 } })
    | .inr d =>
      ev evUpdateFailed [byte d] ((modSlot x.target (fun g => { g with valid := false }) s).modUpd (fun u => { u with
        state := .failed, detail := d, session := none }))

def execUpdateVerifyDone (s : State) : Res := .next (if s.fwUp && s.upd.state == .verifying then verifyDone s else s)

/-- An activation whose reset has not come is undone: its boot record is not yet written (Table 16.8). -/
def unactivate (s : State) : State :=
  match s.upd.boot.trial with
  | some (_, 0) => (s.modUpd (fun u => { u with boot := { u.boot with trial := none } })).modSec (fun k => { k with slots2 := none })
  | _ => s

/-- The session ends and the slot it writes is marked invalid (R482, R491). -/
def dropSession (s : State) : State :=
  let target := match s.upd.session with | some x => x.target | none => inactive s
  (modSlot target (fun g => { g with valid := false }) (unactivate (endFragments s))).modUpd (fun u => { u with
    state := .idle, detail := 0, session := none })

/-- UPDATE_JOURNAL_EXPIRY (R482). -/
def execUpdateJournalExpiry (s : State) : Res :=
  .next (match s.upd.session with
    | some x => if s.fwUp && s.live 0x0701 != 0 && decide (x.lastStored + s.live 0x0701 * sec ≤ s.now) then dropSession s else s
    | none => s)

/-! ### UPDATE_STATUS (Table 16.3) -/

def updCode (u : UpdState) : Nat :=
  match u with | .idle => 0 | .receiving => 1 | .verifying => 2 | .ready => 3 | .trial => 4 | .failed => 5

/-- Running time of the trial, ns: counted across resets (R489). -/
def trialTime (s : State) : Nat :=
  if s.upd.boot.trial.isSome then s.upd.boot.trialNs + (if s.boot.phase = .firmware then s.now - s.upd.boot.trialSince else 0) else 0

/-- Sectors decrypted so far: while an encrypted image is verified the spec does not time them, and the count is free between
the last one reported and all (R485, log entry 138). -/
def decryptedNow (s : State) (x : UpdSession) : Nat :=
  if s.upd.state = .verifying ∧ hdrEncrypted x.header then
    min (usedSectors x.header) (x.decrypted + Config.unstated 40 s.now)
  else x.decrypted

def updateStatus (c : LiveCmd) (s : State) : State :=
  let s := s.modUpd (fun u => { u with session := u.session.map (fun x => { x with decrypted := decryptedNow s x }) })
  let u := s.upd
  let target := match u.session, u.boot.trial with
    | some x, _ => x.target
    | none, some (k, _) => k
    | none, none => if u.state = .failed then inactive s else 0xFF
  let trialBoot := match u.boot.trial with | some (_, n) => n | none => 0
  let h := match u.session, u.boot.trial with
    | some x, _ => x.header
    | none, some (k, _) => (u.slot k).header
    | none, none => []
  let x := u.session.getD { header := [], target := 0, bitmap := [], erased := 0, decrypted := 0, lastStored := 0 }
  complete c stOk dNone ([byte (updCode u.state), byte u.detail, byte target, byte trialBoot] ++ le 4 (hdrFrags x.header)
    ++ le 4 x.bitmap.length ++ le 2 x.erased ++ le 2 x.decrypted ++ hdrVersion h ++ [byte (hdrCounter h), 0]
    ++ le 4 (trialTime s / sec) ++ zeros 4) s

def execUpdateStatus (sid tag : Nat) (s : State) : Res := .next (runCmd 0x0703 sid tag updateStatus s)

/-! ### Activation, confirmation, abort (R488 to R491) -/

/-- A local timed change or scene apply falls within the next 60 s (R488). -/
def applySoon (s : State) : Bool := (dueInstants s).any (fun t => decide (t ≤ s.spanNs + 60 * sec))

/-- R461: every occupied slot sealed under the measurement the target slot will give. -/
def rewrap (target : Nat) (s : State) : State :=
  let m := measureOf s.otp.romMeasure (s.upd.slot target)
  let occ := s.sec.slots.filter (fun e => slotOpens s e.1 e.2)
  ev evKeyStoreRewrapped (le 2 occ.length) (s.modSec (fun k => { k with
    slots2 := some (occ.map (fun e => (e.1, { e.2 with measure := m }))) }))

/-- UPDATE_ACTIVATE (R488). The state stays READY until the reset finds the boot record written (Table 16.8). -/
def updateActivate (c : LiveCmd) (s : State) : State :=
  if !zeroAt c.params 0 4 then fail c stBadParam dReservedBit s
  else match s.upd.session with
    | none => fail c stBusy 0x82 s
    | some x =>
      if s.upd.state ≠ .ready then fail c stBusy 0x82 s
      else if applySoon s then fail c stBusy 0x83 s
      else
        let s := rewrap x.target s
        let s := s.modUpd (fun u => { u with
          boot := { u.boot with trial := some (x.target, 0), trialNs := 0, trialSince := s.now, revert := 0 } })
        let s := ev evUpdateActivated (hdrVersion x.header ++ [byte x.target]) s
        complete c stOk dNone ([byte x.target] ++ zeros 3) (awaitReset c 3 5 s)

def execUpdateActivate (sid tag : Nat) (s : State) : Res := .next (runCmd 0x0704 sid tag updateActivate s)

/-- UPDATE_CONFIRM (R490, R492): the trial closes; the first key store and the old settings copy go. -/
def updateConfirm (c : LiveCmd) (s : State) : State :=
  if !zeroAt c.params 0 4 then fail c stBadParam dReservedBit s
  else match s.upd.boot.trial with
    | none => fail c stBadParam 0x8A s
    | some (k, n) =>
      if n = 0 then fail c stBadParam 0x8A s
      else
        let h := (s.upd.slot k).header
        let s := modSlot k (fun g => { g with confirmed := true }) s
        let s := s.modUpd (fun u => { u with
          state := .idle, detail := 0, boot := { u.boot with active := k, trial := none, trialNs := 0, revert := 0 },
          storeFormat := match u.migrated with | some m => m.2 | none => u.storeFormat, copy1 := none, migrated := none })
        let s := s.modSec (fun x => { x with slots2 := none })
        let s := s.modOtp (fun o => { o with antiRollback := max o.antiRollback (hdrCounter h) })
        complete c stOk dNone ([byte s.otp.antiRollback] ++ zeros 3)
          (ev evUpdateConfirmed (hdrVersion h ++ [byte s.otp.antiRollback]) s)

def execUpdateConfirm (sid tag : Nat) (s : State) : Res := .next (runCmd 0x0705 sid tag updateConfirm s)

/-- UPDATE_ABORT (R491). -/
def updateAbort (c : LiveCmd) (s : State) : State :=
  if !zeroAt c.params 0 4 then fail c stBadParam dReservedBit s
  else match s.upd.state with
    | .idle => complete c stOk dNone [] s
    | .trial =>
      complete c stOk dNone [] (awaitReset c 3 5 (s.modUpd (fun u => { u with boot := { u.boot with revert := 3 } })))
    | _ => complete c stOk dNone [] (dropSession s)

def execUpdateAbort (sid tag : Nat) (s : State) : Res := .next (runCmd 0x0706 sid tag updateAbort s)

end Sys2Proof.Machine
end

