-- ==== Sys2Proof/Machine/Boot.lean ====
section
/-! DEFINITION. Resets (R529 to R532), the boot sequence (R533, R489, R493), start-up faults (R528), supplies (R308, R322),
I/O banks (R541, R542) and `STATUS` (R535). -/

namespace Sys2Proof.Machine

/-! ### Assertion of a reset (R529, Table 19.1) -/

/-- Types of R531. -/
abbrev rtCold : Nat := 1
abbrev rtPowerOn : Nat := 2
abbrev rtSystem : Nat := 3
abbrev rtWarm : Nat := 4
abbrev rtRecovery : Nat := 5

/-- The METER domain is kept (Table 19.1). -/
def meterKept (type : Nat) : Bool := rtSystem ≤ type

/-- Joints with one side in the abutment, or in a METER domain that the reset keeps (R419, Table 13.2). -/
def halfJoints (type : Nat) : List Nat :=
  [1, 2, 3, 4, 5, 6, 7, 8, 9, 0x0A, 0x1C] ++ (if meterKept type then [0x12, 0x13, 0x14] else [])

/-- R279: span time from the RTC. -/
def rtcSpan (s : State) : Nat :=
  ofNs (((946684800 + s.utcSec : Nat) + s.liveS 16 0x0105).toNat * sec + s.rtc.ticks % tickHz * sec / tickHz)

/-- The time unit after a reset: FREE, its sources as at reset, the list kept (R101, R279). With PTP no longer selected U is
TIME_TAI_UTC again, which steps the counter (R309, R311). -/
def resetTimeUnit (s : State) : State :=
  let s := refreshU (s.modTime (fun t => { resetTime with spanT := t.spanT, list := t.list }))
  let s := moveSecond (stSec s.time.spanT) (stSec (rtcSpan s)) s
  s.modTime (fun t => { t with spanT := rtcSpan s, lastWhole := stSec (rtcSpan s) })

/-- The parapet after a reset: counts at zero, buckets full with the limits kept, the event tiers kept (R447, R448). -/
def resetParapet (p : Parapet) : Parapet :=
  { p with
    ceCount := 0, ucCount := 0, pending := [], injections := [], watchdogs := resetPar.watchdogs, safe := false, safeSince := 0,
    safeOwed := none, buckets := p.buckets.map (fun b => (b.1, { b.2 with tokens := b.2.burst, suppressed := 0 })) }

/-- A radio port after a reset: its profile stays (R169, R194). -/
def resetPortState (p : Port) : Port := { (default : Port) with profile := p.profile, channel := p.channel }

/-- The persistent lantern table, each lantern with the last descriptor received from it (R15). -/
def keptDescriptors (live saved : List (Nat × Lantern)) : List (Nat × Lantern) :=
  saved.map (fun e => (e.1, match get? live e.1 with
    | some l => if l.eui = e.2.eui then { e.2 with descriptor := l.descriptor } else e.2
    | none => e.2))

/-- The MAC after a reset: no span; the lantern table from its persistent copy unless main SRAM is kept (Table 4.9); frame
counters and sequences go on (R216). -/
def resetMacState (kept : Bool) (m : MacSt) : MacSt :=
  { m with
    running := false, startAt := none, launched := false, stopping := false, heldStopped := false, openSince := none,
    lanterns := if kept then m.lanterns else keptDescriptors m.lanterns m.saved, links := if kept then m.links else m.savedLinks, routes := [],
    topoChanged := true, txns := [], attempts := [], floods := [], seen := [], onAir := [], suppressedCh := resetMac.suppressedCh, suppressedSb := resetMac.suppressedSb,
    rx := [], reasm := [], inbox := [], forwarded := [], joinTx := [], relays := [], startAgain := false, filterDrops := 0, securityDrops := 0, netKeys := [],
    keyUpdate := none, oldKeyUntil := none, heard := [], holderMisses := 0, holderLocked := false, cells := [], rootEui := none, rendezvousCycle := 0,
    annex := { (default : AnnexSt) with counters := m.annex.counters, counterKeys := m.annex.counterKeys, rxCounters := m.annex.rxCounters.filter (fun e => e.1 < 65536) },
    portA := resetPortState m.portA, portB := resetPortState m.portB }

/-- The truss after a reset: policies persist; the fragment and pier maps return from their persistent copies unless main SRAM
is kept; holds, subscriptions and readings do not persist (R150, R159, R160, Table 4.9). -/
def resetTrussState (kept : Bool) (t : TrussSt) : TrussSt :=
  { (if kept then t else { t with fragments := t.savedFragments, piers := t.savedPiers }).unsent with
    kept := [], hold := none, evalDue := true, evalNow := false, sides := if kept then t.sides else [],
    silentSince := [], subs := [], decisions := [], readings := [], configs := [], watches := [],
    ends := if kept then t.ends else [],
    policies := t.policies.map (fun p => (p.1, { p.2 with meterRun := 0, meterFired := false })) }

/-- R265: every local level 0, `LD_EN` low; calibration and scenes stay in the settings store, a latched fault until it is
cleared (R266). -/
def resetLampState (l : LampSt) : LampSt :=
  { l with
    chans := l.chans.map (fun c => { (default : LampCh) with cal := c.calNext.orElse (fun _ => c.cal) }), groups := resetLamp.groups,
    launches := [], catchUp := false, ldEn := false, phaseUnlocked := false, epochDue := false }

/-- The DECK's part of metering after a reset, and the METER domain where it restarts (R349, R353). -/
def resetMeterState (type : Nat) (now : Nat) (m : MeterSt) : MeterSt :=
  let m := { m with
    saveIncomplete := false, restored := false, filledSince := false, window := none, prevWindow := none, prevEnergy := [],
    results := [], alarmRun := 0, alarmTold := false, alarmOn := false, calib := [], stdWindow := none, seeded := false, pausedAt := none,
    unexplained := 0 }
  if meterKept type then m
  else
    let m := cutSave now m
    { resetMeter with
      copyA := m.copyA, copyB := m.copyB, intent := m.intent, saving := m.saving, backup := m.backup, metrology := m.metrology, genFloor := m.genFloor,
      pfail := m.pfail, restartAt := some now,
      pins := m.pins.map (fun p => { (default : PulseIn) with level := p.level, stable := p.level, total := p.total }) }

/-- The twin after a reset: `TW_LEASE_OUT` low, the link down; inputs stay as they are (R371, R529). -/
def resetTwinState (now : Nat) (t : TwinSt) : TwinSt :=
  { resetTwin with
    latch := t.latch, lease := if t.latch then .standby else .noTwin, leaseIn := t.leaseIn, leaseInLowSince := t.leaseInLowSince,
    interlock := t.interlock && !t.latch, resetAt := now, renewedAt := now,
    validSince := now, lastValid := now }

/-- A reset after UPDATE_ACTIVATE opens the trial and ends the session; a loss of power before it finds no boot record written
(R482, R488, Table 16.8). -/
def activated (type : Nat) (s : State) : State :=
  match s.upd.boot.trial with
  | some (_, 0) => if type ≤ rtPowerOn then unactivate s else s.modUpd (fun u => { u with state := .trial, session := none })
  | _ => s

/-- Of two reset sources at once the type that keeps less governs (Table 19.5): COLD, POWER_ON, SYSTEM, RECOVERY, WARM (log entry
144). -/
def keepsLess (a b : Nat) : Nat :=
  let rank (t : Nat) : Nat := if t = rtWarm then 6 else t
  if rank a ≤ rank b then a else b

/-- A reset is asserted: what Table 19.1 and R529 say for its type. Live commands end without reply (chapter 18). -/
def assertReset (type source session : Nat) (s : State) : State :=
  let kept := type == rtWarm
  let scan := type == rtWarm || type == rtRecovery
  let s := activated type s
  let trialRun := trialTime s
  let s := if s.twin.latch && s.twin.interlock then ev evLeaseReleased [] s else s
  let s := if meterKept type then seqTakes s else takeControl .sequencer s
  let s := s.modFb (fun f => { f with keepalive := none, lastMinute := none, cont := if meterKept type then f.cont else [false, false] })
  let s := s.modSet (fun x => { x with pend := [], shadow := [] })
  let s := s.modHost (fun h => { resetHost with nextSeq := h.nextSeq })
  let s := s.modPar (fun p => { resetParapet p with restarts := if source = 4 then p.restarts else [] })
  let s := s.modPwr (fun p => { resetPwr with
    opPoint := if kept then p.opPoint else 1, vcore := p.vcore, pgood := p.pgood, throttled := p.throttled,
    backupSeen := p.backupSeen, stateSince := s.now, pmbus := { (default : Pmbus) with exponent := p.pmbus.exponent } })
  let s := (halfJoints type).foldl (fun s j => flushJoint j s)
    { s with joints := (s.joints.zip (List.range s.joints.length)).map (fun x =>
        if (halfJoints type).contains (x.2 + 1) then x.1 else default) }
  let s := s.modMac (resetMacState kept)
  let s := s.modTruss (resetTrussState kept)
  let s := s.modLamp resetLampState
  let s := startPulses (s.modMeter (resetMeterState type s.now))
  let s := s.modTwin (resetTwinState s.now)
  let s := tamperFalse 8 s
  let s := s.modSec (fun k => { k with keystone := none, debugUnlocked := false, advance := none, authFails := [], banksZeroed := true })
  let s := s.modUpd (fun u => { u with boot := { u.boot with trialNs := trialRun, trialSince := s.now }, recovery := default })
  let s := s.modBist (fun b => { resetBist with
    banks := b.banks, marker := b.marker, golden := b.golden, bankFailed := b.bankFailed, otherFailed := b.otherFailed,
    runs := if kept then b.runs else [], nextRun := b.nextRun, scanEnabled := scan && b.scanEnabled, scanAt := if scan then b.scanAt else none,
    coresHalted := scan && (b.scanEnabled || b.scanAt.isSome) })
  let s := s.modRtc (fun r => { r with learnFor := 0, correction := 0 })
  let both : Bool := s.boot.phase == .reset && s.boot.resetAt == s.now
  let s := s.modBoot (fun b => { b with
    phase := .reset, resetType := if both then keepsLess b.resetType type else type,
    resetSource := if both then b.resetSource else source, resetSession := if both then b.resetSession else session,
    sramKept := kept && (!both || b.sramKept), resetAt := s.now, evaluated := false, firstEvalAt := none })
  resetTimeUnit s

/-! ### Start of firmware: key store, settings, totals, events (Table 19.2 steps 6 and 7) -/

/-- A trial closes on the other slot and the first key store (R489, R492): UPDATE_REVERTED names the cause and the slot. -/
def revertTrial (cause : Nat) (s : State) : State :=
  match s.upd.boot.trial with
  | none => s
  | some (k, n) =>
    let other := 1 - k
    let s := s.modSec (fun x => { x with slots := if 1 ≤ n then x.slots2.getD [] else x.slots, slots2 := none })
    let s := match s.upd.copy1 with | some c => useStore c s | none => s
    let s := s.modUpd (fun u => { u with
      state := .idle, detail := 0, copy1 := none, migrated := none,
      boot := { u.boot with active := other, trial := none, trialNs := 0, revert := 0 } })
    ev evUpdateReverted [byte cause, byte other] s

/-- A slot fails at start (R493). -/
def slotFails (k : Nat) (badDigest : Bool) (s : State) : Bool :=
  let g := s.upd.slot k
  !g.valid || badDigest || (headerRefusal g.header true false s).isSome

/-- The boot record is read (R489): a revert flag and a fourth trial boot close the trial, else the trial boot counts. -/
def readBootRecord (s : State) : State :=
  match s.upd.boot.trial with
  | none => s
  | some (k, n) =>
    if s.upd.boot.revert ≠ 0 then revertTrial s.upd.boot.revert s
    else if 3 ≤ n then revertTrial 1 s
    else
      let s := if n = 0 then s.modSec (fun x => { x with slots := x.slots2.getD [], slots2 := some x.slots }) else s
      s.modUpd (fun u => { u with state := .trial, boot := { u.boot with trial := some (k, n + 1), trialSince := s.now } })

/-- The slot to boot after its checks (R493): the state, and whether neither slot boots. -/
def chooseSlot (badA badB : Bool) (s : State) : State × Bool :=
  let bad (k : Nat) : Bool := if k = 0 then badA else badB
  let k := s.upd.booted
  if !slotFails k (bad k) s then (s, false)
  else
    let o := 1 - k
    if !slotFails o (bad o) s && (s.upd.slot o).confirmed then
      match s.upd.boot.trial with
      | some _ => (revertTrial 4 s, false)
      | none =>
        (ev evUpdateReverted [4, byte o] (s.modUpd (fun u => { u with boot := { u.boot with active := o } })), false)
    else (s, true)

/-- Settings migrate on the first trial boot of a higher format (R492). -/
def migrate (s : State) : State :=
  match s.upd.boot.trial with
  | some (k, 1) =>
    let f := hdrFormat (s.upd.slot k).header
    if s.upd.storeFormat < f ∧ s.upd.migrated = none then
      ev evSettingsMigrated (le 2 s.upd.storeFormat ++ le 2 f) (s.modUpd (fun u => { u with
        copy1 := some (storeCopy s), migrated := some (u.storeFormat, f) }))
    else s
  | _ => s

/-- R348: the totals after a restart of the METER domain; the bound of Table 10.7 is rounded up to a whole mWh. -/
def restoreTotals (s : State) : State :=
  let m := s.meter
  let use (t : TotalsCopy) (s : State) : State := s.modMeter (fun m => { m with
    regs := t.regs, regsClosed := t.regs,
    pins := (m.pins.zip (t.pins ++ zeros4)).map (fun x => { x.1 with total := x.2 }) })
  let best := if m.copyA.valid && (!m.copyB.valid || m.copyB.generation ≤ m.copyA.generation) then some m.copyA
    else if m.copyB.valid then some m.copyB else none
  match best with
  | some t =>
    let s := use t s
    if t.generation < m.intent then
      ev evSaveIncomplete (le 4 t.generation ++ le 4 m.intent
          ++ le 4 ((t.prevailing.natAbs * 10002 + 359999) / 360000) ++ [byte t.kind, 0])
        (s.modMeter (fun m => { m with saveIncomplete := true }))
    else s
  | none =>
    let s := s.modMeter (fun m => { m with restored := true })
    match m.backup with
    | some t => ev evMeterTotalsRestored (le 4 t.generation) (use t s)
    | none => ev evMeterTotalsRestored (le 4 0) s
where
  zeros4 : List Nat := [0, 0, 0, 0]

/-- R451: unstaged records are staged, or EVENTS_LOST names how many the loss of ABUT SRAM took. -/
def restartEvents (cold : Bool) (s : State) : State :=
  if cold then
    let after := match s.par.staged.getLast?.orElse (fun _ => s.par.flashRing.getLast?) with | some r => r.index + 1 | none => 0
    let s := s.modPar (fun p => { p with volatileBuf := [], nextIndex := p.mramNext, dropped := 0 })
    recordEv evEventsLost sourceModule sevWarning (le 4 (s.par.mramNext - after)) none 0 s
  else s.modPar (stageAll s.now)

/-- R308, R470: what a start that finds its vault lost does: the epoch from its mirror, the log empty, VAULT_LOST. -/
def vaultStart (s : State) : State :=
  if !s.boot.vaultLost then s
  else
    let s := s.modSec (fun k => { k with epoch := (k.epochMirror + 1) % 4294967296, tamperLog := [], eraseAt := none })
    let s := s.modFb (fun f => { f with tableSram := f.tableStore, tableVault := f.tableStore })
    let s := s.modRtc (fun r => { r with trim := s.liveS 16 0x0111, u := s.liveS 16 0x0105 })
    let s := ev evRtcColdStart [] (s.modBoot (fun b => { b with vaultLost := false }))
    let s := tamperFalse 7 (tamperTrue 7 s)
    s.modSec (fun k => { k with tamperLog := k.tamperLog.map (fun e => { e with fresh := false }) })

/-- R469: one TAMPER_DETECTED for each entry made since the previous start-up; then what an erasure owes. -/
def tamperStart (s : State) : State :=
  let es := s.sec.tamperLog.filter (·.fresh)
  let s := s.modSec (fun k => { k with tamperLog := k.tamperLog.map (fun e => { e with fresh := false, owed := false }) })
  tamperOwed (es.foldl (fun s e => tamperRecord e e.inBackup s) s)

/-- R318: latched alarms are recorded with IN_BACKUP, one rearmed by a backward step with REARMED too (R319). -/
def alarmStart (i : Nat) (s : State) : State :=
  match s.rtc.alarms[i]? with
  | some { latched := some t, again := again, .. } =>
    ev evRtcAlarm (alarmPayload i (if again then 12 else 4) 1 t) (s.modRtc (fun r => { r with
      alarms := modAt r.alarms i (fun a => { a with latched := none, again := false }) }))
  | _ => s

/-- RESET_CAUSE (R531). -/
def resetCause (s : State) : State :=
  ev evResetCause [byte s.boot.resetType, byte s.boot.resetSource, byte s.boot.resetSession] s

/-- Firmware starts (Table 19.2 steps 7 to 9), each core renewing its watchdog as it begins (R440). -/
def startFirmware (s : State) : State :=
  let s := resetTimeUnit (s.modBoot (fun b => { b with phase := .firmware }))
  let s := [0, 1, 2, 3].foldl (fun s core => rearmWatchdog core s) s
  let s := resetCause s
  let s := if s.boot.pmicFailures = 0 then s
    else ev evPmicStartupFault (le 4 s.boot.pmicFailures) (s.modBoot (fun b => { b with pmicFailures := 0 }))
  let s := match s.upd.recovery.toRecord with
    | some c => ev evRecoveryEntered [byte c] (s.modUpd (fun u => { u with recovery := { u.recovery with toRecord := none } }))
    | none => s
  let s := if s.twin.leaseConflict then ev evLeaseConflict [] s else s
  let s := migrate s
  let s := if s.meter.restartAt.isSome then restoreTotals s else s
  let s := alarmStart 1 (alarmStart 0 s)
  let s := tamperStart (vaultStart s)
  let s := recordUnitKa (seedGuard s)
  let s := noteKeyless s
  let s := (List.range 28).foldl (fun s j => recordFlushed (j + 1) s) (recordOverruns s)
  let s := startPulses (meterRun (s.live 0x0600 == 1) s)
  s.modHost (fun h => { h with intakeOpen := true }) |>.modBoot (fun b => { b with firstEvalAt := some s.now })

/-! ### The sequence (Table 19.2) -/

/-- Failures of a start-up test, which runs March C- (R509, R512). -/
def testFails (origin : Nat) (l : List (TestUnit × List (Nat × Nat))) (s : State) : State :=
  l.foldl (fun s x => ev evSelftestFail (testFailure 1 origin x.1 (unitResult 1 x.1 x.2)) s) s

/-- MRAM segments a start tests: all where it restarts the METER domain, else those of regions 33 to 255 (R508). -/
def mramTested (type seg : Nat) : Bool := !meterKept type || decide (2112 ≤ seg)

/-- Failing banks are retired before firmware maps any memory; the last bank that passes is the spare (R151, R509). -/
def startBanks (fails : List Nat) (s : State) : State :=
  let spare := ((List.range 32).filter (fun n => !fails.contains n)).getLast?
  s.modBist (fun b => { b with
    bankFailed := fails.any (fun n => decide (n < 32)),
    banks := (List.range 32).map (fun n =>
      if fails.contains n then (.retired, 0) else if spare = some n then (.spare, 0)
      else (.inUse, match bankLayout[n]? with | some x => x.2 | none => 0)) })

/-- Step 5: the marker (R507), then the tests SELFTEST_STARTUP selects, every one in the recovery ROM (R509). -/
def startTest (e : BootEnv) (recovery : Bool) (s : State) : State :=
  let sel := if recovery then 7 else s.live 0x0B05
  let origin := if recovery then 3 else 2
  let s := match s.bist.marker with
    | some a => ev evSelftestRestored (le 4 a) (s.modBist (fun b => { b with marker := none }))
    | none => s
  let fails := if sel.testBit 0 then e.failBanks.filter (fun x => decide (x.1 < 32)) else []
  let s := startBanks (fails.map (·.1)) s
  let s := fails.foldl (fun s x => ev evBankRetired [] (testFails origin [(.bank x.1, x.2)] s)) s
  let segs := (if sel.testBit 1 then e.failAbut.map (fun x => (TestUnit.abut x.1, x.2)) else [])
    ++ (if sel.testBit 2 then (e.failMram.filter (fun x => mramTested s.boot.resetType x.1)).map (fun x => (TestUnit.mram x.1, x.2)) else [])
  testFails origin segs (s.modBist (fun b => { b with otherFailed := b.otherFailed || segs != [] }))

/-- The recovery ROM starts (R494): `cause` 1 the pin, 2 RESET, 3 both slots. -/
def enterRecovery (cause : Nat) (s : State) : State :=
  let s := s.modBoot (fun b => { b with phase := .recovery })
  s.modUpd (fun u => { u with recovery := { (default : Recovery) with running := true, cause := cause, toRecord := some cause } })

/-- RECOVERY_N low at the release of a WARM reset: the main SRAM that the type would keep is lost (Table 19.1). -/
def loseSram (s : State) : State :=
  if s.boot.sramKept then
    ((s.modMac (resetMacState false)).modTruss (resetTrussState false)).modBoot (fun b => { b with sramKept := false })
  else s

/-- R371, R372: the ROM stage writes the latch from the settings store before any firmware runs; `startFirmware` records the
LEASE_CONFLICT it set. -/
def writeLatch (s : State) : State :=
  let on := s.live 0x0A00 == 1
  s.modTwin (fun t => { t with
    latch := on, lease := if on then .standby else if t.leaseIn then .conflict else .noTwin, leaseOut := !on && !t.leaseIn,
    leaseConflict := !on && t.leaseIn, interlock := if on then false else t.interlock })

/-- VOUT_MODE is linear with an exponent from −15 to −8 (R409). -/
def voutModeOk (m : Nat) : Bool := bits m 7 5 == 0 && decide (-15 ≤ toS 5 m) && decide (toS 5 m ≤ -8)

/-- Steps 3 to 9. WARM and RECOVERY enter at step 5 with VCORE running. -/
def bootFrom (e : BootEnv) (s : State) : State :=
  let dialogue := s.boot.resetType ≤ rtSystem
  if dialogue && !(voutModeOk e.voutMode && e.acked) then
    s.modBoot (fun b => { b with phase := .pmicFault, pmicFailures := b.pmicFailures + 1, pmicRetryAt := s.now + sec })
  else
    let s := if dialogue then
        (sendVout (toS 5 e.voutMode) 900 (pmbusRead 0x20 s)).modPwr (fun p => { p with
          vcore := 900, pgood := true, opPoint := 1, pmbus := { p.pmbus with exponent := toS 5 e.voutMode } })
      else s
    let s := restartEvents (s.boot.resetType == rtCold) s
    let byPin : Bool := e.recoveryLow || !s.boot.recoveryN
    let s := s.modBoot (fun b => { b with recoveryN := true })
    let rec_ : Bool := byPin || s.boot.resetType == rtRecovery
    let s := writeLatch (startTest e rec_ s)
    if rec_ then
      let s := if s.boot.resetType = rtRecovery then s else s.modBoot (fun b => { b with resetType := rtRecovery, resetSource := 7 })
      enterRecovery (if byPin then 1 else 2) (loseSram s)
    else
      let c := chooseSlot e.badA e.badB (readBootRecord s)
      if c.2 then enterRecovery 3 c.1 else startFirmware c.1

/-- BOOT_SEQUENCE (R533): a reset has been released and its boot has not run. -/
def execBootSequence (e : BootEnv) (s : State) : Res :=
  .next (if s.boot.phase = .reset ∧ s.boot.resetN ∧ !s.fb.backup then bootFrom e s else s)

/-- PMIC_STARTUP_RETRY (R528): the dialogue again, 1 s after a start-up fault. -/
def execPmicStartupRetry (e : BootEnv) (s : State) : Res :=
  .next (if s.boot.phase = .pmicFault ∧ s.boot.pmicRetryAt ≤ s.now then bootFrom e (s.modBoot (fun b => { b with phase := .reset })) else s)

/-! ### Pins and supplies -/

/-- RESET_N_ASSERT (R530). Mark: DESIGN CHOICE (log entry 44): a row stands for a low that outlasts the 100 ns filter. -/
def execResetNAssert (s : State) : Res :=
  .next (if s.boot.resetN ∧ !s.fb.backup then
    assertReset rtSystem 2 0xFF (s.modBoot (fun b => { b with resetN := false, resetNSince := s.now }))
  else s)

/-- RESET_N_RELEASE (R530): `RECOVERY_N` is sampled at the rising edge. -/
def execResetNRelease (recoveryLow : Bool) (s : State) : Res :=
  .next (if s.boot.resetN then s else s.modBoot (fun b => { b with resetN := true, recoveryN := !recoveryLow }))

/-- BACKUP_ENTRY (R322): `V33` falls below 2.70 V; the abutment goes on from `VBAT`, the rest loses its supply. -/
def execBackupEntry (s : State) : Res :=
  .next (if s.fb.backup then s
    else
      let s := tamperFalse 5 (tamperFalse 4 (assertReset rtPowerOn 1 0xFF s))
      (s.modFb (fun f => { f with backup := true })).modPwr (fun p => { p with backupSeen := true, vcore := 0, pgood := false }))

/-- The vault and ABUT SRAM are lost (R308, R371, R443, R470). -/
def loseVault (s : State) : State :=
  let s := s.modRtc (fun r => { resetRtc with stdOffset := r.stdOffset, transitions := r.transitions, u := r.u, shortRecorded := r.shortRecorded })
  let s := s.modFb (fun f => { f with tableSram := none, tableVault := none })
  let s := s.modPar (fun p => { p with restarts := [], volatileBuf := [] })
  let s := s.modSec (fun k => { k with tamperLog := [], epoch := 0, eraseOwed := none, actsOwed := [] })
  let s := s.modTwin (fun t => { t with latch := true, lease := .standby, interlock := false })
  s.modBoot (fun b => { b with vaultLost := true, resetType := rtCold })

/-- VAULT_SUPPLY_LOSS (R308): `V33` and `VBAT` are both absent. -/
def execVaultSupplyLoss (s : State) : Res := .next (if s.fb.backup then loseVault s else s)

/-- POWER_ON_RESET (R322, R529): `V33` returns; COLD if the vault was lost. The sequencer derives the contactors again (R328). -/
def execPowerOnReset (s : State) : Res :=
  .next (if s.fb.backup then
    let s := tamperFalse 3 (s.modFb (fun f => { f with backup := false }))
    let s := resetTimeUnit (s.modMeter (fun m => { m with restartAt := some s.now }))
    fallbackEval (s.modBoot (fun b => { b with
      phase := .reset, resetType := if b.vaultLost then rtCold else rtPowerOn, resetSource := 1, resetSession := 0xFF,
      resetAt := s.now }))
  else s)

/-- IO_BANK_CHANGE (R541, R542): bank 1 VIO_R, 2 VIO_N, 3 VIO_L; mode 0 when not good. A member with its latch set leaves its
interlocked outputs high-Z while VIO_R is not good. -/
def ioBankChange (bank mode : Nat) (s : State) : State :=
  let good : Bool := mode != 0
  let s := s.modBoot (fun b => { b with banks := modAt b.banks (bank - 1) (fun _ => { good := good, mode := mode }) })
  let s := if bank = 1 ∧ !good ∧ s.twin.latch then
      refreshLdEn (dropLeaseOut (if s.twin.interlock then loseLease s else s))
    else s
  if s.boot.phase = .firmware then ev evIoBankFault ([byte bank, byte (b2n good), byte mode] ++ zeros 11) s else s

/-- The modes a bank has (R541). -/
def bankMode (bank mode : Nat) : Bool := mode == 0 || mode == 3 || (mode == 1 && bank != 2) || (mode == 2 && bank == 2)

def execIoBankChange (bank mode : Nat) (s : State) : Res :=
  .next (match s.boot.banks[bank - 1]? with
    | some b => if bank = 0 ∨ b.mode = mode ∨ !bankMode bank mode ∨ (b.good = false ∧ mode = 0) then s else ioBankChange bank mode s
    | none => s)

/-! ### Resets the module orders -/

/-- SAFE_HOLD_RESTART (R443). -/
def execSafeHoldRestart (s : State) : Res :=
  .next (
    let recent := s.par.restarts.filter (fun t => decide (s.now < t + 3600 * sec))
    if s.par.safe && s.live 0x0902 != 0 && decide (s.par.safeSince + s.live 0x0902 * sec ≤ s.now)
        && decide (recent.length < s.live 0x0903) then
      assertReset rtSystem 4 0xFF (s.modPar (fun p => { p with restarts := s.now :: recent }))
    else s)

/-- TRIAL_TIME_LIMIT (R489): 600 s of trial set the revert flag. -/
def execTrialTimeLimit (s : State) : Res :=
  .next (if s.boot.phase = .firmware ∧ s.upd.boot.trial.isSome ∧ 600 * sec ≤ trialTime s then
    assertReset rtSystem 5 0xFF (s.modUpd (fun u => { u with boot := { u.boot with revert := 2 } }))
  else s)

end Sys2Proof.Machine
end

