-- ==== Sys2Proof/Machine/Recovery.lean ====
section
/-! DEFINITION. The recovery ROM's download protocol (R494 to R496, Table 16.4). A row RECOVERY_BEGIN, RECOVERY_DATA or
RECOVERY_BOOT is a frame on Ethernet port A, whose answers leave in `out.recovery`; HSPI and HUART bring theirs by the window and
by HUART_FRAME. -/

namespace Sys2Proof.Machine

/-- The slot the ROM writes: not the confirmed active one; slot A if neither is valid (R494). -/
def recoverySlot (s : State) : Nat :=
  let a := s.upd.slot s.upd.boot.active
  if !s.upd.slotA.valid && !s.upd.slotB.valid then 0
  else if a.valid && a.confirmed then 1 - s.upd.boot.active else s.upd.boot.active

/-- A ROM frame. -/
def romFrame (type seq : Nat) (payload : Bytes) : Bytes :=
  withCrc ([byte type, 0] ++ le 2 seq ++ le 2 payload.length ++ zeros 2 ++ payload)

/-- A host frame of a type whose form and CRC are good: its payload. -/
def hostFrame (type : Nat) (f : Bytes) : Option Bytes :=
  let n := fld f 4 2
  if f.length = 12 + n && n ≤ 1032 && crcOk f && fld f 0 1 == type && zeroAt f 1 1 && zeroAt f 6 2 then some (sub f 8 n) else none

/-- The state of a slot in HELLO: 0 invalid, 1 valid, 2 confirmed active. -/
def helloSlot (k : Nat) (s : State) : Nat :=
  let g := s.upd.slot k
  if !g.valid then 0 else if g.confirmed && s.upd.boot.active == k then 2 else 1

def helloPayload (s : State) : Bytes :=
  le 16 s.otp.unitId ++ [byte s.otp.orderCode, byte s.otp.lifecycle, byte s.otp.antiRollback, byte (helloSlot 0 s), byte (helloSlot 1 s)]
    ++ zeros 3

def modRecovery (f : Recovery → Recovery) (s : State) : State := s.modUpd (fun u => { u with recovery := f u.recovery })

def romSend (b : Bytes) (s : State) : State := s.modOut (fun o => { o with recovery := o.recovery ++ [b] })

/-- Fragments held by the journal's session. -/
def heldFrags (s : State) : Nat := match s.upd.session with | some x => x.bitmap.length | none => 0

/-- The STATUS that answers a host frame; it is kept for a repeat. -/
def romStatus (seq status detail : Nat) (s : State) : State :=
  let b := romFrame 4 seq ([byte status, byte detail, 0, 0] ++ le 4 (heldFrags s))
  romSend b (modRecovery (fun r => { r with lastSeq := some seq, lastStatus := b, hostSeen := true }) s)

/-- A host frame is executed once: a repeated sequence gets the STATUS already sent (R495). The body answers a status, a
detail and the state. -/
def romCommand (type : Nat) (f : Bytes) (body : Bytes → State → State × Nat × Nat) (s : State) : State :=
  if !s.upd.recovery.running then s
  else match hostFrame type f with
    | none => s
    | some p =>
      let seq := fld f 2 2
      if s.upd.recovery.lastSeq = some seq then romSend s.upd.recovery.lastStatus s
      else
        let r := body p s
        romStatus seq r.2.1 r.2.2 r.1

/-- BEGIN (R495): the checks of Table 16.2, check 6 passing; the same header goes on with the journal's session, another
replaces it. The ROM erases the slot before it answers. -/
def romBegin (h : Bytes) (s : State) : State × Nat × Nat :=
  if h.length ≠ 512 then (s, stBadLength, dLengthOpcode)
  else match headerRefusal h true true s with
    | some (st, d) => (s, st, d)
    | none =>
      let t := recoverySlot s
      let resumes : Bool := match s.upd.session with | some x => x.header == h && x.target == t | none => false
      let s := if resumes then s else ev evUpdateBegun (hdrVersion h ++ [byte (hdrCounter h), byte t]) (newSessionUpd h t s)
      (s.modUpd (fun u => { u with session := u.session.map (fun x => { x with erased := slotSectors }) }), stOk, dNone)

def execRecoveryBegin (frame : Bytes) (s : State) : Res := .next (romCommand 2 frame romBegin s)

/-- DATA (R483, R485, R495): the last missing fragment is followed by verification. -/
def romData (p : Bytes) (s : State) : State × Nat × Nat :=
  let i := fld p 0 4
  let d := p.drop 8
  match s.upd.session with
  | none => (s, stBadParam, 0x89)
  | some x =>
    if !zeroAt p 4 4 then (s, stBadParam, dReservedBit)
    else if hdrFrags x.header ≤ i ∨ d.length ≠ fragLen (hdrLen x.header) i then (s, stBadParam, 0x89)
    else if x.bitmap.contains i then (s, stOk, dNone)
    else
      let s := programFrag x i d s
      if s.upd.state = .verifying then
        let s := verifyDone s
        if s.upd.state = .failed then (s, stImageBad, s.upd.detail) else (s, stOk, dNone)
      else (s, stOk, dNone)

def execRecoveryData (frame : Bytes) (s : State) : Res := .next (romCommand 3 frame romData s)

/-- The key store for the new slot (R496): sealed again while the slot it was sealed under is intact, else as it stands. -/
def romKeys (target : Nat) (s : State) : State :=
  if target ≠ s.upd.booted ∧ (s.upd.slot s.upd.booted).valid then rewrap target s
  else s.modSec (fun k => { k with slots2 := some k.slots })

/-- The ROM boots the new slot as trial boot 1 (R489, R495). -/
def romBoot (s : State) : State :=
  match s.upd.session with
  | none => s
  | some x =>
    let s := romKeys x.target s
    let s := s.modUpd (fun u => { u with
      session := none, state := .trial, recovery := { u.recovery with running := false },
      boot := { u.boot with active := 1 - x.target, trial := some (x.target, 0), trialNs := 0, revert := 0 } })
    startFirmware (readBootRecord s)

/-- BOOT: answered OK only when the image is READY; then the ROM boots it. -/
def recoveryBoot (f : Bytes) (s : State) : State :=
  let fresh : Bool := s.upd.recovery.running && (hostFrame 5 f).isSome && s.upd.recovery.lastSeq != some (fld f 2 2)
  let go : Bool := s.upd.state == .ready
  let s := romCommand 5 f (fun p s =>
    if p ≠ [] then (s, stBadLength, dLengthOpcode) else if s.upd.state = .ready then (s, stOk, dNone) else (s, stBusy, 0x82)) s
  if fresh && go && hostFrame 5 f == some [] then romBoot s else s

def execRecoveryBoot (frame : Bytes) (s : State) : Res := .next (recoveryBoot frame s)

/-- HELLO on every transport; on HSPI and HUART one at most waits to leave. Its sequence is 0 (log entries 45, 139). -/
def romHello (s : State) : State :=
  let b := romFrame 1 0 (helloPayload s)
  [Transport.hspi, .huart].foldl (fun s t => if s.host.bare.any (fun q => q.1 == t) then s else pushBare t b 0 s) (romSend b s)

/-- RECOVERY_HELLO_TIMER (R495): every 1 s until the first host frame. -/
def execRecoveryHelloTimer (s : State) : Res :=
  .next (
    let r := s.upd.recovery
    if r.running && !r.hostSeen && decide (r.lastHello + sec ≤ s.now) then
      romHello (modRecovery (fun r => { r with lastHello := s.now }) s)
    else s)

end Sys2Proof.Machine
end

