-- ==== Sys2Proof/Machine/Host.lean ====
section
/-! DEFINITION. The host transports and intake (R38 to R77, R84, R92, R98, R406, R421 to R428): the HSPI window, HUART and DBG
frames, Ethernet handshakes and datagrams, the intake responder of safe state, the checks of Table 2.10, acceptance and
supersession, the timers of sessions, and what follows a reply's last byte. -/

namespace Sys2Proof.Machine

/-! ### Header fields of a packet (Table 2.1) -/

def pkKind (b : Bytes) : Nat := bits (fld b 0 1) 3 0
def pkVersion (b : Bytes) : Nat := bits (fld b 0 1) 7 4
def pkTag (b : Bytes) : Nat := fld b 1 1
def pkOpcode (b : Bytes) : Nat := fld b 2 2
def pkFlags (b : Bytes) : Nat := fld b 4 2
def pkDep (b : Bytes) : Nat := fld b 6 1
def pkRole (b : Bytes) : Nat := fld b 7 1
def pkDeadline (b : Bytes) : Nat := fld b 8 4
def pkTarget (b : Bytes) : Nat := fld b 12 8
def pkLen (b : Bytes) : Nat := fld b 20 2
def pkParams (b : Bytes) : Bytes := sub b 24 (pkLen b)

/-- Credits a packet costs (R51). -/
def costOf (b : Bytes) : Nat := (b.length + 255) / 256

/-- A reply without parameters to a packet that was not accepted: it copies the header's fields (R41). -/
def headerReply (b : Bytes) (credits status detail : Nat) : Bytes :=
  packet 1 (pkTag b) (pkOpcode b) (pkFlags b) (pkDep b) (pkRole b) (le 2 0 ++ le 2 credits) (sub b 12 8) status detail []

/-- Checks 1 to 3 of Table 2.10. -/
def checks123 (b : Bytes) : Option (Nat × Nat) :=
  if !crcOk b then some (stBadCrc, dNone)
  else if pkVersion b ≠ 1 then some (stBadParam, dVersion)
  else if pkKind b ≠ 0 then some (stBadParam, dKind)
  else if 4068 < pkLen b ∨ b.length ≠ 28 + pkLen b then some (stBadLength, dLengthField)
  else none

/-! ### Refusals -/

/-- A refusal takes a refusal slot of the session, or goes to the transport (R45, R53); the packet's credits come back. -/
def refusePacket (t : Transport) (sid : Option Nat) (b : Bytes) (st d : Nat) (s : State) : State :=
  match sid with
  | none => pushBare t (headerReply b 0 st d) 0 s
  | some n =>
    let s := giveCredits n (costOf b) s
    checkBacklog n (s.modSession n (fun x => { x with
      refusals := x.refusals ++ [{ bytes := headerReply b (min x.owed 65535) st d, slot := false, seq := 0 }], owed := 0 }))

/-! ### The intake responder of safe state (R61) -/

/-- What the responder answers a packet that passed checks 1 to 3; none where it executes RESET. BAD_LENGTH for
a RESET of another length is a DESIGN CHOICE (log entry 105). -/
def safeRefusal (x : Option Session) (b : Bytes) : Option (Nat × Nat) :=
  if pkOpcode b ≠ 0x0003 then some (stSafeState, dNone)
  else match x with
    | none => some (stNotPermitted, dNoSession)
    | some x =>
      if pkRole b = 0 ∨ 4 < pkRole b then some (stBadParam, dRoleValue)
      else if pkRole b < 2 then some (stNotPermitted, dRoleBelow)
      else if x.role < pkRole b then some (stNotPermitted, dRoleAbove)
      else if pkLen b ≠ 4 then some (stBadLength, dLengthOpcode)
      else resetRefusal (pkParams b) (pkRole b)

/-- The responder's reply; `charged` says that the packet's credits were taken when it arrived. It
is bound by no refusal slot: DESIGN CHOICE (log entry 105). -/
def safeReply (t : Transport) (charged : Bool) (b : Bytes) (st d seq : Nat) (s : State) : State :=
  match sidOf s t with
  | none => pushBare t (headerReply b 0 st d) seq s
  | some n =>
    let s := if charged then giveCredits n (costOf b) s else s.modSession n (fun x => { x with owed := x.owed + costOf b })
    s.modSession n (fun x => { x with
      refusals := x.refusals ++ [{ bytes := headerReply b (min x.owed 65535) st d, slot := false, seq := seq }], owed := 0 })

/-- The responder answers a packet; RESET on a kept session is executed 10 ms after its reply (R61, R92). -/
def safeAnswer (t : Transport) (charged : Bool) (b : Bytes) (s : State) : State :=
  match checks123 b with
  | some (st, d) => safeReply t charged b st d 0 s
  | none =>
    let n := sidOf s t
    match safeRefusal (n.bind s.session) b with
    | some (st, d) => safeReply t charged b st d 0 s
    | none =>
      let q := s.host.nextSeq
      safeReply t charged b stOk dNone q (s.modHost (fun h => { h with
        nextSeq := q + 1, resetWait := h.resetWait ++ [(resetTypeOf (fld (pkParams b) 0 1), 3, n.getD 0xFF, q)] }))

/-! ### Packets that completed their framing (R45, R52, R422) -/

def enqueue (e : InEntry) (s : State) : State :=
  checkInbound (toRun (s.modHost (fun h => { h with intake := h.intake ++ [e] })))

/-- A packet of an open session: its credits are taken, or it is discarded (R52, R422). -/
def offerOn (t : Transport) (n : Nat) (x : Session) (b : Bytes) (s : State) : State :=
  if x.credits < costOf b then
    evS n 0 evCreditViolation [] (s.modSession n (fun x => { x with creditViolations := satAdd 16 x.creditViolations 1 }))
  else
    let s := s.modSession n (fun x => { x with credits := x.credits - costOf b })
    if intakeCap s ≤ s.host.intake.length then
      evS n 0 evIntakeFull [] (giveCredits n (costOf b) (s.modSession n (fun x => { x with
        noticesLost := satAdd 16 x.noticesLost 1 })))
    else enqueue { transport := t, sid := some n, bytes := b } s

/-- A packet on HSPI, HUART or DBG. Before intake accepts entries it is discarded and counted (R60); in safe state the
responder answers (R61); without a session one packet at a time is read (R45), and one that finds the intake queue full is discarded and counted.
Mark: DESIGN CHOICE (log entry 161). -/
def offerLocal (t : Transport) (b : Bytes) (s : State) : State :=
  let drop (s : State) : State := s.modHost (fun h => { h with bareDiscards := h.bareDiscards + 1 })
  if !s.host.intakeOpen then drop s
  else if s.par.safe then safeAnswer t false b s
  else if s.host.bareBusy.contains t then drop s
  else match sidOf s t with
    | some n => match s.session n with
      | some x => offerOn t n x b s
      | none => s
    | none =>
      if intakeCap s ≤ s.host.intake.length then drop s
      else enqueue { transport := t, sid := none, bytes := b } (s.modHost (fun h => { h with bareBusy := h.bareBusy ++ [t] }))

/-! ### What a transport sends next -/

/-- The packet leaves its queue: the slot of a reply or refusal is free again, which may cross the low watermark (R53, R427). -/
def dropOut (t : Transport) (sid : Option Nat) (p : OutPkt) (s : State) : State :=
  if s.host.bare.any (fun q => q.1 == t && q.2 == p) then
    s.modHost (fun h => { h with bare := h.bare.eraseP (fun q => q.1 == t && q.2 == p) })
  else match sid with
    | none => s
    | some n =>
      checkBacklog n (s.modSession n (fun x =>
        if x.replies.contains p then { x with replies := x.replies.erase p }
        else if x.refusals.contains p then { x with refusals := x.refusals.erase p }
        else { x with notices := x.notices.erase p }))

/-- What follows a packet's last byte: a reset is due 10 ms later (R92, R464), a life-cycle transition takes place (R464), a
granting SESSION_OPEN reply starts the 2 ms of R64, and a transport without session may send again (R45). -/
def packetLeft (t : Transport) (p : OutPkt) (s : State) : State :=
  let s := if s.host.bare.any (fun q => q.1 == t) then s
    else s.modHost (fun h => { h with bareBusy := h.bareBusy.erase t })
  let s := match s.host.resetWait.find? (fun w => w.2.2.2 == p.seq) with
    | some (ty, src, sid, q) => s.modHost (fun h => { h with
        resetWait := h.resetWait.filter (fun w => w.2.2.2 != q),
        resetAt := h.resetAt.orElse (fun _ => some (s.now + 10 * ms, ty, src, sid)) })
    | none => s
  let s : State := match s.host.baudNext with
    | some (code, none) =>
      if t = Transport.huart ∧ pkKind p.bytes = 1 ∧ pkOpcode p.bytes = 0x0009 ∧ fld p.bytes 22 1 = 0 then
        s.modHost (fun h => { h with baudNext := some (code, some (s.now + 2 * ms)) })
      else s
    | _ => s
  match s.sec.advance with
  | some (to_, q) => if p.seq = q then advanceLife to_ s else s
  | none => s

/-! ### HSPI (R56 to R60, R406) -/

/-- WIN_STATUS (Table 2.5). -/
def winStatus (s : State) : Nat :=
  let w := s.host.win
  let left := match winHead s with | some p => p.bytes.length - 4 * w.popped | none => 0
  left % 8192 + 2 ^ 13 * b2n (winHead s).isSome + 2 ^ 14 * b2n (inReady s) + 2 ^ 15 * b2n w.underrun + 2 ^ 16 * b2n w.overrun
    + 2 ^ 17 * b2n w.frameErr + 2 ^ 18 * b2n (sidOf s .hspi).isSome + 2 ^ 19 * b2n s.par.safe

/-- WIN_CREDITS (Table 2.4). -/
def winCredits (s : State) : Nat :=
  match (sidOf s .hspi).bind s.session with | some x => min x.credits 65535 | none => 0

/-- WIN_WATERMARKS (Table 2.4, R425). -/
def winWatermarks (s : State) : Nat :=
  let fillIn := 100 * s.host.intake.length / intakeCap s
  let fillOut := match sidOf s .hspi with | some n => 100 * replyFill s.host n / 272 | none => 0
  min fillIn 255 + 256 * min fillOut 255 + 65536 * b2n s.hostFlow

/-- A window register as read (R58, R406). WIN_IN is write only; what it reads the spec does not say. -/
def winRead (offset : Nat) (s : State) : Nat :=
  if offset = 0x00 then (if s.upd.recovery.running then 0x0D4B00FF else 0x0D4B0001)
  else if offset = 0x04 then winStatus s
  else if s.pwr.stopped then s.host.win.lastPop.toNat
  else if offset = 0x08 then Config.unstated 25 0
  else if offset = 0x10 then winCredits s
  else if offset = 0x14 then s.host.win.irqMask
  else if offset = 0x18 then winIrqCause s
  else if offset = 0x1C then winWatermarks s
  else s.host.win.lastPop.toNat

def modWin (f : Window → Window) (s : State) : State := s.modHost (fun h => { h with win := f h.win })

def wordBytes (ws : List Word32) : Bytes := ws.flatMap (fun w => le 4 w.toNat)

/-- A host frame of the download protocol on HSPI or HUART: executed by its type, and answered on the same transport (R495). -/
def romFrameIn (t : Transport) (f : Bytes) (s : State) : State :=
  let n := s.out.recovery.length
  let s := if fld f 0 1 = 2 then romCommand 2 f romBegin s else if fld f 0 1 = 3 then romCommand 3 f romData s else recoveryBoot f s
  (s.out.recovery.drop n).foldl (fun s b => pushBare t b 0 s) (s.modOut (fun o => { o with recovery := o.recovery.take n }))

/-- A packet whole in the window goes to intake, a frame of the download protocol to the ROM (R60, R495). -/
def windowIn (b : Bytes) (s : State) : State := if s.upd.recovery.running then romFrameIn .hspi b s else offerLocal .hspi b s

/-- A word at WIN_IN (R60, R495): the length is known once the word of the header that holds it is in. A recovery frame's field
above 1,032 is treated as a packet's above 4,068 (log entry 139). A word lost is an OVERRUN of joint 0x1A too (R416, R417). -/
def pushWord (w : Word32) (s : State) : State :=
  if !inReady s then recordOverrun 0x1A (modJoint 0x1A (fun x => { x with overrun := true, lost := satAdd 16 x.lost 1 })
    (modWin (fun x => { x with overrun := true, causeOverrun := true }) s))
  else if s.host.win.discarding then s
  else
    let rom := s.upd.recovery.running
    let ws := s.host.win.inWords ++ [w]
    let n := fld (wordBytes ws) (if rom then 4 else 20) 2
    let whole := (if rom then 12 else 28) + n
    if ws.length < (if rom then 2 else 6) then modWin (fun x => { x with inWords := ws }) s
    else if (if rom then 1032 else 4068) < n then
      modWin (fun x => { x with frameErr := true, causeFrameErr := true, discarding := true, inWords := [] }) s
    else if ws.length < (whole + 3) / 4 then modWin (fun x => { x with inWords := ws }) s
    else windowIn ((wordBytes ws).take whole) (modWin (fun x => { x with inWords := [] }) s)

/-- A transaction begins with `HSPI_CS_N` falling, which wakes (R56, Table 12.8). -/
def hspi (f : State → State) (s : State) : State := onBank 1 (fun s => f (wakeUp 5 s)) s

/-- A word at WIN_OUT (R60): an empty window gives the last word again and sets UNDERRUN. -/
def popWord (s : State) : State :=
  match winHead s with
  | none => modWin (fun w => { w with underrun := true, causeUnderrun := true }) s
  | some p =>
    let i := s.host.win.popped
    let s := modWin (fun w => { w with lastPop := BitVec.ofNat 32 (fld p.bytes (4 * i) 4), head := some p, popped := i + 1 }) s
    if p.bytes.length ≤ 4 * (i + 1) then
      packetLeft .hspi p (dropOut .hspi (sidOf s .hspi) p (modWin (fun w => { w with head := none, popped := 0 }) s))
    else s

/-- A write to WIN_STATUS (Table 2.5): ABORT_IN and the flags that clear on a one. WIN_STATUS and WIN_IRQ_CAUSE
latch FRAME_ERR, OVERRUN and UNDERRUN each for itself. Mark: DESIGN CHOICE (log entry 160). -/
def writeStatus (v : Nat) (s : State) : State :=
  modWin (fun w => { w with
    inWords := if v.testBit 31 then [] else w.inWords, discarding := w.discarding && !v.testBit 31,
    frameErr := w.frameErr && !v.testBit 17, overrun := w.overrun && !v.testBit 16, underrun := w.underrun && !v.testBit 15 }) s

/-- A write to WIN_IRQ_CAUSE (Table 2.6), which clears its own latches (log entry 160). -/
def writeCause (v : Nat) (s : State) : State :=
  modWin (fun w => { w with
    causeCredits := w.causeCredits && !v.testBit 1, causeUnderrun := w.causeUnderrun && !v.testBit 2,
    causeOverrun := w.causeOverrun && !v.testBit 3, causeFrameErr := w.causeFrameErr && !v.testBit 4,
    causeSafe := w.causeSafe && !v.testBit 5 }) s

/-- A write of a word to a window register by its offset (Table 2.4): read-only registers ignore it. -/
def writeReg (offset : Nat) (w : Word32) (s : State) : State :=
  if offset = 0x04 then writeStatus w.toNat s
  else if offset = 0x08 then pushWord w s
  else if offset = 0x14 then modWin (fun x => { x with irqMask := w.toNat % 64 }) s
  else if offset = 0x18 then writeCause w.toNat s
  else s

/-- The register that the next group of four bytes goes to: WIN_IN and WIN_OUT stay, the others advance and wrap (R57). -/
def nextReg (offset : Nat) : Nat := if offset = 0x08 ∨ offset = 0x0C then offset else (offset + 4) % 0x20

/-- The groups of four data bytes of a write, from a register on; a last group of fewer bytes writes nothing. Mark: DESIGN
CHOICE (log entry 102). -/
def writeGroups : Nat → Nat → Bytes → State → State
  | 0, _, _, s => s
  | n + 1, offset, d, s =>
    if d.length < 4 then s
    else writeGroups n (nextReg offset) (d.drop 4) (writeReg offset (BitVec.ofNat 32 (leNat (d.take 4))) s)

/-- A read of a register: a read of WIN_OUT pops, and while the DECK's clocks are stopped every read but those of WIN_ID and WIN_STATUS is
answered as an empty WIN_OUT (R57, R60, R406). -/
def readReg (offset : Nat) (s : State) : State × Nat :=
  if offset = 0x0C ∨ (s.pwr.stopped ∧ offset ≠ 0x00 ∧ offset ≠ 0x04) then
    let s := popWord s
    (s, s.host.win.lastPop.toNat)
  else (s, winRead offset s)

/-- The registers that `n` clocked data bytes read, and the bytes driven on HSPI_MISO; a last group of fewer bytes shows the
value's first bytes and pops nothing (log entry 102). -/
def readGroups : Nat → Nat → Nat → State → State × Bytes
  | 0, _, _, s => (s, [])
  | f + 1, offset, n, s =>
    if n = 0 then (s, [])
    else if n < 4 then (s, (le 4 (if offset = 0x0C then (readReg offset s).2 else winRead offset s)).take n)
    else
      let (s, v) := readReg offset s
      let (s, out) := readGroups f (nextReg offset) (n - 4) s
      (s, le 4 v ++ out)

/-- A register offset of Table 2.4. -/
def isReg (a : Nat) : Bool := a < 0x20 && a % 4 == 0

/-- One HSPI transaction, from HSPI_CS_N falling to its rise: the bytes the host clocks out, and those the module drives
(Table 2.3, R56, R57). One that begins with another command byte, or whose address is no register offset, is ignored with
HSPI_MISO low. What HSPI_MISO carries under the command, address, dummy and write data bytes the spec does not say: it is
left out of the output. -/
def hspiBytes (mosi : Bytes) (s : State) : State × Bytes :=
  let cmd := fld mosi 0 1
  let addr := fld mosi 1 1
  if mosi.length < 2 ∨ !isReg addr then (s, zeros mosi.length)
  else if cmd = 0x02 then (writeGroups (mosi.length / 4) addr (mosi.drop 2) s, [])
  else if cmd = 0x03 then readGroups (mosi.length / 4 + 1) addr (mosi.length - 2) s
  else if cmd = 0x0B then readGroups (mosi.length / 4 + 1) addr (mosi.length - 3) s
  else (s, zeros mosi.length)

/-- The transaction on the pins: the bytes driven join HSPI_MISO's output. -/
def hspiTransaction (mosi : Bytes) (s : State) : State :=
  let (s, miso) := hspiBytes mosi s
  s.modOut (fun o => { o with hspi := o.hspi ++ [miso] })

/-- A write of one word to a register as a transaction. -/
def hspiWrite (offset : Nat) (w : Word32) (s : State) : State := hspi (hspiTransaction ([0x02, byte offset] ++ le 4 w.toNat)) s

def execWinInPush (w : Word32) (s : State) : Res := .next (hspiWrite 0x08 w s)
def execWinOutPop (s : State) : Res := .next (hspi (hspiTransaction ([0x0B, 0x0C] ++ zeros 5)) s)
def execAbortIn (s : State) : Res := .next (hspiWrite 0x04 0x80000000 s)
def execWinStatusW1c (w : Word32) (s : State) : Res := .next (hspiWrite 0x04 w s)
def execWinIrqCauseW1c (w : Word32) (s : State) : Res := .next (hspiWrite 0x18 w s)
def execRegisterWrite (offset : Nat) (w : Word32) (s : State) : Res := .next (hspiWrite offset w s)

/-- HSPI_TRANSACTION_IGNORED (R56): any transaction by its bytes. One that Table 2.3 does not list changes no register and drives
HSPI_MISO low; one that it lists, such as a register read, for which the table of rows has no row of its own, is performed.
Mark: DESIGN CHOICE (log entry 102). -/
def execHspiTransactionIgnored (command : Byte) (rest : Bytes) (s : State) : Res := .next (hspi (hspiTransaction (command :: rest)) s)

/-! ### HUART and DBG (R62, R63, R71) -/

/-- Removes the escapes of a frame; none where it ends on a lone 0x7D (R62, R63). -/
def unescape : Bytes → Option Bytes
  | [] => some []
  | [0x7D] => none
  | 0x7D :: b :: l => (unescape l).map ((b ^^^ 0x20) :: ·)
  | b :: l => (unescape l).map (b :: ·)

/-- A packet as a frame (R62). -/
def frameOf (b : Bytes) : Bytes :=
  [0x7E] ++ b.flatMap (fun x => if x = 0x7E ∨ x = 0x7D then [0x7D, x ^^^ 0x20] else [x]) ++ [0x7E]

/-- A frame's content between flags (R62, R63); in the recovery ROM HUART carries the download protocol (R495). -/
def frameIn (t : Transport) (f : Bytes) (s : State) : State :=
  let bad (s : State) : State := s.modHost (fun h => { h with huartDiscards := h.huartDiscards + 1 })
  match unescape f with
  | none => bad s
  | some b =>
    if s.upd.recovery.running then (if t = .huart then romFrameIn t b s else bad s)
    else if b.length < 28 ∨ !s.host.intakeOpen then bad s else offerLocal t b s

/-- The bytes of a complete frame, flags included or not: repeated flags are idle. -/
def framesIn (t : Transport) (raw : Bytes) (s : State) : State :=
  ((splitAt_ 0x7E raw).filter (· != [])).foldl (fun s f => frameIn t f s) s

/-- HUART_FRAME (R62, R63, R406): while the DECK's clocks are stopped the falling edge wakes and the bytes are discarded. -/
def huartFrame (raw : Bytes) (s : State) : State := if s.pwr.stopped then wakeUp 6 s else framesIn .huart raw s

def execHuartFrame (raw : Bytes) (s : State) : Res := .next (onBank 1 (huartFrame raw) s)

/-- DBG_FRAME (R71, R466): the mailbox exists only while debug is enabled. -/
def execDbgFrame (raw : Bytes) (s : State) : Res :=
  .next (if s.debugEnabled && !s.pwr.stopped then onBank 1 (framesIn .dbg raw) s else s)

/-! ### Ethernet (R65 to R70) -/

def ethDrop (s : State) : State := s.modHost (fun h => { h with ethDiscards := h.ethDiscards + 1 })

/-- Sends a datagram to a peer. -/
def ethOut (peer : Nat) (b : Bytes) (s : State) : State := s.modOut (fun o => { o with eth := o.eth ++ [(peer, b)] })

/-- A module HANDSHAKE that opens no session (R67); its session fields are free. -/
def refuseHandshake (peer st : Nat) (s : State) : State :=
  let sid := byte (Config.unstated 24 st)
  ethOut peer ([1, sid, 0, 0] ++ zeros 8 ++ [byte st, sid] ++ le 2 512 ++ zeros 96) s

/-- A session number for a handshake: at most two on Ethernet and four in all (R43). -/
def ethSid (s : State) : Option Nat :=
  if 2 ≤ ([0, 1, 2, 3].filter (fun n => match s.session n with | some x => x.transport == .eth | none => false)).length then none
  else freeSid s .eth

/-- The session opens: an ephemeral key and a nonce, the channel key of Table 2.8, and the reply under the role's key. -/
def openEth (peer role n : Nat) (hostKey p z : Bytes) (d : Nat) (s : State) : State :=
  let nonce := s.rnd 16
  let env := [1, byte n, 0, 0] ++ zeros 8
  let body := [byte stOk, byte n] ++ le 2 512 ++ ecPublic d ++ nonce
  let key := kdf z (ascii "DORUA-CHANNEL") (sub p 80 16 ++ nonce ++ [byte n])
  let ch : EthChan :=
    { key := key, txCounter := 1, rxNext := 1, rxHighest := 0, held := [], peer := peer, lastAuth := s.now, firstData := false }
  let s := s.draw.modHost (fun h => { h with
    sessions := modAt h.sessions n (fun _ => some { newSession .eth role false with chan := some ch }) })
  ethOut peer (env ++ body ++ cmac hostKey (p ++ env ++ body)) s

/-- HANDSHAKE (R66, R67): the form, four a second, the keyless condition, the CMAC under the role's key, the limits.
The check and the reply are two operations under the key (R457, log entry 167).
A second of the limit is a whole second of elapsed time. Mark: DESIGN CHOICE (log entry 159). -/
def handshake (peer : Nat) (p : Bytes) (s : State) : State :=
  if p.length ≠ 112 ∨ fld p 1 1 ≠ 0xFF ∨ !zeroAt p 2 10 ∨ !zeroAt p 13 3 then ethDrop s
  else
    let sec_ := s.now / sec
    let count := if s.host.hsSecond = sec_ then s.host.hsCount else 0
    if 4 ≤ count then ethDrop s
    else
      let s := s.modHost (fun h => { h with hsSecond := sec_, hsCount := count + 1 })
      let role := fld p 12 1
      let failed (s : State) : State := noteAuth 0xFFFF 0xFF (refuseHandshake peer stAuthFailed s)
      if s.keyless then refuseHandshake peer stKeyless s
      else if role = 0 ∨ 3 < role then failed s
      else match s.slotRec (roleSlot role) with
        | none => failed s
        | some r =>
          let s := useKey (roleSlot role) s
          if cmac r.key (p.take 96) ≠ sub p 96 16 then failed s
          else match ethSid s with
            | none => refuseHandshake peer stBusy s
            | some n =>
              let d := Config.freeNat s.freeIdx % (p256N - 1) + 1
              match ecdh d (sub p 16 64) with
              | none => failed s.draw
              | some z =>
                if (s.slotRec (roleSlot role)).isNone then failed s.draw
                else useKey (roleSlot role) (openEth peer role n r.key p z d s.draw)

/-- The packet of a taken datagram goes to intake (R69). A body shorter than 28 bytes is discarded and counted. Mark: DESIGN CHOICE
(log entry 78). -/
def takePacket (n : Nat) (b : Bytes) (s : State) : State :=
  match s.session n with
  | none => s
  | some x => if b.length < 28 then ethDrop s else offerOn .eth n x b s

def modChan (n : Nat) (f : EthChan → EthChan) (s : State) : State :=
  s.modSession n (fun x => { x with chan := x.chan.map f })

def State.chan (s : State) (n : Nat) : Option EthChan := (s.session n).bind (·.chan)

/-- Takes held datagrams while the next counter stands among them. -/
def takeHeld (n : Nat) : Nat → State → State
  | 0, s => s
  | k + 1, s =>
    match s.chan n with
    | none => s
    | some ch => match ch.held.find? (fun e => e.1 == ch.rxNext) with
      | none => s
      | some e =>
        takeHeld n k (takePacket n e.2.1 (modChan n (fun c => { c with
          rxNext := e.1 + 1, rxHighest := max c.rxHighest e.1, held := c.held.filter (fun x => x.1 != e.1) }) s))

/-- DATA (R68 to R70): authenticated, then taken in counter order; a later one is held for the gap to fill. -/
def dataIn (peer : Nat) (p : Bytes) (s : State) : State :=
  let n := fld p 1 1
  let q := fld p 4 8
  match s.chan n with
  | none => ethDrop s
  | some ch =>
    if p.length < 28 ∨ !zeroAt p 2 2 then ethDrop s
    else match gcmOpen ch.key (le 4 1 ++ le 8 q) (p.take 12) (sub p 12 (p.length - 28)) (p.drop (p.length - 16)) with
      | none => ethDrop s
      | some b =>
        let s := modChan n (fun c => { c with peer := peer, lastAuth := s.now, firstData := true }) s
        if q < ch.rxNext ∨ ch.held.any (fun e => e.1 == q) ∨ q + 64 ≤ ch.rxHighest then ethDrop s
        else takeHeld n (ch.held.length + 1) (modChan n (fun c => { c with held := c.held ++ [(q, b, s.now)] }) s)

/-- A UDP datagram on port 47710 (R65, Table 2.7). -/
def datagram (peer : Nat) (p : Bytes) (s : State) : State :=
  if fld p 0 1 = 1 then handshake peer p s else if fld p 0 1 = 2 then dataIn peer p s else ethDrop s

/-- The datagram of a reassembly whose fragments leave no gap. -/
def joined (parts : List (Nat × Bytes)) : Nat → Nat → Bytes → Option Bytes
  | 0, _, _ => none
  | k + 1, total, acc =>
    if acc.length = total then some acc
    else match parts.find? (fun e => e.1 == acc.length) with
      | some e => joined parts k total (acc ++ e.2)
      | none => none

/-- A fragment joins its reassembly; at most 8 stand at once, of at most 4,124 bytes (R65). One that would begin a ninth is dropped.
Mark: DESIGN CHOICE (log entry 158). -/
def fragmentIn (peer id off : Nat) (more : Bool) (b : Bytes) (s : State) : State :=
  let mine (r : IpReasm) : Bool := r.peer == peer && r.id == id
  match (match s.host.reasm.find? mine with
    | some r => some r
    | none => if s.host.reasm.length < 8 then some { peer := peer, id := id, started := s.now, parts := [], total := none } else none) with
  | none => ethDrop s
  | some r =>
    let r : IpReasm := { r with
      parts := put r.parts off b, total := if more then r.total else some (off + b.length) }
    let rest := s.host.reasm.filter (fun x => !mine x)
    if 4124 < off + b.length then ethDrop (s.modHost (fun h => { h with reasm := rest }))
    else match r.total.bind (fun t => joined r.parts (r.parts.length + 1) t []) with
      | some p => datagram peer p (s.modHost (fun h => { h with reasm := rest }))
      | none => s.modHost (fun h => { h with reasm := rest ++ [r] })

/-- What the Ethernet side receives while firmware runs and an address is configured (R65, R534). -/
def ethIn (d : EthIn) (s : State) : State :=
  if !s.fwUp ∨ (s.live 0x0C20 = 0 ∧ s.live 0x0C23 = 0) then s
  else match d.frag with
    | none => if 4124 < d.payload.length then ethDrop s else datagram d.peer d.payload s
    | some (id, off, more) => fragmentIn d.peer id off more d.payload s

def execEthHandshake (d : EthIn) (s : State) : Res := .next (onBank 1 (ethIn d) s)
def execEthData (d : EthIn) (s : State) : Res := .next (onBank 1 (ethIn d) s)

/-- ETH_REORDER_TIMEOUT (R69): what a datagram held for 20 ms still waits for is lost, and the held ones are taken in order. -/
def reorderTimeout (n : Nat) (s : State) : State :=
  match s.chan n with
  | none => s
  | some ch =>
    let old := ch.held.filter (fun e => decide (e.2.2 + 20 * ms ≤ s.now))
    if old = [] then s
    else
      let top := (old.map (·.1)).foldl max 0
      let early (e : Nat × Bytes × Nat) : Bool := decide (e.1 ≤ top)
      let due := sortBy (fun a b => decide (a.1 ≤ b.1)) (ch.held.filter early)
      let s := due.foldl (fun s e => takePacket n e.2.1 (modChan n (fun c => { c with
        rxNext := e.1 + 1, rxHighest := max c.rxHighest e.1, held := c.held.filter (fun x => x.1 != e.1) }) s)) s
      takeHeld n ch.held.length s

def execEthReorderTimeout (sid : Nat) (s : State) : Res := .next (if s.fwUp then reorderTimeout sid s else s)

/-- ETH_IDLE_TIMEOUT (R70): 60 s without an authenticated DATA datagram. -/
def execEthIdleTimeout (sid : Nat) (s : State) : Res :=
  .next (match s.chan sid with
    | some ch => if s.fwUp && decide (ch.lastAuth + 60 * sec ≤ s.now) then closeSession sid s else s
    | none => s)

/-- ETH_FIRST_DATA_TIMEOUT (Table 2.8 step 4). -/
def execEthFirstDataTimeout (sid : Nat) (s : State) : Res :=
  .next (match s.chan sid with
    | some ch => if s.fwUp && !ch.firstData && decide (ch.lastAuth + 5 * sec ≤ s.now) then closeSession sid s else s
    | none => s)

/-- IP_REASSEMBLY_TIMEOUT (R65): 2 s. -/
def execIpReassemblyTimeout (id : Nat) (s : State) : Res :=
  .next (s.modHost (fun h => { h with reasm := h.reasm.filter (fun r => !(r.id == id && decide (r.started + 2 * sec ≤ s.now))) }))

/-! ### The tunnel of an annexed module (R241) -/

/-- The peer that stands for the tunnel: no address and port is so large. -/
def tunnelPeer : Nat := 2 ^ 200

/-- The RESPONSE to a confirmed tunnelled datagram: the datagram sent at once, else the next one of its session. One beyond the limit
of Table 5.7 is not carried (R241, log entry 119). -/
def tunnelReply (m : InMsg) (s : State) : State :=
  if !m.confirmed then s
  else
    let n := fld m.payload 1 1
    let s := if s.out.eth.any (fun e => e.1 == tunnelPeer) then s
      else match s.chan n, outFront .eth (some n) s with
        | some ch, some p => if ch.peer = tunnelPeer then packetLeft .eth p (ethSend n p.bytes (dropOut .eth (some n) p s)) else s
        | _, _ => s
    let data := match s.out.eth.find? (fun e => e.1 == tunnelPeer) with | some e => e.2 | none => []
    let data := if sendLimit (phyMode s) < data.length then [] else data
    annexRespond m.seq m.retries 0 data (s.modOut (fun o => { o with
      eth := o.eth.filter (fun e => e.1 != tunnelPeer), annex := o.annex ++ [le 2 m.seq ++ [0, byte m.retries] ++ data] }))

/-- HOST_TUNNEL: the next tunnelled datagram is taken as if it had arrived on UDP. -/
def hostTunnel (s : State) : State :=
  match s.mac.inbox.find? (fun m => m.type == 0xFFFE) with
  | none => s
  | some m =>
    let s := s.modMac (fun x => { x with inbox := x.inbox.eraseP (fun y => y.type == 0xFFFE) })
    tunnelReply m (datagram tunnelPeer m.payload s)

def execHostTunnel (s : State) : Res := .next (if s.fwUp && s.live 0x0302 == 1 then hostTunnel s else s)

/-! ### Intake (R53, R72, Table 2.10) -/

/-- Check 11: identity first, then the form of Table 3.1, then R15; LANTERN_ADMIT's lantern need not be admitted yet (R200). -/
def targetRefusal (s : State) (o : OpInfo) (t : Nat) : Option Nat :=
  let l := adLantern t
  let sel : Bool := (decide (l < 4096) && adGroup t == 0x7F) || l == 0x1FFF
  let loc : Bool := l == 0x1FFE && targetListed t
  let one : Bool := decide (l < 4096) && adGroup t == 0x7F && adChannel t == 0xF
  let form : Bool := match o.target with
    | .none => t == adAll
    | .span => l == 0x1FFF && adGroup t == 0x7F && adChannel t == 0xF
    | .one => one
    | .sel => sel
    | .loc => loc
    | .all => sel || loc
    | .oneOrLocal => one || loc
  if !targetMatches s t then some dTargetMismatch
  else if !form || (o.code != 0x0303 && singleBad s t) then some dTargetField
  else none

/-- Check 7 (R48). -/
def roleRefusal (o : OpInfo) (role granted : Nat) : Option (Nat × Nat) :=
  if role = 0 ∨ 4 < role then some (stBadParam, dRoleValue)
  else if role < o.role then some (stNotPermitted, dRoleBelow)
  else if (if o.code = 0x0009 then 1 else granted) < role then some (stNotPermitted, dRoleAbove)
  else none

/-- Check 8 (R38, R78, R89). -/
def flagRefusal (b : Bytes) : Option (Nat × Nat) :=
  let f := pkFlags b
  if 32 ≤ f ∨ !zeroAt b 22 2 ∨ (!f.testBit flDep ∧ pkDep b ≠ 0) then some (stBadParam, dReservedBit)
  else if !flagsOk (pkOpcode b) f then some (stBadParam, dFlagNotAllowed)
  else none

/-- Check 10 (R50, R74). -/
def depRefusal (s : State) (sid : Option Nat) (b : Bytes) : Option (Nat × Nat) :=
  if !(pkFlags b).testBit flDep then none
  else if pkDep b = pkTag b then some (stBadParam, dDepSelf)
  else
    let known : Bool := match sid with
      | none => false
      | some n => (s.cmd n (pkDep b)).isSome || (match s.session n with | some x => (get? x.statuses (pkDep b)).isSome | none => false)
    if known then none else some (stBadParam, dDepNeverUsed)

/-- Check 13 (R34, R88, R473); keyless before standby. -/
def conditionRefusal (s : State) (o : OpInfo) (keylessProc : Bool) : Option (Nat × Nat) :=
  if s.keyless ∧ o.keyless then some (stKeyless, dNone)
  else if keylessProc ∧ !keylessOps.contains o.code then some (stKeyless, dNone)
  else if s.standby ∧ o.standby then some (stNotLeaseHolder, dNone)
  else none

/-- Table 2.10: the first check that fails. -/
def intakeRefusal (s : State) (t : Transport) (sid : Option Nat) (b : Bytes) : Option (Nat × Nat) :=
  let x := sid.bind s.session
  (checks123 b).orElse fun _ =>
  if x.isNone ∧ (pkOpcode b ≠ 0x0009 ∨ t = .eth) then some (stNotPermitted, dNoSession)
  else if (sid.bind (fun n => s.cmd n (pkTag b))).isSome then some (stTagInUse, dNone)
  else match opInfo (pkOpcode b) with
    | none => some (stBadOpcode, dNone)
    | some o =>
      (roleRefusal o (pkRole b) (match x with | some x => x.role | none => 1)).orElse fun _ =>
      (flagRefusal b).orElse fun _ =>
      if 604800000 < pkDeadline b then some (stBadParam, dDeadlineRange)
      else
        (depRefusal s sid b).orElse fun _ =>
        ((targetRefusal s o (pkTarget b)).map (fun d => (stBadParam, d))).orElse fun _ =>
        if !o.lenOk (pkLen b) then some (stBadLength, dLengthOpcode)
        else conditionRefusal s o (match x with | some x => x.keylessProc | none => false)

/-! ### Acceptance and supersession (R49, R50, R72, R77, R521) -/

/-- The pseudo-session of a transport without one. -/
def bareSid (t : Transport) : Nat := match t with | .huart => 5 | .dbg => 6 | _ => 4

/-- How a dependency is bound at acceptance (R521). -/
def bindDep (s : State) (n : Nat) (b : Bytes) : Dep :=
  if !(pkFlags b).testBit flDep then .none
  else match s.cmd n (pkDep b) with
    | some d => .live d.seq
    | none => match (s.session n).bind (fun x => get? x.statuses (pkDep b)) with
      | some st => .status st
      | none => .none

/-- The live command a packet becomes. One accepted while the span is stopped has the last cycle held as its accepted cycle
(Table 2.12). Mark: DESIGN CHOICE (log entry 162). -/
def cmdOf (t : Transport) (sid : Option Nat) (b : Bytes) (s : State) : LiveCmd :=
  let n := sid.getD (bareSid t)
  let default_ := match opInfo (pkOpcode b) with | some o => o.deadline | none => 0
  { seq := s.host.nextSeq, sid := n, tag := pkTag b, opcode := pkOpcode b, flags := pkFlags b, depTag := pkDep b, role := pkRole b,
    target := pkTarget b, params := pkParams b, transport := t, credits := costOf b, acceptedAt := s.now,
    acceptedCycle := s.mac.cycle, deadline := s.now + (if pkDeadline b = 0 then default_ else pkDeadline b) * ms, begun := false,
    wait := .none, dep := bindDep s n b, interimSent := false, retries := 0, journaled := true, orphan := false,
    coalesced := false, work := [] }

/-- B targets every channel that A targets. -/
def covers (s : State) (b a : Nat) : Bool :=
  let tb := lampTargets s b
  (lampTargets s a).all (fun x => match get? tb x.1 with | some m => x.2 &&& m == x.2 | none => false)
    && (lampLocal s a).all (lampLocal s b).contains

/-- R77: A is superseded, or its untaken frames for lanterns within B's target are dropped; a reply of R268 exists only once execution has begun. -/
def supersede (b a : LiveCmd) (s : State) : State :=
  if !a.begun then complete a stSuperseded dNone [] s
  else if a.wait = .mesh then
    let drops (t : Txn) : Bool := t.owner == some a.seq && t.st == .queued && (get? (lampTargets s b.target) t.lantern).isSome
    let gone := s.mac.txns.filter drops
    if gone = [] then s
    else
      let s := s.modMac (fun m => { m with txns := m.txns.filter (fun t => !drops t) })
      finishMesh a.seq (s.modCmd a.seq (fun c => { c with coalesced := true, work := modAt c.work 5 (· + gone.length) }))
  else s

/-- R77 at the acceptance of a LAMP_SET B. -/
def supersedeAll (b : LiveCmd) (s : State) : State :=
  if b.opcode ≠ 0x0501 then s
  else
    let named (a : LiveCmd) : Bool := s.host.live.any (fun d => d.dep == .live a.seq)
    let as_ := s.host.live.filter (fun a =>
      a.opcode == 0x0501 && a.sid == b.sid && !a.orphan && a.seq != b.seq && mayPass a b && !named a && covers s b.target a.target)
    as_.foldl (fun s a => supersede b a s) s

/-- A packet that passed every check (R72). -/
def acceptPacket (t : Transport) (sid : Option Nat) (b : Bytes) (s : State) : State :=
  let c := cmdOf t sid b s
  let s := s.modHost (fun h => { h with live := h.live ++ [c], nextSeq := h.nextSeq + 1 })
  match sid with
  | none => s
  | some n =>
    let s := s.modSession n (fun x => { x with statuses := del x.statuses c.tag })
    checkBacklog n (supersedeAll c (journalAccept c s))

/-- R53: intake reads a session while fewer than 16 refusal slots and 256 slots of accepted commands are taken. -/
def readable (s : State) (e : InEntry) : Bool :=
  match e.sid.bind s.session with
  | none => true
  | some x => decide (x.refusals.length < 16) && decide (replyFill s.host (e.sid.getD 0) - x.refusals.length < 256)

/-- INTAKE_SERVICE: the next entry of the queue is checked; in safe state the responder answers what still stands there. -/
def intakeService (s : State) : State :=
  match s.host.intake.find? (readable s) with
  | none => s
  | some e =>
    let s := checkInbound (s.modHost (fun h => { h with intake := h.intake.erase e }))
    if s.par.safe then safeAnswer e.transport e.sid.isSome e.bytes s
    else match intakeRefusal s e.transport e.sid e.bytes with
      | some (st, d) => refusePacket e.transport e.sid e.bytes st d s
      | none => acceptPacket e.transport e.sid e.bytes s

def execIntakeService (s : State) : Res :=
  .next (if s.fwUp then intakeService (toRun s) else if s.par.safe && !s.pwr.stopped then intakeService s else s)

/-! ### Timers of sessions and transports -/

/-- CREDIT_RETURN_TIMER (R55): 100 ms after the oldest owed credit. -/
def execCreditReturnTimer (sid : Nat) (s : State) : Res :=
  .next (match s.session sid with
    | some x =>
      if s.fwUp && decide (0 < x.owed) && decide (x.owedSince + 100 * ms ≤ s.now) then
        pushNotice sid (fun n => noticePacket evCreditReturn 0 0 n []) s
      else s
    | none => s)

/-- CHALLENGE_EXPIRY (R98): 5 s. -/
def execChallengeExpiry (t : Transport) (s : State) : Res :=
  .next (s.modHost (fun h => { h with chals := h.chals.filter (fun q => !(q.transport == t && decide (q.issued + 5 * sec < s.now))) }))

/-- DEBUG_CHALLENGE_EXPIRY (R113): 60 s. -/
def execDebugChallengeExpiry (s : State) : Res :=
  .next (s.modHost (fun h => { h with debugChals := h.debugChals.filter (fun q => decide (s.now ≤ q.issued + 60 * sec)) }))

/-- EVENT_CLEAR_CHALLENGE_EXPIRY (R116): 60 s. -/
def execEventClearChallengeExpiry (s : State) : Res :=
  .next (s.modHost (fun h => { h with clearChals := h.clearChals.filter (fun q => decide (s.now ≤ q.issued + 60 * sec)) }))

/-- The next packet of a transport goes out: as a frame on HUART and DBG, as a DATA datagram on Ethernet. -/
def transmitNext (t : Transport) (sid : Option Nat) (p : OutPkt) (s : State) : State :=
  match t with
  | .huart => s.modOut (fun o => { o with huart := o.huart ++ [frameOf p.bytes] })
  | .dbg => s.modOut (fun o => { o with dbg := o.dbg ++ [frameOf p.bytes] })
  | .eth => match sid with | some n => ethSend n p.bytes s | none => s
  | .hspi => s

/-- The packet a transport other than HSPI sends next has left it; while VIO_N is not good they are silent (Table 20.17). -/
def txComplete (t : Transport) (sid : Nat) (s : State) : State :=
  let n : Option Nat := match t with
    | .eth => (match s.chan sid with | some ch => if ch.peer = tunnelPeer then none else some sid | none => none)
    | _ => sidOf s t
  if t = .hspi ∨ s.pwr.stopped ∨ !bankGood 1 s ∨ (t = .dbg ∧ !s.debugEnabled) then s
  else match outFront t n s with
    | none => s
    | some p => packetLeft t p (transmitNext t n p (dropOut t n p s))

def execTransportTxComplete (t : Transport) (sid : Nat) (s : State) : Res := .next (txComplete t sid s)

/-- BAUD_CHANGE_TIMER (R64): 2 ms after the reply. -/
def execBaudChangeTimer (s : State) : Res :=
  .next (match s.host.baudNext with
    | some (code, some t) => if t ≤ s.now then s.modHost (fun h => { h with huartBaud := baudOf code, baudNext := none }) else s
    | _ => s)

/-- DELAYED_RESET (R92, R464): 10 ms after the reply, or after completion when QUIET_OK silenced it. -/
def execDelayedReset (s : State) : Res :=
  .next (match s.host.resetAt with
    | some (t, ty, src, sid) =>
      if t ≤ s.now ∧ !s.pwr.stopped then
        assertReset ty src sid (match s.sec.advance with | some (to_, _) => advanceLife to_ s | none => s)
      else s
    | none => s)

/-- REPLY_HOLD_TIMER (R427): 10 s above the high watermark, recorded once per interval. -/
def execReplyHoldTimer (sid : Nat) (s : State) : Res :=
  .next (match s.session sid with
    | some x =>
      if s.fwUp && x.backlog && !x.holdRecorded && decide (x.backlogSince + 10 * sec ≤ s.now) then
        evS sid 0 evReplyHold [] (s.modSession sid (fun x => { x with holdRecorded := true }))
      else s
    | none => s)

/-- QUEUE_SERVICE_PASS_END (R428): the pending set of block 0x0C applies and every watermark state is evaluated afresh. -/
def execQueueServicePassEnd (s : State) : Res :=
  .next (if s.fwUp then
    let s := checkInbound (applyBlock 0x0C none s)
    [0, 1, 2, 3].foldl (fun s n => checkBacklog n s) s
  else s)

end Sys2Proof.Machine
end

