-- ==== Sys2Proof/Machine/Engine.lean ====
section
/-! DEFINITION. What ends a live command from outside its own execution: CANCEL (R30, R78, R81, R94), the deadline (R79, R80,
R178), the interim reply (R82); and firmware's acknowledgement of a contained fault (R433, R435, Table 14.1). -/

namespace Sys2Proof.Machine

/-! ### Work on the mesh that a command leaves -/

/-- Frames the MAC has not taken and floods not yet on the air are dropped (R79, R81, R178). -/
def dropUntaken (q : Nat) (s : State) : State :=
  s.modMac (fun m => { m with
    txns := m.txns.filter (fun t => !(t.owner == some q && t.st == .queued)),
    floods := m.floods.filter (fun f => f.owner != some q) })

/-- R178: no attempt is made any more for frames the MAC has taken; a RESPONSE to one may still come. -/
def releaseTaken (q : Nat) (s : State) : State :=
  let ids := (txnsOf s q).map (·.id)
  s.modMac (fun m => { m with
    txns := m.txns.map (fun t => if t.owner = some q then { t with st := .awaiting } else t),
    attempts := m.attempts.filter (fun a => !ids.contains a.txn) })

/-- Every transaction of a command ends, with its attempts (R81, R80's window). -/
def dropTxns (q : Nat) (s : State) : State :=
  let ids := (txnsOf s q).map (·.id)
  dropUntaken q (s.modMac (fun m => { m with
    txns := m.txns.filter (fun t => t.owner != some q), attempts := m.attempts.filter (fun a => !ids.contains a.txn) }))

/-! ### CANCEL -/

/-- What CANCEL does to a begun command, by what it waits for; none where its step cannot be interrupted (R30, R81, R513). -/
def cancelBegun (d : LiveCmd) (s : State) : Option State :=
  match d.wait with
  | .mesh | .flood | .leave _ | .descriptor _ | .join _ =>
    some (complete d stCancelled dPartial (partReply d) (dropTxns d.seq s))
  | .commit b =>
    let s := s.modSet (fun x => { x with pend := x.pend.filter (fun p => p.block != b) })
    let s := s.modHost (fun h => { h with late := h.late.filter (fun r => !r.wait.onCommit b) })
    some (completeAll (fun x => x.begun && x.wait.onCommit b) stCancelled dNone [] s)
  | .erase => some (fail d stCancelled dNone s)
  | .selftest _ =>
    match s.bist.active with
    | some r =>
      if s.bist.sliceRunning && s.bist.sliceRun then
        some (cutSlice (s.modBist (fun b => { b with active := b.active.map (fun a => { a with cancelled := true }) })))
      else if s.bist.unitOwner ≠ 2 then some (abortRun r stCancelled s)
      else some (s.modBist (fun b => { b with active := b.active.map (fun a => { a with cancelled := true }) }))
    | none => none
  | .none | .timeStep | .spanStart | .spanStop | .placement _ | .calibrate | .calibrated _ | .yield => none

/-- CANCEL (R81, R94): the named tag is of its own session. -/
def cancel (c : LiveCmd) (s : State) : State :=
  if !zeroAt c.params 1 3 then fail c stBadParam dReservedBit s
  else match s.cmd c.sid (fld c.params 0 1) with
    | none => fail c stBadParam dNoSuchTag s
    | some d =>
      if !d.begun then complete c stOk dNone [] (fail d stCancelled dNone s)
      else match cancelBegun d s with
        | some s => complete c stOk dNone [] s
        | none => fail c stBusy dNone s

def execCancel (sid tag : Nat) (s : State) : Res := .next (runCmd 0x0008 sid tag cancel s)

/-! ### Deadlines (R79, R80) -/

/-- LATE_COMPLETION is owed to an open session: for acknowledgements of the mesh for 64 cycles, for an effect bound to a boundary
until it has come (R29, R80). Mark: DEDUCED (log entry 48): a cycle is 1 s. -/
def oweLate (c : LiveCmd) (mesh : Bool) (s : State) : State :=
  if c.orphan then s
  else s.modHost (fun h => { h with late := h.late ++
    [{ seq := c.seq, sid := c.sid, tag := c.tag, opcode := c.opcode, acceptedCycle := c.acceptedCycle, retries := c.retries,
       wait := c.wait, work := c.work, coalesced := c.coalesced, until_ := if mesh then some (s.now + 64 * sec) else none }] })

/-- A command ends at its deadline: what has not begun never begins; mesh work is cut; a local step or a bound effect goes on. -/
def timeout (c : LiveCmd) (s : State) : State :=
  if !c.begun then fail c stTimeout dNotBegun s
  else match c.wait with
    | .mesh | .flood | .leave _ | .descriptor _ =>
      complete c stTimeout dMeshPartial (partReply c) (oweLate c true (releaseTaken c.seq (dropUntaken c.seq s)))
    | .erase => fail c stTimeout dNotBegun s
    | .none | .commit _ | .join _ | .timeStep | .spanStart | .spanStop | .placement _ | .calibrate | .calibrated _ | .yield | .selftest _ =>
      fail c stTimeout dContinuing (oweLate c false s)

/-- DEADLINE_EXPIRY: a command of a closed session ends in the same way, unheard (R47). -/
def execDeadlineExpiry (sid tag : Nat) (s : State) : Res :=
  .next (if !s.fwUp then s
    else match s.host.live.find? (fun c => c.sid == sid && c.tag == tag && decide (c.deadline ≤ s.now)) with
      | some c => timeout c (toRun s)
      | none => s)

/-- LATE_ACK_WINDOW_EXPIRY (R80): 64 cycles after the TIMEOUT nothing is owed, and what is left on the mesh no longer counts. -/
def execLateAckWindowExpiry (seq : Nat) (s : State) : Res :=
  .next (if s.host.late.any (fun r => r.seq == seq && (match r.until_ with | some t => decide (t ≤ s.now) | none => false)) then
    dropTxns seq (s.modHost (fun h => { h with late := h.late.filter (fun r => r.seq != seq) }))
  else s)

/-- INTERIM_REPLY_TIMER (R82): 10 ms after acceptance, once, unless QUIET_OK is set. -/
def execInterimReplyTimer (sid tag : Nat) (s : State) : Res :=
  .next (match s.cmd sid tag with
    | some c =>
      if s.fwUp && decide (c.sid < 4) && !c.interimSent && !c.flags.testBit flQuiet && decide (c.acceptedAt + 10 * ms ≤ s.now) then
        pushNotice c.sid (fun n => replyPacket 3 c (le 2 0 ++ le 2 n) stAccepted dNone [])
          (s.modCmd c.seq (fun c => { c with interimSent := true }))
      else s
    | none => s)

/-! ### Containment (Table 14.1) -/

/-- A damaged event record of ABUT SRAM, named by its index, is replaced by an EVENTS_LOST record of count 1. -/
def loseRecord (index : Nat) (s : State) : State :=
  s.modPar (fun p => { p with
    volatileBuf := p.volatileBuf.map (fun r =>
      if r.index = index then
        { r with code := evEventsLost, source := sourceModule, severity := sevWarning, suppressed := 0, payload := fit 14 (le 4 1) }
      else r) })

/-- A damaged totals copy, named 0 or 1, is not valid: the next save is written over it (R346, R348). -/
def loseTotals (copy : Nat) (s : State) : State :=
  let bad (_ : TotalsCopy) : TotalsCopy := default
  s.modMeter (fun m => { m with
    genFloor := max m.genFloor (max m.copyA.generation m.copyB.generation),
    copyA := if copy = 0 then bad m.copyA else m.copyA, copyB := if copy = 1 then bad m.copyB else m.copyB })

/-- What firmware does before it acknowledges a UC of a source, where it changes state that the model holds; `info` is what the
fault named: an event record's index in four bytes for ABUT_SRAM_ECC, a totals copy for MRAM_ECC (Table 14.1, log entry 134). -/
def contain (source : Nat) (info : Bytes) (s : State) : State :=
  if source = srcAbutSram then
    if info.length = 4 then loseRecord (leNat info) s else s.modFb (fun f => { f with tableSram := f.tableVault })
  else if source = srcMram ∧ info ≠ [] then loseTotals (fld info 0 1) s
  else if source = srcMacWdt then resetPort 1 (s.rnd 512) (resetPort 0 (s.rnd 512) s).draw
  else if source = srcPllUnlock then toHoldover s
  else if source = srcKeystoneMisuse then clearKeystone s
  else s

/-- Each fault merged into the entry is contained; an entry the parapet raised itself names nothing. -/
def containment (e : UcEntry) (s : State) : State :=
  (if e.infos = [] then [[]] else e.infos).foldl (fun s info => contain e.source info s) s

/-- FIRMWARE_FAULT_ACK (R433, R435, R438). -/
def execFirmwareFaultAck (source : Nat) (s : State) : Res :=
  .next (match s.par.pending.find? (fun e => e.source == source) with
    | some e => if s.fwUp then ackFault source (containment e (toRun s)) else s
    | none => s)

end Sys2Proof.Machine
end

