-- ==== Sys2Proof/Machine/Boundary.lean ====
section
/-! DEFINITION. The span's cycle boundary (R22, R23, Table 1.8): the start and the end of a span, and what each cycle start does
in the order of the table. -/

namespace Sys2Proof.Machine

/-! ### Settings and steps of span time (Table 1.8 step 4, R37, R296) -/

/-- Pending sets whose boundary is the start of a cycle: MAC and placement, and those of the blocks of R37. -/
def cycleCommits (c : Nat) (s : State) : State :=
  [3, 4, 6, 9, 0x0A].foldl (fun s b => applyBlock b (some c) s) s

/-- The steps of span time that waited for this boundary, oldest first (R296). -/
def pendingSteps (s : State) : State :=
  s.time.pendSteps.foldl (fun s p => applyStep p.x p.cause p.application p.seq s) (s.modTime (fun t => { t with pendSteps := [] }))

/-- What RENEW says of the steps applied at T (R384). -/
def stepAtT (s : State) : Int := (s.time.pendSteps.map (·.x)).sum

/-! ### Network keys (R217) -/

/-- A new span has a network key of its own. -/
def newNetworkKey (s : State) : State :=
  let key := s.rnd 16
  s.draw.modMac (fun m => { m with
    netKeys := [(0, key)], phase := 0, keyUpdate := none, oldKeyUntil := none, floodsUsed := 0,
    counters := put m.counters 1 0, rxCounters := m.rxCounters.filter (fun e => e.1 / 65536 != 1 && e.1 / 65536 != 2) })

/-- Cycles of lead of a key update: the spec bounds it by the limits of R217 alone, so it is free within 128 (log entry 50). -/
def keyLead (s : State) : Nat := 1 + Config.freeNat s.freeIdx % 128

/-- KEY_UPDATE goes out before a flood sequence would return under its key, or the frame counter reach 0x80000000. At most
10 floods and 200 frames leave in a cycle. -/
def keyUpdate (c : Nat) (s : State) : State :=
  let used : Nat := (get? s.mac.counters (s.mac.phase + 1)).getD 0
  if s.mac.keyUpdate.isSome ∨ s.mac.oldKeyUntil.isSome ∨ (s.mac.floodsUsed + 1300 < 65536 ∧ used + 26000 < 0x80000000) then s
  else
    let asn := 100 * (c + keyLead s)
    let s := s.draw
    let key := s.rnd 16
    let phase := 1 - s.mac.phase
    let s := s.draw.modMac (fun m => { m with netKeys := put m.netKeys phase key, keyUpdate := some (phase, asn) })
    (s.mac.lanterns.filter (fun p => p.2.state == .joined)).foldl (fun s p => sendKey phase asn p.1 s) s

/-! ### The start of a span (R22, R179, R217, R353) -/

/-- Cycle 0 begins at second `t`: the epoch, the window phase of R353, every lantern EXPECTED (R179). -/
def beginSpan (t : Nat) (s : State) : State :=
  let u0 : Int := (t : Int) - s.rtc.u
  let p := ((900 - u0 % 900) % 900).toNat
  let s := s.modMac (fun m => { m with
    running := true, launched := false, startAt := none, stopping := false, cycle := 0, epoch := t * sec, windowPhase := p,
    heard := [], seen := [], topoChanged := true, joinTx := [], relays := [], rendezvousCycle := 0, startAgain := false,
    portA := { m.portA with ranTo := 0, echoAt := none }, portB := if s.live 0x0302 = 1 then m.portB else { m.portB with ranTo := 0, echoAt := none },
    rootEui := if s.holder then some s.eui else m.rootEui,
    lanterns := m.lanterns.map (fun e => (e.1, { e.2 with
      state := .expected, depth := 0, joinCycle := 0, listens := 0, listenCycle := 0, portRun := 0, routelessCycles := 0, misses := 0, joinResp := none })) })
  if s.holder then newNetworkKey s else s

/-! ### The root beacon (Table 1.8 step 5, R164, R381) -/

/-- The cell of the root beacon on a port. -/
def rootCell (k : Nat) (late : Bool) (miso : Bytes) : Cell :=
  { port := k, slot := 0, kind := .beacon, peer := 0xFFFF, offset := 0, transmit := true, late := late, miso := miso }

/-- The port carries the root beacon: the span uses it and it has not failed (R164, R170). -/
def beaconPort (k : Nat) (s : State) : Bool := !(s.port k).failed && s.mac.region.isSome && ownPort s k

/-- One root beacon, and its feed to the standby. -/
def rootBeacon (k : Nat) (late : Bool) (miso : Bytes) (s : State) : State :=
  if !beaconPort k s then s
  else
    let c := rootCell k late miso
    let asn := cellAsn s c
    let psdu := beaconFrame s asn
    let s := if s.twin.latch && s.twin.link == .up then echoFeed k (asn + 1) .beacon (beaconPlain s asn) s else s
    match transmit c psdu (useCounter (s.mac.phase + 1) (modPort k (fun q => { q with ranTo := asn + 1 }) s)) with
    | (s, .suppressed) => ev evBeaconSuppressed [] s
    | (s, _) => s

def rootBeacons (lateA lateB : Bool) (misoA misoB : Bytes) (s : State) : State :=
  if s.holder then rootBeacon 1 lateB misoB (rootBeacon 0 lateA misoA s) else s

/-- The reply of SPAN_START (R197), after the beacon of cycle 0 (log entry 51). -/
def startDone (s : State) : State :=
  let r := s.mac.region.getD []
  let body := encTime (ofNs s.mac.epoch) ++ le 2 (panId s) ++ [byte (fld r 3 1), byte (s.live 0x0302)] ++ zeros 2
  let s := s.modMac (fun m => { m with launched := true })
  lateSuccess (fun r => r.wait == .spanStart) stOk
    (completeAll (fun c => c.begun && c.wait == .spanStart) stOk dNone body s)

/-! ### What the ended cycle leaves -/

/-- R184 over the cycle that has ended: first-hop beacons the radios did not hear are missed; a deeper SILENT node clears when its
parent has been heard since and named no miss (log entry 52). -/
def countMisses (ended : Nat) (s : State) : State :=
  let joined := s.mac.lanterns.filter (fun e => e.2.state == .joined)
  let near := joined.filter (fun e => decide (e.2.port < 2) && beaconing s e.1 && !s.mac.heard.contains (shortOf e.1))
  let deep := joined.filter (fun e => e.2.silent && e.2.port == 0xFF && Nat.blt (e.2.missCycle + 1) ended
    && (match lanOf e.2.parent with
      | some p => (match s.lan p with | some l => Nat.ble ended l.contactCycle | none => false)
      | none => false))
  let s := near.foldl (fun s e => missBeacon e.1 ended s) s
  let s := deep.foldl (fun s e => clearSilent e.1 s) s
  s.modMac (fun m => { m with heard := [] })

/-- Cycles ROUTELESS are counted (R183). -/
def countRouteless (s : State) : State :=
  s.modMac (fun m => { m with lanterns := m.lanterns.map (fun e =>
    (e.1, if e.2.routeless && e.2.state == .joined then { e.2 with routelessCycles := e.2.routelessCycles + 1 } else e.2)) })

/-- Messages of the module's own that were not acknowledged in time end. -/
def ownExpiry (s : State) : State :=
  (s.mac.txns.filter (fun t => t.owner.isNone && decide (t.expiry ≤ s.now))).foldl (fun s t => settle t .unreachable s) s

/-- Guards are evaluated at each cycle start (R181). -/
def guards (s : State) : State := (s.mac.lanterns.map (·.1)).foldl (fun s n => checkAdrift n s) s

/-- The period grid of the lanterns is flooded after a commit that changed it (R249). -/
def epochFlood (s : State) : State :=
  if s.lamp.epochDue && s.holder then
    let f : Flood :=
      { id := 0, owner := none, type := 0x0105, group := 0x7F, ttl := s.live 0x0306, payload := phaseEpoch s, notBefore := 0, repeats := 0,
        applyNs := 0 }
    queueFlood f (s.modLamp (fun l => { l with epochDue := false }))
  else s

/-- Placement is evaluated at multiples of PLACE_EVAL_INTERVAL and after a change of policy (R141). -/
def placementDue (c : Nat) (s : State) : State :=
  if s.truss.evalDue ∨ c % s.live 0x0402 = 0 then s.modTruss (fun t => { t with evalDue := false, evalNow := true }) else s

/-- The persistent copy of lantern table and topology (Table 4.9). -/
def saveTable (c : Nat) (s : State) : State :=
  if c % 900 = 0 ∧ c ≠ 0 then s.modMac (fun m => { m with saved := m.lanterns, savedLinks := m.links }) else s

/-- Consecutive cycles in which the other root port has been the better by ROUTE_HYST_PDR (R168). -/
def countPorts (s : State) : State :=
  s.modMac (fun m => { m with lanterns := m.lanterns.map (fun e =>
    (e.1, if e.2.port < 2 && e.2.state == .joined && ownPort s 1 then
        { e.2 with portRun := if portRatio s e.1 e.2.port + s.live 0x0309 ≤ portRatio s e.1 (1 - e.2.port) then e.2.portRun + 1 else 0 }
      else e.2)) })

/-- The firmware's duties of a cycle that begins, after its beacons. -/
def cycleDuties (c : Nat) (s : State) : State :=
  let changed := s.mac.topoChanged
  let s := if changed then newRoutes s else s
  let s := guards (countPorts (countRouteless s))
  let s := if s.holder && (changed || c % 8 == 0) then reschedule none s else s
  let s := if s.holder then epochFlood (keyUpdate c (ownExpiry s)) else s
  let s := s.modTwin (fun t => { t with feeds := t.feeds.filter (fun f => decide (100 * c ≤ f.2.1)) })
  saveTable c (progressRollouts (placementDue c s))

/-! ### CYCLE_BOUNDARY -/

/-- Table 1.8 step 3, once at each T: the holder renews and copies, a standby abandons an incomplete copy (R377, R379). -/
def twinAtT (cycle : Nat) (s : State) : State :=
  if !s.twin.latch then s
  else if s.standby then standbyCycle s
  else if s.twin.renewCycle.isSome && decide (s.now < s.twin.renewedAt + 500 * ms) then s
  else holderCycle cycle (stepAtT s) s

/-- The span ends at the end of the current cycle: the stop's commands complete with its number; with a step above 100 us it
restarts at least 1 s after the stepped instant, and one whose contactor has closed meanwhile starts again (R198, R199, R296). -/
def endCycles (s : State) : State :=
  let last := s.mac.cycle
  let restart : Bool := s.time.pendSteps.any (fun p => p.application == 3)
  let stopCmd : Bool := s.host.live.any (fun c => c.begun && c.wait == .spanStop)
  let s := if s.holder then windowsStop s else s
  let s := endSpan stCancelled 0x80 s
  let s := pendingSteps s
  let s := lateSuccess (fun r => r.wait == .spanStop) stOk
    (completeAll (fun c => c.begun && c.wait == .spanStop) stOk dNone (le 4 last) s)
  if restart && !stopCmd then ev evSpanRestarted [] (scheduleStart (secAtOrAfter (s.spanNs + sec)) s)
  else if s.mac.startAgain then autoStart (s.modMac (fun m => { m with startAgain := false }))
  else s

/-- A cycle begins: Table 1.8 steps 4 and 5, then the duties of the MAC and of the truss. -/
def beginCycle (c : Nat) (lateA lateB : Bool) (misoA misoB : Bytes) (s : State) : State :=
  let s := if s.holder then windowEnds c s else s
  let s := pendingSteps (cycleCommits c s)
  let s := if s.holder then windowBegins c s else s
  cycleDuties c (rootBeacons lateA lateB misoA misoB s)

/-- The boundary between two cycles of a running span. -/
def nextCycle (lateA lateB : Bool) (misoA misoB : Bytes) (s : State) : State :=
  let c := s.mac.cycle + 1
  let s := twinAtT c s
  if s.mac.stopping then endCycles s
  else
    let s := countMisses s.mac.cycle s
    beginCycle c lateA lateB misoA misoB (s.modMac (fun m => { m with cycle := c % 2 ^ 32 }))

/-- The first boundary of a span: cycle 0 begins (R22). -/
def firstCycle (t : Nat) (lateA lateB : Bool) (misoA misoB : Bytes) (s : State) : State :=
  let s := beginSpan t (twinAtT 0 s)
  let s := if s.holder then
      s.modMeter (fun m => { m with results := [], window := none, prevWindow := none, prevEnergy := [] }) else s
  let s := beginCycle 0 lateA lateB misoA misoB s
  if s.holder then startDone s else s

/-- CYCLE_BOUNDARY (R22, R23): whether the radios missed step 2 of Table 5.1, and what they return on SPI. -/
def execCycleBoundary (lateA lateB : Bool) (misoA misoB : Bytes) (s : State) : Res :=
  .next (if !s.fwUp then s
    else if s.mac.running then
      (if s.mac.epoch + (s.mac.cycle + 1) * sec ≤ s.spanNs then nextCycle lateA lateB misoA misoB s else s)
    else match s.mac.startAt with
      | some t => if t ≤ stSec s.time.spanT then firstCycle t lateA lateB misoA misoB s else s
      | none => s)

/-- WHOLE_SECOND while the span is stopped is also the T of the twin (R37, R377); in ANNEX role it is the start of a cycle of the
parent span. -/
def execWholeSecond (s : State) : Res :=
  .next (if s.time.lastWhole < stSec s.time.spanT && s.boot.phase == .firmware && !s.pwr.stopped then
    (if s.fwUp then annexSecond (wholeSecond (if s.mac.running then s else twinAtT 0xFFFFFFFF s)) else ppsSecond s) else s)

end Sys2Proof.Machine
end

