-- ==== Sys2Proof/Machine/Tick.lean ====
section
/-! DEFINITION. What passes with time alone: one PCLK period of 10 ns, which a step takes when no command waits (log entry 3). Span
time advances by R278, the crystal by R307, the watchdogs by R440, the twin line by R367 and R370. -/

namespace Sys2Proof.Machine

/-- PCLK runs: outside BACKUP and the resets that start it anew, and while the DECK's clocks are not stopped (Tables 12.1, 19.2). -/
def clocked (s : State) : Bool := (s.boot.phase != .reset || meterKept s.boot.resetType) && !s.fb.backup && !s.pwr.stopped

/-- R278: 10 ns and the addend, with the slew carried on top of it up to its end (R297). -/
def tickSpan (s : State) : State :=
  s.modTime (fun t => { t with
    spanT := wrapSpan (((t.spanT + 10 * 2 ^ 32 : Nat) : Int) + t.rate + (match t.slew with
      | some w => if t.spanT < w.until_ then w.addend else 0
      | none => 0)) })

/-- One crystal cycle: one tick, none where one is withheld, two where one is inserted. The tick on which a second begins is never
passed over (R307, R310, R319). -/
def crystalCycle (r : Rtc) : Rtc :=
  let r := { r with cycles := r.cycles + 1 }
  if r.trimTicks < 0 then { r with trimTicks := r.trimTicks + 1 }
  else if r.correction < 0 then { r with correction := r.correction + 1, learnCorr := r.learnCorr - 1 }
  else if (r.ticks + 1) % tickHz = 0 then { r with ticks := r.ticks + 1 }
  else if 0 < r.trimTicks then { r with ticks := r.ticks + 2, trimTicks := r.trimTicks - 1 }
  else if 0 < r.correction then { r with ticks := r.ticks + 2, correction := r.correction - 1, learnCorr := r.learnCorr + 1 }
  else { r with ticks := r.ticks + 1 }

/-- R306, R307: the crystal's cycles, at its nominal rate (log entry 3). It stops only when the vault is lost. -/
def tickRtc (s : State) : State :=
  if s.fb.backup && s.boot.vaultLost then s
  else
    s.modRtc (fun r =>
      let p := r.phase + 10 * 32768
      if p < 1000000000 then { r with phase := p } else crystalCycle { r with phase := p - 1000000000 })

/-- R440: the watchdogs of executing cores. -/
def tickWatchdogs (s : State) : State :=
  if wdtCounts s then
    s.modPar (fun p => { p with watchdogs := p.watchdogs.map (fun w => { w with left := w.left - 10 }) })
  else s

/-- A frame between K27.7 and K29.7 (Table 11.1). -/
def TwinFrame.wire (f : TwinFrame) : Bytes :=
  let b := [byte f.type, byte (b2n f.resend)] ++ le 2 f.seq ++ le 2 f.payload.length ++ zeros 2 ++ f.payload
  b ++ le 4 (crc32 b)

/-- The frame that leaves next and those that stay: the first in order of priority, unless frames other than the copy's have had
their quarter of the line (R370, log entry 150). -/
def nextFrame (s : State) : Option (TwinFrame × List TwinFrame) :=
  match s.twin.tx with
  | [] => none
  | f :: rest =>
    if s.now < s.twin.othersFree && twinClass f.type < 4 then
      match rest.find? (fun x => twinClass x.type == 4) with
      | some g => some (g, f :: rest.eraseP (· == g))
      | none => some (f, rest)
    else some (f, rest)

/-- R367, R370: the line takes the next frame when it is free; a frame takes 50 ns a byte with its 14 of framing. -/
def tickLine (s : State) : State :=
  match nextFrame s with
  | none => s
  | some (f, rest) =>
    if s.twin.lineFree ≤ s.now then
      let d := (14 + f.payload.length) * 50
      (s.modTwin (fun t => { t with
        tx := rest, lineFree := s.now + d, lastSent := s.now + d,
        othersFree := if twinClass f.type < 4 then s.now + 4 * d else t.othersFree,
        t1Next := if f.type = 0x07 then some (s.spanNs : Int) else t.t1Next })).modOut (fun o => { o with
        twin := o.twin ++ [f.wire] })
    else s

/-- R372: TWIN_ENABLE cleared on the holder, `TW_LEASE_OUT` falls after the final RENEW; one step later the row of a module without a
twin raises it again. R388: a takeover that firmware owes since the interlock opened. -/
def settleLease (s : State) : State :=
  if s.twin.leaving then (if s.twin.tx.any (fun f => f.type == 0x03) then s else leaveTwin s)
  else if s.twin.resumeDue && s.fwUp then takeover s
  else if s.fwUp && !s.twin.latch && !s.twin.leaseIn && s.twin.lease == .standby then
    s.modTwin (fun t => { t with leaseOut := true, lease := .noTwin })
  else s

/-- R368, R376: HEALTH at each change of the word, and the time its blocking bits have stood. -/
def tickHealth (s : State) : State :=
  if twinAlive s then
    let s := trainLink (noteUnhealthy s)
    if s.twin.link == .up && health s != s.twin.lastHealthSent then sendHealth s else s
  else s

/-- One PCLK period with nothing commanded. -/
def idle (s : State) : State :=
  let s := { s with now := s.now + 10 }
  let s := if clocked s then tickSpan s else s
  let s := tickWatchdogs (tickRtc s)
  tickHealth (tickLine <| settleLease (scanTick <| checkinTick (powerTick (endSlice s))))

end Sys2Proof.Machine
end

