-- ==== Sys2Proof/Machine/Dispatch.lean ====
section
/-! DEFINITION. The meaning of every command: one arm per row of the opcode table. -/

namespace Sys2Proof.Machine

def exec (i : Instr) (s : State) : Host.Outcome State Fault Refusal :=
  match i with
  | .echo sid tag => Sys2Proof.Machine.execEcho sid tag s
  | .deviceInfo sid tag => Sys2Proof.Machine.execDeviceInfo sid tag s
  | .reset sid tag => Sys2Proof.Machine.execReset sid tag s
  | .fence sid tag => Sys2Proof.Machine.execFence sid tag s
  | .settingRead sid tag => Sys2Proof.Machine.execSettingRead sid tag s
  | .settingWrite sid tag => Sys2Proof.Machine.execSettingWrite sid tag s
  | .settingCommit sid tag => Sys2Proof.Machine.execSettingCommit sid tag s
  | .cancel sid tag => Sys2Proof.Machine.execCancel sid tag s
  | .sessionOpen sid tag => Sys2Proof.Machine.execSessionOpen sid tag s
  | .timeGet sid tag => Sys2Proof.Machine.execTimeGet sid tag s
  | .timeSlew sid tag => Sys2Proof.Machine.execTimeSlew sid tag s
  | .timeStep sid tag => Sys2Proof.Machine.execTimeStep sid tag s
  | .timeSourceSet sid tag => Sys2Proof.Machine.execTimeSourceSet sid tag s
  | .rtcAlarmSet sid tag => Sys2Proof.Machine.execRtcAlarmSet sid tag s
  | .calendarConvert sid tag => Sys2Proof.Machine.execCalendarConvert sid tag s
  | .localTimeTableLoad sid tag => Sys2Proof.Machine.execLocalTimeTableLoad sid tag s
  | .fallbackTableLoad sid tag => Sys2Proof.Machine.execFallbackTableLoad sid tag s
  | .powerPolicySet sid tag => Sys2Proof.Machine.execPowerPolicySet sid tag s
  | .powerStatus sid tag => Sys2Proof.Machine.execPowerStatus sid tag s
  | .powerRefusalsRead sid tag => Sys2Proof.Machine.execPowerRefusalsRead sid tag s
  | .spanStart sid tag => Sys2Proof.Machine.execSpanStart sid tag s
  | .spanStop sid tag => Sys2Proof.Machine.execSpanStop sid tag s
  | .lanternAdmit sid tag => Sys2Proof.Machine.execLanternAdmit sid tag s
  | .lanternRemove sid tag => Sys2Proof.Machine.execLanternRemove sid tag s
  | .lanternQuery sid tag => Sys2Proof.Machine.execLanternQuery sid tag s
  | .lanternSend sid tag => Sys2Proof.Machine.execLanternSend sid tag s
  | .topologyRead sid tag => Sys2Proof.Machine.execTopologyRead sid tag s
  | .floodSend sid tag => Sys2Proof.Machine.execFloodSend sid tag s
  | .regionProfileLoad sid tag => Sys2Proof.Machine.execRegionProfileLoad sid tag s
  | .dwellStatus sid tag => Sys2Proof.Machine.execDwellStatus sid tag s
  | .radioProfileLoad sid tag misoA misoB => Sys2Proof.Machine.execRadioProfileLoad sid tag misoA misoB s
  | .policyLoad sid tag => Sys2Proof.Machine.execPolicyLoad sid tag s
  | .policyRemove sid tag => Sys2Proof.Machine.execPolicyRemove sid tag s
  | .policyList sid tag => Sys2Proof.Machine.execPolicyList sid tag s
  | .placementRead sid tag => Sys2Proof.Machine.execPlacementRead sid tag s
  | .placementPin sid tag => Sys2Proof.Machine.execPlacementPin sid tag s
  | .placementHold sid tag => Sys2Proof.Machine.execPlacementHold sid tag s
  | .sensorSubscribe sid tag => Sys2Proof.Machine.execSensorSubscribe sid tag s
  | .lampSet sid tag => Sys2Proof.Machine.execLampSet sid tag s
  | .sceneDefine sid tag => Sys2Proof.Machine.execSceneDefine sid tag s
  | .sceneLaunch sid tag => Sys2Proof.Machine.execSceneLaunch sid tag s
  | .calibrationLoad sid tag => Sys2Proof.Machine.execCalibrationLoad sid tag s
  | .localChannelConfig sid tag => Sys2Proof.Machine.execLocalChannelConfig sid tag s
  | .lampStatus sid tag => Sys2Proof.Machine.execLampStatus sid tag s
  | .meterConfig sid tag => Sys2Proof.Machine.execMeterConfig sid tag s
  | .meterRead sid tag => Sys2Proof.Machine.execMeterRead sid tag s
  | .energyRead sid tag => Sys2Proof.Machine.execEnergyRead sid tag s
  | .pulseOutputAssign sid tag => Sys2Proof.Machine.execPulseOutputAssign sid tag s
  | .pulseInputRead sid tag => Sys2Proof.Machine.execPulseInputRead sid tag s
  | .reconcileRead sid tag => Sys2Proof.Machine.execReconcileRead sid tag s
  | .meterCalibrate sid tag => Sys2Proof.Machine.execMeterCalibrate sid tag s
  | .updateBegin sid tag => Sys2Proof.Machine.execUpdateBegin sid tag s
  | .updateFragment sid tag => Sys2Proof.Machine.execUpdateFragment sid tag s
  | .updateStatus sid tag => Sys2Proof.Machine.execUpdateStatus sid tag s
  | .updateActivate sid tag => Sys2Proof.Machine.execUpdateActivate sid tag s
  | .updateConfirm sid tag => Sys2Proof.Machine.execUpdateConfirm sid tag s
  | .updateAbort sid tag => Sys2Proof.Machine.execUpdateAbort sid tag s
  | .lanternImageStage sid tag => Sys2Proof.Machine.execLanternImageStage sid tag s
  | .lanternImageRollout sid tag => Sys2Proof.Machine.execLanternImageRollout sid tag s
  | .keyLoad sid tag => Sys2Proof.Machine.execKeyLoad sid tag s
  | .keyRetire sid tag => Sys2Proof.Machine.execKeyRetire sid tag s
  | .lifecycleAdvance sid tag => Sys2Proof.Machine.execLifecycleAdvance sid tag s
  | .tamperPolicySet sid tag => Sys2Proof.Machine.execTamperPolicySet sid tag s
  | .debugUnlock sid tag => Sys2Proof.Machine.execDebugUnlock sid tag s
  | .securityStatus sid tag => Sys2Proof.Machine.execSecurityStatus sid tag s
  | .faultStatus sid tag => Sys2Proof.Machine.execFaultStatus sid tag s
  | .faultAck sid tag => Sys2Proof.Machine.execFaultAck sid tag s
  | .eventRead sid tag => Sys2Proof.Machine.execEventRead sid tag s
  | .eventClear sid tag => Sys2Proof.Machine.execEventClear sid tag s
  | .eventRateSet sid tag => Sys2Proof.Machine.execEventRateSet sid tag s
  | .faultInject sid tag => Sys2Proof.Machine.execFaultInject sid tag s
  | .twinStatus sid tag => Sys2Proof.Machine.execTwinStatus sid tag s
  | .twinConfig sid tag => Sys2Proof.Machine.execTwinConfig sid tag s
  | .leaseYield sid tag => Sys2Proof.Machine.execLeaseYield sid tag s
  | .selftestRun sid tag => Sys2Proof.Machine.execSelftestRun sid tag s
  | .selftestResult sid tag => Sys2Proof.Machine.execSelftestResult sid tag s
  | .selftestSchedule sid tag => Sys2Proof.Machine.execSelftestSchedule sid tag s
  | .queueConfig sid tag => Sys2Proof.Machine.execQueueConfig sid tag s
  | .queueStatus sid tag => Sys2Proof.Machine.execQueueStatus sid tag s
  | .winInPush w => Sys2Proof.Machine.execWinInPush w s
  | .winOutPop => Sys2Proof.Machine.execWinOutPop s
  | .abortIn => Sys2Proof.Machine.execAbortIn s
  | .winStatusW1c w => Sys2Proof.Machine.execWinStatusW1c w s
  | .winIrqCauseW1c w => Sys2Proof.Machine.execWinIrqCauseW1c w s
  | .registerWrite offset w => Sys2Proof.Machine.execRegisterWrite offset w s
  | .hspiTransactionIgnored command rest => Sys2Proof.Machine.execHspiTransactionIgnored command rest s
  | .huartFrame raw => Sys2Proof.Machine.execHuartFrame raw s
  | .dbgFrame raw => Sys2Proof.Machine.execDbgFrame raw s
  | .ethHandshake d => Sys2Proof.Machine.execEthHandshake d s
  | .ethData d => Sys2Proof.Machine.execEthData d s
  | .ethReorderTimeout sid => Sys2Proof.Machine.execEthReorderTimeout sid s
  | .ethIdleTimeout sid => Sys2Proof.Machine.execEthIdleTimeout sid s
  | .ethFirstDataTimeout sid => Sys2Proof.Machine.execEthFirstDataTimeout sid s
  | .ipReassemblyTimeout id => Sys2Proof.Machine.execIpReassemblyTimeout id s
  | .intakeService => Sys2Proof.Machine.execIntakeService s
  | .interimReplyTimer sid tag => Sys2Proof.Machine.execInterimReplyTimer sid tag s
  | .deadlineExpiry sid tag => Sys2Proof.Machine.execDeadlineExpiry sid tag s
  | .lateAckWindowExpiry seq => Sys2Proof.Machine.execLateAckWindowExpiry seq s
  | .creditReturnTimer sid => Sys2Proof.Machine.execCreditReturnTimer sid s
  | .challengeExpiry t => Sys2Proof.Machine.execChallengeExpiry t s
  | .debugChallengeExpiry => Sys2Proof.Machine.execDebugChallengeExpiry s
  | .eventClearChallengeExpiry => Sys2Proof.Machine.execEventClearChallengeExpiry s
  | .transportTxComplete t sid => Sys2Proof.Machine.execTransportTxComplete t sid s
  | .baudChangeTimer => Sys2Proof.Machine.execBaudChangeTimer s
  | .delayedReset => Sys2Proof.Machine.execDelayedReset s
  | .replyHoldTimer sid => Sys2Proof.Machine.execReplyHoldTimer sid s
  | .queueServicePassEnd => Sys2Proof.Machine.execQueueServicePassEnd s
  | .cycleBoundary lateA lateB misoA misoB => Sys2Proof.Machine.execCycleBoundary lateA lateB misoA misoB s
  | .pierHeadSilent lantern => Sys2Proof.Machine.execPierHeadSilent lantern s
  | .holderBeaconsMissed heard => Sys2Proof.Machine.execHolderBeaconsMissed heard s
  | .rendezvousListenEnd lantern => Sys2Proof.Machine.execRendezvousListenEnd lantern s
  | .routelessLost lantern => Sys2Proof.Machine.execRoutelessLost lantern s
  | .rootPortReassign lantern => Sys2Proof.Machine.execRootPortReassign lantern s
  | .cellStart c => Sys2Proof.Machine.execCellStart c s
  | .ackWindowExpiry port => Sys2Proof.Machine.execAckWindowExpiry port s
  | .enhancedAckReceived port psdu => Sys2Proof.Machine.execEnhancedAckReceived port psdu s
  | .radioIrq port miso edge => Sys2Proof.Machine.execRadioIrq port miso edge s
  | .radioPollTimeout poll => Sys2Proof.Machine.execRadioPollTimeout poll s
  | .frameReceived poll => Sys2Proof.Machine.execFrameReceived poll s
  | .beaconReceived src => Sys2Proof.Machine.execBeaconReceived src s
  | .joinRequest eui => Sys2Proof.Machine.execJoinRequest eui s
  | .joinRelay proxy => Sys2Proof.Machine.execJoinRelay proxy s
  | .capability lantern => Sys2Proof.Machine.execCapability lantern s
  | .configRequest lantern => Sys2Proof.Machine.execConfigRequest lantern s
  | .resync lantern => Sys2Proof.Machine.execResync lantern s
  | .neighbourReport lantern => Sys2Proof.Machine.execNeighbourReport lantern s
  | .beaconMiss lantern => Sys2Proof.Machine.execBeaconMiss lantern s
  | .response lantern => Sys2Proof.Machine.execResponse lantern s
  | .sensorEvent lantern => Sys2Proof.Machine.execSensorEvent lantern s
  | .energyReport lantern => Sys2Proof.Machine.execEnergyReport lantern s
  | .energyAggregate lantern => Sys2Proof.Machine.execEnergyAggregate lantern s
  | .policyReport lantern => Sys2Proof.Machine.execPolicyReport lantern s
  | .faultReport lantern => Sys2Proof.Machine.execFaultReport lantern s
  | .fragmentInventory lantern => Sys2Proof.Machine.execFragmentInventory lantern s
  | .chunkRequest lantern => Sys2Proof.Machine.execChunkRequest lantern s
  | .imageStatus lantern => Sys2Proof.Machine.execImageStatus lantern s
  | .leave lantern => Sys2Proof.Machine.execLeave lantern s
  | .lampReport lantern => Sys2Proof.Machine.execLampReport lantern s
  | .hostTunnel => Sys2Proof.Machine.execHostTunnel s
  | .keyUpdateActivation => Sys2Proof.Machine.execKeyUpdateActivation s
  | .oldNetworkKeyExpiry => Sys2Proof.Machine.execOldNetworkKeyExpiry s
  | .annexParentLost heard => Sys2Proof.Machine.execAnnexParentLost heard s
  | .spanAutoStopTimer => Sys2Proof.Machine.execSpanAutoStopTimer s
  | .ptpSync m => Sys2Proof.Machine.execPtpSync m s
  | .ptpFollowUp m => Sys2Proof.Machine.execPtpFollowUp m s
  | .ptpAnnounce m => Sys2Proof.Machine.execPtpAnnounce m s
  | .ptpDelayResp m => Sys2Proof.Machine.execPtpDelayResp m s
  | .delayReqTimer => Sys2Proof.Machine.execDelayReqTimer s
  | .announceReceiptTimeout => Sys2Proof.Machine.execAnnounceReceiptTimeout s
  | .syncLossTimeout => Sys2Proof.Machine.execSyncLossTimeout s
  | .ptpEventForward ingress stamp frame => Sys2Proof.Machine.execPtpEventForward ingress stamp frame s
  | .ppsInEdge => Sys2Proof.Machine.execPpsInEdge s
  | .nmeaSentence text => Sys2Proof.Machine.execNmeaSentence text s
  | .gnssEdgeLoss => Sys2Proof.Machine.execGnssEdgeLoss s
  | .gnssLabelLoss => Sys2Proof.Machine.execGnssLabelLoss s
  | .sourcePreferenceTimer source => Sys2Proof.Machine.execSourcePreferenceTimer source s
  | .slewEnd => Sys2Proof.Machine.execSlewEnd s
  | .wholeSecond => Sys2Proof.Machine.execWholeSecond s
  | .leapSecond => Sys2Proof.Machine.execLeapSecond s
  | .timeExchangeTimer => Sys2Proof.Machine.execTimeExchangeTimer s
  | .rtcAlarmMatch => Sys2Proof.Machine.execRtcAlarmMatch s
  | .rtcTrimAccumulate => Sys2Proof.Machine.execRtcTrimAccumulate s
  | .rtcTempCompensation correction => Sys2Proof.Machine.execRtcTempCompensation correction s
  | .rtcTrimLearn => Sys2Proof.Machine.execRtcTrimLearn s
  | .vaultScrub result => Sys2Proof.Machine.execVaultScrub result s
  | .fallbackMinute => Sys2Proof.Machine.execFallbackMinute s
  | .fallbackKeepaliveRenew => Sys2Proof.Machine.execFallbackKeepaliveRenew s
  | .fallbackKeepaliveExpiry => Sys2Proof.Machine.execFallbackKeepaliveExpiry s
  | .backupEntry => Sys2Proof.Machine.execBackupEntry s
  | .meterSecondClose edges => Sys2Proof.Machine.execMeterSecondClose edges s
  | .lineZeroCrossing phase edges => Sys2Proof.Machine.execLineZeroCrossing phase edges s
  | .routingTimeout phase edges => Sys2Proof.Machine.execRoutingTimeout phase edges s
  | .modClkGap => Sys2Proof.Machine.execModClkGap s
  | .pfailFall => Sys2Proof.Machine.execPfailFall s
  | .pfailRise => Sys2Proof.Machine.execPfailRise s
  | .poutPulsePhaseEnd output => Sys2Proof.Machine.execPoutPulsePhaseEnd output s
  | .pinEdge input level => Sys2Proof.Machine.execPinEdge input level s
  | .pinDebounceExpiry input => Sys2Proof.Machine.execPinDebounceExpiry input s
  | .reconcileWindow => Sys2Proof.Machine.execReconcileWindow s
  | .standbyMeterWindow => Sys2Proof.Machine.execStandbyMeterWindow s
  | .twinHello f => Sys2Proof.Machine.execTwinHello f s
  | .heartbeat f => Sys2Proof.Machine.execHeartbeat f s
  | .renew f => Sys2Proof.Machine.execRenew f s
  | .copy f => Sys2Proof.Machine.execCopy f s
  | .copyEnd f => Sys2Proof.Machine.execCopyEnd f s
  | .copyAck f => Sys2Proof.Machine.execCopyAck f s
  | .twinTime f => Sys2Proof.Machine.execTwinTime f s
  | .timeEcho f => Sys2Proof.Machine.execTimeEcho f s
  | .echoFeed f => Sys2Proof.Machine.execEchoFeed f s
  | .echoResult f => Sys2Proof.Machine.execEchoResult f s
  | .journal f => Sys2Proof.Machine.execJournal f s
  | .journalAck f => Sys2Proof.Machine.execJournalAck f s
  | .health f => Sys2Proof.Machine.execHealth f s
  | .nak f => Sys2Proof.Machine.execNak f s
  | .twinFrameBad => Sys2Proof.Machine.execTwinFrameBad s
  | .twinLinkDownTimeout => Sys2Proof.Machine.execTwinLinkDownTimeout s
  | .twinHelloTimer => Sys2Proof.Machine.execTwinHelloTimer s
  | .heartbeatTimer => Sys2Proof.Machine.execHeartbeatTimer s
  | .leaseInAssert => Sys2Proof.Machine.execLeaseInAssert s
  | .leaseInDeassert => Sys2Proof.Machine.execLeaseInDeassert s
  | .interlockOpen => Sys2Proof.Machine.execInterlockOpen s
  | .leaseExpiryTake => Sys2Proof.Machine.execLeaseExpiryTake s
  | .loneStartTimer => Sys2Proof.Machine.execLoneStartTimer s
  | .conflictBackoffTimer => Sys2Proof.Machine.execConflictBackoffTimer s
  | .healthYieldTimer => Sys2Proof.Machine.execHealthYieldTimer s
  | .copyStale => Sys2Proof.Machine.execCopyStale s
  | .powerEvaluation => Sys2Proof.Machine.execPowerEvaluation s
  | .pmicAck nack pgood status => Sys2Proof.Machine.execPmicAck nack pgood status s
  | .pmicAckTimeout => Sys2Proof.Machine.execPmicAckTimeout s
  | .pmbusRetryTimer => Sys2Proof.Machine.execPmbusRetryTimer s
  | .wake cause => Sys2Proof.Machine.execWake cause s
  | .knownEventTimer => Sys2Proof.Machine.execKnownEventTimer s
  | .thermalSensorChange celsius => Sys2Proof.Machine.execThermalSensorChange celsius s
  | .pmAlert status => Sys2Proof.Machine.execPmAlert status s
  | .pmPgoodFall => Sys2Proof.Machine.execPmPgoodFall s
  | .ethLinkPoll a b => Sys2Proof.Machine.execEthLinkPoll a b s
  | .checkinWindowEnd => Sys2Proof.Machine.execCheckinWindowEnd s
  | .jointDelivery joint => Sys2Proof.Machine.execJointDelivery joint s
  | .jointSideReset joint => Sys2Proof.Machine.execJointSideReset joint s
  | .faultRaised source cls payload => Sys2Proof.Machine.execFaultRaised source cls payload s
  | .faultInjection => Sys2Proof.Machine.execFaultInjection s
  | .ucEscalation => Sys2Proof.Machine.execUcEscalation s
  | .firmwareFaultAck source => Sys2Proof.Machine.execFirmwareFaultAck source s
  | .watchdogExpiry core => Sys2Proof.Machine.execWatchdogExpiry core s
  | .safeHoldRestart => Sys2Proof.Machine.execSafeHoldRestart s
  | .eventPageCopy => Sys2Proof.Machine.execEventPageCopy s
  | .eventLogEraseDone => Sys2Proof.Machine.execEventLogEraseDone s
  | .rateBucketRefill code => Sys2Proof.Machine.execRateBucketRefill code s
  | .tamperCondition source => Sys2Proof.Machine.execTamperCondition source s
  | .tamper0DebounceExpiry => Sys2Proof.Machine.execTamper0DebounceExpiry s
  | .guardLfsrAdvance => Sys2Proof.Machine.execGuardLfsrAdvance s
  | .guardSample level => Sys2Proof.Machine.execGuardSample level s
  | .vbatLowTimer => Sys2Proof.Machine.execVbatLowTimer s
  | .tamperRearmTimer source => Sys2Proof.Machine.execTamperRearmTimer source s
  | .updateSectorErased => Sys2Proof.Machine.execUpdateSectorErased s
  | .updateVerifyDone => Sys2Proof.Machine.execUpdateVerifyDone s
  | .updateJournalExpiry => Sys2Proof.Machine.execUpdateJournalExpiry s
  | .trialTimeLimit => Sys2Proof.Machine.execTrialTimeLimit s
  | .recoveryHelloTimer => Sys2Proof.Machine.execRecoveryHelloTimer s
  | .recoveryBegin frame => Sys2Proof.Machine.execRecoveryBegin frame s
  | .recoveryData frame => Sys2Proof.Machine.execRecoveryData frame s
  | .recoveryBoot frame => Sys2Proof.Machine.execRecoveryBoot frame s
  | .selftestSweepStart => Sys2Proof.Machine.execSelftestSweepStart s
  | .selftestSliceStart r => Sys2Proof.Machine.execSelftestSliceStart r s
  | .scanRequest => Sys2Proof.Machine.execScanRequest s
  | .placementEvaluation => Sys2Proof.Machine.execPlacementEvaluation s
  | .dayTableRefresh policy site => Sys2Proof.Machine.execDayTableRefresh policy site s
  | .spanPolicyTrigger policy => Sys2Proof.Machine.execSpanPolicyTrigger policy s
  | .claimHoldExpiry output policy => Sys2Proof.Machine.execClaimHoldExpiry output policy s
  | .policyValidityEnd policy => Sys2Proof.Machine.execPolicyValidityEnd policy s
  | .placementHoldEnd => Sys2Proof.Machine.execPlacementHoldEnd s
  | .subscriptionExpiry number => Sys2Proof.Machine.execSubscriptionExpiry number s
  | .lampPeriodStart output => Sys2Proof.Machine.execLampPeriodStart output s
  | .fadeStep output => Sys2Proof.Machine.execFadeStep output s
  | .localApplyTime => Sys2Proof.Machine.execLocalApplyTime s
  | .ldFaultFall => Sys2Proof.Machine.execLdFaultFall s
  | .ldFaultFilterExpiry => Sys2Proof.Machine.execLdFaultFilterExpiry s
  | .ldFaultRise => Sys2Proof.Machine.execLdFaultRise s
  | .ldFaultRetryTimer => Sys2Proof.Machine.execLdFaultRetryTimer s
  | .resetNAssert => Sys2Proof.Machine.execResetNAssert s
  | .resetNRelease recoveryLow => Sys2Proof.Machine.execResetNRelease recoveryLow s
  | .powerOnReset => Sys2Proof.Machine.execPowerOnReset s
  | .bootSequence e => Sys2Proof.Machine.execBootSequence e s
  | .pmicStartupRetry e => Sys2Proof.Machine.execPmicStartupRetry e s
  | .ioBankChange bank mode => Sys2Proof.Machine.execIoBankChange bank mode s
  | .meshReassemblyTimeout src => Sys2Proof.Machine.execMeshReassemblyTimeout src s
  | .modClkReturn edges => Sys2Proof.Machine.execModClkReturn edges s
  | .watchdogRenewal core => Sys2Proof.Machine.execWatchdogRenewal core s
  | .vaultSupplyLoss => Sys2Proof.Machine.execVaultSupplyLoss s
  | .tamper0Edge level => Sys2Proof.Machine.execTamper0Edge level s
  | .tamperConditionEnd source => Sys2Proof.Machine.execTamperConditionEnd source s

end Sys2Proof.Machine
end

