-- ==== Sys2Proof/Machine/Step.lean ====
section
/-! DEFINITION. The step: the command at the front of the queue, or one tick of time when the queue is empty. -/

namespace Sys2Proof.Machine

/-- One step. With no command waiting, 10 ns pass (log entry 3). -/
def step (s : State) : Host.Outcome State Fault Refusal :=
  match s.pending with
  | [] => .next (idle s)
  | c :: rest => exec c { s with pending := rest }

/-- A command put at the front of the queue. -/
def State.push (c : Instr) (s : State) : State := { s with pending := c :: s.pending }

/-- The state with the word's command in front; unchanged where the word spells none. -/
def State.withFetchWord (s : State) (nbits w : Nat) : State :=
  match Sys2Proof.decodeTableWord nbits w with
  | some c => s.push c
  | none => s

end Sys2Proof.Machine
end

