-- ==== Sys2Proof/Safety.lean ====
section
/-! DEFINITION. The terms in which claims are stated: a command whose turn has come, the state in which it executes, the commands
by opcode, what the life cycle and the OTP may become. -/

namespace Sys2Proof.Machine

/-! ### Commands -/

/-- Opcode, session and tag of a command row (Table 3.3); none for the rows that are not commands of a host. -/
def opcodeOf (i : Instr) : Option (Nat × Nat × Nat) :=
  match i with
  | .echo sid tag => some (0x0001, sid, tag)
  | .deviceInfo sid tag => some (0x0002, sid, tag)
  | .reset sid tag => some (0x0003, sid, tag)
  | .fence sid tag => some (0x0004, sid, tag)
  | .settingRead sid tag => some (0x0005, sid, tag)
  | .settingWrite sid tag => some (0x0006, sid, tag)
  | .settingCommit sid tag => some (0x0007, sid, tag)
  | .cancel sid tag => some (0x0008, sid, tag)
  | .sessionOpen sid tag => some (0x0009, sid, tag)
  | .timeGet sid tag => some (0x0101, sid, tag)
  | .timeSlew sid tag => some (0x0102, sid, tag)
  | .timeStep sid tag => some (0x0103, sid, tag)
  | .timeSourceSet sid tag => some (0x0104, sid, tag)
  | .rtcAlarmSet sid tag => some (0x0105, sid, tag)
  | .calendarConvert sid tag => some (0x0106, sid, tag)
  | .localTimeTableLoad sid tag => some (0x0107, sid, tag)
  | .fallbackTableLoad sid tag => some (0x0108, sid, tag)
  | .powerPolicySet sid tag => some (0x0201, sid, tag)
  | .powerStatus sid tag => some (0x0202, sid, tag)
  | .powerRefusalsRead sid tag => some (0x0203, sid, tag)
  | .spanStart sid tag => some (0x0301, sid, tag)
  | .spanStop sid tag => some (0x0302, sid, tag)
  | .lanternAdmit sid tag => some (0x0303, sid, tag)
  | .lanternRemove sid tag => some (0x0304, sid, tag)
  | .lanternQuery sid tag => some (0x0305, sid, tag)
  | .lanternSend sid tag => some (0x0306, sid, tag)
  | .topologyRead sid tag => some (0x0307, sid, tag)
  | .floodSend sid tag => some (0x0308, sid, tag)
  | .regionProfileLoad sid tag => some (0x0309, sid, tag)
  | .dwellStatus sid tag => some (0x030A, sid, tag)
  | .radioProfileLoad sid tag _ _ => some (0x030B, sid, tag)
  | .policyLoad sid tag => some (0x0401, sid, tag)
  | .policyRemove sid tag => some (0x0402, sid, tag)
  | .policyList sid tag => some (0x0403, sid, tag)
  | .placementRead sid tag => some (0x0404, sid, tag)
  | .placementPin sid tag => some (0x0405, sid, tag)
  | .placementHold sid tag => some (0x0406, sid, tag)
  | .sensorSubscribe sid tag => some (0x0407, sid, tag)
  | .lampSet sid tag => some (0x0501, sid, tag)
  | .sceneDefine sid tag => some (0x0502, sid, tag)
  | .sceneLaunch sid tag => some (0x0503, sid, tag)
  | .calibrationLoad sid tag => some (0x0504, sid, tag)
  | .localChannelConfig sid tag => some (0x0505, sid, tag)
  | .lampStatus sid tag => some (0x0506, sid, tag)
  | .meterConfig sid tag => some (0x0601, sid, tag)
  | .meterRead sid tag => some (0x0602, sid, tag)
  | .energyRead sid tag => some (0x0603, sid, tag)
  | .pulseOutputAssign sid tag => some (0x0604, sid, tag)
  | .pulseInputRead sid tag => some (0x0605, sid, tag)
  | .reconcileRead sid tag => some (0x0606, sid, tag)
  | .meterCalibrate sid tag => some (0x0607, sid, tag)
  | .updateBegin sid tag => some (0x0701, sid, tag)
  | .updateFragment sid tag => some (0x0702, sid, tag)
  | .updateStatus sid tag => some (0x0703, sid, tag)
  | .updateActivate sid tag => some (0x0704, sid, tag)
  | .updateConfirm sid tag => some (0x0705, sid, tag)
  | .updateAbort sid tag => some (0x0706, sid, tag)
  | .lanternImageStage sid tag => some (0x0707, sid, tag)
  | .lanternImageRollout sid tag => some (0x0708, sid, tag)
  | .keyLoad sid tag => some (0x0801, sid, tag)
  | .keyRetire sid tag => some (0x0802, sid, tag)
  | .lifecycleAdvance sid tag => some (0x0803, sid, tag)
  | .tamperPolicySet sid tag => some (0x0804, sid, tag)
  | .debugUnlock sid tag => some (0x0805, sid, tag)
  | .securityStatus sid tag => some (0x0806, sid, tag)
  | .faultStatus sid tag => some (0x0901, sid, tag)
  | .faultAck sid tag => some (0x0902, sid, tag)
  | .eventRead sid tag => some (0x0903, sid, tag)
  | .eventClear sid tag => some (0x0904, sid, tag)
  | .eventRateSet sid tag => some (0x0905, sid, tag)
  | .faultInject sid tag => some (0x0906, sid, tag)
  | .twinStatus sid tag => some (0x0A01, sid, tag)
  | .twinConfig sid tag => some (0x0A02, sid, tag)
  | .leaseYield sid tag => some (0x0A03, sid, tag)
  | .selftestRun sid tag => some (0x0B01, sid, tag)
  | .selftestResult sid tag => some (0x0B02, sid, tag)
  | .selftestSchedule sid tag => some (0x0B03, sid, tag)
  | .queueConfig sid tag => some (0x0C01, sid, tag)
  | .queueStatus sid tag => some (0x0C02, sid, tag)
  | _ => none

/-- The accepted command `c` of a session and tag may execute: it has not begun, every earlier command that Table 2.11 puts before
it has completed, its deadline is ahead, firmware runs, and its dependency, if it has one, succeeded (R73, R74, R79). -/
def Turn (op sid tag : Nat) (c : LiveCmd) (s : State) : Prop :=
  readyCmd op sid tag s = some c ∧ ∀ st, c.dep = .status st → success st = true

/-- The state in which a command executes: the module has left IDLE and NAP (R402), the command has begun. -/
def begun (c : LiveCmd) (s : State) : State := (toRun s).modCmd c.seq (fun x => { x with begun := true })

/-- The answer of a command: a next state. -/
def Answers (i : Instr) (s t : State) : Prop := exec i s = .next t

/-- An event of the module whose condition does not hold changes nothing. -/
def Idles (i : Instr) (s : State) : Prop := exec i s = .next s

/-! ### Life cycle and OTP (R463, R465, R490) -/

/-- The life-cycle state is one of Table 15.4's, a scrapped module has no root, at most three returns were made, and a transition
that waits for its reply is one of Table 15.5. -/
def LifeInv (s : State) : Prop :=
  1 ≤ s.otp.lifecycle ∧ s.otp.lifecycle ≤ 6 ∧ (s.otp.lifecycle = lcScrapped → s.otp.rootKilled = true) ∧ s.otp.returns ≤ 3 ∧
  ∀ to_ q, s.sec.advance = some (to_, q) → (transition s.otp.lifecycle to_).isSome = true ∧
    (s.otp.lifecycle = lcReturn → to_ = lcProvisioned → s.otp.returns < 3)

/-- What fuses allow: what is programmed for good stays, counters only rise, a destroyed root stays destroyed. -/
def Otp.follows (new old : Otp) : Prop :=
  new.orderCode = old.orderCode ∧ new.unitId = old.unitId ∧ new.stepping = old.stepping ∧ new.rootSecret = old.rootSecret ∧
  new.rootProgrammed = old.rootProgrammed ∧ new.rtcTrim = old.rtcTrim ∧ new.lifecycleAuth = old.lifecycleAuth ∧
  new.debugAuth = old.debugAuth ∧ new.firmwareAuth = old.firmwareAuth ∧ new.romMeasure = old.romMeasure ∧
  old.antiRollback ≤ new.antiRollback ∧ old.returns ≤ new.returns ∧ (old.rootKilled = true → new.rootKilled = true)

/-! ### Frames: the parts of the state and what a command may change -/

/-- The parts of the state, but for the elapsed clock and the queue of waiting commands. -/
inductive Part where
  /-- the time unit -/
  | time
  /-- the real-time clock -/
  | rtc
  /-- contactors and the fallback table -/
  | fb
  /-- settings -/
  | settings
  /-- sessions, transports and live commands -/
  | host
  /-- the parapet and the event recorder -/
  | par
  /-- the power manager -/
  | pwr
  /-- the joints -/
  | joints
  /-- the trestle MAC -/
  | mac
  /-- placement -/
  | truss
  /-- the lamp engine -/
  | lamp
  /-- the meter -/
  | meter
  /-- the twin link and the lease -/
  | twin
  /-- the OTP -/
  | otp
  /-- keys, tamper and epoch -/
  | sec
  /-- firmware and images -/
  | upd
  /-- self-test -/
  | bist
  /-- start-up and reset -/
  | boot
  /-- what has left on the lines -/
  | out
  /-- the counter of free values -/
  | freeIdx
deriving DecidableEq, Repr

/-- A part is the same in both states. -/
def SamePart (p : Part) (s t : State) : Prop :=
  match p with
  | .time => t.time = s.time
  | .rtc => t.rtc = s.rtc
  | .fb => t.fb = s.fb
  | .settings => t.set = s.set
  | .host => t.host = s.host
  | .par => t.par = s.par
  | .pwr => t.pwr = s.pwr
  | .joints => t.joints = s.joints
  | .mac => t.mac = s.mac
  | .truss => t.truss = s.truss
  | .lamp => t.lamp = s.lamp
  | .meter => t.meter = s.meter
  | .twin => t.twin = s.twin
  | .otp => t.otp = s.otp
  | .sec => t.sec = s.sec
  | .upd => t.upd = s.upd
  | .bist => t.bist = s.bist
  | .boot => t.boot = s.boot
  | .out => t.out = s.out
  | .freeIdx => t.freeIdx = s.freeIdx

/-- Sessions, transports and live commands only. -/
def partsSessions : List Part :=
  [.host]

/-- The twin link and the lease only. -/
def partsLink : List Part :=
  [.twin]

/-- The trestle MAC only. -/
def partsRadio : List Part :=
  [.mac]

/-- The meter only. -/
def partsMetering : List Part :=
  [.meter]

/-- The parapet and its recorder only. -/
def partsRecorder : List Part :=
  [.par]

/-- Keys, tamper and epoch only. -/
def partsSecrets : List Part :=
  [.sec]

/-- The lamp engine only. -/
def partsLamps : List Part :=
  [.lamp]

/-- The power manager and its lines only. -/
def partsPower : List Part :=
  [.pwr, .out]

/-- The time unit, what it sends and the counter of free values only. -/
def partsUnit : List Part :=
  [.time, .out, .freeIdx]

/-- The real-time clock only. -/
def partsRtc : List Part :=
  [.rtc]

/-- A dialogue: replies, notices, the recorder, the power state, the twin journal, output. -/
def partsDialogue : List Part :=
  [.host, .par, .pwr, .twin, .out]

/-- Work on images, keys, clocks and the self-test of the module itself. -/
def partsStore : List Part :=
  [.time, .rtc, .host, .par, .pwr, .twin, .sec, .upd, .bist, .out, .freeIdx]

/-- Edges of the module’s own lines: joints, meter, alarms, lamps, contactors. -/
def partsLines : List Part :=
  [.rtc, .fb, .host, .par, .pwr, .joints, .lamp, .meter, .twin, .out]

/-- Work on the mesh and on what it carries. -/
def partsMesh : List Part :=
  [.fb, .host, .par, .pwr, .mac, .truss, .lamp, .meter, .twin, .upd, .freeIdx]

/-- Work on keys and on what ends with them. -/
def partsKeys : List Part :=
  [.fb, .host, .par, .pwr, .joints, .mac, .truss, .meter, .twin, .sec, .upd, .out, .freeIdx]

/-- Faults and settings of the module itself, up to the safe state. -/
def partsLocal : List Part :=
  [.time, .fb, .settings, .host, .par, .pwr, .joints, .mac, .lamp, .meter, .twin, .sec, .bist, .out]

/-- Work on time, settings and contactors. -/
def partsTime : List Part :=
  [.time, .rtc, .fb, .settings, .host, .par, .pwr, .joints, .mac, .truss, .lamp, .meter, .twin, .upd, .out, .freeIdx]

/-- Work that can bring down the span or the safe state. -/
def partsWide : List Part :=
  [.time, .rtc, .fb, .settings, .host, .par, .pwr, .joints, .mac, .truss, .lamp, .meter, .twin, .sec, .upd, .bist, .out,
   .freeIdx]

/-- The parts a command may change; every other part it leaves as it is. -/
def mayChange (i : Instr) : List Part :=
  match i with
  | .echo _ _ => partsDialogue
  | .deviceInfo _ _ => partsDialogue
  | .reset _ _ => partsDialogue
  | .fence _ _ => partsDialogue
  | .settingRead _ _ => partsDialogue
  | .settingWrite _ _ => partsWide
  | .settingCommit _ _ => partsWide
  | .cancel _ _ => partsLocal
  | .sessionOpen _ _ => partsKeys
  | .timeGet _ _ => partsDialogue
  | .timeSlew _ _ => partsStore
  | .timeStep _ _ => partsWide
  | .timeSourceSet _ _ => partsTime
  | .rtcAlarmSet _ _ => partsLines
  | .calendarConvert _ _ => partsWide
  | .localTimeTableLoad _ _ => partsLines
  | .fallbackTableLoad _ _ => partsMesh
  | .powerPolicySet _ _ => partsWide
  | .powerStatus _ _ => partsDialogue
  | .powerRefusalsRead _ _ => partsDialogue
  | .spanStart _ _ => partsMesh
  | .spanStop _ _ => partsMesh
  | .lanternAdmit _ _ => partsMesh
  | .lanternRemove _ _ => partsMesh
  | .lanternQuery _ _ => partsMesh
  | .lanternSend _ _ => partsMesh
  | .topologyRead _ _ => partsDialogue
  | .floodSend _ _ => partsMesh
  | .regionProfileLoad _ _ => partsMesh
  | .dwellStatus _ _ => partsDialogue
  | .radioProfileLoad _ _ _ _ => partsKeys
  | .policyLoad _ _ => partsMesh
  | .policyRemove _ _ => partsMesh
  | .policyList _ _ => partsDialogue
  | .placementRead _ _ => partsDialogue
  | .placementPin _ _ => partsMesh
  | .placementHold _ _ => partsMesh
  | .sensorSubscribe _ _ => partsMesh
  | .lampSet _ _ => partsMesh
  | .sceneDefine _ _ => partsMesh
  | .sceneLaunch _ _ => partsMesh
  | .calibrationLoad _ _ => partsMesh
  | .localChannelConfig _ _ => partsWide
  | .lampStatus _ _ => partsDialogue
  | .meterConfig _ _ => partsWide
  | .meterRead _ _ => partsDialogue
  | .energyRead _ _ => partsDialogue
  | .pulseOutputAssign _ _ => partsWide
  | .pulseInputRead _ _ => partsLines
  | .reconcileRead _ _ => partsDialogue
  | .meterCalibrate _ _ => partsLines
  | .updateBegin _ _ => partsKeys
  | .updateFragment _ _ => partsStore
  | .updateStatus _ _ => partsStore
  | .updateActivate _ _ => partsStore
  | .updateConfirm _ _ =>
    [.host, .par, .pwr, .twin, .otp, .sec, .upd]
  | .updateAbort _ _ => partsStore
  | .lanternImageStage _ _ => partsStore
  | .lanternImageRollout _ _ => partsMesh
  | .keyLoad _ _ => partsWide
  | .keyRetire _ _ => partsKeys
  | .lifecycleAdvance _ _ =>
    [.time, .rtc, .fb, .settings, .host, .par, .pwr, .mac, .truss, .lamp, .meter, .twin, .otp, .sec, .upd, .out]
  | .tamperPolicySet _ _ => partsStore
  | .debugUnlock _ _ => partsKeys
  | .securityStatus _ _ => partsStore
  | .faultStatus _ _ => partsDialogue
  | .faultAck _ _ => partsLocal
  | .eventRead _ _ => partsDialogue
  | .eventClear _ _ => partsKeys
  | .eventRateSet _ _ => partsDialogue
  | .faultInject _ _ => partsDialogue
  | .twinStatus _ _ => partsDialogue
  | .twinConfig _ _ => partsWide
  | .leaseYield _ _ => partsDialogue
  | .selftestRun _ _ => partsStore
  | .selftestResult _ _ => partsDialogue
  | .selftestSchedule _ _ => partsWide
  | .queueConfig _ _ => partsWide
  | .queueStatus _ _ => partsDialogue
  | .winInPush _ =>
    [.time, .rtc, .fb, .settings, .host, .par, .pwr, .joints, .mac, .truss, .lamp, .meter, .twin, .sec, .upd, .boot, .out,
     .freeIdx]
  | .winOutPop =>
    [.time, .rtc, .fb, .settings, .host, .par, .pwr, .joints, .mac, .truss, .lamp, .meter, .twin, .otp, .sec, .upd, .out]
  | .abortIn =>
    [.host, .par, .pwr, .joints, .out]
  | .winStatusW1c _ =>
    [.host, .par, .pwr, .joints, .out]
  | .winIrqCauseW1c _ =>
    [.host, .par, .pwr, .joints, .out]
  | .registerWrite _ _ =>
    [.time, .rtc, .fb, .settings, .host, .par, .pwr, .joints, .mac, .truss, .lamp, .meter, .twin, .sec, .upd, .boot, .out,
     .freeIdx]
  | .hspiTransactionIgnored _ _ =>
    [.time, .rtc, .fb, .settings, .host, .par, .pwr, .joints, .mac, .truss, .lamp, .meter, .twin, .otp, .sec, .upd, .boot,
     .out, .freeIdx]
  | .huartFrame _ =>
    [.time, .rtc, .fb, .settings, .host, .par, .pwr, .joints, .mac, .truss, .lamp, .meter, .twin, .sec, .upd, .boot, .out,
     .freeIdx]
  | .dbgFrame _ =>
    [.time, .rtc, .fb, .settings, .host, .par, .pwr, .joints, .mac, .truss, .lamp, .meter, .twin, .sec, .upd, .boot, .out,
     .freeIdx]
  | .ethHandshake _ => partsKeys
  | .ethData _ => partsKeys
  | .ethReorderTimeout _ => partsDialogue
  | .ethIdleTimeout _ => partsDialogue
  | .ethFirstDataTimeout _ => partsDialogue
  | .ipReassemblyTimeout _ => partsSessions
  | .intakeService => partsMesh
  | .interimReplyTimer _ _ => partsSessions
  | .deadlineExpiry _ _ => partsMesh
  | .lateAckWindowExpiry _ => partsMesh
  | .creditReturnTimer _ => partsSessions
  | .challengeExpiry _ => partsSessions
  | .debugChallengeExpiry => partsSessions
  | .eventClearChallengeExpiry => partsSessions
  | .transportTxComplete _ _ =>
    [.time, .rtc, .fb, .settings, .host, .par, .mac, .truss, .lamp, .meter, .twin, .otp, .sec, .upd, .out]
  | .baudChangeTimer => partsSessions
  | .delayedReset =>
    [.time, .rtc, .fb, .settings, .host, .par, .pwr, .joints, .mac, .truss, .lamp, .meter, .twin, .otp, .sec, .upd, .bist,
     .boot, .out]
  | .replyHoldTimer _ => partsDialogue
  | .queueServicePassEnd => partsWide
  | .cycleBoundary _ _ _ _ => partsWide
  | .pierHeadSilent _ => partsMesh
  | .holderBeaconsMissed _ => partsMesh
  | .rendezvousListenEnd _ => partsMesh
  | .routelessLost _ => partsMesh
  | .rootPortReassign _ => partsRadio
  | .cellStart _ => partsWide
  | .ackWindowExpiry _ => partsMesh
  | .enhancedAckReceived _ _ => partsWide
  | .radioIrq _ _ _ => partsWide
  | .radioPollTimeout _ => partsWide
  | .frameReceived _ => partsWide
  | .beaconReceived _ => partsWide
  | .joinRequest _ => partsKeys
  | .joinRelay _ => partsKeys
  | .capability _ => partsMesh
  | .configRequest _ => partsMesh
  | .resync _ => partsMesh
  | .neighbourReport _ => partsMesh
  | .beaconMiss _ => partsMesh
  | .response _ => partsMesh
  | .sensorEvent _ => partsMesh
  | .energyReport _ => partsMesh
  | .energyAggregate _ => partsMesh
  | .policyReport _ => partsMesh
  | .faultReport _ => partsRadio
  | .fragmentInventory _ => partsMesh
  | .chunkRequest _ => partsMesh
  | .imageStatus _ => partsMesh
  | .leave _ => partsMesh
  | .lampReport _ => partsRadio
  | .hostTunnel =>
    [.time, .rtc, .fb, .settings, .host, .par, .pwr, .mac, .truss, .lamp, .meter, .twin, .otp, .sec, .upd, .out, .freeIdx]
  | .keyUpdateActivation => partsRadio
  | .oldNetworkKeyExpiry => partsRadio
  | .annexParentLost _ => partsTime
  | .spanAutoStopTimer => partsMesh
  | .ptpSync _ => partsWide
  | .ptpFollowUp _ => partsWide
  | .ptpAnnounce _ => partsTime
  | .ptpDelayResp _ => partsUnit
  | .delayReqTimer => partsUnit
  | .announceReceiptTimeout => partsTime
  | .syncLossTimeout => partsTime
  | .ptpEventForward _ _ _ => partsPower
  | .ppsInEdge => partsWide
  | .nmeaSentence _ => partsWide
  | .gnssEdgeLoss => partsTime
  | .gnssLabelLoss => partsTime
  | .sourcePreferenceTimer _ => partsTime
  | .slewEnd => partsUnit
  | .wholeSecond => partsWide
  | .leapSecond => partsWide
  | .timeExchangeTimer => partsDialogue
  | .rtcAlarmMatch => partsLines
  | .rtcTrimAccumulate => partsRtc
  | .rtcTempCompensation _ => partsRtc
  | .rtcTrimLearn => partsWide
  | .vaultScrub _ => partsLocal
  | .fallbackMinute => partsMesh
  | .fallbackKeepaliveRenew => partsLines
  | .fallbackKeepaliveExpiry => partsMesh
  | .backupEntry =>
    [.time, .rtc, .fb, .settings, .host, .par, .pwr, .joints, .mac, .truss, .lamp, .meter, .twin, .sec, .upd, .bist, .boot,
     .out]
  | .meterSecondClose _ => partsWide
  | .lineZeroCrossing _ _ => partsLines
  | .routingTimeout _ _ => partsLines
  | .modClkGap => partsMetering
  | .pfailFall => partsWide
  | .pfailRise => partsMetering
  | .poutPulsePhaseEnd _ => partsMetering
  | .pinEdge _ _ => partsMetering
  | .pinDebounceExpiry _ => partsLines
  | .reconcileWindow => partsLines
  | .standbyMeterWindow => partsLines
  | .twinHello _ => partsLines
  | .heartbeat _ => partsLink
  | .renew _ => partsWide
  | .copy _ => partsLink
  | .copyEnd _ => partsWide
  | .copyAck _ => partsLocal
  | .twinTime _ => partsWide
  | .timeEcho _ => partsLink
  | .echoFeed _ => partsLink
  | .echoResult _ => partsMesh
  | .journal _ => partsLink
  | .journalAck _ => partsDialogue
  | .health _ => partsLink
  | .nak _ => partsLink
  | .twinFrameBad => partsLink
  | .twinLinkDownTimeout => partsTime
  | .twinHelloTimer => partsLink
  | .heartbeatTimer => partsLink
  | .leaseInAssert => partsTime
  | .leaseInDeassert => partsLines
  | .interlockOpen => partsTime
  | .leaseExpiryTake => partsLink
  | .loneStartTimer => partsLink
  | .conflictBackoffTimer => partsLink
  | .healthYieldTimer => partsLink
  | .copyStale => partsLink
  | .powerEvaluation => partsWide
  | .pmicAck _ _ _ => partsWide
  | .pmicAckTimeout => partsWide
  | .pmbusRetryTimer => partsPower
  | .wake _ => partsLines
  | .knownEventTimer => partsLines
  | .thermalSensorChange _ => partsLocal
  | .pmAlert _ => partsLines
  | .pmPgoodFall => partsLocal
  | .ethLinkPoll _ _ => partsPower
  | .checkinWindowEnd => partsPower
  | .jointDelivery _ => partsLines
  | .jointSideReset _ => partsLines
  | .faultRaised _ _ _ => partsLocal
  | .faultInjection => partsLocal
  | .ucEscalation => partsLocal
  | .firmwareFaultAck _ => partsWide
  | .watchdogExpiry _ => partsLocal
  | .safeHoldRestart =>
    [.time, .rtc, .fb, .settings, .host, .par, .pwr, .joints, .mac, .truss, .lamp, .meter, .twin, .sec, .upd, .bist, .boot,
     .out]
  | .eventPageCopy => partsRecorder
  | .eventLogEraseDone => partsRecorder
  | .rateBucketRefill _ => partsRecorder
  | .tamperCondition _ => partsKeys
  | .tamper0DebounceExpiry => partsKeys
  | .guardLfsrAdvance => partsSecrets
  | .guardSample _ => partsKeys
  | .vbatLowTimer => partsKeys
  | .tamperRearmTimer _ => partsSecrets
  | .updateSectorErased => partsStore
  | .updateVerifyDone => partsStore
  | .updateJournalExpiry => partsStore
  | .trialTimeLimit =>
    [.time, .rtc, .fb, .settings, .host, .par, .pwr, .joints, .mac, .truss, .lamp, .meter, .twin, .sec, .upd, .bist, .boot,
     .out]
  | .recoveryHelloTimer => partsStore
  | .recoveryBegin _ => partsStore
  | .recoveryData _ => partsStore
  | .recoveryBoot _ =>
    [.time, .rtc, .fb, .settings, .host, .par, .pwr, .joints, .mac, .truss, .lamp, .meter, .twin, .sec, .upd, .boot, .out,
     .freeIdx]
  | .selftestSweepStart => partsStore
  | .selftestSliceStart _ => partsStore
  | .scanRequest => partsLocal
  | .placementEvaluation =>
    [.fb, .host, .par, .mac, .truss, .lamp, .twin, .upd, .bist, .boot]
  | .dayTableRefresh _ _ => partsMesh
  | .spanPolicyTrigger _ => partsMesh
  | .claimHoldExpiry _ _ => partsMesh
  | .policyValidityEnd _ => partsMesh
  | .placementHoldEnd => partsMesh
  | .subscriptionExpiry _ => partsMesh
  | .lampPeriodStart _ => partsWide
  | .fadeStep _ => partsLamps
  | .localApplyTime => partsMesh
  | .ldFaultFall => partsLines
  | .ldFaultFilterExpiry => partsLines
  | .ldFaultRise => partsLines
  | .ldFaultRetryTimer => partsLamps
  | .resetNAssert =>
    [.time, .rtc, .fb, .settings, .host, .par, .pwr, .joints, .mac, .truss, .lamp, .meter, .twin, .sec, .upd, .bist, .boot,
     .out]
  | .resetNRelease _ =>
    [.boot]
  | .powerOnReset =>
    [.time, .rtc, .fb, .host, .par, .pwr, .joints, .mac, .meter, .sec, .boot, .out]
  | .bootSequence _ =>
    [.time, .rtc, .fb, .settings, .host, .par, .pwr, .joints, .mac, .truss, .lamp, .meter, .twin, .sec, .upd, .bist, .boot,
     .out, .freeIdx]
  | .pmicStartupRetry _ =>
    [.time, .rtc, .fb, .settings, .host, .par, .pwr, .joints, .mac, .truss, .lamp, .meter, .twin, .sec, .upd, .bist, .boot,
     .out, .freeIdx]
  | .ioBankChange _ _ =>
    [.settings, .host, .par, .lamp, .twin, .boot]
  | .meshReassemblyTimeout _ => partsRadio
  | .modClkReturn _ => partsLines
  | .watchdogRenewal _ => partsRecorder
  | .vaultSupplyLoss =>
    [.rtc, .fb, .par, .twin, .sec, .boot]
  | .tamper0Edge _ => partsSecrets
  | .tamperConditionEnd _ => partsSecrets

end Sys2Proof.Machine
end

