-- ==== Sys2Proof/Certificates/Slice0/Obligations.lean ====
section
/-! DEFINITION. The statements for the provers: the machine as a whole, what the commands of each family and the events of the module do, and
what they leave alone. -/

section
open Sys2Proof Sys2Proof.Machine

/-- The queue is first in, first out; the queue is the model’s (log entry 3), the commands are the rows of the opcode table. -/
def Obligations.StepRunsFrontCommand : Prop :=
  ∀ (c : Instr) (rest : List Instr) (s : State),
    step (State.push c { s with pending := rest }) = exec c { s with pending := rest }

/-- R278: at each edge of PCLK the time unit adds 10 ns and the rate addend. That a step with no command is one PCLK period is the model’s choice (log entry 3). -/
def Obligations.TimePassesWhenNothingWaits : Prop :=
  ∀ s : State, s.pending = [] → ∃ t, step s = .next t ∧ t.now = s.now + 10 ∧ t.pending = [] ∧
    (clocked s = true → ∀ n : Nat,
      (n : Int) = s.time.spanT + 10 * 2 ^ 32 + s.time.rate + (match s.time.slew with | some w => w.addend | none => 0) →
      t.time.spanT = n)

/-- What the spec lets the module detect is a state of the parapet (R430), never a stop of the machine. -/
def Obligations.EveryCommandAnswers : Prop :=
  (∀ (i : Instr) (s : State), ∃ t, exec i s = .next t) ∧ (∀ s : State, ∃ t, step s = .next t)

/-- Time passes only in the step that finds no command; the queue belongs to the step. Both are the model’s own (log entry 3). -/
def Obligations.CommandsLeaveClockAndQueue : Prop :=
  ∀ (i : Instr) (s t : State), exec i s = .next t → t.now = s.now ∧ t.pending = s.pending

/-- R463: the life-cycle state changes only by LIFECYCLE_ADVANCE under Table 15.5, in whatever state the module is. -/
def Obligations.LifecycleChangesByTable : Prop :=
  ∀ s t : State, LifeInv s → step s = .next t →
    t.otp.lifecycle = s.otp.lifecycle ∨
    ((transition s.otp.lifecycle t.otp.lifecycle).isSome = true ∧
      ((∃ sid tag rest, s.pending = .lifecycleAdvance sid tag :: rest) ∨ ∃ q, s.sec.advance = some (t.otp.lifecycle, q)))

/-- Table 15.5 and R465 as an invariant of every step, from every state that meets it. -/
def Obligations.LifecycleInvariantKept : Prop :=
  ∀ s t : State, LifeInv s → step s = .next t → LifeInv t

/-- The state at reset; what its fuses hold is the model’s choice (log entry 23). -/
def Obligations.LifecycleInvariantAtReset : Prop :=
  LifeInv State.reset

/-- OTP is one-time programmable: no command and no tick takes back what is programmed. -/
def Obligations.FusesOnlyProgram : Prop :=
  ∀ s t : State, step s = .next t → t.otp.follows s.otp

/-- R74: a command whose dependency failed completes with DEPENDENCY_FAILED, detail NONE, and does not execute. -/
def Obligations.CommandTurn : Prop :=
  ∀ (i : Instr) (op sid tag : Nat) (s : State), opcodeOf i = some (op, sid, tag) →
    (readyCmd op sid tag s = none → exec i s = .next s) ∧
    (∀ c st, readyCmd op sid tag s = some c → c.dep = .status st → success st = false →
      exec i s = .next (complete c stDependencyFailed dNone [] (toRun s)))

/-- R50, R51, R55 and R83: what a completion leaves in the session of the command, whatever the command was. -/
def Obligations.CompletionAnswersTheHost : Prop :=
  ∀ (c : LiveCmd) (st d : Nat) (p : Bytes) (s : State) (x : Session), c.sid < 4 → c.orphan = false → s.session c.sid = some x →
    c ∉ (complete c st d p s).host.live ∧
    ∃ y, (complete c st d p s).session c.sid = some y ∧ y.credits = x.credits + c.credits ∧ get? y.statuses c.tag = some st ∧
      (if success st && c.flags.testBit flQuiet then y.replies = x.replies
        else y.replies = x.replies ++ [{
          bytes := replyPacket 1 c (le 2 (min c.retries 65535) ++ le 2 (min (x.owed + c.credits) 65535)) st d p, slot := true,
          seq := c.seq }])

/-- R88 (Table 3.5), R92, R93 and R75. -/
def Obligations.SystemCommands : Prop :=
  (∀ sid tag c s, Turn 0x0001 sid tag c s → exec (.echo sid tag) s = .next (complete c stOk dNone c.params (begun c s))) ∧
  (∀ sid tag c s, Turn 0x0002 sid tag c s → exec (.deviceInfo sid tag) s = .next (complete c stOk dNone
    (le 2 0x0D4B ++ [byte s.otp.orderCode, byte s.otp.lifecycle] ++ le 16 s.otp.unitId
      ++ fit 6 (sub (s.upd.slot s.upd.booted).header 12 6) ++ [byte s.upd.booted, byte (bootState s), byte s.otp.antiRollback,
        byte (twinRole s)] ++ le 2 s.otp.stepping ++ le 5 (s.live 0x0400) ++ [byte (infoFlags s)] ++ zeros 2
      ++ le 8 ((s.now - s.boot.resetAt) / ms) ++ zeros 16) (begun c s))) ∧
  (∀ sid tag c s, Turn 0x0003 sid tag c s → exec (.reset sid tag) s = .next (
    if fld c.params 0 1 = 0 ∨ 3 < fld c.params 0 1 then complete c stBadParam dNone [] (begun c s)
    else if zeroAt c.params 1 3 = false then complete c stBadParam dReservedBit [] (begun c s)
    else if fld c.params 0 1 = 3 ∧ c.role < 3 then complete c stNotPermitted dRoleBelow [] (begun c s)
    else if c.flags.testBit flQuiet then complete c stOk dNone [] ((begun c s).modHost (fun h =>
      { h with resetAt := h.resetAt.orElse (fun _ => some (s.now + 10 * ms, resetTypeOf (fld c.params 0 1), 3, c.sid)) }))
    else complete c stOk dNone [] ((begun c s).modHost (fun h =>
      { h with resetWait := h.resetWait ++ [(resetTypeOf (fld c.params 0 1), 3, c.sid, c.seq)] })))) ∧
  (∀ sid tag c s, Turn 0x0004 sid tag c s → exec (.fence sid tag) s = .next (
    if fld c.params 0 1 ≠ 1 ∧ fld c.params 0 1 ≠ 2 then complete c stBadParam dNone [] (begun c s)
    else if zeroAt c.params 1 3 = false then complete c stBadParam dReservedBit [] (begun c s)
    else complete c stOk dNone [] (begun c s)))

/-- R25, R27, R28, R33, R34, R96 and R97; what a failure reply names where no entry is refused is a free value. -/
def Obligations.SettingCommands : Prop :=
  (∀ sid tag c s, Turn 0x0005 sid tag c s → exec (.settingRead sid tag) s = .next (
    match listRefusal c.params 4 with
    | some (st, d, r) => complete c st d r (begun c s)
    | none =>
      let ids := (List.range (fld c.params 0 2)).map (fun i => fld c.params (4 + 4 * i) 2)
      match (List.range (fld c.params 0 2)).find? (fun i => (settingInfo (ids.getD i 0)).isNone) with
      | some i => complete c stBadParam dNone (le 2 i ++ le 2 (ids.getD i 0)) (begun c s)
      | none => complete c stOk dNone (le 2 (fld c.params 0 2) ++ zeros 2 ++ ids.flatMap (fun id => match settingInfo id with
          | some r => readEntry (begun c s) (c.flags.testBit flShadow) id r
          | none => [])) (begun c s))) ∧
  (∀ sid tag c s, Turn 0x0006 sid tag c s → exec (.settingWrite sid tag) s = .next (
    match listRefusal c.params 12 with
    | some (st, d, r) => complete c st d r (begun c s)
    | none =>
      let es := writeEntries c.params
      if s.standby ∧ es.all (fun e => blockOf e.1 == 0x0A) = false then
        complete c stNotLeaseHolder dNone (le 4 (Config.unstated 1 es.length)) (begun c s)
      else match writeRefusal (begun c s) c.role es with
        | some (i, st, d) => complete c st d (le 2 i ++ le 2 (es.getD i (0, 0)).1)
            (if st = stLocked then raiseCE srcSettingLocked [] (begun c s) else begun c s)
        | none => complete c stOk dNone (le 2 es.length ++ zeros 2) (writeSettings es (begun c s)))) ∧
  (∀ sid tag c s, Turn 0x0007 sid tag c s → exec (.settingCommit sid tag) s = .next (
    let b := fld c.params 0 1
    if b = 0 ∨ 0x0C < b then complete c stBadParam dNone [] (begun c s)
    else if zeroAt c.params 1 3 = false then complete c stBadParam dReservedBit [] (begun c s)
    else if s.standby ∧ b ≠ 0x0A then complete c stNotLeaseHolder dNone [] (begun c s)
    else if c.role < blockRole b then complete c stNotPermitted dRoleBelow [] (begun c s)
    else
      let es := snapshot (begun c s) b
      let u := syncShadow ((waitFor c (.commit b) [] (begun c s)).modSet (fun x => { x with pend := x.pend.filter (fun q => q.block != b) }))
      if es = [] then commitDone b (commitReply 0 0 0 none) (if b = 6 then clearPouts u else u)
      else if blockRunning u b then
        u.modSet (fun x => { x with pend := x.pend ++ [{ block := b, entries := es, count := es.length }] })
      else
        let v := es.foldl (fun s e => applySetting e.1 e.2 s) u
        let v := syncShadow (if b = 6 then clearPouts v else v)
        commitDone b (commitReply 3 es.length 0 (some v.time.spanT)) v))

/-- R24, R26, R27 and R32; one statement for each class of write, and for the boundary at which a pending set takes effect. -/
def Obligations.SettingValuesReadBack : Prop :=
  (∀ (id v : Nat) (r : SettingInfo) (s : State), settingInfo id = some r → r.cls = .s →
      (∀ j, (writeOne id v s).live j = s.live j) ∧ (v ≠ s.live id ∨ inPend s.set id = true → (writeOne id v s).shadow id = v)) ∧
  (∀ (id v : Nat) (r : SettingInfo) (s : State), settingInfo id = some r → r.cls ≠ .s →
      (writeOne id v s).live id = v ∧ ∀ j, j ≠ id → (writeOne id v s).live j = s.live j) ∧
  (∀ (id : Nat) (s : State), get? s.set.live id = none →
      s.live id = if id = 0x0111 then ofS 16 s.otp.rtcTrim else match settingInfo id with | some r => r.reset | none => 0) ∧
  (∀ (b : Nat) (cycle : Option Nat) (p : PendSet) (s : State), pendOf s b = some p →
      (∀ id, (applyBlock b cycle s).live id = match p.entries.reverse.find? (fun e => e.1 == id) with
        | some e => e.2
        | none => s.live id) ∧
      (applyBlock b cycle s).set.pend = s.set.pend.filter (fun q => q.block != b)) ∧
  (∀ (b : Nat) (cycle : Option Nat) (s : State), pendOf s b = none → applyBlock b cycle s = s)

/-- R79 to R82, R30: what ends a live command from outside, and the interim reply; an elapsed cycle is 1 s (log entry 48). -/
def Obligations.CancelAndDeadlines : Prop :=
  (∀ sid tag c s, Turn 0x0008 sid tag c s → exec (.cancel sid tag) s = .next (
    if zeroAt c.params 1 3 = false then complete c stBadParam dReservedBit [] (begun c s)
    else match (begun c s).cmd c.sid (fld c.params 0 1) with
      | none => complete c stBadParam dNoSuchTag [] (begun c s)
      | some d =>
        if d.begun = false then complete c stOk dNone [] (complete d stCancelled dNone [] (begun c s))
        else match cancelBegun d (begun c s) with
          | some u => complete c stOk dNone [] u
          | none => complete c stBusy dNone [] (begun c s))) ∧
  (∀ (d : LiveCmd) (s : State), (d.wait = .none ∨ d.wait = .timeStep ∨ d.wait = .spanStart ∨ d.wait = .spanStop ∨ d.wait = .calibrate ∨
      d.wait = .yield) → cancelBegun d s = none) ∧
  (∀ (d : LiveCmd) (s : State), (d.wait = .mesh ∨ d.wait = .flood) →
      cancelBegun d s = some (complete d stCancelled dPartial (partReply d) (dropTxns d.seq s))) ∧
  (∀ (sid tag : Nat) (c : LiveCmd) (s : State), s.fwUp = true →
      s.host.live.find? (fun c => c.sid == sid && c.tag == tag && decide (c.deadline ≤ s.now)) = some c →
      exec (.deadlineExpiry sid tag) s = .next (
        if c.begun = false then complete c stTimeout dNotBegun [] (toRun s)
        else match c.wait with
          | .mesh | .flood | .leave _ | .descriptor _ =>
            complete c stTimeout dMeshPartial (partReply c) (oweLate c true (releaseTaken c.seq (dropUntaken c.seq (toRun s))))
          | .erase => complete c stTimeout dNotBegun [] (toRun s)
          | .none | .commit _ | .join _ | .timeStep | .spanStart | .spanStop | .placement _ | .calibrate | .calibrated _ | .yield | .selftest _ =>
            complete c stTimeout dContinuing [] (oweLate c false (toRun s)))) ∧
  (∀ (sid tag : Nat) (s : State), (∀ c ∈ s.host.live, c.sid = sid → c.tag = tag → s.now < c.deadline) →
      exec (.deadlineExpiry sid tag) s = .next s) ∧
  (∀ (seq : Nat) (s : State), exec (.lateAckWindowExpiry seq) s = .next (
      if ∃ r ∈ s.host.late, r.seq = seq ∧ ∃ t, r.until_ = some t ∧ t ≤ s.now then
        dropTxns seq (s.modHost (fun h => { h with late := h.late.filter (fun r => r.seq != seq) }))
      else s)) ∧
  (∀ (sid tag : Nat) (s : State), exec (.interimReplyTimer sid tag) s = .next (match s.cmd sid tag with
      | some c =>
        if s.fwUp = true ∧ c.sid < 4 ∧ c.interimSent = false ∧ c.flags.testBit flQuiet = false ∧ c.acceptedAt + 10 * ms ≤ s.now then
          pushNotice c.sid (fun n => replyPacket 3 c (le 2 0 ++ le 2 n) stAccepted dNone [])
            (s.modCmd c.seq (fun c => { c with interimSent := true }))
        else s
      | none => s))

/-- R98, R64, R113, R116: each row’s next state. -/
def Obligations.SessionOpening : Prop :=
  (∀ (sid tag : Nat) (c : LiveCmd) (s₀ : State), Turn 0x0009 sid tag c s₀ → exec (.sessionOpen sid tag) s₀ = .next (
      let s := begun c s₀
      let p := c.params
      let phase := fld p 0 1
      let role := fld p 1 1
      let baud := fld p 2 1
      let q := s.host.chals.find? (fun q => q.transport == c.transport)
      let s := if phase = 2 then s.modHost (fun h => { h with chals := h.chals.filter (fun q => q.transport != c.transport) }) else s
      if c.transport = .eth then refuseOpen c stNotPermitted dNone s
      else if phase ≠ 1 ∧ phase ≠ 2 then refuseOpen c stBadParam 0x81 s
      else if !zeroAt p 3 1 ∨ (phase = 1 ∧ !zeroAt p 4 16) then refuseOpen c stBadParam dReservedBit s
      else if role = 0 ∨ 4 < role then refuseOpen c stBadParam dRoleValue s
      else if 6 < baud ∨ (c.transport ≠ .huart ∧ baud ≠ 0) then refuseOpen c stBadParam 0x82 s
      else if phase = 1 then openPhase1 c role baud s
      else openPhase2 c role baud q s)) ∧
  (∀ (t : Transport) (s : State), exec (.challengeExpiry t) s =
      .next (s.modHost (fun h => { h with chals := h.chals.filter (fun q => !(q.transport == t && decide (q.issued + 5 * sec < s.now))) }))) ∧
  (∀ (s : State), exec (.debugChallengeExpiry) s =
      .next (s.modHost (fun h => { h with debugChals := h.debugChals.filter (fun q => decide (s.now ≤ q.issued + 60 * sec)) }))) ∧
  (∀ (s : State), exec (.eventClearChallengeExpiry) s =
      .next (s.modHost (fun h => { h with clearChals := h.clearChals.filter (fun q => decide (s.now ≤ q.issued + 60 * sec)) }))) ∧
  (∀ (s : State), exec (.baudChangeTimer) s =
      .next (match s.host.baudNext with
        | some (code, some t) => if t ≤ s.now then s.modHost (fun h => { h with huartBaud := baudOf code, baudNext := none }) else s
        | _ => s))

/-- R99 to R101, R288, R297: each row’s next state. -/
def Obligations.TimeCommands : Prop :=
  (∀ (sid tag : Nat) (c : LiveCmd) (s₀ : State), Turn 0x0101 sid tag c s₀ → exec (.timeGet sid tag) s₀ = .next (
      let s := begun c s₀
      complete c stOk dNone (encTime s.time.spanT ++ [byte (timeStateCode s.time.state), byte s.time.selected]
        ++ le 4 (if s.mac.running then s.mac.cycle else 0) ++ le 8 s.rtc.ticks
        ++ (if s.utcSec < calRange then encCal (calOfSeconds s.utcSec) else zeros 8)
        ++ le 2 (ofS 16 s.rtc.u) ++ le 2 (b2n s.time.refused)) s)) ∧
  (∀ (sid tag : Nat) (c : LiveCmd) (s₀ : State), Turn 0x0102 sid tag c s₀ → exec (.timeSlew sid tag) s₀ = .next (
      let s := begun c s₀
      let x := toS 64 (fld c.params 0 8)
      let per := if fld c.params 8 4 = 0 then s.live 0x0104 else fld c.params 8 4
      if sec < x.natAbs then fail c stOutOfRange 0x83 s
      else if s.live 0x0103 * per < x.natAbs then fail c stOutOfRange 0x80 s
      else if s.time.state = .locked then fail c stBusy 0x81 s
      else
        let end_ := addNs s.time.spanT ((per * ms : Nat) + x)
        let a := roundDiv (x * 4294967296) (per * 100000)
        complete c stOk dNone (encTime end_) (s.modTime (fun t => { t with slew := some { addend := a, until_ := end_ } })))) ∧
  (∀ (sid tag : Nat) (c : LiveCmd) (s₀ : State), Turn 0x0103 sid tag c s₀ → exec (.timeStep sid tag) s₀ = .next (
      let s := begun c s₀
      match timeStepOf c s with
      | .inr (st, d) => fail c st d s
      | .inl x => doStep x 1 (some c.seq) (waitFor c .timeStep [] s))) ∧
  (∀ (sid tag : Nat) (c : LiveCmd) (s₀ : State), Turn 0x0104 sid tag c s₀ → exec (.timeSourceSet sid tag) s₀ = .next (
      let s := begun c s₀
      if !zeroAt c.params 4 4 then fail c stBadParam dReservedBit s
      else match sourceList ((c.params.take 4).map (·.toNat)) with
        | none => fail c stBadParam dNone s
        | some l =>
          let s := s.modTime (fun t => { t with list := l, refused := false, autoRun := [] })
          let lost := s.time.selected ≠ 0 ∧ !(l.contains s.time.selected)
          let s := if lost then toHoldover s else s
          let s := selectSource (listSelects s) s
          complete c stOk dNone [byte s.time.selected, byte (timeStateCode s.time.state), 0, 0] s)) ∧
  (∀ (s : State), exec (.slewEnd) s =
      .next (match s.time.slew with
        | some w => if w.until_ ≤ s.time.spanT then s.modTime (fun t => { t with slew := none }) else s
        | none => s)) ∧
  (∀ (source : Nat) (s : State), exec (.sourcePreferenceTimer source) s =
      .next (if preferred s source then selectSource source s else s))

/-- R102 to R105: each row’s next state. -/
def Obligations.RtcCommands : Prop :=
  (∀ (sid tag : Nat) (c : LiveCmd) (s₀ : State), Turn 0x0105 sid tag c s₀ → exec (.rtcAlarmSet sid tag) s₀ = .next (
      let s := begun c s₀
      let p := c.params
      let i := fld p 0 1
      let ctl := fld p 1 1
      let mask := fld p 2 1
      let cal := decCal (sub p 4 8)
      let fs := alarmFields mask cal
      if 1 < i then fail c stBadParam dNone s
      else if 7 < ctl ∨ 127 < mask ∨ !zeroAt p 3 1 ∨ !zeroAt p 12 4 ∨ fs.any (fun f => f.1 && f.2.1 != 0) then
        fail c stBadParam dReservedBit s
      else if fs.any (fun f => !f.1 && !(f.2.2.1 ≤ f.2.1 && f.2.1 ≤ f.2.2.2)) then fail c stOutOfRange dNone s
      else
        let a : Alarm :=
          { enable := ctl.testBit 0, catchup := ctl.testBit 1, rearm := ctl.testBit 2, mask := mask, cal := cal,
            fired := false, again := false, latched := none, notBefore := s.utcSec + 1 }
        let s := s.modRtc (fun r => { r with alarms := modAt r.alarms i (fun _ => a) })
        if !s.rtc.valid then complete c stOk 0x81 (zeros 8) s
        else match nextMatch a (s.utcSec + 1) with
          | none => complete c stOk 0x80 (zeros 8) s
          | some t => complete c stOk dNone (if a.enable then encCal (calOfSeconds t) else zeros 8) s)) ∧
  (∀ (sid tag : Nat) (c : LiveCmd) (s₀ : State), Turn 0x0106 sid tag c s₀ → exec (.calendarConvert sid tag) s₀ = .next (
      let s := begun c s₀
      let p := c.params
      let mode := fld p 0 1
      let local_ := (fld p 1 1).testBit 0
      let ticks := fld p 4 8
      let cal := decCal (sub p 12 8)
      if mode = 0 ∨ 3 < mode then fail c stBadParam dNone s
      else if 1 < fld p 1 1 ∨ !zeroAt p 2 2 ∨ !zeroAt p 20 4 ∨ 2 ^ 52 ≤ ticks ∨ (mode = 1 ∧ !zeroAt p 12 8) ∨
          (mode ≠ 1 ∧ (ticks ≠ 0 ∨ cal.weekday ≠ 0)) then fail c stBadParam dReservedBit s
      else if mode = 3 ∧ local_ then fail c stBadParam 0x83 s
      else if mode = 3 ∧ c.role < 2 then fail c stNotPermitted dRoleBelow s
      else if mode = 3 ∧ s.time.selected ≠ 0 then fail c stNotPermitted 0x82 s
      else if mode ≠ 1 ∧ !validCal cal then fail c stInvalidDate dNone s
      else if mode = 1 then
        let u : Int := (ticks / tickHz : Nat)
        let st := localState s.rtc u
        let v := if local_ then u + st.2 * 60 else u
        if inRange u && inRange v then complete c stOk dNone (convertReply ticks (calOfSeconds v.toNat) st) s
        else fail c stOutOfRange dNone s
      else
        let given := calSeconds cal
        let r := if local_ then localToUtc s.rtc given else ((given : Int), false, false)
        if inRange r.1 then
          let s := if mode = 3 then rtcSet given s else s
          complete c stOk (if r.2.1 then 0x80 else if r.2.2 then 0x81 else dNone)
            (convertReply (r.1.toNat * tickHz) (calOfSeconds given) (localState s.rtc r.1)) s
        else fail c stOutOfRange dNone s)) ∧
  (∀ (sid tag : Nat) (c : LiveCmd) (s₀ : State), Turn 0x0107 sid tag c s₀ → exec (.localTimeTableLoad sid tag) s₀ = .next (
      let s := begun c s₀
      let p := c.params
      let n := fld p 2 2
      let bad (i st d : Nat) : State := complete c st d (le 2 i ++ zeros 2) s
      if !offsetOk (toS 16 (fld p 0 2)) then bad 0xFFFF stOutOfRange dNone
      else if 252 < n ∨ p.length ≠ 8 + 16 * n then bad 0xFFFF stBadLength dLengthOpcode
      else if !zeroAt p 4 4 then bad 0xFFFF stBadParam dReservedBit
      else match readTransitions p n 0 none with
        | .inr (i, st, d) => bad i st d
        | .inl l =>
          let s := s.modRtc (fun r => { r with stdOffset := toS 16 (fld p 0 2), transitions := l, shortRecorded := false })
          let s := checkTableShort s
          complete c stOk dNone (le 2 n ++ le 2 (offsetAt s.rtc s.utcSec).2) s)) ∧
  (∀ (sid tag : Nat) (c : LiveCmd) (s₀ : State), Turn 0x0108 sid tag c s₀ → exec (.fallbackTableLoad sid tag) s₀ = .next (
      let s := begun c s₀
      let p := c.params
      let bad (i st d : Nat) : State := complete c st d (le 2 i ++ zeros 2) s
      if fld p 2 2 ≠ 366 then bad 0xFFFF stBadParam 0x81
      else if !zeroAt p 4 4 then bad 0xFFFF stBadParam dReservedBit
      else if !offsetOk (toS 16 (fld p 0 2)) then bad 0xFFFF stOutOfRange dNone
      else match badEntry p 366 0 with
        | some (i, st, d) => bad i st d
        | none =>
          let s := s.modFb (fun f => { f with tableSram := some p, tableVault := some p, tableStore := some p })
          let s := if s.fb.agent = .sequencer then fallbackEval s else s
          complete c stOk dNone (le 4 (crc32c p)) s))

/-- R106 to R108, R121 to R123, R513, Tables 3.18 and 3.20: each row’s next state. -/
def Obligations.PowerQueueAndSelftestCommands : Prop :=
  (∀ (sid tag : Nat) (c : LiveCmd) (s₀ : State), Turn 0x0201 sid tag c s₀ → exec (.powerPolicySet sid tag) s₀ = .next (
      let s := begun c s₀
      let p := c.params
      if fld p 3 1 ≠ 0 then fail c stBadParam dReservedBit s
      else writeAndCommit c [(0x0201, fld p 0 1), (0x0202, fld p 1 1), (0x0203, fld p 2 1), (0x0204, fld p 4 4)] 2 s)) ∧
  (∀ (sid tag : Nat) (c : LiveCmd) (s₀ : State), Turn 0x0202 sid tag c s₀ → exec (.powerStatus sid tag) s₀ = .next (
      let s := begun c s₀
      let s := accountState s
      let p := s.pwr
      let reply := [byte p.opPoint, byte (s.live 0x0201), byte p.lastEntered, byte p.lastAbort, byte (activeDomains s),
        byte (b2n p.backupSeen + 2 * b2n p.pgood)] ++ le 2 p.vcore ++ (p.timeIn.flatMap (fun t => le 8 (t / ms)))
        ++ le 4 p.entries ++ le 4 p.aborts ++ le 4 p.superseded ++ zeros 4
      complete c stOk dNone reply (s.modPwr (fun p => { p with backupSeen := false })))) ∧
  (∀ (sid tag : Nat) (c : LiveCmd) (s₀ : State), Turn 0x0203 sid tag c s₀ → exec (.powerRefusalsRead sid tag) s₀ = .next (
      let s := begun c s₀
      let clear := (fld c.params 0 1).testBit 0
      if fld c.params 0 4 > 1 then fail c stBadParam dReservedBit s
      else if clear ∧ c.role < 2 then fail c stNotPermitted dRoleBelow s
      else
        let p := s.pwr
        let reply := [byte p.lastRefuser] ++ zeros 3 ++ p.abortCounts.flatMap (le 2) ++ p.refusals.flatMap (le 2)
        complete c stOk dNone reply (if clear then s.modPwr (fun p => { p with
          refusals := List.replicate 9 0, abortCounts := List.replicate 4 0 }) else s))) ∧
  (∀ (sid tag : Nat) (c : LiveCmd) (s₀ : State), Turn 0x0C01 sid tag c s₀ → exec (.queueConfig sid tag) s₀ = .next (
      let s := begun c s₀
      let p := c.params
      let q := fld p 0 1
      let n := fld p 1 1
      let hi := fld p 2 1
      let lo := fld p 3 1
      let spill := fld p 4 2
      if !zeroAt p 6 2 then fail c stBadParam dReservedBit s
      else if !((q = 1 ∧ n = 0xFF) ∨ (q = 2 ∧ n ≤ 3)) then fail c stBadParam dNone s
      else if q = 2 ∧ spill ≠ 256 then fail c stOutOfRange dNone s
      else if q = 1 then writeAndCommit c [(0x0C00, hi), (0x0C01, lo), (0x0C02, spill)] 0x0C s
      else writeAndCommit c [(0x0C10 + n, hi), (0x0C14 + n, lo)] 0x0C s)) ∧
  (∀ (sid tag : Nat) (c : LiveCmd) (s₀ : State), Turn 0x0C02 sid tag c s₀ → exec (.queueStatus sid tag) s₀ = .next (
      let s := begun c s₀
      let r := le 2 s.host.intake.length ++ le 2 s.host.inboundPeak ++ [byte (b2n s.hostFlow)] ++ zeros 3
        ++ [0, 1, 2, 3].flatMap (queueEntry s)
      complete c stOk dNone r (s.modHost (fun h => { h with inboundPeak := h.intake.length })))) ∧
  (∀ (sid tag : Nat) (c : LiveCmd) (s₀ : State), Turn 0x0B01 sid tag c s₀ → exec (.selftestRun sid tag) s₀ = .next (
      let s := begun c s₀
      let p := c.params
      let target := fld p 0 1
      let index := fld p 1 1
      let alg := fld p 2 1
      let budget := if fld p 4 4 = 0 then s.live 0x0B03 else fld p 4 4
      if target = 0 ∨ 4 < target ∨ (target = 1 ∧ 31 < index) ∨ alg = 0 ∨ 2 < alg then fail c stBadParam dNone s
      else if !zeroAt p 3 1 ∨ ((target = 2 ∨ target = 4) ∧ index ≠ 0) then fail c stBadParam dReservedBit s
      else if budget < 100 ∨ 20000 < budget then fail c stOutOfRange dNone s
      else if s.bist.active.isSome then fail c stBusy 0x81 s
      else match runUnits s target index with
        | none => fail c stBusy 0x80 s
        | some us =>
          let n := s.bist.nextRun
          let r : TestRun :=
            { number := n, target := target, index := index, algorithm := alg, sliceUs := budget, seq := c.seq,
              started := s.time.spanT, startedNs := s.now, slices := 0, outcome := none, misr := 0, golden := 0,
              failOffset := 0xFFFFFFFF, elapsed := 0, units := us, refusals := 0, cancelled := false }
          waitFor c (.selftest n) [] (s.modBist (fun b => { b with active := some r, nextRun := (n + 1) % 0xFFFF })))) ∧
  (∀ (sid tag : Nat) (c : LiveCmd) (s₀ : State), Turn 0x0B02 sid tag c s₀ → exec (.selftestResult sid tag) s₀ = .next (
      let s := begun c s₀
      let n := fld c.params 0 2
      if !zeroAt c.params 2 2 then fail c stBadParam dReservedBit s
      else match (if n = 0xFFFF then s.bist.runs.getLast? else s.bist.runs.find? (fun r => r.number == n)) with
        | none => fail c stBadParam 0x80 s
        | some r =>
          complete c stOk dNone (le 2 r.number ++ [byte r.target, byte r.index, byte r.algorithm, byte (r.outcome.getD 0)] ++ zeros 2
            ++ encTime r.started ++ zeros 2 ++ le 4 r.misr ++ le 4 r.golden ++ le 4 r.failOffset) s)) ∧
  (∀ (sid tag : Nat) (c : LiveCmd) (s₀ : State), Turn 0x0B03 sid tag c s₀ → exec (.selftestSchedule sid tag) s₀ = .next (
      let s := begun c s₀
      let p := c.params
      if !zeroAt p 3 1 then fail c stBadParam dReservedBit s
      else writeAndCommit c [(0x0B01, fld p 0 2), (0x0B02, fld p 2 1), (0x0B03, fld p 4 4)] 0x0B s))

/-- R23, R197 to R199, R206, R207: each row’s next state. -/
def Obligations.SpanCommands : Prop :=
  (∀ (sid tag : Nat) (c : LiveCmd) (s₀ : State), Turn 0x0301 sid tag c s₀ → exec (.spanStart sid tag) s₀ = .next (
      let s := begun c s₀
      match spanRefusal s with
      | some (st, d) => fail c st d s
      | none => scheduleStart (secAtOrAfter s.spanNs) (waitFor c .spanStart [] s))) ∧
  (∀ (sid tag : Nat) (c : LiveCmd) (s₀ : State), Turn 0x0302 sid tag c s₀ → exec (.spanStop sid tag) s₀ = .next (
      let s := begun c s₀
      let s := s.modMac (fun m => { m with heldStopped := s.fb.cont.any id })
      if s.mac.running then stopSpan (waitFor c .spanStop [] s)
      else complete c stOk dNone (le 4 s.mac.cycle) (stopSpan s))) ∧
  (∀ (lateA : Bool) (lateB : Bool) (misoA : Bytes) (misoB : Bytes) (s : State), exec (.cycleBoundary lateA lateB misoA misoB) s =
      .next (if !s.fwUp then s
        else if s.mac.running then
          (if s.mac.epoch + (s.mac.cycle + 1) * sec ≤ s.spanNs then nextCycle lateA lateB misoA misoB s else s)
        else match s.mac.startAt with
          | some t => if t ≤ stSec s.time.spanT then firstCycle t lateA lateB misoA misoB s else s
          | none => s)) ∧
  (∀ (s : State), exec (.spanAutoStopTimer) s =
      .next (match s.mac.openSince with
        | some t =>
          if t + 60 * sec ≤ s.now ∧ s.fwUp ∧ s.live 0x030A = 1 then stopSpan (s.modMac (fun m => { m with openSince := none })) else s
        | none => s)) ∧
  (∀ (sid tag : Nat) (c : LiveCmd) (s₀ : State), Turn 0x0309 sid tag c s₀ → exec (.regionProfileLoad sid tag) s₀ = .next (
      let s := begun c s₀
      if s.mac.running then fail c stBusy 0x80 s
      else match regionRefusal c.params with
        | some (st, d) => fail c st d s
        | none => complete c stOk dNone (c.params.drop (c.params.length - 4)) (s.modMac (fun m => { m with region := some c.params })))) ∧
  (∀ (sid tag : Nat) (misoA : Bytes) (misoB : Bytes) (c : LiveCmd) (s₀ : State), Turn 0x030B sid tag c s₀ → exec (.radioProfileLoad sid tag misoA misoB) s₀ = .next (
      let s := begun c s₀
      let mask := fld c.params 0 1
      let p := c.params.drop 4
      if s.mac.running then fail c stBusy 0x80 s
      else if mask = 0 then fail c stBadParam dNone s
      else if 3 < mask ∨ !zeroAt c.params 1 3 then fail c stBadParam dReservedBit s
      else match radioRefusal p (s.mac.region.map (fun r => fld r 3 1)) with
        | some d => fail c stBadParam d s
        | none =>
          let a := if mask.testBit 0 then loadPort 0 p misoA s else (s, true)
          let b := if mask.testBit 1 then loadPort 1 p misoB a.1 else (a.1, true)
          if a.2 && b.2 then complete c stOk dNone (p.drop (p.length - 4) ++ [byte mask] ++ zeros 3) b.1
          else fail c stBadParam 0x85 (modPort 0 (fun q => { q with profile := (s.port 0).profile, failed := (s.port 0).failed })
            (modPort 1 (fun q => { q with profile := (s.port 1).profile, failed := (s.port 1).failed }) b.1)))) ∧
  (∀ (sid tag : Nat) (c : LiveCmd) (s₀ : State), Turn 0x030A sid tag c s₀ → exec (.dwellStatus sid tag) s₀ = .next (
      let s := begun c s₀
      match s.mac.region with
      | none => complete c stOk dNone (zeros 8) s
      | some r =>
        let now := s.now / ms
        let chan (k : Nat) := [byte k, 0] ++ le 2 (min 65535 (airSum s (· == k) (fld r 8 4) now / 1000)) ++ le 2 (rgDwell r k)
          ++ le 2 (min 65535 (s.mac.suppressedCh.getD k 0))
        let band (b : Nat) := [byte b, 0] ++ le 2 (min 65535 (s.mac.suppressedSb.getD b 0))
          ++ le 4 (if fld r 12 4 = 0 then 0 else airSum s (fun c => rgBand r c == b) (fld r 12 4 * 1000) now / fld r 12 4)
        complete c stOk dNone ([byte (rgN r), byte (rgS r)] ++ zeros 6 ++ (List.range (rgN r)).flatMap chan
          ++ (List.range (rgS r)).flatMap band) s))

/-- R200 to R205: each row’s next state. The order of LANTERN_ADMIT’s checks and the sending to lanterns without channels are readings named in NOTES.md. -/
def Obligations.LanternCommands : Prop :=
  (∀ (sid tag : Nat) (c : LiveCmd) (s₀ : State), Turn 0x0303 sid tag c s₀ → exec (.lanternAdmit sid tag) s₀ = .next (
      let s := begun c s₀
      let p := c.params
      let n := adLantern c.target
      let eui := fld p 0 8
      let groups := fld p 8 16
      let lat := toS 32 (fld p 24 4)
      let lon := toS 32 (fld p 28 4)
      let update := (fld p 32 1).testBit 0
      let old := s.lan n
      if 2 ^ 127 ≤ groups ∨ 3 < fld p 32 1 ∨ !zeroAt p 33 3 then fail c stBadParam dReservedBit s
      else if lat < -900000000 ∨ 900000000 < lat ∨ lon < -1800000000 ∨ 1800000000 < lon then fail c stOutOfRange dNone s
      else if update ∧ old.isNone then fail c stBadParam dTargetField s
      else if !update ∧ old.isSome then fail c stBusy 0x80 s
      else if s.mac.lanterns.any (fun e => e.1 != n && e.2.eui == eui) then fail c stBadParam 0x81 s
      else if !s.occupied n then fail c stBadParam 0x82 s
      else if update ∧ (match old with | some l => l.eui != eui | none => false) = true then fail c stBadParam 0x83 s
      else
        let s := match old with
          | some l =>
            let s := modLan n (fun l => { l with groups := groups, lat := lat, lon := lon }) s
            if l.groups ≠ groups ∧ l.state ≠ .expected ∧ (reached s c.target).contains n then sendOwn n 0x001C (le 16 groups) s else s
          | none => s.modMac (fun m => { m with lanterns := put m.lanterns n (newLantern eui groups lat lon), topoChanged := true })
        let joined : Bool := match s.lan n with | some l => l.state == .joined | none => false
        if (fld p 32 1).testBit 1 && !joined then waitFor c (.join n) [] s
        else complete c stOk dNone (admitReply s n) s)) ∧
  (∀ (sid tag : Nat) (c : LiveCmd) (s₀ : State), Turn 0x0304 sid tag c s₀ → exec (.lanternRemove sid tag) s₀ = .next (
      let s := begun c s₀
      let p := c.params
      let n := adLantern c.target
      if singleBad s c.target then fail c stBadParam dTargetField s
      else if 1 < fld p 0 1 ∨ !zeroAt p 1 3 then fail c stBadParam dReservedBit s
      else if (fld p 0 1).testBit 0 && reachable s n && (reached s c.target).contains n then
        sendMsg (some c.seq) n 0x0013 true [1] c.deadline (waitFor c (.leave n) (meshWork 1 0) s)
      else complete c stOk dNone [] (removeLantern c.seq n s))) ∧
  (∀ (sid tag : Nat) (c : LiveCmd) (s₀ : State), Turn 0x0305 sid tag c s₀ → exec (.lanternQuery sid tag) s₀ = .next (
      let s := begun c s₀
      let p := c.params
      let mode := fld p 0 1
      let start := fld p 2 2
      let most := fld p 4 2
      if singleBad s c.target then fail c stBadParam dTargetField s
      else if !zeroAt p 1 1 ∨ !zeroAt p 6 2 then fail c stBadParam dReservedBit s
      else if mode = 0 ∨ 2 < mode ∨ most = 0 ∨ 126 < most then fail c stBadParam dNone s
      else if mode = 2 then
        let n := adLantern c.target
        if 4096 ≤ n then fail c stBadParam 0x80 s
        else match s.lan n with
          | some _ =>
            if !(reached s c.target).contains n then complete c stOk dNone (pageHeader 1 0xFFFF ++ lanternEntry s n) s
            else sendMsg (some c.seq) n tyFetch true [] c.deadline (waitFor c (.descriptor n) [] s)
          | none => fail c stBadParam dTargetField s
      else
        let ns := (selected s c.target).filter (fun n => start ≤ n)
        let k := ns.take most
        complete c stOk dNone (pageHeader k.length ((ns.drop most).headD 0xFFFF) ++ k.flatMap (lanternEntry s)) s)) ∧
  (∀ (sid tag : Nat) (c : LiveCmd) (s₀ : State), Turn 0x0306 sid tag c s₀ → exec (.lanternSend sid tag) s₀ = .next (
      let s := begun c s₀
      let p := c.params
      let type := fld p 0 2
      let n := fld p 4 2
      if singleBad s c.target then fail c stBadParam dTargetField s
      else if 1 < fld p 2 1 ∨ !zeroAt p 3 1 ∨ !zeroAt p 6 2 then fail c stBadParam dReservedBit s
      else if type < 0x8000 ∨ type = 0xFFFF then fail c stBadParam 0x80 s
      else if n = 0 ∨ (match s.mac.region with | some _ => sendLimit (phyMode s) | none => 1024) < n ∨ p.length ≠ 8 + n then
        fail c stBadLength dLengthOpcode s
      else
        let ts := reached s c.target
        sendEach c (meshWork ts.length 0) (fun s =>
          ts.foldl (fun s m => sendMsg (some c.seq) m type ((fld p 2 1).testBit 0) (p.drop 8) c.deadline s) s) s)) ∧
  (∀ (sid tag : Nat) (c : LiveCmd) (s₀ : State), Turn 0x0307 sid tag c s₀ → exec (.topologyRead sid tag) s₀ = .next (
      let s := begun c s₀
      let p := c.params
      let most := fld p 2 2
      if 1 < fld p 4 1 ∨ !zeroAt p 5 3 then fail c stBadParam dReservedBit s
      else if most = 0 ∨ 300 < most then fail c stBadParam dNone s
      else
        let ls := sortBy (fun a b => a.lantern < b.lantern || (a.lantern == b.lantern && a.neighbour ≤ b.neighbour))
          (s.mac.links.filter (fun l => fld p 0 2 ≤ l.lantern && (!(fld p 4 1).testBit 0 || l.parent)))
        let k := ls.take most
        complete c stOk dNone (pageHeader k.length (match ls.drop most with | l :: _ => l.lantern | [] => 0xFFFF)
          ++ k.flatMap (topologyEntry s)) s)) ∧
  (∀ (sid tag : Nat) (c : LiveCmd) (s₀ : State), Turn 0x0308 sid tag c s₀ → exec (.floodSend sid tag) s₀ = .next (
      let s := begun c s₀
      let p := c.params
      let type := fld p 0 2
      let n := fld p 4 2
      if !zeroAt p 6 2 then fail c stBadParam dReservedBit s
      else if type < 0x8000 ∨ 0xFFFD < type then fail c stBadParam 0x80 s
      else if 0x7F < fld p 2 1 then fail c stBadParam dNone s
      else if 31 < fld p 3 1 then fail c stOutOfRange dNone s
      else if n = 0 ∨ (match s.mac.region with | some _ => floodLimit (phyMode s) | none => 495) < n ∨ p.length ≠ 8 + n then
        fail c stBadLength dLengthOpcode s
      else
        let f : Flood :=
          { id := 0, owner := some c.seq, type := type, group := fld p 2 1, ttl := if fld p 3 1 = 0 then s.live 0x0306 else fld p 3 1,
            payload := p.drop 8, notBefore := if s.mac.running then asnNow s + 1 else 0, repeats := 0, applyNs := 0 }
        waitFor c .flood [] (queueFlood f s)))

/-- R154 to R160: each row’s next state. -/
def Obligations.PolicyCommands : Prop :=
  (∀ (sid tag : Nat) (c : LiveCmd) (s₀ : State), Turn 0x0401 sid tag c s₀ → exec (.policyLoad sid tag) s₀ = .next (
      let s := begun c s₀
      let r := c.params.drop 4
      let repl := (fld c.params 0 1).testBit 0
      let id := rId r
      if 1 < fld c.params 0 1 ∨ !zeroAt c.params 1 3 then fail c stBadParam dReservedBit s
      else if fld r 41 1 ≤ 8 ∧ fld r 42 1 ≤ 8 ∧ r.length ≠ 60 + 16 * (fld r 41 1 + fld r 42 1) then fail c stBadLength dLengthOpcode s
      else match recordRefusal s r with
        | some (st, d) => fail c st d s
        | none =>
          let old := s.policy id
          if repl ∧ old.isNone then fail c stBadParam 0x89 s
          else if !repl ∧ old.isSome then fail c stBusy 0x80 s
          else if old.isNone ∧ 1024 ≤ s.truss.policies.length then fail c stBusy 0x81 s
          else
            let p := loadedPolicy r old s
            let s := dropPushes id s
            let s := s.modTruss (fun u => { u with
              policies := put u.policies id p, subs := u.subs.filter (fun x => x.policy != some id),
              kept := u.kept.filter (fun k => k.2.1 != id) })
            if homeTier s r = 4 then
              let s := s.modTruss (fun u => { u with fragments := settleEmpty s (settlePolicy s u.fragments p) })
              let s := syncHeads (viaductSub r (ev evPolicyForward (le 4 id ++ le 2 p.version ++ zeros 10) s))
              askEvaluation (complete c stOk dNone (placementReply id (!s.mac.running) s) s)
            else askEvaluation (waitFor c (.placement id) [id] s))) ∧
  (∀ (sid tag : Nat) (c : LiveCmd) (s₀ : State), Turn 0x0402 sid tag c s₀ → exec (.policyRemove sid tag) s₀ = .next (
      let s := begun c s₀
      let id := fld c.params 0 4
      let ids := if id = 0xFFFFFFFF then s.truss.policies.map (·.1) else [id]
      if id ≠ 0xFFFFFFFF ∧ (s.policy id).isNone then fail c stBadParam 0x89 s
      else
        let n := (s.truss.fragments.filter (fun f => ids.contains f.policy && f.tier < 3 && f.state != 7 && f.state != 6)).length
        let s := ids.foldl (fun s i => removePolicy i s) s
        let s := (s.host.live.filter (fun x => x.begun && isPlacement x.wait && ids.contains (wk x 0))).foldl (fun s x =>
          fail x stCancelled dNone s) s
        let s := s.modHost (fun h => { h with late := h.late.filter (fun r => !(ids.any (fun i => r.wait == .placement i))) })
        complete c stOk dNone (le 2 ids.length ++ zeros 2 ++ le 4 n) (askEvaluation s))) ∧
  (∀ (sid tag : Nat) (c : LiveCmd) (s₀ : State), Turn 0x0403 sid tag c s₀ → exec (.policyList sid tag) s₀ = .next (
      let s := begun c s₀
      let q := c.params
      let max_ := fld q 4 1
      if max_ = 0 ∨ 200 < max_ then fail c stBadParam dNone s
      else if !zeroAt q 5 3 then fail c stBadParam dReservedBit s
      else
        let all := s.truss.policies.filter (fun e => fld q 0 4 ≤ e.1)
        let es := all.take max_
        let entry (e : Nat × Policy) : Bytes :=
          let b := placementReply e.1 false s
          le 4 e.1 ++ le 2 e.2.version ++ [byte (rPriority e.2.record), byte (fld e.2.record 6 1), byte (rTrigger e.2.record), byte (fld b 6 1)]
            ++ sub b 8 8 ++ [byte e.2.pin, 0]
        complete c stOk dNone (le 2 s.truss.policies.length ++ le 2 es.length ++ le 4 (match all.drop max_ with | e :: _ => e.1 | [] => 0)
          ++ es.flatMap entry) s)) ∧
  (∀ (sid tag : Nat) (c : LiveCmd) (s₀ : State), Turn 0x0404 sid tag c s₀ → exec (.placementRead sid tag) s₀ = .next (
      let s := begun c s₀
      let q := c.params
      let mode := fld q 0 1
      let key := fld q 2 2
      let pol := fld q 4 4
      if mode = 0 ∨ 5 < mode then fail c stBadParam dNone s
      else if !zeroAt q 1 1 ∨ (mode ≠ 1 ∧ pol ≠ 0) ∨ (mode = 5 ∧ key ≠ 0) then fail c stBadParam dReservedBit s
      else
        let es := placementEntries s mode key pol
        let k := placementLimit mode
        complete c stOk dNone ([byte mode, 0] ++ le 2 (es.take k).length
          ++ le 4 (match es.drop k with | e :: _ => e.1 | [] => 0xFFFFFFFF) ++ (es.take k).flatMap (·.2)) s)) ∧
  (∀ (sid tag : Nat) (c : LiveCmd) (s₀ : State), Turn 0x0405 sid tag c s₀ → exec (.placementPin sid tag) s₀ = .next (
      let s := begun c s₀
      let q := c.params
      let id := fld q 0 4
      let tier := fld q 4 1
      if 4 < tier then fail c stBadParam dNone s
      else if !zeroAt q 5 3 then fail c stBadParam dReservedBit s
      else match s.policy id with
        | none => fail c stBadParam 0x89 s
        | some p =>
          if tier ≠ 0 ∧ tier < homeTier s p.record then fail c stBadParam 0x80 s
          else if 3 ≤ tier ∧ rSurvive p.record then fail c stBadParam 0x81 s
          else askEvaluation (waitFor c (.placement id) [id]
            (s.modTruss (fun u => { u with policies := put u.policies id { p with pin := tier } }))))) ∧
  (∀ (sid tag : Nat) (c : LiveCmd) (s₀ : State), Turn 0x0406 sid tag c s₀ → exec (.placementHold sid tag) s₀ = .next (
      let s := begun c s₀
      let d := fld c.params 0 4
      if 86400 < d then fail c stOutOfRange dNone s
      else
        let endCycle := if s.mac.running then (s.spanNs + d * sec - s.mac.epoch) / sec else 0
        let silent (n : Nat) : Bool := match s.lan n with | some l => l.silent | none => false
        let s := s.modTruss (fun u => { u with
          hold := if d = 0 then none else some (s.now + d * sec, endCycle),
          fragments := if d = 0 then u.fragments else loseSite silent u.fragments })
        complete c stOk dNone (le 4 (if d = 0 then 0 else endCycle) ++ le 4 s.truss.kept.length) s)) ∧
  (∀ (sid tag : Nat) (c : LiveCmd) (s₀ : State), Turn 0x0407 sid tag c s₀ → exec (.sensorSubscribe sid tag) s₀ = .next (
      let s := begun c s₀
      let q := c.params
      let sensor := fld q 0 1
      let unsub := (fld q 1 1).testBit 0
      let interval := fld q 2 2
      let dur := fld q 4 4
      let covered := (reached s c.target).length
      if singleBad s c.target then fail c stBadParam dTargetField s
      else if 1 < fld q 1 1 then fail c stBadParam dReservedBit s
      else if sensor = 0 ∨ 16 < sensor then fail c stBadParam dNone s
      else if 3600 < interval ∨ 604800 < dur then fail c stOutOfRange dNone s
      else
        let mine (u : Subscription) : Bool := u.target == c.target && u.sensor == sensor && u.policy.isNone
        if unsub then
          match s.truss.subs.find? mine with
          | none => fail c stBadParam 0x81 s
          | some u =>
            complete c stOk dNone ([byte u.number, 0] ++ le 2 covered)
              (syncHeads (s.modTruss (fun t => { t with subs := t.subs.filter (fun x => x.number != u.number) })))
        else if 64 ≤ s.truss.subs.length then fail c stBusy 0x80 s
        else
          let n := ((List.range 256).find? (fun k => !(s.truss.subs.any (fun u => u.number == k)))).getD 0
          let u : Subscription :=
            { number := n, target := c.target, sensor := sensor, interval := interval,
              until_ := if dur = 0 then none else some (s.now + dur * sec), last := [], policy := none }
          let s := syncHeads (s.modTruss (fun t => { t with subs := t.subs ++ [u] }))
          complete c stOk dNone ([byte n, 0] ++ le 2 covered) s))

/-- R268 to R273: each row’s next state. -/
def Obligations.LampCommands : Prop :=
  (∀ (sid tag : Nat) (c : LiveCmd) (s₀ : State), Turn 0x0501 sid tag c s₀ → exec (.lampSet sid tag) s₀ = .next (
      let s := begun c s₀
      match lampRefusal c s with
      | some (st, d) => fail c st d s
      | none =>
        let ts := lampTargets s c.target
        let outs := lampLocal s c.target
        sendEach c (meshWork ts.length outs.length) (fun s =>
          ts.foldl (fun s t => sendMsg (some c.seq) t.1 0x0101 true (lampCommand t.2 s c.params) c.deadline s)
            (lampLocally outs c.params s)) s)) ∧
  (∀ (sid tag : Nat) (c : LiveCmd) (s₀ : State), Turn 0x0502 sid tag c s₀ → exec (.sceneDefine sid tag) s₀ = .next (
      let s := begun c s₀
      let p := c.params
      match sceneRefusal p with
      | some (st, d) => fail c st d s
      | none =>
        let k := fld p 0 1
        if (fld p 1 1).testBit 0 then
          let ns := (s.mac.lanterns.filter (fun l => (get? l.2.scenes k).isSome)).map (·.1)
          sendEach c (meshWork ns.length 0) (fun s =>
            ns.foldl (fun s n => sendMsg (some c.seq) n 0x0102 true [byte k, 1, 0, 0] c.deadline s) s)
            (s.modLamp (fun l => { l with scenes := del l.scenes k }))
        else
          let v := s.lamp.sceneVersion + 1
          let x : Scene := { version := v, entries := sceneEntries p }
          let ns := sceneLanterns s x
          let outs := ((sceneChanges s x.entries).flatMap (·.1)).length
          sendEach c (meshWork ns.length outs) (fun s =>
            ns.foldl (fun s n => sendMsg (some c.seq) n 0x0102 true (sceneStore k x n s) c.deadline s) s)
            (s.modLamp (fun l => { l with scenes := put l.scenes k x, sceneVersion := v })))) ∧
  (∀ (sid tag : Nat) (c : LiveCmd) (s₀ : State), Turn 0x0503 sid tag c s₀ → exec (.sceneLaunch sid tag) s₀ = .next (
      let s := begun c s₀
      let p := c.params
      let k := fld p 0 1
      if !zeroAt p 1 3 ∨ !zeroAt p 14 2 then fail c stBadParam dReservedBit s
      else match decTime (sub p 4 10), get? s.lamp.scenes k with
        | none, _ => fail c stBadParam dReservedBit s
        | _, none => fail c stBadParam 0x80 s
        | some t, some x =>
          let q0 := launchCell s
          let tmin := launchMin s k x q0
          let at_ := if zeroAt p 4 10 then tmin else stTotNs t
          if at_ < tmin then complete c stTooSoon dNone (encTime (ofNs tmin)) s
          else
            let id := s.lamp.nextLaunch
            let pay := le 2 id ++ [byte k, 0] ++ encTime (ofNs at_) ++ zeros 2
            let f : Flood :=
              { id := 0, owner := some c.seq, type := 0x0103, group := 0x7F, ttl := sceneDepth s k, payload := pay,
                notBefore := if s.mac.running then q0 else 0, repeats := s.live 0x0507, applyNs := at_ }
            let s := s.modLamp (fun l => { l with
              nextLaunch := (id + 1) % 65536,
              launches := l.launches ++ [{ id := id, scene := k, applyNs := at_, repeats := f.repeats }] })
            waitFor c .flood [] (queueFlood f s))) ∧
  (∀ (sid tag : Nat) (c : LiveCmd) (s₀ : State), Turn 0x0504 sid tag c s₀ → exec (.calibrationLoad sid tag) s₀ = .next (
      let s := begun c s₀
      match calRefusal c s with
      | some (st, d) => fail c st d s
      | none =>
        let es := calEntries c.params
        if isLocal c.target then
          let s := es.foldl (fun s e =>
            let k : CalEntry := { role := fld e 1 1, bin := fld e 2 2, x := fld e 4 2, y := fld e 6 2, flux := fld e 8 2 }
            modCh (fld e 0 1) (fun x => { x with calNext := some k }) s) s
          complete c stOk dNone ([byte es.length, 0] ++ zeros 2) s
        else
          let ts := reached s c.target
          sendEach c (meshWork ts.length 0) (fun s =>
            ts.foldl (fun s n => sendMsg (some c.seq) n 0x0104 true c.params c.deadline s) s) s)) ∧
  (∀ (sid tag : Nat) (c : LiveCmd) (s₀ : State), Turn 0x0505 sid tag c s₀ → exec (.localChannelConfig sid tag) s₀ = .next (
      let s := begun c s₀
      let p := c.params
      let v := fld p 0 4
      let outs := if adGroup c.target = 0x7F then outputs else localOuts s c.target
      let es := outs.map (fun n => (0x0520 + n, v))
      if 2 ≤ fld p 4 1 ∨ !zeroAt p 5 3 then fail c stBadParam dReservedBit s
      else match writeRefusal s c.role es with
        | some (_, st, d) => fail c st d (noteLocked st s)
        | none =>
          let s := if (fld p 4 1).testBit 0 then
              refreshLdEn (s.modLamp (fun l => { l with latched := false, stuck := false, retryAt := none, shutdowns := [] }))
            else s
          commitBlock c 5 (writeSettings es s))) ∧
  (∀ (sid tag : Nat) (c : LiveCmd) (s₀ : State), Turn 0x0506 sid tag c s₀ → exec (.lampStatus sid tag) s₀ = .next (
      let s := begun c s₀
      let p := c.params
      let start := fld p 0 2
      let mx := fld p 2 2
      if mx = 0 ∨ 64 < mx then fail c stBadParam dNone s
      else if !zeroAt p 4 4 then fail c stBadParam dReservedBit s
      else
        let loc := isLocal c.target
        let ids := (if loc then localOuts s c.target else selected s c.target).filter (start ≤ ·)
        let k := ids.take mx
        let l := s.lamp
        complete c stOk dNone (le 2 k.length ++ le 2 (match ids[mx]? with | some n => n | none => 0xFFFF)
          ++ [byte (b2n l.ldEn + 2 * b2n l.latched + 4 * b2n l.faultLow + 8 * b2n l.phaseUnlocked)] ++ zeros 3
          ++ k.flatMap (if loc then outEntry s else lanternLampEntry s)) s))

/-- R358 to R365: each row’s next state. -/
def Obligations.MeterCommands : Prop :=
  (∀ (sid tag : Nat) (c : LiveCmd) (s₀ : State), Turn 0x0601 sid tag c s₀ → exec (.meterConfig sid tag) s₀ = .next (
      let s := begun c s₀
      if !zeroAt c.params 3 1 ∨ !zeroAt c.params 6 2 then fail c stBadParam dReservedBit s
      else match writeRefusal s c.role (meterEntries c.params) with
        | some (_, st, d) => fail c st d (noteLocked st s)
        | none =>
          let s := writeSettings (meterEntries c.params) s
          complete c stOk dNone (le 4 s.meter.metrology) s)) ∧
  (∀ (sid tag : Nat) (c : LiveCmd) (s₀ : State), Turn 0x0602 sid tag c s₀ → exec (.meterRead sid tag) s₀ = .next (
      let s := begun c s₀
      let m := s.meter
      let none_ : MeterSec :=
        { time := 0, interpolated := false, filled := false, frequency := 0, phases := [default, default, default], neutral := 0,
          residual := 0 }
      let x := m.last.getD none_
      let flags := b2n m.present + 2 * b2n x.interpolated + 4 * b2n x.filled + 8 * b2n s.standby + 16 * b2n m.active
      let excess := ((m.pouts.zip [1, 2, 4, 8]).map (fun o => b2n o.1.overflow * o.2)).sum
      complete c stOk dNone (encTime x.time ++ le 2 flags ++ le 2 x.frequency ++ zeros 2
        ++ (totalBlock x.phases :: x.phases).flatMap meterBlock ++ le 4 x.neutral ++ le 4 x.residual
        ++ m.pouts.flatMap (fun o => le 2 o.backlog) ++ [byte excess] ++ zeros 3) s)) ∧
  (∀ (sid tag : Nat) (c : LiveCmd) (s₀ : State), Turn 0x0603 sid tag c s₀ → exec (.energyRead sid tag) s₀ = .next (
      let s := begun c s₀
      let m := s.meter
      let flags := b2n s.standby + 2 * b2n m.saveIncomplete + 4 * b2n m.restored + 8 * b2n m.filledSince
      complete c stOk dNone (encTime s.time.spanT ++ le 2 flags ++ le 4 (max m.copyA.generation m.copyB.generation) ++ le 4 m.metrology
        ++ zeros 4 ++ m.regs.flatMap (fun r => le 8 (r / 2 ^ 32) ++ le 4 (r % 2 ^ 32) ++ le 4 (regView r))
        ++ m.regs.map (fun r => byte (regWraps r)) ++ zeros 4) s)) ∧
  (∀ (sid tag : Nat) (c : LiveCmd) (s₀ : State), Turn 0x0604 sid tag c s₀ → exec (.pulseOutputAssign sid tag) s₀ = .next (
      let s := begun c s₀
      let p := c.params
      let k := fld p 0 1
      let flags := fld p 2 1
      if 3 < flags ∨ !zeroAt p 3 1 ∨ !zeroAt p 10 2 then fail c stBadParam dReservedBit s
      else if 3 < k then fail c stBadParam dNone s
      else
        let inv := s.shadow 0x064C
        let inv' := if inv.testBit k = flags.testBit 1 then inv else inv ^^^ 2 ^ k
        let es := [(0x0640 + k, fld p 1 1), (0x0644 + k, fld p 4 4), (0x0648 + k, fld p 8 2), (0x064C, inv')]
        match writeRefusal s c.role es with
        | some (_, st, d) => fail c st d (noteLocked st s)
        | none =>
          let s := if flags.testBit 0 then
              s.modMeter (fun m => { m with pouts := modAt m.pouts k (fun o => { o with clearAt := true }) }) else s
          commitBlock c 6 (writeSettings es s))) ∧
  (∀ (sid tag : Nat) (c : LiveCmd) (s₀ : State), Turn 0x0605 sid tag c s₀ → exec (.pulseInputRead sid tag) s₀ = .next (
      let s := begun c s₀
      if 1 < fld c.params 0 1 ∨ !zeroAt c.params 1 3 then fail c stBadParam dReservedBit s
      else if fld c.params 0 1 = 1 ∧ c.role < 2 then fail c stNotPermitted dRoleBelow s
      else
        let r := [0, 1, 2, 3].flatMap (pinEntry s)
        let s := if fld c.params 0 1 = 1 then
            [1, 2, 3, 4].foldl (fun s j => modJoint j (fun x => { x with lost := 0, lostRecorded := 0, overrun := false }) s) s
          else s
        complete c stOk dNone r s)) ∧
  (∀ (sid tag : Nat) (c : LiveCmd) (s₀ : State), Turn 0x0606 sid tag c s₀ → exec (.reconcileRead sid tag) s₀ = .next (
      let s := begun c s₀
      let start := fld c.params 0 4
      let n := fld c.params 4 1
      if !zeroAt c.params 5 3 then fail c stBadParam dReservedBit s
      else if n = 0 ∨ 48 < n then fail c stBadParam dNone s
      else
        let all := s.meter.results
        let k := if start = 0xFFFFFFFF then all.drop (all.length - n) else (all.filter (fun r => start ≤ r.window)).take n
        complete c stOk dNone (le 2 k.length ++ le 2 all.length ++ zeros 4 ++ k.flatMap reconEntry) s)) ∧
  (∀ (sid tag : Nat) (c : LiveCmd) (s₀ : State), Turn 0x0607 sid tag c s₀ → exec (.meterCalibrate sid tag) s₀ = .next (
      let s := begun c s₀
      let p := c.params
      let mode := fld p 0 1
      let ph := fld p 1 1
      let n := fld p 2 2
      if mode ≠ 1 ∧ mode ≠ 2 then fail c stBadParam dNone s
      else if !zeroAt p 16 4 ∨ (mode = 2 ∧ !zeroAt p 4 12) then fail c stBadParam dReservedBit s
      else if mode = 1 ∧ (ph = 0 ∨ 3 < ph) then fail c stBadParam dNone s
      else if n = 0 ∨ 60 < n then fail c stOutOfRange dNone s
      else if !s.meter.active then fail c stBusy 0x80 s
      else
        let k : Calib :=
          { seq := c.seq, mode := mode, phase := ph, left := n, refV := fld p 4 4, refI := fld p 8 4,
            refAngle := toS 32 (fld p 12 4), samples := [], means := [], rms := [] }
        waitFor c .calibrate [] (s.modMeter (fun m => { m with calib := m.calib ++ [k] }))))

/-- R480 to R499: each row’s next state. -/
def Obligations.UpdateCommands : Prop :=
  (∀ (sid tag : Nat) (c : LiveCmd) (s₀ : State), Turn 0x0701 sid tag c s₀ → exec (.updateBegin sid tag) s₀ = .next (
      let s := begun c s₀
      let p := c.params
      let h := p.drop 4
      if 2 ≤ fld p 0 4 then fail c stBadParam dReservedBit s
      else if s.inTrial then fail c stBusy 0x84 s
      else match headerRefusal h (privilegedChannel c s) true s with
        | some (st, d) => if st = stAuthFailed then noteAuth c.opcode c.sid (fail c st d s) else fail c st d s
        | none =>
          let fresh (s : State) : State :=
            let t := inactive s
            complete c stOk dNone (beginReply h 0)
              (ev evUpdateBegun (hdrVersion h ++ [byte (hdrCounter h), byte t]) (newSessionUpd h t s))
          match s.upd.session with
          | none => fresh s
          | some x =>
            if x.header = h then complete c stOk dNone (beginReply h x.bitmap.length) s
            else if (fld p 0 1).testBit 0 then fresh s
            else fail c stBusy 0x80 s)) ∧
  (∀ (sid tag : Nat) (c : LiveCmd) (s₀ : State), Turn 0x0702 sid tag c s₀ → exec (.updateFragment sid tag) s₀ = .next (
      let s := begun c s₀
      if !zeroAt c.params 4 4 then fail c stBadParam dReservedBit s else storeFragment c s)) ∧
  (∀ (sid tag : Nat) (c : LiveCmd) (s₀ : State), Turn 0x0703 sid tag c s₀ → exec (.updateStatus sid tag) s₀ = .next (
      let s := begun c s₀
      let s := s.modUpd (fun u => { u with session := u.session.map (fun x => { x with decrypted := decryptedNow s x }) })
      let u := s.upd
      let target := match u.session, u.boot.trial with
        | some x, _ => x.target
        | none, some (k, _) => k
        | none, none => if u.state = .failed then inactive s else 0xFF
      let trialBoot := match u.boot.trial with | some (_, n) => n | none => 0
      let h := match u.session, u.boot.trial with
        | some x, _ => x.header
        | none, some (k, _) => (u.slot k).header
        | none, none => []
      let x := u.session.getD { header := [], target := 0, bitmap := [], erased := 0, decrypted := 0, lastStored := 0 }
      complete c stOk dNone ([byte (updCode u.state), byte u.detail, byte target, byte trialBoot] ++ le 4 (hdrFrags x.header)
        ++ le 4 x.bitmap.length ++ le 2 x.erased ++ le 2 x.decrypted ++ hdrVersion h ++ [byte (hdrCounter h), 0]
        ++ le 4 (trialTime s / sec) ++ zeros 4) s)) ∧
  (∀ (sid tag : Nat) (c : LiveCmd) (s₀ : State), Turn 0x0704 sid tag c s₀ → exec (.updateActivate sid tag) s₀ = .next (
      let s := begun c s₀
      if !zeroAt c.params 0 4 then fail c stBadParam dReservedBit s
      else match s.upd.session with
        | none => fail c stBusy 0x82 s
        | some x =>
          if s.upd.state ≠ .ready then fail c stBusy 0x82 s
          else if applySoon s then fail c stBusy 0x83 s
          else
            let s := rewrap x.target s
            let s := s.modUpd (fun u => { u with
              boot := { u.boot with trial := some (x.target, 0), trialNs := 0, trialSince := s.now, revert := 0 } })
            let s := ev evUpdateActivated (hdrVersion x.header ++ [byte x.target]) s
            complete c stOk dNone ([byte x.target] ++ zeros 3) (awaitReset c 3 5 s))) ∧
  (∀ (sid tag : Nat) (c : LiveCmd) (s₀ : State), Turn 0x0705 sid tag c s₀ → exec (.updateConfirm sid tag) s₀ = .next (
      let s := begun c s₀
      if !zeroAt c.params 0 4 then fail c stBadParam dReservedBit s
      else match s.upd.boot.trial with
        | none => fail c stBadParam 0x8A s
        | some (k, n) =>
          if n = 0 then fail c stBadParam 0x8A s
          else
            let h := (s.upd.slot k).header
            let s := modSlot k (fun g => { g with confirmed := true }) s
            let s := s.modUpd (fun u => { u with
              state := .idle, detail := 0, boot := { u.boot with active := k, trial := none, trialNs := 0, revert := 0 },
              storeFormat := match u.migrated with | some m => m.2 | none => u.storeFormat, copy1 := none, migrated := none })
            let s := s.modSec (fun x => { x with slots2 := none })
            let s := s.modOtp (fun o => { o with antiRollback := max o.antiRollback (hdrCounter h) })
            complete c stOk dNone ([byte s.otp.antiRollback] ++ zeros 3)
              (ev evUpdateConfirmed (hdrVersion h ++ [byte s.otp.antiRollback]) s))) ∧
  (∀ (sid tag : Nat) (c : LiveCmd) (s₀ : State), Turn 0x0706 sid tag c s₀ → exec (.updateAbort sid tag) s₀ = .next (
      let s := begun c s₀
      if !zeroAt c.params 0 4 then fail c stBadParam dReservedBit s
      else match s.upd.state with
        | .idle => complete c stOk dNone [] s
        | .trial =>
          complete c stOk dNone [] (awaitReset c 3 5 (s.modUpd (fun u => { u with boot := { u.boot with revert := 3 } })))
        | _ => complete c stOk dNone [] (dropSession s))) ∧
  (∀ (sid tag : Nat) (c : LiveCmd) (s₀ : State), Turn 0x0707 sid tag c s₀ → exec (.lanternImageStage sid tag) s₀ = .next (
      let s := begun c s₀
      let p := c.params
      let op := fld p 0 1
      let id := fld p 4 4
      if op = 0 ∨ 3 < op then fail c stBadParam 0x82 s
      else if p.length ≠ (if op = 3 then 8 else if op = 1 then 72 else max 17 (min 1040 p.length)) then fail c stBadLength dLengthOpcode s
      else if !zeroAt p 1 3 ∨ (op = 2 ∧ !zeroAt p 12 4) then fail c stBadParam dReservedBit s
      else if op = 1 then
        let h := p.drop 8
        if id ≠ 0 then fail c stBadParam dNone s
        else if fld h 0 4 ≠ 0x4D494C44 ∨ fld h 4 2 ≠ 1 ∨ !zeroAt h 6 2 ∨ !zeroAt h 18 2 ∨ imgLen h = 0 ∨ 8388608 < imgLen h ∨ !zeroAt h 56 8 then
          fail c stImageBad 0x80 s
        else if 16 ≤ s.upd.images.length ∨ 25165824 < ((s.upd.images.map (fun i => imgLen i.header)).sum + imgLen h)
            ∨ 0xFFFFFFFE < s.upd.nextImage then fail c stBusy 0x80 s
        else
          let i : LanImage := { id := s.upd.nextImage, header := h, frags := [], state := 0 }
          complete c stOk dNone (imageReply i)
            (s.modUpd (fun u => { u with images := u.images ++ [i], nextImage := u.nextImage + 1 }))
      else match s.image id with
        | none => fail c stBadParam dNone s
        | some i =>
          if op = 3 then
            if s.upd.rollouts.any (fun r => r.active && r.image == id) then fail c stBusy 0x81 s
            else complete c stOk dNone (imageReply i) (s.modUpd (fun u => { u with images := u.images.filter (fun x => x.id != id) }))
          else
            let k := fld p 8 4
            let d := p.drop 16
            if imgFrags i.header ≤ k ∨ d.length ≠ fragLen (imgLen i.header) k then fail c stBadParam 0x83 s
            else if (get? i.frags k).isSome then complete c stOk dNone (imageReply i) s
            else
              let i := { i with frags := put i.frags k d }
              let i := if i.frags.length = imgFrags i.header then
                  { i with state := if sha256 i.payload = sub i.header 24 32 then 1 else 2 } else i
              complete c stOk dNone (imageReply i)
                (s.modUpd (fun u => { u with images := u.images.map (fun x => if x.id = id then i else x) })))) ∧
  (∀ (sid tag : Nat) (c : LiveCmd) (s₀ : State), Turn 0x0708 sid tag c s₀ → exec (.lanternImageRollout sid tag) s₀ = .next (
      let s := begun c s₀
      let p := c.params
      let op := fld p 0 1
      let par := fld p 2 2
      let id := fld p 4 4
      if op = 0 ∨ 3 < op then fail c stBadParam dNone s
      else if !zeroAt p 1 1 then fail c stBadParam dReservedBit s
      else if 512 < par then fail c stOutOfRange dNone s
      else match s.image id with
        | none => fail c stBadParam dNone s
        | some i =>
          if op = 1 then
            if i.state ≠ 1 ∨ singleBad s c.target then fail c stBadParam (if i.state ≠ 1 then dNone else dTargetField) s
            else if 4 ≤ (s.upd.rollouts.filter (·.active)).length ∨ s.upd.rollouts.any (fun r => r.active && r.image == id) then
              fail c stBusy 0x82 s
            else
              let r : Rollout :=
                { image := id, parallel := if par = 0 then s.live 0x0702 else par,
                  targets := (reached s c.target).map (fun n => (n, if reportsVersion s i n then 3 else 0, 0)), aborted := false,
                  done := false, caches := [] }
              let s := s.modUpd (fun u => { u with rollouts := (u.rollouts.filter (fun q => q.image != id)) ++ [r] })
              progressRollouts (complete c stOk dNone (rolloutReply r) s)
          else match s.upd.rollouts.find? (fun r => r.image == id) with
            | none => fail c stBadParam dNone s
            | some r =>
              if op = 2 then
                complete c stOk dNone (rolloutReply r) (s.modUpd (fun u => { u with rollouts := u.rollouts.map (fun q =>
                  if q.image = id then { q with aborted := !q.done || q.aborted, caches := [] } else q) }))
              else complete c stOk dNone (rolloutReply r) s))

/-- R109 to R113, R463, R464: each row’s next state. -/
def Obligations.SecurityCommands : Prop :=
  (∀ (sid tag : Nat) (c : LiveCmd) (s₀ : State), Turn 0x0801 sid tag c s₀ → exec (.keyLoad sid tag) s₀ = .next (
      let s := begun c s₀
      let k := decKeyLoad c.params
      match keyLoadRefusal c s with
      | some (st, d) => fail c st d s
      | none =>
        if k.method = 1 then
          match s.slotRec k.kek with
          | none => fail c stBadParam dNone s
          | some r =>
            if bits r.attr 23 16 = 3 then loadUnder c k (some r.key) (useKey k.kek s)
            else fail c stInternal dNone (keystoneMisuse s)
        else if anchorRefuses k s then noteAuth 0x0801 c.sid (fail c stAuthFailed 0x82 s)
        else loadUnder c k (ecdhKek k s) (stoneUnitKa s))) ∧
  (∀ (sid tag : Nat) (c : LiveCmd) (s₀ : State), Turn 0x0802 sid tag c s₀ → exec (.keyRetire sid tag) s₀ = .next (
      let s := begun c s₀
      let slot := fld c.params 0 2
      if !zeroAt c.params 2 2 then fail c stBadParam dReservedBit s
      else if s.inTrial then fail c stBusy 0x84 s
      else if 4351 < slot then fail c stBadParam dNone s
      else if !s.occupied slot then fail c stBadParam 0x80 s
      else noteKeyless (complete c stOk dNone [] (ev evKeyRetired (le 2 slot) (retireSlot slot s))))) ∧
  (∀ (sid tag : Nat) (c : LiveCmd) (s₀ : State), Turn 0x0803 sid tag c s₀ → exec (.lifecycleAdvance sid tag) s₀ = .next (
      let s := begun c s₀
      match lifecycleRefusal c s with
      | some (st, d) => if st = stAuthFailed then noteAuth 0x0803 c.sid (fail c st d s) else fail c st d s
      | none =>
        let to_ := fld c.params 0 1
        let s := awaitReset c 3 6 (s.modSec (fun k => { k with advance := some (to_, c.seq) }))
        let s := complete c stOk dNone ([byte to_] ++ zeros 3) s
        if c.flags.testBit flQuiet then advanceLife to_ s else s)) ∧
  (∀ (sid tag : Nat) (c : LiveCmd) (s₀ : State), Turn 0x0804 sid tag c s₀ → exec (.tamperPolicySet sid tag) s₀ = .next (
      let s := begun c s₀
      let src := fld c.params 0 1
      let pol := fld c.params 1 1
      if !zeroAt c.params 2 2 then fail c stBadParam dReservedBit s
      else if src = 0 ∨ 8 < src ∨ pol = 0 ∨ 3 < pol then fail c stBadParam dNone s
      else if src = 7 then fail c stBadParam 0x80 s
      else
        let old := (s.tamperSrc src).policy
        let s := modTamper src (fun t => { t with policy := pol }) s
        let s := if old = pol then s
          else ev evTamperPolicyChanged [byte src, byte old, byte pol] (logTamper (tamperEntry src pol s) s)
        complete c stOk dNone [] s)) ∧
  (∀ (sid tag : Nat) (c : LiveCmd) (s₀ : State), Turn 0x0805 sid tag c s₀ → exec (.debugUnlock sid tag) s₀ = .next (
      let s := begun c s₀
      let p := c.params
      if (s.otp.lifecycle ≠ lcTest ∧ s.otp.lifecycle ≠ lcReturn) ∨ c.transport = .dbg then fail c stNotPermitted dLifecycle s
      else if fld p 0 1 ≠ 1 ∧ fld p 0 1 ≠ 2 then fail c stBadParam dNone s
      else if p.length ≠ (if fld p 0 1 = 1 then 4 else 132) then fail c stBadLength dLengthOpcode s
      else if !zeroAt p 1 3 then fail c stBadParam dReservedBit s
      else if fld p 0 1 = 1 then unlockPhase1 c s
      else unlockPhase2 c s)) ∧
  (∀ (sid tag : Nat) (c : LiveCmd) (s₀ : State), Turn 0x0806 sid tag c s₀ → exec (.securityStatus sid tag) s₀ = .next (
      let s := begun c s₀
      let s := settleAuth s
      let flags := b2n s.keyless + 2 * b2n s.debugEnabled + 4 * b2n s.testRoot
      let src (t : TamperSrc) : Byte := byte (t.policy + 4 * b2n t.active + 8 * b2n t.latched)
      let r := [byte s.otp.lifecycle, byte flags] ++ le 2 (occupiedCount s) ++ le 4 s.sec.epoch ++ [byte s.otp.antiRollback]
        ++ zeros 3 ++ fit 8 (s.sec.tamper.map src) ++ zeros 4
      complete c stOk dNone r (s.modSec (fun k => { k with tamper := k.tamper.map (fun t => { t with latched := false }) }))))

/-- R114 to R120: each row’s next state. -/
def Obligations.FaultAndTwinCommands : Prop :=
  (∀ (sid tag : Nat) (c : LiveCmd) (s₀ : State), Turn 0x0901 sid tag c s₀ → exec (.faultStatus sid tag) s₀ = .next (
      let s := begun c s₀
      let es := pendingSorted s
      let next := match es with | [] => 0xFFFFFFFF | e :: _ => usTo s e.deadline
      complete c stOk dNone ([byte es.length] ++ zeros 3 ++ le 4 s.par.ceCount ++ le 4 s.par.ucCount ++ le 4 next
        ++ es.flatMap (fun e => le 2 e.source ++ le 2 e.merged ++ le 4 (usTo s e.deadline) ++ le 4 e.cycle
          ++ le 2 (faultCode e.source) ++ zeros 2)) s)) ∧
  (∀ (sid tag : Nat) (c : LiveCmd) (s₀ : State), Turn 0x0902 sid tag c s₀ → exec (.faultAck sid tag) s₀ = .next (
      let s := begun c s₀
      let src := fld c.params 0 2
      if !zeroAt c.params 2 2 then fail c stBadParam dReservedBit s
      else if src = 0xFFFF then ackReply c ((pendingSorted s).foldl (fun s e => ackFault e.source s) s)
      else if s.par.pending.any (fun e => e.source == src) then ackReply c (ackFault src s)
      else fail c stBadParam 0x80 s)) ∧
  (∀ (sid tag : Nat) (c : LiveCmd) (s₀ : State), Turn 0x0903 sid tag c s₀ → exec (.eventRead sid tag) s₀ = .next (
      let s := begun c s₀
      let p := c.params
      let n := fld p 4 1
      if n = 0 ∨ 126 < n then fail c stBadParam 0x80 s
      else
        let sel (r : EventRec) : Bool :=
          fld p 0 4 ≤ r.index && fld p 5 1 ≤ r.severity && (fld p 6 2 == 0xFFFF || fld p 6 2 == r.code)
        let rs := (s.par.records.filter sel).take n
        let first := match rs with | r :: _ => r.index | [] => s.par.nextIndex
        complete c stOk dNone (le 4 first ++ le 4 s.par.oldest ++ le 4 s.par.nextIndex ++ le 2 rs.length ++ zeros 2
          ++ rs.flatMap recBytes) s)) ∧
  (∀ (sid tag : Nat) (c : LiveCmd) (s₀ : State), Turn 0x0904 sid tag c s₀ → exec (.eventClear sid tag) s₀ = .next (
      let s := begun c s₀
      let p := c.params
      if fld p 0 1 ≠ 1 ∧ fld p 0 1 ≠ 2 then fail c stBadParam dNone s
      else if p.length ≠ (if fld p 0 1 = 1 then 4 else 136) then fail c stBadLength dLengthOpcode s
      else if !zeroAt p 1 3 then fail c stBadParam dReservedBit s
      else if fld p 0 1 = 1 then clearPhase1 c s
      else clearPhase2 c s)) ∧
  (∀ (sid tag : Nat) (c : LiveCmd) (s₀ : State), Turn 0x0905 sid tag c s₀ → exec (.eventRateSet sid tag) s₀ = .next (
      let s := begun c s₀
      let p := c.params
      let code := fld p 0 2
      let burst := fld p 2 1
      let refill := fld p 4 4
      if !zeroAt p 3 1 ∨ (refill = 0 ∧ burst ≠ 0) then fail c stBadParam dReservedBit s
      else if rateExempt code then fail c stBadParam 0x80 s
      else if refill = 0 then complete c stOk dNone [] (setRate code 8 10000 s)
      else if burst = 0 ∨ refill < 100 ∨ 86400000 < refill then fail c stOutOfRange dNone s
      else complete c stOk dNone [] (setRate code burst refill s))) ∧
  (∀ (sid tag : Nat) (c : LiveCmd) (s₀ : State), Turn 0x0906 sid tag c s₀ → exec (.faultInject sid tag) s₀ = .next (
      let s := begun c s₀
      let p := c.params
      match injectRefusal p with
      | some (st, d) => fail c st d s
      | none =>
        let l := (List.range (fld p 3 1)).map (fun k : Nat =>
          ({ source := fld p 0 2, cls := fld p 2 1, at_ := s.now + (fld p 4 4 + k) * ms } : Injection))
        complete c stOk dNone [] (s.modPar (fun q => { q with injections := q.injections ++ l })))) ∧
  (∀ (sid tag : Nat) (c : LiveCmd) (s₀ : State), Turn 0x0A01 sid tag c s₀ → exec (.twinStatus sid tag) s₀ = .next (
      let s := begun c s₀
      let t := s.twin
      complete c stOk dNone ([byte (twinRole s), byte (linkCode t.link), byte (b2n t.leaseOut + 2 * b2n t.leaseIn), 0]
        ++ le 4 (health s) ++ le 4 t.peerHealth ++ le 4 (t.renewCycle.getD 0xFFFFFFFF) ++ le 4 (min ((s.now - t.renewedAt) / ms) 0xFFFFFFFF)
        ++ le 4 (s.live 0x0A01) ++ le 4 (t.copyCycle.getD 0xFFFFFFFF) ++ le 4 t.copySize ++ le 4 t.crcErrors ++ le 4 t.takeovers
        ++ le 4 (ofS 32 t.disagreement)) s)) ∧
  (∀ (sid tag : Nat) (c : LiveCmd) (s₀ : State), Turn 0x0A02 sid tag c s₀ → exec (.twinConfig sid tag) s₀ = .next (
      let s := begun c s₀
      let p := c.params
      let flags := fld p 4 1
      if 3 < flags ∨ !zeroAt p 5 3 then fail c stBadParam dReservedBit s
      else writeAndCommit c [(0x0A01, fld p 0 4), (0x0A00, flags % 2), (0x0A02, flags / 2)] 0x0A s)) ∧
  (∀ (sid tag : Nat) (c : LiveCmd) (s₀ : State), Turn 0x0A03 sid tag c s₀ → exec (.leaseYield sid tag) s₀ = .next (
      let s := begun c s₀
      if 1 < fld c.params 0 1 ∨ !zeroAt c.params 1 3 then fail c stBadParam dReservedBit s
      else if fld c.params 0 1 = 0 ∧ !cleanWord s.twin.peerHealth then fail c stBusy 0x80 s
      else waitFor c .yield [] (s.modTwin (fun t => { t with yielding := true, yieldSent := false }))))

/-- R56 to R60: each row’s next state and the meaning of what it calls. -/
def Obligations.WindowCommands : Prop :=
  (∀ (w : Word32) (s : State), exec (.winInPush w) s =
      .next (hspiWrite 0x08 w s)) ∧
  (∀ (s : State), exec (.winOutPop) s =
      .next (hspi (hspiTransaction ([0x0B, 0x0C] ++ zeros 5)) s)) ∧
  (∀ (s : State), exec (.abortIn) s =
      .next (hspiWrite 0x04 0x80000000 s)) ∧
  (∀ (w : Word32) (s : State), exec (.winStatusW1c w) s =
      .next (hspiWrite 0x04 w s)) ∧
  (∀ (w : Word32) (s : State), exec (.winIrqCauseW1c w) s =
      .next (hspiWrite 0x18 w s)) ∧
  (∀ (offset : Nat) (w : Word32) (s : State), exec (.registerWrite offset w) s =
      .next (hspiWrite offset w s)) ∧
  (∀ (command : Byte) (rest : Bytes) (s : State), exec (.hspiTransactionIgnored command rest) s =
      .next (hspi (hspiTransaction (command :: rest)) s)) ∧
  (∀ (f : State → State) (s : State), hspi f s = (
      onBank 1 (fun s => f (wakeUp 5 s)) s)) ∧
  (∀ (offset : Nat) (w : Word32) (s : State), hspiWrite offset w s = (
      hspi (hspiTransaction ([0x02, byte offset] ++ le 4 w.toNat)) s)) ∧
  (∀ (mosi : Bytes) (s : State), hspiTransaction mosi s = (
      let (s, miso) := hspiBytes mosi s
      s.modOut (fun o => { o with hspi := o.hspi ++ [miso] }))) ∧
  (∀ (mosi : Bytes) (s : State), hspiBytes mosi s = (
      let cmd := fld mosi 0 1
      let addr := fld mosi 1 1
      if mosi.length < 2 ∨ !isReg addr then (s, zeros mosi.length)
      else if cmd = 0x02 then (writeGroups (mosi.length / 4) addr (mosi.drop 2) s, [])
      else if cmd = 0x03 then readGroups (mosi.length / 4 + 1) addr (mosi.length - 2) s
      else if cmd = 0x0B then readGroups (mosi.length / 4 + 1) addr (mosi.length - 3) s
      else (s, zeros mosi.length))) ∧
  (∀ (k : Nat) (f : State → State) (s : State), onBank k f s = (
      if bankGood k s then f s else s)) ∧
  (∀ (w : Word32) (s : State), pushWord w s = (
      if !inReady s then recordOverrun 0x1A (modJoint 0x1A (fun x => { x with overrun := true, lost := satAdd 16 x.lost 1 })
        (modWin (fun x => { x with overrun := true, causeOverrun := true }) s))
      else if s.host.win.discarding then s
      else
        let rom := s.upd.recovery.running
        let ws := s.host.win.inWords ++ [w]
        let n := fld (wordBytes ws) (if rom then 4 else 20) 2
        let whole := (if rom then 12 else 28) + n
        if ws.length < (if rom then 2 else 6) then modWin (fun x => { x with inWords := ws }) s
        else if (if rom then 1032 else 4068) < n then
          modWin (fun x => { x with frameErr := true, causeFrameErr := true, discarding := true, inWords := [] }) s
        else if ws.length < (whole + 3) / 4 then modWin (fun x => { x with inWords := ws }) s
        else windowIn ((wordBytes ws).take whole) (modWin (fun x => { x with inWords := [] }) s))) ∧
  (∀ (s : State), popWord s = (
      match winHead s with
      | none => modWin (fun w => { w with underrun := true, causeUnderrun := true }) s
      | some p =>
        let i := s.host.win.popped
        let s := modWin (fun w => { w with lastPop := BitVec.ofNat 32 (fld p.bytes (4 * i) 4), head := some p, popped := i + 1 }) s
        if p.bytes.length ≤ 4 * (i + 1) then
          packetLeft .hspi p (dropOut .hspi (sidOf s .hspi) p (modWin (fun w => { w with head := none, popped := 0 }) s))
        else s)) ∧
  (∀ (v : Nat) (s : State), writeStatus v s = (
      modWin (fun w => { w with
        inWords := if v.testBit 31 then [] else w.inWords, discarding := w.discarding && !v.testBit 31,
        frameErr := w.frameErr && !v.testBit 17, overrun := w.overrun && !v.testBit 16, underrun := w.underrun && !v.testBit 15 }) s)) ∧
  (∀ (v : Nat) (s : State), writeCause v s = (
      modWin (fun w => { w with
        causeCredits := w.causeCredits && !v.testBit 1, causeUnderrun := w.causeUnderrun && !v.testBit 2,
        causeOverrun := w.causeOverrun && !v.testBit 3, causeFrameErr := w.causeFrameErr && !v.testBit 4,
        causeSafe := w.causeSafe && !v.testBit 5 }) s)) ∧
  (∀ (offset : Nat) (w : Word32) (s : State), writeReg offset w s = (
      if offset = 0x04 then writeStatus w.toNat s
      else if offset = 0x08 then pushWord w s
      else if offset = 0x14 then modWin (fun x => { x with irqMask := w.toNat % 64 }) s
      else if offset = 0x18 then writeCause w.toNat s
      else s))

/-- R61 to R72, R422: each row’s next state and what it calls. -/
def Obligations.PacketsIn : Prop :=
  (∀ (raw : Bytes) (s : State), exec (.huartFrame raw) s =
      .next (onBank 1 (huartFrame raw) s)) ∧
  (∀ (raw : Bytes) (s : State), exec (.dbgFrame raw) s =
      .next (if s.debugEnabled && !s.pwr.stopped then onBank 1 (framesIn .dbg raw) s else s)) ∧
  (∀ (d : EthIn) (s : State), exec (.ethHandshake d) s =
      .next (onBank 1 (ethIn d) s)) ∧
  (∀ (d : EthIn) (s : State), exec (.ethData d) s =
      .next (onBank 1 (ethIn d) s)) ∧
  (∀ (s : State), exec (.intakeService) s =
      .next (if s.fwUp then intakeService (toRun s) else if s.par.safe && !s.pwr.stopped then intakeService s else s)) ∧
  (∀ (s : State), exec (.hostTunnel) s =
      .next (if s.fwUp && s.live 0x0302 == 1 then hostTunnel s else s)) ∧
  (∀ (raw : Bytes) (s : State), huartFrame raw s = (
      if s.pwr.stopped then wakeUp 6 s else framesIn .huart raw s)) ∧
  (∀ (t : Transport) (raw : Bytes) (s : State), framesIn t raw s = (
      ((splitAt_ 0x7E raw).filter (· != [])).foldl (fun s f => frameIn t f s) s)) ∧
  (∀ (t : Transport) (f : Bytes) (s : State), frameIn t f s = (
      let bad (s : State) : State := s.modHost (fun h => { h with huartDiscards := h.huartDiscards + 1 })
      match unescape f with
      | none => bad s
      | some b =>
        if s.upd.recovery.running then (if t = .huart then romFrameIn t b s else bad s)
        else if b.length < 28 ∨ !s.host.intakeOpen then bad s else offerLocal t b s)) ∧
  (∀ (t : Transport) (b : Bytes) (s : State), offerLocal t b s = (
      let drop (s : State) : State := s.modHost (fun h => { h with bareDiscards := h.bareDiscards + 1 })
      if !s.host.intakeOpen then drop s
      else if s.par.safe then safeAnswer t false b s
      else if s.host.bareBusy.contains t then drop s
      else match sidOf s t with
        | some n => match s.session n with
          | some x => offerOn t n x b s
          | none => s
        | none =>
          if intakeCap s ≤ s.host.intake.length then drop s
          else enqueue { transport := t, sid := none, bytes := b } (s.modHost (fun h => { h with bareBusy := h.bareBusy ++ [t] })))) ∧
  (∀ (t : Transport) (n : Nat) (x : Session) (b : Bytes) (s : State), offerOn t n x b s = (
      if x.credits < costOf b then
        evS n 0 evCreditViolation [] (s.modSession n (fun x => { x with creditViolations := satAdd 16 x.creditViolations 1 }))
      else
        let s := s.modSession n (fun x => { x with credits := x.credits - costOf b })
        if intakeCap s ≤ s.host.intake.length then
          evS n 0 evIntakeFull [] (giveCredits n (costOf b) (s.modSession n (fun x => { x with
            noticesLost := satAdd 16 x.noticesLost 1 })))
        else enqueue { transport := t, sid := some n, bytes := b } s)) ∧
  (∀ (d : EthIn) (s : State), ethIn d s = (
      if !s.fwUp ∨ (s.live 0x0C20 = 0 ∧ s.live 0x0C23 = 0) then s
      else match d.frag with
        | none => if 4124 < d.payload.length then ethDrop s else datagram d.peer d.payload s
        | some (id, off, more) => fragmentIn d.peer id off more d.payload s)) ∧
  (∀ (s : State), intakeService s = (
      match s.host.intake.find? (readable s) with
      | none => s
      | some e =>
        let s := checkInbound (s.modHost (fun h => { h with intake := h.intake.erase e }))
        if s.par.safe then safeAnswer e.transport e.sid.isSome e.bytes s
        else match intakeRefusal s e.transport e.sid e.bytes with
          | some (st, d) => refusePacket e.transport e.sid e.bytes st d s
          | none => acceptPacket e.transport e.sid e.bytes s)) ∧
  (∀ (s : State), hostTunnel s = (
      match s.mac.inbox.find? (fun m => m.type == 0xFFFE) with
      | none => s
      | some m =>
        let s := s.modMac (fun x => { x with inbox := x.inbox.eraseP (fun y => y.type == 0xFFFE) })
        tunnelReply m (datagram tunnelPeer m.payload s)))

/-- R55, R64 to R70, R92, R427, R464: each row’s next state and what it calls. That a pending transition precedes the reset is the model’s choice (log entry 82). -/
def Obligations.SessionTimers : Prop :=
  (∀ (sid : Nat) (s : State), exec (.ethReorderTimeout sid) s =
      .next (if s.fwUp then reorderTimeout sid s else s)) ∧
  (∀ (sid : Nat) (s : State), exec (.ethIdleTimeout sid) s =
      .next (match s.chan sid with
        | some ch => if s.fwUp && decide (ch.lastAuth + 60 * sec ≤ s.now) then closeSession sid s else s
        | none => s)) ∧
  (∀ (sid : Nat) (s : State), exec (.ethFirstDataTimeout sid) s =
      .next (match s.chan sid with
        | some ch => if s.fwUp && !ch.firstData && decide (ch.lastAuth + 5 * sec ≤ s.now) then closeSession sid s else s
        | none => s)) ∧
  (∀ (id : Nat) (s : State), exec (.ipReassemblyTimeout id) s =
      .next (s.modHost (fun h => { h with reasm := h.reasm.filter (fun r => !(r.id == id && decide (r.started + 2 * sec ≤ s.now))) }))) ∧
  (∀ (sid : Nat) (s : State), exec (.creditReturnTimer sid) s =
      .next (match s.session sid with
        | some x =>
          if s.fwUp && decide (0 < x.owed) && decide (x.owedSince + 100 * ms ≤ s.now) then
            pushNotice sid (fun n => noticePacket evCreditReturn 0 0 n []) s
          else s
        | none => s)) ∧
  (∀ (sid : Nat) (s : State), exec (.replyHoldTimer sid) s =
      .next (match s.session sid with
        | some x =>
          if s.fwUp && x.backlog && !x.holdRecorded && decide (x.backlogSince + 10 * sec ≤ s.now) then
            evS sid 0 evReplyHold [] (s.modSession sid (fun x => { x with holdRecorded := true }))
          else s
        | none => s)) ∧
  (∀ (s : State), exec (.queueServicePassEnd) s =
      .next (if s.fwUp then
        let s := checkInbound (applyBlock 0x0C none s)
        [0, 1, 2, 3].foldl (fun s n => checkBacklog n s) s
      else s)) ∧
  (∀ (s : State), exec (.delayedReset) s =
      .next (match s.host.resetAt with
        | some (t, ty, src, sid) =>
          if t ≤ s.now ∧ !s.pwr.stopped then
            assertReset ty src sid (match s.sec.advance with | some (to_, _) => advanceLife to_ s | none => s)
          else s
        | none => s)) ∧
  (∀ (t : Transport) (sid : Nat) (s : State), exec (.transportTxComplete t sid) s = .next (
      let n : Option Nat := match t with
        | .eth => (match s.chan sid with | some ch => if ch.peer = tunnelPeer then none else some sid | none => none)
        | _ => sidOf s t
      if t = .hspi ∨ s.pwr.stopped ∨ !bankGood 1 s ∨ (t = .dbg ∧ !s.debugEnabled) then s
      else match outFront t n s with
        | none => s
        | some p => packetLeft t p (transmitNext t n p (dropOut t n p s)))) ∧
  (∀ (n : Nat) (s : State), reorderTimeout n s = (
      match s.chan n with
      | none => s
      | some ch =>
        let old := ch.held.filter (fun e => decide (e.2.2 + 20 * ms ≤ s.now))
        if old = [] then s
        else
          let top := (old.map (·.1)).foldl max 0
          let early (e : Nat × Bytes × Nat) : Bool := decide (e.1 ≤ top)
          let due := sortBy (fun a b => decide (a.1 ≤ b.1)) (ch.held.filter early)
          let s := due.foldl (fun s e => takePacket n e.2.1 (modChan n (fun c => { c with
            rxNext := e.1 + 1, rxHighest := max c.rxHighest e.1, held := c.held.filter (fun x => x.1 != e.1) }) s)) s
          takeHeld n ch.held.length s)) ∧
  (∀ (t : Transport) (p : OutPkt) (s : State), packetLeft t p s = (
      let s := if s.host.bare.any (fun q => q.1 == t) then s
        else s.modHost (fun h => { h with bareBusy := h.bareBusy.erase t })
      let s := match s.host.resetWait.find? (fun w => w.2.2.2 == p.seq) with
        | some (ty, src, sid, q) => s.modHost (fun h => { h with
            resetWait := h.resetWait.filter (fun w => w.2.2.2 != q),
            resetAt := h.resetAt.orElse (fun _ => some (s.now + 10 * ms, ty, src, sid)) })
        | none => s
      let s : State := match s.host.baudNext with
        | some (code, none) =>
          if t = Transport.huart ∧ pkKind p.bytes = 1 ∧ pkOpcode p.bytes = 0x0009 ∧ fld p.bytes 22 1 = 0 then
            s.modHost (fun h => { h with baudNext := some (code, some (s.now + 2 * ms)) })
          else s
        | _ => s
      match s.sec.advance with
      | some (to_, q) => if p.seq = q then advanceLife to_ s else s
      | none => s)) ∧
  (∀ (t : Transport) (sid : Option Nat) (p : OutPkt) (s : State), dropOut t sid p s = (
      if s.host.bare.any (fun q => q.1 == t && q.2 == p) then
        s.modHost (fun h => { h with bare := h.bare.eraseP (fun q => q.1 == t && q.2 == p) })
      else match sid with
        | none => s
        | some n =>
          checkBacklog n (s.modSession n (fun x =>
            if x.replies.contains p then { x with replies := x.replies.erase p }
            else if x.refusals.contains p then { x with refusals := x.refusals.erase p }
            else { x with notices := x.notices.erase p }))))

/-- R168, R182 to R186, R217: each row’s next state. The payload of LANTERN_SILENT is free (log entry 40). -/
def Obligations.BeaconAndNetworkKeyEvents : Prop :=
  (∀ (lantern : Nat) (s : State), exec (.pierHeadSilent lantern) s =
      .next (match s.lan lantern with
        | none => s
        | some l =>
          if s.fwUp && s.holder && s.mac.running && s.truss.piers.any (fun p => p.head == lantern) && 3 ≤ l.misses && !l.silent then
            let s := modLan lantern (fun l => { l with silent := true }) s
            let s := s.modMac (fun m => { m with topoChanged := true })
            evL lantern evLanternSilent (le 14 (Config.unstated 6 (2 * lantern)))
              (s.modTruss (fun u => { u with
                silentSince := put u.silentSince lantern s.now,
                fragments := if holdOn s then loseSite (· == lantern) u.fragments else u.fragments }))
          else s)) ∧
  (∀ (heard : Bool) (s : State), exec (.holderBeaconsMissed heard) s =
      .next (if s.standby && s.fwUp && s.mac.running then
          let n := if heard then 0 else s.mac.holderMisses + 1
          (s.modMac (fun m => { m with holderMisses := n })).modTwin (fun t => { t with beaconsMissed := Nat.ble 3 n })
        else s)) ∧
  (∀ (lantern : Nat) (s : State), exec (.rendezvousListenEnd lantern) s =
      .next (match s.lan lantern with
        | none => s
        | some l =>
          if s.fwUp && s.mac.running && l.adrift && l.state == .joined && listenServed s lantern && l.listenCycle != s.mac.cycle + 1 then
            if 64 ≤ l.listens + 1 then loseLantern lantern s
            else modLan lantern (fun l => { l with listens := l.listens + 1, listenCycle := s.mac.cycle + 1 }) s
          else s)) ∧
  (∀ (lantern : Nat) (s : State), exec (.routelessLost lantern) s =
      .next (match s.lan lantern with
        | none => s
        | some l =>
          if s.fwUp && l.routeless && l.state == .joined && 64 ≤ l.routelessCycles then loseLantern lantern s else s)) ∧
  (∀ (lantern : Nat) (s : State), exec (.rootPortReassign lantern) s =
      .next (match s.lan lantern with
        | none => s
        | some l =>
          if s.fwUp && l.port < 2 && l.state == .joined && decide (64 ≤ l.portRun) && ownPort s (1 - l.port) && !(s.port (1 - l.port)).failed
              && (s.port (1 - l.port)).profile.isSome then
            (modLan lantern (fun l => { l with port := 1 - l.port, portRun := 0 }) s).modMac (fun m => { m with topoChanged := true })
          else s)) ∧
  (∀ (src : Nat) (s : State), exec (.beaconReceived src) s =
      .next (withMsg 0 src beaconReceived s)) ∧
  (∀ (lantern : Nat) (s : State), exec (.beaconMiss lantern) s =
      .next (fromLantern 0x001A lantern (fun _ m s => beaconMiss lantern m s) s)) ∧
  (∀ (s : State), exec (.keyUpdateActivation) s =
      .next (annexKeyStep (activateKey s))) ∧
  (∀ (s : State), exec (.oldNetworkKeyExpiry) s =
      .next (annexKeyStep (match s.mac.oldKeyUntil with
        | none => s
        | some c =>
          if c ≤ s.mac.cycle then
            s.modMac (fun m => { m with oldKeyUntil := none, netKeys := m.netKeys.filter (fun k => k.1 == m.phase) })
          else s))) ∧
  (∀ (heard : Bool) (s : State), exec (.annexParentLost heard) s =
      .next (let a := s.mac.annex
        if !s.fwUp ∨ s.live 0x0302 ≠ 1 ∨ a.parent.isNone then s
        else if heard then modAnnex (fun a => { a with misses := 0 }) s
        else if a.misses + 1 < 3 then modSource 4 (fun y => { y with count := 0 }) (modAnnex (fun a => { a with misses := a.misses + 1 }) s)
        else loseSource 4 (annexLeave s))) ∧
  (∀ (type origin : Nat) (f : InMsg → State → State) (s : State), withMsg type origin f s = (
      match s.mac.inbox.find? (fun m => m.type == type && m.origin == origin) with
      | none => s
      | some m =>
        if !s.fwUp then s
        else f m (s.modMac (fun x => { x with inbox := x.inbox.eraseP (fun y => y.type == type && y.origin == origin) })))) ∧
  (∀ (type n : Nat) (f : Lantern → InMsg → State → State) (s : State), fromLantern type n f s = (
      withMsg type (shortOf n) (fun m s => match s.lan n with | some l => f l m s | none => s) s)) ∧
  (∀ (n : Nat) (s : State), loseLantern n s = (
      let h := heldFor s n
      let s := modLan n (fun l => { l with state := .lost, listens := 0, routelessCycles := 0 }) s
      h.foldl (fun s t => settle t .unreachable s) s))

/-- R161 to R213: each row’s next state and what it calls. -/
def Obligations.CellsAndRadio : Prop :=
  (∀ (c : Cell) (s : State), exec (.cellStart c) s =
      .next (if !s.fwUp || s.mac.region.isNone || (s.port c.port).failed then s
        else if parentPort s c.port then (if annexed s then annexCell c s else s)
        else if s.mac.running then spanCell c s
        else s)) ∧
  (∀ (port : Nat) (s : State), exec (.ackWindowExpiry port) s =
      .next (if parentPort s port then endAnnex false s
        else match s.mac.attempts.find? (fun a => a.port == port && !a.noAck) with
        | none => s
        | some a =>
          if a.txn < 2 ^ 64 ∧ a.echo.isSome ∧ s.twin.link = .up then
            s.modMac (fun m => { m with attempts := m.attempts.map (fun x => if x = a then { x with noAck := true } else x) })
          else lostAttempt a s)) ∧
  (∀ (port : Nat) (psdu : Bytes) (s : State), exec (.enhancedAckReceived port psdu) s =
      .next (if !s.fwUp then s
        else if parentPort s port then annexEnhancedAck psdu s
        else match s.mac.attempts.find? (fun a => a.port == port && !a.noAck) with
        | some a => enhancedAck a psdu s
        | none => s)) ∧
  (∀ (port : Nat) (miso : Bytes) (edge : Int) (s : State), exec (.radioIrq port miso edge) s =
      .next (if !s.fwUp ∨ (s.port port).profile = none ∨ !bankGood 0 s then s
        else
          let r := runSeqs port (s.port port).channel [] [7] miso s
          if r.2.1 then serveIrq port r.2.2 edge r.1 else resetAny port r.2.2 r.1)) ∧
  (∀ (poll : PollIn) (s : State), exec (.radioPollTimeout poll) s =
      .next (if s.fwUp && (s.port poll.port).profile.isSome then resetAny poll.port poll.miso s else s)) ∧
  (∀ (poll : PollIn) (s : State), exec (.frameReceived poll) s =
      .next (if s.fwUp then
          match s.mac.rx.find? (fun f => f.port == poll.port) with
          | none => s
          | some f =>
            let s := s.modMac (fun m => { m with rx := m.rx.eraseP (· == f) })
            if parentPort s poll.port then annexFrame f poll.miso s else receiveFrame f poll.miso s
        else s)) ∧
  (∀ (src : Nat) (s : State), exec (.meshReassemblyTimeout src) s =
      .next (s.modMac (fun m => { m with
        reasm := m.reasm.filter (fun r => r.src != src || m.cycle < r.since + 8),
        annex := { m.annex with reasm := m.annex.reasm.filter (fun r => r.src != src || decide (s.spanNs / sec < r.since + 8)) } }))) ∧
  (∀ (c : Cell) (s : State), cellStart c s = (
      match c.kind with
      | .beacon => if c.slot ≠ 0 || s.standby then listen c s else s
      | .shared => sharedCell c s
      | .dedicated => if !c.transmit then listen c s else if s.holder then sendUnicast c s else s
      | .echo =>
        if c.slot = 1 then (if s.standby then standbyBeacon c s else listen c s)
        else if s.standby then echoCell c s
        else s
      | .flood => floodCellOf c s
      | .rendezvous => rendezvousCell c s)) ∧
  (∀ (a : Attempt) (ok : Bool) (s : State), endAttempt a ok s = (
      let s := s.modMac (fun m => { m with attempts := m.attempts.filter (fun x => x != a) })
      let s := if !a.shared then s
        else if ok then modPort a.port (fun q => { q with be := 0 }) s
        else backOff a.port s
      match s.txn a.txn with
      | none => s
      | some t =>
        if ok then
          if t.frag < lastFrag s t then modTxn t.id (fun t => { t with frag := t.frag + 1, attempts := 0 }) s
          else if t.confirmed then modTxn t.id (fun t => { t with st := .awaiting }) s
          else settle t .sent s
        else if maxAttempts s ≤ t.attempts then modTxn t.id (fun t => { t with st := .awaiting }) s
        else s)) ∧
  (∀ (a : Attempt) (p : Bytes) (s : State), enhancedAck a p s = (
      let dst := attemptDst s a
      let idx := s.mac.phase + 1
      let ctr := fld p 6 4
      if !ackForm p ∨ fld p 2 1 ≠ a.seqNo ∨ fld p 3 2 ≠ s.short then s
      else match euiOf s dst with
        | none => s
        | some eui =>
          let ok := ccmSeal (netKey s s.mac.phase) (nonceOf eui ctr 1) (p.take 14) [] 4 == sub p 14 4
          if ok ∧ counterOk s (65536 * idx + dst) ctr then
            let s := acceptCounter (65536 * idx + dst) ctr s
            let s := (match lanOf dst with | some n => contact n s.spanNs s | none => s)
            acked a ((fld p 12 2).testBit 15) s
          else securityDrop s)) ∧
  (∀ (k : Nat) (miso : Bytes) (s : State), resetPort k miso s = (
      resetPorts k 3 miso (failAttempts k s))) ∧
  (∀ (f : RxFrame) (miso : Bytes) (s : State), receiveFrame f miso s = (
      let fc := fld f.psdu 0 2
      if !fcsOk f.psdu then filterDrop s
      else if fc = fcBeacon then rxBeacon f s
      else if fc = fcData then rxData f miso s
      else if fc = fcJoinReq ∨ fc = fcJoinReqExt then rxJoin f s
      else if fc = fcFlood ∧ fld f.psdu 2 2 = 0xFFFF then rxFlood f s
      else filterDrop s))

/-- R219 to R231: each row’s next state and what it calls. -/
def Obligations.JoinAndReportMessages : Prop :=
  (∀ (eui : Nat) (s : State), exec (.joinRequest eui) s =
      .next (withMsg 0x0010 eui (fun m s => if s.holder && s.mac.running then joinRequest rootShort m.port m.at_ m.payload s else s) s)) ∧
  (∀ (proxy : Nat) (s : State), exec (.joinRelay proxy) s =
      .next (fromLantern 0x0012 proxy (fun _ m s =>
        (relayed m.payload.length m.payload).foldl (fun s p => joinRequest (shortOf proxy) m.port m.at_ p s) s) s)) ∧
  (∀ (lantern : Nat) (s : State), exec (.capability lantern) s =
      .next (fromLantern 0x0015 lantern (capability lantern) s)) ∧
  (∀ (lantern : Nat) (s : State), exec (.configRequest lantern) s =
      .next (fromLantern 0x0016 lantern (fun _ _ s => sendSchedule lantern s) s)) ∧
  (∀ (lantern : Nat) (s : State), exec (.resync lantern) s =
      .next (fromLantern 0x0018 lantern (fun _ m s =>
        let s := modLan lantern (fun l => { l with adrift := false, listens := 0 }) s
        if m.confirmed then respond lantern m.seq 0 m.retries s else s) s)) ∧
  (∀ (lantern : Nat) (s : State), exec (.neighbourReport lantern) s =
      .next (fromLantern 0x0019 lantern (neighbourReport lantern) s)) ∧
  (∀ (lantern : Nat) (s : State), exec (.response lantern) s =
      .next (fromLantern 0x001B lantern (fun _ m s => response lantern m s) s)) ∧
  (∀ (lantern : Nat) (s : State), exec (.leave lantern) s =
      .next (fromLantern 0x0013 lantern (fun _ m s =>
        let s := if m.confirmed then respond lantern m.seq 0 m.retries s else s
        (modLan lantern (fun l => { l with state := .expected, depth := 0, joinResp := none }) s).modMac (fun x => { x with
          topoChanged := true })) s)) ∧
  (∀ (proxy port at_ : Nat) (psdu : Bytes) (s : State), joinRequest proxy port at_ psdu s = (
      let eui := (joinSource psdu).1
      let sec_ := (joinSource psdu).2
      let ctr := fld psdu (sec_ + 1) 4
      match s.mac.lanterns.find? (fun e => e.2.eui == eui) with
      | none => joinRefused eui 1 proxy s
      | some (n, l) =>
        match s.slotRec n with
        | none => joinRefused eui 4 proxy s
        | some r =>
          let s := useKey n s
          match ccmOpen r.key (nonceOf eui ctr 5) (psdu.take (sec_ + 5)) (psdu.drop (sec_ + 5)) 4 with
          | none => joinRefused eui 3 proxy (securityDrop s)
          | some body =>
            if !counterOk s (2 ^ 32 + eui) ctr ∨ fld psdu sec_ 1 ≠ 0x05 then joinRefused eui 3 proxy (securityDrop s)
            else
              let r' := reassemble s.mac.reasm (2 ^ 32 + eui) s.mac.cycle body
              let s := acceptCounter (2 ^ 32 + eui) ctr (s.modMac (fun m => { m with reasm := r'.1 }))
              match r'.2 with
              | none => s
              | some m =>
                if fld m 0 2 ≠ 0x0010 then joinRefused eui 3 proxy (securityDrop s) else joinAccepted proxy port at_ n l s)) ∧
  (∀ (n : Nat) (l : Lantern) (m : InMsg) (s : State), capability n l m s = (
      let d := m.payload.take 32
      let joins : Bool := l.state == .expected || l.joinResp.isSome
      let s := modLan n (fun l => { l with
        descriptor := some d, state := .joined, joinResp := none, joinCycle := if joins then s.mac.cycle else l.joinCycle,
        drift := fld d 20 1 }) s
      let s := expectJoined s
      let s := if l.descriptor != some d then
          s.modTruss (fun u => { u with kept := if u.kept.contains (n, 0, 0) then u.kept else u.kept ++ [(n, 0, 0)] }) else s
      let s := if joins then
          let s := reschedule (some n) (newRoutes s)
          let s := completeAll (fun c => c.begun && c.wait == .join n) stOk dNone (admitReply s n) s
          welcome n (lateSuccess (fun r => r.wait == .join n) stOk s)
        else s
      let s := (s.host.live.filter (fun c => c.begun && c.wait == .descriptor n)).foldl (fun s c =>
        complete c stOk dNone (pageHeader 1 0xFFFF ++ lanternEntry s n ++ fit 32 d) s) s
      let s := lateSuccess (fun r => r.wait == .descriptor n) stOk s
      rolloutCapability n s)) ∧
  (∀ (n : Nat) (l : Lantern) (m : InMsg) (s : State), neighbourReport n l m s = (
      let p := m.payload
      let es := (List.range (fld p 0 1)).map (fun i => neighbourLink n (min 64 (s.mac.cycle - l.joinCycle)) (sub p (2 + 8 * i) 8))
      let s := s.modMac (fun x => { x with
        links := sortBy (fun a b => decide (a.lantern ≤ b.lantern)) ((x.links.filter (fun k => k.lantern != n)) ++ es), topoChanged := true })
      match es.find? (·.parent) with
      | none => s
      | some e =>
        let up := match lanOf e.neighbour with | some k => s.lan k | none => none
        let cost := if e.pdr = 0 then 0 else 25600 / e.pdr
        modLan n (fun l => { l with
          parent := e.neighbour, pdr := e.pdr, h := e.h, rank := (match up with | some u => u.rank | none => 0) + cost,
          depth := (match up with | some u => u.depth | none => 0) + 1,
          port := if e.neighbour = rootShort then (if l.port = 0xFF then firstPort s n m.port else l.port) else 0xFF }) s)) ∧
  (∀ (n : Nat) (m : InMsg) (s : State), response n m s = (
      let p := m.payload
      match s.mac.txns.find? (fun t => t.lantern == n && t.seq == fld p 0 2 && t.confirmed && t.st != .queued) with
      | none => s
      | some t =>
        let extra := fld p 3 1 + m.retries - t.told
        let s := match t.owner with
          | some q => addRetries q extra s
          | none => s
        let s := settle t (.answered (fld p 2 1) (p.drop 4)) s
        if t.type = 0x0205 ∧ fld p 2 1 = 5 then
          pushAll (some n) (s.modTruss (unconfirm n (fld t.payload 0 4)))
        else s))

/-- R127, R147, R148, R233, R240, R274, R499: each row’s next state and what it calls. -/
def Obligations.SensorAndReportMessages : Prop :=
  (∀ (lantern : Nat) (s : State), exec (.sensorEvent lantern) s =
      .next (fromLantern 0x0301 lantern (fun _ m s => sensorEvent lantern m.payload s) s)) ∧
  (∀ (lantern : Nat) (s : State), exec (.energyReport lantern) s =
      .next (fromLantern 0x0302 lantern (fun _ m s =>
        modWindow (fld m.payload 0 4) (fun w => { w with
          covered := put w.covered lantern (fld m.payload 4 4 * 65536 + fld m.payload 8 2) }) s) s)) ∧
  (∀ (lantern : Nat) (s : State), exec (.energyAggregate lantern) s =
      .next (fromLantern 0x0303 lantern (fun _ m s => energyAggregate lantern m.payload s) s)) ∧
  (∀ (lantern : Nat) (s : State), exec (.policyReport lantern) s =
      .next (fromLantern 0x0304 lantern (fun _ m s => ev evPolicyReport (sub m.payload 0 6 ++ le 2 lantern ++ zeros 6) s) s)) ∧
  (∀ (lantern : Nat) (s : State), exec (.faultReport lantern) s =
      .next (fromLantern 0x0305 lantern (fun _ _ s => s) s)) ∧
  (∀ (lantern : Nat) (s : State), exec (.fragmentInventory lantern) s =
      .next (fromLantern 0x0206 lantern (fun _ m s => fragmentInventory lantern m s) s)) ∧
  (∀ (lantern : Nat) (s : State), exec (.chunkRequest lantern) s =
      .next (fromLantern 0x0402 lantern (fun _ m s => chunkRequest lantern m.payload s) s)) ∧
  (∀ (lantern : Nat) (s : State), exec (.imageStatus lantern) s =
      .next (fromLantern 0x0404 lantern (fun _ m s => imageStatus lantern m.payload s) s)) ∧
  (∀ (lantern : Nat) (s : State), exec (.lampReport lantern) s =
      .next (fromLantern 0x0106 lantern (fun _ m s => modLan lantern (fun l => { l with report := some (m.payload, s.mac.cycle) }) s) s)) ∧
  (∀ (n : Nat) (payload : Bytes) (s : State), sensorEvent n payload s = (
      let sensor := fld payload 0 1
      let v := toS 32 (fld payload 4 4)
      let prev := get? s.truss.readings (32 * n + sensor)
      let s := s.modTruss (fun u => { u with readings := put u.readings (32 * n + sensor) v })
      let s := reportSubs n sensor payload s
      let s := lampDue s
      if trussRuns s then (s.truss.policies.map (·.2)).foldl (sensorPolicy n sensor (fld payload 1 1 % 4) prev v) s else s)) ∧
  (∀ (head : Nat) (p : Bytes) (s : State), energyAggregate head p s = (
      let members := match s.truss.piers.find? (fun x => x.head == head) with | some x => x.members | none => []
      let missing := fld p 20 4
      let got := ((members.zip (List.range members.length)).filter (fun x => !missing.testBit x.2)).map (·.1)
      modWindow (fld p 0 4) (fun w => { w with
        aggregated := w.aggregated + fld p 4 8 * 65536 + fld p 12 4, aggregatedLanterns := got.foldl insertSet w.aggregatedLanterns }) s)) ∧
  (∀ (n : Nat) (m : InMsg) (s : State), fragmentInventory n m s = (
      let p := m.payload
      let inv := (List.range (fld p 0 1)).map (fun i => (fld p (2 + 6 * i) 4, fld p (6 + 6 * i) 2))
      let want := expectedHere s n
      let s := modLan n (fun l => { l with inventory := inv }) s
      let s := ((want.filter (fun w => inv.count w != want.count w)).map (·.1)).eraseDups.foldl (fun s k => s.modTruss (unconfirm n k)) s
      let owed (k : Nat) : Bool := s.truss.fragments.any (fun f => f.site == n && f.state == 7 && f.policy == k)
      let extra := inv.eraseDups.filter (fun e => !owed e.1 && ((want.all (fun w => w.1 != e.1)) || want.count e < inv.count e))
      pushAll (some n) (extra.foldl (fun s e => sendOnce n 0x0202 (withdrawBytes e.1 e.2) s) s))) ∧
  (∀ (n : Nat) (p : Bytes) (s : State), chunkRequest n p s = (
      match s.image (fld p 0 4) with
      | none => s
      | some i =>
        let size := if phyMode s = 1 then 128 else 1024
        let first := fld p 4 4
        let total := (imgLen i.header + size - 1) / size
        if i.state ≠ 1 then s
        else ((List.range (min 8 (fld p 8 1))).filter (fun k => first + k < total)).foldl (fun s k =>
          sendMsg none n 0x0403 false (le 4 i.id ++ le 4 (first + k) ++ sub i.payload ((first + k) * size) size) (s.now + 60 * sec) s) s)) ∧
  (∀ (n : Nat) (p : Bytes) (s : State), imageStatus n p s = (
      let id := fld p 0 4
      match fld p 8 1 with
      | 1 => progressRollouts (setTarget id n 2 s)
      | 2 =>
        progressRollouts (s.modUpd (fun u => { u with rollouts := u.rollouts.map (fun r =>
          if r.image = id && r.active then
            { r with targets := r.targets.map (fun x => if x.1 = n && x.2.1 < 3 then (n, if 1 ≤ x.2.2 then 4 else 0, x.2.2 + 1) else x) }
          else r) }))
      | _ => s))

/-- R281 to R288: each row’s next state and what it calls. -/
def Obligations.PtpEvents : Prop :=
  (∀ (m : PtpSync) (s : State), exec (.ptpSync m) s =
      .next (onBank 1 (ptpSync m) s)) ∧
  (∀ (m : PtpFollow) (s : State), exec (.ptpFollowUp m) s =
      .next (onBank 1 (ptpFollowUp m) s)) ∧
  (∀ (m : PtpAnn) (s : State), exec (.ptpAnnounce m) s =
      .next (onBank 1 (ptpAnnounce m) s)) ∧
  (∀ (m : PtpResp) (s : State), exec (.ptpDelayResp m) s =
      .next (onBank 1 (ptpDelayResp m) s)) ∧
  (∀ (s : State), exec (.delayReqTimer) s = .next (
      let p := s.time.ptp
      if p.parent.isSome && p.delayDue ≤ s.now && s.fwUp then
        let port := p.port
        let s1 := s.modOut (fun o => { o with
          forwarded := o.forwarded ++ ((ptpFrame (delayReqMessage s) s).map (fun f => (port, f))).toList })
        s1.modTime (fun t => { t with
          ptp := { t.ptp with
            delayReq := some (p.delaySeq, (s.spanNs : Int) + (ethCorr s port).1), delaySeq := (p.delaySeq + 1) % 65536,
            delayDue := s.now + (if p.delayInterval = 0 then sec else p.delayInterval) } })
      else s)) ∧
  (∀ (s : State), exec (.announceReceiptTimeout) s = .next (
      match s.time.ptp.parent with
      | some p =>
        if s.time.ptp.lastAnnounce + 3 * p.interval ≤ s.now then
          chooseParent (loseSource 1 s)
        else s
      | none => s)) ∧
  (∀ (s : State), exec (.syncLossTimeout) s =
      .next (if s.time.ptp.parent.isSome && s.time.ptp.lastSync + 4 * s.time.ptp.syncInterval ≤ s.now then loseSource 1 s else s)) ∧
  (∀ (ingress : Nat) (stamp : Nat) (frame : Bytes) (s : State), exec (.ptpEventForward ingress stamp frame) s =
      let r := residence ingress stamp s
      .next (if s.boot.phase = .firmware ∧ !s.pwr.stopped ∧ 0 ≤ r ∧ r ≤ 123040 then
        onBank 1 (fun s => s.modOut (fun o => { o with forwarded := o.forwarded ++ [(1 - ingress, correctFrame frame r.toNat)] })) s
      else s)) ∧
  (∀ (m : PtpSync) (s : State), ptpSync m s = (
      if ptpOurs m.transport m.domain m.source s && m.multicast && (-7 ≤ m.logInterval && m.logInterval ≤ 1) && s.fwUp then
        let t2 := (s.spanNs : Int) - (ethCorr s m.port).2
        let s := s.modTime (fun t => { t with ptp := { t.ptp with port := m.port, lastSync := s.now, syncInterval := logInterval m.logInterval } })
        if m.twoStep then s.modTime (fun t => { t with ptp := { t.ptp with twoStep := some (m.seq, t2, m.correction) } })
        else ptpMeasure (t2 - m.origin - corrNs m.correction - s.liveS 32 0x0109) s
      else s)) ∧
  (∀ (m : PtpFollow) (s : State), ptpFollowUp m s = (
      match s.time.ptp.twoStep with
      | some (q, t2, cs) =>
        if ptpOurs m.transport m.domain m.source s && m.multicast && q == m.seq && s.fwUp then
          ptpMeasure (t2 - m.origin - corrNs (cs + m.correction) - s.liveS 32 0x0109) s
        else s
      | none => s)) ∧
  (∀ (m : PtpAnn) (s : State), ptpAnnounce m s = (
      if m.transport = s.live 0x0108 ∧ m.domain = s.live 0x0107 ∧ m.multicast ∧ m.steps < 255 ∧ s.fwUp then
        let was := s.time.ptp.foreign.find? (fun f => f.1.sourcePort == m.source)
        chooseParent (s.modTime (fun t => { t with
          ptp := { t.ptp with
            foreign := (t.ptp.foreign.filter (fun f => f.1.sourcePort != m.source)) ++ [(announceOf m, s.now, was.map (·.2.1))] } }))
      else s)) ∧
  (∀ (m : PtpResp) (s : State), ptpDelayResp m s = (
      match s.time.ptp.delayReq, s.time.ptp.lastT21 with
      | some (q, t3), some t21 =>
        if ptpOurs m.transport m.domain m.source s && m.multicast && m.forUs && q == m.seq && s.fwUp then
          let d := (t21 + ((m.receive : Int) - t3 - corrNs m.correction)) / 2
          s.modTime (fun t => { t with
            ptp := { t.ptp with
              meanDelay := some d, delayReq := none, delayInterval := min (8 * sec) (logInterval m.logMinInterval) } })
        else s
      | _, _ => s)) ∧
  (∀ (f : Bytes) (residence : Nat), correctFrame f residence = (
      match ptpOffset f with
      | none => f
      | some (o, ck) =>
        if [0, 1, 2, 3].contains (bits (fld f o 1) 3 0) then
          let old := sub f (o + 8) 8
          let new := be 8 ((beNat old + residence * 65536) % 2 ^ 64)
          let g := patch f (o + 8) new
          let g := match ck with
            | none => g
            | some (at_, v6) =>
              let hc := beNat (sub f at_ 2)
              if hc = 0 && !v6 then g else patch g at_ (be 2 (checksumUpdate hc old new))
          let body := g.take (g.length - 4)
          body ++ le 4 (crc32 body)
        else f))

/-- R284 to R288: each row’s next state and what it calls. -/
def Obligations.GnssEvents : Prop :=
  (∀ (s : State), exec (.ppsInEdge) s =
      .next (if s.fwUp then onBank 0 ppsInEdge s else s)) ∧
  (∀ (text : NmeaIn) (s : State), exec (.nmeaSentence text) s =
      .next (if s.fwUp && text.baud == s.live 0x010C then onBank 0 (nmeaSentence text.text) s else s)) ∧
  (∀ (s : State), exec (.gnssEdgeLoss) s =
      .next (if s.time.gnss.edgeSeen && s.time.gnss.edgeAt + 2 * sec ≤ s.now then
        loseSource 3 (loseSource 2 (s.modTime (fun t => { t with gnss := { t.gnss with edgeSeen := false, nextLabel := none } })))
      else s)) ∧
  (∀ (s : State), exec (.gnssLabelLoss) s =
      .next (if (s.source 2).qualified && s.time.gnss.lastLabel + 3 * sec ≤ s.now then loseSource 2 s else s)) ∧
  (∀ (s : State), ppsInEdge s = (
      let at_ : Int := (s.spanNs : Int) - 20 - s.liveS 16 0x010E
      let g := s.time.gnss
      let spaced := g.edgeSeen && 999 * ms ≤ s.now - g.edgeAt && s.now - g.edgeAt ≤ 1001 * ms
      let s := s.modTime (fun t => { t with gnss := { t.gnss with edgeAt := s.now, edgeSpan := at_, edgeSeen := true, labelled := false, nextLabel := none } })
      let near := (at_ + 500000000) / sec * sec
      let x := near - at_
      let s := modSource 3 (fun y => { y with
        count := if spaced && x.natAbs ≤ 400000000 then y.count + 1 else (if x.natAbs ≤ 400000000 then 1 else 0), last := s.now }) s
      let s := if 8 ≤ (s.source 3).count then qualify 3 s
        else if (s.source 3).qualified && 400000000 < x.natAbs then loseSource 3 s else s
      let run := spaced && (if s.live 0x010D = 1 then g.nextLabel.isSome else g.labelled)
      let s := if run then s else modSource 2 (fun y => { y with count := 0 }) s
      let s := measure 3 x s
      match g.nextLabel with
      | some u => gnssMeasure (labelNs s u.1 u.2) s
      | none => s)) ∧
  (∀ (text : Bytes) (s : State), nmeaSentence text s = (
      match nmeaFields text with
      | none => s
      | some f =>
        let name := (f.getD 0 []).drop 2
        if name = ascii "RMC" then
          let ok := f.getD 2 [] == ascii "A"
          let s := s.modTime (fun t => { t with gnss := { t.gnss with rmcValid := ok, rmcAt := s.now } })
          if ok then s else (if (s.source 2).qualified then loseSource 2 s else modSource 2 (fun x => { x with count := 0 }) s)
        else if name = ascii "ZDA" then
          let g := s.time.gnss
          match zdaTime f with
          | some (utc, leap) =>
            if g.edgeSeen && g.edgeAt + 100 * ms ≤ s.now && s.now ≤ g.edgeAt + 900 * ms && g.rmcValid
                && s.now ≤ g.rmcAt + 2 * sec then
              if s.live 0x010D = 1 then
                s.modTime (fun t => { t with gnss := { t.gnss with nextLabel := some (utc, leap), lastLabel := s.now } })
              else if g.labelled then s
              else gnssMeasure (labelNs s utc leap) s
            else s
          | none => s
        else s))

/-- R304 to R315, R383, R508: each row’s next state and what it calls. How a stopped holder renews is the model’s reading (log entry 64). -/
def Obligations.SecondsAndRtcEvents : Prop :=
  (∀ (s : State), exec (.wholeSecond) s =
      .next (if s.time.lastWhole < stSec s.time.spanT && s.boot.phase == .firmware && !s.pwr.stopped then
        (if s.fwUp then annexSecond (wholeSecond (if s.mac.running then s else twinAtT 0xFFFFFFFF s)) else ppsSecond s) else s)) ∧
  (∀ (s : State), exec (.leapSecond) s =
      .next (if s.fwUp then leapSecond s else s)) ∧
  (∀ (s : State), exec (.timeExchangeTimer) s =
      .next (if twinAlive s && s.holder && s.twin.link == .up && Nat.ble 500000000 (s.spanNs % sec)
          && s.twin.timeSentCycle != some (s.spanNs / sec) then timeExchange s else s)) ∧
  (∀ (s : State), exec (.rtcAlarmMatch) s = .next (
      let t := s.utcSec
      if s.rtc.lastSecond = t then s
      else
        let s := s.modRtc (fun r => { r with lastSecond := t })
        if s.rtc.valid && t < calRange then matchAlarm 1 t (matchAlarm 0 t s) else s)) ∧
  (∀ (s : State), exec (.rtcTrimAccumulate) s =
      .next (if 32768 ≤ s.rtc.cycles then s.modRtc (fun r =>
        let a := r.trimAcc + 32768 * (r.trim + r.tempComp)
        let k := if 0 ≤ a then a / 10000000 else -((-a) / 10000000)
        { r with cycles := r.cycles - 32768, trimAcc := a - k * 10000000, trimTicks := r.trimTicks + k })
      else s)) ∧
  (∀ (correction : Int) (s : State), exec (.rtcTempCompensation correction) s =
      .next (if s.rtc.lastTemp + 64 * sec ≤ s.now then s.modRtc (fun r => { r with tempComp := correction, lastTemp := s.now }) else s)) ∧
  (∀ (s : State), exec (.rtcTrimLearn) s =
      .next (if 1024 < s.rtc.learnFor ∧ s.time.state = .locked then
        let r := s.rtc
        let ns : Int := (s.spanNs : Int) - r.learnTicks
        let got : Int := (r.ticks : Int) - r.learnStart - r.learnCorr
        let want := ns * tickHz
        let err := roundDiv ((got * sec - want) * 10000000) (max 1 want.toNat)
        let t := max (-2000) (min 2000 (r.trim - err))
        let s := applySetting 0x0111 (ofS 16 t) s
        s.modRtc (fun r => { r with learnFor := 1, learnStart := r.ticks, learnTicks := s.spanNs, learnCorr := 0 })
      else s)) ∧
  (∀ (result : Nat) (s : State), exec (.vaultScrub result) s =
      .next (if !s.deckUp then s
        else if result = 1 then raiseCE srcAbutSram [] s
        else if result = 2 then raiseUC srcAbutSram [] s
        else s)) ∧
  (∀ (s : State), wholeSecond s = (
      let s := ppsSecond s
      let s := applyBlock 1 none s
      let s := if s.mac.running then s else applyBlock 0x0A none (applyBlock 9 none (applyBlock 6 none s))
      extendPins (checkTableShort (learnSecond (discipline s))))) ∧
  (∀ (s : State), leapSecond s = (
      let utc : Int := (stSec s.time.spanT : Int) - 946684800 - s.rtc.u
      let ptp := if s.time.selected = 1 then s.time.ptp.parent.filter (·.utcValid) else none
      match ptp with
      | some p =>
        let d : Int := if p.leap61 && utc % 86400 == 0 then 1 else if p.leap59 && utc % 86400 == 86399 then -1 else 0
        if d = 0 then s
        else refreshU (s.modTime (fun t => { t with
          ptp := { t.ptp with parent := some { p with utcOffset := p.utcOffset + d, leap59 := false, leap61 := false } } }))
      | none =>
        let l := s.live 0x0106
        let k := bits l 17 16
        let atEnd : Int := (bits l 15 0 + 1 : Nat) * 86400
        if (k = 1 ∧ atEnd ≤ utc) ∨ (k = 2 ∧ atEnd ≤ utc + 1) then
          let v := ofS 16 (s.liveS 16 0x0105 + (if k = 1 then 1 else -1))
          let s := if k = 1 then s.modTime (fun t => { t with leapAt := some (946684800 + atEnd.toNat) }) else s
          syncShadow (applySetting 0x0106 0 (applySetting 0x0105 v s))
        else s)) ∧
  (∀ (s : State), timeExchange s = (
      let s1 := twinSend 0x07 (le 4 s.evCycle ++ encTimeI s.twin.t1Next ++ encTimeI s.twin.t4) s
      s1.modTwin (fun t => { t with t4 := none, timeSentCycle := some (s.spanNs / sec) }))) ∧
  (∀ (i t : Nat) (s : State), matchAlarm i t s = (
      match s.rtc.alarms[i]? with
      | none => s
      | some a =>
        if alarmLive a && alarmsOn s && decide (a.notBefore ≤ t) && alarmMatches a (calOfSeconds t) then
          if s.fb.backup then s.modRtc (fun r => { r with
            alarms := modAt r.alarms i (fun x => { x with latched := some t, fired := alarmSingle x }) })
          else fireAlarm i (if a.again then 8 else 0) 1 t s
        else s))

/-- R324, R328: each row’s next state and what it calls. -/
def Obligations.ContactorEvents : Prop :=
  (∀ (s : State), exec (.fallbackMinute) s = .next (
      let key := match fbTable s with | some t => minuteKey (tableLocal s t) | none => minuteKey s.utcSec
      if s.fb.lastMinute = some key ∨ s.fb.backup then s
      else
        let s := s.modFb (fun f => { f with lastMinute := some key })
        match s.fb.agent with
        | .sequencer => fallbackEval s
        | .firmware =>
          if s.rtc.valid && calRange ≤ s.utcSec && s.utcSec < calRange + 60 then fallbackEval s
          else match fbTable s with
          | some t => if rtcOk s then firmwareMinute 1 t (firmwareMinute 0 t s) else s
          | none => s)) ∧
  (∀ (s : State), exec (.fallbackKeepaliveRenew) s =
      .next (if s.fwUp && s.fb.agent == .firmware && s.fb.keepalive.isSome then
        jointSend 0x09 (s.modFb (fun f => { f with keepalive := some (s.now + s.live 0x0113 * ms) })) else s)) ∧
  (∀ (s : State), exec (.fallbackKeepaliveExpiry) s =
      .next (match s.fb.keepalive with
        | some t => if t ≤ s.now ∧ s.fb.agent = .firmware then seqTakes s else s
        | none => s)) ∧
  (∀ (s : State), seqTakes s = (
      if s.fb.agent = .sequencer then s else fallbackEval (takeControl .sequencer s))) ∧
  (∀ (s : State), fallbackEval s = (
      if s.fb.backup then s else fallbackDrive 1 (fallbackDrive 0 s))) ∧
  (∀ (k : Nat) (s : State), fallbackDrive k s = (
      match fallbackResult s k with
      | none => s
      | some (lvl, cause, di, m) =>
        if s.fb.cont[k]? = some lvl then s
        else ev evFallbackSwitch ([byte k, byte (b2n lvl), byte (agentCode s.fb.agent), byte cause] ++ le 2 di ++ le 2 m ++ zeros 6)
          (setContactor k lvl s))) ∧
  (∀ (k : Nat) (tbl : Bytes) (s : State), firmwareMinute k tbl s = (
      let l := tableLocal s tbl
      let m := (l % 86400).toNat / 60
      match tableLookup tbl k (l / 86400) m 1 0 with
      | some (_, em, _) =>
        if em = m ∧ !(s.truss.decisions.any (fun d => d.contactor == k && d.cycle == s.spanNs / sec)) then fallbackDrive k s else s
      | none => s))

/-- R334 to R347: each row’s next state and what it calls. -/
def Obligations.MeterDatapathEvents : Prop :=
  (∀ (edges : List Nat) (s : State), exec (.meterSecondClose edges) s =
      .next (if meterRuns s && secondOver s then meterSecondClose (takeBits edges s) else takeBits edges s)) ∧
  (∀ (phase : Nat) (edges : List Nat) (s : State), exec (.lineZeroCrossing phase edges) s =
      .next (if meterRuns s && phaseFitted s phase then zeroCrossing phase (takeBits edges s) else takeBits edges s)) ∧
  (∀ (phase : Nat) (edges : List Nat) (s : State), exec (.routingTimeout phase edges) s =
      .next (if meterRuns s && phaseFitted s phase && Nat.ble (s.meter.lastCross.getD (phase - 1) 0 + 25 * ms) s.now then
          let s := routePhase phase (s.spanNow + 1) (noteRouted phase (takeBits edges s))
          if phase = 1 then routeTotal s else s
        else takeBits edges s)) ∧
  (∀ (s : State), exec (.modClkGap) s =
      .next (if meterRuns s && s.meter.gapSince.isNone then s.modMeter (fun m => { m with gapSince := some (s.now - 2000) }) else s)) ∧
  (∀ (edges : List Nat) (s : State), exec (.modClkReturn edges) s =
      .next (returnClock edges s)) ∧
  (∀ (s : State), exec (.pfailFall) s =
      .next (if s.meter.pfail then s else pfailFall s)) ∧
  (∀ (s : State), exec (.pfailRise) s =
      .next (s.modMeter (fun m => { m with pfail := false }))) ∧
  (∀ (ph : Nat) (s : State), zeroCrossing ph s = (
      let t := crossingAt s.meter.path ph s.spanNow
      let s := s.modMeter (fun m => { m with path := { m.path with crossings := modAt m.path.crossings (ph - 1) (· ++ [t]) } })
      let s := routePhase ph (s.spanNow + 1) (noteRouted ph s)
      if ph = 1 then routeTotal s else s)) ∧
  (∀ (ph until_ : Nat) (s : State), routePhase ph until_ s = (
      let l := unrouted s.meter.path ph until_
      let s := routeCycle ph (cycleEnergy s ph l) s
      s.modMeter (fun m => { m with path := { m.path with routed := modAt m.path.routed (ph - 1) (· + l.length) } }))) ∧
  (∀ (edges : List Nat) (s : State), returnClock edges s = (
      if s.meter.gapSince.isSome then settleGap (takeBits edges s) else takeBits edges s)) ∧
  (∀ (s : State), settleGap s = (
      let n := dependents s
      if n ≤ 12 then (resumePath false s).modMeter (fun m => { m with interpNow := true })
      else
        let ns := n * 128000
        crossEv 0x14 evMeterClockGap (le 8 ns ++ le 6 (s.meter.rates.getD 0 0 * ns / sec / 2 ^ 32)) (creditGap ns (markFilled (resumePath true (fillLast s)))))) ∧
  (∀ (s : State), pfailFall s = (
      let s := s.modMeter (fun m => { m with pfail := true })
      let s := if meterRuns s then flushTotals s else s
      let s := pfailSlice (s.modPar (stageAll s.now))
      let s := match s.bist.active with | some r => abortRun r stOk s | none => s
      if s.fb.backup || s.boot.phase != .firmware then s else wakeUp 7 s))

/-- R350 to R356: each row’s next state and what it calls. -/
def Obligations.PulsesAndReconciliation : Prop :=
  (∀ (output : Nat) (s : State), exec (.poutPulsePhaseEnd output) s =
      .next (match s.meter.pouts[output]? with
        | none => s
        | some o =>
          if o.phase = 0 ∨ s.now < o.phaseEnd then s
          else if o.phase = 1 then
            s.modMeter (fun m => { m with
              pouts := modAt m.pouts output (fun o => { o with phase := 2, phaseEnd := o.phaseEnd + s.live (0x0648 + output) * ms }) })
          else startPulse output (s.modMeter (fun m => { m with pouts := modAt m.pouts output (fun o => { o with phase := 0 }) })))) ∧
  (∀ (input : Nat) (level : Bool) (s : State), exec (.pinEdge input level) s =
      .next (match s.meter.pins[input]? with
        | none => s
        | some p =>
          if s.fb.backup ∨ p.level = level ∨ !bankGood 2 s then s
          else s.modMeter (fun m => { m with
            pins := modAt m.pins input (fun p => { p with
              level := level, changing := if level = p.stable then none else some (s.now + debounceNs s input) }) }))) ∧
  (∀ (input : Nat) (s : State), exec (.pinDebounceExpiry input) s =
      .next (match s.meter.pins[input]? with
        | none => s
        | some p =>
          match p.changing with
          | none => s
          | some t =>
            if s.now < t ∨ s.fb.backup then s
            else
              let s := s.modMeter (fun m => { m with
                pins := modAt m.pins input (fun p => { p with
                  changing := none, stable := p.level, count := if p.level then (p.count + 1) % 2 ^ 32 else p.count }) })
              if p.level then jointSend (1 + input) s else s)) ∧
  (∀ (s : State), exec (.reconcileWindow) s =
      .next (match s.meter.prevWindow, s.meter.window with
        | some w, some cur =>
          if s.mac.running && s.fwUp && s.holder && Nat.blt (cur.start + s.live 0x0407) s.mac.cycle then reconcile w s else s
        | _, _ => s)) ∧
  (∀ (s : State), exec (.standbyMeterWindow) s =
      .next (if s.standby && s.fwUp && s.meter.active then standbyWindow s else s)) ∧
  (∀ (k : Nat) (s : State), startPulse k s = (
      match s.meter.pouts[k]? with
      | none => s
      | some o =>
        if poutDrives s k && o.phase == 0 && 0 < o.backlog then
          s.modMeter (fun m => { m with
            pouts := modAt m.pouts k (fun o => { o with
              backlog := o.backlog - 1, phase := 1, phaseEnd := s.now + s.live (0x0648 + k) * ms }) })
        else s)) ∧
  (∀ (w : ReconWin) (s : State), reconcile w s = (
      let r := winResult s.meter.prevEnergy w
      let s := s.modMeter (fun m => { m with
        results := (m.results ++ [r]).drop (m.results.length + 1 - 96), prevEnergy := w.covered, prevWindow := none,
        unexplained := roundDiv (winU m.prevEnergy w * 4) (100 * reconUnit) })
      noteResult r (w.param 0x0667) s)) ∧
  (∀ (s : State), standbyWindow s = (
      let q := ((stSec s.time.spanT : Int) - s.rtc.u).toNat / 900
      let own := importNow s
      let next := some (q, own, s.meter.holderImport, false)
      match s.meter.stdWindow with
      | none => s.modMeter (fun m => { m with stdWindow := next })
      | some (q0, own0, h0, filled) =>
        if q0 = q then s
        else
          let d := meterDisagreement (own - own0) (s.meter.holderImport - h0) (filled || s.meter.holderFilled)
          let s := s.modMeter (fun m => { m with stdWindow := next, holderFilled := false })
          s.modTwin (fun t => { t with disagreement := d, meterMismatch := Nat.blt 1000 d.natAbs })))

/-- R368 to R385: each row’s next state and what it calls. -/
def Obligations.TwinLinkFrames : Prop :=
  (∀ (f : LinkIn) (s : State), exec (.twinHello f) s =
      .next (if twinAlive s && bankGood 0 s then (if lengthOk 0x01 f then twinHello f s else frameBad s) else s)) ∧
  (∀ (f : LinkIn) (s : State), exec (.heartbeat f) s =
      .next (onLink 0x02 f id s)) ∧
  (∀ (f : LinkIn) (s : State), exec (.renew f) s =
      .next (onLink 0x03 f (fun s => if s.standby then renew f s else s) s)) ∧
  (∀ (f : LinkIn) (s : State), exec (.copy f) s =
      .next (onLink 0x04 f (fun s => if s.standby then copySegment f s else s) s)) ∧
  (∀ (f : LinkIn) (s : State), exec (.copyEnd f) s =
      .next (onLink 0x05 f (fun s => if s.standby then copyEnd f s else s) s)) ∧
  (∀ (f : LinkIn) (s : State), exec (.copyAck f) s =
      .next (onLink 0x06 f (fun s => if s.standby then s else copyAck f s) s)) ∧
  (∀ (f : LinkIn) (s : State), exec (.twinTime f) s =
      .next (onLink 0x07 f (fun s => if s.standby then twinTime f s else s) s)) ∧
  (∀ (f : LinkIn) (s : State), exec (.timeEcho f) s =
      .next (onLink 0x08 f (fun s => if s.standby then s else s.modTwin (fun t => { t with t4 := some (frameStart f s) })) s)) ∧
  (∀ (f : LinkIn) (s : State), exec (.echoFeed f) s =
      .next (onLink 0x09 f (fun s => if s.standby && s.mac.running then echoFed f s else s) s)) ∧
  (∀ (f : LinkIn) (s : State), exec (.echoResult f) s =
      .next (onLink 0x0A f (fun s => if s.standby then s else echoDone f s) s)) ∧
  (∀ (f : LinkIn) (s : State), exec (.journal f) s =
      .next (onLink 0x0B f (fun s => if s.standby then journalFrame f s else s) s)) ∧
  (∀ (f : LinkIn) (s : State), exec (.journalAck f) s =
      .next (onLink 0x0C f (journalAck f) s)) ∧
  (∀ (f : LinkIn) (s : State), exec (.health f) s =
      .next (onLink 0x0D f (fun s => s.modTwin (fun t => { t with peerHealth := fld f.payload 0 4 })) s)) ∧
  (∀ (f : LinkIn) (s : State), exec (.nak f) s =
      .next (onLink 0x0E f (nak f) s)) ∧
  (∀ (type : Nat) (f : LinkIn) (k : State → State) (s : State), onLink type f k s = (
      if twinAlive s && bankGood 0 s then
        if lengthOk type f then (let s := heard s; if s.twin.link = .up then k s else s) else frameBad s
      else s)) ∧
  (∀ (f : LinkIn) (s : State), twinHello f s = (
      let h := decHello f.payload
      let s := heard s
      let s := s.modTwin (fun t => { t with hello := some h, helloSinceReset := true })
      if s.twin.link = .up then (if s.twin.lastHello + 10 * ms ≤ s.now then sendHello s else s)
      else trainLink (s.modTwin (fun t => { t with link := .training })))) ∧
  (∀ (f : LinkIn) (s : State), renew f s = (
      let p := f.payload
      let cycle := fld p 0 4
      let flags := fld p 12 1
      let s := yieldDone cycle s
      let s := s.modTwin (fun t => { t with
        renewedAt := s.now, renewCycle := some cycle, peerHealth := fld p 8 4, peerYields := flags.testBit 0,
        hello := t.hello.map (fun h => { h with leaseMs := fld p 4 4 }),
        copyIn := some (endedCycle cycle, flags.testBit 1, []) })
      followStep (toS 64 (fld p 16 8)) s)) ∧
  (∀ (f : LinkIn) (s : State), copySegment f s = (
      inSequence 0x04 f (fun s =>
        s.modTwin (fun t => { t with
          copyIn := t.copyIn.map (fun c =>
            if c.1 = fld f.payload 0 4 then (c.1, c.2.1, c.2.2 ++ [(fld f.payload 4 4, f.payload.drop 8)]) else c) })) s)) ∧
  (∀ (f : LinkIn) (s : State), copyEnd f s = (
      let cycle := fld f.payload 0 4
      let answer (r : Nat) (s : State) : State := twinSend 0x06 (le 4 cycle ++ [byte r] ++ zeros 3) s
      match s.twin.copyIn with
      | none => answer 1 s
      | some (c, full, segs) =>
        let s := s.modTwin (fun t => { t with copyIn := none })
        let body := segs.flatMap (·.2)
        if c ≠ cycle ∨ body.length ≠ fld f.payload 4 4 ∨ crc32c body ≠ fld f.payload 8 4 ∨ (!full ∧ s.twin.copyInvalid) then answer 1 s
        else
          let raw := segs.foldl overlay (if full then [] else s.twin.copyRaw)
          match Config.copyDecode raw with
          | none => answer 1 s
          | some img => answer 0 (commitCopy cycle full raw img s))) ∧
  (∀ (f : LinkIn) (s : State), copyAck f s = (
      let s := match s.twin.copyOut with
        | some (c, img) =>
          if c = fld f.payload 0 4 then
            if fld f.payload 4 1 = 0 then
              s.modTwin (fun t => { t with copyAcked := some img, copyOut := none, needFull := false })
            else s.modTwin (fun t => { t with copyOut := none, needFull := true })
          else s
        | none => s
      if s.twin.yielding && s.twin.yieldSent && s.twin.latch && s.holder then releaseLease s else s)) ∧
  (∀ (f : LinkIn) (s : State), twinTime f s = (
      let t2 : Int := frameStart f s
      let s1 := match decTimeI (sub f.payload 4 10), s.twin.t2, s.twin.t3, decTimeI (sub f.payload 14 10) with
        | some t1, some p2, some p3, some t4 =>
          let s := modSource 5 (fun x => { x with count := x.count + 1, last := s.now }) s
          let s := if s.twin.peerHealth.testBit 5 || !s.mac.holderLocked then loseSource 5 s else qualify 5 s
          measure 5 (((t1 - p2) + (t4 - p3)) / 2) s
        | _, _, _, _ => s
      let t3 : Int := ((s1.spanNs + (s1.twin.lineFree - s1.now) : Nat) : Int)
      twinSend 0x08 (encTimeI (some t2) ++ encTimeI (some t3)) (s1.modTwin (fun t => { t with t2 := some t2, t3 := some t3 })))) ∧
  (∀ (f : LinkIn) (s : State), echoFed f s = (
      let p := f.payload
      let asn := fld p 1 5
      if asn ≤ asnNow s then echoResult (fld p 0 1) asn 2 s
      else s.modTwin (fun t => { t with feeds := t.feeds ++ [(fld p 0 1, asn, fld p 6 1, p.drop 8)] }))) ∧
  (∀ (f : LinkIn) (s : State), echoDone f s = (
      let asn := fld f.payload 0 5
      match s.mac.attempts.find? (fun a => a.port == fld f.payload 5 1 && a.echo == some asn) with
      | none => s
      | some a =>
        if fld f.payload 6 1 = 0 then endAttempt a true s
        else if a.noAck then endAttempt a false s
        else s.modMac (fun m => { m with attempts := m.attempts.map (fun x => if x = a then { x with echo := none } else x) }))) ∧
  (∀ (f : LinkIn) (s : State), journalFrame f s = (
      let p := f.payload
      if fld p 0 1 = 1 ∧ 4096 ≤ s.twin.journal.length then s
      else
        inSequence 0x0B f (fun s =>
          let s :=
            if fld p 0 1 = 1 then
              s.modTwin (fun t => { t with
                journal := t.journal ++ [{ sid := fld p 1 1, tag := fld p 2 1, opcode := fld p 4 2, acceptedCycle := fld p 8 4,
                                           completed := false, status := 0xFF, doneSec := 0 }] })
            else
              s.modTwin (fun t => { t with
                journal := t.journal.map (fun j =>
                  if j.sid = fld p 1 1 ∧ j.tag = fld p 2 1 ∧ j.acceptedCycle = fld p 8 4 ∧ !j.completed then
                    { j with completed := true, status := fld p 12 1, doneSec := s.spanNs / sec }
                  else j) })
          twinSend 0x0C (le 2 f.seq ++ zeros 2) s) s)) ∧
  (∀ (f : LinkIn) (s : State), journalAck f s = (
      let q := fld f.payload 0 2
      match s.twin.journalWait.find? (fun w => w.1 == q) with
      | none => s
      | some w =>
        (s.modCmd w.2 (fun c => { c with journaled := true })).modTwin (fun t => { t with
          journalWait := t.journalWait.filter (fun x => x.1 != q) }))) ∧
  (∀ (f : LinkIn) (s : State), nak f s = (
      let type := fld f.payload 0 1
      let first := fld f.payload 2 2
      let again := s.twin.sent.filter (fun x => x.type == type && (x.seq + 65536 - first) % 65536 < 32768
        && !s.twin.tx.any (fun y => y.type == type && y.seq == x.seq))
      s.modTwin (fun t => { t with tx := again.foldl (fun l x => insertAgain { x with resend := true } l) t.tx })))

/-- R368, R369, R376, R385: each row’s next state and what it calls. -/
def Obligations.TwinTimers : Prop :=
  (∀ (s : State), exec (.twinFrameBad) s =
      .next (if twinAlive s && bankGood 0 s then frameBad s else s)) ∧
  (∀ (s : State), exec (.twinLinkDownTimeout) s =
      .next (if twinAlive s && s.twin.link == .up && s.twin.lastValid + 8 * ms ≤ s.now then linkDown s
        else if s.twin.link == .training && s.twin.lastValid + 8 * ms ≤ s.now then s.modTwin (fun t => { t with link := .down })
        else s)) ∧
  (∀ (s : State), exec (.twinHelloTimer) s =
      .next (if twinAlive s && s.twin.link != .up && s.twin.lastHello + 10 * ms ≤ s.now then sendHello s else s)) ∧
  (∀ (s : State), exec (.heartbeatTimer) s =
      .next (if twinAlive s && s.twin.link == .up && s.twin.lastSent + ms ≤ s.now && s.twin.tx == []
          then twinSend 0x02 [] s else s)) ∧
  (∀ (s : State), exec (.healthYieldTimer) s =
      .next (if s.live 0x0A03 == 1 && s.twin.latch && s.holder && s.fwUp && unhealthyLong s && s.twin.link == .up
          && cleanWord s.twin.peerHealth && !s.twin.yielding then s.modTwin (fun t => { t with yielding := true, yieldSent := false })
        else s)) ∧
  (∀ (s : State), exec (.copyStale) s =
      .next (if s.standby && s.fwUp && Nat.blt (s.live 0x0A04) s.twin.staleCount then s.modTwin (fun t => { t with copyStale := true })
        else s)) ∧
  (∀ (s : State), linkDown s = (
      let s := s.modTwin (fun t => { t with
        link := .down, validSince := s.now, copyIn := none, copyOut := none, tx := [], rxSeq := [], journalWait := [],
        t1Next := none, t2 := none, t3 := none, t4 := none })
      let s := s.modHost (fun h => { h with live := h.live.map (fun c => { c with journaled := true }) })
      ev evTwinLinkDown [] (loseSource 5 s))) ∧
  (∀ (s : State), sendHello s = (
      let flags := s.live 0x0A02 + 2 * b2n (s.twin.latch && s.twin.interlock)
      (twinPut 0x01 (le 16 s.otp.unitId ++ le 6 s.firmwareVersion ++ le 4 (s.live 0x0A01) ++ [byte flags] ++ zeros 5) s).modTwin
        (fun t => { t with lastHello := s.now })))

/-- R371 to R375, R388: each row’s next state and what it calls. -/
def Obligations.LeaseEvents : Prop :=
  (∀ (s : State), exec (.leaseInAssert) s =
      .next (if s.twin.leaseIn || !bankGood 0 s then s else leaseInAssert s)) ∧
  (∀ (s : State), exec (.leaseInDeassert) s =
      .next (if s.twin.leaseIn && bankGood 0 s then leaseInDeassert s else s)) ∧
  (∀ (s : State), exec (.interlockOpen) s =
      .next (if !s.twin.interlock && (!s.twin.leaseIn || (!s.twin.latch && !bankGood 0 s))
          && s.twin.leaseInLowSince + 10 * us ≤ s.now && (!s.twin.latch || (s.twin.leaseOut && bankGood 0 s)) then
          if s.twin.latch && s.fwUp then takeover s
          else refreshLdEn (s.modTwin (fun t => { t with
            interlock := true, lease := if t.latch then .holder else t.lease, resumeDue := t.latch }))
        else s)) ∧
  (∀ (s : State), exec (.leaseExpiryTake) s =
      .next (if mayTake s then assertLease (if s.twin.peerYields then 2 else 1) s else s)) ∧
  (∀ (s : State), exec (.loneStartTimer) s =
      .next (if mayStartAlone s then assertLease 4 s else s)) ∧
  (∀ (s : State), exec (.conflictBackoffTimer) s =
      .next (match s.twin.backoffUntil with
        | none => s
        | some t =>
          if s.now < t then s
          else
            let s := s.modTwin (fun t => { t with backoffUntil := none })
            if s.twin.helloSinceReset then (if mayTake s then assertLease 1 s else s)
            else if mayStartAlone s then assertLease 4 s
            else s)) ∧
  (∀ (s : State), leaseInAssert s = (
      let held := s.twin.interlock
      let s := s.modTwin (fun t => { t with leaseIn := true, interlock := false })
      if !s.twin.latch then
        refreshLdEn (ev evLeaseConflict [] (s.modTwin (fun t => { t with
          leaseOut := false, lease := .conflict, leaseConflict := true, leaving := false })))
      else if s.twin.leaseOut then
        let s := s.modTwin (fun t => { t with lease := .conflict, resumeDue := false })
        let s := if held then refreshLdEn (loseLease s) else s
        arbitrate s
      else s)) ∧
  (∀ (s : State), leaseInDeassert s = (
      let s := s.modTwin (fun t => { t with leaseIn := false, leaseInLowSince := s.now })
      let s := if s.twin.latch then s
        else s.modTwin (fun t => { t with leaseOut := true, lease := .noTwin, leaseConflict := false })
      if s.boot.phase = .firmware then wakeUp 9 s else s)) ∧
  (∀ (cause : Nat) (s : State), assertLease cause s = (
      s.modTwin (fun t => { t with leaseOut := true, takeCause := cause }))) ∧
  (∀ (s : State), mayTake s = (
      s.standby && s.fwUp && !s.twin.leaseOut && !s.twin.leaseIn && s.twin.backoffUntil.isNone
        && s.twin.renewedAt + s.live 0x0A01 * ms ≤ s.now && cleanWord (health s))) ∧
  (∀ (s : State), mayStartAlone s = (
      s.standby && s.fwUp && !s.twin.leaseOut && !s.twin.leaseIn && s.twin.backoffUntil.isNone
        && !s.twin.helloSinceReset && !s.twin.linkUpSinceReset
        && max s.twin.resetAt s.twin.leaseInLowSince + s.twin.loneWait.getD (2 * s.live 0x0A01 * ms) ≤ s.now
        && cleanWord (health s - (if s.twin.copyInvalid then 64 else 0))))

/-- R396 to R410: each row’s next state and what it calls. -/
def Obligations.PowerEvents : Prop :=
  (∀ (s : State), exec (.powerEvaluation) s =
      .next (if managerIdle s then powerEvaluation s else s)) ∧
  (∀ (nack : Bool) (pgood : Bool) (status : Nat) (s : State), exec (.pmicAck nack pgood status) s = .next (
      match s.pwr.pmbus.request with
      | none => s
      | some mv =>
        if s.pwr.pmbus.retryAt.isSome then s
        else if nack then
          if s.pwr.pmbus.nackRetried then s
          else s.modPwr (fun p => { p with
            pmbus := { p.pmbus with retryAt := some (s.now + 20 * us), nackRetried := true, rereads := false } })
        else if s.now < statusRead s then s
        else
          let s := pmbusRead 0x79 (s.modPwr (fun p => { p with pgood := pgood }))
          if status.testBit 7 then s.modPwr (fun p => { p with
            pmbus := { p.pmbus with retryAt := some (s.now + 20 * us), rereads := true } })
          else if pgood && statusGood status then voutAcked mv s else s)) ∧
  (∀ (s : State), exec (.pmicAckTimeout) s =
      .next (if voutStop s + ms ≤ s.now then pmicTimeout s else s)) ∧
  (∀ (s : State), exec (.pmbusRetryTimer) s =
      .next (match s.pwr.pmbus.retryAt, s.pwr.pmbus.request with
        | some t, some mv =>
          if s.now < t then s
          else
            let s := s.modPwr (fun p => { p with pmbus := { p.pmbus with retryAt := none } })
            if s.pwr.pmbus.rereads then s
            else sendVout s.pwr.pmbus.exponent mv s
        | _, _ => s)) ∧
  (∀ (cause : Nat) (s : State), exec (.wake cause) s =
      .next (if s.boot.phase = .firmware ∧ wakeEnabled cause s then wakeUp cause s else s)) ∧
  (∀ (s : State), exec (.knownEventTimer) s =
      .next (if s.boot.phase = .firmware ∧ s.pwr.trans = none ∧ s.pwr.state ≠ .run then
        (match knownEvent s.pwr.state s with
          | some t => if t ≤ stateLatency s.pwr.state s + s.live 0x0204 * 1000 then wakeUp 1 s else s
          | none => s)
      else s)) ∧
  (∀ (s : State), powerEvaluation s = (
      let s := applyOpPoint (applyBlock 2 none s)
      if workRunnable s then toRun s else if s.pwr.trans.isSome then s else chooseState [.slumber, .nap, .idle] s)) ∧
  (∀ (s : State), pmicTimeout s = (
      match s.pwr.pmbus.request, s.pwr.trans with
      | none, _ => s
      | some _, some (.entry _ _) =>
        requestVout (pointMv s.pwr.opPoint) 1 ((countAbort 2 s).modPwr (fun p => { p with trans := some (.abandon 2 none) }))
      | some mv, tr =>
        if s.pwr.pmbus.attempt < 2 then requestVout mv 2 s
        else
          let s := s.modPwr (fun p => { p with pmbus := { p.pmbus with request := none, retryAt := none } })
          let s := match tr with
            | some (.exit _) => arriveExit s
            | some (.abandon _ _) => arriveAbandoned s
            | _ => s.modPwr (fun p => { p with trans := none })
          raiseFT srcPmicAckTimeout [] s)) ∧
  (∀ (cause : Nat) (s : State), wakeUp cause s = (
      let deep : Bool := Nat.ble 1 cause && Nat.ble cause 12
      let awake (s : State) : State :=
        if s.pwr.state = .idle ∨ s.pwr.state = .nap then recordWake cause (toRun s)
        else if s.pwr.state = .slumber ∧ deep then beginExit (recordWake cause s)
        else s
      match s.pwr.trans with
      | some (.entry _ _) => if deep then recordWake cause (s.modPwr (fun p => { p with wakePending := true })) else s
      | some (.exit _) | some (.abandon _ _) => if deep then recordWake cause s else s
      | _ => awake s))

/-- R395, R397, R411, R415, R419: each row’s next state and what it calls. -/
def Obligations.SupplySensorsAndJoints : Prop :=
  (∀ (celsius : Int) (s : State), exec (.thermalSensorChange celsius) s =
      .next (if s.boot.phase = .firmware then thermal celsius s else s)) ∧
  (∀ (status : Nat) (s : State), exec (.pmAlert status) s =
      .next (if s.deckUp then
        wakeUp 8 (pmbusWrite 0x03 [] (raiseCE srcPmicAlert (le 2 status) (pmbusRead 0x79 s)))
      else s)) ∧
  (∀ (s : State), exec (.pmPgoodFall) s =
      .next (if s.pwr.pgood then
        let s := s.modPwr (fun p => { p with pgood := false })
        if s.pwr.trans.isNone ∧ s.deckUp then raiseFT srcPmicPgoodLost [] s else s
      else s)) ∧
  (∀ (a : Bool) (b : Bool) (s : State), exec (.ethLinkPoll a b) s =
      .next (if s.fwUp && s.pwr.state == .run && decide (s.pwr.lastPoll + sec ≤ s.now) then
        s.modPwr (fun p => { p with linkA := a && bankGood 1 s, linkB := b && bankGood 1 s, lastPoll := s.now }) else s)) ∧
  (∀ (s : State), exec (.checkinWindowEnd) s =
      .next (match s.pwr.checkinEnd with
        | some t => if t ≤ s.now ∧ !ethOpen s then s.modPwr (fun p => { p with checkinEnd := none }) else s
        | none => s)) ∧
  (∀ (joint : Nat) (s : State), exec (.jointDelivery joint) s =
      .next (if destRuns joint s then jointDeliver joint s else s)) ∧
  (∀ (joint : Nat) (s : State), exec (.jointSideReset joint) s =
      .next (recordFlushed joint (flushJoint joint s))) ∧
  (∀ (celsius : Int) (s : State), thermal celsius s = (
      let hot : Bool := if 105 < celsius then true else if celsius < 95 then false else s.pwr.throttled
      let s :=
        if hot = s.pwr.throttled then s
        else applyOpPoint (ev evThermalThrottle [] (s.modPwr (fun p => { p with throttled := hot })))
      if 110 < celsius ∧ !s.par.safe then raiseFT srcThermalLimit [] s else s)) ∧
  (∀ (j : Nat) (s : State), jointDeliver j s = (
      let x := s.joint j
      match x.awaiting with
      | some k =>
        if eventJoint j then
          recordOverrun j (landCrossed j k (pulseLanded j (modJoint j (fun x => { x with
            delivered := x.delivered + k, awaiting := if 0 < x.c then some x.c else none, c := 0 }) s)))
        else modJoint j (fun x => { x with delivered := k, awaiting := none }) s
      | none =>
        match x.words with
        | w :: l => recordOverrun j (modJoint j (fun x => { x with words := l, delivered := w }) s)
        | [] => s)) ∧
  (∀ (j : Nat) (s : State), flushJoint j s = (
      let s := s.modPwr (fun p => { p with crossed := p.crossed.filter (fun x => x.1 != j) })
      modJoint j (fun x => { x with
        lost := if eventJoint j then satAdd 16 x.lost x.c else x.lost, c := 0, awaiting := none, words := [], flushed := true }) s))

/-- R118, R430 to R452: each row’s next state and what it calls. -/
def Obligations.FaultEvents : Prop :=
  (∀ (source : Nat) (cls : Nat) (payload : Bytes) (s : State), exec (.faultRaised source cls payload) s =
      .next (if s.deckUp && canRaise source cls then detectFault source cls payload s else s)) ∧
  (∀ (s : State), exec (.faultInjection) s =
      .next (match s.par.injections.find? (fun i => i.at_ ≤ s.now) with
        | none => s
        | some i => detectFault i.source i.cls [] (s.modPar (fun p => { p with injections := p.injections.erase i })))) ∧
  (∀ (s : State), exec (.ucEscalation) s =
      .next (match pendingSorted s with
        | e :: _ => if e.deadline ≤ s.now ∧ !s.par.safe then escalate e.source s else s
        | [] => s)) ∧
  (∀ (source : Nat) (s : State), exec (.firmwareFaultAck source) s =
      .next (match s.par.pending.find? (fun e => e.source == source) with
        | some e => if s.fwUp then ackFault source (containment e (toRun s)) else s
        | none => s)) ∧
  (∀ (core : Nat) (s : State), exec (.watchdogExpiry core) s =
      .next (match s.par.watchdogs[core]? with
        | none => s
        | some w =>
          if wdtCounts s && w.left == 0 then
            rearmWatchdog core (detectFault (srcApp0Wdt + core) (if core = 3 then clsFT else clsUC) [] s)
          else s)) ∧
  (∀ (core : Nat) (s : State), exec (.watchdogRenewal core) s =
      .next (if s.fwUp then rearmWatchdog core s else s)) ∧
  (∀ (s : State), exec (.safeHoldRestart) s =
      .next (
        let recent := s.par.restarts.filter (fun t => decide (s.now < t + 3600 * sec))
        if s.par.safe && s.live 0x0902 != 0 && decide (s.par.safeSince + s.live 0x0902 * sec ≤ s.now)
            && decide (recent.length < s.live 0x0903) then
          assertReset rtSystem 4 0xFF (s.modPar (fun p => { p with restarts := s.now :: recent }))
        else s)) ∧
  (∀ (s : State), exec (.eventPageCopy) s =
      .next (if s.fwUp ∧ (128 ≤ s.par.staged.length ∨ stagedLong s) then copyPage s
        else s)) ∧
  (∀ (s : State), exec (.eventLogEraseDone) s =
      .next (s.modPar (fun p => { p with erasing := false }))) ∧
  (∀ (code : Nat) (s : State), exec (.rateBucketRefill code) s =
      .next (match get? s.par.buckets code with
        | none => s
        | some b => s.modPar (fun p => { p with buckets := put p.buckets code (refilled s.now b) }))) ∧
  (∀ (source cls : Nat) (info : Bytes) (s : State), detectFault source cls info s = (
      let s := raiseFault source cls [] s
      let s := if cls = clsUC then noteInfo source info s else s
      let s := if source = srcKeystoneMisuse then s.modSec (fun k => { k with keystone := none }) else s
      if source = srcMainSram ∧ cls = clsUC ∧ info ≠ [] then
        s.modBist (fun b => { b with queued := insertSet b.queued (fld info 0 1 % 32) })
      else if (source = srcInternalError ∨ source = srcKeystoneMisuse) ∧ info.length = 2 ∧ s.fwUp then
        match s.cmd (fld info 0 1) (fld info 1 1) with
        | some c => if c.begun then fail c stInternal dNone s else s
        | none => s
      else s)) ∧
  (∀ (e : UcEntry) (s : State), containment e s = (
      (if e.infos = [] then [[]] else e.infos).foldl (fun s info => contain e.source info s) s)) ∧
  (∀ (core : Nat) (s : State), rearmWatchdog core s = (
      s.modPar (fun p => { p with watchdogs := modAt p.watchdogs core (fun w => { w with left := wdtTimeout s core }) }))) ∧
  (∀ (s : State), copyPage s = (
      let full := 8192 ≤ s.par.staged.length
      let s := s.modPar (fun p =>
        let page := p.staged.take 128
        let ring := if 262144 < p.flashRing.length + page.length then p.flashRing.drop 2048 else p.flashRing
        { p with flashRing := ring ++ page, staged := p.staged.drop 128, stagedAt := dropStaged 128 p.stagedAt })
      if full then s.modPar (stageAll s.now) else s))

/-- R467 and R468: each row’s next state and what it calls. -/
def Obligations.TamperEvents : Prop :=
  (∀ (source : Nat) (s : State), exec (.tamperCondition source) s =
      .next (if conditionHolds source s && !(s.tamperSrc source).active then senseTamper source s else s)) ∧
  (∀ (source : Nat) (s : State), exec (.tamperConditionEnd source) s =
      .next (if (source = 1 ∨ source = 2 ∨ source = 8) ∧ conditionHolds source s then s else tamperFalse source (settleAuth s))) ∧
  (∀ (level : Bool) (s : State), exec (.tamper0Edge level) s =
      .next (if s.sec.tamper0 = level then s
        else caseLevel (s.live 0x0801 == 1) (s.modSec (fun k => { k with tamper0 := level })))) ∧
  (∀ (s : State), exec (.tamper0DebounceExpiry) s =
      .next (if s.sec.tamper0Run && caseOpen s then
          senseTamper 1 (s.modSec (fun k => { k with tamper0Run := false }))
        else s)) ∧
  (∀ (s : State), exec (.guardLfsrAdvance) s =
      .next (if s.live 0x0803 ≠ 1 then guardOff s
        else if 1953125 ≤ 2 * (s.now - s.sec.lfsrAt) then
          s.modSec (fun k => { k with lfsr := lfsrNext k.lfsr, lfsrAt := s.now, guardSampled := false })
        else s)) ∧
  (∀ (level : Bool) (s : State), exec (.guardSample level) s =
      .next (if s.live 0x0803 ≠ 1 then guardOff s
        else if !s.sec.guardSampled ∧ 976562 ≤ 2 * (s.now - s.sec.lfsrAt) then
          let bad := level != s.sec.lfsr.testBit 0
          let s := s.modSec (fun k => { k with
            tamper1 := level, guardSampled := true, guardSamples := (bad :: k.guardSamples).take 32 })
          if guardBroken s then (if (s.tamperSrc 2).active then s else senseTamper 2 s) else tamperFalse 2 s
        else s)) ∧
  (∀ (s : State), exec (.vbatLowTimer) s =
      .next (if conditionHolds 3 s && !(s.tamperSrc 3).active then senseTamper 3 s else s)) ∧
  (∀ (source : Nat) (s : State), exec (.tamperRearmTimer source) s =
      .next (rearm source (settleAuth s))) ∧
  (∀ (source : Nat) (s : State), conditionHolds source s = (
      if source = 1 then caseOpen s
      else if source = 2 then guardBroken s
      else if source = 3 then s.fb.backup
      else if source = 4 then !s.fb.backup && s.pwr.trans.isNone && s.pwr.pmbus.request.isNone
      else if source = 5 then !s.fb.backup
      else if source = 6 then true
      else if source = 8 then s.live 0x0804 ≤ authFailures s
      else false)) ∧
  (∀ (source : Nat) (s : State), senseTamper source s = (
      let acts := (s.tamperSrc source).armed && 2 ≤ (s.tamperSrc source).policy
      let s := tamperTrue source s
      if acts && !s.fb.backup then wakeUp 12 s else s)) ∧
  (∀ (source : Nat) (s : State), tamperTrue source s = (
      let acts := (s.tamperSrc source).armed
      let s := modTamper source (fun t => { t with active := true, latched := t.latched || acts, armed := false }) s
      if acts then tamperActs source s else s)) ∧
  (∀ (source : Nat) (s : State), tamperFalse source s = (
      if (s.tamperSrc source).active then modTamper source (fun t => { t with active := false, falseSince := s.now }) s else s)) ∧
  (∀ (l : Nat), lfsrNext l = (
      let b := (bits l 0 0 + bits l 2 2 + bits l 3 3 + bits l 5 5) % 2
      l / 2 + 32768 * b))

/-- R482 to R514: each row’s next state and what it calls. What a slice observes is its operand. -/
def Obligations.UpdateRecoveryAndSelftestEvents : Prop :=
  (∀ (s : State), exec (.updateSectorErased) s =
      .next (if s.fwUp then sectorErased s else s)) ∧
  (∀ (s : State), exec (.updateVerifyDone) s =
      .next (if s.fwUp && s.upd.state == .verifying then verifyDone s else s)) ∧
  (∀ (s : State), exec (.updateJournalExpiry) s =
      .next (match s.upd.session with
        | some x => if s.fwUp && s.live 0x0701 != 0 && decide (x.lastStored + s.live 0x0701 * sec ≤ s.now) then dropSession s else s
        | none => s)) ∧
  (∀ (s : State), exec (.trialTimeLimit) s =
      .next (if s.boot.phase = .firmware ∧ s.upd.boot.trial.isSome ∧ 600 * sec ≤ trialTime s then
        assertReset rtSystem 5 0xFF (s.modUpd (fun u => { u with boot := { u.boot with revert := 2 } }))
      else s)) ∧
  (∀ (s : State), exec (.recoveryHelloTimer) s =
      .next (
        let r := s.upd.recovery
        if r.running && !r.hostSeen && decide (r.lastHello + sec ≤ s.now) then
          romHello (modRecovery (fun r => { r with lastHello := s.now }) s)
        else s)) ∧
  (∀ (frame : Bytes) (s : State), exec (.recoveryBegin frame) s =
      .next (romCommand 2 frame romBegin s)) ∧
  (∀ (frame : Bytes) (s : State), exec (.recoveryData frame) s =
      .next (romCommand 3 frame romData s)) ∧
  (∀ (frame : Bytes) (s : State), exec (.recoveryBoot frame) s =
      .next (recoveryBoot frame s)) ∧
  (∀ (s : State), exec (.selftestSweepStart) s =
      .next (match s.bist.sweepFrom with
        | some t =>
          if s.fwUp && s.bist.sweep.isNone && s.live 0x0B01 != 0 && t + s.live 0x0B01 * 3600 * sec ≤ s.now then
            s.modBist (fun b => { b with
              sweepFrom := some (s.now - (s.now - t) % (s.live 0x0B01 * 3600 * sec)),
              sweep := some { full := true, units := sweepUnits (s.live 0x0408 == 1) b ++ allAbut ++ allMram, tested := 0, failed := 0,
                              slices := 0 } })
          else s
        | none => s)) ∧
  (∀ (r : SliceIn) (s : State), exec (.selftestSliceStart r) s =
      .next (if s.fwUp && !s.bist.sliceRunning && s.bist.lastSliceEnd + s.live 0x0B04 * ms + s.intoSlot ≤ s.now then sliceStart r s else s)) ∧
  (∀ (s : State), exec (.scanRequest) s =
      .next (if s.testRoot && s.sec.debugUnlocked && s.boot.phase == .firmware && !s.bist.scanEnabled && s.bist.scanAt.isNone
          then scanRequest s else s)) ∧
  (∀ (r : SliceIn) (s : State), sliceStart r s = (
      let s := takeQueued s
      let isRun := runNext s.bist
      if jobUnits isRun s.bist = [] then checkSweep (checkRun s)
      else
        let s := s.modBist (fun b => { b with sliceRunning := true, sliceRun := isRun, sliceAt := s.now, sliceObs := r.results })
        let left := (sliceWork isRun (jobAlg isRun s) 4096 (jobBudget isRun s) r.results s).2
        s.modBist (fun b => { b with lastSliceEnd := s.now + (jobBudget isRun s - left) }))) ∧
  (∀ (s : State), scanRequest s = (
      let n := secretBanks s
      let s := s.modBist (fun b => { b with coresHalted := true })
      let s := clearKeystone (seqTakes s)
      let s := s.modSec (fun k => { k with lfsr := 0, guardSamples := [] })
      s.modBist (fun b => { b with scanAt := some (s.now + n * 163840) }))) ∧
  (∀ (s : State), sectorErased s = (
      match s.upd.session with
      | none => s
      | some x =>
        if slotSectors ≤ x.erased then s
        else
          let s := s.modUpd (fun u => { u with session := some { x with erased := x.erased + 1 } })
          (s.host.live.filter (fun c => c.begun && c.wait == .erase)).foldl (fun s c => storeFragment c s) s)) ∧
  (∀ (s : State), verifyDone s = (
      match s.upd.session with
      | none => s
      | some x =>
        match verifyPayload x.header (s.upd.slot x.target).payload s with
        | .inl m =>
          (modSlot x.target (fun g => { g with frags := asFrags m, valid := true, plain := true }) s).modUpd (fun u => { u with
            state := .ready, session := some { x with decrypted := if hdrEncrypted x.header then usedSectors x.header else 0 } })
        | .inr d =>
          ev evUpdateFailed [byte d] ((modSlot x.target (fun g => { g with valid := false }) s).modUpd (fun u => { u with
            state := .failed, detail := d, session := none })))) ∧
  (∀ (s : State), dropSession s = (
      let target := match s.upd.session with | some x => x.target | none => inactive s
      (modSlot target (fun g => { g with valid := false }) (unactivate (endFragments s))).modUpd (fun u => { u with
        state := .idle, detail := 0, session := none }))) ∧
  (∀ (type : Nat) (f : Bytes) (body : Bytes → State → State × Nat × Nat) (s : State), romCommand type f body s = (
      if !s.upd.recovery.running then s
      else match hostFrame type f with
        | none => s
        | some p =>
          let seq := fld f 2 2
          if s.upd.recovery.lastSeq = some seq then romSend s.upd.recovery.lastStatus s
          else
            let r := body p s
            romStatus seq r.2.1 r.2.2 r.1)) ∧
  (∀ (h : Bytes) (s : State), romBegin h s = (
      if h.length ≠ 512 then (s, stBadLength, dLengthOpcode)
      else match headerRefusal h true true s with
        | some (st, d) => (s, st, d)
        | none =>
          let t := recoverySlot s
          let resumes : Bool := match s.upd.session with | some x => x.header == h && x.target == t | none => false
          let s := if resumes then s else ev evUpdateBegun (hdrVersion h ++ [byte (hdrCounter h), byte t]) (newSessionUpd h t s)
          (s.modUpd (fun u => { u with session := u.session.map (fun x => { x with erased := slotSectors }) }), stOk, dNone))) ∧
  (∀ (p : Bytes) (s : State), romData p s = (
      let i := fld p 0 4
      let d := p.drop 8
      match s.upd.session with
      | none => (s, stBadParam, 0x89)
      | some x =>
        if !zeroAt p 4 4 then (s, stBadParam, dReservedBit)
        else if hdrFrags x.header ≤ i ∨ d.length ≠ fragLen (hdrLen x.header) i then (s, stBadParam, 0x89)
        else if x.bitmap.contains i then (s, stOk, dNone)
        else
          let s := programFrag x i d s
          if s.upd.state = .verifying then
            let s := verifyDone s
            if s.upd.state = .failed then (s, stImageBad, s.upd.detail) else (s, stOk, dNone)
          else (s, stOk, dNone))) ∧
  (∀ (f : Bytes) (s : State), recoveryBoot f s = (
      let fresh : Bool := s.upd.recovery.running && (hostFrame 5 f).isSome && s.upd.recovery.lastSeq != some (fld f 2 2)
      let go : Bool := s.upd.state == .ready
      let s := romCommand 5 f (fun p s =>
        if p ≠ [] then (s, stBadLength, dLengthOpcode) else if s.upd.state = .ready then (s, stOk, dNone) else (s, stBusy, 0x82)) s
      if fresh && go && hostFrame 5 f == some [] then romBoot s else s))

/-- R126 to R160: each row’s next state and what it calls. -/
def Obligations.PlacementEvents : Prop :=
  (∀ (s : State), exec (.placementEvaluation) s = .next (
      let first : Bool := !s.boot.evaluated && (match s.boot.firstEvalAt with | some t => decide (t ≤ s.now) | none => false)
      if !s.fwUp ∨ !(s.truss.evalNow || first) then s
      else
        let s := if s.holder then evaluatePlacement s else s.modTruss (fun u => { u with evalDue := false, evalNow := false })
        let s := firmwareTakes s
        if !first then s
        else
          let s := (s.modBoot (fun b => { b with evaluated := true, firstEvalAt := none })).modBist (fun b => { b with
            sweepFrom := some s.now })
          let s := if s.holder then (s.truss.policies.map (·.2)).foldl catchUpPolicy s else s
          autoStart (refreshLdEn (s.modLamp (fun l => { l with catchUp := true }))))) ∧
  (∀ (policy : Nat) (site : Nat) (s : State), exec (.dayTableRefresh policy site) s =
      .next (match s.policy policy with
        | some p =>
          let day := s.utcSec / 86400
          let r := p.record
          let stale := (s.truss.fragments.filter (fun f => f.policy == policy && f.site == site && f.tier < 3 && f.state != 7)).map
              (fun f => (f.version, f.tableDay))
            ++ (s.truss.piers.filter (fun q => q.head == site)).flatMap (fun q =>
              (q.entries.filter (fun e => e.policy == policy && !e.gone)).map (fun e => (e.version, e.tableDay)))
          match stale.find? (fun x => Nat.blt x.2 day) with
          | some (v, _) =>
            if trussRuns s && reachable s site && (rTrigger r == 3 || needsLocal r) && site % 600 ≤ s.utcSec % 86400 then
              sendOwn site 0x0203 (le 4 policy ++ le 2 v ++ zeros 2 ++ dayTables s r site day)
                (s.modTruss (refreshTables s policy site day s.mac.nextTxn))
            else s
          | none => s
        | none => s)) ∧
  (∀ (policy : Nat) (s : State), exec (.spanPolicyTrigger policy) s =
      .next (spanTrigger policy (lampDue s))) ∧
  (∀ (output : Nat) (policy : Nat) (s : State), exec (.claimHoldExpiry output policy) s =
      .next (if s.boot.phase = .firmware then
          let s := lampDue s
          endClaims [output] (fun c => c.policy == policy && (match c.until_ with | some t => t ≤ s.now | none => false)) s
        else s)) ∧
  (∀ (policy : Nat) (s : State), exec (.policyValidityEnd policy) s =
      .next (match s.policy policy with
        | none => s
        | some p =>
          match validUntil p.record with
          | none => s
          | some u =>
            if s.fwUp && s.holder && u ≤ s.spanNs && s.truss.fragments.any (fun f => f.policy == policy) then
              let s := endPolicyClaims policy s
              let s := s.modTruss (fun t => { t with
                evalDue := true,
                fragments := t.fragments.map (fun f => if f.policy = policy ∧ f.tier = 3 then { f with state := 7 } else f) })
              if s.mac.running then s else evaluateNow s
            else s)) ∧
  (∀ (s : State), exec (.placementHoldEnd) s =
      .next (match s.truss.hold with
        | some (t, _) => if t ≤ s.now then s.modTruss (fun u => { u with hold := none }) else s
        | none => s)) ∧
  (∀ (number : Nat) (s : State), exec (.subscriptionExpiry number) s =
      .next (let live : Bool := s.truss.subs.any (fun u => u.number == number && (match u.until_ with | some t => decide (t ≤ s.now) | none => false))
        if s.fwUp && live then
          syncHeads (s.modTruss (fun t => { t with subs := t.subs.filter (fun u => u.number != number) }))
        else s)) ∧
  (∀ (s : State), evaluatePlacement s = (
      let s := if !s.mac.running && s.mac.topoChanged then newRoutes s else s
      let s := s.modTruss (fun u => { u with piers := if holdOn s then u.piers else nextPiers s })
      let e := evaluated s
      let s := s.modTruss (fun u => { u with fragments := settleEmpty s e.frags, kept := e.kept.eraseDups, evalDue := false, evalNow := false })
      let s := noteShortfall s
      let s := pushAll none (syncHeads (viaductSubs s))
      placementsDone (s.modTruss (fun u => { u with savedFragments := u.fragments, savedPiers := u.piers, sides := budgetSides s })))) ∧
  (∀ (pol : Nat) (s : State), spanTrigger pol s = (
      match s.policy pol, spanFrag s pol with
      | some p, some f =>
        let r := p.record
        let hi := trigNow s r
        let lo := if hi < p.considered ∧ rTrigger r ≠ 1 then hi - 1 else p.considered
        if !trussRuns s ∨ ((rTrigger r = 2 ∨ rTrigger r = 3) ∧ !rtcOk s) ∨ rTrigger r = 0 ∨ 4 < rTrigger r ∨ hi < lo then s
        else
          let s' := s.modTruss (fun u => { u with policies := put u.policies pol { p with considered := hi } })
          if !validAt p s.spanNs then s'
          else if rTrigger r = 3 ∧ !scopeLocal r ∧ f.targets ≠ [] then
            let ts := f.targets.filter (fun t => timeFires s r t lo hi)
            if ts = [] then s' else firePolicy p ts.contains s'
          else if timeFires s r 0x1FFE lo hi then firePolicy p (fun _ => true) s' else s'
      | _, _ => s)) ∧
  (∀ (outs : List Nat) (p : Claim → Bool) (s : State), endClaims outs p s = (
      outs.foldl (fun s n =>
        match topClaim ((s.ch n).claims.filter p) with
        | none => s
        | some e =>
          let s := modCh n (fun c => { c with claims := c.claims.filter (fun x => !p x) }) s
          followTop [n] e.change.fade e.change.curve s) s))

/-- R248 to R266: each row’s next state and what it calls. -/
def Obligations.LampEvents : Prop :=
  (∀ (output : Nat) (s : State), exec (.lampPeriodStart output) s =
      .next (
        if s.boot.phase ≠ .firmware ∨ !s.lampRuns ∨ 24 ≤ output ∨ !periodDue s output then s
        else
          let s := applyLampPart (fun id => id == 0x0520 + output || (output == 0 && id < 0x0520)) s
          let g := if s.pwr.stopped then ((s.ch output).period + 1, (s.ch output).error) else gridOf s output s.spanNs
          let s := modCh output (fun c => { c with
            period := g.1, error := g.2, cal := c.calNext.orElse (fun _ => c.cal), calNext := none,
            periodAt := s.now, ticks := periodTicks (!s.pwr.stopped) g.2, pulses := [] }) s
          let s := s.modLamp (fun l => { l with phaseUnlocked := l.chans.any (fun c => 50 < c.error.natAbs) })
          modCh output (fun c =>
            let d := dutyOf s output c.level
            { c with duty := d, pulses := wave (s.live 0x0502) (chSpread s output) d c.ticks }) s)) ∧
  (∀ (output : Nat) (s : State), exec (.fadeStep output) s =
      .next (
        match (s.ch output).fade with
        | none => s
        | some f =>
          if s.boot.phase = .firmware ∧ f.t0 + (f.step + 1) * 10 * ms ≤ s.now then
            let k := f.step + 1
            let v := fadeDuty f.curve f.start f.target k f.steps
            let s := modCh output (fun c => { c with
              level := v, fade := if f.steps ≤ k then none else some { f with step := k } }) s
            let g := chGroup s output
            let s := modGroup g (fun c =>
              if c.step < c.steps ∧ c.t0 + (c.step + 1) * 10 * ms ≤ s.now then
                (if c.steps ≤ c.step + 1 then { c with point := c.target, step := 0, steps := 0 } else { c with step := c.step + 1 })
              else c) s
            refreshDuty outputs s
          else s)) ∧
  (∀ (s : State), exec (.localApplyTime) s =
      .next (lampDue s)) ∧
  (∀ (s : State), exec (.ldFaultFall) s =
      .next (
        if s.lamp.faultLow ∨ !bankGood 2 s then s
        else
          let s := s.modLamp (fun l => { l with
            faultLow := true, fallAt := s.now, fallSpan := ofNs s.spanNow, fallMap := activeMap s, filtered := false })
          if s.boot.phase = .firmware ∧ s.lampRuns then wakeUp 11 s else s)) ∧
  (∀ (s : State), exec (.ldFaultFilterExpiry) s =
      .next (
        let from_ := if s.lamp.ldEn then max s.lamp.fallAt (s.lamp.ldEnAt + ms) else s.lamp.fallAt
        let again := s.lamp.filtered && s.lamp.ldEn && decide (s.lamp.filteredAt < s.lamp.ldEnAt)
        if s.boot.phase = .firmware ∧ s.lampRuns ∧ s.lamp.faultLow ∧ (!s.lamp.filtered ∨ again) ∧ from_ + s.live 0x0509 * us ≤ s.now then
          let s := crossEv 0x17 evLdFault (le 3 s.lamp.fallMap ++ zeros 1 ++ encTime s.lamp.fallSpan)
            (s.modLamp (fun l => { l with filtered := true, filteredAt := s.now }))
          if s.live 0x0508 = 1 then latchShutdown s else s
        else s)) ∧
  (∀ (s : State), exec (.ldFaultRise) s =
      .next (
        if !s.lamp.faultLow ∨ !bankGood 2 s then s
        else
          let low := min ((s.now - s.lamp.fallAt) / us) 0xFFFFFFFF
          let was := s.lamp.filtered
          let s := s.modLamp (fun l => { l with faultLow := false, filtered := false })
          if was ∧ s.boot.phase = .firmware then crossEv 0x17 evLdFaultClear (le 4 low ++ [byte (b2n s.lamp.latched)] ++ zeros 9) s else s)) ∧
  (∀ (s : State), exec (.ldFaultRetryTimer) s =
      .next (match s.lamp.retryAt with
        | none => s
        | some t =>
          if t ≤ s.now ∧ s.lamp.latched ∧ s.boot.phase = .firmware then
            refreshLdEn (s.modLamp (fun l => { l with latched := false, retryAt := none }))
          else s)) ∧
  (∀ (curve d0 d1 k f : Nat), fadeDuty curve d0 d1 k f = (
      if f ≤ k then d1
      else if curve = 2 then
        let r := Nat.sqrt (16 * k ^ 2 * (f - k) ^ 2 * d0 * d1)
        (2 * (d0 * (f - k) ^ 2 + d1 * k ^ 2) + f ^ 2 + r) / (2 * f ^ 2)
      else if curve = 4 then mixInt d0 d1 (3 * k ^ 2 * f - 2 * k ^ 3) (f ^ 3)
      else if curve = 1 then mixInt d0 d1 k f
      else lstarInv (lstar d0 + (lstar d1 - lstar d0) * k / f))) ∧
  (∀ (s : State), latchShutdown s = (
      let shut := (s.now :: s.lamp.shutdowns).take 3
      let third := shut.length = 3 ∧ s.now < shut.getD 2 0 + 3600 * sec
      let retry := s.live 0x050A
      refreshLdEn (s.modLamp (fun l => { l with
        latched := true, stuck := third, shutdowns := shut,
        retryAt := if retry = 0 ∨ third then none else some (s.now + retry * sec) })))) ∧
  (∀ (s : State), refreshLdEn s = (
      let on := s.live 0x0500 == 1 && s.lampRuns && s.holder && !s.par.safe && !s.lamp.latched && s.lamp.catchUp
        && s.boot.phase == .firmware
      s.modLamp (fun l => { l with ldEn := on, ldEnAt := if on && !l.ldEn then s.now else l.ldEnAt })))

/-- R308, R322, R528 to R541: each row’s next state and what it calls. -/
def Obligations.ResetEvents : Prop :=
  (∀ (s : State), exec (.resetNAssert) s =
      .next (if s.boot.resetN ∧ !s.fb.backup then
        assertReset rtSystem 2 0xFF (s.modBoot (fun b => { b with resetN := false, resetNSince := s.now }))
      else s)) ∧
  (∀ (recoveryLow : Bool) (s : State), exec (.resetNRelease recoveryLow) s =
      .next (if s.boot.resetN then s else s.modBoot (fun b => { b with resetN := true, recoveryN := !recoveryLow }))) ∧
  (∀ (s : State), exec (.backupEntry) s =
      .next (if s.fb.backup then s
        else
          let s := tamperFalse 5 (tamperFalse 4 (assertReset rtPowerOn 1 0xFF s))
          (s.modFb (fun f => { f with backup := true })).modPwr (fun p => { p with backupSeen := true, vcore := 0, pgood := false }))) ∧
  (∀ (s : State), exec (.vaultSupplyLoss) s =
      .next (if s.fb.backup then loseVault s else s)) ∧
  (∀ (s : State), exec (.powerOnReset) s =
      .next (if s.fb.backup then
        let s := tamperFalse 3 (s.modFb (fun f => { f with backup := false }))
        let s := resetTimeUnit (s.modMeter (fun m => { m with restartAt := some s.now }))
        fallbackEval (s.modBoot (fun b => { b with
          phase := .reset, resetType := if b.vaultLost then rtCold else rtPowerOn, resetSource := 1, resetSession := 0xFF,
          resetAt := s.now }))
      else s)) ∧
  (∀ (e : BootEnv) (s : State), exec (.bootSequence e) s =
      .next (if s.boot.phase = .reset ∧ s.boot.resetN ∧ !s.fb.backup then bootFrom e s else s)) ∧
  (∀ (e : BootEnv) (s : State), exec (.pmicStartupRetry e) s =
      .next (if s.boot.phase = .pmicFault ∧ s.boot.pmicRetryAt ≤ s.now then bootFrom e (s.modBoot (fun b => { b with phase := .reset })) else s)) ∧
  (∀ (bank : Nat) (mode : Nat) (s : State), exec (.ioBankChange bank mode) s =
      .next (match s.boot.banks[bank - 1]? with
        | some b => if bank = 0 ∨ b.mode = mode ∨ !bankMode bank mode ∨ (b.good = false ∧ mode = 0) then s else ioBankChange bank mode s
        | none => s)) ∧
  (∀ (s : State), loseVault s = (
      let s := s.modRtc (fun r => { resetRtc with stdOffset := r.stdOffset, transitions := r.transitions, u := r.u, shortRecorded := r.shortRecorded })
      let s := s.modFb (fun f => { f with tableSram := none, tableVault := none })
      let s := s.modPar (fun p => { p with restarts := [], volatileBuf := [] })
      let s := s.modSec (fun k => { k with tamperLog := [], epoch := 0, eraseOwed := none, actsOwed := [] })
      let s := s.modTwin (fun t => { t with latch := true, lease := .standby, interlock := false })
      s.modBoot (fun b => { b with vaultLost := true, resetType := rtCold }))) ∧
  (∀ (e : BootEnv) (s : State), bootFrom e s = (
      let dialogue := s.boot.resetType ≤ rtSystem
      if dialogue && !(voutModeOk e.voutMode && e.acked) then
        s.modBoot (fun b => { b with phase := .pmicFault, pmicFailures := b.pmicFailures + 1, pmicRetryAt := s.now + sec })
      else
        let s := if dialogue then
            (sendVout (toS 5 e.voutMode) 900 (pmbusRead 0x20 s)).modPwr (fun p => { p with
              vcore := 900, pgood := true, opPoint := 1, pmbus := { p.pmbus with exponent := toS 5 e.voutMode } })
          else s
        let s := restartEvents (s.boot.resetType == rtCold) s
        let byPin : Bool := e.recoveryLow || !s.boot.recoveryN
        let s := s.modBoot (fun b => { b with recoveryN := true })
        let rec_ : Bool := byPin || s.boot.resetType == rtRecovery
        let s := writeLatch (startTest e rec_ s)
        if rec_ then
          let s := if s.boot.resetType = rtRecovery then s else s.modBoot (fun b => { b with resetType := rtRecovery, resetSource := 7 })
          enterRecovery (if byPin then 1 else 2) (loseSram s)
        else
          let c := chooseSlot e.badA e.badB (readBootRecord s)
          if c.2 then enterRecovery 3 c.1 else startFirmware c.1)) ∧
  (∀ (bank mode : Nat) (s : State), ioBankChange bank mode s = (
      let good : Bool := mode != 0
      let s := s.modBoot (fun b => { b with banks := modAt b.banks (bank - 1) (fun _ => { good := good, mode := mode }) })
      let s := if bank = 1 ∧ !good ∧ s.twin.latch then
          refreshLdEn (dropLeaseOut (if s.twin.interlock then loseLease s else s))
        else s
      if s.boot.phase = .firmware then ev evIoBankFault ([byte bank, byte (b2n good), byte mode] ++ zeros 11) s else s))

/-- The frame of every command: which parts of the module it cannot touch. -/
def Obligations.FrameOfCommands : Prop :=
  ∀ (i : Instr) (s t : State), (opcodeOf i).isSome = true → exec i s = .next t → ∀ p : Part, p ∉ mayChange i → SamePart p s t

/-- The frame of every event: which parts of the module it cannot touch. -/
def Obligations.FrameOfEvents : Prop :=
  ∀ (i : Instr) (s t : State), opcodeOf i = none → exec i s = .next t → ∀ p : Part, p ∉ mayChange i → SamePart p s t

/-- R279, R308, R324, R529 and R531 for a COLD start; TIME_TAI_UTC is its Reset value 37. -/
def Obligations.ResetLeaves : Prop :=
  State.reset.boot.resetType = 1 ∧ State.reset.boot.resetSource = 1 ∧ State.reset.set = default ∧
  (∀ id r, id ≠ 0x0111 → settingInfo id = some r → State.reset.live id = r.reset ∧ State.reset.shadow id = r.reset) ∧
  State.reset.rtc.ticks = 0 ∧ State.reset.rtc.valid = false ∧
  State.reset.time.spanT = (946684800 + 37) * 10 ^ 9 * 2 ^ 32 ∧ State.reset.time.state = .free ∧
  State.reset.fb.agent = .sequencer ∧ (∀ n, State.reset.session n = none) ∧ State.reset.hostFlow = true ∧
  State.reset.host.huartBaud = 115200 ∧ State.reset.mac.running = false ∧ State.reset.lamp.ldEn = false ∧
  State.reset.par.safe = false ∧ State.reset.par.pending = [] ∧ State.reset.sec.keystone = none ∧
  State.reset.twin.leaseOut = false ∧ State.reset.twin.interlock = false ∧ State.reset.pending = []

/-- R441, Table 14.2, and Table 12.11 for a stopped DECK. -/
def Obligations.SafeStateEntry : Prop :=
  (∀ (code source index : Nat) (s : State), s.par.safe = false → s.pwr.stopped = false →
    (enterSafe code source index s).par.safe = true ∧ (enterSafe code source index s).par.pending = [] ∧
    (enterSafe code source index s).par.injections = [] ∧ (enterSafe code source index s).set.pend = [] ∧
    (enterSafe code source index s).lamp.ldEn = false ∧ (enterSafe code source index s).sec.keystone = none ∧
    (enterSafe code source index s).twin.leaseOut = false ∧
    (s.twin.latch = true → (enterSafe code source index s).twin.interlock = false) ∧
    (enterSafe code source index s).fb.agent = .sequencer ∧ (enterSafe code source index s).fb.cont = (seqTakes s).fb.cont ∧
    (s.fb.agent = .sequencer → (enterSafe code source index s).fb = s.fb) ∧
    (enterSafe code source index s).time.state ≠ .locked ∧ (enterSafe code source index s).mac.attempts = [] ∧
    (∀ o ∈ (enterSafe code source index s).meter.pouts, o.phase = 0) ∧
    (∀ n x, n < 4 → (enterSafe code source index s).session n = some x → x.transport ≠ .eth) ∧
    (enterSafe code source index s).host.win.causeSafe = true) ∧
  (∀ (code source index : Nat) (s : State), s.par.safe = false → s.pwr.stopped = true →
    (enterSafe code source index s).par.safe = false ∧
    (enterSafe code source index s).par.safeOwed = some (s.par.safeOwed.getD (code, source, index)) ∧
    (enterSafe code source index s).pwr.wakePending = true) ∧
  (∀ (code source index : Nat) (s : State), s.par.safe = true → enterSafe code source index s = s)

/-- R31, sentence by sentence. While the DECK’s clocks are stopped entry to safe state follows the exit (Table 12.11). -/
def Obligations.PendingSetsDiscarded : Prop :=
  (∀ (code source index : Nat) (s : State), s.par.safe = false → s.pwr.stopped = false →
    (enterSafe code source index s).set.pend = []) ∧
  (∀ (type source sid : Nat) (s : State), (assertReset type source sid s).set.pend = [] ∧
    ∀ id, (assertReset type source sid s).shadow id = (assertReset type source sid s).live id) ∧
  (∀ s : State, (loseLease s).set.pend = [])

/-- R435, sentence by sentence. -/
def Obligations.FaultAcknowledgement : Prop :=
  (∀ (source : Nat) (e : UcEntry) (s : State), s.par.pending.find? (fun e => e.source == source) = some e → s.now < e.deadline →
    ackFault source s = recordEv evFaultAcknowledged source (severityOf evFaultAcknowledged) (le 2 source ++ le 2 e.merged) none 0
      (s.modPar (fun p => { p with pending := p.pending.filter (fun x => x.source != source) }))) ∧
  (∀ (source : Nat) (e : UcEntry) (s : State), s.par.pending.find? (fun e => e.source == source) = some e → e.deadline ≤ s.now →
    ackFault source s = raiseFT srcEscalation (le 2 source) s) ∧
  (∀ (e : UcEntry) (l : List UcEntry) (s : State), pendingSorted s = e :: l →
    e ∈ s.par.pending ∧ ∀ x ∈ s.par.pending, e.deadline ≤ x.deadline) ∧
  (∀ (e : UcEntry) (l : List UcEntry) (s : State), pendingSorted s = e :: l → e.deadline ≤ s.now → s.par.safe = false →
    exec .ucEscalation s = .next (raiseFT srcEscalation (le 2 e.source) s))

/-- R464, steps 1 to 4; the reset of step 6 follows the reply. -/
def Obligations.TransitionsDestroyKeys : Prop :=
  ∀ (to_ : Nat) (s : State),
    (advanceLife to_ s).otp.lifecycle = to_ ∧ (advanceLife to_ s).sec.epoch = (s.sec.epoch + 1) % 4294967296 ∧
    (advanceLife to_ s).sec.epoch ≤ (advanceLife to_ s).sec.epochMirror ∧ (advanceLife to_ s).sec.keystone = none ∧
    (advanceLife to_ s).sec.slots = [] ∧ (advanceLife to_ s).sec.slots2 = none ∧ (advanceLife to_ s).sec.advance = none ∧
    (advanceLife to_ s).mac.netKeys = [] ∧
    (s.otp.lifecycle = lcReturn → to_ = lcProvisioned →
      (advanceLife to_ s).otp.returns = s.otp.returns + 1 ∧ (advanceLife to_ s).set.live = []) ∧
    (to_ = lcScrapped → (advanceLife to_ s).otp.rootKilled = true) ∧
    (advanceLife to_ s).otp.antiRollback = s.otp.antiRollback ∧ (advanceLife to_ s).meter = { s.meter with backup := (advanceLife to_ s).meter.backup }

/-- R447 and R448: the token bucket and the index of every record. -/
def Obligations.EventRecording : Prop :=
  ∀ (code source sev : Nat) (payload : Bytes) (dest : Option Nat) (tag : Nat) (s : State), s.par.dropped = 0 →
    ((rateExempt code = true ∨ 0 < (refilled s.now (bucketOf s.par code)).tokens) →
      (recordEv code source sev payload dest tag s).par.nextIndex = s.par.nextIndex + 1 ∧
      (s.par.volatileBuf.length < 2048 →
        ∃ r ∈ (recordEv code source sev payload dest tag s).par.volatileBuf ++ (recordEv code source sev payload dest tag s).par.staged,
          r.index = s.par.nextIndex ∧ r.code = code ∧ r.source = source ∧
          r.suppressed = min (bucketOf s.par code).suppressed 255) ∧
      (rateExempt code = false →
        (bucketOf (recordEv code source sev payload dest tag s).par code).tokens =
          (refilled s.now (bucketOf s.par code)).tokens - 1 ∧
        (bucketOf (recordEv code source sev payload dest tag s).par code).suppressed = 0)) ∧
    ((rateExempt code = false ∧ (refilled s.now (bucketOf s.par code)).tokens = 0) →
      (recordEv code source sev payload dest tag s).par.nextIndex = s.par.nextIndex ∧
      (bucketOf (recordEv code source sev payload dest tag s).par code).suppressed = (bucketOf s.par code).suppressed + 1)

/-- One accepting case for each command of these chapters; what each refuses is in the family’s own statement. -/
def Obligations.AcceptedCommandsComplete : Prop :=
  (∀ (sid tag : Nat) (c : LiveCmd) (s₀ : State), Turn 0x0601 sid tag c s₀ →
      let s := begun c s₀
      zeroAt c.params 3 1 = true → zeroAt c.params 6 2 = true → writeRefusal s c.role (meterEntries c.params) = none →
      exec (.meterConfig sid tag) s₀ = .next (complete c stOk dNone (le 4 (writeSettings (meterEntries c.params) s).meter.metrology) (writeSettings (meterEntries c.params) s))) ∧
  (∀ (sid tag : Nat) (c : LiveCmd) (s₀ : State), Turn 0x0602 sid tag c s₀ →
      let s := begun c s₀
      ∃ r : Bytes, exec (.meterRead sid tag) s₀ = .next (complete c stOk dNone r s)) ∧
  (∀ (sid tag : Nat) (c : LiveCmd) (s₀ : State), Turn 0x0603 sid tag c s₀ →
      let s := begun c s₀
      ∃ r : Bytes, exec (.energyRead sid tag) s₀ = .next (complete c stOk dNone r s)) ∧
  (∀ (sid tag : Nat) (c : LiveCmd) (s₀ : State), Turn 0x0604 sid tag c s₀ →
      let s := begun c s₀
      fld c.params 2 1 = 0 → zeroAt c.params 3 1 = true → zeroAt c.params 10 2 = true → fld c.params 0 1 ≤ 3 →
      (s.shadow 0x064C).testBit (fld c.params 0 1) = false →
      writeRefusal s c.role [(0x0640 + fld c.params 0 1, fld c.params 1 1), (0x0644 + fld c.params 0 1, fld c.params 4 4),
        (0x0648 + fld c.params 0 1, fld c.params 8 2), (0x064C, s.shadow 0x064C)] = none →
      exec (.pulseOutputAssign sid tag) s₀ = .next (commitBlock c 6 (writeSettings [(0x0640 + fld c.params 0 1, fld c.params 1 1), (0x0644 + fld c.params 0 1, fld c.params 4 4),
        (0x0648 + fld c.params 0 1, fld c.params 8 2), (0x064C, s.shadow 0x064C)] s))) ∧
  (∀ (sid tag : Nat) (c : LiveCmd) (s₀ : State), Turn 0x0605 sid tag c s₀ →
      let s := begun c s₀
      fld c.params 0 1 = 0 → zeroAt c.params 1 3 = true →
      exec (.pulseInputRead sid tag) s₀ = .next (complete c stOk dNone ([0, 1, 2, 3].flatMap (pinEntry s)) s)) ∧
  (∀ (sid tag : Nat) (c : LiveCmd) (s₀ : State), Turn 0x0607 sid tag c s₀ →
      let s := begun c s₀
      fld c.params 0 1 = 2 → zeroAt c.params 4 12 = true → zeroAt c.params 16 4 = true →
      1 ≤ fld c.params 2 2 ∧ fld c.params 2 2 ≤ 60 → s.meter.active = true →
      exec (.meterCalibrate sid tag) s₀ = .next (waitFor c .calibrate [] (s.modMeter (fun m => { m with calib := m.calib ++ [
        { seq := c.seq, mode := 2, phase := fld c.params 1 1, left := fld c.params 2 2, refV := fld c.params 4 4, refI := fld c.params 8 4,
          refAngle := toS 32 (fld c.params 12 4), samples := [], means := [], rms := [] }] })))) ∧
  (∀ (sid tag : Nat) (c : LiveCmd) (s₀ : State), Turn 0x0701 sid tag c s₀ →
      let s := begun c s₀
      fld c.params 0 4 < 2 → s.inTrial = false →
      headerRefusal (c.params.drop 4) (privilegedChannel c s) true s = none → s.upd.session = none →
      exec (.updateBegin sid tag) s₀ = .next (complete c stOk dNone (beginReply (c.params.drop 4) 0)
        (ev evUpdateBegun (hdrVersion (c.params.drop 4) ++ [byte (hdrCounter (c.params.drop 4)), byte (inactive s)])
          (newSessionUpd (c.params.drop 4) (inactive s) s)))) ∧
  (∀ (sid tag : Nat) (c : LiveCmd) (s₀ : State), Turn 0x0703 sid tag c s₀ →
      let s := begun c s₀
      ∃ r : Bytes, exec (.updateStatus sid tag) s₀ = .next (complete c stOk dNone r
        (s.modUpd (fun u => { u with session := u.session.map (fun x => { x with decrypted := decryptedNow s x }) })))) ∧
  (∀ (sid tag : Nat) (c : LiveCmd) (s₀ : State), Turn 0x0706 sid tag c s₀ →
      let s := begun c s₀
      zeroAt c.params 0 4 = true → s.upd.state = .receiving →
      exec (.updateAbort sid tag) s₀ = .next (complete c stOk dNone [] (dropSession s))) ∧
  (∀ (sid tag : Nat) (c : LiveCmd) (s₀ : State) (x : UpdSession), Turn 0x0704 sid tag c s₀ →
      let s := begun c s₀
      zeroAt c.params 0 4 = true → s.upd.session = some x → s.upd.state = .ready → applySoon s = false →
      exec (.updateActivate sid tag) s₀ = .next (complete c stOk dNone ([byte x.target] ++ zeros 3) (awaitReset c 3 5 (ev evUpdateActivated (hdrVersion x.header ++ [byte x.target])
        ((rewrap x.target s).modUpd (fun u => { u with
          boot := { u.boot with trial := some (x.target, 0), trialNs := 0, trialSince := (rewrap x.target s).now, revert := 0 } })))))) ∧
  (∀ (sid tag : Nat) (c : LiveCmd) (s₀ : State) (x : UpdSession), Turn 0x0702 sid tag c s₀ →
      let s := begun c s₀
      zeroAt c.params 4 4 = true → s.upd.session = some x → fld c.params 0 4 < hdrFrags x.header →
      (c.params.drop 8).length = fragLen (hdrLen x.header) (fld c.params 0 4) →
      x.bitmap.contains (fld c.params 0 4) = false → fragSector x.header (fld c.params 0 4) < x.erased →
      exec (.updateFragment sid tag) s₀ = .next (complete c stOk dNone (le 4 (x.bitmap.length + 1)) (programFrag x (fld c.params 0 4) (c.params.drop 8) s))) ∧
  (∀ (sid tag : Nat) (c : LiveCmd) (s₀ : State) (k n : Nat), Turn 0x0705 sid tag c s₀ →
      let s := begun c s₀
      zeroAt c.params 0 4 = true → s.upd.boot.trial = some (k, n) → n ≠ 0 →
      exec (.updateConfirm sid tag) s₀ = .next (let s := modSlot k (fun g => { g with confirmed := true }) s
        let s := s.modUpd (fun u => { u with
          state := .idle, detail := 0, boot := { u.boot with active := k, trial := none, trialNs := 0, revert := 0 },
          storeFormat := match u.migrated with | some m => m.2 | none => u.storeFormat, copy1 := none, migrated := none })
        let s := s.modSec (fun x => { x with slots2 := none })
        let s := s.modOtp (fun o => { o with antiRollback := max o.antiRollback (hdrCounter ((begun c s₀).upd.slot k).header) })
        complete c stOk dNone ([byte s.otp.antiRollback] ++ zeros 3)
          (ev evUpdateConfirmed (hdrVersion ((begun c s₀).upd.slot k).header ++ [byte s.otp.antiRollback]) s))) ∧
  (∀ (sid tag : Nat) (c : LiveCmd) (s₀ : State) (i : LanImage), Turn 0x0707 sid tag c s₀ →
      let s := begun c s₀
      fld c.params 0 1 = 3 → c.params.length = 8 → zeroAt c.params 1 3 = true → s.image (fld c.params 4 4) = some i →
      s.upd.rollouts.any (fun r => r.active && r.image == fld c.params 4 4) = false →
      exec (.lanternImageStage sid tag) s₀ = .next (complete c stOk dNone (imageReply i) (s.modUpd (fun u => { u with images := u.images.filter (fun x => x.id != fld c.params 4 4) })))) ∧
  (∀ (sid tag : Nat) (c : LiveCmd) (s₀ : State) (i : LanImage) (r : Rollout), Turn 0x0708 sid tag c s₀ →
      let s := begun c s₀
      fld c.params 0 1 = 3 → zeroAt c.params 1 1 = true → fld c.params 2 2 ≤ 512 →
      s.image (fld c.params 4 4) = some i → s.upd.rollouts.find? (fun r => r.image == fld c.params 4 4) = some r →
      exec (.lanternImageRollout sid tag) s₀ = .next (complete c stOk dNone (rolloutReply r) s)) ∧
  (∀ (sid tag : Nat) (c : LiveCmd) (s₀ : State) (r : SlotRec) (key : Bytes), Turn 0x0801 sid tag c s₀ →
      let s := begun c s₀
      keyLoadRefusal c s = none → (decKeyLoad c.params).method = 1 → s.slotRec (decKeyLoad c.params).kek = some r →
      bits r.attr 23 16 = 3 →
      unsealKey (decKeyLoad c.params) r.key c.params (useKey (decKeyLoad c.params).kek s) = some key →
      exec (.keyLoad sid tag) s₀ = .next (installKey c (decKeyLoad c.params) key (useKey (decKeyLoad c.params).kek s))) ∧
  (∀ (sid tag : Nat) (c : LiveCmd) (s₀ : State), Turn 0x0802 sid tag c s₀ →
      let s := begun c s₀
      zeroAt c.params 2 2 = true → s.inTrial = false → fld c.params 0 2 ≤ 4351 →
      s.occupied (fld c.params 0 2) = true →
      exec (.keyRetire sid tag) s₀ = .next (noteKeyless (complete c stOk dNone [] (ev evKeyRetired (le 2 (fld c.params 0 2)) (retireSlot (fld c.params 0 2) s))))) ∧
  (∀ (sid tag : Nat) (c : LiveCmd) (s₀ : State), Turn 0x0803 sid tag c s₀ →
      let s := begun c s₀
      lifecycleRefusal c s = none → c.flags.testBit flQuiet = false →
      exec (.lifecycleAdvance sid tag) s₀ = .next (complete c stOk dNone ([byte (fld c.params 0 1)] ++ zeros 3)
        (awaitReset c 3 6 (s.modSec (fun k => { k with advance := some (fld c.params 0 1, c.seq) }))))) ∧
  (∀ (sid tag : Nat) (c : LiveCmd) (s₀ : State), Turn 0x0804 sid tag c s₀ →
      let s := begun c s₀
      zeroAt c.params 2 2 = true → 1 ≤ fld c.params 0 1 ∧ fld c.params 0 1 ≤ 8 ∧ fld c.params 0 1 ≠ 7 →
      1 ≤ fld c.params 1 1 ∧ fld c.params 1 1 ≤ 3 → (s.tamperSrc (fld c.params 0 1)).policy = fld c.params 1 1 →
      exec (.tamperPolicySet sid tag) s₀ = .next (complete c stOk dNone [] (modTamper (fld c.params 0 1) (fun t => { t with policy := fld c.params 1 1 }) s))) ∧
  (∀ (sid tag : Nat) (c : LiveCmd) (s₀ : State), Turn 0x0805 sid tag c s₀ →
      let s := begun c s₀
      s.otp.lifecycle = lcTest → c.transport ≠ .dbg → fld c.params 0 1 = 1 → c.params.length = 4 →
      zeroAt c.params 1 3 = true →
      exec (.debugUnlock sid tag) s₀ = .next (complete c stOk dNone (s.rnd 16) (s.draw.modHost (fun h => { h with
        debugChals := h.debugChals.filter (fun q => q.sid != c.sid) ++ [{ sid := c.sid, nonce := s.rnd 16, n := 0, issued := s.now }] })))) ∧
  (∀ (sid tag : Nat) (c : LiveCmd) (s₀ : State), Turn 0x0806 sid tag c s₀ →
      let s := begun c s₀
      ∃ r : Bytes, exec (.securityStatus sid tag) s₀ = .next (complete c stOk dNone r
        ((settleAuth s).modSec (fun k => { k with tamper := k.tamper.map (fun t => { t with latched := false }) })))) ∧
  (∀ (sid tag : Nat) (c : LiveCmd) (s₀ : State), Turn 0x0901 sid tag c s₀ →
      let s := begun c s₀
      ∃ r : Bytes, exec (.faultStatus sid tag) s₀ = .next (complete c stOk dNone r s)) ∧
  (∀ (sid tag : Nat) (c : LiveCmd) (s₀ : State), Turn 0x0902 sid tag c s₀ →
      let s := begun c s₀
      zeroAt c.params 2 2 = true → fld c.params 0 2 ≠ 0xFFFF →
      s.par.pending.any (fun e => e.source == fld c.params 0 2) = true →
      exec (.faultAck sid tag) s₀ = .next (ackReply c (ackFault (fld c.params 0 2) s))) ∧
  (∀ (sid tag : Nat) (c : LiveCmd) (s₀ : State), Turn 0x0904 sid tag c s₀ →
      let s := begun c s₀
      fld c.params 0 1 = 1 → c.params.length = 4 → zeroAt c.params 1 3 = true →
      exec (.eventClear sid tag) s₀ = .next (complete c stOk dNone (s.rnd 16 ++ le 4 s.par.nextIndex) (s.draw.modHost (fun h => { h with
        clearChals := h.clearChals.filter (fun q => q.sid != c.sid) ++
          [{ sid := c.sid, nonce := s.rnd 16, n := s.par.nextIndex, issued := s.now }] })))) ∧
  (∀ (sid tag : Nat) (c : LiveCmd) (s₀ : State), Turn 0x0905 sid tag c s₀ →
      let s := begun c s₀
      zeroAt c.params 3 1 = true → rateExempt (fld c.params 0 2) = false → 1 ≤ fld c.params 2 1 →
      100 ≤ fld c.params 4 4 ∧ fld c.params 4 4 ≤ 86400000 →
      exec (.eventRateSet sid tag) s₀ = .next (complete c stOk dNone [] (setRate (fld c.params 0 2) (fld c.params 2 1) (fld c.params 4 4) s))) ∧
  (∀ (sid tag : Nat) (c : LiveCmd) (s₀ : State), Turn 0x0906 sid tag c s₀ →
      let s := begun c s₀
      injectRefusal c.params = none →
      exec (.faultInject sid tag) s₀ = .next (complete c stOk dNone [] (s.modPar (fun q => { q with injections := q.injections ++ (List.range (fld c.params 3 1)).map (fun k : Nat =>
        ({ source := fld c.params 0 2, cls := fld c.params 2 1, at_ := s.now + (fld c.params 4 4 + k) * ms } : Injection)) })))) ∧
  (∀ (sid tag : Nat) (c : LiveCmd) (s₀ : State), Turn 0x0A01 sid tag c s₀ →
      let s := begun c s₀
      ∃ r : Bytes, exec (.twinStatus sid tag) s₀ = .next (complete c stOk dNone r s)) ∧
  (∀ (sid tag : Nat) (c : LiveCmd) (s₀ : State), Turn 0x0A02 sid tag c s₀ →
      let s := begun c s₀
      zeroAt c.params 5 3 = true → fld c.params 4 1 ≤ 3 →
      writeRefusal s c.role [(0x0A01, fld c.params 0 4), (0x0A00, fld c.params 4 1 % 2), (0x0A02, fld c.params 4 1 / 2)] = none →
      exec (.twinConfig sid tag) s₀ = .next (commitBlock c 0x0A (writeSettings [(0x0A01, fld c.params 0 4), (0x0A00, fld c.params 4 1 % 2), (0x0A02, fld c.params 4 1 / 2)] s))) ∧
  (∀ (sid tag : Nat) (c : LiveCmd) (s₀ : State), Turn 0x0A03 sid tag c s₀ →
      let s := begun c s₀
      fld c.params 0 1 = 1 → zeroAt c.params 1 3 = true →
      exec (.leaseYield sid tag) s₀ = .next (waitFor c .yield [] (s.modTwin (fun t => { t with yielding := true, yieldSent := false })))) ∧
  (∀ (sid tag : Nat) (c : LiveCmd) (s₀ : State), Turn 0x0606 sid tag c s₀ →
      let s := begun c s₀
      zeroAt c.params 5 3 = true → 1 ≤ fld c.params 4 1 ∧ fld c.params 4 1 ≤ 48 →
      ∃ r : Bytes, exec (.reconcileRead sid tag) s₀ = .next (complete c stOk dNone r s)) ∧
  (∀ (sid tag : Nat) (c : LiveCmd) (s₀ : State), Turn 0x0903 sid tag c s₀ →
      let s := begun c s₀
      1 ≤ fld c.params 4 1 ∧ fld c.params 4 1 ≤ 126 →
      ∃ r : Bytes, exec (.eventRead sid tag) s₀ = .next (complete c stOk dNone r s))

/-- R56 and R57 with Tables 2.3 to 2.6: where each row of the window completes. -/
def Obligations.WindowRowsComplete : Prop :=
  (∀ (w : Word32) (s : State), bankGood 1 s = true → exec (.winInPush w) s = .next (
      (pushWord w (wakeUp 5 s)).modOut (fun o => { o with hspi := o.hspi ++ [[]] }))) ∧
  (∀ s : State, bankGood 1 s = true → exec .winOutPop s = .next (
      let t := popWord (wakeUp 5 s)
      (t).modOut (fun o => { o with hspi := o.hspi ++ [le 4 t.host.win.lastPop.toNat] }))) ∧
  (∀ s : State, bankGood 1 s = true → exec .abortIn s = .next (
      (modWin (fun x => { x with inWords := [], discarding := false }) (wakeUp 5 s)).modOut (fun o => { o with hspi := o.hspi ++ [[]] }))) ∧
  (∀ (w : Word32) (s : State), bankGood 1 s = true → exec (.winStatusW1c w) s = .next (
      (writeStatus w.toNat (wakeUp 5 s)).modOut (fun o => { o with hspi := o.hspi ++ [[]] }))) ∧
  (∀ (w : Word32) (s : State), bankGood 1 s = true → exec (.winIrqCauseW1c w) s = .next (
      (writeCause w.toNat (wakeUp 5 s)).modOut (fun o => { o with hspi := o.hspi ++ [[]] }))) ∧
  (∀ (offset : Nat) (w : Word32) (s : State), isReg offset = true → bankGood 1 s = true → exec (.registerWrite offset w) s = .next (
      (writeReg offset w (wakeUp 5 s)).modOut (fun o => { o with hspi := o.hspi ++ [[]] }))) ∧
  (∀ (w : Word32) (s : State),
      writeReg 0x14 w s = modWin (fun x => { x with irqMask := w.toNat % 64 }) s ∧ writeReg 0x00 w s = s ∧ writeReg 0x0C w s = s ∧
        writeReg 0x10 w s = s ∧ writeReg 0x1C w s = s) ∧
  (∀ (command : Byte) (rest : Bytes) (s : State), bankGood 1 s = true → 
      (rest = [] ∨ isReg (fld (command :: rest) 1 1) = false ∨ (command ≠ 2 ∧ command ≠ 3 ∧ command ≠ 0x0B)) →
      exec (.hspiTransactionIgnored command rest) s = .next (
      (wakeUp 5 s).modOut (fun o => { o with hspi := o.hspi ++ [zeros (rest.length + 1)] })))

end
end

