-- ==== Sys2Proof/Laws/State.lean ====
section
/-! SUPPORT. One lemma per field of State and per update of a part of it: the part updated holds the new value, every other
part is the old one. -/

namespace Sys2Proof.Machine

set_option Elab.async false

@[simp] theorem State.modTime_now (s : State) (f : TimeUnit → TimeUnit) : (s.modTime f).now = s.now := by have h : (s.modTime f).now = s.now := rfl; exact h
@[simp] theorem State.modTime_time (s : State) (f : TimeUnit → TimeUnit) : (s.modTime f).time = f s.time := by have h : (s.modTime f).time = f s.time := rfl; exact h
@[simp] theorem State.modTime_rtc (s : State) (f : TimeUnit → TimeUnit) : (s.modTime f).rtc = s.rtc := by have h : (s.modTime f).rtc = s.rtc := rfl; exact h
@[simp] theorem State.modTime_fb (s : State) (f : TimeUnit → TimeUnit) : (s.modTime f).fb = s.fb := by have h : (s.modTime f).fb = s.fb := rfl; exact h
@[simp] theorem State.modTime_set (s : State) (f : TimeUnit → TimeUnit) : (s.modTime f).set = s.set := by have h : (s.modTime f).set = s.set := rfl; exact h
@[simp] theorem State.modTime_host (s : State) (f : TimeUnit → TimeUnit) : (s.modTime f).host = s.host := by have h : (s.modTime f).host = s.host := rfl; exact h
@[simp] theorem State.modTime_par (s : State) (f : TimeUnit → TimeUnit) : (s.modTime f).par = s.par := by have h : (s.modTime f).par = s.par := rfl; exact h
@[simp] theorem State.modTime_pwr (s : State) (f : TimeUnit → TimeUnit) : (s.modTime f).pwr = s.pwr := by have h : (s.modTime f).pwr = s.pwr := rfl; exact h
@[simp] theorem State.modTime_joints (s : State) (f : TimeUnit → TimeUnit) : (s.modTime f).joints = s.joints := by have h : (s.modTime f).joints = s.joints := rfl; exact h
@[simp] theorem State.modTime_mac (s : State) (f : TimeUnit → TimeUnit) : (s.modTime f).mac = s.mac := by have h : (s.modTime f).mac = s.mac := rfl; exact h
@[simp] theorem State.modTime_truss (s : State) (f : TimeUnit → TimeUnit) : (s.modTime f).truss = s.truss := by have h : (s.modTime f).truss = s.truss := rfl; exact h
@[simp] theorem State.modTime_lamp (s : State) (f : TimeUnit → TimeUnit) : (s.modTime f).lamp = s.lamp := by have h : (s.modTime f).lamp = s.lamp := rfl; exact h
@[simp] theorem State.modTime_meter (s : State) (f : TimeUnit → TimeUnit) : (s.modTime f).meter = s.meter := by have h : (s.modTime f).meter = s.meter := rfl; exact h
@[simp] theorem State.modTime_twin (s : State) (f : TimeUnit → TimeUnit) : (s.modTime f).twin = s.twin := by have h : (s.modTime f).twin = s.twin := rfl; exact h
@[simp] theorem State.modTime_otp (s : State) (f : TimeUnit → TimeUnit) : (s.modTime f).otp = s.otp := by have h : (s.modTime f).otp = s.otp := rfl; exact h
@[simp] theorem State.modTime_sec (s : State) (f : TimeUnit → TimeUnit) : (s.modTime f).sec = s.sec := by have h : (s.modTime f).sec = s.sec := rfl; exact h
@[simp] theorem State.modTime_upd (s : State) (f : TimeUnit → TimeUnit) : (s.modTime f).upd = s.upd := by have h : (s.modTime f).upd = s.upd := rfl; exact h
@[simp] theorem State.modTime_bist (s : State) (f : TimeUnit → TimeUnit) : (s.modTime f).bist = s.bist := by have h : (s.modTime f).bist = s.bist := rfl; exact h
@[simp] theorem State.modTime_boot (s : State) (f : TimeUnit → TimeUnit) : (s.modTime f).boot = s.boot := by have h : (s.modTime f).boot = s.boot := rfl; exact h
@[simp] theorem State.modTime_out (s : State) (f : TimeUnit → TimeUnit) : (s.modTime f).out = s.out := by have h : (s.modTime f).out = s.out := rfl; exact h
@[simp] theorem State.modTime_pending (s : State) (f : TimeUnit → TimeUnit) : (s.modTime f).pending = s.pending := by have h : (s.modTime f).pending = s.pending := rfl; exact h
@[simp] theorem State.modTime_freeIdx (s : State) (f : TimeUnit → TimeUnit) : (s.modTime f).freeIdx = s.freeIdx := by have h : (s.modTime f).freeIdx = s.freeIdx := rfl; exact h
@[simp] theorem State.modRtc_now (s : State) (f : Rtc → Rtc) : (s.modRtc f).now = s.now := by have h : (s.modRtc f).now = s.now := rfl; exact h
@[simp] theorem State.modRtc_time (s : State) (f : Rtc → Rtc) : (s.modRtc f).time = s.time := by have h : (s.modRtc f).time = s.time := rfl; exact h
@[simp] theorem State.modRtc_rtc (s : State) (f : Rtc → Rtc) : (s.modRtc f).rtc = f s.rtc := by have h : (s.modRtc f).rtc = f s.rtc := rfl; exact h
@[simp] theorem State.modRtc_fb (s : State) (f : Rtc → Rtc) : (s.modRtc f).fb = s.fb := by have h : (s.modRtc f).fb = s.fb := rfl; exact h
@[simp] theorem State.modRtc_set (s : State) (f : Rtc → Rtc) : (s.modRtc f).set = s.set := by have h : (s.modRtc f).set = s.set := rfl; exact h
@[simp] theorem State.modRtc_host (s : State) (f : Rtc → Rtc) : (s.modRtc f).host = s.host := by have h : (s.modRtc f).host = s.host := rfl; exact h
@[simp] theorem State.modRtc_par (s : State) (f : Rtc → Rtc) : (s.modRtc f).par = s.par := by have h : (s.modRtc f).par = s.par := rfl; exact h
@[simp] theorem State.modRtc_pwr (s : State) (f : Rtc → Rtc) : (s.modRtc f).pwr = s.pwr := by have h : (s.modRtc f).pwr = s.pwr := rfl; exact h
@[simp] theorem State.modRtc_joints (s : State) (f : Rtc → Rtc) : (s.modRtc f).joints = s.joints := by have h : (s.modRtc f).joints = s.joints := rfl; exact h
@[simp] theorem State.modRtc_mac (s : State) (f : Rtc → Rtc) : (s.modRtc f).mac = s.mac := by have h : (s.modRtc f).mac = s.mac := rfl; exact h
@[simp] theorem State.modRtc_truss (s : State) (f : Rtc → Rtc) : (s.modRtc f).truss = s.truss := by have h : (s.modRtc f).truss = s.truss := rfl; exact h
@[simp] theorem State.modRtc_lamp (s : State) (f : Rtc → Rtc) : (s.modRtc f).lamp = s.lamp := by have h : (s.modRtc f).lamp = s.lamp := rfl; exact h
@[simp] theorem State.modRtc_meter (s : State) (f : Rtc → Rtc) : (s.modRtc f).meter = s.meter := by have h : (s.modRtc f).meter = s.meter := rfl; exact h
@[simp] theorem State.modRtc_twin (s : State) (f : Rtc → Rtc) : (s.modRtc f).twin = s.twin := by have h : (s.modRtc f).twin = s.twin := rfl; exact h
@[simp] theorem State.modRtc_otp (s : State) (f : Rtc → Rtc) : (s.modRtc f).otp = s.otp := by have h : (s.modRtc f).otp = s.otp := rfl; exact h
@[simp] theorem State.modRtc_sec (s : State) (f : Rtc → Rtc) : (s.modRtc f).sec = s.sec := by have h : (s.modRtc f).sec = s.sec := rfl; exact h
@[simp] theorem State.modRtc_upd (s : State) (f : Rtc → Rtc) : (s.modRtc f).upd = s.upd := by have h : (s.modRtc f).upd = s.upd := rfl; exact h
@[simp] theorem State.modRtc_bist (s : State) (f : Rtc → Rtc) : (s.modRtc f).bist = s.bist := by have h : (s.modRtc f).bist = s.bist := rfl; exact h
@[simp] theorem State.modRtc_boot (s : State) (f : Rtc → Rtc) : (s.modRtc f).boot = s.boot := by have h : (s.modRtc f).boot = s.boot := rfl; exact h
@[simp] theorem State.modRtc_out (s : State) (f : Rtc → Rtc) : (s.modRtc f).out = s.out := by have h : (s.modRtc f).out = s.out := rfl; exact h
@[simp] theorem State.modRtc_pending (s : State) (f : Rtc → Rtc) : (s.modRtc f).pending = s.pending := by have h : (s.modRtc f).pending = s.pending := rfl; exact h
@[simp] theorem State.modRtc_freeIdx (s : State) (f : Rtc → Rtc) : (s.modRtc f).freeIdx = s.freeIdx := by have h : (s.modRtc f).freeIdx = s.freeIdx := rfl; exact h
@[simp] theorem State.modFb_now (s : State) (f : Fallback → Fallback) : (s.modFb f).now = s.now := by have h : (s.modFb f).now = s.now := rfl; exact h
@[simp] theorem State.modFb_time (s : State) (f : Fallback → Fallback) : (s.modFb f).time = s.time := by have h : (s.modFb f).time = s.time := rfl; exact h
@[simp] theorem State.modFb_rtc (s : State) (f : Fallback → Fallback) : (s.modFb f).rtc = s.rtc := by have h : (s.modFb f).rtc = s.rtc := rfl; exact h
@[simp] theorem State.modFb_fb (s : State) (f : Fallback → Fallback) : (s.modFb f).fb = f s.fb := by have h : (s.modFb f).fb = f s.fb := rfl; exact h
@[simp] theorem State.modFb_set (s : State) (f : Fallback → Fallback) : (s.modFb f).set = s.set := by have h : (s.modFb f).set = s.set := rfl; exact h
@[simp] theorem State.modFb_host (s : State) (f : Fallback → Fallback) : (s.modFb f).host = s.host := by have h : (s.modFb f).host = s.host := rfl; exact h
@[simp] theorem State.modFb_par (s : State) (f : Fallback → Fallback) : (s.modFb f).par = s.par := by have h : (s.modFb f).par = s.par := rfl; exact h
@[simp] theorem State.modFb_pwr (s : State) (f : Fallback → Fallback) : (s.modFb f).pwr = s.pwr := by have h : (s.modFb f).pwr = s.pwr := rfl; exact h
@[simp] theorem State.modFb_joints (s : State) (f : Fallback → Fallback) : (s.modFb f).joints = s.joints := by have h : (s.modFb f).joints = s.joints := rfl; exact h
@[simp] theorem State.modFb_mac (s : State) (f : Fallback → Fallback) : (s.modFb f).mac = s.mac := by have h : (s.modFb f).mac = s.mac := rfl; exact h
@[simp] theorem State.modFb_truss (s : State) (f : Fallback → Fallback) : (s.modFb f).truss = s.truss := by have h : (s.modFb f).truss = s.truss := rfl; exact h
@[simp] theorem State.modFb_lamp (s : State) (f : Fallback → Fallback) : (s.modFb f).lamp = s.lamp := by have h : (s.modFb f).lamp = s.lamp := rfl; exact h
@[simp] theorem State.modFb_meter (s : State) (f : Fallback → Fallback) : (s.modFb f).meter = s.meter := by have h : (s.modFb f).meter = s.meter := rfl; exact h
@[simp] theorem State.modFb_twin (s : State) (f : Fallback → Fallback) : (s.modFb f).twin = s.twin := by have h : (s.modFb f).twin = s.twin := rfl; exact h
@[simp] theorem State.modFb_otp (s : State) (f : Fallback → Fallback) : (s.modFb f).otp = s.otp := by have h : (s.modFb f).otp = s.otp := rfl; exact h
@[simp] theorem State.modFb_sec (s : State) (f : Fallback → Fallback) : (s.modFb f).sec = s.sec := by have h : (s.modFb f).sec = s.sec := rfl; exact h
@[simp] theorem State.modFb_upd (s : State) (f : Fallback → Fallback) : (s.modFb f).upd = s.upd := by have h : (s.modFb f).upd = s.upd := rfl; exact h
@[simp] theorem State.modFb_bist (s : State) (f : Fallback → Fallback) : (s.modFb f).bist = s.bist := by have h : (s.modFb f).bist = s.bist := rfl; exact h
@[simp] theorem State.modFb_boot (s : State) (f : Fallback → Fallback) : (s.modFb f).boot = s.boot := by have h : (s.modFb f).boot = s.boot := rfl; exact h
@[simp] theorem State.modFb_out (s : State) (f : Fallback → Fallback) : (s.modFb f).out = s.out := by have h : (s.modFb f).out = s.out := rfl; exact h
@[simp] theorem State.modFb_pending (s : State) (f : Fallback → Fallback) : (s.modFb f).pending = s.pending := by have h : (s.modFb f).pending = s.pending := rfl; exact h
@[simp] theorem State.modFb_freeIdx (s : State) (f : Fallback → Fallback) : (s.modFb f).freeIdx = s.freeIdx := by have h : (s.modFb f).freeIdx = s.freeIdx := rfl; exact h
@[simp] theorem State.modSet_now (s : State) (f : SettingsSt → SettingsSt) : (s.modSet f).now = s.now := by have h : (s.modSet f).now = s.now := rfl; exact h
@[simp] theorem State.modSet_time (s : State) (f : SettingsSt → SettingsSt) : (s.modSet f).time = s.time := by have h : (s.modSet f).time = s.time := rfl; exact h
@[simp] theorem State.modSet_rtc (s : State) (f : SettingsSt → SettingsSt) : (s.modSet f).rtc = s.rtc := by have h : (s.modSet f).rtc = s.rtc := rfl; exact h
@[simp] theorem State.modSet_fb (s : State) (f : SettingsSt → SettingsSt) : (s.modSet f).fb = s.fb := by have h : (s.modSet f).fb = s.fb := rfl; exact h
@[simp] theorem State.modSet_set (s : State) (f : SettingsSt → SettingsSt) : (s.modSet f).set = f s.set := by have h : (s.modSet f).set = f s.set := rfl; exact h
@[simp] theorem State.modSet_host (s : State) (f : SettingsSt → SettingsSt) : (s.modSet f).host = s.host := by have h : (s.modSet f).host = s.host := rfl; exact h
@[simp] theorem State.modSet_par (s : State) (f : SettingsSt → SettingsSt) : (s.modSet f).par = s.par := by have h : (s.modSet f).par = s.par := rfl; exact h
@[simp] theorem State.modSet_pwr (s : State) (f : SettingsSt → SettingsSt) : (s.modSet f).pwr = s.pwr := by have h : (s.modSet f).pwr = s.pwr := rfl; exact h
@[simp] theorem State.modSet_joints (s : State) (f : SettingsSt → SettingsSt) : (s.modSet f).joints = s.joints := by have h : (s.modSet f).joints = s.joints := rfl; exact h
@[simp] theorem State.modSet_mac (s : State) (f : SettingsSt → SettingsSt) : (s.modSet f).mac = s.mac := by have h : (s.modSet f).mac = s.mac := rfl; exact h
@[simp] theorem State.modSet_truss (s : State) (f : SettingsSt → SettingsSt) : (s.modSet f).truss = s.truss := by have h : (s.modSet f).truss = s.truss := rfl; exact h
@[simp] theorem State.modSet_lamp (s : State) (f : SettingsSt → SettingsSt) : (s.modSet f).lamp = s.lamp := by have h : (s.modSet f).lamp = s.lamp := rfl; exact h
@[simp] theorem State.modSet_meter (s : State) (f : SettingsSt → SettingsSt) : (s.modSet f).meter = s.meter := by have h : (s.modSet f).meter = s.meter := rfl; exact h
@[simp] theorem State.modSet_twin (s : State) (f : SettingsSt → SettingsSt) : (s.modSet f).twin = s.twin := by have h : (s.modSet f).twin = s.twin := rfl; exact h
@[simp] theorem State.modSet_otp (s : State) (f : SettingsSt → SettingsSt) : (s.modSet f).otp = s.otp := by have h : (s.modSet f).otp = s.otp := rfl; exact h
@[simp] theorem State.modSet_sec (s : State) (f : SettingsSt → SettingsSt) : (s.modSet f).sec = s.sec := by have h : (s.modSet f).sec = s.sec := rfl; exact h
@[simp] theorem State.modSet_upd (s : State) (f : SettingsSt → SettingsSt) : (s.modSet f).upd = s.upd := by have h : (s.modSet f).upd = s.upd := rfl; exact h
@[simp] theorem State.modSet_bist (s : State) (f : SettingsSt → SettingsSt) : (s.modSet f).bist = s.bist := by have h : (s.modSet f).bist = s.bist := rfl; exact h
@[simp] theorem State.modSet_boot (s : State) (f : SettingsSt → SettingsSt) : (s.modSet f).boot = s.boot := by have h : (s.modSet f).boot = s.boot := rfl; exact h
@[simp] theorem State.modSet_out (s : State) (f : SettingsSt → SettingsSt) : (s.modSet f).out = s.out := by have h : (s.modSet f).out = s.out := rfl; exact h
@[simp] theorem State.modSet_pending (s : State) (f : SettingsSt → SettingsSt) : (s.modSet f).pending = s.pending := by have h : (s.modSet f).pending = s.pending := rfl; exact h
@[simp] theorem State.modSet_freeIdx (s : State) (f : SettingsSt → SettingsSt) : (s.modSet f).freeIdx = s.freeIdx := by have h : (s.modSet f).freeIdx = s.freeIdx := rfl; exact h
@[simp] theorem State.modHost_now (s : State) (f : HostSide → HostSide) : (s.modHost f).now = s.now := by have h : (s.modHost f).now = s.now := rfl; exact h
@[simp] theorem State.modHost_time (s : State) (f : HostSide → HostSide) : (s.modHost f).time = s.time := by have h : (s.modHost f).time = s.time := rfl; exact h
@[simp] theorem State.modHost_rtc (s : State) (f : HostSide → HostSide) : (s.modHost f).rtc = s.rtc := by have h : (s.modHost f).rtc = s.rtc := rfl; exact h
@[simp] theorem State.modHost_fb (s : State) (f : HostSide → HostSide) : (s.modHost f).fb = s.fb := by have h : (s.modHost f).fb = s.fb := rfl; exact h
@[simp] theorem State.modHost_set (s : State) (f : HostSide → HostSide) : (s.modHost f).set = s.set := by have h : (s.modHost f).set = s.set := rfl; exact h
@[simp] theorem State.modHost_host (s : State) (f : HostSide → HostSide) : (s.modHost f).host = f s.host := by have h : (s.modHost f).host = f s.host := rfl; exact h
@[simp] theorem State.modHost_par (s : State) (f : HostSide → HostSide) : (s.modHost f).par = s.par := by have h : (s.modHost f).par = s.par := rfl; exact h
@[simp] theorem State.modHost_pwr (s : State) (f : HostSide → HostSide) : (s.modHost f).pwr = s.pwr := by have h : (s.modHost f).pwr = s.pwr := rfl; exact h
@[simp] theorem State.modHost_joints (s : State) (f : HostSide → HostSide) : (s.modHost f).joints = s.joints := by have h : (s.modHost f).joints = s.joints := rfl; exact h
@[simp] theorem State.modHost_mac (s : State) (f : HostSide → HostSide) : (s.modHost f).mac = s.mac := by have h : (s.modHost f).mac = s.mac := rfl; exact h
@[simp] theorem State.modHost_truss (s : State) (f : HostSide → HostSide) : (s.modHost f).truss = s.truss := by have h : (s.modHost f).truss = s.truss := rfl; exact h
@[simp] theorem State.modHost_lamp (s : State) (f : HostSide → HostSide) : (s.modHost f).lamp = s.lamp := by have h : (s.modHost f).lamp = s.lamp := rfl; exact h
@[simp] theorem State.modHost_meter (s : State) (f : HostSide → HostSide) : (s.modHost f).meter = s.meter := by have h : (s.modHost f).meter = s.meter := rfl; exact h
@[simp] theorem State.modHost_twin (s : State) (f : HostSide → HostSide) : (s.modHost f).twin = s.twin := by have h : (s.modHost f).twin = s.twin := rfl; exact h
@[simp] theorem State.modHost_otp (s : State) (f : HostSide → HostSide) : (s.modHost f).otp = s.otp := by have h : (s.modHost f).otp = s.otp := rfl; exact h
@[simp] theorem State.modHost_sec (s : State) (f : HostSide → HostSide) : (s.modHost f).sec = s.sec := by have h : (s.modHost f).sec = s.sec := rfl; exact h
@[simp] theorem State.modHost_upd (s : State) (f : HostSide → HostSide) : (s.modHost f).upd = s.upd := by have h : (s.modHost f).upd = s.upd := rfl; exact h
@[simp] theorem State.modHost_bist (s : State) (f : HostSide → HostSide) : (s.modHost f).bist = s.bist := by have h : (s.modHost f).bist = s.bist := rfl; exact h
@[simp] theorem State.modHost_boot (s : State) (f : HostSide → HostSide) : (s.modHost f).boot = s.boot := by have h : (s.modHost f).boot = s.boot := rfl; exact h
@[simp] theorem State.modHost_out (s : State) (f : HostSide → HostSide) : (s.modHost f).out = s.out := by have h : (s.modHost f).out = s.out := rfl; exact h
@[simp] theorem State.modHost_pending (s : State) (f : HostSide → HostSide) : (s.modHost f).pending = s.pending := by have h : (s.modHost f).pending = s.pending := rfl; exact h
@[simp] theorem State.modHost_freeIdx (s : State) (f : HostSide → HostSide) : (s.modHost f).freeIdx = s.freeIdx := by have h : (s.modHost f).freeIdx = s.freeIdx := rfl; exact h
@[simp] theorem State.modPar_now (s : State) (f : Parapet → Parapet) : (s.modPar f).now = s.now := by have h : (s.modPar f).now = s.now := rfl; exact h
@[simp] theorem State.modPar_time (s : State) (f : Parapet → Parapet) : (s.modPar f).time = s.time := by have h : (s.modPar f).time = s.time := rfl; exact h
@[simp] theorem State.modPar_rtc (s : State) (f : Parapet → Parapet) : (s.modPar f).rtc = s.rtc := by have h : (s.modPar f).rtc = s.rtc := rfl; exact h
@[simp] theorem State.modPar_fb (s : State) (f : Parapet → Parapet) : (s.modPar f).fb = s.fb := by have h : (s.modPar f).fb = s.fb := rfl; exact h
@[simp] theorem State.modPar_set (s : State) (f : Parapet → Parapet) : (s.modPar f).set = s.set := by have h : (s.modPar f).set = s.set := rfl; exact h
@[simp] theorem State.modPar_host (s : State) (f : Parapet → Parapet) : (s.modPar f).host = s.host := by have h : (s.modPar f).host = s.host := rfl; exact h
@[simp] theorem State.modPar_par (s : State) (f : Parapet → Parapet) : (s.modPar f).par = f s.par := by have h : (s.modPar f).par = f s.par := rfl; exact h
@[simp] theorem State.modPar_pwr (s : State) (f : Parapet → Parapet) : (s.modPar f).pwr = s.pwr := by have h : (s.modPar f).pwr = s.pwr := rfl; exact h
@[simp] theorem State.modPar_joints (s : State) (f : Parapet → Parapet) : (s.modPar f).joints = s.joints := by have h : (s.modPar f).joints = s.joints := rfl; exact h
@[simp] theorem State.modPar_mac (s : State) (f : Parapet → Parapet) : (s.modPar f).mac = s.mac := by have h : (s.modPar f).mac = s.mac := rfl; exact h
@[simp] theorem State.modPar_truss (s : State) (f : Parapet → Parapet) : (s.modPar f).truss = s.truss := by have h : (s.modPar f).truss = s.truss := rfl; exact h
@[simp] theorem State.modPar_lamp (s : State) (f : Parapet → Parapet) : (s.modPar f).lamp = s.lamp := by have h : (s.modPar f).lamp = s.lamp := rfl; exact h
@[simp] theorem State.modPar_meter (s : State) (f : Parapet → Parapet) : (s.modPar f).meter = s.meter := by have h : (s.modPar f).meter = s.meter := rfl; exact h
@[simp] theorem State.modPar_twin (s : State) (f : Parapet → Parapet) : (s.modPar f).twin = s.twin := by have h : (s.modPar f).twin = s.twin := rfl; exact h
@[simp] theorem State.modPar_otp (s : State) (f : Parapet → Parapet) : (s.modPar f).otp = s.otp := by have h : (s.modPar f).otp = s.otp := rfl; exact h
@[simp] theorem State.modPar_sec (s : State) (f : Parapet → Parapet) : (s.modPar f).sec = s.sec := by have h : (s.modPar f).sec = s.sec := rfl; exact h
@[simp] theorem State.modPar_upd (s : State) (f : Parapet → Parapet) : (s.modPar f).upd = s.upd := by have h : (s.modPar f).upd = s.upd := rfl; exact h
@[simp] theorem State.modPar_bist (s : State) (f : Parapet → Parapet) : (s.modPar f).bist = s.bist := by have h : (s.modPar f).bist = s.bist := rfl; exact h
@[simp] theorem State.modPar_boot (s : State) (f : Parapet → Parapet) : (s.modPar f).boot = s.boot := by have h : (s.modPar f).boot = s.boot := rfl; exact h
@[simp] theorem State.modPar_out (s : State) (f : Parapet → Parapet) : (s.modPar f).out = s.out := by have h : (s.modPar f).out = s.out := rfl; exact h
@[simp] theorem State.modPar_pending (s : State) (f : Parapet → Parapet) : (s.modPar f).pending = s.pending := by have h : (s.modPar f).pending = s.pending := rfl; exact h
@[simp] theorem State.modPar_freeIdx (s : State) (f : Parapet → Parapet) : (s.modPar f).freeIdx = s.freeIdx := by have h : (s.modPar f).freeIdx = s.freeIdx := rfl; exact h
@[simp] theorem State.modPwr_now (s : State) (f : PowerSt → PowerSt) : (s.modPwr f).now = s.now := by have h : (s.modPwr f).now = s.now := rfl; exact h
@[simp] theorem State.modPwr_time (s : State) (f : PowerSt → PowerSt) : (s.modPwr f).time = s.time := by have h : (s.modPwr f).time = s.time := rfl; exact h
@[simp] theorem State.modPwr_rtc (s : State) (f : PowerSt → PowerSt) : (s.modPwr f).rtc = s.rtc := by have h : (s.modPwr f).rtc = s.rtc := rfl; exact h
@[simp] theorem State.modPwr_fb (s : State) (f : PowerSt → PowerSt) : (s.modPwr f).fb = s.fb := by have h : (s.modPwr f).fb = s.fb := rfl; exact h
@[simp] theorem State.modPwr_set (s : State) (f : PowerSt → PowerSt) : (s.modPwr f).set = s.set := by have h : (s.modPwr f).set = s.set := rfl; exact h
@[simp] theorem State.modPwr_host (s : State) (f : PowerSt → PowerSt) : (s.modPwr f).host = s.host := by have h : (s.modPwr f).host = s.host := rfl; exact h
@[simp] theorem State.modPwr_par (s : State) (f : PowerSt → PowerSt) : (s.modPwr f).par = s.par := by have h : (s.modPwr f).par = s.par := rfl; exact h
@[simp] theorem State.modPwr_pwr (s : State) (f : PowerSt → PowerSt) : (s.modPwr f).pwr = f s.pwr := by have h : (s.modPwr f).pwr = f s.pwr := rfl; exact h
@[simp] theorem State.modPwr_joints (s : State) (f : PowerSt → PowerSt) : (s.modPwr f).joints = s.joints := by have h : (s.modPwr f).joints = s.joints := rfl; exact h
@[simp] theorem State.modPwr_mac (s : State) (f : PowerSt → PowerSt) : (s.modPwr f).mac = s.mac := by have h : (s.modPwr f).mac = s.mac := rfl; exact h
@[simp] theorem State.modPwr_truss (s : State) (f : PowerSt → PowerSt) : (s.modPwr f).truss = s.truss := by have h : (s.modPwr f).truss = s.truss := rfl; exact h
@[simp] theorem State.modPwr_lamp (s : State) (f : PowerSt → PowerSt) : (s.modPwr f).lamp = s.lamp := by have h : (s.modPwr f).lamp = s.lamp := rfl; exact h
@[simp] theorem State.modPwr_meter (s : State) (f : PowerSt → PowerSt) : (s.modPwr f).meter = s.meter := by have h : (s.modPwr f).meter = s.meter := rfl; exact h
@[simp] theorem State.modPwr_twin (s : State) (f : PowerSt → PowerSt) : (s.modPwr f).twin = s.twin := by have h : (s.modPwr f).twin = s.twin := rfl; exact h
@[simp] theorem State.modPwr_otp (s : State) (f : PowerSt → PowerSt) : (s.modPwr f).otp = s.otp := by have h : (s.modPwr f).otp = s.otp := rfl; exact h
@[simp] theorem State.modPwr_sec (s : State) (f : PowerSt → PowerSt) : (s.modPwr f).sec = s.sec := by have h : (s.modPwr f).sec = s.sec := rfl; exact h
@[simp] theorem State.modPwr_upd (s : State) (f : PowerSt → PowerSt) : (s.modPwr f).upd = s.upd := by have h : (s.modPwr f).upd = s.upd := rfl; exact h
@[simp] theorem State.modPwr_bist (s : State) (f : PowerSt → PowerSt) : (s.modPwr f).bist = s.bist := by have h : (s.modPwr f).bist = s.bist := rfl; exact h
@[simp] theorem State.modPwr_boot (s : State) (f : PowerSt → PowerSt) : (s.modPwr f).boot = s.boot := by have h : (s.modPwr f).boot = s.boot := rfl; exact h
@[simp] theorem State.modPwr_out (s : State) (f : PowerSt → PowerSt) : (s.modPwr f).out = s.out := by have h : (s.modPwr f).out = s.out := rfl; exact h
@[simp] theorem State.modPwr_pending (s : State) (f : PowerSt → PowerSt) : (s.modPwr f).pending = s.pending := by have h : (s.modPwr f).pending = s.pending := rfl; exact h
@[simp] theorem State.modPwr_freeIdx (s : State) (f : PowerSt → PowerSt) : (s.modPwr f).freeIdx = s.freeIdx := by have h : (s.modPwr f).freeIdx = s.freeIdx := rfl; exact h
@[simp] theorem State.modMac_now (s : State) (f : MacSt → MacSt) : (s.modMac f).now = s.now := by have h : (s.modMac f).now = s.now := rfl; exact h
@[simp] theorem State.modMac_time (s : State) (f : MacSt → MacSt) : (s.modMac f).time = s.time := by have h : (s.modMac f).time = s.time := rfl; exact h
@[simp] theorem State.modMac_rtc (s : State) (f : MacSt → MacSt) : (s.modMac f).rtc = s.rtc := by have h : (s.modMac f).rtc = s.rtc := rfl; exact h
@[simp] theorem State.modMac_fb (s : State) (f : MacSt → MacSt) : (s.modMac f).fb = s.fb := by have h : (s.modMac f).fb = s.fb := rfl; exact h
@[simp] theorem State.modMac_set (s : State) (f : MacSt → MacSt) : (s.modMac f).set = s.set := by have h : (s.modMac f).set = s.set := rfl; exact h
@[simp] theorem State.modMac_host (s : State) (f : MacSt → MacSt) : (s.modMac f).host = s.host := by have h : (s.modMac f).host = s.host := rfl; exact h
@[simp] theorem State.modMac_par (s : State) (f : MacSt → MacSt) : (s.modMac f).par = s.par := by have h : (s.modMac f).par = s.par := rfl; exact h
@[simp] theorem State.modMac_pwr (s : State) (f : MacSt → MacSt) : (s.modMac f).pwr = s.pwr := by have h : (s.modMac f).pwr = s.pwr := rfl; exact h
@[simp] theorem State.modMac_joints (s : State) (f : MacSt → MacSt) : (s.modMac f).joints = s.joints := by have h : (s.modMac f).joints = s.joints := rfl; exact h
@[simp] theorem State.modMac_mac (s : State) (f : MacSt → MacSt) : (s.modMac f).mac = f s.mac := by have h : (s.modMac f).mac = f s.mac := rfl; exact h
@[simp] theorem State.modMac_truss (s : State) (f : MacSt → MacSt) : (s.modMac f).truss = s.truss := by have h : (s.modMac f).truss = s.truss := rfl; exact h
@[simp] theorem State.modMac_lamp (s : State) (f : MacSt → MacSt) : (s.modMac f).lamp = s.lamp := by have h : (s.modMac f).lamp = s.lamp := rfl; exact h
@[simp] theorem State.modMac_meter (s : State) (f : MacSt → MacSt) : (s.modMac f).meter = s.meter := by have h : (s.modMac f).meter = s.meter := rfl; exact h
@[simp] theorem State.modMac_twin (s : State) (f : MacSt → MacSt) : (s.modMac f).twin = s.twin := by have h : (s.modMac f).twin = s.twin := rfl; exact h
@[simp] theorem State.modMac_otp (s : State) (f : MacSt → MacSt) : (s.modMac f).otp = s.otp := by have h : (s.modMac f).otp = s.otp := rfl; exact h
@[simp] theorem State.modMac_sec (s : State) (f : MacSt → MacSt) : (s.modMac f).sec = s.sec := by have h : (s.modMac f).sec = s.sec := rfl; exact h
@[simp] theorem State.modMac_upd (s : State) (f : MacSt → MacSt) : (s.modMac f).upd = s.upd := by have h : (s.modMac f).upd = s.upd := rfl; exact h
@[simp] theorem State.modMac_bist (s : State) (f : MacSt → MacSt) : (s.modMac f).bist = s.bist := by have h : (s.modMac f).bist = s.bist := rfl; exact h
@[simp] theorem State.modMac_boot (s : State) (f : MacSt → MacSt) : (s.modMac f).boot = s.boot := by have h : (s.modMac f).boot = s.boot := rfl; exact h
@[simp] theorem State.modMac_out (s : State) (f : MacSt → MacSt) : (s.modMac f).out = s.out := by have h : (s.modMac f).out = s.out := rfl; exact h
@[simp] theorem State.modMac_pending (s : State) (f : MacSt → MacSt) : (s.modMac f).pending = s.pending := by have h : (s.modMac f).pending = s.pending := rfl; exact h
@[simp] theorem State.modMac_freeIdx (s : State) (f : MacSt → MacSt) : (s.modMac f).freeIdx = s.freeIdx := by have h : (s.modMac f).freeIdx = s.freeIdx := rfl; exact h
@[simp] theorem State.modTruss_now (s : State) (f : TrussSt → TrussSt) : (s.modTruss f).now = s.now := by have h : (s.modTruss f).now = s.now := rfl; exact h
@[simp] theorem State.modTruss_time (s : State) (f : TrussSt → TrussSt) : (s.modTruss f).time = s.time := by have h : (s.modTruss f).time = s.time := rfl; exact h
@[simp] theorem State.modTruss_rtc (s : State) (f : TrussSt → TrussSt) : (s.modTruss f).rtc = s.rtc := by have h : (s.modTruss f).rtc = s.rtc := rfl; exact h
@[simp] theorem State.modTruss_fb (s : State) (f : TrussSt → TrussSt) : (s.modTruss f).fb = s.fb := by have h : (s.modTruss f).fb = s.fb := rfl; exact h
@[simp] theorem State.modTruss_set (s : State) (f : TrussSt → TrussSt) : (s.modTruss f).set = s.set := by have h : (s.modTruss f).set = s.set := rfl; exact h
@[simp] theorem State.modTruss_host (s : State) (f : TrussSt → TrussSt) : (s.modTruss f).host = s.host := by have h : (s.modTruss f).host = s.host := rfl; exact h
@[simp] theorem State.modTruss_par (s : State) (f : TrussSt → TrussSt) : (s.modTruss f).par = s.par := by have h : (s.modTruss f).par = s.par := rfl; exact h
@[simp] theorem State.modTruss_pwr (s : State) (f : TrussSt → TrussSt) : (s.modTruss f).pwr = s.pwr := by have h : (s.modTruss f).pwr = s.pwr := rfl; exact h
@[simp] theorem State.modTruss_joints (s : State) (f : TrussSt → TrussSt) : (s.modTruss f).joints = s.joints := by have h : (s.modTruss f).joints = s.joints := rfl; exact h
@[simp] theorem State.modTruss_mac (s : State) (f : TrussSt → TrussSt) : (s.modTruss f).mac = s.mac := by have h : (s.modTruss f).mac = s.mac := rfl; exact h
@[simp] theorem State.modTruss_truss (s : State) (f : TrussSt → TrussSt) : (s.modTruss f).truss = f s.truss := by have h : (s.modTruss f).truss = f s.truss := rfl; exact h
@[simp] theorem State.modTruss_lamp (s : State) (f : TrussSt → TrussSt) : (s.modTruss f).lamp = s.lamp := by have h : (s.modTruss f).lamp = s.lamp := rfl; exact h
@[simp] theorem State.modTruss_meter (s : State) (f : TrussSt → TrussSt) : (s.modTruss f).meter = s.meter := by have h : (s.modTruss f).meter = s.meter := rfl; exact h
@[simp] theorem State.modTruss_twin (s : State) (f : TrussSt → TrussSt) : (s.modTruss f).twin = s.twin := by have h : (s.modTruss f).twin = s.twin := rfl; exact h
@[simp] theorem State.modTruss_otp (s : State) (f : TrussSt → TrussSt) : (s.modTruss f).otp = s.otp := by have h : (s.modTruss f).otp = s.otp := rfl; exact h
@[simp] theorem State.modTruss_sec (s : State) (f : TrussSt → TrussSt) : (s.modTruss f).sec = s.sec := by have h : (s.modTruss f).sec = s.sec := rfl; exact h
@[simp] theorem State.modTruss_upd (s : State) (f : TrussSt → TrussSt) : (s.modTruss f).upd = s.upd := by have h : (s.modTruss f).upd = s.upd := rfl; exact h
@[simp] theorem State.modTruss_bist (s : State) (f : TrussSt → TrussSt) : (s.modTruss f).bist = s.bist := by have h : (s.modTruss f).bist = s.bist := rfl; exact h
@[simp] theorem State.modTruss_boot (s : State) (f : TrussSt → TrussSt) : (s.modTruss f).boot = s.boot := by have h : (s.modTruss f).boot = s.boot := rfl; exact h
@[simp] theorem State.modTruss_out (s : State) (f : TrussSt → TrussSt) : (s.modTruss f).out = s.out := by have h : (s.modTruss f).out = s.out := rfl; exact h
@[simp] theorem State.modTruss_pending (s : State) (f : TrussSt → TrussSt) : (s.modTruss f).pending = s.pending := by have h : (s.modTruss f).pending = s.pending := rfl; exact h
@[simp] theorem State.modTruss_freeIdx (s : State) (f : TrussSt → TrussSt) : (s.modTruss f).freeIdx = s.freeIdx := by have h : (s.modTruss f).freeIdx = s.freeIdx := rfl; exact h
@[simp] theorem State.modLamp_now (s : State) (f : LampSt → LampSt) : (s.modLamp f).now = s.now := by have h : (s.modLamp f).now = s.now := rfl; exact h
@[simp] theorem State.modLamp_time (s : State) (f : LampSt → LampSt) : (s.modLamp f).time = s.time := by have h : (s.modLamp f).time = s.time := rfl; exact h
@[simp] theorem State.modLamp_rtc (s : State) (f : LampSt → LampSt) : (s.modLamp f).rtc = s.rtc := by have h : (s.modLamp f).rtc = s.rtc := rfl; exact h
@[simp] theorem State.modLamp_fb (s : State) (f : LampSt → LampSt) : (s.modLamp f).fb = s.fb := by have h : (s.modLamp f).fb = s.fb := rfl; exact h
@[simp] theorem State.modLamp_set (s : State) (f : LampSt → LampSt) : (s.modLamp f).set = s.set := by have h : (s.modLamp f).set = s.set := rfl; exact h
@[simp] theorem State.modLamp_host (s : State) (f : LampSt → LampSt) : (s.modLamp f).host = s.host := by have h : (s.modLamp f).host = s.host := rfl; exact h
@[simp] theorem State.modLamp_par (s : State) (f : LampSt → LampSt) : (s.modLamp f).par = s.par := by have h : (s.modLamp f).par = s.par := rfl; exact h
@[simp] theorem State.modLamp_pwr (s : State) (f : LampSt → LampSt) : (s.modLamp f).pwr = s.pwr := by have h : (s.modLamp f).pwr = s.pwr := rfl; exact h
@[simp] theorem State.modLamp_joints (s : State) (f : LampSt → LampSt) : (s.modLamp f).joints = s.joints := by have h : (s.modLamp f).joints = s.joints := rfl; exact h
@[simp] theorem State.modLamp_mac (s : State) (f : LampSt → LampSt) : (s.modLamp f).mac = s.mac := by have h : (s.modLamp f).mac = s.mac := rfl; exact h
@[simp] theorem State.modLamp_truss (s : State) (f : LampSt → LampSt) : (s.modLamp f).truss = s.truss := by have h : (s.modLamp f).truss = s.truss := rfl; exact h
@[simp] theorem State.modLamp_lamp (s : State) (f : LampSt → LampSt) : (s.modLamp f).lamp = f s.lamp := by have h : (s.modLamp f).lamp = f s.lamp := rfl; exact h
@[simp] theorem State.modLamp_meter (s : State) (f : LampSt → LampSt) : (s.modLamp f).meter = s.meter := by have h : (s.modLamp f).meter = s.meter := rfl; exact h
@[simp] theorem State.modLamp_twin (s : State) (f : LampSt → LampSt) : (s.modLamp f).twin = s.twin := by have h : (s.modLamp f).twin = s.twin := rfl; exact h
@[simp] theorem State.modLamp_otp (s : State) (f : LampSt → LampSt) : (s.modLamp f).otp = s.otp := by have h : (s.modLamp f).otp = s.otp := rfl; exact h
@[simp] theorem State.modLamp_sec (s : State) (f : LampSt → LampSt) : (s.modLamp f).sec = s.sec := by have h : (s.modLamp f).sec = s.sec := rfl; exact h
@[simp] theorem State.modLamp_upd (s : State) (f : LampSt → LampSt) : (s.modLamp f).upd = s.upd := by have h : (s.modLamp f).upd = s.upd := rfl; exact h
@[simp] theorem State.modLamp_bist (s : State) (f : LampSt → LampSt) : (s.modLamp f).bist = s.bist := by have h : (s.modLamp f).bist = s.bist := rfl; exact h
@[simp] theorem State.modLamp_boot (s : State) (f : LampSt → LampSt) : (s.modLamp f).boot = s.boot := by have h : (s.modLamp f).boot = s.boot := rfl; exact h
@[simp] theorem State.modLamp_out (s : State) (f : LampSt → LampSt) : (s.modLamp f).out = s.out := by have h : (s.modLamp f).out = s.out := rfl; exact h
@[simp] theorem State.modLamp_pending (s : State) (f : LampSt → LampSt) : (s.modLamp f).pending = s.pending := by have h : (s.modLamp f).pending = s.pending := rfl; exact h
@[simp] theorem State.modLamp_freeIdx (s : State) (f : LampSt → LampSt) : (s.modLamp f).freeIdx = s.freeIdx := by have h : (s.modLamp f).freeIdx = s.freeIdx := rfl; exact h
@[simp] theorem State.modMeter_now (s : State) (f : MeterSt → MeterSt) : (s.modMeter f).now = s.now := by have h : (s.modMeter f).now = s.now := rfl; exact h
@[simp] theorem State.modMeter_time (s : State) (f : MeterSt → MeterSt) : (s.modMeter f).time = s.time := by have h : (s.modMeter f).time = s.time := rfl; exact h
@[simp] theorem State.modMeter_rtc (s : State) (f : MeterSt → MeterSt) : (s.modMeter f).rtc = s.rtc := by have h : (s.modMeter f).rtc = s.rtc := rfl; exact h
@[simp] theorem State.modMeter_fb (s : State) (f : MeterSt → MeterSt) : (s.modMeter f).fb = s.fb := by have h : (s.modMeter f).fb = s.fb := rfl; exact h
@[simp] theorem State.modMeter_set (s : State) (f : MeterSt → MeterSt) : (s.modMeter f).set = s.set := by have h : (s.modMeter f).set = s.set := rfl; exact h
@[simp] theorem State.modMeter_host (s : State) (f : MeterSt → MeterSt) : (s.modMeter f).host = s.host := by have h : (s.modMeter f).host = s.host := rfl; exact h
@[simp] theorem State.modMeter_par (s : State) (f : MeterSt → MeterSt) : (s.modMeter f).par = s.par := by have h : (s.modMeter f).par = s.par := rfl; exact h
@[simp] theorem State.modMeter_pwr (s : State) (f : MeterSt → MeterSt) : (s.modMeter f).pwr = s.pwr := by have h : (s.modMeter f).pwr = s.pwr := rfl; exact h
@[simp] theorem State.modMeter_joints (s : State) (f : MeterSt → MeterSt) : (s.modMeter f).joints = s.joints := by have h : (s.modMeter f).joints = s.joints := rfl; exact h
@[simp] theorem State.modMeter_mac (s : State) (f : MeterSt → MeterSt) : (s.modMeter f).mac = s.mac := by have h : (s.modMeter f).mac = s.mac := rfl; exact h
@[simp] theorem State.modMeter_truss (s : State) (f : MeterSt → MeterSt) : (s.modMeter f).truss = s.truss := by have h : (s.modMeter f).truss = s.truss := rfl; exact h
@[simp] theorem State.modMeter_lamp (s : State) (f : MeterSt → MeterSt) : (s.modMeter f).lamp = s.lamp := by have h : (s.modMeter f).lamp = s.lamp := rfl; exact h
@[simp] theorem State.modMeter_meter (s : State) (f : MeterSt → MeterSt) : (s.modMeter f).meter = f s.meter := by have h : (s.modMeter f).meter = f s.meter := rfl; exact h
@[simp] theorem State.modMeter_twin (s : State) (f : MeterSt → MeterSt) : (s.modMeter f).twin = s.twin := by have h : (s.modMeter f).twin = s.twin := rfl; exact h
@[simp] theorem State.modMeter_otp (s : State) (f : MeterSt → MeterSt) : (s.modMeter f).otp = s.otp := by have h : (s.modMeter f).otp = s.otp := rfl; exact h
@[simp] theorem State.modMeter_sec (s : State) (f : MeterSt → MeterSt) : (s.modMeter f).sec = s.sec := by have h : (s.modMeter f).sec = s.sec := rfl; exact h
@[simp] theorem State.modMeter_upd (s : State) (f : MeterSt → MeterSt) : (s.modMeter f).upd = s.upd := by have h : (s.modMeter f).upd = s.upd := rfl; exact h
@[simp] theorem State.modMeter_bist (s : State) (f : MeterSt → MeterSt) : (s.modMeter f).bist = s.bist := by have h : (s.modMeter f).bist = s.bist := rfl; exact h
@[simp] theorem State.modMeter_boot (s : State) (f : MeterSt → MeterSt) : (s.modMeter f).boot = s.boot := by have h : (s.modMeter f).boot = s.boot := rfl; exact h
@[simp] theorem State.modMeter_out (s : State) (f : MeterSt → MeterSt) : (s.modMeter f).out = s.out := by have h : (s.modMeter f).out = s.out := rfl; exact h
@[simp] theorem State.modMeter_pending (s : State) (f : MeterSt → MeterSt) : (s.modMeter f).pending = s.pending := by have h : (s.modMeter f).pending = s.pending := rfl; exact h
@[simp] theorem State.modMeter_freeIdx (s : State) (f : MeterSt → MeterSt) : (s.modMeter f).freeIdx = s.freeIdx := by have h : (s.modMeter f).freeIdx = s.freeIdx := rfl; exact h
@[simp] theorem State.modTwin_now (s : State) (f : TwinSt → TwinSt) : (s.modTwin f).now = s.now := by have h : (s.modTwin f).now = s.now := rfl; exact h
@[simp] theorem State.modTwin_time (s : State) (f : TwinSt → TwinSt) : (s.modTwin f).time = s.time := by have h : (s.modTwin f).time = s.time := rfl; exact h
@[simp] theorem State.modTwin_rtc (s : State) (f : TwinSt → TwinSt) : (s.modTwin f).rtc = s.rtc := by have h : (s.modTwin f).rtc = s.rtc := rfl; exact h
@[simp] theorem State.modTwin_fb (s : State) (f : TwinSt → TwinSt) : (s.modTwin f).fb = s.fb := by have h : (s.modTwin f).fb = s.fb := rfl; exact h
@[simp] theorem State.modTwin_set (s : State) (f : TwinSt → TwinSt) : (s.modTwin f).set = s.set := by have h : (s.modTwin f).set = s.set := rfl; exact h
@[simp] theorem State.modTwin_host (s : State) (f : TwinSt → TwinSt) : (s.modTwin f).host = s.host := by have h : (s.modTwin f).host = s.host := rfl; exact h
@[simp] theorem State.modTwin_par (s : State) (f : TwinSt → TwinSt) : (s.modTwin f).par = s.par := by have h : (s.modTwin f).par = s.par := rfl; exact h
@[simp] theorem State.modTwin_pwr (s : State) (f : TwinSt → TwinSt) : (s.modTwin f).pwr = s.pwr := by have h : (s.modTwin f).pwr = s.pwr := rfl; exact h
@[simp] theorem State.modTwin_joints (s : State) (f : TwinSt → TwinSt) : (s.modTwin f).joints = s.joints := by have h : (s.modTwin f).joints = s.joints := rfl; exact h
@[simp] theorem State.modTwin_mac (s : State) (f : TwinSt → TwinSt) : (s.modTwin f).mac = s.mac := by have h : (s.modTwin f).mac = s.mac := rfl; exact h
@[simp] theorem State.modTwin_truss (s : State) (f : TwinSt → TwinSt) : (s.modTwin f).truss = s.truss := by have h : (s.modTwin f).truss = s.truss := rfl; exact h
@[simp] theorem State.modTwin_lamp (s : State) (f : TwinSt → TwinSt) : (s.modTwin f).lamp = s.lamp := by have h : (s.modTwin f).lamp = s.lamp := rfl; exact h
@[simp] theorem State.modTwin_meter (s : State) (f : TwinSt → TwinSt) : (s.modTwin f).meter = s.meter := by have h : (s.modTwin f).meter = s.meter := rfl; exact h
@[simp] theorem State.modTwin_twin (s : State) (f : TwinSt → TwinSt) : (s.modTwin f).twin = f s.twin := by have h : (s.modTwin f).twin = f s.twin := rfl; exact h
@[simp] theorem State.modTwin_otp (s : State) (f : TwinSt → TwinSt) : (s.modTwin f).otp = s.otp := by have h : (s.modTwin f).otp = s.otp := rfl; exact h
@[simp] theorem State.modTwin_sec (s : State) (f : TwinSt → TwinSt) : (s.modTwin f).sec = s.sec := by have h : (s.modTwin f).sec = s.sec := rfl; exact h
@[simp] theorem State.modTwin_upd (s : State) (f : TwinSt → TwinSt) : (s.modTwin f).upd = s.upd := by have h : (s.modTwin f).upd = s.upd := rfl; exact h
@[simp] theorem State.modTwin_bist (s : State) (f : TwinSt → TwinSt) : (s.modTwin f).bist = s.bist := by have h : (s.modTwin f).bist = s.bist := rfl; exact h
@[simp] theorem State.modTwin_boot (s : State) (f : TwinSt → TwinSt) : (s.modTwin f).boot = s.boot := by have h : (s.modTwin f).boot = s.boot := rfl; exact h
@[simp] theorem State.modTwin_out (s : State) (f : TwinSt → TwinSt) : (s.modTwin f).out = s.out := by have h : (s.modTwin f).out = s.out := rfl; exact h
@[simp] theorem State.modTwin_pending (s : State) (f : TwinSt → TwinSt) : (s.modTwin f).pending = s.pending := by have h : (s.modTwin f).pending = s.pending := rfl; exact h
@[simp] theorem State.modTwin_freeIdx (s : State) (f : TwinSt → TwinSt) : (s.modTwin f).freeIdx = s.freeIdx := by have h : (s.modTwin f).freeIdx = s.freeIdx := rfl; exact h
@[simp] theorem State.modOtp_now (s : State) (f : Otp → Otp) : (s.modOtp f).now = s.now := by have h : (s.modOtp f).now = s.now := rfl; exact h
@[simp] theorem State.modOtp_time (s : State) (f : Otp → Otp) : (s.modOtp f).time = s.time := by have h : (s.modOtp f).time = s.time := rfl; exact h
@[simp] theorem State.modOtp_rtc (s : State) (f : Otp → Otp) : (s.modOtp f).rtc = s.rtc := by have h : (s.modOtp f).rtc = s.rtc := rfl; exact h
@[simp] theorem State.modOtp_fb (s : State) (f : Otp → Otp) : (s.modOtp f).fb = s.fb := by have h : (s.modOtp f).fb = s.fb := rfl; exact h
@[simp] theorem State.modOtp_set (s : State) (f : Otp → Otp) : (s.modOtp f).set = s.set := by have h : (s.modOtp f).set = s.set := rfl; exact h
@[simp] theorem State.modOtp_host (s : State) (f : Otp → Otp) : (s.modOtp f).host = s.host := by have h : (s.modOtp f).host = s.host := rfl; exact h
@[simp] theorem State.modOtp_par (s : State) (f : Otp → Otp) : (s.modOtp f).par = s.par := by have h : (s.modOtp f).par = s.par := rfl; exact h
@[simp] theorem State.modOtp_pwr (s : State) (f : Otp → Otp) : (s.modOtp f).pwr = s.pwr := by have h : (s.modOtp f).pwr = s.pwr := rfl; exact h
@[simp] theorem State.modOtp_joints (s : State) (f : Otp → Otp) : (s.modOtp f).joints = s.joints := by have h : (s.modOtp f).joints = s.joints := rfl; exact h
@[simp] theorem State.modOtp_mac (s : State) (f : Otp → Otp) : (s.modOtp f).mac = s.mac := by have h : (s.modOtp f).mac = s.mac := rfl; exact h
@[simp] theorem State.modOtp_truss (s : State) (f : Otp → Otp) : (s.modOtp f).truss = s.truss := by have h : (s.modOtp f).truss = s.truss := rfl; exact h
@[simp] theorem State.modOtp_lamp (s : State) (f : Otp → Otp) : (s.modOtp f).lamp = s.lamp := by have h : (s.modOtp f).lamp = s.lamp := rfl; exact h
@[simp] theorem State.modOtp_meter (s : State) (f : Otp → Otp) : (s.modOtp f).meter = s.meter := by have h : (s.modOtp f).meter = s.meter := rfl; exact h
@[simp] theorem State.modOtp_twin (s : State) (f : Otp → Otp) : (s.modOtp f).twin = s.twin := by have h : (s.modOtp f).twin = s.twin := rfl; exact h
@[simp] theorem State.modOtp_otp (s : State) (f : Otp → Otp) : (s.modOtp f).otp = f s.otp := by have h : (s.modOtp f).otp = f s.otp := rfl; exact h
@[simp] theorem State.modOtp_sec (s : State) (f : Otp → Otp) : (s.modOtp f).sec = s.sec := by have h : (s.modOtp f).sec = s.sec := rfl; exact h
@[simp] theorem State.modOtp_upd (s : State) (f : Otp → Otp) : (s.modOtp f).upd = s.upd := by have h : (s.modOtp f).upd = s.upd := rfl; exact h
@[simp] theorem State.modOtp_bist (s : State) (f : Otp → Otp) : (s.modOtp f).bist = s.bist := by have h : (s.modOtp f).bist = s.bist := rfl; exact h
@[simp] theorem State.modOtp_boot (s : State) (f : Otp → Otp) : (s.modOtp f).boot = s.boot := by have h : (s.modOtp f).boot = s.boot := rfl; exact h
@[simp] theorem State.modOtp_out (s : State) (f : Otp → Otp) : (s.modOtp f).out = s.out := by have h : (s.modOtp f).out = s.out := rfl; exact h
@[simp] theorem State.modOtp_pending (s : State) (f : Otp → Otp) : (s.modOtp f).pending = s.pending := by have h : (s.modOtp f).pending = s.pending := rfl; exact h
@[simp] theorem State.modOtp_freeIdx (s : State) (f : Otp → Otp) : (s.modOtp f).freeIdx = s.freeIdx := by have h : (s.modOtp f).freeIdx = s.freeIdx := rfl; exact h
@[simp] theorem State.modSec_now (s : State) (f : SecSt → SecSt) : (s.modSec f).now = s.now := by have h : (s.modSec f).now = s.now := rfl; exact h
@[simp] theorem State.modSec_time (s : State) (f : SecSt → SecSt) : (s.modSec f).time = s.time := by have h : (s.modSec f).time = s.time := rfl; exact h
@[simp] theorem State.modSec_rtc (s : State) (f : SecSt → SecSt) : (s.modSec f).rtc = s.rtc := by have h : (s.modSec f).rtc = s.rtc := rfl; exact h
@[simp] theorem State.modSec_fb (s : State) (f : SecSt → SecSt) : (s.modSec f).fb = s.fb := by have h : (s.modSec f).fb = s.fb := rfl; exact h
@[simp] theorem State.modSec_set (s : State) (f : SecSt → SecSt) : (s.modSec f).set = s.set := by have h : (s.modSec f).set = s.set := rfl; exact h
@[simp] theorem State.modSec_host (s : State) (f : SecSt → SecSt) : (s.modSec f).host = s.host := by have h : (s.modSec f).host = s.host := rfl; exact h
@[simp] theorem State.modSec_par (s : State) (f : SecSt → SecSt) : (s.modSec f).par = s.par := by have h : (s.modSec f).par = s.par := rfl; exact h
@[simp] theorem State.modSec_pwr (s : State) (f : SecSt → SecSt) : (s.modSec f).pwr = s.pwr := by have h : (s.modSec f).pwr = s.pwr := rfl; exact h
@[simp] theorem State.modSec_joints (s : State) (f : SecSt → SecSt) : (s.modSec f).joints = s.joints := by have h : (s.modSec f).joints = s.joints := rfl; exact h
@[simp] theorem State.modSec_mac (s : State) (f : SecSt → SecSt) : (s.modSec f).mac = s.mac := by have h : (s.modSec f).mac = s.mac := rfl; exact h
@[simp] theorem State.modSec_truss (s : State) (f : SecSt → SecSt) : (s.modSec f).truss = s.truss := by have h : (s.modSec f).truss = s.truss := rfl; exact h
@[simp] theorem State.modSec_lamp (s : State) (f : SecSt → SecSt) : (s.modSec f).lamp = s.lamp := by have h : (s.modSec f).lamp = s.lamp := rfl; exact h
@[simp] theorem State.modSec_meter (s : State) (f : SecSt → SecSt) : (s.modSec f).meter = s.meter := by have h : (s.modSec f).meter = s.meter := rfl; exact h
@[simp] theorem State.modSec_twin (s : State) (f : SecSt → SecSt) : (s.modSec f).twin = s.twin := by have h : (s.modSec f).twin = s.twin := rfl; exact h
@[simp] theorem State.modSec_otp (s : State) (f : SecSt → SecSt) : (s.modSec f).otp = s.otp := by have h : (s.modSec f).otp = s.otp := rfl; exact h
@[simp] theorem State.modSec_sec (s : State) (f : SecSt → SecSt) : (s.modSec f).sec = f s.sec := by have h : (s.modSec f).sec = f s.sec := rfl; exact h
@[simp] theorem State.modSec_upd (s : State) (f : SecSt → SecSt) : (s.modSec f).upd = s.upd := by have h : (s.modSec f).upd = s.upd := rfl; exact h
@[simp] theorem State.modSec_bist (s : State) (f : SecSt → SecSt) : (s.modSec f).bist = s.bist := by have h : (s.modSec f).bist = s.bist := rfl; exact h
@[simp] theorem State.modSec_boot (s : State) (f : SecSt → SecSt) : (s.modSec f).boot = s.boot := by have h : (s.modSec f).boot = s.boot := rfl; exact h
@[simp] theorem State.modSec_out (s : State) (f : SecSt → SecSt) : (s.modSec f).out = s.out := by have h : (s.modSec f).out = s.out := rfl; exact h
@[simp] theorem State.modSec_pending (s : State) (f : SecSt → SecSt) : (s.modSec f).pending = s.pending := by have h : (s.modSec f).pending = s.pending := rfl; exact h
@[simp] theorem State.modSec_freeIdx (s : State) (f : SecSt → SecSt) : (s.modSec f).freeIdx = s.freeIdx := by have h : (s.modSec f).freeIdx = s.freeIdx := rfl; exact h
@[simp] theorem State.modUpd_now (s : State) (f : UpdateSt → UpdateSt) : (s.modUpd f).now = s.now := by have h : (s.modUpd f).now = s.now := rfl; exact h
@[simp] theorem State.modUpd_time (s : State) (f : UpdateSt → UpdateSt) : (s.modUpd f).time = s.time := by have h : (s.modUpd f).time = s.time := rfl; exact h
@[simp] theorem State.modUpd_rtc (s : State) (f : UpdateSt → UpdateSt) : (s.modUpd f).rtc = s.rtc := by have h : (s.modUpd f).rtc = s.rtc := rfl; exact h
@[simp] theorem State.modUpd_fb (s : State) (f : UpdateSt → UpdateSt) : (s.modUpd f).fb = s.fb := by have h : (s.modUpd f).fb = s.fb := rfl; exact h
@[simp] theorem State.modUpd_set (s : State) (f : UpdateSt → UpdateSt) : (s.modUpd f).set = s.set := by have h : (s.modUpd f).set = s.set := rfl; exact h
@[simp] theorem State.modUpd_host (s : State) (f : UpdateSt → UpdateSt) : (s.modUpd f).host = s.host := by have h : (s.modUpd f).host = s.host := rfl; exact h
@[simp] theorem State.modUpd_par (s : State) (f : UpdateSt → UpdateSt) : (s.modUpd f).par = s.par := by have h : (s.modUpd f).par = s.par := rfl; exact h
@[simp] theorem State.modUpd_pwr (s : State) (f : UpdateSt → UpdateSt) : (s.modUpd f).pwr = s.pwr := by have h : (s.modUpd f).pwr = s.pwr := rfl; exact h
@[simp] theorem State.modUpd_joints (s : State) (f : UpdateSt → UpdateSt) : (s.modUpd f).joints = s.joints := by have h : (s.modUpd f).joints = s.joints := rfl; exact h
@[simp] theorem State.modUpd_mac (s : State) (f : UpdateSt → UpdateSt) : (s.modUpd f).mac = s.mac := by have h : (s.modUpd f).mac = s.mac := rfl; exact h
@[simp] theorem State.modUpd_truss (s : State) (f : UpdateSt → UpdateSt) : (s.modUpd f).truss = s.truss := by have h : (s.modUpd f).truss = s.truss := rfl; exact h
@[simp] theorem State.modUpd_lamp (s : State) (f : UpdateSt → UpdateSt) : (s.modUpd f).lamp = s.lamp := by have h : (s.modUpd f).lamp = s.lamp := rfl; exact h
@[simp] theorem State.modUpd_meter (s : State) (f : UpdateSt → UpdateSt) : (s.modUpd f).meter = s.meter := by have h : (s.modUpd f).meter = s.meter := rfl; exact h
@[simp] theorem State.modUpd_twin (s : State) (f : UpdateSt → UpdateSt) : (s.modUpd f).twin = s.twin := by have h : (s.modUpd f).twin = s.twin := rfl; exact h
@[simp] theorem State.modUpd_otp (s : State) (f : UpdateSt → UpdateSt) : (s.modUpd f).otp = s.otp := by have h : (s.modUpd f).otp = s.otp := rfl; exact h
@[simp] theorem State.modUpd_sec (s : State) (f : UpdateSt → UpdateSt) : (s.modUpd f).sec = s.sec := by have h : (s.modUpd f).sec = s.sec := rfl; exact h
@[simp] theorem State.modUpd_upd (s : State) (f : UpdateSt → UpdateSt) : (s.modUpd f).upd = f s.upd := by have h : (s.modUpd f).upd = f s.upd := rfl; exact h
@[simp] theorem State.modUpd_bist (s : State) (f : UpdateSt → UpdateSt) : (s.modUpd f).bist = s.bist := by have h : (s.modUpd f).bist = s.bist := rfl; exact h
@[simp] theorem State.modUpd_boot (s : State) (f : UpdateSt → UpdateSt) : (s.modUpd f).boot = s.boot := by have h : (s.modUpd f).boot = s.boot := rfl; exact h
@[simp] theorem State.modUpd_out (s : State) (f : UpdateSt → UpdateSt) : (s.modUpd f).out = s.out := by have h : (s.modUpd f).out = s.out := rfl; exact h
@[simp] theorem State.modUpd_pending (s : State) (f : UpdateSt → UpdateSt) : (s.modUpd f).pending = s.pending := by have h : (s.modUpd f).pending = s.pending := rfl; exact h
@[simp] theorem State.modUpd_freeIdx (s : State) (f : UpdateSt → UpdateSt) : (s.modUpd f).freeIdx = s.freeIdx := by have h : (s.modUpd f).freeIdx = s.freeIdx := rfl; exact h
@[simp] theorem State.modBist_now (s : State) (f : SelfTestSt → SelfTestSt) : (s.modBist f).now = s.now := by have h : (s.modBist f).now = s.now := rfl; exact h
@[simp] theorem State.modBist_time (s : State) (f : SelfTestSt → SelfTestSt) : (s.modBist f).time = s.time := by have h : (s.modBist f).time = s.time := rfl; exact h
@[simp] theorem State.modBist_rtc (s : State) (f : SelfTestSt → SelfTestSt) : (s.modBist f).rtc = s.rtc := by have h : (s.modBist f).rtc = s.rtc := rfl; exact h
@[simp] theorem State.modBist_fb (s : State) (f : SelfTestSt → SelfTestSt) : (s.modBist f).fb = s.fb := by have h : (s.modBist f).fb = s.fb := rfl; exact h
@[simp] theorem State.modBist_set (s : State) (f : SelfTestSt → SelfTestSt) : (s.modBist f).set = s.set := by have h : (s.modBist f).set = s.set := rfl; exact h
@[simp] theorem State.modBist_host (s : State) (f : SelfTestSt → SelfTestSt) : (s.modBist f).host = s.host := by have h : (s.modBist f).host = s.host := rfl; exact h
@[simp] theorem State.modBist_par (s : State) (f : SelfTestSt → SelfTestSt) : (s.modBist f).par = s.par := by have h : (s.modBist f).par = s.par := rfl; exact h
@[simp] theorem State.modBist_pwr (s : State) (f : SelfTestSt → SelfTestSt) : (s.modBist f).pwr = s.pwr := by have h : (s.modBist f).pwr = s.pwr := rfl; exact h
@[simp] theorem State.modBist_joints (s : State) (f : SelfTestSt → SelfTestSt) : (s.modBist f).joints = s.joints := by have h : (s.modBist f).joints = s.joints := rfl; exact h
@[simp] theorem State.modBist_mac (s : State) (f : SelfTestSt → SelfTestSt) : (s.modBist f).mac = s.mac := by have h : (s.modBist f).mac = s.mac := rfl; exact h
@[simp] theorem State.modBist_truss (s : State) (f : SelfTestSt → SelfTestSt) : (s.modBist f).truss = s.truss := by have h : (s.modBist f).truss = s.truss := rfl; exact h
@[simp] theorem State.modBist_lamp (s : State) (f : SelfTestSt → SelfTestSt) : (s.modBist f).lamp = s.lamp := by have h : (s.modBist f).lamp = s.lamp := rfl; exact h
@[simp] theorem State.modBist_meter (s : State) (f : SelfTestSt → SelfTestSt) : (s.modBist f).meter = s.meter := by have h : (s.modBist f).meter = s.meter := rfl; exact h
@[simp] theorem State.modBist_twin (s : State) (f : SelfTestSt → SelfTestSt) : (s.modBist f).twin = s.twin := by have h : (s.modBist f).twin = s.twin := rfl; exact h
@[simp] theorem State.modBist_otp (s : State) (f : SelfTestSt → SelfTestSt) : (s.modBist f).otp = s.otp := by have h : (s.modBist f).otp = s.otp := rfl; exact h
@[simp] theorem State.modBist_sec (s : State) (f : SelfTestSt → SelfTestSt) : (s.modBist f).sec = s.sec := by have h : (s.modBist f).sec = s.sec := rfl; exact h
@[simp] theorem State.modBist_upd (s : State) (f : SelfTestSt → SelfTestSt) : (s.modBist f).upd = s.upd := by have h : (s.modBist f).upd = s.upd := rfl; exact h
@[simp] theorem State.modBist_bist (s : State) (f : SelfTestSt → SelfTestSt) : (s.modBist f).bist = f s.bist := by have h : (s.modBist f).bist = f s.bist := rfl; exact h
@[simp] theorem State.modBist_boot (s : State) (f : SelfTestSt → SelfTestSt) : (s.modBist f).boot = s.boot := by have h : (s.modBist f).boot = s.boot := rfl; exact h
@[simp] theorem State.modBist_out (s : State) (f : SelfTestSt → SelfTestSt) : (s.modBist f).out = s.out := by have h : (s.modBist f).out = s.out := rfl; exact h
@[simp] theorem State.modBist_pending (s : State) (f : SelfTestSt → SelfTestSt) : (s.modBist f).pending = s.pending := by have h : (s.modBist f).pending = s.pending := rfl; exact h
@[simp] theorem State.modBist_freeIdx (s : State) (f : SelfTestSt → SelfTestSt) : (s.modBist f).freeIdx = s.freeIdx := by have h : (s.modBist f).freeIdx = s.freeIdx := rfl; exact h
@[simp] theorem State.modBoot_now (s : State) (f : BootSt → BootSt) : (s.modBoot f).now = s.now := by have h : (s.modBoot f).now = s.now := rfl; exact h
@[simp] theorem State.modBoot_time (s : State) (f : BootSt → BootSt) : (s.modBoot f).time = s.time := by have h : (s.modBoot f).time = s.time := rfl; exact h
@[simp] theorem State.modBoot_rtc (s : State) (f : BootSt → BootSt) : (s.modBoot f).rtc = s.rtc := by have h : (s.modBoot f).rtc = s.rtc := rfl; exact h
@[simp] theorem State.modBoot_fb (s : State) (f : BootSt → BootSt) : (s.modBoot f).fb = s.fb := by have h : (s.modBoot f).fb = s.fb := rfl; exact h
@[simp] theorem State.modBoot_set (s : State) (f : BootSt → BootSt) : (s.modBoot f).set = s.set := by have h : (s.modBoot f).set = s.set := rfl; exact h
@[simp] theorem State.modBoot_host (s : State) (f : BootSt → BootSt) : (s.modBoot f).host = s.host := by have h : (s.modBoot f).host = s.host := rfl; exact h
@[simp] theorem State.modBoot_par (s : State) (f : BootSt → BootSt) : (s.modBoot f).par = s.par := by have h : (s.modBoot f).par = s.par := rfl; exact h
@[simp] theorem State.modBoot_pwr (s : State) (f : BootSt → BootSt) : (s.modBoot f).pwr = s.pwr := by have h : (s.modBoot f).pwr = s.pwr := rfl; exact h
@[simp] theorem State.modBoot_joints (s : State) (f : BootSt → BootSt) : (s.modBoot f).joints = s.joints := by have h : (s.modBoot f).joints = s.joints := rfl; exact h
@[simp] theorem State.modBoot_mac (s : State) (f : BootSt → BootSt) : (s.modBoot f).mac = s.mac := by have h : (s.modBoot f).mac = s.mac := rfl; exact h
@[simp] theorem State.modBoot_truss (s : State) (f : BootSt → BootSt) : (s.modBoot f).truss = s.truss := by have h : (s.modBoot f).truss = s.truss := rfl; exact h
@[simp] theorem State.modBoot_lamp (s : State) (f : BootSt → BootSt) : (s.modBoot f).lamp = s.lamp := by have h : (s.modBoot f).lamp = s.lamp := rfl; exact h
@[simp] theorem State.modBoot_meter (s : State) (f : BootSt → BootSt) : (s.modBoot f).meter = s.meter := by have h : (s.modBoot f).meter = s.meter := rfl; exact h
@[simp] theorem State.modBoot_twin (s : State) (f : BootSt → BootSt) : (s.modBoot f).twin = s.twin := by have h : (s.modBoot f).twin = s.twin := rfl; exact h
@[simp] theorem State.modBoot_otp (s : State) (f : BootSt → BootSt) : (s.modBoot f).otp = s.otp := by have h : (s.modBoot f).otp = s.otp := rfl; exact h
@[simp] theorem State.modBoot_sec (s : State) (f : BootSt → BootSt) : (s.modBoot f).sec = s.sec := by have h : (s.modBoot f).sec = s.sec := rfl; exact h
@[simp] theorem State.modBoot_upd (s : State) (f : BootSt → BootSt) : (s.modBoot f).upd = s.upd := by have h : (s.modBoot f).upd = s.upd := rfl; exact h
@[simp] theorem State.modBoot_bist (s : State) (f : BootSt → BootSt) : (s.modBoot f).bist = s.bist := by have h : (s.modBoot f).bist = s.bist := rfl; exact h
@[simp] theorem State.modBoot_boot (s : State) (f : BootSt → BootSt) : (s.modBoot f).boot = f s.boot := by have h : (s.modBoot f).boot = f s.boot := rfl; exact h
@[simp] theorem State.modBoot_out (s : State) (f : BootSt → BootSt) : (s.modBoot f).out = s.out := by have h : (s.modBoot f).out = s.out := rfl; exact h
@[simp] theorem State.modBoot_pending (s : State) (f : BootSt → BootSt) : (s.modBoot f).pending = s.pending := by have h : (s.modBoot f).pending = s.pending := rfl; exact h
@[simp] theorem State.modBoot_freeIdx (s : State) (f : BootSt → BootSt) : (s.modBoot f).freeIdx = s.freeIdx := by have h : (s.modBoot f).freeIdx = s.freeIdx := rfl; exact h
@[simp] theorem State.modOut_now (s : State) (f : Outputs → Outputs) : (s.modOut f).now = s.now := by have h : (s.modOut f).now = s.now := rfl; exact h
@[simp] theorem State.modOut_time (s : State) (f : Outputs → Outputs) : (s.modOut f).time = s.time := by have h : (s.modOut f).time = s.time := rfl; exact h
@[simp] theorem State.modOut_rtc (s : State) (f : Outputs → Outputs) : (s.modOut f).rtc = s.rtc := by have h : (s.modOut f).rtc = s.rtc := rfl; exact h
@[simp] theorem State.modOut_fb (s : State) (f : Outputs → Outputs) : (s.modOut f).fb = s.fb := by have h : (s.modOut f).fb = s.fb := rfl; exact h
@[simp] theorem State.modOut_set (s : State) (f : Outputs → Outputs) : (s.modOut f).set = s.set := by have h : (s.modOut f).set = s.set := rfl; exact h
@[simp] theorem State.modOut_host (s : State) (f : Outputs → Outputs) : (s.modOut f).host = s.host := by have h : (s.modOut f).host = s.host := rfl; exact h
@[simp] theorem State.modOut_par (s : State) (f : Outputs → Outputs) : (s.modOut f).par = s.par := by have h : (s.modOut f).par = s.par := rfl; exact h
@[simp] theorem State.modOut_pwr (s : State) (f : Outputs → Outputs) : (s.modOut f).pwr = s.pwr := by have h : (s.modOut f).pwr = s.pwr := rfl; exact h
@[simp] theorem State.modOut_joints (s : State) (f : Outputs → Outputs) : (s.modOut f).joints = s.joints := by have h : (s.modOut f).joints = s.joints := rfl; exact h
@[simp] theorem State.modOut_mac (s : State) (f : Outputs → Outputs) : (s.modOut f).mac = s.mac := by have h : (s.modOut f).mac = s.mac := rfl; exact h
@[simp] theorem State.modOut_truss (s : State) (f : Outputs → Outputs) : (s.modOut f).truss = s.truss := by have h : (s.modOut f).truss = s.truss := rfl; exact h
@[simp] theorem State.modOut_lamp (s : State) (f : Outputs → Outputs) : (s.modOut f).lamp = s.lamp := by have h : (s.modOut f).lamp = s.lamp := rfl; exact h
@[simp] theorem State.modOut_meter (s : State) (f : Outputs → Outputs) : (s.modOut f).meter = s.meter := by have h : (s.modOut f).meter = s.meter := rfl; exact h
@[simp] theorem State.modOut_twin (s : State) (f : Outputs → Outputs) : (s.modOut f).twin = s.twin := by have h : (s.modOut f).twin = s.twin := rfl; exact h
@[simp] theorem State.modOut_otp (s : State) (f : Outputs → Outputs) : (s.modOut f).otp = s.otp := by have h : (s.modOut f).otp = s.otp := rfl; exact h
@[simp] theorem State.modOut_sec (s : State) (f : Outputs → Outputs) : (s.modOut f).sec = s.sec := by have h : (s.modOut f).sec = s.sec := rfl; exact h
@[simp] theorem State.modOut_upd (s : State) (f : Outputs → Outputs) : (s.modOut f).upd = s.upd := by have h : (s.modOut f).upd = s.upd := rfl; exact h
@[simp] theorem State.modOut_bist (s : State) (f : Outputs → Outputs) : (s.modOut f).bist = s.bist := by have h : (s.modOut f).bist = s.bist := rfl; exact h
@[simp] theorem State.modOut_boot (s : State) (f : Outputs → Outputs) : (s.modOut f).boot = s.boot := by have h : (s.modOut f).boot = s.boot := rfl; exact h
@[simp] theorem State.modOut_out (s : State) (f : Outputs → Outputs) : (s.modOut f).out = f s.out := by have h : (s.modOut f).out = f s.out := rfl; exact h
@[simp] theorem State.modOut_pending (s : State) (f : Outputs → Outputs) : (s.modOut f).pending = s.pending := by have h : (s.modOut f).pending = s.pending := rfl; exact h
@[simp] theorem State.modOut_freeIdx (s : State) (f : Outputs → Outputs) : (s.modOut f).freeIdx = s.freeIdx := by have h : (s.modOut f).freeIdx = s.freeIdx := rfl; exact h
@[simp] theorem State.draw_now (s : State) : s.draw.now = s.now := by have h : s.draw.now = s.now := rfl; exact h
@[simp] theorem State.draw_time (s : State) : s.draw.time = s.time := by have h : s.draw.time = s.time := rfl; exact h
@[simp] theorem State.draw_rtc (s : State) : s.draw.rtc = s.rtc := by have h : s.draw.rtc = s.rtc := rfl; exact h
@[simp] theorem State.draw_fb (s : State) : s.draw.fb = s.fb := by have h : s.draw.fb = s.fb := rfl; exact h
@[simp] theorem State.draw_set (s : State) : s.draw.set = s.set := by have h : s.draw.set = s.set := rfl; exact h
@[simp] theorem State.draw_host (s : State) : s.draw.host = s.host := by have h : s.draw.host = s.host := rfl; exact h
@[simp] theorem State.draw_par (s : State) : s.draw.par = s.par := by have h : s.draw.par = s.par := rfl; exact h
@[simp] theorem State.draw_pwr (s : State) : s.draw.pwr = s.pwr := by have h : s.draw.pwr = s.pwr := rfl; exact h
@[simp] theorem State.draw_joints (s : State) : s.draw.joints = s.joints := by have h : s.draw.joints = s.joints := rfl; exact h
@[simp] theorem State.draw_mac (s : State) : s.draw.mac = s.mac := by have h : s.draw.mac = s.mac := rfl; exact h
@[simp] theorem State.draw_truss (s : State) : s.draw.truss = s.truss := by have h : s.draw.truss = s.truss := rfl; exact h
@[simp] theorem State.draw_lamp (s : State) : s.draw.lamp = s.lamp := by have h : s.draw.lamp = s.lamp := rfl; exact h
@[simp] theorem State.draw_meter (s : State) : s.draw.meter = s.meter := by have h : s.draw.meter = s.meter := rfl; exact h
@[simp] theorem State.draw_twin (s : State) : s.draw.twin = s.twin := by have h : s.draw.twin = s.twin := rfl; exact h
@[simp] theorem State.draw_otp (s : State) : s.draw.otp = s.otp := by have h : s.draw.otp = s.otp := rfl; exact h
@[simp] theorem State.draw_sec (s : State) : s.draw.sec = s.sec := by have h : s.draw.sec = s.sec := rfl; exact h
@[simp] theorem State.draw_upd (s : State) : s.draw.upd = s.upd := by have h : s.draw.upd = s.upd := rfl; exact h
@[simp] theorem State.draw_bist (s : State) : s.draw.bist = s.bist := by have h : s.draw.bist = s.bist := rfl; exact h
@[simp] theorem State.draw_boot (s : State) : s.draw.boot = s.boot := by have h : s.draw.boot = s.boot := rfl; exact h
@[simp] theorem State.draw_out (s : State) : s.draw.out = s.out := by have h : s.draw.out = s.out := rfl; exact h
@[simp] theorem State.draw_pending (s : State) : s.draw.pending = s.pending := by have h : s.draw.pending = s.pending := rfl; exact h
@[simp] theorem State.draw_freeIdx (s : State) : s.draw.freeIdx = s.freeIdx + 1 := by have h : s.draw.freeIdx = s.freeIdx + 1 := rfl; exact h

end Sys2Proof.Machine
end

