-- ==== Sys2Proof/Laws/Fields.lean ====
section
/-! SUPPORT. What the operations that every command shares leave alone, field by field: events and notices change sessions and the
recorder, the completion of a command and the end of a session the twin's journal beside them. -/

namespace Sys2Proof.Machine

set_option Elab.async false

/-- What events, notices and replies leave alone. -/
def State.keptY (s : State) : Nat × TimeUnit × Rtc × Fallback × SettingsSt × PowerSt × List Joint × MacSt × TrussSt × LampSt × MeterSt × TwinSt × Otp × SecSt × UpdateSt × SelfTestSt × BootSt × Outputs × List Instr × Nat :=
  (s.now, s.time, s.rtc, s.fb, s.set, s.pwr, s.joints, s.mac, s.truss, s.lamp, s.meter, s.twin, s.otp, s.sec, s.upd, s.bist, s.boot, s.out, s.pending, s.freeIdx)

@[simp] theorem keptY_modPar (s : State) (f) : (s.modPar f).keptY = s.keptY := by have h : (s.modPar f).keptY = s.keptY := rfl; exact h
@[simp] theorem keptY_modHost (s : State) (f) : (s.modHost f).keptY = s.keptY := by have h : (s.modHost f).keptY = s.keptY := rfl; exact h
@[simp] theorem keptY_foldl {α : Type} (f : State → α → State) (h : ∀ s x, (f s x).keptY = s.keptY) (l : List α) (s : State) :
    (l.foldl f s).keptY = s.keptY := by
  induction l generalizing s with
  | nil => rfl
  | cons a l ih => simp only [List.foldl_cons, ih, h]
@[simp] theorem keptY_ite (c : Prop) [Decidable c] (a b : State) : (if c then a else b).keptY = if c then a.keptY else b.keptY := by
  split <;> rfl
theorem keptY_foldl2 {α : Type} (f : State → α → State) (h : ∀ s x, (f s x).keptY = s.keptY) (l : List α) (s u : State)
    (e : s.keptY = u.keptY) : (l.foldl f s).keptY = u.keptY := by rw [keptY_foldl f h, e]
@[simp] theorem onBank_keptY (k : Nat) (f : State → State) (s : State) (hf : ∀ u, (f u).keptY = u.keptY) : (onBank k f s).keptY = s.keptY := by simp [onBank, hf]
@[simp] theorem State_modSession_keptY (s : State) (sid : Nat) (f : Session → Session)  : (State.modSession s sid f).keptY = s.keptY := by simp [State.modSession]
@[simp] theorem pushNotice_keptY (sid : Nat) (build : Nat → Bytes) (s : State)  : (pushNotice sid build s).keptY = s.keptY := by simp [pushNotice]
@[simp] theorem giveCredits_keptY (sid n : Nat) (s : State)  : (giveCredits sid n s).keptY = s.keptY := by
  unfold giveCredits
  (try dsimp only)
  (repeat' split)
  all_goals (try simp)

@[simp] theorem creditNotice_keptY (sid : Nat) (s : State)  : (creditNotice sid s).keptY = s.keptY := by
  unfold creditNotice
  (try dsimp only)
  (repeat' split)
  all_goals (try simp)

@[simp] theorem noticeTo_keptY (dest : Option Nat) (code tag : Nat) (rec : Bytes) (s : State)  : (noticeTo dest code tag rec s).keptY = s.keptY := by
  unfold noticeTo
  (try dsimp only)
  (repeat' split)
  all_goals (try simp)

@[simp] theorem recordEv_keptY (code source sev : Nat) (payload : Bytes) (dest : Option Nat) (tag : Nat) (s : State)  : (recordEv code source sev payload dest tag s).keptY = s.keptY := by simp [recordEv]
@[simp] theorem ev_keptY (code : Nat) (payload : Bytes) (s : State)  : (ev code payload s).keptY = s.keptY := by simp [ev]
@[simp] theorem evL_keptY (n code : Nat) (payload : Bytes) (s : State)  : (evL n code payload s).keptY = s.keptY := by simp [evL]
@[simp] theorem evS_keptY (sid tag code : Nat) (payload : Bytes) (s : State)  : (evS sid tag code payload s).keptY = s.keptY := by simp [evS]
@[simp] theorem checkBacklog_keptY (sid : Nat) (s : State)  : (checkBacklog sid s).keptY = s.keptY := by
  unfold checkBacklog
  (try dsimp only)
  (repeat' split)
  all_goals (try simp)

@[simp] theorem pushBare_keptY (t : Transport) (bytes : Bytes) (seq : Nat) (s : State)  : (pushBare t bytes seq s).keptY = s.keptY := by simp [pushBare]
@[simp] theorem State_modCmd_keptY (s : State) (seq : Nat) (f : LiveCmd → LiveCmd)  : (State.modCmd s seq f).keptY = s.keptY := by simp [State.modCmd]
@[simp] theorem lateSuccess_keptY (p : LateRec → Bool) (status : Nat) (s : State)  : (lateSuccess p status s).keptY = s.keptY := by simp [lateSuccess]
@[simp] theorem faultRecord_keptY (source cls : Nat) (payload : Bytes) (s : State)  : (faultRecord source cls payload s).keptY = s.keptY := by simp [faultRecord]
@[simp] theorem raiseCE_keptY (source : Nat) (payload : Bytes) (s : State)  : (raiseCE source payload s).keptY = s.keptY := by simp [raiseCE]
@[simp] theorem refusePacket_keptY (t : Transport) (sid : Option Nat) (b : Bytes) (st d : Nat) (s : State)  : (refusePacket t sid b st d s).keptY = s.keptY := by
  unfold refusePacket
  (try dsimp only)
  (repeat' split)
  all_goals (try simp)


theorem keptY_now {s t : State} (h : t.keptY = s.keptY) : t.now = s.now := congrArg (fun x => x.1) h
theorem keptY_time {s t : State} (h : t.keptY = s.keptY) : t.time = s.time := congrArg (fun x => x.2.1) h
theorem keptY_rtc {s t : State} (h : t.keptY = s.keptY) : t.rtc = s.rtc := congrArg (fun x => x.2.2.1) h
theorem keptY_fb {s t : State} (h : t.keptY = s.keptY) : t.fb = s.fb := congrArg (fun x => x.2.2.2.1) h
theorem keptY_set {s t : State} (h : t.keptY = s.keptY) : t.set = s.set := congrArg (fun x => x.2.2.2.2.1) h
theorem keptY_pwr {s t : State} (h : t.keptY = s.keptY) : t.pwr = s.pwr := congrArg (fun x => x.2.2.2.2.2.1) h
theorem keptY_joints {s t : State} (h : t.keptY = s.keptY) : t.joints = s.joints := congrArg (fun x => x.2.2.2.2.2.2.1) h
theorem keptY_mac {s t : State} (h : t.keptY = s.keptY) : t.mac = s.mac := congrArg (fun x => x.2.2.2.2.2.2.2.1) h
theorem keptY_truss {s t : State} (h : t.keptY = s.keptY) : t.truss = s.truss := congrArg (fun x => x.2.2.2.2.2.2.2.2.1) h
theorem keptY_lamp {s t : State} (h : t.keptY = s.keptY) : t.lamp = s.lamp := congrArg (fun x => x.2.2.2.2.2.2.2.2.2.1) h
theorem keptY_meter {s t : State} (h : t.keptY = s.keptY) : t.meter = s.meter := congrArg (fun x => x.2.2.2.2.2.2.2.2.2.2.1) h
theorem keptY_twin {s t : State} (h : t.keptY = s.keptY) : t.twin = s.twin := congrArg (fun x => x.2.2.2.2.2.2.2.2.2.2.2.1) h
theorem keptY_otp {s t : State} (h : t.keptY = s.keptY) : t.otp = s.otp := congrArg (fun x => x.2.2.2.2.2.2.2.2.2.2.2.2.1) h
theorem keptY_sec {s t : State} (h : t.keptY = s.keptY) : t.sec = s.sec := congrArg (fun x => x.2.2.2.2.2.2.2.2.2.2.2.2.2.1) h
theorem keptY_upd {s t : State} (h : t.keptY = s.keptY) : t.upd = s.upd := congrArg (fun x => x.2.2.2.2.2.2.2.2.2.2.2.2.2.2.1) h
theorem keptY_bist {s t : State} (h : t.keptY = s.keptY) : t.bist = s.bist := congrArg (fun x => x.2.2.2.2.2.2.2.2.2.2.2.2.2.2.2.1) h
theorem keptY_boot {s t : State} (h : t.keptY = s.keptY) : t.boot = s.boot := congrArg (fun x => x.2.2.2.2.2.2.2.2.2.2.2.2.2.2.2.2.1) h
theorem keptY_out {s t : State} (h : t.keptY = s.keptY) : t.out = s.out := congrArg (fun x => x.2.2.2.2.2.2.2.2.2.2.2.2.2.2.2.2.2.1) h
theorem keptY_pending {s t : State} (h : t.keptY = s.keptY) : t.pending = s.pending := congrArg (fun x => x.2.2.2.2.2.2.2.2.2.2.2.2.2.2.2.2.2.2.1) h
theorem keptY_freeIdx {s t : State} (h : t.keptY = s.keptY) : t.freeIdx = s.freeIdx := congrArg (fun x => x.2.2.2.2.2.2.2.2.2.2.2.2.2.2.2.2.2.2.2) h

@[simp] theorem State_modSession_now (s : State) (sid : Nat) (f : Session → Session) : (State.modSession s sid f).now = s.now := keptY_now (State_modSession_keptY s sid f)
@[simp] theorem State_modSession_time (s : State) (sid : Nat) (f : Session → Session) : (State.modSession s sid f).time = s.time := keptY_time (State_modSession_keptY s sid f)
@[simp] theorem State_modSession_rtc (s : State) (sid : Nat) (f : Session → Session) : (State.modSession s sid f).rtc = s.rtc := keptY_rtc (State_modSession_keptY s sid f)
@[simp] theorem State_modSession_fb (s : State) (sid : Nat) (f : Session → Session) : (State.modSession s sid f).fb = s.fb := keptY_fb (State_modSession_keptY s sid f)
@[simp] theorem State_modSession_set (s : State) (sid : Nat) (f : Session → Session) : (State.modSession s sid f).set = s.set := keptY_set (State_modSession_keptY s sid f)
@[simp] theorem State_modSession_pwr (s : State) (sid : Nat) (f : Session → Session) : (State.modSession s sid f).pwr = s.pwr := keptY_pwr (State_modSession_keptY s sid f)
@[simp] theorem State_modSession_joints (s : State) (sid : Nat) (f : Session → Session) : (State.modSession s sid f).joints = s.joints := keptY_joints (State_modSession_keptY s sid f)
@[simp] theorem State_modSession_mac (s : State) (sid : Nat) (f : Session → Session) : (State.modSession s sid f).mac = s.mac := keptY_mac (State_modSession_keptY s sid f)
@[simp] theorem State_modSession_truss (s : State) (sid : Nat) (f : Session → Session) : (State.modSession s sid f).truss = s.truss := keptY_truss (State_modSession_keptY s sid f)
@[simp] theorem State_modSession_lamp (s : State) (sid : Nat) (f : Session → Session) : (State.modSession s sid f).lamp = s.lamp := keptY_lamp (State_modSession_keptY s sid f)
@[simp] theorem State_modSession_meter (s : State) (sid : Nat) (f : Session → Session) : (State.modSession s sid f).meter = s.meter := keptY_meter (State_modSession_keptY s sid f)
@[simp] theorem State_modSession_twin (s : State) (sid : Nat) (f : Session → Session) : (State.modSession s sid f).twin = s.twin := keptY_twin (State_modSession_keptY s sid f)
@[simp] theorem State_modSession_otp (s : State) (sid : Nat) (f : Session → Session) : (State.modSession s sid f).otp = s.otp := keptY_otp (State_modSession_keptY s sid f)
@[simp] theorem State_modSession_sec (s : State) (sid : Nat) (f : Session → Session) : (State.modSession s sid f).sec = s.sec := keptY_sec (State_modSession_keptY s sid f)
@[simp] theorem State_modSession_upd (s : State) (sid : Nat) (f : Session → Session) : (State.modSession s sid f).upd = s.upd := keptY_upd (State_modSession_keptY s sid f)
@[simp] theorem State_modSession_bist (s : State) (sid : Nat) (f : Session → Session) : (State.modSession s sid f).bist = s.bist := keptY_bist (State_modSession_keptY s sid f)
@[simp] theorem State_modSession_boot (s : State) (sid : Nat) (f : Session → Session) : (State.modSession s sid f).boot = s.boot := keptY_boot (State_modSession_keptY s sid f)
@[simp] theorem State_modSession_out (s : State) (sid : Nat) (f : Session → Session) : (State.modSession s sid f).out = s.out := keptY_out (State_modSession_keptY s sid f)
@[simp] theorem State_modSession_pending (s : State) (sid : Nat) (f : Session → Session) : (State.modSession s sid f).pending = s.pending := keptY_pending (State_modSession_keptY s sid f)
@[simp] theorem State_modSession_freeIdx (s : State) (sid : Nat) (f : Session → Session) : (State.modSession s sid f).freeIdx = s.freeIdx := keptY_freeIdx (State_modSession_keptY s sid f)
@[simp] theorem pushNotice_now (sid : Nat) (build : Nat → Bytes) (s : State) : (pushNotice sid build s).now = s.now := keptY_now (pushNotice_keptY sid build s)
@[simp] theorem pushNotice_time (sid : Nat) (build : Nat → Bytes) (s : State) : (pushNotice sid build s).time = s.time := keptY_time (pushNotice_keptY sid build s)
@[simp] theorem pushNotice_rtc (sid : Nat) (build : Nat → Bytes) (s : State) : (pushNotice sid build s).rtc = s.rtc := keptY_rtc (pushNotice_keptY sid build s)
@[simp] theorem pushNotice_fb (sid : Nat) (build : Nat → Bytes) (s : State) : (pushNotice sid build s).fb = s.fb := keptY_fb (pushNotice_keptY sid build s)
@[simp] theorem pushNotice_set (sid : Nat) (build : Nat → Bytes) (s : State) : (pushNotice sid build s).set = s.set := keptY_set (pushNotice_keptY sid build s)
@[simp] theorem pushNotice_pwr (sid : Nat) (build : Nat → Bytes) (s : State) : (pushNotice sid build s).pwr = s.pwr := keptY_pwr (pushNotice_keptY sid build s)
@[simp] theorem pushNotice_joints (sid : Nat) (build : Nat → Bytes) (s : State) : (pushNotice sid build s).joints = s.joints := keptY_joints (pushNotice_keptY sid build s)
@[simp] theorem pushNotice_mac (sid : Nat) (build : Nat → Bytes) (s : State) : (pushNotice sid build s).mac = s.mac := keptY_mac (pushNotice_keptY sid build s)
@[simp] theorem pushNotice_truss (sid : Nat) (build : Nat → Bytes) (s : State) : (pushNotice sid build s).truss = s.truss := keptY_truss (pushNotice_keptY sid build s)
@[simp] theorem pushNotice_lamp (sid : Nat) (build : Nat → Bytes) (s : State) : (pushNotice sid build s).lamp = s.lamp := keptY_lamp (pushNotice_keptY sid build s)
@[simp] theorem pushNotice_meter (sid : Nat) (build : Nat → Bytes) (s : State) : (pushNotice sid build s).meter = s.meter := keptY_meter (pushNotice_keptY sid build s)
@[simp] theorem pushNotice_twin (sid : Nat) (build : Nat → Bytes) (s : State) : (pushNotice sid build s).twin = s.twin := keptY_twin (pushNotice_keptY sid build s)
@[simp] theorem pushNotice_otp (sid : Nat) (build : Nat → Bytes) (s : State) : (pushNotice sid build s).otp = s.otp := keptY_otp (pushNotice_keptY sid build s)
@[simp] theorem pushNotice_sec (sid : Nat) (build : Nat → Bytes) (s : State) : (pushNotice sid build s).sec = s.sec := keptY_sec (pushNotice_keptY sid build s)
@[simp] theorem pushNotice_upd (sid : Nat) (build : Nat → Bytes) (s : State) : (pushNotice sid build s).upd = s.upd := keptY_upd (pushNotice_keptY sid build s)
@[simp] theorem pushNotice_bist (sid : Nat) (build : Nat → Bytes) (s : State) : (pushNotice sid build s).bist = s.bist := keptY_bist (pushNotice_keptY sid build s)
@[simp] theorem pushNotice_boot (sid : Nat) (build : Nat → Bytes) (s : State) : (pushNotice sid build s).boot = s.boot := keptY_boot (pushNotice_keptY sid build s)
@[simp] theorem pushNotice_out (sid : Nat) (build : Nat → Bytes) (s : State) : (pushNotice sid build s).out = s.out := keptY_out (pushNotice_keptY sid build s)
@[simp] theorem pushNotice_pending (sid : Nat) (build : Nat → Bytes) (s : State) : (pushNotice sid build s).pending = s.pending := keptY_pending (pushNotice_keptY sid build s)
@[simp] theorem pushNotice_freeIdx (sid : Nat) (build : Nat → Bytes) (s : State) : (pushNotice sid build s).freeIdx = s.freeIdx := keptY_freeIdx (pushNotice_keptY sid build s)
@[simp] theorem giveCredits_now (sid n : Nat) (s : State) : (giveCredits sid n s).now = s.now := keptY_now (giveCredits_keptY sid n s)
@[simp] theorem giveCredits_time (sid n : Nat) (s : State) : (giveCredits sid n s).time = s.time := keptY_time (giveCredits_keptY sid n s)
@[simp] theorem giveCredits_rtc (sid n : Nat) (s : State) : (giveCredits sid n s).rtc = s.rtc := keptY_rtc (giveCredits_keptY sid n s)
@[simp] theorem giveCredits_fb (sid n : Nat) (s : State) : (giveCredits sid n s).fb = s.fb := keptY_fb (giveCredits_keptY sid n s)
@[simp] theorem giveCredits_set (sid n : Nat) (s : State) : (giveCredits sid n s).set = s.set := keptY_set (giveCredits_keptY sid n s)
@[simp] theorem giveCredits_pwr (sid n : Nat) (s : State) : (giveCredits sid n s).pwr = s.pwr := keptY_pwr (giveCredits_keptY sid n s)
@[simp] theorem giveCredits_joints (sid n : Nat) (s : State) : (giveCredits sid n s).joints = s.joints := keptY_joints (giveCredits_keptY sid n s)
@[simp] theorem giveCredits_mac (sid n : Nat) (s : State) : (giveCredits sid n s).mac = s.mac := keptY_mac (giveCredits_keptY sid n s)
@[simp] theorem giveCredits_truss (sid n : Nat) (s : State) : (giveCredits sid n s).truss = s.truss := keptY_truss (giveCredits_keptY sid n s)
@[simp] theorem giveCredits_lamp (sid n : Nat) (s : State) : (giveCredits sid n s).lamp = s.lamp := keptY_lamp (giveCredits_keptY sid n s)
@[simp] theorem giveCredits_meter (sid n : Nat) (s : State) : (giveCredits sid n s).meter = s.meter := keptY_meter (giveCredits_keptY sid n s)
@[simp] theorem giveCredits_twin (sid n : Nat) (s : State) : (giveCredits sid n s).twin = s.twin := keptY_twin (giveCredits_keptY sid n s)
@[simp] theorem giveCredits_otp (sid n : Nat) (s : State) : (giveCredits sid n s).otp = s.otp := keptY_otp (giveCredits_keptY sid n s)
@[simp] theorem giveCredits_sec (sid n : Nat) (s : State) : (giveCredits sid n s).sec = s.sec := keptY_sec (giveCredits_keptY sid n s)
@[simp] theorem giveCredits_upd (sid n : Nat) (s : State) : (giveCredits sid n s).upd = s.upd := keptY_upd (giveCredits_keptY sid n s)
@[simp] theorem giveCredits_bist (sid n : Nat) (s : State) : (giveCredits sid n s).bist = s.bist := keptY_bist (giveCredits_keptY sid n s)
@[simp] theorem giveCredits_boot (sid n : Nat) (s : State) : (giveCredits sid n s).boot = s.boot := keptY_boot (giveCredits_keptY sid n s)
@[simp] theorem giveCredits_out (sid n : Nat) (s : State) : (giveCredits sid n s).out = s.out := keptY_out (giveCredits_keptY sid n s)
@[simp] theorem giveCredits_pending (sid n : Nat) (s : State) : (giveCredits sid n s).pending = s.pending := keptY_pending (giveCredits_keptY sid n s)
@[simp] theorem giveCredits_freeIdx (sid n : Nat) (s : State) : (giveCredits sid n s).freeIdx = s.freeIdx := keptY_freeIdx (giveCredits_keptY sid n s)
@[simp] theorem creditNotice_now (sid : Nat) (s : State) : (creditNotice sid s).now = s.now := keptY_now (creditNotice_keptY sid s)
@[simp] theorem creditNotice_time (sid : Nat) (s : State) : (creditNotice sid s).time = s.time := keptY_time (creditNotice_keptY sid s)
@[simp] theorem creditNotice_rtc (sid : Nat) (s : State) : (creditNotice sid s).rtc = s.rtc := keptY_rtc (creditNotice_keptY sid s)
@[simp] theorem creditNotice_fb (sid : Nat) (s : State) : (creditNotice sid s).fb = s.fb := keptY_fb (creditNotice_keptY sid s)
@[simp] theorem creditNotice_set (sid : Nat) (s : State) : (creditNotice sid s).set = s.set := keptY_set (creditNotice_keptY sid s)
@[simp] theorem creditNotice_pwr (sid : Nat) (s : State) : (creditNotice sid s).pwr = s.pwr := keptY_pwr (creditNotice_keptY sid s)
@[simp] theorem creditNotice_joints (sid : Nat) (s : State) : (creditNotice sid s).joints = s.joints := keptY_joints (creditNotice_keptY sid s)
@[simp] theorem creditNotice_mac (sid : Nat) (s : State) : (creditNotice sid s).mac = s.mac := keptY_mac (creditNotice_keptY sid s)
@[simp] theorem creditNotice_truss (sid : Nat) (s : State) : (creditNotice sid s).truss = s.truss := keptY_truss (creditNotice_keptY sid s)
@[simp] theorem creditNotice_lamp (sid : Nat) (s : State) : (creditNotice sid s).lamp = s.lamp := keptY_lamp (creditNotice_keptY sid s)
@[simp] theorem creditNotice_meter (sid : Nat) (s : State) : (creditNotice sid s).meter = s.meter := keptY_meter (creditNotice_keptY sid s)
@[simp] theorem creditNotice_twin (sid : Nat) (s : State) : (creditNotice sid s).twin = s.twin := keptY_twin (creditNotice_keptY sid s)
@[simp] theorem creditNotice_otp (sid : Nat) (s : State) : (creditNotice sid s).otp = s.otp := keptY_otp (creditNotice_keptY sid s)
@[simp] theorem creditNotice_sec (sid : Nat) (s : State) : (creditNotice sid s).sec = s.sec := keptY_sec (creditNotice_keptY sid s)
@[simp] theorem creditNotice_upd (sid : Nat) (s : State) : (creditNotice sid s).upd = s.upd := keptY_upd (creditNotice_keptY sid s)
@[simp] theorem creditNotice_bist (sid : Nat) (s : State) : (creditNotice sid s).bist = s.bist := keptY_bist (creditNotice_keptY sid s)
@[simp] theorem creditNotice_boot (sid : Nat) (s : State) : (creditNotice sid s).boot = s.boot := keptY_boot (creditNotice_keptY sid s)
@[simp] theorem creditNotice_out (sid : Nat) (s : State) : (creditNotice sid s).out = s.out := keptY_out (creditNotice_keptY sid s)
@[simp] theorem creditNotice_pending (sid : Nat) (s : State) : (creditNotice sid s).pending = s.pending := keptY_pending (creditNotice_keptY sid s)
@[simp] theorem creditNotice_freeIdx (sid : Nat) (s : State) : (creditNotice sid s).freeIdx = s.freeIdx := keptY_freeIdx (creditNotice_keptY sid s)
@[simp] theorem noticeTo_now (dest : Option Nat) (code tag : Nat) (rec : Bytes) (s : State) : (noticeTo dest code tag rec s).now = s.now := keptY_now (noticeTo_keptY dest code tag rec s)
@[simp] theorem noticeTo_time (dest : Option Nat) (code tag : Nat) (rec : Bytes) (s : State) : (noticeTo dest code tag rec s).time = s.time := keptY_time (noticeTo_keptY dest code tag rec s)
@[simp] theorem noticeTo_rtc (dest : Option Nat) (code tag : Nat) (rec : Bytes) (s : State) : (noticeTo dest code tag rec s).rtc = s.rtc := keptY_rtc (noticeTo_keptY dest code tag rec s)
@[simp] theorem noticeTo_fb (dest : Option Nat) (code tag : Nat) (rec : Bytes) (s : State) : (noticeTo dest code tag rec s).fb = s.fb := keptY_fb (noticeTo_keptY dest code tag rec s)
@[simp] theorem noticeTo_set (dest : Option Nat) (code tag : Nat) (rec : Bytes) (s : State) : (noticeTo dest code tag rec s).set = s.set := keptY_set (noticeTo_keptY dest code tag rec s)
@[simp] theorem noticeTo_pwr (dest : Option Nat) (code tag : Nat) (rec : Bytes) (s : State) : (noticeTo dest code tag rec s).pwr = s.pwr := keptY_pwr (noticeTo_keptY dest code tag rec s)
@[simp] theorem noticeTo_joints (dest : Option Nat) (code tag : Nat) (rec : Bytes) (s : State) : (noticeTo dest code tag rec s).joints = s.joints := keptY_joints (noticeTo_keptY dest code tag rec s)
@[simp] theorem noticeTo_mac (dest : Option Nat) (code tag : Nat) (rec : Bytes) (s : State) : (noticeTo dest code tag rec s).mac = s.mac := keptY_mac (noticeTo_keptY dest code tag rec s)
@[simp] theorem noticeTo_truss (dest : Option Nat) (code tag : Nat) (rec : Bytes) (s : State) : (noticeTo dest code tag rec s).truss = s.truss := keptY_truss (noticeTo_keptY dest code tag rec s)
@[simp] theorem noticeTo_lamp (dest : Option Nat) (code tag : Nat) (rec : Bytes) (s : State) : (noticeTo dest code tag rec s).lamp = s.lamp := keptY_lamp (noticeTo_keptY dest code tag rec s)
@[simp] theorem noticeTo_meter (dest : Option Nat) (code tag : Nat) (rec : Bytes) (s : State) : (noticeTo dest code tag rec s).meter = s.meter := keptY_meter (noticeTo_keptY dest code tag rec s)
@[simp] theorem noticeTo_twin (dest : Option Nat) (code tag : Nat) (rec : Bytes) (s : State) : (noticeTo dest code tag rec s).twin = s.twin := keptY_twin (noticeTo_keptY dest code tag rec s)
@[simp] theorem noticeTo_otp (dest : Option Nat) (code tag : Nat) (rec : Bytes) (s : State) : (noticeTo dest code tag rec s).otp = s.otp := keptY_otp (noticeTo_keptY dest code tag rec s)
@[simp] theorem noticeTo_sec (dest : Option Nat) (code tag : Nat) (rec : Bytes) (s : State) : (noticeTo dest code tag rec s).sec = s.sec := keptY_sec (noticeTo_keptY dest code tag rec s)
@[simp] theorem noticeTo_upd (dest : Option Nat) (code tag : Nat) (rec : Bytes) (s : State) : (noticeTo dest code tag rec s).upd = s.upd := keptY_upd (noticeTo_keptY dest code tag rec s)
@[simp] theorem noticeTo_bist (dest : Option Nat) (code tag : Nat) (rec : Bytes) (s : State) : (noticeTo dest code tag rec s).bist = s.bist := keptY_bist (noticeTo_keptY dest code tag rec s)
@[simp] theorem noticeTo_boot (dest : Option Nat) (code tag : Nat) (rec : Bytes) (s : State) : (noticeTo dest code tag rec s).boot = s.boot := keptY_boot (noticeTo_keptY dest code tag rec s)
@[simp] theorem noticeTo_out (dest : Option Nat) (code tag : Nat) (rec : Bytes) (s : State) : (noticeTo dest code tag rec s).out = s.out := keptY_out (noticeTo_keptY dest code tag rec s)
@[simp] theorem noticeTo_pending (dest : Option Nat) (code tag : Nat) (rec : Bytes) (s : State) : (noticeTo dest code tag rec s).pending = s.pending := keptY_pending (noticeTo_keptY dest code tag rec s)
@[simp] theorem noticeTo_freeIdx (dest : Option Nat) (code tag : Nat) (rec : Bytes) (s : State) : (noticeTo dest code tag rec s).freeIdx = s.freeIdx := keptY_freeIdx (noticeTo_keptY dest code tag rec s)
@[simp] theorem recordEv_now (code source sev : Nat) (payload : Bytes) (dest : Option Nat) (tag : Nat) (s : State) : (recordEv code source sev payload dest tag s).now = s.now := keptY_now (recordEv_keptY code source sev payload dest tag s)
@[simp] theorem recordEv_time (code source sev : Nat) (payload : Bytes) (dest : Option Nat) (tag : Nat) (s : State) : (recordEv code source sev payload dest tag s).time = s.time := keptY_time (recordEv_keptY code source sev payload dest tag s)
@[simp] theorem recordEv_rtc (code source sev : Nat) (payload : Bytes) (dest : Option Nat) (tag : Nat) (s : State) : (recordEv code source sev payload dest tag s).rtc = s.rtc := keptY_rtc (recordEv_keptY code source sev payload dest tag s)
@[simp] theorem recordEv_fb (code source sev : Nat) (payload : Bytes) (dest : Option Nat) (tag : Nat) (s : State) : (recordEv code source sev payload dest tag s).fb = s.fb := keptY_fb (recordEv_keptY code source sev payload dest tag s)
@[simp] theorem recordEv_set (code source sev : Nat) (payload : Bytes) (dest : Option Nat) (tag : Nat) (s : State) : (recordEv code source sev payload dest tag s).set = s.set := keptY_set (recordEv_keptY code source sev payload dest tag s)
@[simp] theorem recordEv_pwr (code source sev : Nat) (payload : Bytes) (dest : Option Nat) (tag : Nat) (s : State) : (recordEv code source sev payload dest tag s).pwr = s.pwr := keptY_pwr (recordEv_keptY code source sev payload dest tag s)
@[simp] theorem recordEv_joints (code source sev : Nat) (payload : Bytes) (dest : Option Nat) (tag : Nat) (s : State) : (recordEv code source sev payload dest tag s).joints = s.joints := keptY_joints (recordEv_keptY code source sev payload dest tag s)
@[simp] theorem recordEv_mac (code source sev : Nat) (payload : Bytes) (dest : Option Nat) (tag : Nat) (s : State) : (recordEv code source sev payload dest tag s).mac = s.mac := keptY_mac (recordEv_keptY code source sev payload dest tag s)
@[simp] theorem recordEv_truss (code source sev : Nat) (payload : Bytes) (dest : Option Nat) (tag : Nat) (s : State) : (recordEv code source sev payload dest tag s).truss = s.truss := keptY_truss (recordEv_keptY code source sev payload dest tag s)
@[simp] theorem recordEv_lamp (code source sev : Nat) (payload : Bytes) (dest : Option Nat) (tag : Nat) (s : State) : (recordEv code source sev payload dest tag s).lamp = s.lamp := keptY_lamp (recordEv_keptY code source sev payload dest tag s)
@[simp] theorem recordEv_meter (code source sev : Nat) (payload : Bytes) (dest : Option Nat) (tag : Nat) (s : State) : (recordEv code source sev payload dest tag s).meter = s.meter := keptY_meter (recordEv_keptY code source sev payload dest tag s)
@[simp] theorem recordEv_twin (code source sev : Nat) (payload : Bytes) (dest : Option Nat) (tag : Nat) (s : State) : (recordEv code source sev payload dest tag s).twin = s.twin := keptY_twin (recordEv_keptY code source sev payload dest tag s)
@[simp] theorem recordEv_otp (code source sev : Nat) (payload : Bytes) (dest : Option Nat) (tag : Nat) (s : State) : (recordEv code source sev payload dest tag s).otp = s.otp := keptY_otp (recordEv_keptY code source sev payload dest tag s)
@[simp] theorem recordEv_sec (code source sev : Nat) (payload : Bytes) (dest : Option Nat) (tag : Nat) (s : State) : (recordEv code source sev payload dest tag s).sec = s.sec := keptY_sec (recordEv_keptY code source sev payload dest tag s)
@[simp] theorem recordEv_upd (code source sev : Nat) (payload : Bytes) (dest : Option Nat) (tag : Nat) (s : State) : (recordEv code source sev payload dest tag s).upd = s.upd := keptY_upd (recordEv_keptY code source sev payload dest tag s)
@[simp] theorem recordEv_bist (code source sev : Nat) (payload : Bytes) (dest : Option Nat) (tag : Nat) (s : State) : (recordEv code source sev payload dest tag s).bist = s.bist := keptY_bist (recordEv_keptY code source sev payload dest tag s)
@[simp] theorem recordEv_boot (code source sev : Nat) (payload : Bytes) (dest : Option Nat) (tag : Nat) (s : State) : (recordEv code source sev payload dest tag s).boot = s.boot := keptY_boot (recordEv_keptY code source sev payload dest tag s)
@[simp] theorem recordEv_out (code source sev : Nat) (payload : Bytes) (dest : Option Nat) (tag : Nat) (s : State) : (recordEv code source sev payload dest tag s).out = s.out := keptY_out (recordEv_keptY code source sev payload dest tag s)
@[simp] theorem recordEv_pending (code source sev : Nat) (payload : Bytes) (dest : Option Nat) (tag : Nat) (s : State) : (recordEv code source sev payload dest tag s).pending = s.pending := keptY_pending (recordEv_keptY code source sev payload dest tag s)
@[simp] theorem recordEv_freeIdx (code source sev : Nat) (payload : Bytes) (dest : Option Nat) (tag : Nat) (s : State) : (recordEv code source sev payload dest tag s).freeIdx = s.freeIdx := keptY_freeIdx (recordEv_keptY code source sev payload dest tag s)
@[simp] theorem ev_now (code : Nat) (payload : Bytes) (s : State) : (ev code payload s).now = s.now := keptY_now (ev_keptY code payload s)
@[simp] theorem ev_time (code : Nat) (payload : Bytes) (s : State) : (ev code payload s).time = s.time := keptY_time (ev_keptY code payload s)
@[simp] theorem ev_rtc (code : Nat) (payload : Bytes) (s : State) : (ev code payload s).rtc = s.rtc := keptY_rtc (ev_keptY code payload s)
@[simp] theorem ev_fb (code : Nat) (payload : Bytes) (s : State) : (ev code payload s).fb = s.fb := keptY_fb (ev_keptY code payload s)
@[simp] theorem ev_set (code : Nat) (payload : Bytes) (s : State) : (ev code payload s).set = s.set := keptY_set (ev_keptY code payload s)
@[simp] theorem ev_pwr (code : Nat) (payload : Bytes) (s : State) : (ev code payload s).pwr = s.pwr := keptY_pwr (ev_keptY code payload s)
@[simp] theorem ev_joints (code : Nat) (payload : Bytes) (s : State) : (ev code payload s).joints = s.joints := keptY_joints (ev_keptY code payload s)
@[simp] theorem ev_mac (code : Nat) (payload : Bytes) (s : State) : (ev code payload s).mac = s.mac := keptY_mac (ev_keptY code payload s)
@[simp] theorem ev_truss (code : Nat) (payload : Bytes) (s : State) : (ev code payload s).truss = s.truss := keptY_truss (ev_keptY code payload s)
@[simp] theorem ev_lamp (code : Nat) (payload : Bytes) (s : State) : (ev code payload s).lamp = s.lamp := keptY_lamp (ev_keptY code payload s)
@[simp] theorem ev_meter (code : Nat) (payload : Bytes) (s : State) : (ev code payload s).meter = s.meter := keptY_meter (ev_keptY code payload s)
@[simp] theorem ev_twin (code : Nat) (payload : Bytes) (s : State) : (ev code payload s).twin = s.twin := keptY_twin (ev_keptY code payload s)
@[simp] theorem ev_otp (code : Nat) (payload : Bytes) (s : State) : (ev code payload s).otp = s.otp := keptY_otp (ev_keptY code payload s)
@[simp] theorem ev_sec (code : Nat) (payload : Bytes) (s : State) : (ev code payload s).sec = s.sec := keptY_sec (ev_keptY code payload s)
@[simp] theorem ev_upd (code : Nat) (payload : Bytes) (s : State) : (ev code payload s).upd = s.upd := keptY_upd (ev_keptY code payload s)
@[simp] theorem ev_bist (code : Nat) (payload : Bytes) (s : State) : (ev code payload s).bist = s.bist := keptY_bist (ev_keptY code payload s)
@[simp] theorem ev_boot (code : Nat) (payload : Bytes) (s : State) : (ev code payload s).boot = s.boot := keptY_boot (ev_keptY code payload s)
@[simp] theorem ev_out (code : Nat) (payload : Bytes) (s : State) : (ev code payload s).out = s.out := keptY_out (ev_keptY code payload s)
@[simp] theorem ev_pending (code : Nat) (payload : Bytes) (s : State) : (ev code payload s).pending = s.pending := keptY_pending (ev_keptY code payload s)
@[simp] theorem ev_freeIdx (code : Nat) (payload : Bytes) (s : State) : (ev code payload s).freeIdx = s.freeIdx := keptY_freeIdx (ev_keptY code payload s)
@[simp] theorem evL_now (n code : Nat) (payload : Bytes) (s : State) : (evL n code payload s).now = s.now := keptY_now (evL_keptY n code payload s)
@[simp] theorem evL_time (n code : Nat) (payload : Bytes) (s : State) : (evL n code payload s).time = s.time := keptY_time (evL_keptY n code payload s)
@[simp] theorem evL_rtc (n code : Nat) (payload : Bytes) (s : State) : (evL n code payload s).rtc = s.rtc := keptY_rtc (evL_keptY n code payload s)
@[simp] theorem evL_fb (n code : Nat) (payload : Bytes) (s : State) : (evL n code payload s).fb = s.fb := keptY_fb (evL_keptY n code payload s)
@[simp] theorem evL_set (n code : Nat) (payload : Bytes) (s : State) : (evL n code payload s).set = s.set := keptY_set (evL_keptY n code payload s)
@[simp] theorem evL_pwr (n code : Nat) (payload : Bytes) (s : State) : (evL n code payload s).pwr = s.pwr := keptY_pwr (evL_keptY n code payload s)
@[simp] theorem evL_joints (n code : Nat) (payload : Bytes) (s : State) : (evL n code payload s).joints = s.joints := keptY_joints (evL_keptY n code payload s)
@[simp] theorem evL_mac (n code : Nat) (payload : Bytes) (s : State) : (evL n code payload s).mac = s.mac := keptY_mac (evL_keptY n code payload s)
@[simp] theorem evL_truss (n code : Nat) (payload : Bytes) (s : State) : (evL n code payload s).truss = s.truss := keptY_truss (evL_keptY n code payload s)
@[simp] theorem evL_lamp (n code : Nat) (payload : Bytes) (s : State) : (evL n code payload s).lamp = s.lamp := keptY_lamp (evL_keptY n code payload s)
@[simp] theorem evL_meter (n code : Nat) (payload : Bytes) (s : State) : (evL n code payload s).meter = s.meter := keptY_meter (evL_keptY n code payload s)
@[simp] theorem evL_twin (n code : Nat) (payload : Bytes) (s : State) : (evL n code payload s).twin = s.twin := keptY_twin (evL_keptY n code payload s)
@[simp] theorem evL_otp (n code : Nat) (payload : Bytes) (s : State) : (evL n code payload s).otp = s.otp := keptY_otp (evL_keptY n code payload s)
@[simp] theorem evL_sec (n code : Nat) (payload : Bytes) (s : State) : (evL n code payload s).sec = s.sec := keptY_sec (evL_keptY n code payload s)
@[simp] theorem evL_upd (n code : Nat) (payload : Bytes) (s : State) : (evL n code payload s).upd = s.upd := keptY_upd (evL_keptY n code payload s)
@[simp] theorem evL_bist (n code : Nat) (payload : Bytes) (s : State) : (evL n code payload s).bist = s.bist := keptY_bist (evL_keptY n code payload s)
@[simp] theorem evL_boot (n code : Nat) (payload : Bytes) (s : State) : (evL n code payload s).boot = s.boot := keptY_boot (evL_keptY n code payload s)
@[simp] theorem evL_out (n code : Nat) (payload : Bytes) (s : State) : (evL n code payload s).out = s.out := keptY_out (evL_keptY n code payload s)
@[simp] theorem evL_pending (n code : Nat) (payload : Bytes) (s : State) : (evL n code payload s).pending = s.pending := keptY_pending (evL_keptY n code payload s)
@[simp] theorem evL_freeIdx (n code : Nat) (payload : Bytes) (s : State) : (evL n code payload s).freeIdx = s.freeIdx := keptY_freeIdx (evL_keptY n code payload s)
@[simp] theorem evS_now (sid tag code : Nat) (payload : Bytes) (s : State) : (evS sid tag code payload s).now = s.now := keptY_now (evS_keptY sid tag code payload s)
@[simp] theorem evS_time (sid tag code : Nat) (payload : Bytes) (s : State) : (evS sid tag code payload s).time = s.time := keptY_time (evS_keptY sid tag code payload s)
@[simp] theorem evS_rtc (sid tag code : Nat) (payload : Bytes) (s : State) : (evS sid tag code payload s).rtc = s.rtc := keptY_rtc (evS_keptY sid tag code payload s)
@[simp] theorem evS_fb (sid tag code : Nat) (payload : Bytes) (s : State) : (evS sid tag code payload s).fb = s.fb := keptY_fb (evS_keptY sid tag code payload s)
@[simp] theorem evS_set (sid tag code : Nat) (payload : Bytes) (s : State) : (evS sid tag code payload s).set = s.set := keptY_set (evS_keptY sid tag code payload s)
@[simp] theorem evS_pwr (sid tag code : Nat) (payload : Bytes) (s : State) : (evS sid tag code payload s).pwr = s.pwr := keptY_pwr (evS_keptY sid tag code payload s)
@[simp] theorem evS_joints (sid tag code : Nat) (payload : Bytes) (s : State) : (evS sid tag code payload s).joints = s.joints := keptY_joints (evS_keptY sid tag code payload s)
@[simp] theorem evS_mac (sid tag code : Nat) (payload : Bytes) (s : State) : (evS sid tag code payload s).mac = s.mac := keptY_mac (evS_keptY sid tag code payload s)
@[simp] theorem evS_truss (sid tag code : Nat) (payload : Bytes) (s : State) : (evS sid tag code payload s).truss = s.truss := keptY_truss (evS_keptY sid tag code payload s)
@[simp] theorem evS_lamp (sid tag code : Nat) (payload : Bytes) (s : State) : (evS sid tag code payload s).lamp = s.lamp := keptY_lamp (evS_keptY sid tag code payload s)
@[simp] theorem evS_meter (sid tag code : Nat) (payload : Bytes) (s : State) : (evS sid tag code payload s).meter = s.meter := keptY_meter (evS_keptY sid tag code payload s)
@[simp] theorem evS_twin (sid tag code : Nat) (payload : Bytes) (s : State) : (evS sid tag code payload s).twin = s.twin := keptY_twin (evS_keptY sid tag code payload s)
@[simp] theorem evS_otp (sid tag code : Nat) (payload : Bytes) (s : State) : (evS sid tag code payload s).otp = s.otp := keptY_otp (evS_keptY sid tag code payload s)
@[simp] theorem evS_sec (sid tag code : Nat) (payload : Bytes) (s : State) : (evS sid tag code payload s).sec = s.sec := keptY_sec (evS_keptY sid tag code payload s)
@[simp] theorem evS_upd (sid tag code : Nat) (payload : Bytes) (s : State) : (evS sid tag code payload s).upd = s.upd := keptY_upd (evS_keptY sid tag code payload s)
@[simp] theorem evS_bist (sid tag code : Nat) (payload : Bytes) (s : State) : (evS sid tag code payload s).bist = s.bist := keptY_bist (evS_keptY sid tag code payload s)
@[simp] theorem evS_boot (sid tag code : Nat) (payload : Bytes) (s : State) : (evS sid tag code payload s).boot = s.boot := keptY_boot (evS_keptY sid tag code payload s)
@[simp] theorem evS_out (sid tag code : Nat) (payload : Bytes) (s : State) : (evS sid tag code payload s).out = s.out := keptY_out (evS_keptY sid tag code payload s)
@[simp] theorem evS_pending (sid tag code : Nat) (payload : Bytes) (s : State) : (evS sid tag code payload s).pending = s.pending := keptY_pending (evS_keptY sid tag code payload s)
@[simp] theorem evS_freeIdx (sid tag code : Nat) (payload : Bytes) (s : State) : (evS sid tag code payload s).freeIdx = s.freeIdx := keptY_freeIdx (evS_keptY sid tag code payload s)
@[simp] theorem checkBacklog_now (sid : Nat) (s : State) : (checkBacklog sid s).now = s.now := keptY_now (checkBacklog_keptY sid s)
@[simp] theorem checkBacklog_time (sid : Nat) (s : State) : (checkBacklog sid s).time = s.time := keptY_time (checkBacklog_keptY sid s)
@[simp] theorem checkBacklog_rtc (sid : Nat) (s : State) : (checkBacklog sid s).rtc = s.rtc := keptY_rtc (checkBacklog_keptY sid s)
@[simp] theorem checkBacklog_fb (sid : Nat) (s : State) : (checkBacklog sid s).fb = s.fb := keptY_fb (checkBacklog_keptY sid s)
@[simp] theorem checkBacklog_set (sid : Nat) (s : State) : (checkBacklog sid s).set = s.set := keptY_set (checkBacklog_keptY sid s)
@[simp] theorem checkBacklog_pwr (sid : Nat) (s : State) : (checkBacklog sid s).pwr = s.pwr := keptY_pwr (checkBacklog_keptY sid s)
@[simp] theorem checkBacklog_joints (sid : Nat) (s : State) : (checkBacklog sid s).joints = s.joints := keptY_joints (checkBacklog_keptY sid s)
@[simp] theorem checkBacklog_mac (sid : Nat) (s : State) : (checkBacklog sid s).mac = s.mac := keptY_mac (checkBacklog_keptY sid s)
@[simp] theorem checkBacklog_truss (sid : Nat) (s : State) : (checkBacklog sid s).truss = s.truss := keptY_truss (checkBacklog_keptY sid s)
@[simp] theorem checkBacklog_lamp (sid : Nat) (s : State) : (checkBacklog sid s).lamp = s.lamp := keptY_lamp (checkBacklog_keptY sid s)
@[simp] theorem checkBacklog_meter (sid : Nat) (s : State) : (checkBacklog sid s).meter = s.meter := keptY_meter (checkBacklog_keptY sid s)
@[simp] theorem checkBacklog_twin (sid : Nat) (s : State) : (checkBacklog sid s).twin = s.twin := keptY_twin (checkBacklog_keptY sid s)
@[simp] theorem checkBacklog_otp (sid : Nat) (s : State) : (checkBacklog sid s).otp = s.otp := keptY_otp (checkBacklog_keptY sid s)
@[simp] theorem checkBacklog_sec (sid : Nat) (s : State) : (checkBacklog sid s).sec = s.sec := keptY_sec (checkBacklog_keptY sid s)
@[simp] theorem checkBacklog_upd (sid : Nat) (s : State) : (checkBacklog sid s).upd = s.upd := keptY_upd (checkBacklog_keptY sid s)
@[simp] theorem checkBacklog_bist (sid : Nat) (s : State) : (checkBacklog sid s).bist = s.bist := keptY_bist (checkBacklog_keptY sid s)
@[simp] theorem checkBacklog_boot (sid : Nat) (s : State) : (checkBacklog sid s).boot = s.boot := keptY_boot (checkBacklog_keptY sid s)
@[simp] theorem checkBacklog_out (sid : Nat) (s : State) : (checkBacklog sid s).out = s.out := keptY_out (checkBacklog_keptY sid s)
@[simp] theorem checkBacklog_pending (sid : Nat) (s : State) : (checkBacklog sid s).pending = s.pending := keptY_pending (checkBacklog_keptY sid s)
@[simp] theorem checkBacklog_freeIdx (sid : Nat) (s : State) : (checkBacklog sid s).freeIdx = s.freeIdx := keptY_freeIdx (checkBacklog_keptY sid s)
@[simp] theorem pushBare_now (t : Transport) (bytes : Bytes) (seq : Nat) (s : State) : (pushBare t bytes seq s).now = s.now := keptY_now (pushBare_keptY t bytes seq s)
@[simp] theorem pushBare_time (t : Transport) (bytes : Bytes) (seq : Nat) (s : State) : (pushBare t bytes seq s).time = s.time := keptY_time (pushBare_keptY t bytes seq s)
@[simp] theorem pushBare_rtc (t : Transport) (bytes : Bytes) (seq : Nat) (s : State) : (pushBare t bytes seq s).rtc = s.rtc := keptY_rtc (pushBare_keptY t bytes seq s)
@[simp] theorem pushBare_fb (t : Transport) (bytes : Bytes) (seq : Nat) (s : State) : (pushBare t bytes seq s).fb = s.fb := keptY_fb (pushBare_keptY t bytes seq s)
@[simp] theorem pushBare_set (t : Transport) (bytes : Bytes) (seq : Nat) (s : State) : (pushBare t bytes seq s).set = s.set := keptY_set (pushBare_keptY t bytes seq s)
@[simp] theorem pushBare_pwr (t : Transport) (bytes : Bytes) (seq : Nat) (s : State) : (pushBare t bytes seq s).pwr = s.pwr := keptY_pwr (pushBare_keptY t bytes seq s)
@[simp] theorem pushBare_joints (t : Transport) (bytes : Bytes) (seq : Nat) (s : State) : (pushBare t bytes seq s).joints = s.joints := keptY_joints (pushBare_keptY t bytes seq s)
@[simp] theorem pushBare_mac (t : Transport) (bytes : Bytes) (seq : Nat) (s : State) : (pushBare t bytes seq s).mac = s.mac := keptY_mac (pushBare_keptY t bytes seq s)
@[simp] theorem pushBare_truss (t : Transport) (bytes : Bytes) (seq : Nat) (s : State) : (pushBare t bytes seq s).truss = s.truss := keptY_truss (pushBare_keptY t bytes seq s)
@[simp] theorem pushBare_lamp (t : Transport) (bytes : Bytes) (seq : Nat) (s : State) : (pushBare t bytes seq s).lamp = s.lamp := keptY_lamp (pushBare_keptY t bytes seq s)
@[simp] theorem pushBare_meter (t : Transport) (bytes : Bytes) (seq : Nat) (s : State) : (pushBare t bytes seq s).meter = s.meter := keptY_meter (pushBare_keptY t bytes seq s)
@[simp] theorem pushBare_twin (t : Transport) (bytes : Bytes) (seq : Nat) (s : State) : (pushBare t bytes seq s).twin = s.twin := keptY_twin (pushBare_keptY t bytes seq s)
@[simp] theorem pushBare_otp (t : Transport) (bytes : Bytes) (seq : Nat) (s : State) : (pushBare t bytes seq s).otp = s.otp := keptY_otp (pushBare_keptY t bytes seq s)
@[simp] theorem pushBare_sec (t : Transport) (bytes : Bytes) (seq : Nat) (s : State) : (pushBare t bytes seq s).sec = s.sec := keptY_sec (pushBare_keptY t bytes seq s)
@[simp] theorem pushBare_upd (t : Transport) (bytes : Bytes) (seq : Nat) (s : State) : (pushBare t bytes seq s).upd = s.upd := keptY_upd (pushBare_keptY t bytes seq s)
@[simp] theorem pushBare_bist (t : Transport) (bytes : Bytes) (seq : Nat) (s : State) : (pushBare t bytes seq s).bist = s.bist := keptY_bist (pushBare_keptY t bytes seq s)
@[simp] theorem pushBare_boot (t : Transport) (bytes : Bytes) (seq : Nat) (s : State) : (pushBare t bytes seq s).boot = s.boot := keptY_boot (pushBare_keptY t bytes seq s)
@[simp] theorem pushBare_out (t : Transport) (bytes : Bytes) (seq : Nat) (s : State) : (pushBare t bytes seq s).out = s.out := keptY_out (pushBare_keptY t bytes seq s)
@[simp] theorem pushBare_pending (t : Transport) (bytes : Bytes) (seq : Nat) (s : State) : (pushBare t bytes seq s).pending = s.pending := keptY_pending (pushBare_keptY t bytes seq s)
@[simp] theorem pushBare_freeIdx (t : Transport) (bytes : Bytes) (seq : Nat) (s : State) : (pushBare t bytes seq s).freeIdx = s.freeIdx := keptY_freeIdx (pushBare_keptY t bytes seq s)
@[simp] theorem State_modCmd_now (s : State) (seq : Nat) (f : LiveCmd → LiveCmd) : (State.modCmd s seq f).now = s.now := keptY_now (State_modCmd_keptY s seq f)
@[simp] theorem State_modCmd_time (s : State) (seq : Nat) (f : LiveCmd → LiveCmd) : (State.modCmd s seq f).time = s.time := keptY_time (State_modCmd_keptY s seq f)
@[simp] theorem State_modCmd_rtc (s : State) (seq : Nat) (f : LiveCmd → LiveCmd) : (State.modCmd s seq f).rtc = s.rtc := keptY_rtc (State_modCmd_keptY s seq f)
@[simp] theorem State_modCmd_fb (s : State) (seq : Nat) (f : LiveCmd → LiveCmd) : (State.modCmd s seq f).fb = s.fb := keptY_fb (State_modCmd_keptY s seq f)
@[simp] theorem State_modCmd_set (s : State) (seq : Nat) (f : LiveCmd → LiveCmd) : (State.modCmd s seq f).set = s.set := keptY_set (State_modCmd_keptY s seq f)
@[simp] theorem State_modCmd_pwr (s : State) (seq : Nat) (f : LiveCmd → LiveCmd) : (State.modCmd s seq f).pwr = s.pwr := keptY_pwr (State_modCmd_keptY s seq f)
@[simp] theorem State_modCmd_joints (s : State) (seq : Nat) (f : LiveCmd → LiveCmd) : (State.modCmd s seq f).joints = s.joints := keptY_joints (State_modCmd_keptY s seq f)
@[simp] theorem State_modCmd_mac (s : State) (seq : Nat) (f : LiveCmd → LiveCmd) : (State.modCmd s seq f).mac = s.mac := keptY_mac (State_modCmd_keptY s seq f)
@[simp] theorem State_modCmd_truss (s : State) (seq : Nat) (f : LiveCmd → LiveCmd) : (State.modCmd s seq f).truss = s.truss := keptY_truss (State_modCmd_keptY s seq f)
@[simp] theorem State_modCmd_lamp (s : State) (seq : Nat) (f : LiveCmd → LiveCmd) : (State.modCmd s seq f).lamp = s.lamp := keptY_lamp (State_modCmd_keptY s seq f)
@[simp] theorem State_modCmd_meter (s : State) (seq : Nat) (f : LiveCmd → LiveCmd) : (State.modCmd s seq f).meter = s.meter := keptY_meter (State_modCmd_keptY s seq f)
@[simp] theorem State_modCmd_twin (s : State) (seq : Nat) (f : LiveCmd → LiveCmd) : (State.modCmd s seq f).twin = s.twin := keptY_twin (State_modCmd_keptY s seq f)
@[simp] theorem State_modCmd_otp (s : State) (seq : Nat) (f : LiveCmd → LiveCmd) : (State.modCmd s seq f).otp = s.otp := keptY_otp (State_modCmd_keptY s seq f)
@[simp] theorem State_modCmd_sec (s : State) (seq : Nat) (f : LiveCmd → LiveCmd) : (State.modCmd s seq f).sec = s.sec := keptY_sec (State_modCmd_keptY s seq f)
@[simp] theorem State_modCmd_upd (s : State) (seq : Nat) (f : LiveCmd → LiveCmd) : (State.modCmd s seq f).upd = s.upd := keptY_upd (State_modCmd_keptY s seq f)
@[simp] theorem State_modCmd_bist (s : State) (seq : Nat) (f : LiveCmd → LiveCmd) : (State.modCmd s seq f).bist = s.bist := keptY_bist (State_modCmd_keptY s seq f)
@[simp] theorem State_modCmd_boot (s : State) (seq : Nat) (f : LiveCmd → LiveCmd) : (State.modCmd s seq f).boot = s.boot := keptY_boot (State_modCmd_keptY s seq f)
@[simp] theorem State_modCmd_out (s : State) (seq : Nat) (f : LiveCmd → LiveCmd) : (State.modCmd s seq f).out = s.out := keptY_out (State_modCmd_keptY s seq f)
@[simp] theorem State_modCmd_pending (s : State) (seq : Nat) (f : LiveCmd → LiveCmd) : (State.modCmd s seq f).pending = s.pending := keptY_pending (State_modCmd_keptY s seq f)
@[simp] theorem State_modCmd_freeIdx (s : State) (seq : Nat) (f : LiveCmd → LiveCmd) : (State.modCmd s seq f).freeIdx = s.freeIdx := keptY_freeIdx (State_modCmd_keptY s seq f)
@[simp] theorem lateSuccess_now (p : LateRec → Bool) (status : Nat) (s : State) : (lateSuccess p status s).now = s.now := keptY_now (lateSuccess_keptY p status s)
@[simp] theorem lateSuccess_time (p : LateRec → Bool) (status : Nat) (s : State) : (lateSuccess p status s).time = s.time := keptY_time (lateSuccess_keptY p status s)
@[simp] theorem lateSuccess_rtc (p : LateRec → Bool) (status : Nat) (s : State) : (lateSuccess p status s).rtc = s.rtc := keptY_rtc (lateSuccess_keptY p status s)
@[simp] theorem lateSuccess_fb (p : LateRec → Bool) (status : Nat) (s : State) : (lateSuccess p status s).fb = s.fb := keptY_fb (lateSuccess_keptY p status s)
@[simp] theorem lateSuccess_set (p : LateRec → Bool) (status : Nat) (s : State) : (lateSuccess p status s).set = s.set := keptY_set (lateSuccess_keptY p status s)
@[simp] theorem lateSuccess_pwr (p : LateRec → Bool) (status : Nat) (s : State) : (lateSuccess p status s).pwr = s.pwr := keptY_pwr (lateSuccess_keptY p status s)
@[simp] theorem lateSuccess_joints (p : LateRec → Bool) (status : Nat) (s : State) : (lateSuccess p status s).joints = s.joints := keptY_joints (lateSuccess_keptY p status s)
@[simp] theorem lateSuccess_mac (p : LateRec → Bool) (status : Nat) (s : State) : (lateSuccess p status s).mac = s.mac := keptY_mac (lateSuccess_keptY p status s)
@[simp] theorem lateSuccess_truss (p : LateRec → Bool) (status : Nat) (s : State) : (lateSuccess p status s).truss = s.truss := keptY_truss (lateSuccess_keptY p status s)
@[simp] theorem lateSuccess_lamp (p : LateRec → Bool) (status : Nat) (s : State) : (lateSuccess p status s).lamp = s.lamp := keptY_lamp (lateSuccess_keptY p status s)
@[simp] theorem lateSuccess_meter (p : LateRec → Bool) (status : Nat) (s : State) : (lateSuccess p status s).meter = s.meter := keptY_meter (lateSuccess_keptY p status s)
@[simp] theorem lateSuccess_twin (p : LateRec → Bool) (status : Nat) (s : State) : (lateSuccess p status s).twin = s.twin := keptY_twin (lateSuccess_keptY p status s)
@[simp] theorem lateSuccess_otp (p : LateRec → Bool) (status : Nat) (s : State) : (lateSuccess p status s).otp = s.otp := keptY_otp (lateSuccess_keptY p status s)
@[simp] theorem lateSuccess_sec (p : LateRec → Bool) (status : Nat) (s : State) : (lateSuccess p status s).sec = s.sec := keptY_sec (lateSuccess_keptY p status s)
@[simp] theorem lateSuccess_upd (p : LateRec → Bool) (status : Nat) (s : State) : (lateSuccess p status s).upd = s.upd := keptY_upd (lateSuccess_keptY p status s)
@[simp] theorem lateSuccess_bist (p : LateRec → Bool) (status : Nat) (s : State) : (lateSuccess p status s).bist = s.bist := keptY_bist (lateSuccess_keptY p status s)
@[simp] theorem lateSuccess_boot (p : LateRec → Bool) (status : Nat) (s : State) : (lateSuccess p status s).boot = s.boot := keptY_boot (lateSuccess_keptY p status s)
@[simp] theorem lateSuccess_out (p : LateRec → Bool) (status : Nat) (s : State) : (lateSuccess p status s).out = s.out := keptY_out (lateSuccess_keptY p status s)
@[simp] theorem lateSuccess_pending (p : LateRec → Bool) (status : Nat) (s : State) : (lateSuccess p status s).pending = s.pending := keptY_pending (lateSuccess_keptY p status s)
@[simp] theorem lateSuccess_freeIdx (p : LateRec → Bool) (status : Nat) (s : State) : (lateSuccess p status s).freeIdx = s.freeIdx := keptY_freeIdx (lateSuccess_keptY p status s)
@[simp] theorem faultRecord_now (source cls : Nat) (payload : Bytes) (s : State) : (faultRecord source cls payload s).now = s.now := keptY_now (faultRecord_keptY source cls payload s)
@[simp] theorem faultRecord_time (source cls : Nat) (payload : Bytes) (s : State) : (faultRecord source cls payload s).time = s.time := keptY_time (faultRecord_keptY source cls payload s)
@[simp] theorem faultRecord_rtc (source cls : Nat) (payload : Bytes) (s : State) : (faultRecord source cls payload s).rtc = s.rtc := keptY_rtc (faultRecord_keptY source cls payload s)
@[simp] theorem faultRecord_fb (source cls : Nat) (payload : Bytes) (s : State) : (faultRecord source cls payload s).fb = s.fb := keptY_fb (faultRecord_keptY source cls payload s)
@[simp] theorem faultRecord_set (source cls : Nat) (payload : Bytes) (s : State) : (faultRecord source cls payload s).set = s.set := keptY_set (faultRecord_keptY source cls payload s)
@[simp] theorem faultRecord_pwr (source cls : Nat) (payload : Bytes) (s : State) : (faultRecord source cls payload s).pwr = s.pwr := keptY_pwr (faultRecord_keptY source cls payload s)
@[simp] theorem faultRecord_joints (source cls : Nat) (payload : Bytes) (s : State) : (faultRecord source cls payload s).joints = s.joints := keptY_joints (faultRecord_keptY source cls payload s)
@[simp] theorem faultRecord_mac (source cls : Nat) (payload : Bytes) (s : State) : (faultRecord source cls payload s).mac = s.mac := keptY_mac (faultRecord_keptY source cls payload s)
@[simp] theorem faultRecord_truss (source cls : Nat) (payload : Bytes) (s : State) : (faultRecord source cls payload s).truss = s.truss := keptY_truss (faultRecord_keptY source cls payload s)
@[simp] theorem faultRecord_lamp (source cls : Nat) (payload : Bytes) (s : State) : (faultRecord source cls payload s).lamp = s.lamp := keptY_lamp (faultRecord_keptY source cls payload s)
@[simp] theorem faultRecord_meter (source cls : Nat) (payload : Bytes) (s : State) : (faultRecord source cls payload s).meter = s.meter := keptY_meter (faultRecord_keptY source cls payload s)
@[simp] theorem faultRecord_twin (source cls : Nat) (payload : Bytes) (s : State) : (faultRecord source cls payload s).twin = s.twin := keptY_twin (faultRecord_keptY source cls payload s)
@[simp] theorem faultRecord_otp (source cls : Nat) (payload : Bytes) (s : State) : (faultRecord source cls payload s).otp = s.otp := keptY_otp (faultRecord_keptY source cls payload s)
@[simp] theorem faultRecord_sec (source cls : Nat) (payload : Bytes) (s : State) : (faultRecord source cls payload s).sec = s.sec := keptY_sec (faultRecord_keptY source cls payload s)
@[simp] theorem faultRecord_upd (source cls : Nat) (payload : Bytes) (s : State) : (faultRecord source cls payload s).upd = s.upd := keptY_upd (faultRecord_keptY source cls payload s)
@[simp] theorem faultRecord_bist (source cls : Nat) (payload : Bytes) (s : State) : (faultRecord source cls payload s).bist = s.bist := keptY_bist (faultRecord_keptY source cls payload s)
@[simp] theorem faultRecord_boot (source cls : Nat) (payload : Bytes) (s : State) : (faultRecord source cls payload s).boot = s.boot := keptY_boot (faultRecord_keptY source cls payload s)
@[simp] theorem faultRecord_out (source cls : Nat) (payload : Bytes) (s : State) : (faultRecord source cls payload s).out = s.out := keptY_out (faultRecord_keptY source cls payload s)
@[simp] theorem faultRecord_pending (source cls : Nat) (payload : Bytes) (s : State) : (faultRecord source cls payload s).pending = s.pending := keptY_pending (faultRecord_keptY source cls payload s)
@[simp] theorem faultRecord_freeIdx (source cls : Nat) (payload : Bytes) (s : State) : (faultRecord source cls payload s).freeIdx = s.freeIdx := keptY_freeIdx (faultRecord_keptY source cls payload s)
@[simp] theorem raiseCE_now (source : Nat) (payload : Bytes) (s : State) : (raiseCE source payload s).now = s.now := keptY_now (raiseCE_keptY source payload s)
@[simp] theorem raiseCE_time (source : Nat) (payload : Bytes) (s : State) : (raiseCE source payload s).time = s.time := keptY_time (raiseCE_keptY source payload s)
@[simp] theorem raiseCE_rtc (source : Nat) (payload : Bytes) (s : State) : (raiseCE source payload s).rtc = s.rtc := keptY_rtc (raiseCE_keptY source payload s)
@[simp] theorem raiseCE_fb (source : Nat) (payload : Bytes) (s : State) : (raiseCE source payload s).fb = s.fb := keptY_fb (raiseCE_keptY source payload s)
@[simp] theorem raiseCE_set (source : Nat) (payload : Bytes) (s : State) : (raiseCE source payload s).set = s.set := keptY_set (raiseCE_keptY source payload s)
@[simp] theorem raiseCE_pwr (source : Nat) (payload : Bytes) (s : State) : (raiseCE source payload s).pwr = s.pwr := keptY_pwr (raiseCE_keptY source payload s)
@[simp] theorem raiseCE_joints (source : Nat) (payload : Bytes) (s : State) : (raiseCE source payload s).joints = s.joints := keptY_joints (raiseCE_keptY source payload s)
@[simp] theorem raiseCE_mac (source : Nat) (payload : Bytes) (s : State) : (raiseCE source payload s).mac = s.mac := keptY_mac (raiseCE_keptY source payload s)
@[simp] theorem raiseCE_truss (source : Nat) (payload : Bytes) (s : State) : (raiseCE source payload s).truss = s.truss := keptY_truss (raiseCE_keptY source payload s)
@[simp] theorem raiseCE_lamp (source : Nat) (payload : Bytes) (s : State) : (raiseCE source payload s).lamp = s.lamp := keptY_lamp (raiseCE_keptY source payload s)
@[simp] theorem raiseCE_meter (source : Nat) (payload : Bytes) (s : State) : (raiseCE source payload s).meter = s.meter := keptY_meter (raiseCE_keptY source payload s)
@[simp] theorem raiseCE_twin (source : Nat) (payload : Bytes) (s : State) : (raiseCE source payload s).twin = s.twin := keptY_twin (raiseCE_keptY source payload s)
@[simp] theorem raiseCE_otp (source : Nat) (payload : Bytes) (s : State) : (raiseCE source payload s).otp = s.otp := keptY_otp (raiseCE_keptY source payload s)
@[simp] theorem raiseCE_sec (source : Nat) (payload : Bytes) (s : State) : (raiseCE source payload s).sec = s.sec := keptY_sec (raiseCE_keptY source payload s)
@[simp] theorem raiseCE_upd (source : Nat) (payload : Bytes) (s : State) : (raiseCE source payload s).upd = s.upd := keptY_upd (raiseCE_keptY source payload s)
@[simp] theorem raiseCE_bist (source : Nat) (payload : Bytes) (s : State) : (raiseCE source payload s).bist = s.bist := keptY_bist (raiseCE_keptY source payload s)
@[simp] theorem raiseCE_boot (source : Nat) (payload : Bytes) (s : State) : (raiseCE source payload s).boot = s.boot := keptY_boot (raiseCE_keptY source payload s)
@[simp] theorem raiseCE_out (source : Nat) (payload : Bytes) (s : State) : (raiseCE source payload s).out = s.out := keptY_out (raiseCE_keptY source payload s)
@[simp] theorem raiseCE_pending (source : Nat) (payload : Bytes) (s : State) : (raiseCE source payload s).pending = s.pending := keptY_pending (raiseCE_keptY source payload s)
@[simp] theorem raiseCE_freeIdx (source : Nat) (payload : Bytes) (s : State) : (raiseCE source payload s).freeIdx = s.freeIdx := keptY_freeIdx (raiseCE_keptY source payload s)
@[simp] theorem refusePacket_now (t : Transport) (sid : Option Nat) (b : Bytes) (st d : Nat) (s : State) : (refusePacket t sid b st d s).now = s.now := keptY_now (refusePacket_keptY t sid b st d s)
@[simp] theorem refusePacket_time (t : Transport) (sid : Option Nat) (b : Bytes) (st d : Nat) (s : State) : (refusePacket t sid b st d s).time = s.time := keptY_time (refusePacket_keptY t sid b st d s)
@[simp] theorem refusePacket_rtc (t : Transport) (sid : Option Nat) (b : Bytes) (st d : Nat) (s : State) : (refusePacket t sid b st d s).rtc = s.rtc := keptY_rtc (refusePacket_keptY t sid b st d s)
@[simp] theorem refusePacket_fb (t : Transport) (sid : Option Nat) (b : Bytes) (st d : Nat) (s : State) : (refusePacket t sid b st d s).fb = s.fb := keptY_fb (refusePacket_keptY t sid b st d s)
@[simp] theorem refusePacket_set (t : Transport) (sid : Option Nat) (b : Bytes) (st d : Nat) (s : State) : (refusePacket t sid b st d s).set = s.set := keptY_set (refusePacket_keptY t sid b st d s)
@[simp] theorem refusePacket_pwr (t : Transport) (sid : Option Nat) (b : Bytes) (st d : Nat) (s : State) : (refusePacket t sid b st d s).pwr = s.pwr := keptY_pwr (refusePacket_keptY t sid b st d s)
@[simp] theorem refusePacket_joints (t : Transport) (sid : Option Nat) (b : Bytes) (st d : Nat) (s : State) : (refusePacket t sid b st d s).joints = s.joints := keptY_joints (refusePacket_keptY t sid b st d s)
@[simp] theorem refusePacket_mac (t : Transport) (sid : Option Nat) (b : Bytes) (st d : Nat) (s : State) : (refusePacket t sid b st d s).mac = s.mac := keptY_mac (refusePacket_keptY t sid b st d s)
@[simp] theorem refusePacket_truss (t : Transport) (sid : Option Nat) (b : Bytes) (st d : Nat) (s : State) : (refusePacket t sid b st d s).truss = s.truss := keptY_truss (refusePacket_keptY t sid b st d s)
@[simp] theorem refusePacket_lamp (t : Transport) (sid : Option Nat) (b : Bytes) (st d : Nat) (s : State) : (refusePacket t sid b st d s).lamp = s.lamp := keptY_lamp (refusePacket_keptY t sid b st d s)
@[simp] theorem refusePacket_meter (t : Transport) (sid : Option Nat) (b : Bytes) (st d : Nat) (s : State) : (refusePacket t sid b st d s).meter = s.meter := keptY_meter (refusePacket_keptY t sid b st d s)
@[simp] theorem refusePacket_twin (t : Transport) (sid : Option Nat) (b : Bytes) (st d : Nat) (s : State) : (refusePacket t sid b st d s).twin = s.twin := keptY_twin (refusePacket_keptY t sid b st d s)
@[simp] theorem refusePacket_otp (t : Transport) (sid : Option Nat) (b : Bytes) (st d : Nat) (s : State) : (refusePacket t sid b st d s).otp = s.otp := keptY_otp (refusePacket_keptY t sid b st d s)
@[simp] theorem refusePacket_sec (t : Transport) (sid : Option Nat) (b : Bytes) (st d : Nat) (s : State) : (refusePacket t sid b st d s).sec = s.sec := keptY_sec (refusePacket_keptY t sid b st d s)
@[simp] theorem refusePacket_upd (t : Transport) (sid : Option Nat) (b : Bytes) (st d : Nat) (s : State) : (refusePacket t sid b st d s).upd = s.upd := keptY_upd (refusePacket_keptY t sid b st d s)
@[simp] theorem refusePacket_bist (t : Transport) (sid : Option Nat) (b : Bytes) (st d : Nat) (s : State) : (refusePacket t sid b st d s).bist = s.bist := keptY_bist (refusePacket_keptY t sid b st d s)
@[simp] theorem refusePacket_boot (t : Transport) (sid : Option Nat) (b : Bytes) (st d : Nat) (s : State) : (refusePacket t sid b st d s).boot = s.boot := keptY_boot (refusePacket_keptY t sid b st d s)
@[simp] theorem refusePacket_out (t : Transport) (sid : Option Nat) (b : Bytes) (st d : Nat) (s : State) : (refusePacket t sid b st d s).out = s.out := keptY_out (refusePacket_keptY t sid b st d s)
@[simp] theorem refusePacket_pending (t : Transport) (sid : Option Nat) (b : Bytes) (st d : Nat) (s : State) : (refusePacket t sid b st d s).pending = s.pending := keptY_pending (refusePacket_keptY t sid b st d s)
@[simp] theorem refusePacket_freeIdx (t : Transport) (sid : Option Nat) (b : Bytes) (st d : Nat) (s : State) : (refusePacket t sid b st d s).freeIdx = s.freeIdx := keptY_freeIdx (refusePacket_keptY t sid b st d s)

/-- What completions and the ends of sessions leave alone. -/
def State.keptX (s : State) : Nat × TimeUnit × Rtc × Fallback × SettingsSt × PowerSt × List Joint × MacSt × TrussSt × LampSt × MeterSt × Otp × SecSt × UpdateSt × SelfTestSt × BootSt × Outputs × List Instr × Nat :=
  (s.now, s.time, s.rtc, s.fb, s.set, s.pwr, s.joints, s.mac, s.truss, s.lamp, s.meter, s.otp, s.sec, s.upd, s.bist, s.boot, s.out, s.pending, s.freeIdx)

@[simp] theorem keptX_modTwin (s : State) (f) : (s.modTwin f).keptX = s.keptX := by have h : (s.modTwin f).keptX = s.keptX := rfl; exact h
@[simp] theorem keptX_modPar (s : State) (f) : (s.modPar f).keptX = s.keptX := by have h : (s.modPar f).keptX = s.keptX := rfl; exact h
@[simp] theorem keptX_modHost (s : State) (f) : (s.modHost f).keptX = s.keptX := by have h : (s.modHost f).keptX = s.keptX := rfl; exact h
@[simp] theorem keptX_foldl {α : Type} (f : State → α → State) (h : ∀ s x, (f s x).keptX = s.keptX) (l : List α) (s : State) :
    (l.foldl f s).keptX = s.keptX := by
  induction l generalizing s with
  | nil => rfl
  | cons a l ih => simp only [List.foldl_cons, ih, h]
@[simp] theorem keptX_ite (c : Prop) [Decidable c] (a b : State) : (if c then a else b).keptX = if c then a.keptX else b.keptX := by
  split <;> rfl
theorem keptX_foldl2 {α : Type} (f : State → α → State) (h : ∀ s x, (f s x).keptX = s.keptX) (l : List α) (s u : State)
    (e : s.keptX = u.keptX) : (l.foldl f s).keptX = u.keptX := by rw [keptX_foldl f h, e]
@[simp] theorem onBank_keptX (k : Nat) (f : State → State) (s : State) (hf : ∀ u, (f u).keptX = u.keptX) : (onBank k f s).keptX = s.keptX := by simp [onBank, hf]
@[simp] theorem twinPut_keptX (type : Nat) (payload : Bytes) (s : State)  : (twinPut type payload s).keptX = s.keptX := by simp [twinPut]
@[simp] theorem twinSend_keptX (type : Nat) (payload : Bytes) (s : State)  : (twinSend type payload s).keptX = s.keptX := by simp [twinSend]
@[simp] theorem State_modSession_keptX (s : State) (sid : Nat) (f : Session → Session)  : (State.modSession s sid f).keptX = s.keptX := by simp [State.modSession]
@[simp] theorem pushNotice_keptX (sid : Nat) (build : Nat → Bytes) (s : State)  : (pushNotice sid build s).keptX = s.keptX := by simp [pushNotice]
@[simp] theorem giveCredits_keptX (sid n : Nat) (s : State)  : (giveCredits sid n s).keptX = s.keptX := by
  unfold giveCredits
  (try dsimp only)
  (repeat' split)
  all_goals (try simp)

@[simp] theorem creditNotice_keptX (sid : Nat) (s : State)  : (creditNotice sid s).keptX = s.keptX := by
  unfold creditNotice
  (try dsimp only)
  (repeat' split)
  all_goals (try simp)

@[simp] theorem noticeTo_keptX (dest : Option Nat) (code tag : Nat) (rec : Bytes) (s : State)  : (noticeTo dest code tag rec s).keptX = s.keptX := by
  unfold noticeTo
  (try dsimp only)
  (repeat' split)
  all_goals (try simp)

@[simp] theorem recordEv_keptX (code source sev : Nat) (payload : Bytes) (dest : Option Nat) (tag : Nat) (s : State)  : (recordEv code source sev payload dest tag s).keptX = s.keptX := by simp [recordEv]
@[simp] theorem ev_keptX (code : Nat) (payload : Bytes) (s : State)  : (ev code payload s).keptX = s.keptX := by simp [ev]
@[simp] theorem evL_keptX (n code : Nat) (payload : Bytes) (s : State)  : (evL n code payload s).keptX = s.keptX := by simp [evL]
@[simp] theorem evS_keptX (sid tag code : Nat) (payload : Bytes) (s : State)  : (evS sid tag code payload s).keptX = s.keptX := by simp [evS]
@[simp] theorem checkBacklog_keptX (sid : Nat) (s : State)  : (checkBacklog sid s).keptX = s.keptX := by
  unfold checkBacklog
  (try dsimp only)
  (repeat' split)
  all_goals (try simp)

@[simp] theorem pushBare_keptX (t : Transport) (bytes : Bytes) (seq : Nat) (s : State)  : (pushBare t bytes seq s).keptX = s.keptX := by simp [pushBare]
@[simp] theorem State_modCmd_keptX (s : State) (seq : Nat) (f : LiveCmd → LiveCmd)  : (State.modCmd s seq f).keptX = s.keptX := by simp [State.modCmd]
@[simp] theorem complete_keptX (c : LiveCmd) (status detail : Nat) (params : Bytes) (s : State)  : (complete c status detail params s).keptX = s.keptX := by simp [complete]
@[simp] theorem fail_keptX (c : LiveCmd) (status detail : Nat) (s : State)  : (fail c status detail s).keptX = s.keptX := by simp [fail]
@[simp] theorem completeAll_keptX (p : LiveCmd → Bool) (status detail : Nat) (params : Bytes) (s : State)  : (completeAll p status detail params s).keptX = s.keptX := by simp [completeAll]
@[simp] theorem completeEach_keptX (p : LiveCmd → Bool) (status detail : Nat) (params : LiveCmd → Bytes) (s : State)  : (completeEach p status detail params s).keptX = s.keptX := by simp [completeEach]
@[simp] theorem lateSuccess_keptX (p : LateRec → Bool) (status : Nat) (s : State)  : (lateSuccess p status s).keptX = s.keptX := by simp [lateSuccess]
@[simp] theorem closeSession_keptX (sid : Nat) (s : State)  : (closeSession sid s).keptX = s.keptX := by
  unfold closeSession
  (try dsimp only)
  (repeat' split)
  all_goals (try simp)

@[simp] theorem closeSessions_keptX (p : Session → Bool) (s : State)  : (closeSessions p s).keptX = s.keptX := by
  unfold closeSessions
  (try simp)
  (repeat' (split <;> try simp))

@[simp] theorem dropLeaseOut_keptX (s : State)  : (dropLeaseOut s).keptX = s.keptX := by simp [dropLeaseOut]
@[simp] theorem faultRecord_keptX (source cls : Nat) (payload : Bytes) (s : State)  : (faultRecord source cls payload s).keptX = s.keptX := by simp [faultRecord]
@[simp] theorem raiseCE_keptX (source : Nat) (payload : Bytes) (s : State)  : (raiseCE source payload s).keptX = s.keptX := by simp [raiseCE]
@[simp] theorem commitDone_keptX (block : Nat) (reply : Bytes) (s : State)  : (commitDone block reply s).keptX = s.keptX := by simp [commitDone]
@[simp] theorem refusePacket_keptX (t : Transport) (sid : Option Nat) (b : Bytes) (st d : Nat) (s : State)  : (refusePacket t sid b st d s).keptX = s.keptX := by
  unfold refusePacket
  (try dsimp only)
  (repeat' split)
  all_goals (try simp)


theorem keptX_now {s t : State} (h : t.keptX = s.keptX) : t.now = s.now := congrArg (fun x => x.1) h
theorem keptX_time {s t : State} (h : t.keptX = s.keptX) : t.time = s.time := congrArg (fun x => x.2.1) h
theorem keptX_rtc {s t : State} (h : t.keptX = s.keptX) : t.rtc = s.rtc := congrArg (fun x => x.2.2.1) h
theorem keptX_fb {s t : State} (h : t.keptX = s.keptX) : t.fb = s.fb := congrArg (fun x => x.2.2.2.1) h
theorem keptX_set {s t : State} (h : t.keptX = s.keptX) : t.set = s.set := congrArg (fun x => x.2.2.2.2.1) h
theorem keptX_pwr {s t : State} (h : t.keptX = s.keptX) : t.pwr = s.pwr := congrArg (fun x => x.2.2.2.2.2.1) h
theorem keptX_joints {s t : State} (h : t.keptX = s.keptX) : t.joints = s.joints := congrArg (fun x => x.2.2.2.2.2.2.1) h
theorem keptX_mac {s t : State} (h : t.keptX = s.keptX) : t.mac = s.mac := congrArg (fun x => x.2.2.2.2.2.2.2.1) h
theorem keptX_truss {s t : State} (h : t.keptX = s.keptX) : t.truss = s.truss := congrArg (fun x => x.2.2.2.2.2.2.2.2.1) h
theorem keptX_lamp {s t : State} (h : t.keptX = s.keptX) : t.lamp = s.lamp := congrArg (fun x => x.2.2.2.2.2.2.2.2.2.1) h
theorem keptX_meter {s t : State} (h : t.keptX = s.keptX) : t.meter = s.meter := congrArg (fun x => x.2.2.2.2.2.2.2.2.2.2.1) h
theorem keptX_otp {s t : State} (h : t.keptX = s.keptX) : t.otp = s.otp := congrArg (fun x => x.2.2.2.2.2.2.2.2.2.2.2.1) h
theorem keptX_sec {s t : State} (h : t.keptX = s.keptX) : t.sec = s.sec := congrArg (fun x => x.2.2.2.2.2.2.2.2.2.2.2.2.1) h
theorem keptX_upd {s t : State} (h : t.keptX = s.keptX) : t.upd = s.upd := congrArg (fun x => x.2.2.2.2.2.2.2.2.2.2.2.2.2.1) h
theorem keptX_bist {s t : State} (h : t.keptX = s.keptX) : t.bist = s.bist := congrArg (fun x => x.2.2.2.2.2.2.2.2.2.2.2.2.2.2.1) h
theorem keptX_boot {s t : State} (h : t.keptX = s.keptX) : t.boot = s.boot := congrArg (fun x => x.2.2.2.2.2.2.2.2.2.2.2.2.2.2.2.1) h
theorem keptX_out {s t : State} (h : t.keptX = s.keptX) : t.out = s.out := congrArg (fun x => x.2.2.2.2.2.2.2.2.2.2.2.2.2.2.2.2.1) h
theorem keptX_pending {s t : State} (h : t.keptX = s.keptX) : t.pending = s.pending := congrArg (fun x => x.2.2.2.2.2.2.2.2.2.2.2.2.2.2.2.2.2.1) h
theorem keptX_freeIdx {s t : State} (h : t.keptX = s.keptX) : t.freeIdx = s.freeIdx := congrArg (fun x => x.2.2.2.2.2.2.2.2.2.2.2.2.2.2.2.2.2.2) h

@[simp] theorem twinSend_now (type : Nat) (payload : Bytes) (s : State) : (twinSend type payload s).now = s.now := keptX_now (twinSend_keptX type payload s)
@[simp] theorem twinSend_time (type : Nat) (payload : Bytes) (s : State) : (twinSend type payload s).time = s.time := keptX_time (twinSend_keptX type payload s)
@[simp] theorem twinSend_rtc (type : Nat) (payload : Bytes) (s : State) : (twinSend type payload s).rtc = s.rtc := keptX_rtc (twinSend_keptX type payload s)
@[simp] theorem twinSend_fb (type : Nat) (payload : Bytes) (s : State) : (twinSend type payload s).fb = s.fb := keptX_fb (twinSend_keptX type payload s)
@[simp] theorem twinSend_set (type : Nat) (payload : Bytes) (s : State) : (twinSend type payload s).set = s.set := keptX_set (twinSend_keptX type payload s)
@[simp] theorem twinSend_pwr (type : Nat) (payload : Bytes) (s : State) : (twinSend type payload s).pwr = s.pwr := keptX_pwr (twinSend_keptX type payload s)
@[simp] theorem twinSend_joints (type : Nat) (payload : Bytes) (s : State) : (twinSend type payload s).joints = s.joints := keptX_joints (twinSend_keptX type payload s)
@[simp] theorem twinSend_mac (type : Nat) (payload : Bytes) (s : State) : (twinSend type payload s).mac = s.mac := keptX_mac (twinSend_keptX type payload s)
@[simp] theorem twinSend_truss (type : Nat) (payload : Bytes) (s : State) : (twinSend type payload s).truss = s.truss := keptX_truss (twinSend_keptX type payload s)
@[simp] theorem twinSend_lamp (type : Nat) (payload : Bytes) (s : State) : (twinSend type payload s).lamp = s.lamp := keptX_lamp (twinSend_keptX type payload s)
@[simp] theorem twinSend_meter (type : Nat) (payload : Bytes) (s : State) : (twinSend type payload s).meter = s.meter := keptX_meter (twinSend_keptX type payload s)
@[simp] theorem twinSend_otp (type : Nat) (payload : Bytes) (s : State) : (twinSend type payload s).otp = s.otp := keptX_otp (twinSend_keptX type payload s)
@[simp] theorem twinSend_sec (type : Nat) (payload : Bytes) (s : State) : (twinSend type payload s).sec = s.sec := keptX_sec (twinSend_keptX type payload s)
@[simp] theorem twinSend_upd (type : Nat) (payload : Bytes) (s : State) : (twinSend type payload s).upd = s.upd := keptX_upd (twinSend_keptX type payload s)
@[simp] theorem twinSend_bist (type : Nat) (payload : Bytes) (s : State) : (twinSend type payload s).bist = s.bist := keptX_bist (twinSend_keptX type payload s)
@[simp] theorem twinSend_boot (type : Nat) (payload : Bytes) (s : State) : (twinSend type payload s).boot = s.boot := keptX_boot (twinSend_keptX type payload s)
@[simp] theorem twinSend_out (type : Nat) (payload : Bytes) (s : State) : (twinSend type payload s).out = s.out := keptX_out (twinSend_keptX type payload s)
@[simp] theorem twinSend_pending (type : Nat) (payload : Bytes) (s : State) : (twinSend type payload s).pending = s.pending := keptX_pending (twinSend_keptX type payload s)
@[simp] theorem twinSend_freeIdx (type : Nat) (payload : Bytes) (s : State) : (twinSend type payload s).freeIdx = s.freeIdx := keptX_freeIdx (twinSend_keptX type payload s)
@[simp] theorem complete_now (c : LiveCmd) (status detail : Nat) (params : Bytes) (s : State) : (complete c status detail params s).now = s.now := keptX_now (complete_keptX c status detail params s)
@[simp] theorem complete_time (c : LiveCmd) (status detail : Nat) (params : Bytes) (s : State) : (complete c status detail params s).time = s.time := keptX_time (complete_keptX c status detail params s)
@[simp] theorem complete_rtc (c : LiveCmd) (status detail : Nat) (params : Bytes) (s : State) : (complete c status detail params s).rtc = s.rtc := keptX_rtc (complete_keptX c status detail params s)
@[simp] theorem complete_fb (c : LiveCmd) (status detail : Nat) (params : Bytes) (s : State) : (complete c status detail params s).fb = s.fb := keptX_fb (complete_keptX c status detail params s)
@[simp] theorem complete_set (c : LiveCmd) (status detail : Nat) (params : Bytes) (s : State) : (complete c status detail params s).set = s.set := keptX_set (complete_keptX c status detail params s)
@[simp] theorem complete_pwr (c : LiveCmd) (status detail : Nat) (params : Bytes) (s : State) : (complete c status detail params s).pwr = s.pwr := keptX_pwr (complete_keptX c status detail params s)
@[simp] theorem complete_joints (c : LiveCmd) (status detail : Nat) (params : Bytes) (s : State) : (complete c status detail params s).joints = s.joints := keptX_joints (complete_keptX c status detail params s)
@[simp] theorem complete_mac (c : LiveCmd) (status detail : Nat) (params : Bytes) (s : State) : (complete c status detail params s).mac = s.mac := keptX_mac (complete_keptX c status detail params s)
@[simp] theorem complete_truss (c : LiveCmd) (status detail : Nat) (params : Bytes) (s : State) : (complete c status detail params s).truss = s.truss := keptX_truss (complete_keptX c status detail params s)
@[simp] theorem complete_lamp (c : LiveCmd) (status detail : Nat) (params : Bytes) (s : State) : (complete c status detail params s).lamp = s.lamp := keptX_lamp (complete_keptX c status detail params s)
@[simp] theorem complete_meter (c : LiveCmd) (status detail : Nat) (params : Bytes) (s : State) : (complete c status detail params s).meter = s.meter := keptX_meter (complete_keptX c status detail params s)
@[simp] theorem complete_otp (c : LiveCmd) (status detail : Nat) (params : Bytes) (s : State) : (complete c status detail params s).otp = s.otp := keptX_otp (complete_keptX c status detail params s)
@[simp] theorem complete_sec (c : LiveCmd) (status detail : Nat) (params : Bytes) (s : State) : (complete c status detail params s).sec = s.sec := keptX_sec (complete_keptX c status detail params s)
@[simp] theorem complete_upd (c : LiveCmd) (status detail : Nat) (params : Bytes) (s : State) : (complete c status detail params s).upd = s.upd := keptX_upd (complete_keptX c status detail params s)
@[simp] theorem complete_bist (c : LiveCmd) (status detail : Nat) (params : Bytes) (s : State) : (complete c status detail params s).bist = s.bist := keptX_bist (complete_keptX c status detail params s)
@[simp] theorem complete_boot (c : LiveCmd) (status detail : Nat) (params : Bytes) (s : State) : (complete c status detail params s).boot = s.boot := keptX_boot (complete_keptX c status detail params s)
@[simp] theorem complete_out (c : LiveCmd) (status detail : Nat) (params : Bytes) (s : State) : (complete c status detail params s).out = s.out := keptX_out (complete_keptX c status detail params s)
@[simp] theorem complete_pending (c : LiveCmd) (status detail : Nat) (params : Bytes) (s : State) : (complete c status detail params s).pending = s.pending := keptX_pending (complete_keptX c status detail params s)
@[simp] theorem complete_freeIdx (c : LiveCmd) (status detail : Nat) (params : Bytes) (s : State) : (complete c status detail params s).freeIdx = s.freeIdx := keptX_freeIdx (complete_keptX c status detail params s)
@[simp] theorem fail_now (c : LiveCmd) (status detail : Nat) (s : State) : (fail c status detail s).now = s.now := keptX_now (fail_keptX c status detail s)
@[simp] theorem fail_time (c : LiveCmd) (status detail : Nat) (s : State) : (fail c status detail s).time = s.time := keptX_time (fail_keptX c status detail s)
@[simp] theorem fail_rtc (c : LiveCmd) (status detail : Nat) (s : State) : (fail c status detail s).rtc = s.rtc := keptX_rtc (fail_keptX c status detail s)
@[simp] theorem fail_fb (c : LiveCmd) (status detail : Nat) (s : State) : (fail c status detail s).fb = s.fb := keptX_fb (fail_keptX c status detail s)
@[simp] theorem fail_set (c : LiveCmd) (status detail : Nat) (s : State) : (fail c status detail s).set = s.set := keptX_set (fail_keptX c status detail s)
@[simp] theorem fail_pwr (c : LiveCmd) (status detail : Nat) (s : State) : (fail c status detail s).pwr = s.pwr := keptX_pwr (fail_keptX c status detail s)
@[simp] theorem fail_joints (c : LiveCmd) (status detail : Nat) (s : State) : (fail c status detail s).joints = s.joints := keptX_joints (fail_keptX c status detail s)
@[simp] theorem fail_mac (c : LiveCmd) (status detail : Nat) (s : State) : (fail c status detail s).mac = s.mac := keptX_mac (fail_keptX c status detail s)
@[simp] theorem fail_truss (c : LiveCmd) (status detail : Nat) (s : State) : (fail c status detail s).truss = s.truss := keptX_truss (fail_keptX c status detail s)
@[simp] theorem fail_lamp (c : LiveCmd) (status detail : Nat) (s : State) : (fail c status detail s).lamp = s.lamp := keptX_lamp (fail_keptX c status detail s)
@[simp] theorem fail_meter (c : LiveCmd) (status detail : Nat) (s : State) : (fail c status detail s).meter = s.meter := keptX_meter (fail_keptX c status detail s)
@[simp] theorem fail_otp (c : LiveCmd) (status detail : Nat) (s : State) : (fail c status detail s).otp = s.otp := keptX_otp (fail_keptX c status detail s)
@[simp] theorem fail_sec (c : LiveCmd) (status detail : Nat) (s : State) : (fail c status detail s).sec = s.sec := keptX_sec (fail_keptX c status detail s)
@[simp] theorem fail_upd (c : LiveCmd) (status detail : Nat) (s : State) : (fail c status detail s).upd = s.upd := keptX_upd (fail_keptX c status detail s)
@[simp] theorem fail_bist (c : LiveCmd) (status detail : Nat) (s : State) : (fail c status detail s).bist = s.bist := keptX_bist (fail_keptX c status detail s)
@[simp] theorem fail_boot (c : LiveCmd) (status detail : Nat) (s : State) : (fail c status detail s).boot = s.boot := keptX_boot (fail_keptX c status detail s)
@[simp] theorem fail_out (c : LiveCmd) (status detail : Nat) (s : State) : (fail c status detail s).out = s.out := keptX_out (fail_keptX c status detail s)
@[simp] theorem fail_pending (c : LiveCmd) (status detail : Nat) (s : State) : (fail c status detail s).pending = s.pending := keptX_pending (fail_keptX c status detail s)
@[simp] theorem fail_freeIdx (c : LiveCmd) (status detail : Nat) (s : State) : (fail c status detail s).freeIdx = s.freeIdx := keptX_freeIdx (fail_keptX c status detail s)
@[simp] theorem completeAll_now (p : LiveCmd → Bool) (status detail : Nat) (params : Bytes) (s : State) : (completeAll p status detail params s).now = s.now := keptX_now (completeAll_keptX p status detail params s)
@[simp] theorem completeAll_time (p : LiveCmd → Bool) (status detail : Nat) (params : Bytes) (s : State) : (completeAll p status detail params s).time = s.time := keptX_time (completeAll_keptX p status detail params s)
@[simp] theorem completeAll_rtc (p : LiveCmd → Bool) (status detail : Nat) (params : Bytes) (s : State) : (completeAll p status detail params s).rtc = s.rtc := keptX_rtc (completeAll_keptX p status detail params s)
@[simp] theorem completeAll_fb (p : LiveCmd → Bool) (status detail : Nat) (params : Bytes) (s : State) : (completeAll p status detail params s).fb = s.fb := keptX_fb (completeAll_keptX p status detail params s)
@[simp] theorem completeAll_set (p : LiveCmd → Bool) (status detail : Nat) (params : Bytes) (s : State) : (completeAll p status detail params s).set = s.set := keptX_set (completeAll_keptX p status detail params s)
@[simp] theorem completeAll_pwr (p : LiveCmd → Bool) (status detail : Nat) (params : Bytes) (s : State) : (completeAll p status detail params s).pwr = s.pwr := keptX_pwr (completeAll_keptX p status detail params s)
@[simp] theorem completeAll_joints (p : LiveCmd → Bool) (status detail : Nat) (params : Bytes) (s : State) : (completeAll p status detail params s).joints = s.joints := keptX_joints (completeAll_keptX p status detail params s)
@[simp] theorem completeAll_mac (p : LiveCmd → Bool) (status detail : Nat) (params : Bytes) (s : State) : (completeAll p status detail params s).mac = s.mac := keptX_mac (completeAll_keptX p status detail params s)
@[simp] theorem completeAll_truss (p : LiveCmd → Bool) (status detail : Nat) (params : Bytes) (s : State) : (completeAll p status detail params s).truss = s.truss := keptX_truss (completeAll_keptX p status detail params s)
@[simp] theorem completeAll_lamp (p : LiveCmd → Bool) (status detail : Nat) (params : Bytes) (s : State) : (completeAll p status detail params s).lamp = s.lamp := keptX_lamp (completeAll_keptX p status detail params s)
@[simp] theorem completeAll_meter (p : LiveCmd → Bool) (status detail : Nat) (params : Bytes) (s : State) : (completeAll p status detail params s).meter = s.meter := keptX_meter (completeAll_keptX p status detail params s)
@[simp] theorem completeAll_otp (p : LiveCmd → Bool) (status detail : Nat) (params : Bytes) (s : State) : (completeAll p status detail params s).otp = s.otp := keptX_otp (completeAll_keptX p status detail params s)
@[simp] theorem completeAll_sec (p : LiveCmd → Bool) (status detail : Nat) (params : Bytes) (s : State) : (completeAll p status detail params s).sec = s.sec := keptX_sec (completeAll_keptX p status detail params s)
@[simp] theorem completeAll_upd (p : LiveCmd → Bool) (status detail : Nat) (params : Bytes) (s : State) : (completeAll p status detail params s).upd = s.upd := keptX_upd (completeAll_keptX p status detail params s)
@[simp] theorem completeAll_bist (p : LiveCmd → Bool) (status detail : Nat) (params : Bytes) (s : State) : (completeAll p status detail params s).bist = s.bist := keptX_bist (completeAll_keptX p status detail params s)
@[simp] theorem completeAll_boot (p : LiveCmd → Bool) (status detail : Nat) (params : Bytes) (s : State) : (completeAll p status detail params s).boot = s.boot := keptX_boot (completeAll_keptX p status detail params s)
@[simp] theorem completeAll_out (p : LiveCmd → Bool) (status detail : Nat) (params : Bytes) (s : State) : (completeAll p status detail params s).out = s.out := keptX_out (completeAll_keptX p status detail params s)
@[simp] theorem completeAll_pending (p : LiveCmd → Bool) (status detail : Nat) (params : Bytes) (s : State) : (completeAll p status detail params s).pending = s.pending := keptX_pending (completeAll_keptX p status detail params s)
@[simp] theorem completeAll_freeIdx (p : LiveCmd → Bool) (status detail : Nat) (params : Bytes) (s : State) : (completeAll p status detail params s).freeIdx = s.freeIdx := keptX_freeIdx (completeAll_keptX p status detail params s)
@[simp] theorem completeEach_now (p : LiveCmd → Bool) (status detail : Nat) (params : LiveCmd → Bytes) (s : State) : (completeEach p status detail params s).now = s.now := keptX_now (completeEach_keptX p status detail params s)
@[simp] theorem completeEach_time (p : LiveCmd → Bool) (status detail : Nat) (params : LiveCmd → Bytes) (s : State) : (completeEach p status detail params s).time = s.time := keptX_time (completeEach_keptX p status detail params s)
@[simp] theorem completeEach_rtc (p : LiveCmd → Bool) (status detail : Nat) (params : LiveCmd → Bytes) (s : State) : (completeEach p status detail params s).rtc = s.rtc := keptX_rtc (completeEach_keptX p status detail params s)
@[simp] theorem completeEach_fb (p : LiveCmd → Bool) (status detail : Nat) (params : LiveCmd → Bytes) (s : State) : (completeEach p status detail params s).fb = s.fb := keptX_fb (completeEach_keptX p status detail params s)
@[simp] theorem completeEach_set (p : LiveCmd → Bool) (status detail : Nat) (params : LiveCmd → Bytes) (s : State) : (completeEach p status detail params s).set = s.set := keptX_set (completeEach_keptX p status detail params s)
@[simp] theorem completeEach_pwr (p : LiveCmd → Bool) (status detail : Nat) (params : LiveCmd → Bytes) (s : State) : (completeEach p status detail params s).pwr = s.pwr := keptX_pwr (completeEach_keptX p status detail params s)
@[simp] theorem completeEach_joints (p : LiveCmd → Bool) (status detail : Nat) (params : LiveCmd → Bytes) (s : State) : (completeEach p status detail params s).joints = s.joints := keptX_joints (completeEach_keptX p status detail params s)
@[simp] theorem completeEach_mac (p : LiveCmd → Bool) (status detail : Nat) (params : LiveCmd → Bytes) (s : State) : (completeEach p status detail params s).mac = s.mac := keptX_mac (completeEach_keptX p status detail params s)
@[simp] theorem completeEach_truss (p : LiveCmd → Bool) (status detail : Nat) (params : LiveCmd → Bytes) (s : State) : (completeEach p status detail params s).truss = s.truss := keptX_truss (completeEach_keptX p status detail params s)
@[simp] theorem completeEach_lamp (p : LiveCmd → Bool) (status detail : Nat) (params : LiveCmd → Bytes) (s : State) : (completeEach p status detail params s).lamp = s.lamp := keptX_lamp (completeEach_keptX p status detail params s)
@[simp] theorem completeEach_meter (p : LiveCmd → Bool) (status detail : Nat) (params : LiveCmd → Bytes) (s : State) : (completeEach p status detail params s).meter = s.meter := keptX_meter (completeEach_keptX p status detail params s)
@[simp] theorem completeEach_otp (p : LiveCmd → Bool) (status detail : Nat) (params : LiveCmd → Bytes) (s : State) : (completeEach p status detail params s).otp = s.otp := keptX_otp (completeEach_keptX p status detail params s)
@[simp] theorem completeEach_sec (p : LiveCmd → Bool) (status detail : Nat) (params : LiveCmd → Bytes) (s : State) : (completeEach p status detail params s).sec = s.sec := keptX_sec (completeEach_keptX p status detail params s)
@[simp] theorem completeEach_upd (p : LiveCmd → Bool) (status detail : Nat) (params : LiveCmd → Bytes) (s : State) : (completeEach p status detail params s).upd = s.upd := keptX_upd (completeEach_keptX p status detail params s)
@[simp] theorem completeEach_bist (p : LiveCmd → Bool) (status detail : Nat) (params : LiveCmd → Bytes) (s : State) : (completeEach p status detail params s).bist = s.bist := keptX_bist (completeEach_keptX p status detail params s)
@[simp] theorem completeEach_boot (p : LiveCmd → Bool) (status detail : Nat) (params : LiveCmd → Bytes) (s : State) : (completeEach p status detail params s).boot = s.boot := keptX_boot (completeEach_keptX p status detail params s)
@[simp] theorem completeEach_out (p : LiveCmd → Bool) (status detail : Nat) (params : LiveCmd → Bytes) (s : State) : (completeEach p status detail params s).out = s.out := keptX_out (completeEach_keptX p status detail params s)
@[simp] theorem completeEach_pending (p : LiveCmd → Bool) (status detail : Nat) (params : LiveCmd → Bytes) (s : State) : (completeEach p status detail params s).pending = s.pending := keptX_pending (completeEach_keptX p status detail params s)
@[simp] theorem completeEach_freeIdx (p : LiveCmd → Bool) (status detail : Nat) (params : LiveCmd → Bytes) (s : State) : (completeEach p status detail params s).freeIdx = s.freeIdx := keptX_freeIdx (completeEach_keptX p status detail params s)
@[simp] theorem closeSession_now (sid : Nat) (s : State) : (closeSession sid s).now = s.now := keptX_now (closeSession_keptX sid s)
@[simp] theorem closeSession_time (sid : Nat) (s : State) : (closeSession sid s).time = s.time := keptX_time (closeSession_keptX sid s)
@[simp] theorem closeSession_rtc (sid : Nat) (s : State) : (closeSession sid s).rtc = s.rtc := keptX_rtc (closeSession_keptX sid s)
@[simp] theorem closeSession_fb (sid : Nat) (s : State) : (closeSession sid s).fb = s.fb := keptX_fb (closeSession_keptX sid s)
@[simp] theorem closeSession_set (sid : Nat) (s : State) : (closeSession sid s).set = s.set := keptX_set (closeSession_keptX sid s)
@[simp] theorem closeSession_pwr (sid : Nat) (s : State) : (closeSession sid s).pwr = s.pwr := keptX_pwr (closeSession_keptX sid s)
@[simp] theorem closeSession_joints (sid : Nat) (s : State) : (closeSession sid s).joints = s.joints := keptX_joints (closeSession_keptX sid s)
@[simp] theorem closeSession_mac (sid : Nat) (s : State) : (closeSession sid s).mac = s.mac := keptX_mac (closeSession_keptX sid s)
@[simp] theorem closeSession_truss (sid : Nat) (s : State) : (closeSession sid s).truss = s.truss := keptX_truss (closeSession_keptX sid s)
@[simp] theorem closeSession_lamp (sid : Nat) (s : State) : (closeSession sid s).lamp = s.lamp := keptX_lamp (closeSession_keptX sid s)
@[simp] theorem closeSession_meter (sid : Nat) (s : State) : (closeSession sid s).meter = s.meter := keptX_meter (closeSession_keptX sid s)
@[simp] theorem closeSession_otp (sid : Nat) (s : State) : (closeSession sid s).otp = s.otp := keptX_otp (closeSession_keptX sid s)
@[simp] theorem closeSession_sec (sid : Nat) (s : State) : (closeSession sid s).sec = s.sec := keptX_sec (closeSession_keptX sid s)
@[simp] theorem closeSession_upd (sid : Nat) (s : State) : (closeSession sid s).upd = s.upd := keptX_upd (closeSession_keptX sid s)
@[simp] theorem closeSession_bist (sid : Nat) (s : State) : (closeSession sid s).bist = s.bist := keptX_bist (closeSession_keptX sid s)
@[simp] theorem closeSession_boot (sid : Nat) (s : State) : (closeSession sid s).boot = s.boot := keptX_boot (closeSession_keptX sid s)
@[simp] theorem closeSession_out (sid : Nat) (s : State) : (closeSession sid s).out = s.out := keptX_out (closeSession_keptX sid s)
@[simp] theorem closeSession_pending (sid : Nat) (s : State) : (closeSession sid s).pending = s.pending := keptX_pending (closeSession_keptX sid s)
@[simp] theorem closeSession_freeIdx (sid : Nat) (s : State) : (closeSession sid s).freeIdx = s.freeIdx := keptX_freeIdx (closeSession_keptX sid s)
@[simp] theorem closeSessions_now (p : Session → Bool) (s : State) : (closeSessions p s).now = s.now := keptX_now (closeSessions_keptX p s)
@[simp] theorem closeSessions_time (p : Session → Bool) (s : State) : (closeSessions p s).time = s.time := keptX_time (closeSessions_keptX p s)
@[simp] theorem closeSessions_rtc (p : Session → Bool) (s : State) : (closeSessions p s).rtc = s.rtc := keptX_rtc (closeSessions_keptX p s)
@[simp] theorem closeSessions_fb (p : Session → Bool) (s : State) : (closeSessions p s).fb = s.fb := keptX_fb (closeSessions_keptX p s)
@[simp] theorem closeSessions_set (p : Session → Bool) (s : State) : (closeSessions p s).set = s.set := keptX_set (closeSessions_keptX p s)
@[simp] theorem closeSessions_pwr (p : Session → Bool) (s : State) : (closeSessions p s).pwr = s.pwr := keptX_pwr (closeSessions_keptX p s)
@[simp] theorem closeSessions_joints (p : Session → Bool) (s : State) : (closeSessions p s).joints = s.joints := keptX_joints (closeSessions_keptX p s)
@[simp] theorem closeSessions_mac (p : Session → Bool) (s : State) : (closeSessions p s).mac = s.mac := keptX_mac (closeSessions_keptX p s)
@[simp] theorem closeSessions_truss (p : Session → Bool) (s : State) : (closeSessions p s).truss = s.truss := keptX_truss (closeSessions_keptX p s)
@[simp] theorem closeSessions_lamp (p : Session → Bool) (s : State) : (closeSessions p s).lamp = s.lamp := keptX_lamp (closeSessions_keptX p s)
@[simp] theorem closeSessions_meter (p : Session → Bool) (s : State) : (closeSessions p s).meter = s.meter := keptX_meter (closeSessions_keptX p s)
@[simp] theorem closeSessions_otp (p : Session → Bool) (s : State) : (closeSessions p s).otp = s.otp := keptX_otp (closeSessions_keptX p s)
@[simp] theorem closeSessions_sec (p : Session → Bool) (s : State) : (closeSessions p s).sec = s.sec := keptX_sec (closeSessions_keptX p s)
@[simp] theorem closeSessions_upd (p : Session → Bool) (s : State) : (closeSessions p s).upd = s.upd := keptX_upd (closeSessions_keptX p s)
@[simp] theorem closeSessions_bist (p : Session → Bool) (s : State) : (closeSessions p s).bist = s.bist := keptX_bist (closeSessions_keptX p s)
@[simp] theorem closeSessions_boot (p : Session → Bool) (s : State) : (closeSessions p s).boot = s.boot := keptX_boot (closeSessions_keptX p s)
@[simp] theorem closeSessions_out (p : Session → Bool) (s : State) : (closeSessions p s).out = s.out := keptX_out (closeSessions_keptX p s)
@[simp] theorem closeSessions_pending (p : Session → Bool) (s : State) : (closeSessions p s).pending = s.pending := keptX_pending (closeSessions_keptX p s)
@[simp] theorem closeSessions_freeIdx (p : Session → Bool) (s : State) : (closeSessions p s).freeIdx = s.freeIdx := keptX_freeIdx (closeSessions_keptX p s)
@[simp] theorem dropLeaseOut_now (s : State) : (dropLeaseOut s).now = s.now := keptX_now (dropLeaseOut_keptX s)
@[simp] theorem dropLeaseOut_time (s : State) : (dropLeaseOut s).time = s.time := keptX_time (dropLeaseOut_keptX s)
@[simp] theorem dropLeaseOut_rtc (s : State) : (dropLeaseOut s).rtc = s.rtc := keptX_rtc (dropLeaseOut_keptX s)
@[simp] theorem dropLeaseOut_fb (s : State) : (dropLeaseOut s).fb = s.fb := keptX_fb (dropLeaseOut_keptX s)
@[simp] theorem dropLeaseOut_set (s : State) : (dropLeaseOut s).set = s.set := keptX_set (dropLeaseOut_keptX s)
@[simp] theorem dropLeaseOut_pwr (s : State) : (dropLeaseOut s).pwr = s.pwr := keptX_pwr (dropLeaseOut_keptX s)
@[simp] theorem dropLeaseOut_joints (s : State) : (dropLeaseOut s).joints = s.joints := keptX_joints (dropLeaseOut_keptX s)
@[simp] theorem dropLeaseOut_mac (s : State) : (dropLeaseOut s).mac = s.mac := keptX_mac (dropLeaseOut_keptX s)
@[simp] theorem dropLeaseOut_truss (s : State) : (dropLeaseOut s).truss = s.truss := keptX_truss (dropLeaseOut_keptX s)
@[simp] theorem dropLeaseOut_lamp (s : State) : (dropLeaseOut s).lamp = s.lamp := keptX_lamp (dropLeaseOut_keptX s)
@[simp] theorem dropLeaseOut_meter (s : State) : (dropLeaseOut s).meter = s.meter := keptX_meter (dropLeaseOut_keptX s)
@[simp] theorem dropLeaseOut_otp (s : State) : (dropLeaseOut s).otp = s.otp := keptX_otp (dropLeaseOut_keptX s)
@[simp] theorem dropLeaseOut_sec (s : State) : (dropLeaseOut s).sec = s.sec := keptX_sec (dropLeaseOut_keptX s)
@[simp] theorem dropLeaseOut_upd (s : State) : (dropLeaseOut s).upd = s.upd := keptX_upd (dropLeaseOut_keptX s)
@[simp] theorem dropLeaseOut_bist (s : State) : (dropLeaseOut s).bist = s.bist := keptX_bist (dropLeaseOut_keptX s)
@[simp] theorem dropLeaseOut_boot (s : State) : (dropLeaseOut s).boot = s.boot := keptX_boot (dropLeaseOut_keptX s)
@[simp] theorem dropLeaseOut_out (s : State) : (dropLeaseOut s).out = s.out := keptX_out (dropLeaseOut_keptX s)
@[simp] theorem dropLeaseOut_pending (s : State) : (dropLeaseOut s).pending = s.pending := keptX_pending (dropLeaseOut_keptX s)
@[simp] theorem dropLeaseOut_freeIdx (s : State) : (dropLeaseOut s).freeIdx = s.freeIdx := keptX_freeIdx (dropLeaseOut_keptX s)
@[simp] theorem commitDone_now (block : Nat) (reply : Bytes) (s : State) : (commitDone block reply s).now = s.now := keptX_now (commitDone_keptX block reply s)
@[simp] theorem commitDone_time (block : Nat) (reply : Bytes) (s : State) : (commitDone block reply s).time = s.time := keptX_time (commitDone_keptX block reply s)
@[simp] theorem commitDone_rtc (block : Nat) (reply : Bytes) (s : State) : (commitDone block reply s).rtc = s.rtc := keptX_rtc (commitDone_keptX block reply s)
@[simp] theorem commitDone_fb (block : Nat) (reply : Bytes) (s : State) : (commitDone block reply s).fb = s.fb := keptX_fb (commitDone_keptX block reply s)
@[simp] theorem commitDone_set (block : Nat) (reply : Bytes) (s : State) : (commitDone block reply s).set = s.set := keptX_set (commitDone_keptX block reply s)
@[simp] theorem commitDone_pwr (block : Nat) (reply : Bytes) (s : State) : (commitDone block reply s).pwr = s.pwr := keptX_pwr (commitDone_keptX block reply s)
@[simp] theorem commitDone_joints (block : Nat) (reply : Bytes) (s : State) : (commitDone block reply s).joints = s.joints := keptX_joints (commitDone_keptX block reply s)
@[simp] theorem commitDone_mac (block : Nat) (reply : Bytes) (s : State) : (commitDone block reply s).mac = s.mac := keptX_mac (commitDone_keptX block reply s)
@[simp] theorem commitDone_truss (block : Nat) (reply : Bytes) (s : State) : (commitDone block reply s).truss = s.truss := keptX_truss (commitDone_keptX block reply s)
@[simp] theorem commitDone_lamp (block : Nat) (reply : Bytes) (s : State) : (commitDone block reply s).lamp = s.lamp := keptX_lamp (commitDone_keptX block reply s)
@[simp] theorem commitDone_meter (block : Nat) (reply : Bytes) (s : State) : (commitDone block reply s).meter = s.meter := keptX_meter (commitDone_keptX block reply s)
@[simp] theorem commitDone_otp (block : Nat) (reply : Bytes) (s : State) : (commitDone block reply s).otp = s.otp := keptX_otp (commitDone_keptX block reply s)
@[simp] theorem commitDone_sec (block : Nat) (reply : Bytes) (s : State) : (commitDone block reply s).sec = s.sec := keptX_sec (commitDone_keptX block reply s)
@[simp] theorem commitDone_upd (block : Nat) (reply : Bytes) (s : State) : (commitDone block reply s).upd = s.upd := keptX_upd (commitDone_keptX block reply s)
@[simp] theorem commitDone_bist (block : Nat) (reply : Bytes) (s : State) : (commitDone block reply s).bist = s.bist := keptX_bist (commitDone_keptX block reply s)
@[simp] theorem commitDone_boot (block : Nat) (reply : Bytes) (s : State) : (commitDone block reply s).boot = s.boot := keptX_boot (commitDone_keptX block reply s)
@[simp] theorem commitDone_out (block : Nat) (reply : Bytes) (s : State) : (commitDone block reply s).out = s.out := keptX_out (commitDone_keptX block reply s)
@[simp] theorem commitDone_pending (block : Nat) (reply : Bytes) (s : State) : (commitDone block reply s).pending = s.pending := keptX_pending (commitDone_keptX block reply s)
@[simp] theorem commitDone_freeIdx (block : Nat) (reply : Bytes) (s : State) : (commitDone block reply s).freeIdx = s.freeIdx := keptX_freeIdx (commitDone_keptX block reply s)

end Sys2Proof.Machine
end

