-- ==== Sys2Proof/Laws/FrameA.lean ====
section
/-! SUPPORT. The frame of the commands of partsDialogue: what every operation they use, and each of them, leaves alone. -/

namespace Sys2Proof.Machine

set_option Elab.async false

/-- What the commands of partsDialogue leave alone. -/
def State.keptA (s : State) : Nat × TimeUnit × Rtc × Fallback × SettingsSt × List Joint × MacSt × TrussSt × LampSt × MeterSt × Otp × SecSt × UpdateSt × SelfTestSt × BootSt × List Instr × Nat :=
  (s.now, s.time, s.rtc, s.fb, s.set, s.joints, s.mac, s.truss, s.lamp, s.meter, s.otp, s.sec, s.upd, s.bist, s.boot, s.pending, s.freeIdx)

@[simp] theorem keptA_modHost (s : State) (f) : (s.modHost f).keptA = s.keptA := by have h : (s.modHost f).keptA = s.keptA := rfl; exact h
@[simp] theorem keptA_modPar (s : State) (f) : (s.modPar f).keptA = s.keptA := by have h : (s.modPar f).keptA = s.keptA := rfl; exact h
@[simp] theorem keptA_modPwr (s : State) (f) : (s.modPwr f).keptA = s.keptA := by have h : (s.modPwr f).keptA = s.keptA := rfl; exact h
@[simp] theorem keptA_modTwin (s : State) (f) : (s.modTwin f).keptA = s.keptA := by have h : (s.modTwin f).keptA = s.keptA := rfl; exact h
@[simp] theorem keptA_modOut (s : State) (f) : (s.modOut f).keptA = s.keptA := by have h : (s.modOut f).keptA = s.keptA := rfl; exact h
@[simp] theorem keptA_foldl {α : Type} (f : State → α → State) (h : ∀ s x, (f s x).keptA = s.keptA) (l : List α) (s : State) :
    (l.foldl f s).keptA = s.keptA := by
  induction l generalizing s with
  | nil => rfl
  | cons a l ih => simp only [List.foldl_cons, ih, h]
@[simp] theorem keptA_ite (c : Prop) [Decidable c] (a b : State) : (if c then a else b).keptA = if c then a.keptA else b.keptA := by
  split <;> rfl
theorem keptA_foldl2 {α : Type} (f : State → α → State) (h : ∀ s x, (f s x).keptA = s.keptA) (l : List α) (s u : State)
    (e : s.keptA = u.keptA) : (l.foldl f s).keptA = u.keptA := by rw [keptA_foldl f h, e]
@[simp] theorem onBank_keptA (k : Nat) (f : State → State) (s : State) (hf : ∀ u, (f u).keptA = u.keptA) : (onBank k f s).keptA = s.keptA := by simp [onBank, hf]
@[simp] theorem twinPut_keptA (type : Nat) (payload : Bytes) (s : State)  : (twinPut type payload s).keptA = s.keptA := by simp [twinPut]
@[simp] theorem twinSend_keptA (type : Nat) (payload : Bytes) (s : State)  : (twinSend type payload s).keptA = s.keptA := by simp [twinSend]
@[simp] theorem State_modSession_keptA (s : State) (sid : Nat) (f : Session → Session)  : (State.modSession s sid f).keptA = s.keptA := by simp [State.modSession]
@[simp] theorem pushNotice_keptA (sid : Nat) (build : Nat → Bytes) (s : State)  : (pushNotice sid build s).keptA = s.keptA := by simp [pushNotice]
@[simp] theorem giveCredits_keptA (sid n : Nat) (s : State)  : (giveCredits sid n s).keptA = s.keptA := by
  unfold giveCredits
  (try dsimp only)
  (repeat' split)
  all_goals (try simp)

@[simp] theorem creditNotice_keptA (sid : Nat) (s : State)  : (creditNotice sid s).keptA = s.keptA := by
  unfold creditNotice
  (try dsimp only)
  (repeat' split)
  all_goals (try simp)

@[simp] theorem noticeTo_keptA (dest : Option Nat) (code tag : Nat) (rec : Bytes) (s : State)  : (noticeTo dest code tag rec s).keptA = s.keptA := by
  unfold noticeTo
  (try dsimp only)
  (repeat' split)
  all_goals (try simp)

@[simp] theorem recordEv_keptA (code source sev : Nat) (payload : Bytes) (dest : Option Nat) (tag : Nat) (s : State)  : (recordEv code source sev payload dest tag s).keptA = s.keptA := by simp [recordEv]
@[simp] theorem ev_keptA (code : Nat) (payload : Bytes) (s : State)  : (ev code payload s).keptA = s.keptA := by simp [ev]
@[simp] theorem evL_keptA (n code : Nat) (payload : Bytes) (s : State)  : (evL n code payload s).keptA = s.keptA := by simp [evL]
@[simp] theorem evS_keptA (sid tag code : Nat) (payload : Bytes) (s : State)  : (evS sid tag code payload s).keptA = s.keptA := by simp [evS]
@[simp] theorem checkBacklog_keptA (sid : Nat) (s : State)  : (checkBacklog sid s).keptA = s.keptA := by
  unfold checkBacklog
  (try dsimp only)
  (repeat' split)
  all_goals (try simp)

@[simp] theorem checkInbound_keptA (s : State)  : (checkInbound s).keptA = s.keptA := by simp [checkInbound]
@[simp] theorem pushBare_keptA (t : Transport) (bytes : Bytes) (seq : Nat) (s : State)  : (pushBare t bytes seq s).keptA = s.keptA := by simp [pushBare]
@[simp] theorem State_modCmd_keptA (s : State) (seq : Nat) (f : LiveCmd → LiveCmd)  : (State.modCmd s seq f).keptA = s.keptA := by simp [State.modCmd]
@[simp] theorem complete_keptA (c : LiveCmd) (status detail : Nat) (params : Bytes) (s : State)  : (complete c status detail params s).keptA = s.keptA := by simp [complete]
@[simp] theorem fail_keptA (c : LiveCmd) (status detail : Nat) (s : State)  : (fail c status detail s).keptA = s.keptA := by simp [fail]
@[simp] theorem completeAll_keptA (p : LiveCmd → Bool) (status detail : Nat) (params : Bytes) (s : State)  : (completeAll p status detail params s).keptA = s.keptA := by simp [completeAll]
@[simp] theorem completeEach_keptA (p : LiveCmd → Bool) (status detail : Nat) (params : LiveCmd → Bytes) (s : State)  : (completeEach p status detail params s).keptA = s.keptA := by simp [completeEach]
@[simp] theorem lateSuccess_keptA (p : LateRec → Bool) (status : Nat) (s : State)  : (lateSuccess p status s).keptA = s.keptA := by simp [lateSuccess]
@[simp] theorem closeSession_keptA (sid : Nat) (s : State)  : (closeSession sid s).keptA = s.keptA := by
  unfold closeSession
  (try dsimp only)
  (repeat' split)
  all_goals (try simp)

@[simp] theorem closeSessions_keptA (p : Session → Bool) (s : State)  : (closeSessions p s).keptA = s.keptA := by
  unfold closeSessions
  (try simp)
  (repeat' (split <;> try simp))

@[simp] theorem accountState_keptA (s : State)  : (accountState s).keptA = s.keptA := by simp [accountState]
@[simp] theorem setPState_keptA (q : PState) (s : State)  : (setPState q s).keptA = s.keptA := by simp [setPState]
@[simp] theorem toRun_keptA (s : State)  : (toRun s).keptA = s.keptA := by simp [toRun]
@[simp] theorem dropLeaseOut_keptA (s : State)  : (dropLeaseOut s).keptA = s.keptA := by simp [dropLeaseOut]
@[simp] theorem faultRecord_keptA (source cls : Nat) (payload : Bytes) (s : State)  : (faultRecord source cls payload s).keptA = s.keptA := by simp [faultRecord]
@[simp] theorem raiseCE_keptA (source : Nat) (payload : Bytes) (s : State)  : (raiseCE source payload s).keptA = s.keptA := by simp [raiseCE]
@[simp] theorem runCmd_keptA (op sid tag : Nat) (body : LiveCmd → State → State) (s : State) (hbody : ∀ x0 u, (body x0 u).keptA = u.keptA) : (runCmd op sid tag body s).keptA = s.keptA := by
  unfold runCmd
  (try dsimp only)
  (repeat' split)
  all_goals (try simp [hbody])

@[simp] theorem waitFor_keptA (c : LiveCmd) (w : Wait) (work : List Nat) (s : State)  : (waitFor c w work s).keptA = s.keptA := by simp [waitFor]
@[simp] theorem landCrossed_keptA (j k : Nat) (s : State)  : (landCrossed j k s).keptA = s.keptA := by simp [landCrossed]
@[simp] theorem pmbusWrite_keptA (command : Nat) (data : Bytes) (s : State)  : (pmbusWrite command data s).keptA = s.keptA := by simp [pmbusWrite]
@[simp] theorem pmbusRead_keptA (command : Nat) (s : State)  : (pmbusRead command s).keptA = s.keptA := by simp [pmbusRead]
@[simp] theorem sendVout_keptA (exponent : Int) (mv : Nat) (s : State)  : (sendVout exponent mv s).keptA = s.keptA := by simp [sendVout]
@[simp] theorem requestVout_keptA (mv attempt : Nat) (s : State)  : (requestVout mv attempt s).keptA = s.keptA := by simp [requestVout]
@[simp] theorem countAbort_keptA (point : Nat) (s : State)  : (countAbort point s).keptA = s.keptA := by simp [countAbort]
@[simp] theorem beginExit_keptA (s : State)  : (beginExit s).keptA = s.keptA := by simp [beginExit]
@[simp] theorem rtcStepped_keptA (n : Int) (cause : Nat) (s : State)  : (rtcStepped n cause s).keptA = s.keptA := by simp [rtcStepped]
@[simp] theorem commitDone_keptA (block : Nat) (reply : Bytes) (s : State)  : (commitDone block reply s).keptA = s.keptA := by simp [commitDone]
@[simp] theorem finishMesh_keptA (q : Nat) (s : State)  : (finishMesh q s).keptA = s.keptA := by
  unfold finishMesh
  (try dsimp only)
  (repeat' split)
  all_goals (try simp)

@[simp] theorem lateMesh_keptA (q : Nat) (s : State)  : (lateMesh q s).keptA = s.keptA := by
  unfold lateMesh
  (try dsimp only)
  (repeat' split)
  all_goals (try simp)

@[simp] theorem addRetries_keptA (q k : Nat) (s : State)  : (addRetries q k s).keptA = s.keptA := by simp [addRetries]
@[simp] theorem sendEach_keptA (c : LiveCmd) (work : List Nat) (send : State → State) (s : State) (hsend : ∀ u, (send u).keptA = u.keptA) : (sendEach c work send s).keptA = s.keptA := by simp [sendEach, hsend]
@[simp] theorem staleChallenges_keptA (slot : Nat) (s : State)  : (staleChallenges slot s).keptA = s.keptA := by simp [staleChallenges]
@[simp] theorem tamperRecord_keptA (e : TamperEnt) (inBackup : Bool) (s : State)  : (tamperRecord e inBackup s).keptA = s.keptA := by simp [tamperRecord]
@[simp] theorem timeGet_keptA (c : LiveCmd) (s : State)  : (timeGet c s).keptA = s.keptA := by simp [timeGet]
@[simp] theorem echo_keptA (c : LiveCmd) (s : State)  : (echo c s).keptA = s.keptA := by simp [echo]
@[simp] theorem deviceInfo_keptA (c : LiveCmd) (s : State)  : (deviceInfo c s).keptA = s.keptA := by simp [deviceInfo]
@[simp] theorem awaitReset_keptA (c : LiveCmd) (type source : Nat) (s : State)  : (awaitReset c type source s).keptA = s.keptA := by simp [awaitReset]
@[simp] theorem resetCmd_keptA (c : LiveCmd) (s : State)  : (resetCmd c s).keptA = s.keptA := by
  unfold resetCmd
  (try dsimp only)
  (repeat' split)
  all_goals (try simp)

@[simp] theorem fence_keptA (c : LiveCmd) (s : State)  : (fence c s).keptA = s.keptA := by simp [fence]
@[simp] theorem noteLocked_keptA (st : Nat) (s : State)  : (noteLocked st s).keptA = s.keptA := by simp [noteLocked]
@[simp] theorem settingRead_keptA (c : LiveCmd) (s : State)  : (settingRead c s).keptA = s.keptA := by
  unfold settingRead
  (try dsimp only)
  (repeat' split)
  all_goals (try simp)

@[simp] theorem closeTransport_keptA (t : Transport) (s : State)  : (closeTransport t s).keptA = s.keptA := by
  unfold closeTransport
  (try dsimp only)
  (repeat' split)
  all_goals (try simp)

@[simp] theorem grantSession_keptA (c : LiveCmd) (n role baud : Nat) (keylessProc : Bool) (s : State)  : (grantSession c n role baud keylessProc s).keptA = s.keptA := by simp [grantSession]
@[simp] theorem refuseOpen_keptA (c : LiveCmd) (st d : Nat) (s : State)  : (refuseOpen c st d s).keptA = s.keptA := by simp [refuseOpen]
@[simp] theorem queueStatus_keptA (c : LiveCmd) (s : State)  : (queueStatus c s).keptA = s.keptA := by simp [queueStatus]
@[simp] theorem faultStatus_keptA (c : LiveCmd) (s : State)  : (faultStatus c s).keptA = s.keptA := by simp [faultStatus]
@[simp] theorem ackReply_keptA (c : LiveCmd) (s : State)  : (ackReply c s).keptA = s.keptA := by simp [ackReply]
@[simp] theorem eventRead_keptA (c : LiveCmd) (s : State)  : (eventRead c s).keptA = s.keptA := by simp [eventRead]
@[simp] theorem clearLog_keptA (q : SidChal) (c : LiveCmd) (s : State)  : (clearLog q c s).keptA = s.keptA := by simp [clearLog]
@[simp] theorem setRate_keptA (code burst refill : Nat) (s : State)  : (setRate code burst refill s).keptA = s.keptA := by simp [setRate]
@[simp] theorem eventRateSet_keptA (c : LiveCmd) (s : State)  : (eventRateSet c s).keptA = s.keptA := by simp [eventRateSet]
@[simp] theorem faultInject_keptA (c : LiveCmd) (s : State)  : (faultInject c s).keptA = s.keptA := by
  unfold faultInject
  (try dsimp only)
  (repeat' split)
  all_goals (try simp)

@[simp] theorem noteInfo_keptA (source : Nat) (info : Bytes) (s : State)  : (noteInfo source info s).keptA = s.keptA := by simp [noteInfo]
@[simp] theorem rearmWatchdog_keptA (core : Nat) (s : State)  : (rearmWatchdog core s).keptA = s.keptA := by simp [rearmWatchdog]
@[simp] theorem copyPage_keptA (s : State)  : (copyPage s).keptA = s.keptA := by simp [copyPage]
@[simp] theorem echoResult_keptA (k asn outcome : Nat) (s : State)  : (echoResult k asn outcome s).keptA = s.keptA := by simp [echoResult]
@[simp] theorem echoFeed_keptA (k asn : Nat) (kind : CellKind) (plain : Bytes) (s : State)  : (echoFeed k asn kind plain s).keptA = s.keptA := by simp [echoFeed]
@[simp] theorem dropFeed_keptA (f : Nat × Nat × Nat × Bytes) (s : State)  : (dropFeed f s).keptA = s.keptA := by simp [dropFeed]
@[simp] theorem correctBeacon_keptA (port at_ : Nat) (s : State)  : (correctBeacon port at_ s).keptA = s.keptA := by simp [correctBeacon]
@[simp] theorem lampStatus_keptA (c : LiveCmd) (s : State)  : (lampStatus c s).keptA = s.keptA := by simp [lampStatus]
@[simp] theorem placementsDone_keptA (s : State)  : (placementsDone s).keptA = s.keptA := by simp [placementsDone]
@[simp] theorem policyList_keptA (c : LiveCmd) (s : State)  : (policyList c s).keptA = s.keptA := by simp [policyList]
@[simp] theorem placementRead_keptA (c : LiveCmd) (s : State)  : (placementRead c s).keptA = s.keptA := by simp [placementRead]
@[simp] theorem topologyRead_keptA (c : LiveCmd) (s : State)  : (topologyRead c s).keptA = s.keptA := by simp [topologyRead]
@[simp] theorem dwellStatus_keptA (c : LiveCmd) (s : State)  : (dwellStatus c s).keptA = s.keptA := by
  unfold dwellStatus
  (try dsimp only)
  (repeat' split)
  all_goals (try simp)

@[simp] theorem joinRefused_keptA (eui reason proxy : Nat) (s : State)  : (joinRefused eui reason proxy s).keptA = s.keptA := by simp [joinRefused]
@[simp] theorem meterRead_keptA (c : LiveCmd) (s : State)  : (meterRead c s).keptA = s.keptA := by simp [meterRead]
@[simp] theorem energyRead_keptA (c : LiveCmd) (s : State)  : (energyRead c s).keptA = s.keptA := by simp [energyRead]
@[simp] theorem reconcileRead_keptA (c : LiveCmd) (s : State)  : (reconcileRead c s).keptA = s.keptA := by simp [reconcileRead]
@[simp] theorem selftestResult_keptA (c : LiveCmd) (s : State)  : (selftestResult c s).keptA = s.keptA := by
  unfold selftestResult
  (try dsimp only)
  (repeat' split)
  all_goals (try simp)

@[simp] theorem sendHealth_keptA (s : State)  : (sendHealth s).keptA = s.keptA := by simp [sendHealth]
@[simp] theorem sendHello_keptA (s : State)  : (sendHello s).keptA = s.keptA := by simp [sendHello]
@[simp] theorem heard_keptA (s : State)  : (heard s).keptA = s.keptA := by simp [heard]
@[simp] theorem frameBad_keptA (s : State)  : (frameBad s).keptA = s.keptA := by simp [frameBad]
@[simp] theorem onLink_keptA (type : Nat) (f : LinkIn) (k : State → State) (s : State) (hk : ∀ u, (k u).keptA = u.keptA) : (onLink type f k s).keptA = s.keptA := by simp [onLink, hk]
@[simp] theorem assertLease_keptA (cause : Nat) (s : State)  : (assertLease cause s).keptA = s.keptA := by simp [assertLease]
@[simp] theorem inSequence_keptA (type : Nat) (f : LinkIn) (ok : State → State) (s : State) (hok : ∀ u, (ok u).keptA = u.keptA) : (inSequence type f ok s).keptA = s.keptA := by
  unfold inSequence
  (try dsimp only)
  (repeat' split)
  all_goals (try simp [hok])

@[simp] theorem nak_keptA (f : LinkIn) (s : State)  : (nak f s).keptA = s.keptA := by simp [nak]
@[simp] theorem renewAndCopy_keptA (cycle : Nat) (step : Int) (s : State)  : (renewAndCopy cycle step s).keptA = s.keptA := by simp [renewAndCopy]
@[simp] theorem copySegment_keptA (f : LinkIn) (s : State)  : (copySegment f s).keptA = s.keptA := by
  unfold copySegment
  exact inSequence_keptA _ _ _ _ (fun _ => rfl)

@[simp] theorem yieldDone_keptA (cycle : Nat) (s : State)  : (yieldDone cycle s).keptA = s.keptA := by simp [yieldDone]
@[simp] theorem standbyCycle_keptA (s : State)  : (standbyCycle s).keptA = s.keptA := by simp [standbyCycle]
@[simp] theorem journalFrame_keptA (f : LinkIn) (s : State)  : (journalFrame f s).keptA = s.keptA := by simp [journalFrame]
@[simp] theorem journalAck_keptA (f : LinkIn) (s : State)  : (journalAck f s).keptA = s.keptA := by
  unfold journalAck
  (try dsimp only)
  (repeat' split)
  all_goals (try simp)

@[simp] theorem journalAccept_keptA (c : LiveCmd) (s : State)  : (journalAccept c s).keptA = s.keptA := by simp [journalAccept]
@[simp] theorem echoFed_keptA (f : LinkIn) (s : State)  : (echoFed f s).keptA = s.keptA := by simp [echoFed]
@[simp] theorem timeExchange_keptA (s : State)  : (timeExchange s).keptA = s.keptA := by simp [timeExchange]
@[simp] theorem reportUnknown_keptA (us : List JournalEnt) (s : State)  : (reportUnknown us s).keptA = s.keptA := by simp [reportUnknown]
@[simp] theorem noteUnhealthy_keptA (s : State)  : (noteUnhealthy s).keptA = s.keptA := by simp [noteUnhealthy]
@[simp] theorem twinStatus_keptA (c : LiveCmd) (s : State)  : (twinStatus c s).keptA = s.keptA := by simp [twinStatus]
@[simp] theorem leaseYield_keptA (c : LiveCmd) (s : State)  : (leaseYield c s).keptA = s.keptA := by simp [leaseYield]
@[simp] theorem countRefusals_keptA (l : List Nat) (s : State)  : (countRefusals l s).keptA = s.keptA := by simp [countRefusals]
@[simp] theorem countEntry_keptA (q : PState) (s : State)  : (countEntry q s).keptA = s.keptA := by simp [countEntry]
@[simp] theorem beginEntry_keptA (s : State)  : (beginEntry s).keptA = s.keptA := by simp [beginEntry]
@[simp] theorem applyOpPoint_keptA (s : State)  : (applyOpPoint s).keptA = s.keptA := by simp [applyOpPoint]
@[simp] theorem abandonAt_keptA (point : Nat) (s : State)  : (abandonAt point s).keptA = s.keptA := by simp [abandonAt]
@[simp] theorem checkinTick_keptA (s : State)  : (checkinTick s).keptA = s.keptA := by simp [checkinTick]
@[simp] theorem powerStatus_keptA (c : LiveCmd) (s : State)  : (powerStatus c s).keptA = s.keptA := by simp [powerStatus]
@[simp] theorem powerRefusalsRead_keptA (c : LiveCmd) (s : State)  : (powerRefusalsRead c s).keptA = s.keptA := by simp [powerRefusalsRead]
@[simp] theorem endFragments_keptA (s : State)  : (endFragments s).keptA = s.keptA := by simp [endFragments]
@[simp] theorem restartEvents_keptA (cold : Bool) (s : State)  : (restartEvents cold s).keptA = s.keptA := by simp [restartEvents]
@[simp] theorem resetCause_keptA (s : State)  : (resetCause s).keptA = s.keptA := by simp [resetCause]
@[simp] theorem testFails_keptA (origin : Nat) (l : List (TestUnit × List (Nat × Nat))) (s : State)  : (testFails origin l s).keptA = s.keptA := by simp [testFails]
@[simp] theorem writeLatch_keptA (s : State)  : (writeLatch s).keptA = s.keptA := by simp [writeLatch]
@[simp] theorem romSend_keptA (b : Bytes) (s : State)  : (romSend b s).keptA = s.keptA := by simp [romSend]
@[simp] theorem romHello_keptA (s : State)  : (romHello s).keptA = s.keptA := by simp [romHello]
@[simp] theorem refusePacket_keptA (t : Transport) (sid : Option Nat) (b : Bytes) (st d : Nat) (s : State)  : (refusePacket t sid b st d s).keptA = s.keptA := by
  unfold refusePacket
  (try dsimp only)
  (repeat' split)
  all_goals (try simp)

@[simp] theorem safeReply_keptA (t : Transport) (charged : Bool) (b : Bytes) (st d seq : Nat) (s : State)  : (safeReply t charged b st d seq s).keptA = s.keptA := by
  unfold safeReply
  (try dsimp only)
  (repeat' split)
  all_goals (try simp)

@[simp] theorem safeAnswer_keptA (t : Transport) (charged : Bool) (b : Bytes) (s : State)  : (safeAnswer t charged b s).keptA = s.keptA := by
  unfold safeAnswer
  (try dsimp only)
  (repeat' split)
  all_goals (try simp)

@[simp] theorem enqueue_keptA (e : InEntry) (s : State)  : (enqueue e s).keptA = s.keptA := by simp [enqueue]
@[simp] theorem offerOn_keptA (t : Transport) (n : Nat) (x : Session) (b : Bytes) (s : State)  : (offerOn t n x b s).keptA = s.keptA := by simp [offerOn]
@[simp] theorem offerLocal_keptA (t : Transport) (b : Bytes) (s : State)  : (offerLocal t b s).keptA = s.keptA := by
  unfold offerLocal
  (try dsimp only)
  (repeat' split)
  all_goals (try simp)

@[simp] theorem dropOut_keptA (t : Transport) (sid : Option Nat) (p : OutPkt) (s : State)  : (dropOut t sid p s).keptA = s.keptA := by
  unfold dropOut
  (try dsimp only)
  (repeat' split)
  all_goals (try simp)

@[simp] theorem modWin_keptA (f : Window → Window) (s : State)  : (modWin f s).keptA = s.keptA := by simp [modWin]
@[simp] theorem writeStatus_keptA (v : Nat) (s : State)  : (writeStatus v s).keptA = s.keptA := by simp [writeStatus]
@[simp] theorem writeCause_keptA (v : Nat) (s : State)  : (writeCause v s).keptA = s.keptA := by simp [writeCause]
@[simp] theorem ethDrop_keptA (s : State)  : (ethDrop s).keptA = s.keptA := by simp [ethDrop]
@[simp] theorem ethOut_keptA (peer : Nat) (b : Bytes) (s : State)  : (ethOut peer b s).keptA = s.keptA := by simp [ethOut]
@[simp] theorem refuseHandshake_keptA (peer st : Nat) (s : State)  : (refuseHandshake peer st s).keptA = s.keptA := by simp [refuseHandshake]
@[simp] theorem takePacket_keptA (n : Nat) (b : Bytes) (s : State)  : (takePacket n b s).keptA = s.keptA := by
  unfold takePacket
  (try dsimp only)
  (repeat' split)
  all_goals (try simp)

@[simp] theorem modChan_keptA (n : Nat) (f : EthChan → EthChan) (s : State)  : (modChan n f s).keptA = s.keptA := by simp [modChan]
@[simp] theorem takeHeld_keptA (n : Nat) (y0 : Nat) (s : State)  : (takeHeld n y0 s).keptA = s.keptA := by
  induction y0 generalizing s with
  | zero => rfl
  | succ k ih => unfold takeHeld; (repeat' split) <;> simp [ih]

@[simp] theorem dataIn_keptA (peer : Nat) (p : Bytes) (s : State)  : (dataIn peer p s).keptA = s.keptA := by
  unfold dataIn
  (try dsimp only)
  (repeat' split)
  all_goals (try simp)

@[simp] theorem reorderTimeout_keptA (n : Nat) (s : State)  : (reorderTimeout n s).keptA = s.keptA := by
  unfold reorderTimeout
  (try dsimp only)
  (repeat' split)
  all_goals (try simp)

@[simp] theorem oweLate_keptA (c : LiveCmd) (mesh : Bool) (s : State)  : (oweLate c mesh s).keptA = s.keptA := by simp [oweLate]
@[simp] theorem loseRecord_keptA (index : Nat) (s : State)  : (loseRecord index s).keptA = s.keptA := by simp [loseRecord]
@[simp] theorem tickWatchdogs_keptA (s : State)  : (tickWatchdogs s).keptA = s.keptA := by simp [tickWatchdogs]
theorem execEcho_keptA (sid : Nat) (tag : Nat) (s u : State) (h : execEcho sid tag s = .next u) : u.keptA = s.keptA := by
  unfold execEcho at h
  cases h
  simp

theorem execDeviceInfo_keptA (sid : Nat) (tag : Nat) (s u : State) (h : execDeviceInfo sid tag s = .next u) : u.keptA = s.keptA := by
  unfold execDeviceInfo at h
  cases h
  simp

theorem execReset_keptA (sid : Nat) (tag : Nat) (s u : State) (h : execReset sid tag s = .next u) : u.keptA = s.keptA := by
  unfold execReset at h
  cases h
  simp

theorem execFence_keptA (sid : Nat) (tag : Nat) (s u : State) (h : execFence sid tag s = .next u) : u.keptA = s.keptA := by
  unfold execFence at h
  cases h
  simp

theorem execSettingRead_keptA (sid : Nat) (tag : Nat) (s u : State) (h : execSettingRead sid tag s = .next u) : u.keptA = s.keptA := by
  unfold execSettingRead at h
  cases h
  simp

theorem execTimeGet_keptA (sid : Nat) (tag : Nat) (s u : State) (h : execTimeGet sid tag s = .next u) : u.keptA = s.keptA := by
  unfold execTimeGet at h
  cases h
  simp

theorem execPowerStatus_keptA (sid : Nat) (tag : Nat) (s u : State) (h : execPowerStatus sid tag s = .next u) : u.keptA = s.keptA := by
  unfold execPowerStatus at h
  cases h
  simp

theorem execPowerRefusalsRead_keptA (sid : Nat) (tag : Nat) (s u : State) (h : execPowerRefusalsRead sid tag s = .next u) : u.keptA = s.keptA := by
  unfold execPowerRefusalsRead at h
  cases h
  simp

theorem execTopologyRead_keptA (sid : Nat) (tag : Nat) (s u : State) (h : execTopologyRead sid tag s = .next u) : u.keptA = s.keptA := by
  unfold execTopologyRead at h
  cases h
  simp

theorem execDwellStatus_keptA (sid : Nat) (tag : Nat) (s u : State) (h : execDwellStatus sid tag s = .next u) : u.keptA = s.keptA := by
  unfold execDwellStatus at h
  cases h
  simp

theorem execPolicyList_keptA (sid : Nat) (tag : Nat) (s u : State) (h : execPolicyList sid tag s = .next u) : u.keptA = s.keptA := by
  unfold execPolicyList at h
  cases h
  simp

theorem execPlacementRead_keptA (sid : Nat) (tag : Nat) (s u : State) (h : execPlacementRead sid tag s = .next u) : u.keptA = s.keptA := by
  unfold execPlacementRead at h
  cases h
  simp

theorem execLampStatus_keptA (sid : Nat) (tag : Nat) (s u : State) (h : execLampStatus sid tag s = .next u) : u.keptA = s.keptA := by
  unfold execLampStatus at h
  cases h
  simp

theorem execMeterRead_keptA (sid : Nat) (tag : Nat) (s u : State) (h : execMeterRead sid tag s = .next u) : u.keptA = s.keptA := by
  unfold execMeterRead at h
  cases h
  simp

theorem execEnergyRead_keptA (sid : Nat) (tag : Nat) (s u : State) (h : execEnergyRead sid tag s = .next u) : u.keptA = s.keptA := by
  unfold execEnergyRead at h
  cases h
  simp

theorem execReconcileRead_keptA (sid : Nat) (tag : Nat) (s u : State) (h : execReconcileRead sid tag s = .next u) : u.keptA = s.keptA := by
  unfold execReconcileRead at h
  cases h
  simp

theorem execFaultStatus_keptA (sid : Nat) (tag : Nat) (s u : State) (h : execFaultStatus sid tag s = .next u) : u.keptA = s.keptA := by
  unfold execFaultStatus at h
  cases h
  simp

theorem execEventRead_keptA (sid : Nat) (tag : Nat) (s u : State) (h : execEventRead sid tag s = .next u) : u.keptA = s.keptA := by
  unfold execEventRead at h
  cases h
  simp

theorem execEventRateSet_keptA (sid : Nat) (tag : Nat) (s u : State) (h : execEventRateSet sid tag s = .next u) : u.keptA = s.keptA := by
  unfold execEventRateSet at h
  cases h
  simp

theorem execFaultInject_keptA (sid : Nat) (tag : Nat) (s u : State) (h : execFaultInject sid tag s = .next u) : u.keptA = s.keptA := by
  unfold execFaultInject at h
  cases h
  simp

theorem execTwinStatus_keptA (sid : Nat) (tag : Nat) (s u : State) (h : execTwinStatus sid tag s = .next u) : u.keptA = s.keptA := by
  unfold execTwinStatus at h
  cases h
  simp

theorem execLeaseYield_keptA (sid : Nat) (tag : Nat) (s u : State) (h : execLeaseYield sid tag s = .next u) : u.keptA = s.keptA := by
  unfold execLeaseYield at h
  cases h
  simp

theorem execSelftestResult_keptA (sid : Nat) (tag : Nat) (s u : State) (h : execSelftestResult sid tag s = .next u) : u.keptA = s.keptA := by
  unfold execSelftestResult at h
  cases h
  simp

theorem execQueueStatus_keptA (sid : Nat) (tag : Nat) (s u : State) (h : execQueueStatus sid tag s = .next u) : u.keptA = s.keptA := by
  unfold execQueueStatus at h
  cases h
  simp

theorem execEthReorderTimeout_keptA (sid : Nat) (s u : State) (h : execEthReorderTimeout sid s = .next u) : u.keptA = s.keptA := by
  unfold execEthReorderTimeout at h
  cases h
  simp

theorem execEthIdleTimeout_keptA (sid : Nat) (s u : State) (h : execEthIdleTimeout sid s = .next u) : u.keptA = s.keptA := by
  unfold execEthIdleTimeout at h
  cases h
  (try dsimp only)
  (repeat' split)
  all_goals (try simp)

theorem execEthFirstDataTimeout_keptA (sid : Nat) (s u : State) (h : execEthFirstDataTimeout sid s = .next u) : u.keptA = s.keptA := by
  unfold execEthFirstDataTimeout at h
  cases h
  (try dsimp only)
  (repeat' split)
  all_goals (try simp)

theorem execReplyHoldTimer_keptA (sid : Nat) (s u : State) (h : execReplyHoldTimer sid s = .next u) : u.keptA = s.keptA := by
  unfold execReplyHoldTimer at h
  cases h
  (try dsimp only)
  (repeat' split)
  all_goals (try simp)

theorem execTimeExchangeTimer_keptA  (s u : State) (h : execTimeExchangeTimer  s = .next u) : u.keptA = s.keptA := by
  unfold execTimeExchangeTimer at h
  cases h
  simp

theorem execJournalAck_keptA (f : LinkIn) (s u : State) (h : execJournalAck f s = .next u) : u.keptA = s.keptA := by
  unfold execJournalAck at h
  cases h
  simp

end Sys2Proof.Machine
end

