-- ==== Sys2Proof/Laws/FrameB.lean ====
section
/-! SUPPORT. The frame of the commands of partsMesh: what every operation they use, and each of them, leaves alone. -/

namespace Sys2Proof.Machine

set_option Elab.async false

/-- What the commands of partsMesh leave alone. -/
def State.keptB (s : State) : Nat × TimeUnit × Rtc × SettingsSt × List Joint × Otp × SecSt × SelfTestSt × BootSt × Outputs × List Instr :=
  (s.now, s.time, s.rtc, s.set, s.joints, s.otp, s.sec, s.bist, s.boot, s.out, s.pending)

@[simp] theorem keptB_modHost (s : State) (f) : (s.modHost f).keptB = s.keptB := by have h : (s.modHost f).keptB = s.keptB := rfl; exact h
@[simp] theorem keptB_modFb (s : State) (f) : (s.modFb f).keptB = s.keptB := by have h : (s.modFb f).keptB = s.keptB := rfl; exact h
@[simp] theorem keptB_modMac (s : State) (f) : (s.modMac f).keptB = s.keptB := by have h : (s.modMac f).keptB = s.keptB := rfl; exact h
@[simp] theorem keptB_modPar (s : State) (f) : (s.modPar f).keptB = s.keptB := by have h : (s.modPar f).keptB = s.keptB := rfl; exact h
@[simp] theorem keptB_modUpd (s : State) (f) : (s.modUpd f).keptB = s.keptB := by have h : (s.modUpd f).keptB = s.keptB := rfl; exact h
@[simp] theorem keptB_modPwr (s : State) (f) : (s.modPwr f).keptB = s.keptB := by have h : (s.modPwr f).keptB = s.keptB := rfl; exact h
@[simp] theorem keptB_draw (s : State) : s.draw.keptB = s.keptB := by have h : s.draw.keptB = s.keptB := rfl; exact h
@[simp] theorem keptB_free (s : State) (n : Nat) : ({ s with freeIdx := n } : State).keptB = s.keptB := rfl
@[simp] theorem keptB_modTwin (s : State) (f) : (s.modTwin f).keptB = s.keptB := by have h : (s.modTwin f).keptB = s.keptB := rfl; exact h
@[simp] theorem keptB_modLamp (s : State) (f) : (s.modLamp f).keptB = s.keptB := by have h : (s.modLamp f).keptB = s.keptB := rfl; exact h
@[simp] theorem keptB_modMeter (s : State) (f) : (s.modMeter f).keptB = s.keptB := by have h : (s.modMeter f).keptB = s.keptB := rfl; exact h
@[simp] theorem keptB_modTruss (s : State) (f) : (s.modTruss f).keptB = s.keptB := by have h : (s.modTruss f).keptB = s.keptB := rfl; exact h
@[simp] theorem keptB_foldl {α : Type} (f : State → α → State) (h : ∀ s x, (f s x).keptB = s.keptB) (l : List α) (s : State) :
    (l.foldl f s).keptB = s.keptB := by
  induction l generalizing s with
  | nil => rfl
  | cons a l ih => simp only [List.foldl_cons, ih, h]
@[simp] theorem keptB_ite (c : Prop) [Decidable c] (a b : State) : (if c then a else b).keptB = if c then a.keptB else b.keptB := by
  split <;> rfl
theorem keptB_foldl2 {α : Type} (f : State → α → State) (h : ∀ s x, (f s x).keptB = s.keptB) (l : List α) (s u : State)
    (e : s.keptB = u.keptB) : (l.foldl f s).keptB = u.keptB := by rw [keptB_foldl f h, e]
@[simp] theorem onBank_keptB (k : Nat) (f : State → State) (s : State) (hf : ∀ u, (f u).keptB = u.keptB) : (onBank k f s).keptB = s.keptB := by simp [onBank, hf]
@[simp] theorem twinPut_keptB (type : Nat) (payload : Bytes) (s : State)  : (twinPut type payload s).keptB = s.keptB := by simp [twinPut]
@[simp] theorem twinSend_keptB (type : Nat) (payload : Bytes) (s : State)  : (twinSend type payload s).keptB = s.keptB := by simp [twinSend]
@[simp] theorem State_modSession_keptB (s : State) (sid : Nat) (f : Session → Session)  : (State.modSession s sid f).keptB = s.keptB := by simp [State.modSession]
@[simp] theorem pushNotice_keptB (sid : Nat) (build : Nat → Bytes) (s : State)  : (pushNotice sid build s).keptB = s.keptB := by simp [pushNotice]
@[simp] theorem giveCredits_keptB (sid n : Nat) (s : State)  : (giveCredits sid n s).keptB = s.keptB := by
  unfold giveCredits
  (try dsimp only)
  (repeat' split)
  all_goals (try simp)

@[simp] theorem creditNotice_keptB (sid : Nat) (s : State)  : (creditNotice sid s).keptB = s.keptB := by
  unfold creditNotice
  (try dsimp only)
  (repeat' split)
  all_goals (try simp)

@[simp] theorem noticeTo_keptB (dest : Option Nat) (code tag : Nat) (rec : Bytes) (s : State)  : (noticeTo dest code tag rec s).keptB = s.keptB := by
  unfold noticeTo
  (try dsimp only)
  (repeat' split)
  all_goals (try simp)

@[simp] theorem recordEv_keptB (code source sev : Nat) (payload : Bytes) (dest : Option Nat) (tag : Nat) (s : State)  : (recordEv code source sev payload dest tag s).keptB = s.keptB := by simp [recordEv]
@[simp] theorem ev_keptB (code : Nat) (payload : Bytes) (s : State)  : (ev code payload s).keptB = s.keptB := by simp [ev]
@[simp] theorem evL_keptB (n code : Nat) (payload : Bytes) (s : State)  : (evL n code payload s).keptB = s.keptB := by simp [evL]
@[simp] theorem evS_keptB (sid tag code : Nat) (payload : Bytes) (s : State)  : (evS sid tag code payload s).keptB = s.keptB := by simp [evS]
@[simp] theorem checkBacklog_keptB (sid : Nat) (s : State)  : (checkBacklog sid s).keptB = s.keptB := by
  unfold checkBacklog
  (try dsimp only)
  (repeat' split)
  all_goals (try simp)

@[simp] theorem checkInbound_keptB (s : State)  : (checkInbound s).keptB = s.keptB := by simp [checkInbound]
@[simp] theorem pushBare_keptB (t : Transport) (bytes : Bytes) (seq : Nat) (s : State)  : (pushBare t bytes seq s).keptB = s.keptB := by simp [pushBare]
@[simp] theorem State_modCmd_keptB (s : State) (seq : Nat) (f : LiveCmd → LiveCmd)  : (State.modCmd s seq f).keptB = s.keptB := by simp [State.modCmd]
@[simp] theorem complete_keptB (c : LiveCmd) (status detail : Nat) (params : Bytes) (s : State)  : (complete c status detail params s).keptB = s.keptB := by simp [complete]
@[simp] theorem fail_keptB (c : LiveCmd) (status detail : Nat) (s : State)  : (fail c status detail s).keptB = s.keptB := by simp [fail]
@[simp] theorem completeAll_keptB (p : LiveCmd → Bool) (status detail : Nat) (params : Bytes) (s : State)  : (completeAll p status detail params s).keptB = s.keptB := by simp [completeAll]
@[simp] theorem completeEach_keptB (p : LiveCmd → Bool) (status detail : Nat) (params : LiveCmd → Bytes) (s : State)  : (completeEach p status detail params s).keptB = s.keptB := by simp [completeEach]
@[simp] theorem lateSuccess_keptB (p : LateRec → Bool) (status : Nat) (s : State)  : (lateSuccess p status s).keptB = s.keptB := by simp [lateSuccess]
@[simp] theorem closeSession_keptB (sid : Nat) (s : State)  : (closeSession sid s).keptB = s.keptB := by
  unfold closeSession
  (try dsimp only)
  (repeat' split)
  all_goals (try simp)

@[simp] theorem closeSessions_keptB (p : Session → Bool) (s : State)  : (closeSessions p s).keptB = s.keptB := by
  unfold closeSessions
  (try simp)
  (repeat' (split <;> try simp))

@[simp] theorem takeControl_keptB (a : Agent) (s : State)  : (takeControl a s).keptB = s.keptB := by simp [takeControl]
@[simp] theorem refreshLdEn_keptB (s : State)  : (refreshLdEn s).keptB = s.keptB := by simp [refreshLdEn]
@[simp] theorem writeCopy_keptB (toB : Bool) (t old : TotalsCopy) (s : State)  : (writeCopy toB t old s).keptB = s.keptB := by simp [writeCopy]
@[simp] theorem saveTotals_keptB (kind : Nat) (s : State)  : (saveTotals kind s).keptB = s.keptB := by simp [saveTotals]
@[simp] theorem accountState_keptB (s : State)  : (accountState s).keptB = s.keptB := by simp [accountState]
@[simp] theorem setPState_keptB (q : PState) (s : State)  : (setPState q s).keptB = s.keptB := by simp [setPState]
@[simp] theorem toRun_keptB (s : State)  : (toRun s).keptB = s.keptB := by simp [toRun]
@[simp] theorem dropLeaseOut_keptB (s : State)  : (dropLeaseOut s).keptB = s.keptB := by simp [dropLeaseOut]
@[simp] theorem takeEdges_keptB (ago : Nat) (edges : List Nat) (s : State)  : (takeEdges ago edges s).keptB = s.keptB := by simp [takeEdges]
@[simp] theorem takeBits_keptB (edges : List Nat) (s : State)  : (takeBits edges s).keptB = s.keptB := by simp [takeBits]
@[simp] theorem startPulse_keptB (k : Nat) (s : State)  : (startPulse k s).keptB = s.keptB := by
  unfold startPulse
  (try dsimp only)
  (repeat' split)
  all_goals (try simp)

@[simp] theorem startPulses_keptB (s : State)  : (startPulses s).keptB = s.keptB := by simp [startPulses]
@[simp] theorem noteRouted_keptB (ph : Nat) (s : State)  : (noteRouted ph s).keptB = s.keptB := by simp [noteRouted]
@[simp] theorem windowReason_keptB (bit : Nat) (s : State)  : (windowReason bit s).keptB = s.keptB := by simp [windowReason]
@[simp] theorem markFilled_keptB (s : State)  : (markFilled s).keptB = s.keptB := by simp [markFilled]
@[simp] theorem fillLast_keptB (s : State)  : (fillLast s).keptB = s.keptB := by
  unfold fillLast
  (try dsimp only)
  (repeat' split)
  all_goals (try simp)

@[simp] theorem resumePath_keptB (drop : Bool) (s : State)  : (resumePath drop s).keptB = s.keptB := by simp [resumePath]
@[simp] theorem nextSecond_keptB (freq : Nat) (s : State)  : (nextSecond freq s).keptB = s.keptB := by simp [nextSecond]
@[simp] theorem scheduleStart_keptB (at_ : Nat) (s : State)  : (scheduleStart at_ s).keptB = s.keptB := by simp [scheduleStart]
@[simp] theorem autoStart_keptB (s : State)  : (autoStart s).keptB = s.keptB := by simp [autoStart]
@[simp] theorem setContactor_keptB (k : Nat) (level : Bool) (s : State)  : (setContactor k level s).keptB = s.keptB := by simp [setContactor]
@[simp] theorem fallbackDrive_keptB (k : Nat) (s : State)  : (fallbackDrive k s).keptB = s.keptB := by
  unfold fallbackDrive
  (try dsimp only)
  (repeat' split)
  all_goals (try simp)

@[simp] theorem fallbackEval_keptB (s : State)  : (fallbackEval s).keptB = s.keptB := by simp [fallbackEval]
@[simp] theorem seqTakes_keptB (s : State)  : (seqTakes s).keptB = s.keptB := by simp [seqTakes]
@[simp] theorem faultRecord_keptB (source cls : Nat) (payload : Bytes) (s : State)  : (faultRecord source cls payload s).keptB = s.keptB := by simp [faultRecord]
@[simp] theorem raiseCE_keptB (source : Nat) (payload : Bytes) (s : State)  : (raiseCE source payload s).keptB = s.keptB := by simp [raiseCE]
@[simp] theorem runCmd_keptB (op sid tag : Nat) (body : LiveCmd → State → State) (s : State) (hbody : ∀ x0 u, (body x0 u).keptB = u.keptB) : (runCmd op sid tag body s).keptB = s.keptB := by
  unfold runCmd
  (try dsimp only)
  (repeat' split)
  all_goals (try simp [hbody])

@[simp] theorem waitFor_keptB (c : LiveCmd) (w : Wait) (work : List Nat) (s : State)  : (waitFor c w work s).keptB = s.keptB := by simp [waitFor]
@[simp] theorem pulseLanded_keptB (j : Nat) (s : State)  : (pulseLanded j s).keptB = s.keptB := by simp [pulseLanded]
@[simp] theorem landCrossed_keptB (j k : Nat) (s : State)  : (landCrossed j k s).keptB = s.keptB := by simp [landCrossed]
@[simp] theorem countAbort_keptB (point : Nat) (s : State)  : (countAbort point s).keptB = s.keptB := by simp [countAbort]
@[simp] theorem rtcStepped_keptB (n : Int) (cause : Nat) (s : State)  : (rtcStepped n cause s).keptB = s.keptB := by simp [rtcStepped]
@[simp] theorem twinEnable_keptB (on : Bool) (s : State)  : (twinEnable on s).keptB = s.keptB := by simp [twinEnable]
@[simp] theorem bumpConf_keptB (s : State)  : (bumpConf s).keptB = s.keptB := by simp [bumpConf]
@[simp] theorem commitDone_keptB (block : Nat) (reply : Bytes) (s : State)  : (commitDone block reply s).keptB = s.keptB := by simp [commitDone]
@[simp] theorem clearPouts_keptB (s : State)  : (clearPouts s).keptB = s.keptB := by simp [clearPouts]
@[simp] theorem moveSecond_keptB (a b : Nat) (s : State)  : (moveSecond a b s).keptB = s.keptB := by simp [moveSecond]
@[simp] theorem modLan_keptB (n : Nat) (f : Lantern → Lantern) (s : State)  : (modLan n f s).keptB = s.keptB := by simp [modLan]
@[simp] theorem dropLantern_keptB (n : Nat) (s : State)  : (dropLantern n s).keptB = s.keptB := by simp [dropLantern]
@[simp] theorem finishMesh_keptB (q : Nat) (s : State)  : (finishMesh q s).keptB = s.keptB := by
  unfold finishMesh
  (try dsimp only)
  (repeat' split)
  all_goals (try simp)

@[simp] theorem removeLantern_keptB (by_ n : Nat) (s : State)  : (removeLantern by_ n s).keptB = s.keptB := by simp [removeLantern]
@[simp] theorem dropPushes_keptB (pol : Nat) (s : State)  : (dropPushes pol s).keptB = s.keptB := by simp [dropPushes]
@[simp] theorem ownSettled_keptB (t : Txn) (o : Outcome) (s : State)  : (ownSettled t o s).keptB = s.keptB := by simp [ownSettled]
@[simp] theorem finishLeave_keptB (t : Txn) (s : State)  : (finishLeave t s).keptB = s.keptB := by
  unfold finishLeave
  (try dsimp only)
  (repeat' split)
  all_goals (try simp)

@[simp] theorem lateLeave_keptB (q n : Nat) (s : State)  : (lateLeave q n s).keptB = s.keptB := by simp [lateLeave]
@[simp] theorem lateMesh_keptB (q : Nat) (s : State)  : (lateMesh q s).keptB = s.keptB := by
  unfold lateMesh
  (try dsimp only)
  (repeat' split)
  all_goals (try simp)

@[simp] theorem settle_keptB (t : Txn) (o : Outcome) (s : State)  : (settle t o s).keptB = s.keptB := by
  unfold settle
  (try dsimp only)
  (repeat' split)
  all_goals (try simp)

@[simp] theorem addRetries_keptB (q k : Nat) (s : State)  : (addRetries q k s).keptB = s.keptB := by simp [addRetries]
@[simp] theorem queueFlood_keptB (f : Flood) (s : State)  : (queueFlood f s).keptB = s.keptB := by simp [queueFlood]
@[simp] theorem trimHeld_keptB (n : Nat) (s : State)  : (trimHeld n s).keptB = s.keptB := by
  unfold trimHeld
  (try dsimp only)
  (repeat' split)
  all_goals (try simp)

@[simp] theorem sendMsg_keptB (owner : Option Nat) (n type : Nat) (confirmed : Bool) (payload : Bytes) (expiry : Nat) (s : State)  : (sendMsg owner n type confirmed payload expiry s).keptB = s.keptB := by
  unfold sendMsg
  (try dsimp only)
  (repeat' split)
  all_goals (try simp)

@[simp] theorem sendOwn_keptB (n type : Nat) (payload : Bytes) (s : State)  : (sendOwn n type payload s).keptB = s.keptB := by simp [sendOwn]
@[simp] theorem loseLantern_keptB (n : Nat) (s : State)  : (loseLantern n s).keptB = s.keptB := by simp [loseLantern]
@[simp] theorem expectJoined_keptB (s : State)  : (expectJoined s).keptB = s.keptB := by simp [expectJoined]
@[simp] theorem contact_keptB (n at_ : Nat) (s : State)  : (contact n at_ s).keptB = s.keptB := by simp [contact]
@[simp] theorem sendEach_keptB (c : LiveCmd) (work : List Nat) (send : State → State) (s : State) (hsend : ∀ u, (send u).keptB = u.keptB) : (sendEach c work send s).keptB = s.keptB := by simp [sendEach, hsend]
@[simp] theorem endSpan_keptB (status detail : Nat) (s : State)  : (endSpan status detail s).keptB = s.keptB := by simp [endSpan]
@[simp] theorem staleChallenges_keptB (slot : Nat) (s : State)  : (staleChallenges slot s).keptB = s.keptB := by simp [staleChallenges]
@[simp] theorem tamperRecord_keptB (e : TamperEnt) (inBackup : Bool) (s : State)  : (tamperRecord e inBackup s).keptB = s.keptB := by simp [tamperRecord]
@[simp] theorem timeGet_keptB (c : LiveCmd) (s : State)  : (timeGet c s).keptB = s.keptB := by simp [timeGet]
@[simp] theorem fallbackTableLoad_keptB (c : LiveCmd) (s : State)  : (fallbackTableLoad c s).keptB = s.keptB := by
  unfold fallbackTableLoad
  (try dsimp only)
  (repeat' split)
  all_goals (try simp)

@[simp] theorem extendPins_keptB (s : State)  : (extendPins s).keptB = s.keptB := by simp [extendPins]
@[simp] theorem firmwareMinute_keptB (k : Nat) (tbl : Bytes) (s : State)  : (firmwareMinute k tbl s).keptB = s.keptB := by
  unfold firmwareMinute
  (try dsimp only)
  (repeat' split)
  all_goals (try simp)

@[simp] theorem fallbackMinute_keptB (s : State)  : (fallbackMinute s).keptB = s.keptB := by
  unfold fallbackMinute
  (try dsimp only)
  (repeat' split)
  all_goals (try simp)

@[simp] theorem echo_keptB (c : LiveCmd) (s : State)  : (echo c s).keptB = s.keptB := by simp [echo]
@[simp] theorem deviceInfo_keptB (c : LiveCmd) (s : State)  : (deviceInfo c s).keptB = s.keptB := by simp [deviceInfo]
@[simp] theorem awaitReset_keptB (c : LiveCmd) (type source : Nat) (s : State)  : (awaitReset c type source s).keptB = s.keptB := by simp [awaitReset]
@[simp] theorem resetCmd_keptB (c : LiveCmd) (s : State)  : (resetCmd c s).keptB = s.keptB := by
  unfold resetCmd
  (try dsimp only)
  (repeat' split)
  all_goals (try simp)

@[simp] theorem fence_keptB (c : LiveCmd) (s : State)  : (fence c s).keptB = s.keptB := by simp [fence]
@[simp] theorem noteLocked_keptB (st : Nat) (s : State)  : (noteLocked st s).keptB = s.keptB := by simp [noteLocked]
@[simp] theorem settingRead_keptB (c : LiveCmd) (s : State)  : (settingRead c s).keptB = s.keptB := by
  unfold settingRead
  (try dsimp only)
  (repeat' split)
  all_goals (try simp)

@[simp] theorem closeTransport_keptB (t : Transport) (s : State)  : (closeTransport t s).keptB = s.keptB := by
  unfold closeTransport
  (try dsimp only)
  (repeat' split)
  all_goals (try simp)

@[simp] theorem grantSession_keptB (c : LiveCmd) (n role baud : Nat) (keylessProc : Bool) (s : State)  : (grantSession c n role baud keylessProc s).keptB = s.keptB := by simp [grantSession]
@[simp] theorem refuseOpen_keptB (c : LiveCmd) (st d : Nat) (s : State)  : (refuseOpen c st d s).keptB = s.keptB := by simp [refuseOpen]
@[simp] theorem openPhase1_keptB (c : LiveCmd) (role baud : Nat) (s : State)  : (openPhase1 c role baud s).keptB = s.keptB := by
  unfold openPhase1
  (try dsimp only)
  (repeat' split)
  all_goals (try simp)

@[simp] theorem queueStatus_keptB (c : LiveCmd) (s : State)  : (queueStatus c s).keptB = s.keptB := by simp [queueStatus]
@[simp] theorem faultStatus_keptB (c : LiveCmd) (s : State)  : (faultStatus c s).keptB = s.keptB := by simp [faultStatus]
@[simp] theorem ackReply_keptB (c : LiveCmd) (s : State)  : (ackReply c s).keptB = s.keptB := by simp [ackReply]
@[simp] theorem eventRead_keptB (c : LiveCmd) (s : State)  : (eventRead c s).keptB = s.keptB := by simp [eventRead]
@[simp] theorem clearPhase1_keptB (c : LiveCmd) (s : State)  : (clearPhase1 c s).keptB = s.keptB := by simp [clearPhase1]
@[simp] theorem clearLog_keptB (q : SidChal) (c : LiveCmd) (s : State)  : (clearLog q c s).keptB = s.keptB := by simp [clearLog]
@[simp] theorem setRate_keptB (code burst refill : Nat) (s : State)  : (setRate code burst refill s).keptB = s.keptB := by simp [setRate]
@[simp] theorem eventRateSet_keptB (c : LiveCmd) (s : State)  : (eventRateSet c s).keptB = s.keptB := by simp [eventRateSet]
@[simp] theorem faultInject_keptB (c : LiveCmd) (s : State)  : (faultInject c s).keptB = s.keptB := by
  unfold faultInject
  (try dsimp only)
  (repeat' split)
  all_goals (try simp)

@[simp] theorem noteInfo_keptB (source : Nat) (info : Bytes) (s : State)  : (noteInfo source info s).keptB = s.keptB := by simp [noteInfo]
@[simp] theorem rearmWatchdog_keptB (core : Nat) (s : State)  : (rearmWatchdog core s).keptB = s.keptB := by simp [rearmWatchdog]
@[simp] theorem copyPage_keptB (s : State)  : (copyPage s).keptB = s.keptB := by simp [copyPage]
@[simp] theorem unlockPhase1_keptB (c : LiveCmd) (s : State)  : (unlockPhase1 c s).keptB = s.keptB := by simp [unlockPhase1]
@[simp] theorem modPort_keptB (k : Nat) (f : Port → Port) (s : State)  : (modPort k f s).keptB = s.keptB := by simp [modPort]
@[simp] theorem moveLanterns_keptB (k : Nat) (s : State)  : (moveLanterns k s).keptB = s.keptB := by simp [moveLanterns]
theorem suppressed_resB {k ch f : Nat} {p : Bytes} {s t : State} (e : suppressed k ch f p s = some t) : t.keptB = s.keptB := by
  unfold suppressed at e
  dsimp only at e
  split at e
  · cases e; simp
  · cases e

@[simp] theorem checkAdrift_keptB (n : Nat) (s : State)  : (checkAdrift n s).keptB = s.keptB := by
  unfold checkAdrift
  (try dsimp only)
  (repeat' split)
  all_goals (try simp)

@[simp] theorem modTxn_keptB (id : Nat) (f : Txn → Txn) (s : State)  : (modTxn id f s).keptB = s.keptB := by simp [modTxn]
@[simp] theorem takeTxn_keptB (t : Txn) (s : State)  : (takeTxn t s).keptB = s.keptB := by simp [takeTxn]
@[simp] theorem backOff_keptB (k : Nat) (s : State)  : (backOff k s).keptB = s.keptB := by simp [backOff]
@[simp] theorem endAttempt_keptB (a : Attempt) (ok : Bool) (s : State)  : (endAttempt a ok s).keptB = s.keptB := by
  unfold endAttempt
  (try dsimp only)
  (repeat' split)
  all_goals (try simp)

@[simp] theorem beginAttempt_keptB (a : Attempt) (s : State)  : (beginAttempt a s).keptB = s.keptB := by
  unfold beginAttempt
  (try dsimp only)
  (repeat' split)
  all_goals (try simp)

@[simp] theorem echoResult_keptB (k asn outcome : Nat) (s : State)  : (echoResult k asn outcome s).keptB = s.keptB := by simp [echoResult]
@[simp] theorem lostAttempt_keptB (a : Attempt) (s : State)  : (lostAttempt a s).keptB = s.keptB := by simp [lostAttempt]
@[simp] theorem failAttempts_keptB (k : Nat) (s : State)  : (failAttempts k s).keptB = s.keptB := by simp [failAttempts]
@[simp] theorem echoFeed_keptB (k asn : Nat) (kind : CellKind) (plain : Bytes) (s : State)  : (echoFeed k asn kind plain s).keptB = s.keptB := by simp [echoFeed]
@[simp] theorem feedEcho_keptB (k asn : Nat) (kind : CellKind) (plain : Bytes) (s : State)  : (feedEcho k asn kind plain s).keptB = s.keptB := by simp [feedEcho]
@[simp] theorem addSeen_keptB (origin seq : Nat) (s : State)  : (addSeen origin seq s).keptB = s.keptB := by simp [addSeen]
@[simp] theorem floodSent_keptB (f : Flood) (seq asn : Nat) (s : State)  : (floodSent f seq asn s).keptB = s.keptB := by
  unfold floodSent
  (try dsimp only)
  (repeat' split)
  all_goals (try simp)

@[simp] theorem dropFeed_keptB (f : Nat × Nat × Nat × Bytes) (s : State)  : (dropFeed f s).keptB = s.keptB := by simp [dropFeed]
@[simp] theorem staleAttempts_keptB (k : Nat) (s : State)  : (staleAttempts k s).keptB = s.keptB := by simp [staleAttempts]
@[simp] theorem securityDrop_keptB (s : State)  : (securityDrop s).keptB = s.keptB := by simp [securityDrop]
@[simp] theorem acked_keptB (a : Attempt) (nack : Bool) (s : State)  : (acked a nack s).keptB = s.keptB := by simp [acked]
@[simp] theorem respond_keptB (n seq status retries : Nat) (s : State)  : (respond n seq status retries s).keptB = s.keptB := by simp [respond]
@[simp] theorem deliver_keptB (k src : Nat) (m : Bytes) (at_ : Nat) (s : State)  : (deliver k src m at_ s).keptB = s.keptB := by
  unfold deliver
  (try dsimp only)
  (repeat' split)
  all_goals (try simp)

@[simp] theorem forwardMsg_keptB (m : Bytes) (s : State)  : (forwardMsg m s).keptB = s.keptB := by
  unfold forwardMsg
  (try dsimp only)
  (repeat' split)
  all_goals (try simp)

@[simp] theorem message_keptB (k src : Nat) (m : Bytes) (at_ : Nat) (s : State)  : (message k src m at_ s).keptB = s.keptB := by simp [message]
@[simp] theorem linkFragment_keptB (k src : Nat) (body : Bytes) (at_ : Nat) (s : State)  : (linkFragment k src body at_ s).keptB = s.keptB := by
  unfold linkFragment
  (try dsimp only)
  (repeat' split)
  all_goals (try simp)

@[simp] theorem filterDrop_keptB (s : State)  : (filterDrop s).keptB = s.keptB := by simp [filterDrop]
@[simp] theorem keepBeacon_keptB (f : RxFrame) (body : Bytes) (s : State)  : (keepBeacon f body s).keptB = s.keptB := by simp [keepBeacon]
@[simp] theorem rxJoin_keptB (f : RxFrame) (s : State)  : (rxJoin f s).keptB = s.keptB := by simp [rxJoin]
@[simp] theorem rxFlood_keptB (f : RxFrame) (s : State)  : (rxFlood f s).keptB = s.keptB := by
  unfold rxFlood
  (try dsimp only)
  (repeat' split)
  all_goals (try simp)

@[simp] theorem modAnnex_keptB (f : AnnexSt → AnnexSt) (s : State)  : (modAnnex f s).keptB = s.keptB := by simp [modAnnex]
@[simp] theorem modNet_keptB (f : AnnexNet → AnnexNet) (s : State)  : (modNet f s).keptB = s.keptB := by simp [modNet]
@[simp] theorem useAnnexCounter_keptB (idx : Nat) (s : State)  : (useAnnexCounter idx s).keptB = s.keptB := by simp [useAnnexCounter]
@[simp] theorem annexKeyAt_keptB (idx : Nat) (key : Bytes) (s : State)  : (annexKeyAt idx key s).keptB = s.keptB := by simp [annexKeyAt]
@[simp] theorem nextMacSeq_keptB (s : State)  : (nextMacSeq s).keptB = s.keptB := by simp [nextMacSeq]
@[simp] theorem annexQueue_keptB (dst expiry : Nat) (resync : Bool) (m : Bytes) (s : State)  : (annexQueue dst expiry resync m s).keptB = s.keptB := by simp [annexQueue]
@[simp] theorem annexSend_keptB (type : Nat) (confirmed resync : Bool) (payload : Bytes) (s : State)  : (annexSend type confirmed resync payload s).keptB = s.keptB := by
  unfold annexSend
  (try dsimp only)
  (repeat' split)
  all_goals (try simp)

@[simp] theorem annexReportTo_keptB (n : AnnexNet) (type life : Nat) (payload : Bytes) (s : State)  : (annexReportTo n type life payload s).keptB = s.keptB := by
  unfold annexReportTo
  (try dsimp only)
  (repeat' split)
  all_goals (try simp)

@[simp] theorem annexRespond_keptB (seq retries status : Nat) (data : Bytes) (s : State)  : (annexRespond seq retries status data s).keptB = s.keptB := by simp [annexRespond]
@[simp] theorem annexContact_keptB (src at_ : Nat) (s : State)  : (annexContact src at_ s).keptB = s.keptB := by simp [annexContact]
@[simp] theorem annexReport_keptB (s : State)  : (annexReport s).keptB = s.keptB := by
  unfold annexReport
  (try dsimp only)
  (repeat' split)
  all_goals (try simp)

@[simp] theorem annexChoose_keptB (p : AnnexCand → Bool) (s : State)  : (annexChoose p s).keptB = s.keptB := by simp [annexChoose]
@[simp] theorem annexScan_keptB (s : State)  : (annexScan s).keptB = s.keptB := by simp [annexScan]
@[simp] theorem annexJoinFrames_keptB (s0 : State) (dst last : Nat) (y0 : List Bytes) (y1 : Nat) (s : State)  : (annexJoinFrames s0 dst last y0 y1 s).1.keptB = s.keptB := by
  induction y0 generalizing y1 s with
  | nil => rfl
  | cons b l ih => unfold annexJoinFrames; simp [ih]

@[simp] theorem annexRequest_keptB (p : AnnexCand) (s : State)  : (annexRequest p s).keptB = s.keptB := by simp [annexRequest]
@[simp] theorem annexJoining_keptB (p : AnnexCand) (s : State)  : (annexJoining p s).keptB = s.keptB := by simp [annexJoining]
@[simp] theorem annexLeave_keptB (s : State)  : (annexLeave s).keptB = s.keptB := by simp [annexLeave]
@[simp] theorem annexKids_keptB (p : AnnexCand) (n : AnnexNet) (s : State)  : (annexKids p n s).keptB = s.keptB := by simp [annexKids]
@[simp] theorem annexMissed_keptB (asn : Nat) (n : AnnexNet) (s : State)  : (annexMissed asn n s).keptB = s.keptB := by simp [annexMissed]
@[simp] theorem annexEnergy_keptB (asn : Nat) (n : AnnexNet) (s : State)  : (annexEnergy asn n s).keptB = s.keptB := by simp [annexEnergy]
@[simp] theorem annexGone_keptB (s : State)  : (annexGone s).keptB = s.keptB := by simp [annexGone]
@[simp] theorem annexSecond_keptB (s : State)  : (annexSecond s).keptB = s.keptB := by
  unfold annexSecond
  (try dsimp only)
  (repeat' split)
  all_goals (try simp)

@[simp] theorem endAnnex_keptB (ok : Bool) (s : State)  : (endAnnex ok s).keptB = s.keptB := by
  unfold endAnnex
  (try dsimp only)
  (repeat' split)
  all_goals (try simp)

@[simp] theorem annexAccept_keptB (key ctr : Nat) (s : State)  : (annexAccept key ctr s).keptB = s.keptB := by simp [annexAccept]
@[simp] theorem annexInstall_keptB (m : Bytes) (s : State)  : (annexInstall m s).keptB = s.keptB := by simp [annexInstall]
@[simp] theorem annexJoined_keptB (m : Bytes) (s : State)  : (annexJoined m s).keptB = s.keptB := by
  unfold annexJoined
  (try dsimp only)
  (repeat' split)
  all_goals (try simp)

@[simp] theorem annexResponse_keptB (f : RxFrame) (s : State)  : (annexResponse f s).keptB = s.keptB := by
  unfold annexResponse
  (try dsimp only)
  (repeat' split)
  all_goals (try simp)

@[simp] theorem annexAct_keptB (at_ : Nat) (m : Bytes) (s : State)  : (annexAct at_ m s).1.keptB = s.keptB := by
  unfold annexAct
  simp [apply_ite Prod.fst]

theorem annexAct_resB {a : Nat} {m : Bytes} {u t : State} {r : Option Nat} (e : annexAct a m u = (t, r)) : t.keptB = u.keptB := by
  have k := annexAct_keptB a m u
  rw [e] at k
  exact k

@[simp] theorem annexDeliver_keptB (at_ : Nat) (m : Bytes) (s : State)  : (annexDeliver at_ m s).keptB = s.keptB := by
  unfold annexDeliver
  (try dsimp only)
  (repeat' split)
  all_goals first | rfl | (simp; done) | ((try simp); have k := annexAct_resB (by assumption); exact k.trans (by simp))

@[simp] theorem annexForward_keptB (m : Bytes) (s : State)  : (annexForward m s).keptB = s.keptB := by
  unfold annexForward
  (try dsimp only)
  (repeat' split)
  all_goals (try simp)

@[simp] theorem annexOverhear_keptB (m : Bytes) (s : State)  : (annexOverhear m s).keptB = s.keptB := by simp [annexOverhear]
@[simp] theorem annexRxBeacon_keptB (f : RxFrame) (s : State)  : (annexRxBeacon f s).keptB = s.keptB := by
  unfold annexRxBeacon
  (try dsimp only)
  (repeat' split)
  all_goals (try simp)

@[simp] theorem annexProxy_keptB (f : RxFrame) (s : State)  : (annexProxy f s).keptB = s.keptB := by
  unfold annexProxy
  (try dsimp only)
  (repeat' split)
  all_goals (try simp)

@[simp] theorem annexRxFlood_keptB (f : RxFrame) (s : State)  : (annexRxFlood f s).keptB = s.keptB := by
  unfold annexRxFlood
  (try dsimp only)
  (repeat' split)
  all_goals (try simp)

@[simp] theorem keepFrame_keptB (port at_ : Nat) (psdu : Bytes) (s : State)  : (keepFrame port at_ psdu s).keptB = s.keptB := by
  unfold keepFrame
  (try dsimp only)
  (repeat' split)
  all_goals (try simp)

@[simp] theorem activateKey_keptB (s : State)  : (activateKey s).keptB = s.keptB := by
  unfold activateKey
  (try dsimp only)
  (repeat' split)
  all_goals (try simp)

@[simp] theorem annexKeyStep_keptB (s : State)  : (annexKeyStep s).keptB = s.keptB := by
  unfold annexKeyStep
  (try dsimp only)
  (repeat' split)
  all_goals (try simp)

@[simp] theorem modCh_keptB (n : Nat) (f : LampCh → LampCh) (s : State)  : (modCh n f s).keptB = s.keptB := by simp [modCh]
@[simp] theorem modGroup_keptB (g : Nat) (f : ColSet → ColSet) (s : State)  : (modGroup g f s).keptB = s.keptB := by simp [modGroup]
@[simp] theorem refreshDuty_keptB (ns : List Nat) (s : State)  : (refreshDuty ns s).keptB = s.keptB := by simp [refreshDuty]
@[simp] theorem goManual_keptB (g : Nat) (s : State)  : (goManual g s).keptB = s.keptB := by simp [goManual]
@[simp] theorem setPoint_keptB (g : Nat) (ch : Change) (s : State)  : (setPoint g ch s).keptB = s.keptB := by simp [setPoint]
@[simp] theorem applyLocal_keptB (outs : List Nat) (ch : Change) (s : State)  : (applyLocal outs ch s).keptB = s.keptB := by simp [applyLocal]
@[simp] theorem markDirect_keptB (b : Bool) (outs : List Nat) (s : State)  : (markDirect b outs s).keptB = s.keptB := by simp [markDirect]
@[simp] theorem applyDirect_keptB (outs : List Nat) (ch : Change) (s : State)  : (applyDirect outs ch s).keptB = s.keptB := by simp [applyDirect]
@[simp] theorem applyClaim_keptB (outs : List Nat) (ch : Change) (s : State)  : (applyClaim outs ch s).keptB = s.keptB := by simp [applyClaim]
@[simp] theorem followTop_keptB (outs : List Nat) (fade curve : Nat) (s : State)  : (followTop outs fade curve s).keptB = s.keptB := by simp [followTop]
@[simp] theorem placeClaims_keptB (outs : List Nat) (cl : Claim) (s : State)  : (placeClaims outs cl s).keptB = s.keptB := by simp [placeClaims]
@[simp] theorem endClaims_keptB (outs : List Nat) (p : Claim → Bool) (s : State)  : (endClaims outs p s).keptB = s.keptB := by
  unfold endClaims
  exact keptB_foldl _ (fun u n => by dsimp only; split <;> simp) _ _

@[simp] theorem applyScene_keptB (scene : Nat) (s : State)  : (applyScene scene s).keptB = s.keptB := by
  unfold applyScene
  (try dsimp only)
  (repeat' split)
  all_goals (try simp)

@[simp] theorem applyInstant_keptB (t : Nat) (s : State)  : (applyInstant t s).keptB = s.keptB := by simp [applyInstant]
@[simp] theorem applyDue_keptB (y0 : Nat) (s : State)  : (applyDue y0 s).keptB = s.keptB := by
  induction y0 generalizing s with
  | zero => rfl
  | succ k ih => unfold applyDue; split <;> simp [ih]

@[simp] theorem latchShutdown_keptB (s : State)  : (latchShutdown s).keptB = s.keptB := by simp [latchShutdown]
@[simp] theorem lampLocally_keptB (outs : List Nat) (p : Bytes) (s : State)  : (lampLocally outs p s).keptB = s.keptB := by simp [lampLocally]
@[simp] theorem lampSet_keptB (c : LiveCmd) (s : State)  : (lampSet c s).keptB = s.keptB := by
  unfold lampSet
  (try dsimp only)
  (repeat' split)
  all_goals (try simp)

@[simp] theorem sceneDefine_keptB (c : LiveCmd) (s : State)  : (sceneDefine c s).keptB = s.keptB := by
  unfold sceneDefine
  (try dsimp only)
  (repeat' split)
  all_goals (try simp)

@[simp] theorem sceneLaunch_keptB (c : LiveCmd) (s : State)  : (sceneLaunch c s).keptB = s.keptB := by
  unfold sceneLaunch
  (try dsimp only)
  (repeat' split)
  all_goals (try simp)

@[simp] theorem calibrationLoad_keptB (c : LiveCmd) (s : State)  : (calibrationLoad c s).keptB = s.keptB := by
  unfold calibrationLoad
  (try dsimp only)
  (repeat' split)
  all_goals (try simp)

@[simp] theorem lampStatus_keptB (c : LiveCmd) (s : State)  : (lampStatus c s).keptB = s.keptB := by simp [lampStatus]
@[simp] theorem recomputeRoutes_keptB (s : State)  : (recomputeRoutes s).keptB = s.keptB := by simp [recomputeRoutes]
@[simp] theorem sendInstall_keptB (n : Nat) (b : Bytes) (s : State)  : (sendInstall n b s).keptB = s.keptB := by simp [sendInstall]
@[simp] theorem pushFragment_keptB (f : Fragment) (s : State)  : (pushFragment f s).keptB = s.keptB := by simp [pushFragment]
@[simp] theorem pushEntry_keptB (p : Pier) (e : HeadEntry) (s : State)  : (pushEntry p e s).keptB = s.keptB := by simp [pushEntry]
@[simp] theorem sendOnce_keptB (n type : Nat) (payload : Bytes) (s : State)  : (sendOnce n type payload s).keptB = s.keptB := by simp [sendOnce]
@[simp] theorem pushWatches_keptB (site : Option Nat) (s : State)  : (pushWatches site s).keptB = s.keptB := by simp [pushWatches]
@[simp] theorem pushConfigs_keptB (site : Option Nat) (s : State)  : (pushConfigs site s).keptB = s.keptB := by
  unfold pushConfigs
  (try dsimp only)
  refine keptB_foldl _ (fun u x => ?_) _ _
  (try dsimp only)
  (repeat' split)
  all_goals first | rfl | simp

@[simp] theorem pushEnds_keptB (site : Option Nat) (s : State)  : (pushEnds site s).keptB = s.keptB := by simp [pushEnds]
@[simp] theorem pushAll_keptB (site : Option Nat) (s : State)  : (pushAll site s).keptB = s.keptB := by simp [pushAll]
@[simp] theorem syncHeads_keptB (s : State)  : (syncHeads s).keptB = s.keptB := by simp [syncHeads]
@[simp] theorem newRoutes_keptB (s : State)  : (newRoutes s).keptB = s.keptB := by simp [newRoutes]
@[simp] theorem noteShortfall_keptB (s : State)  : (noteShortfall s).keptB = s.keptB := by simp [noteShortfall]
@[simp] theorem viaductSub_keptB (r : Bytes) (s : State)  : (viaductSub r s).keptB = s.keptB := by simp [viaductSub]
@[simp] theorem viaductSubs_keptB (s : State)  : (viaductSubs s).keptB = s.keptB := by simp [viaductSubs]
@[simp] theorem placementsDone_keptB (s : State)  : (placementsDone s).keptB = s.keptB := by simp [placementsDone]
@[simp] theorem evaluatePlacement_keptB (s : State)  : (evaluatePlacement s).keptB = s.keptB := by simp [evaluatePlacement]
@[simp] theorem sendSchedule_keptB (n : Nat) (s : State)  : (sendSchedule n s).keptB = s.keptB := by simp [sendSchedule]
@[simp] theorem reschedule_keptB (joining : Option Nat) (s : State)  : (reschedule joining s).keptB = s.keptB := by simp [reschedule]
@[simp] theorem claimLocal_keptB (p : Policy) (i : Nat) (a : Bytes) (elapsed : Nat) (noFade : Bool) (s : State)  : (claimLocal p i a elapsed noFade s).keptB = s.keptB := by simp [claimLocal]
@[simp] theorem claimAgain_keptB (p : Policy) (n : Nat) (s : State)  : (claimAgain p n s).keptB = s.keptB := by simp [claimAgain]
@[simp] theorem decideContactor_keptB (r : Bytes) (k : Nat) (close : Bool) (s : State)  : (decideContactor r k close s).keptB = s.keptB := by simp [decideContactor]
@[simp] theorem runAction_keptB (p : Policy) (ts : List (Option Nat)) (i : Nat) (a : Bytes) (s : State)  : (runAction p ts i a s).keptB = s.keptB := by
  unfold runAction
  split
  · refine keptB_foldl _ (fun u q => ?_) _ _
    split
    · split <;> simp
    · simp
  · simp
  · dsimp only
    split <;> simp
  · rfl

@[simp] theorem firePolicy_keptB (p : Policy) (only : Nat → Bool) (s : State)  : (firePolicy p only s).keptB = s.keptB := by
  unfold firePolicy
  (try dsimp only)
  (repeat' split)
  all_goals (try simp)

@[simp] theorem scenePolicies_keptB (scene : Nat) (s : State)  : (scenePolicies scene s).keptB = s.keptB := by simp [scenePolicies]
@[simp] theorem applyDueAll_keptB (y0 : Nat) (s : State)  : (applyDueAll y0 s).keptB = s.keptB := by
  induction y0 generalizing s with
  | zero => rfl
  | succ k ih => unfold applyDueAll; split <;> simp [ih]

@[simp] theorem lampDue_keptB (s : State)  : (lampDue s).keptB = s.keptB := by simp [lampDue]
@[simp] theorem spanTrigger_keptB (pol : Nat) (s : State)  : (spanTrigger pol s).keptB = s.keptB := by
  unfold spanTrigger
  (try dsimp only)
  (repeat' split)
  all_goals (try simp)

@[simp] theorem catchUpPolicy_keptB (s : State) (p : Policy)  : (catchUpPolicy s p).keptB = s.keptB := by
  unfold catchUpPolicy
  (try dsimp only)
  (repeat' split)
  all_goals (try simp)

@[simp] theorem firmwareTakes_keptB (s : State)  : (firmwareTakes s).keptB = s.keptB := by simp [firmwareTakes]
@[simp] theorem evaluateNow_keptB (s : State)  : (evaluateNow s).keptB = s.keptB := by simp [evaluateNow]
@[simp] theorem sensorPolicy_keptB (n sensor heading : Nat) (prev : Option Int) (v : Int) (s : State) (p : Policy)  : (sensorPolicy n sensor heading prev v s p).keptB = s.keptB := by simp [sensorPolicy]
@[simp] theorem reportSubs_keptB (n sensor : Nat) (payload : Bytes) (s : State)  : (reportSubs n sensor payload s).keptB = s.keptB := by simp [reportSubs]
@[simp] theorem sensorEvent_keptB (n : Nat) (payload : Bytes) (s : State)  : (sensorEvent n payload s).keptB = s.keptB := by simp [sensorEvent]
@[simp] theorem meterConditions_keptB (s : State)  : (meterConditions s).keptB = s.keptB := by
  unfold meterConditions
  refine keptB_foldl _ (fun u n => ?_) _ _
  dsimp only
  split
  · rfl
  · split <;> simp

@[simp] theorem endPolicyClaims_keptB (pol : Nat) (s : State)  : (endPolicyClaims pol s).keptB = s.keptB := by
  unfold endPolicyClaims
  (try dsimp only)
  (repeat' split)
  all_goals (try simp)

@[simp] theorem askEvaluation_keptB (s : State)  : (askEvaluation s).keptB = s.keptB := by simp [askEvaluation]
@[simp] theorem policyLoad_keptB (c : LiveCmd) (s : State)  : (policyLoad c s).keptB = s.keptB := by
  unfold policyLoad
  (try dsimp only)
  (repeat' split)
  all_goals (try simp)

@[simp] theorem removePolicy_keptB (id : Nat) (s : State)  : (removePolicy id s).keptB = s.keptB := by simp [removePolicy]
@[simp] theorem policyRemove_keptB (c : LiveCmd) (s : State)  : (policyRemove c s).keptB = s.keptB := by simp [policyRemove]
@[simp] theorem policyList_keptB (c : LiveCmd) (s : State)  : (policyList c s).keptB = s.keptB := by simp [policyList]
@[simp] theorem placementRead_keptB (c : LiveCmd) (s : State)  : (placementRead c s).keptB = s.keptB := by simp [placementRead]
@[simp] theorem placementPin_keptB (c : LiveCmd) (s : State)  : (placementPin c s).keptB = s.keptB := by
  unfold placementPin
  (try dsimp only)
  (repeat' split)
  all_goals (try simp)

@[simp] theorem placementHold_keptB (c : LiveCmd) (s : State)  : (placementHold c s).keptB = s.keptB := by simp [placementHold]
@[simp] theorem sensorSubscribe_keptB (c : LiveCmd) (s : State)  : (sensorSubscribe c s).keptB = s.keptB := by
  unfold sensorSubscribe
  (try dsimp only)
  (repeat' split)
  all_goals (try simp)

@[simp] theorem imageStage_keptB (c : LiveCmd) (s : State)  : (imageStage c s).keptB = s.keptB := by
  unfold imageStage
  (try simp)
  (repeat' (split <;> try simp))

@[simp] theorem setTarget_keptB (img n code : Nat) (s : State)  : (setTarget img n code s).keptB = s.keptB := by simp [setTarget]
@[simp] theorem announceCache_keptB (r : Rollout) (i : LanImage) (m : Nat) (s : State)  : (announceCache r i m s).keptB = s.keptB := by simp [announceCache]
@[simp] theorem visitRollout_keptB (img : Nat) (s : State) (n : Nat)  : (visitRollout img s n).keptB = s.keptB := by
  unfold visitRollout
  (try dsimp only)
  (repeat' split)
  all_goals (try simp)

@[simp] theorem finishRollouts_keptB (s : State)  : (finishRollouts s).keptB = s.keptB := by simp [finishRollouts]
@[simp] theorem progressRollouts_keptB (s : State)  : (progressRollouts s).keptB = s.keptB := by simp [progressRollouts]
@[simp] theorem imageRollout_keptB (c : LiveCmd) (s : State)  : (imageRollout c s).keptB = s.keptB := by
  unfold imageRollout
  (try dsimp only)
  (repeat' split)
  all_goals (try simp)

@[simp] theorem rolloutCapability_keptB (n : Nat) (s : State)  : (rolloutCapability n s).keptB = s.keptB := by
  unfold rolloutCapability
  simp only [progressRollouts_keptB]
  refine keptB_foldl _ (fun u n => ?_) _ _
  split
  · split <;> simp
  · rfl

@[simp] theorem imageStatus_keptB (n : Nat) (p : Bytes) (s : State)  : (imageStatus n p s).keptB = s.keptB := by
  unfold imageStatus
  (try dsimp only)
  (repeat' split)
  all_goals (try simp)

@[simp] theorem chunkRequest_keptB (n : Nat) (p : Bytes) (s : State)  : (chunkRequest n p s).keptB = s.keptB := by
  unfold chunkRequest
  (try dsimp only)
  (repeat' split)
  all_goals (try simp)

@[simp] theorem spanStart_keptB (c : LiveCmd) (s : State)  : (spanStart c s).keptB = s.keptB := by
  unfold spanStart
  (try dsimp only)
  (repeat' split)
  all_goals (try simp)

@[simp] theorem stopSpan_keptB (s : State)  : (stopSpan s).keptB = s.keptB := by simp [stopSpan]
@[simp] theorem spanStop_keptB (c : LiveCmd) (s : State)  : (spanStop c s).keptB = s.keptB := by simp [spanStop]
@[simp] theorem lanternAdmit_keptB (c : LiveCmd) (s : State)  : (lanternAdmit c s).keptB = s.keptB := by
  unfold lanternAdmit
  (try simp)
  (repeat' (split <;> try simp))

@[simp] theorem lanternRemove_keptB (c : LiveCmd) (s : State)  : (lanternRemove c s).keptB = s.keptB := by simp [lanternRemove]
@[simp] theorem lanternQuery_keptB (c : LiveCmd) (s : State)  : (lanternQuery c s).keptB = s.keptB := by
  unfold lanternQuery
  (try dsimp only)
  (repeat' split)
  all_goals (try simp)

@[simp] theorem lanternSend_keptB (c : LiveCmd) (s : State)  : (lanternSend c s).keptB = s.keptB := by simp [lanternSend]
@[simp] theorem floodSend_keptB (c : LiveCmd) (s : State)  : (floodSend c s).keptB = s.keptB := by simp [floodSend]
@[simp] theorem topologyRead_keptB (c : LiveCmd) (s : State)  : (topologyRead c s).keptB = s.keptB := by simp [topologyRead]
@[simp] theorem regionLoad_keptB (c : LiveCmd) (s : State)  : (regionLoad c s).keptB = s.keptB := by
  unfold regionLoad
  (try dsimp only)
  (repeat' split)
  all_goals (try simp)

@[simp] theorem dwellStatus_keptB (c : LiveCmd) (s : State)  : (dwellStatus c s).keptB = s.keptB := by
  unfold dwellStatus
  (try dsimp only)
  (repeat' split)
  all_goals (try simp)

@[simp] theorem withMsg_keptB (type origin : Nat) (f : InMsg → State → State) (s : State) (hf : ∀ x0 u, (f x0 u).keptB = u.keptB) : (withMsg type origin f s).keptB = s.keptB := by
  unfold withMsg
  (try dsimp only)
  (repeat' split)
  all_goals (try simp [hf])

@[simp] theorem fromLantern_keptB (type n : Nat) (f : Lantern → InMsg → State → State) (s : State) (hf : ∀ x0 x1 u, (f x0 x1 u).keptB = u.keptB) : (fromLantern type n f s).keptB = s.keptB := by
  unfold fromLantern
  exact withMsg_keptB _ _ _ _ (fun m u => by split <;> simp [hf])

@[simp] theorem joinRefused_keptB (eui reason proxy : Nat) (s : State)  : (joinRefused eui reason proxy s).keptB = s.keptB := by simp [joinRefused]
@[simp] theorem sendKey_keptB (phase asn n : Nat) (s : State)  : (sendKey phase asn n s).keptB = s.keptB := by simp [sendKey]
@[simp] theorem pushScenes_keptB (n : Nat) (s : State)  : (pushScenes n s).keptB = s.keptB := by simp [pushScenes]
@[simp] theorem welcome_keptB (n : Nat) (s : State)  : (welcome n s).keptB = s.keptB := by
  unfold welcome
  (try dsimp only)
  (repeat' split)
  all_goals (try simp)

@[simp] theorem capability_keptB (n : Nat) (l : Lantern) (m : InMsg) (s : State)  : (capability n l m s).keptB = s.keptB := by simp [capability]
@[simp] theorem neighbourReport_keptB (n : Nat) (l : Lantern) (m : InMsg) (s : State)  : (neighbourReport n l m s).keptB = s.keptB := by
  unfold neighbourReport
  (try dsimp only)
  (repeat' split)
  all_goals (try simp)

@[simp] theorem clearSilent_keptB (n : Nat) (s : State)  : (clearSilent n s).keptB = s.keptB := by
  unfold clearSilent
  (try dsimp only)
  (repeat' split)
  all_goals (try simp)

@[simp] theorem missBeacon_keptB (n cyc : Nat) (s : State)  : (missBeacon n cyc s).keptB = s.keptB := by simp [missBeacon]
@[simp] theorem beaconMiss_keptB (n : Nat) (m : InMsg) (s : State)  : (beaconMiss n m s).keptB = s.keptB := by simp [beaconMiss]
@[simp] theorem annexHeard_keptB (c : AnnexCand) (s : State)  : (annexHeard c s).keptB = s.keptB := by simp [annexHeard]
@[simp] theorem response_keptB (n : Nat) (m : InMsg) (s : State)  : (response n m s).keptB = s.keptB := by
  unfold response
  (try dsimp only)
  (repeat' split)
  all_goals (try simp)

@[simp] theorem fragmentInventory_keptB (n : Nat) (m : InMsg) (s : State)  : (fragmentInventory n m s).keptB = s.keptB := by simp [fragmentInventory]
@[simp] theorem saveSecond_keptB (s : State)  : (saveSecond s).keptB = s.keptB := by simp [saveSecond]
@[simp] theorem restartSecond_keptB (s : State)  : (restartSecond s).keptB = s.keptB := by
  unfold restartSecond
  (try dsimp only)
  (repeat' split)
  all_goals (try simp)

@[simp] theorem windowSecond_keptB (s : State)  : (windowSecond s).keptB = s.keptB := by
  unfold windowSecond
  (try dsimp only)
  (repeat' split)
  all_goals (try simp)

@[simp] theorem noteResult_keptB (r : ReconRes) (need : Nat) (s : State)  : (noteResult r need s).keptB = s.keptB := by simp [noteResult]
@[simp] theorem reconcile_keptB (w : ReconWin) (s : State)  : (reconcile w s).keptB = s.keptB := by simp [reconcile]
@[simp] theorem reconcilePrev_keptB (s : State)  : (reconcilePrev s).keptB = s.keptB := by
  unfold reconcilePrev
  (try dsimp only)
  (repeat' split)
  all_goals (try simp)

@[simp] theorem windowEnds_keptB (c : Nat) (s : State)  : (windowEnds c s).keptB = s.keptB := by simp [windowEnds]
@[simp] theorem windowBegins_keptB (c : Nat) (s : State)  : (windowBegins c s).keptB = s.keptB := by simp [windowBegins]
@[simp] theorem windowsStop_keptB (s : State)  : (windowsStop s).keptB = s.keptB := by
  unfold windowsStop
  (try dsimp only)
  (repeat' split)
  all_goals (try simp)

@[simp] theorem modWindow_keptB (start : Nat) (f : ReconWin → ReconWin) (s : State)  : (modWindow start f s).keptB = s.keptB := by simp [modWindow]
@[simp] theorem energyAggregate_keptB (head : Nat) (p : Bytes) (s : State)  : (energyAggregate head p s).keptB = s.keptB := by simp [energyAggregate]
@[simp] theorem standbyWindow_keptB (s : State)  : (standbyWindow s).keptB = s.keptB := by
  unfold standbyWindow
  (try dsimp only)
  (repeat' split)
  all_goals (try simp)

@[simp] theorem meterRead_keptB (c : LiveCmd) (s : State)  : (meterRead c s).keptB = s.keptB := by simp [meterRead]
@[simp] theorem energyRead_keptB (c : LiveCmd) (s : State)  : (energyRead c s).keptB = s.keptB := by simp [energyRead]
@[simp] theorem reconcileRead_keptB (c : LiveCmd) (s : State)  : (reconcileRead c s).keptB = s.keptB := by simp [reconcileRead]
@[simp] theorem meterCalibrate_keptB (c : LiveCmd) (s : State)  : (meterCalibrate c s).keptB = s.keptB := by simp [meterCalibrate]
@[simp] theorem selftestResult_keptB (c : LiveCmd) (s : State)  : (selftestResult c s).keptB = s.keptB := by
  unfold selftestResult
  (try dsimp only)
  (repeat' split)
  all_goals (try simp)

@[simp] theorem sendHealth_keptB (s : State)  : (sendHealth s).keptB = s.keptB := by simp [sendHealth]
@[simp] theorem sendHello_keptB (s : State)  : (sendHello s).keptB = s.keptB := by simp [sendHello]
@[simp] theorem heard_keptB (s : State)  : (heard s).keptB = s.keptB := by simp [heard]
@[simp] theorem frameBad_keptB (s : State)  : (frameBad s).keptB = s.keptB := by simp [frameBad]
@[simp] theorem onLink_keptB (type : Nat) (f : LinkIn) (k : State → State) (s : State) (hk : ∀ u, (k u).keptB = u.keptB) : (onLink type f k s).keptB = s.keptB := by simp [onLink, hk]
@[simp] theorem assertLease_keptB (cause : Nat) (s : State)  : (assertLease cause s).keptB = s.keptB := by simp [assertLease]
@[simp] theorem linkUp_keptB (h : PeerHello) (s : State)  : (linkUp h s).keptB = s.keptB := by simp [linkUp]
@[simp] theorem trainLink_keptB (s : State)  : (trainLink s).keptB = s.keptB := by
  unfold trainLink
  (try dsimp only)
  (repeat' split)
  all_goals (try simp)

@[simp] theorem twinHello_keptB (f : LinkIn) (s : State)  : (twinHello f s).keptB = s.keptB := by simp [twinHello]
@[simp] theorem inSequence_keptB (type : Nat) (f : LinkIn) (ok : State → State) (s : State) (hok : ∀ u, (ok u).keptB = u.keptB) : (inSequence type f ok s).keptB = s.keptB := by
  unfold inSequence
  (try dsimp only)
  (repeat' split)
  all_goals (try simp [hok])

@[simp] theorem nak_keptB (f : LinkIn) (s : State)  : (nak f s).keptB = s.keptB := by simp [nak]
@[simp] theorem renewAndCopy_keptB (cycle : Nat) (step : Int) (s : State)  : (renewAndCopy cycle step s).keptB = s.keptB := by simp [renewAndCopy]
@[simp] theorem copySegment_keptB (f : LinkIn) (s : State)  : (copySegment f s).keptB = s.keptB := by
  unfold copySegment
  exact inSequence_keptB _ _ _ _ (fun _ => rfl)

@[simp] theorem yieldDone_keptB (cycle : Nat) (s : State)  : (yieldDone cycle s).keptB = s.keptB := by simp [yieldDone]
@[simp] theorem standbyCycle_keptB (s : State)  : (standbyCycle s).keptB = s.keptB := by simp [standbyCycle]
@[simp] theorem journalFrame_keptB (f : LinkIn) (s : State)  : (journalFrame f s).keptB = s.keptB := by simp [journalFrame]
@[simp] theorem journalAck_keptB (f : LinkIn) (s : State)  : (journalAck f s).keptB = s.keptB := by
  unfold journalAck
  (try dsimp only)
  (repeat' split)
  all_goals (try simp)

@[simp] theorem journalAccept_keptB (c : LiveCmd) (s : State)  : (journalAccept c s).keptB = s.keptB := by simp [journalAccept]
@[simp] theorem echoFed_keptB (f : LinkIn) (s : State)  : (echoFed f s).keptB = s.keptB := by simp [echoFed]
@[simp] theorem echoDone_keptB (f : LinkIn) (s : State)  : (echoDone f s).keptB = s.keptB := by
  unfold echoDone
  (try dsimp only)
  (repeat' split)
  all_goals (try simp)

@[simp] theorem timeExchange_keptB (s : State)  : (timeExchange s).keptB = s.keptB := by simp [timeExchange]
@[simp] theorem resumeMeter_keptB (img : CopyImage) (s : State)  : (resumeMeter img s).keptB = s.keptB := by simp [resumeMeter]
@[simp] theorem advanceSeries_keptB (s : State)  : (advanceSeries s).keptB = s.keptB := by simp [advanceSeries]
@[simp] theorem reportUnknown_keptB (us : List JournalEnt) (s : State)  : (reportUnknown us s).keptB = s.keptB := by simp [reportUnknown]
@[simp] theorem takeoverWindow_keptB (s : State)  : (takeoverWindow s).keptB = s.keptB := by simp [takeoverWindow]
@[simp] theorem arbitrate_keptB (s : State)  : (arbitrate s).keptB = s.keptB := by
  unfold arbitrate
  (try dsimp only)
  (repeat' split)
  all_goals (try simp)

@[simp] theorem noteUnhealthy_keptB (s : State)  : (noteUnhealthy s).keptB = s.keptB := by simp [noteUnhealthy]
@[simp] theorem twinStatus_keptB (c : LiveCmd) (s : State)  : (twinStatus c s).keptB = s.keptB := by simp [twinStatus]
@[simp] theorem leaseYield_keptB (c : LiveCmd) (s : State)  : (leaseYield c s).keptB = s.keptB := by simp [leaseYield]
@[simp] theorem countRefusals_keptB (l : List Nat) (s : State)  : (countRefusals l s).keptB = s.keptB := by simp [countRefusals]
@[simp] theorem countEntry_keptB (q : PState) (s : State)  : (countEntry q s).keptB = s.keptB := by simp [countEntry]
@[simp] theorem beginEntry_keptB (s : State)  : (beginEntry s).keptB = s.keptB := by simp [beginEntry]
@[simp] theorem chooseState_keptB (y0 : List PState) (s : State)  : (chooseState y0 s).keptB = s.keptB := by
  induction y0 generalizing s with
  | nil => rfl
  | cons q l ih =>
    unfold chooseState
    dsimp only
    (repeat' split) <;> simp only [ih, countRefusals_keptB, beginEntry_keptB, countEntry_keptB, setPState_keptB, keptB_draw]

@[simp] theorem meterResumes_keptB (s : State)  : (meterResumes s).keptB = s.keptB := by
  unfold meterResumes
  (try dsimp only)
  (repeat' split)
  all_goals (try simp)

@[simp] theorem checkinTick_keptB (s : State)  : (checkinTick s).keptB = s.keptB := by simp [checkinTick]
@[simp] theorem powerStatus_keptB (c : LiveCmd) (s : State)  : (powerStatus c s).keptB = s.keptB := by simp [powerStatus]
@[simp] theorem powerRefusalsRead_keptB (c : LiveCmd) (s : State)  : (powerRefusalsRead c s).keptB = s.keptB := by simp [powerRefusalsRead]
@[simp] theorem modSlot_keptB (k : Nat) (f : SlotImg → SlotImg) (s : State)  : (modSlot k f s).keptB = s.keptB := by simp [modSlot]
@[simp] theorem endFragments_keptB (s : State)  : (endFragments s).keptB = s.keptB := by simp [endFragments]
@[simp] theorem newSessionUpd_keptB (h : Bytes) (target : Nat) (s : State)  : (newSessionUpd h target s).keptB = s.keptB := by simp [newSessionUpd]
@[simp] theorem programFrag_keptB (x : UpdSession) (i : Nat) (d : Bytes) (s : State)  : (programFrag x i d s).keptB = s.keptB := by simp [programFrag]
@[simp] theorem storeFragment_keptB (c : LiveCmd) (s : State)  : (storeFragment c s).keptB = s.keptB := by
  unfold storeFragment
  (try dsimp only)
  (repeat' split)
  all_goals (try simp)

@[simp] theorem updateFragment_keptB (c : LiveCmd) (s : State)  : (updateFragment c s).keptB = s.keptB := by simp [updateFragment]
@[simp] theorem sectorErased_keptB (s : State)  : (sectorErased s).keptB = s.keptB := by
  unfold sectorErased
  (try dsimp only)
  (repeat' split)
  all_goals (try simp)

@[simp] theorem verifyDone_keptB (s : State)  : (verifyDone s).keptB = s.keptB := by
  unfold verifyDone
  (try dsimp only)
  (repeat' split)
  all_goals (try simp)

@[simp] theorem updateStatus_keptB (c : LiveCmd) (s : State)  : (updateStatus c s).keptB = s.keptB := by simp [updateStatus]
@[simp] theorem migrate_keptB (s : State)  : (migrate s).keptB = s.keptB := by
  unfold migrate
  (try dsimp only)
  (repeat' split)
  all_goals (try simp)

@[simp] theorem restoreTotals_keptB (s : State)  : (restoreTotals s).keptB = s.keptB := by
  unfold restoreTotals
  (try dsimp only)
  (repeat' split)
  all_goals (try simp)

@[simp] theorem restartEvents_keptB (cold : Bool) (s : State)  : (restartEvents cold s).keptB = s.keptB := by simp [restartEvents]
@[simp] theorem resetCause_keptB (s : State)  : (resetCause s).keptB = s.keptB := by simp [resetCause]
@[simp] theorem testFails_keptB (origin : Nat) (l : List (TestUnit × List (Nat × Nat))) (s : State)  : (testFails origin l s).keptB = s.keptB := by simp [testFails]
@[simp] theorem writeLatch_keptB (s : State)  : (writeLatch s).keptB = s.keptB := by simp [writeLatch]
@[simp] theorem modRecovery_keptB (f : Recovery → Recovery) (s : State)  : (modRecovery f s).keptB = s.keptB := by simp [modRecovery]
@[simp] theorem romBegin_keptB (h : Bytes) (s : State)  : (romBegin h s).1.keptB = s.keptB := by
  unfold romBegin
  (try dsimp only)
  (repeat' split)
  all_goals (try simp)

@[simp] theorem romData_keptB (p : Bytes) (s : State)  : (romData p s).1.keptB = s.keptB := by
  unfold romData
  (try dsimp only)
  (repeat' split)
  all_goals (try simp)

@[simp] theorem refusePacket_keptB (t : Transport) (sid : Option Nat) (b : Bytes) (st d : Nat) (s : State)  : (refusePacket t sid b st d s).keptB = s.keptB := by
  unfold refusePacket
  (try dsimp only)
  (repeat' split)
  all_goals (try simp)

@[simp] theorem safeReply_keptB (t : Transport) (charged : Bool) (b : Bytes) (st d seq : Nat) (s : State)  : (safeReply t charged b st d seq s).keptB = s.keptB := by
  unfold safeReply
  (try dsimp only)
  (repeat' split)
  all_goals (try simp)

@[simp] theorem safeAnswer_keptB (t : Transport) (charged : Bool) (b : Bytes) (s : State)  : (safeAnswer t charged b s).keptB = s.keptB := by
  unfold safeAnswer
  (try dsimp only)
  (repeat' split)
  all_goals (try simp)

@[simp] theorem enqueue_keptB (e : InEntry) (s : State)  : (enqueue e s).keptB = s.keptB := by simp [enqueue]
@[simp] theorem offerOn_keptB (t : Transport) (n : Nat) (x : Session) (b : Bytes) (s : State)  : (offerOn t n x b s).keptB = s.keptB := by simp [offerOn]
@[simp] theorem offerLocal_keptB (t : Transport) (b : Bytes) (s : State)  : (offerLocal t b s).keptB = s.keptB := by
  unfold offerLocal
  (try dsimp only)
  (repeat' split)
  all_goals (try simp)

@[simp] theorem dropOut_keptB (t : Transport) (sid : Option Nat) (p : OutPkt) (s : State)  : (dropOut t sid p s).keptB = s.keptB := by
  unfold dropOut
  (try dsimp only)
  (repeat' split)
  all_goals (try simp)

@[simp] theorem modWin_keptB (f : Window → Window) (s : State)  : (modWin f s).keptB = s.keptB := by simp [modWin]
@[simp] theorem writeStatus_keptB (v : Nat) (s : State)  : (writeStatus v s).keptB = s.keptB := by simp [writeStatus]
@[simp] theorem writeCause_keptB (v : Nat) (s : State)  : (writeCause v s).keptB = s.keptB := by simp [writeCause]
@[simp] theorem ethDrop_keptB (s : State)  : (ethDrop s).keptB = s.keptB := by simp [ethDrop]
@[simp] theorem takePacket_keptB (n : Nat) (b : Bytes) (s : State)  : (takePacket n b s).keptB = s.keptB := by
  unfold takePacket
  (try dsimp only)
  (repeat' split)
  all_goals (try simp)

@[simp] theorem modChan_keptB (n : Nat) (f : EthChan → EthChan) (s : State)  : (modChan n f s).keptB = s.keptB := by simp [modChan]
@[simp] theorem takeHeld_keptB (n : Nat) (y0 : Nat) (s : State)  : (takeHeld n y0 s).keptB = s.keptB := by
  induction y0 generalizing s with
  | zero => rfl
  | succ k ih => unfold takeHeld; (repeat' split) <;> simp [ih]

@[simp] theorem dataIn_keptB (peer : Nat) (p : Bytes) (s : State)  : (dataIn peer p s).keptB = s.keptB := by
  unfold dataIn
  (try dsimp only)
  (repeat' split)
  all_goals (try simp)

@[simp] theorem reorderTimeout_keptB (n : Nat) (s : State)  : (reorderTimeout n s).keptB = s.keptB := by
  unfold reorderTimeout
  (try dsimp only)
  (repeat' split)
  all_goals (try simp)

@[simp] theorem supersede_keptB (b a : LiveCmd) (s : State)  : (supersede b a s).keptB = s.keptB := by simp [supersede]
@[simp] theorem supersedeAll_keptB (b : LiveCmd) (s : State)  : (supersedeAll b s).keptB = s.keptB := by simp [supersedeAll]
@[simp] theorem acceptPacket_keptB (t : Transport) (sid : Option Nat) (b : Bytes) (s : State)  : (acceptPacket t sid b s).keptB = s.keptB := by
  unfold acceptPacket
  (try dsimp only)
  (repeat' split)
  all_goals (try simp)

@[simp] theorem intakeService_keptB (s : State)  : (intakeService s).keptB = s.keptB := by
  unfold intakeService
  (try dsimp only)
  (repeat' split)
  all_goals (try simp)

@[simp] theorem dropUntaken_keptB (q : Nat) (s : State)  : (dropUntaken q s).keptB = s.keptB := by simp [dropUntaken]
@[simp] theorem releaseTaken_keptB (q : Nat) (s : State)  : (releaseTaken q s).keptB = s.keptB := by simp [releaseTaken]
@[simp] theorem dropTxns_keptB (q : Nat) (s : State)  : (dropTxns q s).keptB = s.keptB := by simp [dropTxns]
@[simp] theorem oweLate_keptB (c : LiveCmd) (mesh : Bool) (s : State)  : (oweLate c mesh s).keptB = s.keptB := by simp [oweLate]
@[simp] theorem timeout_keptB (c : LiveCmd) (s : State)  : (timeout c s).keptB = s.keptB := by
  unfold timeout
  (try dsimp only)
  (repeat' split)
  all_goals (try simp)

@[simp] theorem loseRecord_keptB (index : Nat) (s : State)  : (loseRecord index s).keptB = s.keptB := by simp [loseRecord]
@[simp] theorem loseTotals_keptB (copy : Nat) (s : State)  : (loseTotals copy s).keptB = s.keptB := by simp [loseTotals]
@[simp] theorem newNetworkKey_keptB (s : State)  : (newNetworkKey s).keptB = s.keptB := by simp [newNetworkKey]
@[simp] theorem keyUpdate_keptB (c : Nat) (s : State)  : (keyUpdate c s).keptB = s.keptB := by simp [keyUpdate]
@[simp] theorem beginSpan_keptB (t : Nat) (s : State)  : (beginSpan t s).keptB = s.keptB := by simp [beginSpan]
@[simp] theorem startDone_keptB (s : State)  : (startDone s).keptB = s.keptB := by simp [startDone]
@[simp] theorem countMisses_keptB (ended : Nat) (s : State)  : (countMisses ended s).keptB = s.keptB := by simp [countMisses]
@[simp] theorem countRouteless_keptB (s : State)  : (countRouteless s).keptB = s.keptB := by simp [countRouteless]
@[simp] theorem ownExpiry_keptB (s : State)  : (ownExpiry s).keptB = s.keptB := by simp [ownExpiry]
@[simp] theorem guards_keptB (s : State)  : (guards s).keptB = s.keptB := by simp [guards]
@[simp] theorem epochFlood_keptB (s : State)  : (epochFlood s).keptB = s.keptB := by simp [epochFlood]
@[simp] theorem placementDue_keptB (c : Nat) (s : State)  : (placementDue c s).keptB = s.keptB := by simp [placementDue]
@[simp] theorem saveTable_keptB (c : Nat) (s : State)  : (saveTable c s).keptB = s.keptB := by simp [saveTable]
@[simp] theorem countPorts_keptB (s : State)  : (countPorts s).keptB = s.keptB := by simp [countPorts]
@[simp] theorem cycleDuties_keptB (c : Nat) (s : State)  : (cycleDuties c s).keptB = s.keptB := by simp [cycleDuties]
@[simp] theorem tickWatchdogs_keptB (s : State)  : (tickWatchdogs s).keptB = s.keptB := by simp [tickWatchdogs]
@[simp] theorem tickHealth_keptB (s : State)  : (tickHealth s).keptB = s.keptB := by simp [tickHealth]
theorem execFallbackTableLoad_keptB (sid : Nat) (tag : Nat) (s u : State) (h : execFallbackTableLoad sid tag s = .next u) : u.keptB = s.keptB := by
  unfold execFallbackTableLoad at h
  cases h
  simp

theorem execSpanStart_keptB (sid : Nat) (tag : Nat) (s u : State) (h : execSpanStart sid tag s = .next u) : u.keptB = s.keptB := by
  unfold execSpanStart at h
  cases h
  simp

theorem execSpanStop_keptB (sid : Nat) (tag : Nat) (s u : State) (h : execSpanStop sid tag s = .next u) : u.keptB = s.keptB := by
  unfold execSpanStop at h
  cases h
  simp

theorem execLanternAdmit_keptB (sid : Nat) (tag : Nat) (s u : State) (h : execLanternAdmit sid tag s = .next u) : u.keptB = s.keptB := by
  unfold execLanternAdmit at h
  cases h
  simp

theorem execLanternRemove_keptB (sid : Nat) (tag : Nat) (s u : State) (h : execLanternRemove sid tag s = .next u) : u.keptB = s.keptB := by
  unfold execLanternRemove at h
  cases h
  simp

theorem execLanternQuery_keptB (sid : Nat) (tag : Nat) (s u : State) (h : execLanternQuery sid tag s = .next u) : u.keptB = s.keptB := by
  unfold execLanternQuery at h
  cases h
  simp

theorem execLanternSend_keptB (sid : Nat) (tag : Nat) (s u : State) (h : execLanternSend sid tag s = .next u) : u.keptB = s.keptB := by
  unfold execLanternSend at h
  cases h
  simp

theorem execFloodSend_keptB (sid : Nat) (tag : Nat) (s u : State) (h : execFloodSend sid tag s = .next u) : u.keptB = s.keptB := by
  unfold execFloodSend at h
  cases h
  simp

theorem execRegionProfileLoad_keptB (sid : Nat) (tag : Nat) (s u : State) (h : execRegionProfileLoad sid tag s = .next u) : u.keptB = s.keptB := by
  unfold execRegionProfileLoad at h
  cases h
  simp

theorem execPolicyLoad_keptB (sid : Nat) (tag : Nat) (s u : State) (h : execPolicyLoad sid tag s = .next u) : u.keptB = s.keptB := by
  unfold execPolicyLoad at h
  cases h
  simp

theorem execPolicyRemove_keptB (sid : Nat) (tag : Nat) (s u : State) (h : execPolicyRemove sid tag s = .next u) : u.keptB = s.keptB := by
  unfold execPolicyRemove at h
  cases h
  simp

theorem execPlacementPin_keptB (sid : Nat) (tag : Nat) (s u : State) (h : execPlacementPin sid tag s = .next u) : u.keptB = s.keptB := by
  unfold execPlacementPin at h
  cases h
  simp

theorem execPlacementHold_keptB (sid : Nat) (tag : Nat) (s u : State) (h : execPlacementHold sid tag s = .next u) : u.keptB = s.keptB := by
  unfold execPlacementHold at h
  cases h
  simp

theorem execSensorSubscribe_keptB (sid : Nat) (tag : Nat) (s u : State) (h : execSensorSubscribe sid tag s = .next u) : u.keptB = s.keptB := by
  unfold execSensorSubscribe at h
  cases h
  simp

theorem execLampSet_keptB (sid : Nat) (tag : Nat) (s u : State) (h : execLampSet sid tag s = .next u) : u.keptB = s.keptB := by
  unfold execLampSet at h
  cases h
  simp

theorem execSceneDefine_keptB (sid : Nat) (tag : Nat) (s u : State) (h : execSceneDefine sid tag s = .next u) : u.keptB = s.keptB := by
  unfold execSceneDefine at h
  cases h
  simp

theorem execSceneLaunch_keptB (sid : Nat) (tag : Nat) (s u : State) (h : execSceneLaunch sid tag s = .next u) : u.keptB = s.keptB := by
  unfold execSceneLaunch at h
  cases h
  simp

theorem execCalibrationLoad_keptB (sid : Nat) (tag : Nat) (s u : State) (h : execCalibrationLoad sid tag s = .next u) : u.keptB = s.keptB := by
  unfold execCalibrationLoad at h
  cases h
  simp

theorem execLanternImageRollout_keptB (sid : Nat) (tag : Nat) (s u : State) (h : execLanternImageRollout sid tag s = .next u) : u.keptB = s.keptB := by
  unfold execLanternImageRollout at h
  cases h
  simp

theorem execIntakeService_keptB  (s u : State) (h : execIntakeService  s = .next u) : u.keptB = s.keptB := by
  unfold execIntakeService at h
  cases h
  simp

theorem execDeadlineExpiry_keptB (sid : Nat) (tag : Nat) (s u : State) (h : execDeadlineExpiry sid tag s = .next u) : u.keptB = s.keptB := by
  unfold execDeadlineExpiry at h
  cases h
  (try dsimp only)
  (repeat' split)
  all_goals (try simp)

theorem execLateAckWindowExpiry_keptB (seq : Nat) (s u : State) (h : execLateAckWindowExpiry seq s = .next u) : u.keptB = s.keptB := by
  unfold execLateAckWindowExpiry at h
  cases h
  simp

theorem execPierHeadSilent_keptB (lantern : Nat) (s u : State) (h : execPierHeadSilent lantern s = .next u) : u.keptB = s.keptB := by
  unfold execPierHeadSilent at h
  cases h
  (try dsimp only)
  (repeat' split)
  all_goals (try simp)

theorem execHolderBeaconsMissed_keptB (heard : Bool) (s u : State) (h : execHolderBeaconsMissed heard s = .next u) : u.keptB = s.keptB := by
  unfold execHolderBeaconsMissed at h
  cases h
  simp

theorem execRendezvousListenEnd_keptB (lantern : Nat) (s u : State) (h : execRendezvousListenEnd lantern s = .next u) : u.keptB = s.keptB := by
  unfold execRendezvousListenEnd at h
  cases h
  (try dsimp only)
  (repeat' split)
  all_goals (try simp)

theorem execRoutelessLost_keptB (lantern : Nat) (s u : State) (h : execRoutelessLost lantern s = .next u) : u.keptB = s.keptB := by
  unfold execRoutelessLost at h
  cases h
  (try dsimp only)
  (repeat' split)
  all_goals (try simp)

theorem execAckWindowExpiry_keptB (port : Nat) (s u : State) (h : execAckWindowExpiry port s = .next u) : u.keptB = s.keptB := by
  unfold execAckWindowExpiry at h
  cases h
  (try dsimp only)
  (repeat' split)
  all_goals (try simp)

theorem execCapability_keptB (lantern : Nat) (s u : State) (h : execCapability lantern s = .next u) : u.keptB = s.keptB := by
  unfold execCapability at h
  cases h
  simp

theorem execConfigRequest_keptB (lantern : Nat) (s u : State) (h : execConfigRequest lantern s = .next u) : u.keptB = s.keptB := by
  unfold execConfigRequest at h
  cases h
  simp

theorem execResync_keptB (lantern : Nat) (s u : State) (h : execResync lantern s = .next u) : u.keptB = s.keptB := by
  unfold execResync at h
  cases h
  simp

theorem execNeighbourReport_keptB (lantern : Nat) (s u : State) (h : execNeighbourReport lantern s = .next u) : u.keptB = s.keptB := by
  unfold execNeighbourReport at h
  cases h
  simp

theorem execBeaconMiss_keptB (lantern : Nat) (s u : State) (h : execBeaconMiss lantern s = .next u) : u.keptB = s.keptB := by
  unfold execBeaconMiss at h
  cases h
  simp

theorem execResponse_keptB (lantern : Nat) (s u : State) (h : execResponse lantern s = .next u) : u.keptB = s.keptB := by
  unfold execResponse at h
  cases h
  simp

theorem execSensorEvent_keptB (lantern : Nat) (s u : State) (h : execSensorEvent lantern s = .next u) : u.keptB = s.keptB := by
  unfold execSensorEvent at h
  cases h
  simp

theorem execEnergyReport_keptB (lantern : Nat) (s u : State) (h : execEnergyReport lantern s = .next u) : u.keptB = s.keptB := by
  unfold execEnergyReport at h
  cases h
  simp

theorem execEnergyAggregate_keptB (lantern : Nat) (s u : State) (h : execEnergyAggregate lantern s = .next u) : u.keptB = s.keptB := by
  unfold execEnergyAggregate at h
  cases h
  simp

theorem execPolicyReport_keptB (lantern : Nat) (s u : State) (h : execPolicyReport lantern s = .next u) : u.keptB = s.keptB := by
  unfold execPolicyReport at h
  cases h
  simp

theorem execFragmentInventory_keptB (lantern : Nat) (s u : State) (h : execFragmentInventory lantern s = .next u) : u.keptB = s.keptB := by
  unfold execFragmentInventory at h
  cases h
  simp

theorem execChunkRequest_keptB (lantern : Nat) (s u : State) (h : execChunkRequest lantern s = .next u) : u.keptB = s.keptB := by
  unfold execChunkRequest at h
  cases h
  simp

theorem execImageStatus_keptB (lantern : Nat) (s u : State) (h : execImageStatus lantern s = .next u) : u.keptB = s.keptB := by
  unfold execImageStatus at h
  cases h
  simp

theorem execLeave_keptB (lantern : Nat) (s u : State) (h : execLeave lantern s = .next u) : u.keptB = s.keptB := by
  unfold execLeave at h
  cases h
  simp

theorem execSpanAutoStopTimer_keptB  (s u : State) (h : execSpanAutoStopTimer  s = .next u) : u.keptB = s.keptB := by
  unfold execSpanAutoStopTimer at h
  cases h
  (try dsimp only)
  (repeat' split)
  all_goals (try simp)

theorem execFallbackMinute_keptB  (s u : State) (h : execFallbackMinute  s = .next u) : u.keptB = s.keptB := by
  unfold execFallbackMinute at h
  cases h
  simp

theorem execFallbackKeepaliveExpiry_keptB  (s u : State) (h : execFallbackKeepaliveExpiry  s = .next u) : u.keptB = s.keptB := by
  unfold execFallbackKeepaliveExpiry at h
  cases h
  (try dsimp only)
  (repeat' split)
  all_goals (try simp)

theorem execEchoResult_keptB (f : LinkIn) (s u : State) (h : execEchoResult f s = .next u) : u.keptB = s.keptB := by
  unfold execEchoResult at h
  cases h
  simp

theorem execDayTableRefresh_keptB (policy : Nat) (site : Nat) (s u : State) (h : execDayTableRefresh policy site s = .next u) : u.keptB = s.keptB := by
  unfold execDayTableRefresh at h
  cases h
  (try dsimp only)
  (repeat' split)
  all_goals (try simp)

theorem execSpanPolicyTrigger_keptB (policy : Nat) (s u : State) (h : execSpanPolicyTrigger policy s = .next u) : u.keptB = s.keptB := by
  unfold execSpanPolicyTrigger at h
  cases h
  simp

theorem execClaimHoldExpiry_keptB (output : Nat) (policy : Nat) (s u : State) (h : execClaimHoldExpiry output policy s = .next u) : u.keptB = s.keptB := by
  unfold execClaimHoldExpiry at h
  cases h
  simp

theorem execPolicyValidityEnd_keptB (policy : Nat) (s u : State) (h : execPolicyValidityEnd policy s = .next u) : u.keptB = s.keptB := by
  unfold execPolicyValidityEnd at h
  cases h
  (try dsimp only)
  (repeat' split)
  all_goals (try simp)

theorem execPlacementHoldEnd_keptB  (s u : State) (h : execPlacementHoldEnd  s = .next u) : u.keptB = s.keptB := by
  unfold execPlacementHoldEnd at h
  cases h
  (try dsimp only)
  (repeat' split)
  all_goals (try simp)

theorem execSubscriptionExpiry_keptB (number : Nat) (s u : State) (h : execSubscriptionExpiry number s = .next u) : u.keptB = s.keptB := by
  unfold execSubscriptionExpiry at h
  cases h
  simp

theorem execLocalApplyTime_keptB  (s u : State) (h : execLocalApplyTime  s = .next u) : u.keptB = s.keptB := by
  unfold execLocalApplyTime at h
  cases h
  simp

end Sys2Proof.Machine
end

