-- ==== Sys2Proof/Laws/FrameC.lean ====
section
/-! SUPPORT. The frame of the commands of partsTime: what every operation they use, and each of them, leaves alone. -/

namespace Sys2Proof.Machine

set_option Elab.async false

/-- What the commands of partsTime leave alone. -/
def State.keptC (s : State) : Nat × Otp × SecSt × SelfTestSt × BootSt × List Instr :=
  (s.now, s.otp, s.sec, s.bist, s.boot, s.pending)

@[simp] theorem keptC_modOut (s : State) (f) : (s.modOut f).keptC = s.keptC := by have h : (s.modOut f).keptC = s.keptC := rfl; exact h
@[simp] theorem keptC_modHost (s : State) (f) : (s.modHost f).keptC = s.keptC := by have h : (s.modHost f).keptC = s.keptC := rfl; exact h
@[simp] theorem keptC_modTime (s : State) (f) : (s.modTime f).keptC = s.keptC := by have h : (s.modTime f).keptC = s.keptC := rfl; exact h
@[simp] theorem keptC_modSet (s : State) (f) : (s.modSet f).keptC = s.keptC := by have h : (s.modSet f).keptC = s.keptC := rfl; exact h
@[simp] theorem keptC_modFb (s : State) (f) : (s.modFb f).keptC = s.keptC := by have h : (s.modFb f).keptC = s.keptC := rfl; exact h
@[simp] theorem keptC_modRtc (s : State) (f) : (s.modRtc f).keptC = s.keptC := by have h : (s.modRtc f).keptC = s.keptC := rfl; exact h
@[simp] theorem keptC_modPar (s : State) (f) : (s.modPar f).keptC = s.keptC := by have h : (s.modPar f).keptC = s.keptC := rfl; exact h
@[simp] theorem keptC_modMac (s : State) (f) : (s.modMac f).keptC = s.keptC := by have h : (s.modMac f).keptC = s.keptC := rfl; exact h
@[simp] theorem keptC_modUpd (s : State) (f) : (s.modUpd f).keptC = s.keptC := by have h : (s.modUpd f).keptC = s.keptC := rfl; exact h
@[simp] theorem keptC_modPwr (s : State) (f) : (s.modPwr f).keptC = s.keptC := by have h : (s.modPwr f).keptC = s.keptC := rfl; exact h
@[simp] theorem keptC_draw (s : State) : s.draw.keptC = s.keptC := by have h : s.draw.keptC = s.keptC := rfl; exact h
@[simp] theorem keptC_free (s : State) (n : Nat) : ({ s with freeIdx := n } : State).keptC = s.keptC := rfl
@[simp] theorem keptC_modTwin (s : State) (f) : (s.modTwin f).keptC = s.keptC := by have h : (s.modTwin f).keptC = s.keptC := rfl; exact h
@[simp] theorem keptC_modLamp (s : State) (f) : (s.modLamp f).keptC = s.keptC := by have h : (s.modLamp f).keptC = s.keptC := rfl; exact h
@[simp] theorem keptC_modMeter (s : State) (f) : (s.modMeter f).keptC = s.keptC := by have h : (s.modMeter f).keptC = s.keptC := rfl; exact h
@[simp] theorem keptC_modTruss (s : State) (f) : (s.modTruss f).keptC = s.keptC := by have h : (s.modTruss f).keptC = s.keptC := rfl; exact h
@[simp] theorem keptC_foldl {α : Type} (f : State → α → State) (h : ∀ s x, (f s x).keptC = s.keptC) (l : List α) (s : State) :
    (l.foldl f s).keptC = s.keptC := by
  induction l generalizing s with
  | nil => rfl
  | cons a l ih => simp only [List.foldl_cons, ih, h]
@[simp] theorem keptC_ite (c : Prop) [Decidable c] (a b : State) : (if c then a else b).keptC = if c then a.keptC else b.keptC := by
  split <;> rfl
theorem keptC_foldl2 {α : Type} (f : State → α → State) (h : ∀ s x, (f s x).keptC = s.keptC) (l : List α) (s u : State)
    (e : s.keptC = u.keptC) : (l.foldl f s).keptC = u.keptC := by rw [keptC_foldl f h, e]
@[simp] theorem onBank_keptC (k : Nat) (f : State → State) (s : State) (hf : ∀ u, (f u).keptC = u.keptC) : (onBank k f s).keptC = s.keptC := by simp [onBank, hf]
@[simp] theorem twinPut_keptC (type : Nat) (payload : Bytes) (s : State)  : (twinPut type payload s).keptC = s.keptC := by simp [twinPut]
@[simp] theorem twinSend_keptC (type : Nat) (payload : Bytes) (s : State)  : (twinSend type payload s).keptC = s.keptC := by simp [twinSend]
@[simp] theorem State_modSession_keptC (s : State) (sid : Nat) (f : Session → Session)  : (State.modSession s sid f).keptC = s.keptC := by simp [State.modSession]
@[simp] theorem pushNotice_keptC (sid : Nat) (build : Nat → Bytes) (s : State)  : (pushNotice sid build s).keptC = s.keptC := by simp [pushNotice]
@[simp] theorem giveCredits_keptC (sid n : Nat) (s : State)  : (giveCredits sid n s).keptC = s.keptC := by
  unfold giveCredits
  (try dsimp only)
  (repeat' split)
  all_goals (try simp)

@[simp] theorem creditNotice_keptC (sid : Nat) (s : State)  : (creditNotice sid s).keptC = s.keptC := by
  unfold creditNotice
  (try dsimp only)
  (repeat' split)
  all_goals (try simp)

@[simp] theorem noticeTo_keptC (dest : Option Nat) (code tag : Nat) (rec : Bytes) (s : State)  : (noticeTo dest code tag rec s).keptC = s.keptC := by
  unfold noticeTo
  (try dsimp only)
  (repeat' split)
  all_goals (try simp)

@[simp] theorem recordEv_keptC (code source sev : Nat) (payload : Bytes) (dest : Option Nat) (tag : Nat) (s : State)  : (recordEv code source sev payload dest tag s).keptC = s.keptC := by simp [recordEv]
@[simp] theorem ev_keptC (code : Nat) (payload : Bytes) (s : State)  : (ev code payload s).keptC = s.keptC := by simp [ev]
@[simp] theorem evL_keptC (n code : Nat) (payload : Bytes) (s : State)  : (evL n code payload s).keptC = s.keptC := by simp [evL]
@[simp] theorem evS_keptC (sid tag code : Nat) (payload : Bytes) (s : State)  : (evS sid tag code payload s).keptC = s.keptC := by simp [evS]
@[simp] theorem checkBacklog_keptC (sid : Nat) (s : State)  : (checkBacklog sid s).keptC = s.keptC := by
  unfold checkBacklog
  (try dsimp only)
  (repeat' split)
  all_goals (try simp)

@[simp] theorem checkInbound_keptC (s : State)  : (checkInbound s).keptC = s.keptC := by simp [checkInbound]
@[simp] theorem pushBare_keptC (t : Transport) (bytes : Bytes) (seq : Nat) (s : State)  : (pushBare t bytes seq s).keptC = s.keptC := by simp [pushBare]
@[simp] theorem State_modCmd_keptC (s : State) (seq : Nat) (f : LiveCmd → LiveCmd)  : (State.modCmd s seq f).keptC = s.keptC := by simp [State.modCmd]
@[simp] theorem complete_keptC (c : LiveCmd) (status detail : Nat) (params : Bytes) (s : State)  : (complete c status detail params s).keptC = s.keptC := by simp [complete]
@[simp] theorem fail_keptC (c : LiveCmd) (status detail : Nat) (s : State)  : (fail c status detail s).keptC = s.keptC := by simp [fail]
@[simp] theorem completeAll_keptC (p : LiveCmd → Bool) (status detail : Nat) (params : Bytes) (s : State)  : (completeAll p status detail params s).keptC = s.keptC := by simp [completeAll]
@[simp] theorem completeEach_keptC (p : LiveCmd → Bool) (status detail : Nat) (params : LiveCmd → Bytes) (s : State)  : (completeEach p status detail params s).keptC = s.keptC := by simp [completeEach]
@[simp] theorem dropPend_keptC (s : State)  : (dropPend s).keptC = s.keptC := by simp [dropPend]
@[simp] theorem lateSuccess_keptC (p : LateRec → Bool) (status : Nat) (s : State)  : (lateSuccess p status s).keptC = s.keptC := by simp [lateSuccess]
@[simp] theorem closeSession_keptC (sid : Nat) (s : State)  : (closeSession sid s).keptC = s.keptC := by
  unfold closeSession
  (try dsimp only)
  (repeat' split)
  all_goals (try simp)

@[simp] theorem closeSessions_keptC (p : Session → Bool) (s : State)  : (closeSessions p s).keptC = s.keptC := by
  unfold closeSessions
  (try simp)
  (repeat' (split <;> try simp))

@[simp] theorem takeControl_keptC (a : Agent) (s : State)  : (takeControl a s).keptC = s.keptC := by simp [takeControl]
@[simp] theorem refreshLdEn_keptC (s : State)  : (refreshLdEn s).keptC = s.keptC := by simp [refreshLdEn]
@[simp] theorem writeCopy_keptC (toB : Bool) (t old : TotalsCopy) (s : State)  : (writeCopy toB t old s).keptC = s.keptC := by simp [writeCopy]
@[simp] theorem saveTotals_keptC (kind : Nat) (s : State)  : (saveTotals kind s).keptC = s.keptC := by simp [saveTotals]
@[simp] theorem setAddend_keptC (a : Int) (s : State)  : (setAddend a s).keptC = s.keptC := by simp [setAddend]
@[simp] theorem toHoldover_keptC (s : State)  : (toHoldover s).keptC = s.keptC := by simp [toHoldover]
@[simp] theorem accountState_keptC (s : State)  : (accountState s).keptC = s.keptC := by simp [accountState]
@[simp] theorem setPState_keptC (q : PState) (s : State)  : (setPState q s).keptC = s.keptC := by simp [setPState]
@[simp] theorem toRun_keptC (s : State)  : (toRun s).keptC = s.keptC := by simp [toRun]
@[simp] theorem loseLease_keptC (s : State)  : (loseLease s).keptC = s.keptC := by simp [loseLease]
@[simp] theorem dropLeaseOut_keptC (s : State)  : (dropLeaseOut s).keptC = s.keptC := by simp [dropLeaseOut]
@[simp] theorem modJoint_keptC (j : Nat) (f : Joint → Joint) (s : State)  : (modJoint j f s).keptC = s.keptC := rfl
@[simp] theorem crossNote_keptC (j code : Nat) (payload : Bytes) (s : State)  : (crossNote j code payload s).keptC = s.keptC := by simp [crossNote]
@[simp] theorem takeEdges_keptC (ago : Nat) (edges : List Nat) (s : State)  : (takeEdges ago edges s).keptC = s.keptC := by simp [takeEdges]
@[simp] theorem takeBits_keptC (edges : List Nat) (s : State)  : (takeBits edges s).keptC = s.keptC := by simp [takeBits]
@[simp] theorem startPulse_keptC (k : Nat) (s : State)  : (startPulse k s).keptC = s.keptC := by
  unfold startPulse
  (try dsimp only)
  (repeat' split)
  all_goals (try simp)

@[simp] theorem startPulses_keptC (s : State)  : (startPulses s).keptC = s.keptC := by simp [startPulses]
@[simp] theorem duePulses_keptC (k n : Nat) (s : State)  : (duePulses k n s).keptC = s.keptC := by
  unfold duePulses
  (try dsimp only)
  (repeat' split)
  all_goals (try simp)

@[simp] theorem feedPout_keptC (k r x : Nat) (s : State)  : (feedPout k r x s).keptC = s.keptC := by
  unfold feedPout
  (try dsimp only)
  (repeat' split)
  all_goals (try simp)

@[simp] theorem addEnergy_keptC (r x : Nat) (s : State)  : (addEnergy r x s).keptC = s.keptC := by simp [addEnergy]
@[simp] theorem routePair_keptC (r : Nat) (x : Int) (s : State)  : (routePair r x s).keptC = s.keptC := by simp [routePair]
@[simp] theorem routeCycle_keptC (ph : Nat) (e : CycleEnergy) (s : State)  : (routeCycle ph e s).keptC = s.keptC := by simp [routeCycle]
@[simp] theorem routePhase_keptC (ph until_ : Nat) (s : State)  : (routePhase ph until_ s).keptC = s.keptC := by simp [routePhase]
@[simp] theorem noteRouted_keptC (ph : Nat) (s : State)  : (noteRouted ph s).keptC = s.keptC := by simp [noteRouted]
@[simp] theorem routeTotal_keptC (s : State)  : (routeTotal s).keptC = s.keptC := by simp [routeTotal]
@[simp] theorem closeTotals_keptC (until_ : Nat) (s : State)  : (closeTotals until_ s).keptC = s.keptC := by simp [closeTotals]
@[simp] theorem flushNow_keptC (s : State)  : (flushNow s).keptC = s.keptC := by simp [flushNow]
@[simp] theorem zeroCrossing_keptC (ph : Nat) (s : State)  : (zeroCrossing ph s).keptC = s.keptC := by simp [zeroCrossing]
@[simp] theorem windowReason_keptC (bit : Nat) (s : State)  : (windowReason bit s).keptC = s.keptC := by simp [windowReason]
@[simp] theorem markFilled_keptC (s : State)  : (markFilled s).keptC = s.keptC := by simp [markFilled]
@[simp] theorem fillLast_keptC (s : State)  : (fillLast s).keptC = s.keptC := by
  unfold fillLast
  (try dsimp only)
  (repeat' split)
  all_goals (try simp)

@[simp] theorem creditGap_keptC (ns : Nat) (s : State)  : (creditGap ns s).keptC = s.keptC := by simp [creditGap]
@[simp] theorem resumePath_keptC (drop : Bool) (s : State)  : (resumePath drop s).keptC = s.keptC := by simp [resumePath]
@[simp] theorem nextSecond_keptC (freq : Nat) (s : State)  : (nextSecond freq s).keptC = s.keptC := by simp [nextSecond]
@[simp] theorem scheduleStart_keptC (at_ : Nat) (s : State)  : (scheduleStart at_ s).keptC = s.keptC := by simp [scheduleStart]
@[simp] theorem autoStart_keptC (s : State)  : (autoStart s).keptC = s.keptC := by simp [autoStart]
@[simp] theorem setContactor_keptC (k : Nat) (level : Bool) (s : State)  : (setContactor k level s).keptC = s.keptC := by simp [setContactor]
@[simp] theorem fallbackDrive_keptC (k : Nat) (s : State)  : (fallbackDrive k s).keptC = s.keptC := by
  unfold fallbackDrive
  (try dsimp only)
  (repeat' split)
  all_goals (try simp)

@[simp] theorem fallbackEval_keptC (s : State)  : (fallbackEval s).keptC = s.keptC := by simp [fallbackEval]
@[simp] theorem seqTakes_keptC (s : State)  : (seqTakes s).keptC = s.keptC := by simp [seqTakes]
@[simp] theorem faultRecord_keptC (source cls : Nat) (payload : Bytes) (s : State)  : (faultRecord source cls payload s).keptC = s.keptC := by simp [faultRecord]
@[simp] theorem raiseCE_keptC (source : Nat) (payload : Bytes) (s : State)  : (raiseCE source payload s).keptC = s.keptC := by simp [raiseCE]
@[simp] theorem runCmd_keptC (op sid tag : Nat) (body : LiveCmd → State → State) (s : State) (hbody : ∀ x0 u, (body x0 u).keptC = u.keptC) : (runCmd op sid tag body s).keptC = s.keptC := by
  unfold runCmd
  (try dsimp only)
  (repeat' split)
  all_goals (try simp [hbody])

@[simp] theorem waitFor_keptC (c : LiveCmd) (w : Wait) (work : List Nat) (s : State)  : (waitFor c w work s).keptC = s.keptC := by simp [waitFor]
@[simp] theorem recordOverrun_keptC (j : Nat) (s : State)  : (recordOverrun j s).keptC = s.keptC := by simp [recordOverrun]
@[simp] theorem recordFlushed_keptC (j : Nat) (s : State)  : (recordFlushed j s).keptC = s.keptC := by simp [recordFlushed]
@[simp] theorem pulseLanded_keptC (j : Nat) (s : State)  : (pulseLanded j s).keptC = s.keptC := by simp [pulseLanded]
@[simp] theorem jointSend_keptC (j : Nat) (s : State)  : (jointSend j s).keptC = s.keptC := by simp [jointSend]
@[simp] theorem landCrossed_keptC (j k : Nat) (s : State)  : (landCrossed j k s).keptC = s.keptC := by simp [landCrossed]
@[simp] theorem crossEv_keptC (j code : Nat) (payload : Bytes) (s : State)  : (crossEv j code payload s).keptC = s.keptC := by simp [crossEv]
@[simp] theorem jointDeliver_keptC (j : Nat) (s : State)  : (jointDeliver j s).keptC = s.keptC := by
  unfold jointDeliver
  (try dsimp only)
  (repeat' split)
  all_goals (try simp)

@[simp] theorem flushJoint_keptC (j : Nat) (s : State)  : (flushJoint j s).keptC = s.keptC := by simp [flushJoint]
@[simp] theorem recordOverruns_keptC (s : State)  : (recordOverruns s).keptC = s.keptC := by simp [recordOverruns]
@[simp] theorem pmbusWrite_keptC (command : Nat) (data : Bytes) (s : State)  : (pmbusWrite command data s).keptC = s.keptC := by simp [pmbusWrite]
@[simp] theorem pmbusRead_keptC (command : Nat) (s : State)  : (pmbusRead command s).keptC = s.keptC := by simp [pmbusRead]
@[simp] theorem sendVout_keptC (exponent : Int) (mv : Nat) (s : State)  : (sendVout exponent mv s).keptC = s.keptC := by simp [sendVout]
@[simp] theorem requestVout_keptC (mv attempt : Nat) (s : State)  : (requestVout mv attempt s).keptC = s.keptC := by simp [requestVout]
@[simp] theorem countAbort_keptC (point : Nat) (s : State)  : (countAbort point s).keptC = s.keptC := by simp [countAbort]
@[simp] theorem beginExit_keptC (s : State)  : (beginExit s).keptC = s.keptC := by simp [beginExit]
@[simp] theorem recordWake_keptC (cause : Nat) (s : State)  : (recordWake cause s).keptC = s.keptC := by simp [recordWake]
@[simp] theorem wakeUp_keptC (cause : Nat) (s : State)  : (wakeUp cause s).keptC = s.keptC := by
  unfold wakeUp
  (try dsimp only)
  (repeat' split)
  all_goals (try simp)

@[simp] theorem fireAlarm_keptC (i flags instants t : Nat) (s : State)  : (fireAlarm i flags instants t s).keptC = s.keptC := by simp [fireAlarm]
@[simp] theorem matchAlarm_keptC (i t : Nat) (s : State)  : (matchAlarm i t s).keptC = s.keptC := by
  unfold matchAlarm
  (try dsimp only)
  (repeat' split)
  all_goals (try simp)

@[simp] theorem rtcAlarmMatch_keptC (s : State)  : (rtcAlarmMatch s).keptC = s.keptC := by simp [rtcAlarmMatch]
@[simp] theorem alarmStep_keptC (i a b : Nat) (s : State)  : (alarmStep i a b s).keptC = s.keptC := by
  unfold alarmStep
  (try dsimp only)
  (repeat' split)
  all_goals (try simp)

@[simp] theorem rtcStepped_keptC (n : Int) (cause : Nat) (s : State)  : (rtcStepped n cause s).keptC = s.keptC := by simp [rtcStepped]
@[simp] theorem rtcMove_keptC (n : Int) (cause : Nat) (adjust : Bool) (s : State)  : (rtcMove n cause adjust s).keptC = s.keptC := by simp [rtcMove]
@[simp] theorem rtcStep_keptC (n : Int) (cause : Nat) (adjust : Bool) (s : State)  : (rtcStep n cause adjust s).keptC = s.keptC := by simp [rtcStep]
@[simp] theorem rtcValidate_keptC (s : State)  : (rtcValidate s).keptC = s.keptC := by simp [rtcValidate]
@[simp] theorem rtcStepValid_keptC (n : Int) (cause : Nat) (s : State)  : (rtcStepValid n cause s).keptC = s.keptC := by simp [rtcStepValid]
@[simp] theorem refreshU_keptC (s : State)  : (refreshU s).keptC = s.keptC := by simp [refreshU]
@[simp] theorem meterRun_keptC (on : Bool) (s : State)  : (meterRun on s).keptC = s.keptC := by simp [meterRun]
@[simp] theorem twinEnable_keptC (on : Bool) (s : State)  : (twinEnable on s).keptC = s.keptC := by simp [twinEnable]
@[simp] theorem bumpConf_keptC (s : State)  : (bumpConf s).keptC = s.keptC := by simp [bumpConf]
@[simp] theorem syncShadow_keptC (s : State)  : (syncShadow s).keptC = s.keptC := by simp [syncShadow]
@[simp] theorem commitDone_keptC (block : Nat) (reply : Bytes) (s : State)  : (commitDone block reply s).keptC = s.keptC := by simp [commitDone]
@[simp] theorem clearPouts_keptC (s : State)  : (clearPouts s).keptC = s.keptC := by simp [clearPouts]
@[simp] theorem moveSecond_keptC (a b : Nat) (s : State)  : (moveSecond a b s).keptC = s.keptC := by simp [moveSecond]
@[simp] theorem modSource_keptC (c : Nat) (f : Source → Source) (s : State)  : (modSource c f s).keptC = s.keptC := by simp [modSource]
@[simp] theorem selectSource_keptC (c : Nat) (s : State)  : (selectSource c s).keptC = s.keptC := by simp [selectSource]
@[simp] theorem qualify_keptC (c : Nat) (s : State)  : (qualify c s).keptC = s.keptC := by simp [qualify]
@[simp] theorem loseSource_keptC (c : Nat) (s : State)  : (loseSource c s).keptC = s.keptC := by simp [loseSource]
@[simp] theorem countMeasurement_keptC (c : Nat) (x : Int) (s : State)  : (countMeasurement c x s).keptC = s.keptC := by simp [countMeasurement]
@[simp] theorem servo_keptC (x : Int) (s : State)  : (servo x s).keptC = s.keptC := by simp [servo]
@[simp] theorem modLan_keptC (n : Nat) (f : Lantern → Lantern) (s : State)  : (modLan n f s).keptC = s.keptC := by simp [modLan]
@[simp] theorem dropLantern_keptC (n : Nat) (s : State)  : (dropLantern n s).keptC = s.keptC := by simp [dropLantern]
@[simp] theorem finishMesh_keptC (q : Nat) (s : State)  : (finishMesh q s).keptC = s.keptC := by
  unfold finishMesh
  (try dsimp only)
  (repeat' split)
  all_goals (try simp)

@[simp] theorem removeLantern_keptC (by_ n : Nat) (s : State)  : (removeLantern by_ n s).keptC = s.keptC := by simp [removeLantern]
@[simp] theorem dropPushes_keptC (pol : Nat) (s : State)  : (dropPushes pol s).keptC = s.keptC := by simp [dropPushes]
@[simp] theorem ownSettled_keptC (t : Txn) (o : Outcome) (s : State)  : (ownSettled t o s).keptC = s.keptC := by simp [ownSettled]
@[simp] theorem finishLeave_keptC (t : Txn) (s : State)  : (finishLeave t s).keptC = s.keptC := by
  unfold finishLeave
  (try dsimp only)
  (repeat' split)
  all_goals (try simp)

@[simp] theorem lateLeave_keptC (q n : Nat) (s : State)  : (lateLeave q n s).keptC = s.keptC := by simp [lateLeave]
@[simp] theorem lateMesh_keptC (q : Nat) (s : State)  : (lateMesh q s).keptC = s.keptC := by
  unfold lateMesh
  (try dsimp only)
  (repeat' split)
  all_goals (try simp)

@[simp] theorem settle_keptC (t : Txn) (o : Outcome) (s : State)  : (settle t o s).keptC = s.keptC := by
  unfold settle
  (try dsimp only)
  (repeat' split)
  all_goals (try simp)

@[simp] theorem addRetries_keptC (q k : Nat) (s : State)  : (addRetries q k s).keptC = s.keptC := by simp [addRetries]
@[simp] theorem queueFlood_keptC (f : Flood) (s : State)  : (queueFlood f s).keptC = s.keptC := by simp [queueFlood]
@[simp] theorem trimHeld_keptC (n : Nat) (s : State)  : (trimHeld n s).keptC = s.keptC := by
  unfold trimHeld
  (try dsimp only)
  (repeat' split)
  all_goals (try simp)

@[simp] theorem sendMsg_keptC (owner : Option Nat) (n type : Nat) (confirmed : Bool) (payload : Bytes) (expiry : Nat) (s : State)  : (sendMsg owner n type confirmed payload expiry s).keptC = s.keptC := by
  unfold sendMsg
  (try dsimp only)
  (repeat' split)
  all_goals (try simp)

@[simp] theorem sendOwn_keptC (n type : Nat) (payload : Bytes) (s : State)  : (sendOwn n type payload s).keptC = s.keptC := by simp [sendOwn]
@[simp] theorem loseLantern_keptC (n : Nat) (s : State)  : (loseLantern n s).keptC = s.keptC := by simp [loseLantern]
@[simp] theorem expectJoined_keptC (s : State)  : (expectJoined s).keptC = s.keptC := by simp [expectJoined]
@[simp] theorem contact_keptC (n at_ : Nat) (s : State)  : (contact n at_ s).keptC = s.keptC := by simp [contact]
@[simp] theorem sendEach_keptC (c : LiveCmd) (work : List Nat) (send : State → State) (s : State) (hsend : ∀ u, (send u).keptC = u.keptC) : (sendEach c work send s).keptC = s.keptC := by simp [sendEach, hsend]
@[simp] theorem endSpan_keptC (status detail : Nat) (s : State)  : (endSpan status detail s).keptC = s.keptC := by simp [endSpan]
@[simp] theorem staleChallenges_keptC (slot : Nat) (s : State)  : (staleChallenges slot s).keptC = s.keptC := by simp [staleChallenges]
@[simp] theorem tamperRecord_keptC (e : TamperEnt) (inBackup : Bool) (s : State)  : (tamperRecord e inBackup s).keptC = s.keptC := by simp [tamperRecord]
@[simp] theorem timeGet_keptC (c : LiveCmd) (s : State)  : (timeGet c s).keptC = s.keptC := by simp [timeGet]
@[simp] theorem timeSlew_keptC (c : LiveCmd) (s : State)  : (timeSlew c s).keptC = s.keptC := by simp [timeSlew]
@[simp] theorem timeSourceSet_keptC (c : LiveCmd) (s : State)  : (timeSourceSet c s).keptC = s.keptC := by
  unfold timeSourceSet
  (try dsimp only)
  (repeat' split)
  all_goals (try simp)

@[simp] theorem chooseParent_keptC (s : State)  : (chooseParent s).keptC = s.keptC := by
  unfold chooseParent
  (try dsimp only)
  (repeat' split)
  all_goals (try simp)

@[simp] theorem ptpAnnounce_keptC (m : PtpAnn) (s : State)  : (ptpAnnounce m s).keptC = s.keptC := by simp [ptpAnnounce]
@[simp] theorem ptpDelayResp_keptC (m : PtpResp) (s : State)  : (ptpDelayResp m s).keptC = s.keptC := by
  unfold ptpDelayResp
  (try dsimp only)
  (repeat' split)
  all_goals (try simp)

@[simp] theorem delayReqTimer_keptC (s : State)  : (delayReqTimer s).keptC = s.keptC := by simp [delayReqTimer]
@[simp] theorem announceTimeout_keptC (s : State)  : (announceTimeout s).keptC = s.keptC := by
  unfold announceTimeout
  (try dsimp only)
  (repeat' split)
  all_goals (try simp)

@[simp] theorem rtcAlarmSet_keptC (c : LiveCmd) (s : State)  : (rtcAlarmSet c s).keptC = s.keptC := by
  unfold rtcAlarmSet
  (try dsimp only)
  (repeat' split)
  all_goals (try simp)

@[simp] theorem checkTableShort_keptC (s : State)  : (checkTableShort s).keptC = s.keptC := by simp [checkTableShort]
@[simp] theorem localTimeTableLoad_keptC (c : LiveCmd) (s : State)  : (localTimeTableLoad c s).keptC = s.keptC := by
  unfold localTimeTableLoad
  (try dsimp only)
  (repeat' split)
  all_goals (try simp)

@[simp] theorem fallbackTableLoad_keptC (c : LiveCmd) (s : State)  : (fallbackTableLoad c s).keptC = s.keptC := by
  unfold fallbackTableLoad
  (try dsimp only)
  (repeat' split)
  all_goals (try simp)

@[simp] theorem discipline_keptC (s : State)  : (discipline s).keptC = s.keptC := by simp [discipline]
@[simp] theorem learnSecond_keptC (s : State)  : (learnSecond s).keptC = s.keptC := by simp [learnSecond]
@[simp] theorem extendPins_keptC (s : State)  : (extendPins s).keptC = s.keptC := by simp [extendPins]
@[simp] theorem ppsSecond_keptC (s : State)  : (ppsSecond s).keptC = s.keptC := by simp [ppsSecond]
@[simp] theorem firmwareMinute_keptC (k : Nat) (tbl : Bytes) (s : State)  : (firmwareMinute k tbl s).keptC = s.keptC := by
  unfold firmwareMinute
  (try dsimp only)
  (repeat' split)
  all_goals (try simp)

@[simp] theorem fallbackMinute_keptC (s : State)  : (fallbackMinute s).keptC = s.keptC := by
  unfold fallbackMinute
  (try dsimp only)
  (repeat' split)
  all_goals (try simp)

@[simp] theorem echo_keptC (c : LiveCmd) (s : State)  : (echo c s).keptC = s.keptC := by simp [echo]
@[simp] theorem deviceInfo_keptC (c : LiveCmd) (s : State)  : (deviceInfo c s).keptC = s.keptC := by simp [deviceInfo]
@[simp] theorem awaitReset_keptC (c : LiveCmd) (type source : Nat) (s : State)  : (awaitReset c type source s).keptC = s.keptC := by simp [awaitReset]
@[simp] theorem resetCmd_keptC (c : LiveCmd) (s : State)  : (resetCmd c s).keptC = s.keptC := by
  unfold resetCmd
  (try dsimp only)
  (repeat' split)
  all_goals (try simp)

@[simp] theorem fence_keptC (c : LiveCmd) (s : State)  : (fence c s).keptC = s.keptC := by simp [fence]
@[simp] theorem noteLocked_keptC (st : Nat) (s : State)  : (noteLocked st s).keptC = s.keptC := by simp [noteLocked]
@[simp] theorem settingRead_keptC (c : LiveCmd) (s : State)  : (settingRead c s).keptC = s.keptC := by
  unfold settingRead
  (try dsimp only)
  (repeat' split)
  all_goals (try simp)

@[simp] theorem closeTransport_keptC (t : Transport) (s : State)  : (closeTransport t s).keptC = s.keptC := by
  unfold closeTransport
  (try dsimp only)
  (repeat' split)
  all_goals (try simp)

@[simp] theorem grantSession_keptC (c : LiveCmd) (n role baud : Nat) (keylessProc : Bool) (s : State)  : (grantSession c n role baud keylessProc s).keptC = s.keptC := by simp [grantSession]
@[simp] theorem refuseOpen_keptC (c : LiveCmd) (st d : Nat) (s : State)  : (refuseOpen c st d s).keptC = s.keptC := by simp [refuseOpen]
@[simp] theorem openPhase1_keptC (c : LiveCmd) (role baud : Nat) (s : State)  : (openPhase1 c role baud s).keptC = s.keptC := by
  unfold openPhase1
  (try dsimp only)
  (repeat' split)
  all_goals (try simp)

@[simp] theorem queueStatus_keptC (c : LiveCmd) (s : State)  : (queueStatus c s).keptC = s.keptC := by simp [queueStatus]
@[simp] theorem faultStatus_keptC (c : LiveCmd) (s : State)  : (faultStatus c s).keptC = s.keptC := by simp [faultStatus]
@[simp] theorem ackReply_keptC (c : LiveCmd) (s : State)  : (ackReply c s).keptC = s.keptC := by simp [ackReply]
@[simp] theorem eventRead_keptC (c : LiveCmd) (s : State)  : (eventRead c s).keptC = s.keptC := by simp [eventRead]
@[simp] theorem clearPhase1_keptC (c : LiveCmd) (s : State)  : (clearPhase1 c s).keptC = s.keptC := by simp [clearPhase1]
@[simp] theorem clearLog_keptC (q : SidChal) (c : LiveCmd) (s : State)  : (clearLog q c s).keptC = s.keptC := by simp [clearLog]
@[simp] theorem setRate_keptC (code burst refill : Nat) (s : State)  : (setRate code burst refill s).keptC = s.keptC := by simp [setRate]
@[simp] theorem eventRateSet_keptC (c : LiveCmd) (s : State)  : (eventRateSet c s).keptC = s.keptC := by simp [eventRateSet]
@[simp] theorem faultInject_keptC (c : LiveCmd) (s : State)  : (faultInject c s).keptC = s.keptC := by
  unfold faultInject
  (try dsimp only)
  (repeat' split)
  all_goals (try simp)

@[simp] theorem noteInfo_keptC (source : Nat) (info : Bytes) (s : State)  : (noteInfo source info s).keptC = s.keptC := by simp [noteInfo]
@[simp] theorem rearmWatchdog_keptC (core : Nat) (s : State)  : (rearmWatchdog core s).keptC = s.keptC := by simp [rearmWatchdog]
@[simp] theorem copyPage_keptC (s : State)  : (copyPage s).keptC = s.keptC := by simp [copyPage]
@[simp] theorem useStore_keptC (c : StoreCopy) (s : State)  : (useStore c s).keptC = s.keptC := by simp [useStore]
@[simp] theorem unlockPhase1_keptC (c : LiveCmd) (s : State)  : (unlockPhase1 c s).keptC = s.keptC := by simp [unlockPhase1]
@[simp] theorem modPort_keptC (k : Nat) (f : Port → Port) (s : State)  : (modPort k f s).keptC = s.keptC := by simp [modPort]
@[simp] theorem runOne_keptC (k id ch : Nat) (frame miso : Bytes) (s : State)  : (runOne k id ch frame miso s).1.keptC = s.keptC := by simp [runOne]
@[simp] theorem runSeqs_keptC (k ch : Nat) (frame : Bytes) (y0 : List Nat) (y1 : Bytes) (s : State)  : (runSeqs k ch frame y0 y1 s).1.keptC = s.keptC := by
  induction y0 generalizing y1 s with
  | nil => rfl
  | cons id l ih =>
    unfold runSeqs
    split
    · rfl
    · dsimp only
      split <;> simp [ih]

@[simp] theorem moveLanterns_keptC (k : Nat) (s : State)  : (moveLanterns k s).keptC = s.keptC := by simp [moveLanterns]
@[simp] theorem pulseInit_keptC (k : Nat) (miso : Bytes) (s : State)  : (pulseInit k miso s).1.keptC = s.keptC := by simp [pulseInit]
@[simp] theorem launch_keptC (k ch start : Nat) (psdu : Bytes) (s : State)  : (launch k ch start psdu s).keptC = s.keptC := by simp [launch]

theorem suppressed_resC {k ch f : Nat} {p : Bytes} {s t : State} (e : suppressed k ch f p s = some t) : t.keptC = s.keptC := by
  unfold suppressed at e
  dsimp only at e
  split at e
  · cases e; simp
  · cases e

@[simp] theorem checkAdrift_keptC (n : Nat) (s : State)  : (checkAdrift n s).keptC = s.keptC := by
  unfold checkAdrift
  (try dsimp only)
  (repeat' split)
  all_goals (try simp)

@[simp] theorem modTxn_keptC (id : Nat) (f : Txn → Txn) (s : State)  : (modTxn id f s).keptC = s.keptC := by simp [modTxn]
@[simp] theorem takeTxn_keptC (t : Txn) (s : State)  : (takeTxn t s).keptC = s.keptC := by simp [takeTxn]
@[simp] theorem backOff_keptC (k : Nat) (s : State)  : (backOff k s).keptC = s.keptC := by simp [backOff]
@[simp] theorem endAttempt_keptC (a : Attempt) (ok : Bool) (s : State)  : (endAttempt a ok s).keptC = s.keptC := by
  unfold endAttempt
  (try dsimp only)
  (repeat' split)
  all_goals (try simp)

@[simp] theorem beginAttempt_keptC (a : Attempt) (s : State)  : (beginAttempt a s).keptC = s.keptC := by
  unfold beginAttempt
  (try dsimp only)
  (repeat' split)
  all_goals (try simp)

@[simp] theorem echoResult_keptC (k asn outcome : Nat) (s : State)  : (echoResult k asn outcome s).keptC = s.keptC := by simp [echoResult]
@[simp] theorem lostAttempt_keptC (a : Attempt) (s : State)  : (lostAttempt a s).keptC = s.keptC := by simp [lostAttempt]
@[simp] theorem failAttempts_keptC (k : Nat) (s : State)  : (failAttempts k s).keptC = s.keptC := by simp [failAttempts]
@[simp] theorem echoFeed_keptC (k asn : Nat) (kind : CellKind) (plain : Bytes) (s : State)  : (echoFeed k asn kind plain s).keptC = s.keptC := by simp [echoFeed]
@[simp] theorem feedEcho_keptC (k asn : Nat) (kind : CellKind) (plain : Bytes) (s : State)  : (feedEcho k asn kind plain s).keptC = s.keptC := by simp [feedEcho]
@[simp] theorem addSeen_keptC (origin seq : Nat) (s : State)  : (addSeen origin seq s).keptC = s.keptC := by simp [addSeen]
@[simp] theorem floodSent_keptC (f : Flood) (seq asn : Nat) (s : State)  : (floodSent f seq asn s).keptC = s.keptC := by
  unfold floodSent
  (try dsimp only)
  (repeat' split)
  all_goals (try simp)

@[simp] theorem dropFeed_keptC (f : Nat × Nat × Nat × Bytes) (s : State)  : (dropFeed f s).keptC = s.keptC := by simp [dropFeed]
@[simp] theorem staleAttempts_keptC (k : Nat) (s : State)  : (staleAttempts k s).keptC = s.keptC := by simp [staleAttempts]
@[simp] theorem securityDrop_keptC (s : State)  : (securityDrop s).keptC = s.keptC := by simp [securityDrop]
@[simp] theorem acked_keptC (a : Attempt) (nack : Bool) (s : State)  : (acked a nack s).keptC = s.keptC := by simp [acked]
@[simp] theorem respond_keptC (n seq status retries : Nat) (s : State)  : (respond n seq status retries s).keptC = s.keptC := by simp [respond]
@[simp] theorem deliver_keptC (k src : Nat) (m : Bytes) (at_ : Nat) (s : State)  : (deliver k src m at_ s).keptC = s.keptC := by
  unfold deliver
  (try dsimp only)
  (repeat' split)
  all_goals (try simp)

@[simp] theorem forwardMsg_keptC (m : Bytes) (s : State)  : (forwardMsg m s).keptC = s.keptC := by
  unfold forwardMsg
  (try dsimp only)
  (repeat' split)
  all_goals (try simp)

@[simp] theorem message_keptC (k src : Nat) (m : Bytes) (at_ : Nat) (s : State)  : (message k src m at_ s).keptC = s.keptC := by simp [message]
@[simp] theorem linkFragment_keptC (k src : Nat) (body : Bytes) (at_ : Nat) (s : State)  : (linkFragment k src body at_ s).keptC = s.keptC := by
  unfold linkFragment
  (try dsimp only)
  (repeat' split)
  all_goals (try simp)

@[simp] theorem filterDrop_keptC (s : State)  : (filterDrop s).keptC = s.keptC := by simp [filterDrop]
@[simp] theorem keepBeacon_keptC (f : RxFrame) (body : Bytes) (s : State)  : (keepBeacon f body s).keptC = s.keptC := by simp [keepBeacon]
@[simp] theorem rxJoin_keptC (f : RxFrame) (s : State)  : (rxJoin f s).keptC = s.keptC := by simp [rxJoin]
@[simp] theorem rxFlood_keptC (f : RxFrame) (s : State)  : (rxFlood f s).keptC = s.keptC := by
  unfold rxFlood
  (try dsimp only)
  (repeat' split)
  all_goals (try simp)

@[simp] theorem modAnnex_keptC (f : AnnexSt → AnnexSt) (s : State)  : (modAnnex f s).keptC = s.keptC := by simp [modAnnex]
@[simp] theorem modNet_keptC (f : AnnexNet → AnnexNet) (s : State)  : (modNet f s).keptC = s.keptC := by simp [modNet]
@[simp] theorem useAnnexCounter_keptC (idx : Nat) (s : State)  : (useAnnexCounter idx s).keptC = s.keptC := by simp [useAnnexCounter]
@[simp] theorem annexKeyAt_keptC (idx : Nat) (key : Bytes) (s : State)  : (annexKeyAt idx key s).keptC = s.keptC := by simp [annexKeyAt]
@[simp] theorem nextMacSeq_keptC (s : State)  : (nextMacSeq s).keptC = s.keptC := by simp [nextMacSeq]
@[simp] theorem annexQueue_keptC (dst expiry : Nat) (resync : Bool) (m : Bytes) (s : State)  : (annexQueue dst expiry resync m s).keptC = s.keptC := by simp [annexQueue]
@[simp] theorem annexSend_keptC (type : Nat) (confirmed resync : Bool) (payload : Bytes) (s : State)  : (annexSend type confirmed resync payload s).keptC = s.keptC := by
  unfold annexSend
  (try dsimp only)
  (repeat' split)
  all_goals (try simp)

@[simp] theorem annexReportTo_keptC (n : AnnexNet) (type life : Nat) (payload : Bytes) (s : State)  : (annexReportTo n type life payload s).keptC = s.keptC := by
  unfold annexReportTo
  (try dsimp only)
  (repeat' split)
  all_goals (try simp)

@[simp] theorem annexRespond_keptC (seq retries status : Nat) (data : Bytes) (s : State)  : (annexRespond seq retries status data s).keptC = s.keptC := by simp [annexRespond]
@[simp] theorem annexContact_keptC (src at_ : Nat) (s : State)  : (annexContact src at_ s).keptC = s.keptC := by simp [annexContact]
@[simp] theorem annexReport_keptC (s : State)  : (annexReport s).keptC = s.keptC := by
  unfold annexReport
  (try dsimp only)
  (repeat' split)
  all_goals (try simp)

@[simp] theorem annexChoose_keptC (p : AnnexCand → Bool) (s : State)  : (annexChoose p s).keptC = s.keptC := by simp [annexChoose]
@[simp] theorem annexScan_keptC (s : State)  : (annexScan s).keptC = s.keptC := by simp [annexScan]
@[simp] theorem annexJoinFrames_keptC (s0 : State) (dst last : Nat) (y0 : List Bytes) (y1 : Nat) (s : State)  : (annexJoinFrames s0 dst last y0 y1 s).1.keptC = s.keptC := by
  induction y0 generalizing y1 s with
  | nil => rfl
  | cons b l ih => unfold annexJoinFrames; simp [ih]

@[simp] theorem annexRequest_keptC (p : AnnexCand) (s : State)  : (annexRequest p s).keptC = s.keptC := by simp [annexRequest]
@[simp] theorem annexJoining_keptC (p : AnnexCand) (s : State)  : (annexJoining p s).keptC = s.keptC := by simp [annexJoining]
@[simp] theorem annexLeave_keptC (s : State)  : (annexLeave s).keptC = s.keptC := by simp [annexLeave]
@[simp] theorem annexKids_keptC (p : AnnexCand) (n : AnnexNet) (s : State)  : (annexKids p n s).keptC = s.keptC := by simp [annexKids]
@[simp] theorem annexMissed_keptC (asn : Nat) (n : AnnexNet) (s : State)  : (annexMissed asn n s).keptC = s.keptC := by simp [annexMissed]
@[simp] theorem annexEnergy_keptC (asn : Nat) (n : AnnexNet) (s : State)  : (annexEnergy asn n s).keptC = s.keptC := by simp [annexEnergy]
@[simp] theorem annexGone_keptC (s : State)  : (annexGone s).keptC = s.keptC := by simp [annexGone]
@[simp] theorem annexSecond_keptC (s : State)  : (annexSecond s).keptC = s.keptC := by
  unfold annexSecond
  (try dsimp only)
  (repeat' split)
  all_goals (try simp)

@[simp] theorem endAnnex_keptC (ok : Bool) (s : State)  : (endAnnex ok s).keptC = s.keptC := by
  unfold endAnnex
  (try dsimp only)
  (repeat' split)
  all_goals (try simp)

@[simp] theorem annexAccept_keptC (key ctr : Nat) (s : State)  : (annexAccept key ctr s).keptC = s.keptC := by simp [annexAccept]
@[simp] theorem annexInstall_keptC (m : Bytes) (s : State)  : (annexInstall m s).keptC = s.keptC := by simp [annexInstall]
@[simp] theorem annexJoined_keptC (m : Bytes) (s : State)  : (annexJoined m s).keptC = s.keptC := by
  unfold annexJoined
  (try dsimp only)
  (repeat' split)
  all_goals (try simp)

@[simp] theorem annexResponse_keptC (f : RxFrame) (s : State)  : (annexResponse f s).keptC = s.keptC := by
  unfold annexResponse
  (try dsimp only)
  (repeat' split)
  all_goals (try simp)

@[simp] theorem annexAct_keptC (at_ : Nat) (m : Bytes) (s : State)  : (annexAct at_ m s).1.keptC = s.keptC := by
  unfold annexAct
  simp [apply_ite Prod.fst]

theorem annexAct_resC {a : Nat} {m : Bytes} {u t : State} {r : Option Nat} (e : annexAct a m u = (t, r)) : t.keptC = u.keptC := by
  have k := annexAct_keptC a m u
  rw [e] at k
  exact k

@[simp] theorem annexDeliver_keptC (at_ : Nat) (m : Bytes) (s : State)  : (annexDeliver at_ m s).keptC = s.keptC := by
  unfold annexDeliver
  (try dsimp only)
  (repeat' split)
  all_goals first | rfl | (simp; done) | ((try simp); have k := annexAct_resC (by assumption); exact k.trans (by simp))

@[simp] theorem annexForward_keptC (m : Bytes) (s : State)  : (annexForward m s).keptC = s.keptC := by
  unfold annexForward
  (try dsimp only)
  (repeat' split)
  all_goals (try simp)

@[simp] theorem annexDeviation_keptC (x : Int) (s : State)  : (annexDeviation x s).keptC = s.keptC := by simp [annexDeviation]
@[simp] theorem annexOverhear_keptC (m : Bytes) (s : State)  : (annexOverhear m s).keptC = s.keptC := by simp [annexOverhear]
@[simp] theorem annexRxBeacon_keptC (f : RxFrame) (s : State)  : (annexRxBeacon f s).keptC = s.keptC := by
  unfold annexRxBeacon
  (try dsimp only)
  (repeat' split)
  all_goals (try simp)

@[simp] theorem annexProxy_keptC (f : RxFrame) (s : State)  : (annexProxy f s).keptC = s.keptC := by
  unfold annexProxy
  (try dsimp only)
  (repeat' split)
  all_goals (try simp)

@[simp] theorem annexRxFlood_keptC (f : RxFrame) (s : State)  : (annexRxFlood f s).keptC = s.keptC := by
  unfold annexRxFlood
  (try dsimp only)
  (repeat' split)
  all_goals (try simp)

@[simp] theorem annexEnhancedAck_keptC (p : Bytes) (s : State)  : (annexEnhancedAck p s).keptC = s.keptC := by
  unfold annexEnhancedAck
  (try dsimp only)
  (repeat' split)
  all_goals (try simp)

@[simp] theorem keepFrame_keptC (port at_ : Nat) (psdu : Bytes) (s : State)  : (keepFrame port at_ psdu s).keptC = s.keptC := by
  unfold keepFrame
  (try dsimp only)
  (repeat' split)
  all_goals (try simp)

@[simp] theorem correctBeacon_keptC (port at_ : Nat) (s : State)  : (correctBeacon port at_ s).keptC = s.keptC := by simp [correctBeacon]
@[simp] theorem activateKey_keptC (s : State)  : (activateKey s).keptC = s.keptC := by
  unfold activateKey
  (try dsimp only)
  (repeat' split)
  all_goals (try simp)

@[simp] theorem annexKeyStep_keptC (s : State)  : (annexKeyStep s).keptC = s.keptC := by
  unfold annexKeyStep
  (try dsimp only)
  (repeat' split)
  all_goals (try simp)

@[simp] theorem modCh_keptC (n : Nat) (f : LampCh → LampCh) (s : State)  : (modCh n f s).keptC = s.keptC := by simp [modCh]
@[simp] theorem modGroup_keptC (g : Nat) (f : ColSet → ColSet) (s : State)  : (modGroup g f s).keptC = s.keptC := by simp [modGroup]
@[simp] theorem refreshDuty_keptC (ns : List Nat) (s : State)  : (refreshDuty ns s).keptC = s.keptC := by simp [refreshDuty]
@[simp] theorem goManual_keptC (g : Nat) (s : State)  : (goManual g s).keptC = s.keptC := by simp [goManual]
@[simp] theorem setPoint_keptC (g : Nat) (ch : Change) (s : State)  : (setPoint g ch s).keptC = s.keptC := by simp [setPoint]
@[simp] theorem applyLocal_keptC (outs : List Nat) (ch : Change) (s : State)  : (applyLocal outs ch s).keptC = s.keptC := by simp [applyLocal]
@[simp] theorem markDirect_keptC (b : Bool) (outs : List Nat) (s : State)  : (markDirect b outs s).keptC = s.keptC := by simp [markDirect]
@[simp] theorem applyDirect_keptC (outs : List Nat) (ch : Change) (s : State)  : (applyDirect outs ch s).keptC = s.keptC := by simp [applyDirect]
@[simp] theorem applyClaim_keptC (outs : List Nat) (ch : Change) (s : State)  : (applyClaim outs ch s).keptC = s.keptC := by simp [applyClaim]
@[simp] theorem followTop_keptC (outs : List Nat) (fade curve : Nat) (s : State)  : (followTop outs fade curve s).keptC = s.keptC := by simp [followTop]
@[simp] theorem placeClaims_keptC (outs : List Nat) (cl : Claim) (s : State)  : (placeClaims outs cl s).keptC = s.keptC := by simp [placeClaims]
@[simp] theorem endClaims_keptC (outs : List Nat) (p : Claim → Bool) (s : State)  : (endClaims outs p s).keptC = s.keptC := by
  unfold endClaims
  exact keptC_foldl _ (fun u n => by dsimp only; split <;> simp) _ _

@[simp] theorem applyScene_keptC (scene : Nat) (s : State)  : (applyScene scene s).keptC = s.keptC := by
  unfold applyScene
  (try dsimp only)
  (repeat' split)
  all_goals (try simp)

@[simp] theorem applyInstant_keptC (t : Nat) (s : State)  : (applyInstant t s).keptC = s.keptC := by simp [applyInstant]
@[simp] theorem applyDue_keptC (y0 : Nat) (s : State)  : (applyDue y0 s).keptC = s.keptC := by
  induction y0 generalizing s with
  | zero => rfl
  | succ k ih => unfold applyDue; split <;> simp [ih]

@[simp] theorem latchShutdown_keptC (s : State)  : (latchShutdown s).keptC = s.keptC := by simp [latchShutdown]
@[simp] theorem lampLocally_keptC (outs : List Nat) (p : Bytes) (s : State)  : (lampLocally outs p s).keptC = s.keptC := by simp [lampLocally]
@[simp] theorem lampSet_keptC (c : LiveCmd) (s : State)  : (lampSet c s).keptC = s.keptC := by
  unfold lampSet
  (try dsimp only)
  (repeat' split)
  all_goals (try simp)

@[simp] theorem sceneDefine_keptC (c : LiveCmd) (s : State)  : (sceneDefine c s).keptC = s.keptC := by
  unfold sceneDefine
  (try dsimp only)
  (repeat' split)
  all_goals (try simp)

@[simp] theorem sceneLaunch_keptC (c : LiveCmd) (s : State)  : (sceneLaunch c s).keptC = s.keptC := by
  unfold sceneLaunch
  (try dsimp only)
  (repeat' split)
  all_goals (try simp)

@[simp] theorem calibrationLoad_keptC (c : LiveCmd) (s : State)  : (calibrationLoad c s).keptC = s.keptC := by
  unfold calibrationLoad
  (try dsimp only)
  (repeat' split)
  all_goals (try simp)

@[simp] theorem lampStatus_keptC (c : LiveCmd) (s : State)  : (lampStatus c s).keptC = s.keptC := by simp [lampStatus]
@[simp] theorem recomputeRoutes_keptC (s : State)  : (recomputeRoutes s).keptC = s.keptC := by simp [recomputeRoutes]
@[simp] theorem sendInstall_keptC (n : Nat) (b : Bytes) (s : State)  : (sendInstall n b s).keptC = s.keptC := by simp [sendInstall]
@[simp] theorem pushFragment_keptC (f : Fragment) (s : State)  : (pushFragment f s).keptC = s.keptC := by simp [pushFragment]
@[simp] theorem pushEntry_keptC (p : Pier) (e : HeadEntry) (s : State)  : (pushEntry p e s).keptC = s.keptC := by simp [pushEntry]
@[simp] theorem sendOnce_keptC (n type : Nat) (payload : Bytes) (s : State)  : (sendOnce n type payload s).keptC = s.keptC := by simp [sendOnce]
@[simp] theorem pushWatches_keptC (site : Option Nat) (s : State)  : (pushWatches site s).keptC = s.keptC := by simp [pushWatches]
@[simp] theorem pushConfigs_keptC (site : Option Nat) (s : State)  : (pushConfigs site s).keptC = s.keptC := by
  unfold pushConfigs
  (try dsimp only)
  refine keptC_foldl _ (fun u x => ?_) _ _
  (try dsimp only)
  (repeat' split)
  all_goals first | rfl | simp

@[simp] theorem pushEnds_keptC (site : Option Nat) (s : State)  : (pushEnds site s).keptC = s.keptC := by simp [pushEnds]
@[simp] theorem pushAll_keptC (site : Option Nat) (s : State)  : (pushAll site s).keptC = s.keptC := by simp [pushAll]
@[simp] theorem syncHeads_keptC (s : State)  : (syncHeads s).keptC = s.keptC := by simp [syncHeads]
@[simp] theorem newRoutes_keptC (s : State)  : (newRoutes s).keptC = s.keptC := by simp [newRoutes]
@[simp] theorem noteShortfall_keptC (s : State)  : (noteShortfall s).keptC = s.keptC := by simp [noteShortfall]
@[simp] theorem viaductSub_keptC (r : Bytes) (s : State)  : (viaductSub r s).keptC = s.keptC := by simp [viaductSub]
@[simp] theorem viaductSubs_keptC (s : State)  : (viaductSubs s).keptC = s.keptC := by simp [viaductSubs]
@[simp] theorem placementsDone_keptC (s : State)  : (placementsDone s).keptC = s.keptC := by simp [placementsDone]
@[simp] theorem evaluatePlacement_keptC (s : State)  : (evaluatePlacement s).keptC = s.keptC := by simp [evaluatePlacement]
@[simp] theorem sendSchedule_keptC (n : Nat) (s : State)  : (sendSchedule n s).keptC = s.keptC := by simp [sendSchedule]
@[simp] theorem reschedule_keptC (joining : Option Nat) (s : State)  : (reschedule joining s).keptC = s.keptC := by simp [reschedule]
@[simp] theorem claimLocal_keptC (p : Policy) (i : Nat) (a : Bytes) (elapsed : Nat) (noFade : Bool) (s : State)  : (claimLocal p i a elapsed noFade s).keptC = s.keptC := by simp [claimLocal]
@[simp] theorem claimAgain_keptC (p : Policy) (n : Nat) (s : State)  : (claimAgain p n s).keptC = s.keptC := by simp [claimAgain]
@[simp] theorem decideContactor_keptC (r : Bytes) (k : Nat) (close : Bool) (s : State)  : (decideContactor r k close s).keptC = s.keptC := by simp [decideContactor]
@[simp] theorem runAction_keptC (p : Policy) (ts : List (Option Nat)) (i : Nat) (a : Bytes) (s : State)  : (runAction p ts i a s).keptC = s.keptC := by
  unfold runAction
  split
  · refine keptC_foldl _ (fun u q => ?_) _ _
    split
    · split <;> simp
    · simp
  · simp
  · dsimp only
    split <;> simp
  · rfl

@[simp] theorem firePolicy_keptC (p : Policy) (only : Nat → Bool) (s : State)  : (firePolicy p only s).keptC = s.keptC := by
  unfold firePolicy
  (try dsimp only)
  (repeat' split)
  all_goals (try simp)

@[simp] theorem scenePolicies_keptC (scene : Nat) (s : State)  : (scenePolicies scene s).keptC = s.keptC := by simp [scenePolicies]
@[simp] theorem applyDueAll_keptC (y0 : Nat) (s : State)  : (applyDueAll y0 s).keptC = s.keptC := by
  induction y0 generalizing s with
  | zero => rfl
  | succ k ih => unfold applyDueAll; split <;> simp [ih]

@[simp] theorem lampDue_keptC (s : State)  : (lampDue s).keptC = s.keptC := by simp [lampDue]
@[simp] theorem spanTrigger_keptC (pol : Nat) (s : State)  : (spanTrigger pol s).keptC = s.keptC := by
  unfold spanTrigger
  (try dsimp only)
  (repeat' split)
  all_goals (try simp)

@[simp] theorem catchUpPolicy_keptC (s : State) (p : Policy)  : (catchUpPolicy s p).keptC = s.keptC := by
  unfold catchUpPolicy
  (try dsimp only)
  (repeat' split)
  all_goals (try simp)

@[simp] theorem firmwareTakes_keptC (s : State)  : (firmwareTakes s).keptC = s.keptC := by simp [firmwareTakes]
@[simp] theorem evaluateNow_keptC (s : State)  : (evaluateNow s).keptC = s.keptC := by simp [evaluateNow]
@[simp] theorem sensorPolicy_keptC (n sensor heading : Nat) (prev : Option Int) (v : Int) (s : State) (p : Policy)  : (sensorPolicy n sensor heading prev v s p).keptC = s.keptC := by simp [sensorPolicy]
@[simp] theorem reportSubs_keptC (n sensor : Nat) (payload : Bytes) (s : State)  : (reportSubs n sensor payload s).keptC = s.keptC := by simp [reportSubs]
@[simp] theorem sensorEvent_keptC (n : Nat) (payload : Bytes) (s : State)  : (sensorEvent n payload s).keptC = s.keptC := by simp [sensorEvent]
@[simp] theorem meterConditions_keptC (s : State)  : (meterConditions s).keptC = s.keptC := by
  unfold meterConditions
  refine keptC_foldl _ (fun u n => ?_) _ _
  dsimp only
  split
  · rfl
  · split <;> simp

@[simp] theorem endPolicyClaims_keptC (pol : Nat) (s : State)  : (endPolicyClaims pol s).keptC = s.keptC := by
  unfold endPolicyClaims
  (try dsimp only)
  (repeat' split)
  all_goals (try simp)

@[simp] theorem askEvaluation_keptC (s : State)  : (askEvaluation s).keptC = s.keptC := by simp [askEvaluation]
@[simp] theorem policyLoad_keptC (c : LiveCmd) (s : State)  : (policyLoad c s).keptC = s.keptC := by
  unfold policyLoad
  (try dsimp only)
  (repeat' split)
  all_goals (try simp)

@[simp] theorem removePolicy_keptC (id : Nat) (s : State)  : (removePolicy id s).keptC = s.keptC := by simp [removePolicy]
@[simp] theorem policyRemove_keptC (c : LiveCmd) (s : State)  : (policyRemove c s).keptC = s.keptC := by simp [policyRemove]
@[simp] theorem policyList_keptC (c : LiveCmd) (s : State)  : (policyList c s).keptC = s.keptC := by simp [policyList]
@[simp] theorem placementRead_keptC (c : LiveCmd) (s : State)  : (placementRead c s).keptC = s.keptC := by simp [placementRead]
@[simp] theorem placementPin_keptC (c : LiveCmd) (s : State)  : (placementPin c s).keptC = s.keptC := by
  unfold placementPin
  (try dsimp only)
  (repeat' split)
  all_goals (try simp)

@[simp] theorem placementHold_keptC (c : LiveCmd) (s : State)  : (placementHold c s).keptC = s.keptC := by simp [placementHold]
@[simp] theorem sensorSubscribe_keptC (c : LiveCmd) (s : State)  : (sensorSubscribe c s).keptC = s.keptC := by
  unfold sensorSubscribe
  (try dsimp only)
  (repeat' split)
  all_goals (try simp)

@[simp] theorem imageStage_keptC (c : LiveCmd) (s : State)  : (imageStage c s).keptC = s.keptC := by
  unfold imageStage
  (try simp)
  (repeat' (split <;> try simp))

@[simp] theorem setTarget_keptC (img n code : Nat) (s : State)  : (setTarget img n code s).keptC = s.keptC := by simp [setTarget]
@[simp] theorem announceCache_keptC (r : Rollout) (i : LanImage) (m : Nat) (s : State)  : (announceCache r i m s).keptC = s.keptC := by simp [announceCache]
@[simp] theorem visitRollout_keptC (img : Nat) (s : State) (n : Nat)  : (visitRollout img s n).keptC = s.keptC := by
  unfold visitRollout
  (try dsimp only)
  (repeat' split)
  all_goals (try simp)

@[simp] theorem finishRollouts_keptC (s : State)  : (finishRollouts s).keptC = s.keptC := by simp [finishRollouts]
@[simp] theorem progressRollouts_keptC (s : State)  : (progressRollouts s).keptC = s.keptC := by simp [progressRollouts]
@[simp] theorem imageRollout_keptC (c : LiveCmd) (s : State)  : (imageRollout c s).keptC = s.keptC := by
  unfold imageRollout
  (try dsimp only)
  (repeat' split)
  all_goals (try simp)

@[simp] theorem rolloutCapability_keptC (n : Nat) (s : State)  : (rolloutCapability n s).keptC = s.keptC := by
  unfold rolloutCapability
  simp only [progressRollouts_keptC]
  refine keptC_foldl _ (fun u n => ?_) _ _
  split
  · split <;> simp
  · rfl

@[simp] theorem imageStatus_keptC (n : Nat) (p : Bytes) (s : State)  : (imageStatus n p s).keptC = s.keptC := by
  unfold imageStatus
  (try dsimp only)
  (repeat' split)
  all_goals (try simp)

@[simp] theorem chunkRequest_keptC (n : Nat) (p : Bytes) (s : State)  : (chunkRequest n p s).keptC = s.keptC := by
  unfold chunkRequest
  (try dsimp only)
  (repeat' split)
  all_goals (try simp)

@[simp] theorem spanStart_keptC (c : LiveCmd) (s : State)  : (spanStart c s).keptC = s.keptC := by
  unfold spanStart
  (try dsimp only)
  (repeat' split)
  all_goals (try simp)

@[simp] theorem stopSpan_keptC (s : State)  : (stopSpan s).keptC = s.keptC := by simp [stopSpan]
@[simp] theorem spanStop_keptC (c : LiveCmd) (s : State)  : (spanStop c s).keptC = s.keptC := by simp [spanStop]
@[simp] theorem lanternAdmit_keptC (c : LiveCmd) (s : State)  : (lanternAdmit c s).keptC = s.keptC := by
  unfold lanternAdmit
  (try simp)
  (repeat' (split <;> try simp))

@[simp] theorem lanternRemove_keptC (c : LiveCmd) (s : State)  : (lanternRemove c s).keptC = s.keptC := by simp [lanternRemove]
@[simp] theorem lanternQuery_keptC (c : LiveCmd) (s : State)  : (lanternQuery c s).keptC = s.keptC := by
  unfold lanternQuery
  (try dsimp only)
  (repeat' split)
  all_goals (try simp)

@[simp] theorem lanternSend_keptC (c : LiveCmd) (s : State)  : (lanternSend c s).keptC = s.keptC := by simp [lanternSend]
@[simp] theorem floodSend_keptC (c : LiveCmd) (s : State)  : (floodSend c s).keptC = s.keptC := by simp [floodSend]
@[simp] theorem topologyRead_keptC (c : LiveCmd) (s : State)  : (topologyRead c s).keptC = s.keptC := by simp [topologyRead]
@[simp] theorem regionLoad_keptC (c : LiveCmd) (s : State)  : (regionLoad c s).keptC = s.keptC := by
  unfold regionLoad
  (try dsimp only)
  (repeat' split)
  all_goals (try simp)

@[simp] theorem loadPort_keptC (k : Nat) (p miso : Bytes) (s : State)  : (loadPort k p miso s).1.keptC = s.keptC := by simp [loadPort]
@[simp] theorem radioLoad_keptC (misoA misoB : Bytes) (c : LiveCmd) (s : State)  : (radioLoad misoA misoB c s).keptC = s.keptC := by
  unfold radioLoad
  (try dsimp only)
  (repeat' split)
  all_goals (try simp)

@[simp] theorem dwellStatus_keptC (c : LiveCmd) (s : State)  : (dwellStatus c s).keptC = s.keptC := by
  unfold dwellStatus
  (try dsimp only)
  (repeat' split)
  all_goals (try simp)

@[simp] theorem withMsg_keptC (type origin : Nat) (f : InMsg → State → State) (s : State) (hf : ∀ x0 u, (f x0 u).keptC = u.keptC) : (withMsg type origin f s).keptC = s.keptC := by
  unfold withMsg
  (try dsimp only)
  (repeat' split)
  all_goals (try simp [hf])

@[simp] theorem fromLantern_keptC (type n : Nat) (f : Lantern → InMsg → State → State) (s : State) (hf : ∀ x0 x1 u, (f x0 x1 u).keptC = u.keptC) : (fromLantern type n f s).keptC = s.keptC := by
  unfold fromLantern
  exact withMsg_keptC _ _ _ _ (fun m u => by split <;> simp [hf])

@[simp] theorem joinRefused_keptC (eui reason proxy : Nat) (s : State)  : (joinRefused eui reason proxy s).keptC = s.keptC := by simp [joinRefused]
@[simp] theorem sendKey_keptC (phase asn n : Nat) (s : State)  : (sendKey phase asn n s).keptC = s.keptC := by simp [sendKey]
@[simp] theorem pushScenes_keptC (n : Nat) (s : State)  : (pushScenes n s).keptC = s.keptC := by simp [pushScenes]
@[simp] theorem welcome_keptC (n : Nat) (s : State)  : (welcome n s).keptC = s.keptC := by
  unfold welcome
  (try dsimp only)
  (repeat' split)
  all_goals (try simp)

@[simp] theorem capability_keptC (n : Nat) (l : Lantern) (m : InMsg) (s : State)  : (capability n l m s).keptC = s.keptC := by simp [capability]
@[simp] theorem neighbourReport_keptC (n : Nat) (l : Lantern) (m : InMsg) (s : State)  : (neighbourReport n l m s).keptC = s.keptC := by
  unfold neighbourReport
  (try dsimp only)
  (repeat' split)
  all_goals (try simp)

@[simp] theorem clearSilent_keptC (n : Nat) (s : State)  : (clearSilent n s).keptC = s.keptC := by
  unfold clearSilent
  (try dsimp only)
  (repeat' split)
  all_goals (try simp)

@[simp] theorem missBeacon_keptC (n cyc : Nat) (s : State)  : (missBeacon n cyc s).keptC = s.keptC := by simp [missBeacon]
@[simp] theorem beaconMiss_keptC (n : Nat) (m : InMsg) (s : State)  : (beaconMiss n m s).keptC = s.keptC := by simp [beaconMiss]
@[simp] theorem annexHeard_keptC (c : AnnexCand) (s : State)  : (annexHeard c s).keptC = s.keptC := by simp [annexHeard]
@[simp] theorem response_keptC (n : Nat) (m : InMsg) (s : State)  : (response n m s).keptC = s.keptC := by
  unfold response
  (try dsimp only)
  (repeat' split)
  all_goals (try simp)

@[simp] theorem fragmentInventory_keptC (n : Nat) (m : InMsg) (s : State)  : (fragmentInventory n m s).keptC = s.keptC := by simp [fragmentInventory]
@[simp] theorem settleGap_keptC (s : State)  : (settleGap s).keptC = s.keptC := by simp [settleGap]
@[simp] theorem returnClock_keptC (edges : List Nat) (s : State)  : (returnClock edges s).keptC = s.keptC := by simp [returnClock]
@[simp] theorem presenceSecond_keptC (s : State)  : (presenceSecond s).keptC = s.keptC := by
  unfold presenceSecond
  (try dsimp only)
  (repeat' split)
  all_goals (try simp)

@[simp] theorem saveSecond_keptC (s : State)  : (saveSecond s).keptC = s.keptC := by simp [saveSecond]
@[simp] theorem restartSecond_keptC (s : State)  : (restartSecond s).keptC = s.keptC := by
  unfold restartSecond
  (try dsimp only)
  (repeat' split)
  all_goals (try simp)

@[simp] theorem windowSecond_keptC (s : State)  : (windowSecond s).keptC = s.keptC := by
  unfold windowSecond
  (try dsimp only)
  (repeat' split)
  all_goals (try simp)

@[simp] theorem flushTotals_keptC (s : State)  : (flushTotals s).keptC = s.keptC := by
  unfold flushTotals
  (try dsimp only)
  (repeat' split)
  all_goals (try simp)

@[simp] theorem noteResult_keptC (r : ReconRes) (need : Nat) (s : State)  : (noteResult r need s).keptC = s.keptC := by simp [noteResult]
@[simp] theorem reconcile_keptC (w : ReconWin) (s : State)  : (reconcile w s).keptC = s.keptC := by simp [reconcile]
@[simp] theorem reconcilePrev_keptC (s : State)  : (reconcilePrev s).keptC = s.keptC := by
  unfold reconcilePrev
  (try dsimp only)
  (repeat' split)
  all_goals (try simp)

@[simp] theorem windowEnds_keptC (c : Nat) (s : State)  : (windowEnds c s).keptC = s.keptC := by simp [windowEnds]
@[simp] theorem windowBegins_keptC (c : Nat) (s : State)  : (windowBegins c s).keptC = s.keptC := by simp [windowBegins]
@[simp] theorem windowsStop_keptC (s : State)  : (windowsStop s).keptC = s.keptC := by
  unfold windowsStop
  (try dsimp only)
  (repeat' split)
  all_goals (try simp)

@[simp] theorem modWindow_keptC (start : Nat) (f : ReconWin → ReconWin) (s : State)  : (modWindow start f s).keptC = s.keptC := by simp [modWindow]
@[simp] theorem energyAggregate_keptC (head : Nat) (p : Bytes) (s : State)  : (energyAggregate head p s).keptC = s.keptC := by simp [energyAggregate]
@[simp] theorem standbyWindow_keptC (s : State)  : (standbyWindow s).keptC = s.keptC := by
  unfold standbyWindow
  (try dsimp only)
  (repeat' split)
  all_goals (try simp)

@[simp] theorem meterRead_keptC (c : LiveCmd) (s : State)  : (meterRead c s).keptC = s.keptC := by simp [meterRead]
@[simp] theorem energyRead_keptC (c : LiveCmd) (s : State)  : (energyRead c s).keptC = s.keptC := by simp [energyRead]
@[simp] theorem pulseInputRead_keptC (c : LiveCmd) (s : State)  : (pulseInputRead c s).keptC = s.keptC := by simp [pulseInputRead]
@[simp] theorem reconcileRead_keptC (c : LiveCmd) (s : State)  : (reconcileRead c s).keptC = s.keptC := by simp [reconcileRead]
@[simp] theorem meterCalibrate_keptC (c : LiveCmd) (s : State)  : (meterCalibrate c s).keptC = s.keptC := by simp [meterCalibrate]
@[simp] theorem selftestResult_keptC (c : LiveCmd) (s : State)  : (selftestResult c s).keptC = s.keptC := by
  unfold selftestResult
  (try dsimp only)
  (repeat' split)
  all_goals (try simp)

@[simp] theorem sendHealth_keptC (s : State)  : (sendHealth s).keptC = s.keptC := by simp [sendHealth]
@[simp] theorem sendHello_keptC (s : State)  : (sendHello s).keptC = s.keptC := by simp [sendHello]
@[simp] theorem linkDown_keptC (s : State)  : (linkDown s).keptC = s.keptC := by simp [linkDown]
@[simp] theorem heard_keptC (s : State)  : (heard s).keptC = s.keptC := by simp [heard]
@[simp] theorem frameBad_keptC (s : State)  : (frameBad s).keptC = s.keptC := by simp [frameBad]
@[simp] theorem onLink_keptC (type : Nat) (f : LinkIn) (k : State → State) (s : State) (hk : ∀ u, (k u).keptC = u.keptC) : (onLink type f k s).keptC = s.keptC := by simp [onLink, hk]
@[simp] theorem assertLease_keptC (cause : Nat) (s : State)  : (assertLease cause s).keptC = s.keptC := by simp [assertLease]
@[simp] theorem linkUp_keptC (h : PeerHello) (s : State)  : (linkUp h s).keptC = s.keptC := by simp [linkUp]
@[simp] theorem trainLink_keptC (s : State)  : (trainLink s).keptC = s.keptC := by
  unfold trainLink
  (try dsimp only)
  (repeat' split)
  all_goals (try simp)

@[simp] theorem twinHello_keptC (f : LinkIn) (s : State)  : (twinHello f s).keptC = s.keptC := by simp [twinHello]
@[simp] theorem inSequence_keptC (type : Nat) (f : LinkIn) (ok : State → State) (s : State) (hok : ∀ u, (ok u).keptC = u.keptC) : (inSequence type f ok s).keptC = s.keptC := by
  unfold inSequence
  (try dsimp only)
  (repeat' split)
  all_goals (try simp [hok])

@[simp] theorem nak_keptC (f : LinkIn) (s : State)  : (nak f s).keptC = s.keptC := by simp [nak]
@[simp] theorem renewAndCopy_keptC (cycle : Nat) (step : Int) (s : State)  : (renewAndCopy cycle step s).keptC = s.keptC := by simp [renewAndCopy]
@[simp] theorem releaseLease_keptC (s : State)  : (releaseLease s).keptC = s.keptC := by simp [releaseLease]
@[simp] theorem leaveTwin_keptC (s : State)  : (leaveTwin s).keptC = s.keptC := by simp [leaveTwin]
@[simp] theorem copySegment_keptC (f : LinkIn) (s : State)  : (copySegment f s).keptC = s.keptC := by
  unfold copySegment
  exact inSequence_keptC _ _ _ _ (fun _ => rfl)

@[simp] theorem copyAck_keptC (f : LinkIn) (s : State)  : (copyAck f s).keptC = s.keptC := by
  unfold copyAck
  (try dsimp only)
  (repeat' split)
  all_goals (try simp)

@[simp] theorem yieldDone_keptC (cycle : Nat) (s : State)  : (yieldDone cycle s).keptC = s.keptC := by simp [yieldDone]
@[simp] theorem standbyCycle_keptC (s : State)  : (standbyCycle s).keptC = s.keptC := by simp [standbyCycle]
@[simp] theorem holderCycle_keptC (cycle : Nat) (step : Int) (s : State)  : (holderCycle cycle step s).keptC = s.keptC := by simp [holderCycle]
@[simp] theorem journalFrame_keptC (f : LinkIn) (s : State)  : (journalFrame f s).keptC = s.keptC := by simp [journalFrame]
@[simp] theorem journalAck_keptC (f : LinkIn) (s : State)  : (journalAck f s).keptC = s.keptC := by
  unfold journalAck
  (try dsimp only)
  (repeat' split)
  all_goals (try simp)

@[simp] theorem journalAccept_keptC (c : LiveCmd) (s : State)  : (journalAccept c s).keptC = s.keptC := by simp [journalAccept]
@[simp] theorem echoFed_keptC (f : LinkIn) (s : State)  : (echoFed f s).keptC = s.keptC := by simp [echoFed]
@[simp] theorem echoDone_keptC (f : LinkIn) (s : State)  : (echoDone f s).keptC = s.keptC := by
  unfold echoDone
  (try dsimp only)
  (repeat' split)
  all_goals (try simp)

@[simp] theorem timeExchange_keptC (s : State)  : (timeExchange s).keptC = s.keptC := by simp [timeExchange]
@[simp] theorem resumeMeter_keptC (img : CopyImage) (s : State)  : (resumeMeter img s).keptC = s.keptC := by simp [resumeMeter]
@[simp] theorem resumeAlarms_keptC (img : CopyImage) (s : State)  : (resumeAlarms img s).keptC = s.keptC := by simp [resumeAlarms]
@[simp] theorem advanceSeries_keptC (s : State)  : (advanceSeries s).keptC = s.keptC := by simp [advanceSeries]
@[simp] theorem resumeCopy_keptC (img : CopyImage) (s : State)  : (resumeCopy img s).keptC = s.keptC := by simp [resumeCopy]
@[simp] theorem reportUnknown_keptC (us : List JournalEnt) (s : State)  : (reportUnknown us s).keptC = s.keptC := by simp [reportUnknown]
@[simp] theorem takeoverWindow_keptC (s : State)  : (takeoverWindow s).keptC = s.keptC := by simp [takeoverWindow]
@[simp] theorem takeover_keptC (s : State)  : (takeover s).keptC = s.keptC := by
  unfold takeover
  (try dsimp only)
  (repeat' split)
  all_goals (try simp)

@[simp] theorem arbitrate_keptC (s : State)  : (arbitrate s).keptC = s.keptC := by
  unfold arbitrate
  (try dsimp only)
  (repeat' split)
  all_goals (try simp)

@[simp] theorem leaseInAssert_keptC (s : State)  : (leaseInAssert s).keptC = s.keptC := by simp [leaseInAssert]
@[simp] theorem leaseInDeassert_keptC (s : State)  : (leaseInDeassert s).keptC = s.keptC := by simp [leaseInDeassert]
@[simp] theorem noteUnhealthy_keptC (s : State)  : (noteUnhealthy s).keptC = s.keptC := by simp [noteUnhealthy]
@[simp] theorem twinStatus_keptC (c : LiveCmd) (s : State)  : (twinStatus c s).keptC = s.keptC := by simp [twinStatus]
@[simp] theorem leaseYield_keptC (c : LiveCmd) (s : State)  : (leaseYield c s).keptC = s.keptC := by simp [leaseYield]
@[simp] theorem countRefusals_keptC (l : List Nat) (s : State)  : (countRefusals l s).keptC = s.keptC := by simp [countRefusals]
@[simp] theorem countEntry_keptC (q : PState) (s : State)  : (countEntry q s).keptC = s.keptC := by simp [countEntry]
@[simp] theorem beginEntry_keptC (s : State)  : (beginEntry s).keptC = s.keptC := by simp [beginEntry]
@[simp] theorem chooseState_keptC (y0 : List PState) (s : State)  : (chooseState y0 s).keptC = s.keptC := by
  induction y0 generalizing s with
  | nil => rfl
  | cons q l ih =>
    unfold chooseState
    dsimp only
    (repeat' split) <;> simp only [ih, countRefusals_keptC, beginEntry_keptC, countEntry_keptC, setPState_keptC, keptC_draw]

@[simp] theorem applyOpPoint_keptC (s : State)  : (applyOpPoint s).keptC = s.keptC := by simp [applyOpPoint]
@[simp] theorem restoreSpan_keptC (s : State)  : (restoreSpan s).keptC = s.keptC := keptC_modTime _ _
@[simp] theorem enterSlumber_keptC (s : State)  : (enterSlumber s).keptC = s.keptC := by simp [enterSlumber]
@[simp] theorem meterResumes_keptC (s : State)  : (meterResumes s).keptC = s.keptC := by
  unfold meterResumes
  (try dsimp only)
  (repeat' split)
  all_goals (try simp)

@[simp] theorem abandonAt_keptC (point : Nat) (s : State)  : (abandonAt point s).keptC = s.keptC := by simp [abandonAt]
@[simp] theorem checkinTick_keptC (s : State)  : (checkinTick s).keptC = s.keptC := by simp [checkinTick]
@[simp] theorem powerStatus_keptC (c : LiveCmd) (s : State)  : (powerStatus c s).keptC = s.keptC := by simp [powerStatus]
@[simp] theorem powerRefusalsRead_keptC (c : LiveCmd) (s : State)  : (powerRefusalsRead c s).keptC = s.keptC := by simp [powerRefusalsRead]
@[simp] theorem modSlot_keptC (k : Nat) (f : SlotImg → SlotImg) (s : State)  : (modSlot k f s).keptC = s.keptC := by simp [modSlot]
@[simp] theorem endFragments_keptC (s : State)  : (endFragments s).keptC = s.keptC := by simp [endFragments]
@[simp] theorem newSessionUpd_keptC (h : Bytes) (target : Nat) (s : State)  : (newSessionUpd h target s).keptC = s.keptC := by simp [newSessionUpd]
@[simp] theorem programFrag_keptC (x : UpdSession) (i : Nat) (d : Bytes) (s : State)  : (programFrag x i d s).keptC = s.keptC := by simp [programFrag]
@[simp] theorem storeFragment_keptC (c : LiveCmd) (s : State)  : (storeFragment c s).keptC = s.keptC := by
  unfold storeFragment
  (try dsimp only)
  (repeat' split)
  all_goals (try simp)

@[simp] theorem updateFragment_keptC (c : LiveCmd) (s : State)  : (updateFragment c s).keptC = s.keptC := by simp [updateFragment]
@[simp] theorem sectorErased_keptC (s : State)  : (sectorErased s).keptC = s.keptC := by
  unfold sectorErased
  (try dsimp only)
  (repeat' split)
  all_goals (try simp)

@[simp] theorem verifyDone_keptC (s : State)  : (verifyDone s).keptC = s.keptC := by
  unfold verifyDone
  (try dsimp only)
  (repeat' split)
  all_goals (try simp)

@[simp] theorem updateStatus_keptC (c : LiveCmd) (s : State)  : (updateStatus c s).keptC = s.keptC := by simp [updateStatus]
@[simp] theorem resetTimeUnit_keptC (s : State)  : (resetTimeUnit s).keptC = s.keptC := by simp [resetTimeUnit]
@[simp] theorem migrate_keptC (s : State)  : (migrate s).keptC = s.keptC := by
  unfold migrate
  (try dsimp only)
  (repeat' split)
  all_goals (try simp)

@[simp] theorem restoreTotals_keptC (s : State)  : (restoreTotals s).keptC = s.keptC := by
  unfold restoreTotals
  (try dsimp only)
  (repeat' split)
  all_goals (try simp)

@[simp] theorem restartEvents_keptC (cold : Bool) (s : State)  : (restartEvents cold s).keptC = s.keptC := by simp [restartEvents]
@[simp] theorem alarmStart_keptC (i : Nat) (s : State)  : (alarmStart i s).keptC = s.keptC := by
  unfold alarmStart
  (try dsimp only)
  (repeat' split)
  all_goals (try simp)

@[simp] theorem resetCause_keptC (s : State)  : (resetCause s).keptC = s.keptC := by simp [resetCause]
@[simp] theorem testFails_keptC (origin : Nat) (l : List (TestUnit × List (Nat × Nat))) (s : State)  : (testFails origin l s).keptC = s.keptC := by simp [testFails]
@[simp] theorem writeLatch_keptC (s : State)  : (writeLatch s).keptC = s.keptC := by simp [writeLatch]
@[simp] theorem modRecovery_keptC (f : Recovery → Recovery) (s : State)  : (modRecovery f s).keptC = s.keptC := by simp [modRecovery]
@[simp] theorem romSend_keptC (b : Bytes) (s : State)  : (romSend b s).keptC = s.keptC := by simp [romSend]
@[simp] theorem romStatus_keptC (seq status detail : Nat) (s : State)  : (romStatus seq status detail s).keptC = s.keptC := by simp [romStatus]
@[simp] theorem romCommand_keptC (type : Nat) (f : Bytes) (body : Bytes → State → State × Nat × Nat) (s : State) (hbody : ∀ x0 u, (body x0 u).1.keptC = u.keptC) : (romCommand type f body s).keptC = s.keptC := by
  unfold romCommand
  dsimp only
  (repeat' split) <;> simp [hbody]

@[simp] theorem romBegin_keptC (h : Bytes) (s : State)  : (romBegin h s).1.keptC = s.keptC := by
  unfold romBegin
  (try dsimp only)
  (repeat' split)
  all_goals (try simp)

@[simp] theorem romData_keptC (p : Bytes) (s : State)  : (romData p s).1.keptC = s.keptC := by
  unfold romData
  (try dsimp only)
  (repeat' split)
  all_goals (try simp)

@[simp] theorem romHello_keptC (s : State)  : (romHello s).keptC = s.keptC := by simp [romHello]
@[simp] theorem refusePacket_keptC (t : Transport) (sid : Option Nat) (b : Bytes) (st d : Nat) (s : State)  : (refusePacket t sid b st d s).keptC = s.keptC := by
  unfold refusePacket
  (try dsimp only)
  (repeat' split)
  all_goals (try simp)

@[simp] theorem safeReply_keptC (t : Transport) (charged : Bool) (b : Bytes) (st d seq : Nat) (s : State)  : (safeReply t charged b st d seq s).keptC = s.keptC := by
  unfold safeReply
  (try dsimp only)
  (repeat' split)
  all_goals (try simp)

@[simp] theorem safeAnswer_keptC (t : Transport) (charged : Bool) (b : Bytes) (s : State)  : (safeAnswer t charged b s).keptC = s.keptC := by
  unfold safeAnswer
  (try dsimp only)
  (repeat' split)
  all_goals (try simp)

@[simp] theorem enqueue_keptC (e : InEntry) (s : State)  : (enqueue e s).keptC = s.keptC := by simp [enqueue]
@[simp] theorem offerOn_keptC (t : Transport) (n : Nat) (x : Session) (b : Bytes) (s : State)  : (offerOn t n x b s).keptC = s.keptC := by simp [offerOn]
@[simp] theorem offerLocal_keptC (t : Transport) (b : Bytes) (s : State)  : (offerLocal t b s).keptC = s.keptC := by
  unfold offerLocal
  (try dsimp only)
  (repeat' split)
  all_goals (try simp)

@[simp] theorem dropOut_keptC (t : Transport) (sid : Option Nat) (p : OutPkt) (s : State)  : (dropOut t sid p s).keptC = s.keptC := by
  unfold dropOut
  (try dsimp only)
  (repeat' split)
  all_goals (try simp)

@[simp] theorem modWin_keptC (f : Window → Window) (s : State)  : (modWin f s).keptC = s.keptC := by simp [modWin]
@[simp] theorem hspi_keptC (f : State → State) (s : State) (hf : ∀ u, (f u).keptC = u.keptC) : (hspi f s).keptC = s.keptC := by simp [hspi, hf]
@[simp] theorem writeStatus_keptC (v : Nat) (s : State)  : (writeStatus v s).keptC = s.keptC := by simp [writeStatus]
@[simp] theorem writeCause_keptC (v : Nat) (s : State)  : (writeCause v s).keptC = s.keptC := by simp [writeCause]
@[simp] theorem ethDrop_keptC (s : State)  : (ethDrop s).keptC = s.keptC := by simp [ethDrop]
@[simp] theorem ethOut_keptC (peer : Nat) (b : Bytes) (s : State)  : (ethOut peer b s).keptC = s.keptC := by simp [ethOut]
@[simp] theorem refuseHandshake_keptC (peer st : Nat) (s : State)  : (refuseHandshake peer st s).keptC = s.keptC := by simp [refuseHandshake]
@[simp] theorem openEth_keptC (peer role n : Nat) (hostKey p z : Bytes) (d : Nat) (s : State)  : (openEth peer role n hostKey p z d s).keptC = s.keptC := by simp [openEth]
@[simp] theorem takePacket_keptC (n : Nat) (b : Bytes) (s : State)  : (takePacket n b s).keptC = s.keptC := by
  unfold takePacket
  (try dsimp only)
  (repeat' split)
  all_goals (try simp)

@[simp] theorem modChan_keptC (n : Nat) (f : EthChan → EthChan) (s : State)  : (modChan n f s).keptC = s.keptC := by simp [modChan]
@[simp] theorem takeHeld_keptC (n : Nat) (y0 : Nat) (s : State)  : (takeHeld n y0 s).keptC = s.keptC := by
  induction y0 generalizing s with
  | zero => rfl
  | succ k ih => unfold takeHeld; (repeat' split) <;> simp [ih]

@[simp] theorem dataIn_keptC (peer : Nat) (p : Bytes) (s : State)  : (dataIn peer p s).keptC = s.keptC := by
  unfold dataIn
  (try dsimp only)
  (repeat' split)
  all_goals (try simp)

@[simp] theorem reorderTimeout_keptC (n : Nat) (s : State)  : (reorderTimeout n s).keptC = s.keptC := by
  unfold reorderTimeout
  (try dsimp only)
  (repeat' split)
  all_goals (try simp)

@[simp] theorem supersede_keptC (b a : LiveCmd) (s : State)  : (supersede b a s).keptC = s.keptC := by simp [supersede]
@[simp] theorem supersedeAll_keptC (b : LiveCmd) (s : State)  : (supersedeAll b s).keptC = s.keptC := by simp [supersedeAll]
@[simp] theorem acceptPacket_keptC (t : Transport) (sid : Option Nat) (b : Bytes) (s : State)  : (acceptPacket t sid b s).keptC = s.keptC := by
  unfold acceptPacket
  (try dsimp only)
  (repeat' split)
  all_goals (try simp)

@[simp] theorem intakeService_keptC (s : State)  : (intakeService s).keptC = s.keptC := by
  unfold intakeService
  (try dsimp only)
  (repeat' split)
  all_goals (try simp)

@[simp] theorem dropUntaken_keptC (q : Nat) (s : State)  : (dropUntaken q s).keptC = s.keptC := by simp [dropUntaken]
@[simp] theorem releaseTaken_keptC (q : Nat) (s : State)  : (releaseTaken q s).keptC = s.keptC := by simp [releaseTaken]
@[simp] theorem dropTxns_keptC (q : Nat) (s : State)  : (dropTxns q s).keptC = s.keptC := by simp [dropTxns]
@[simp] theorem oweLate_keptC (c : LiveCmd) (mesh : Bool) (s : State)  : (oweLate c mesh s).keptC = s.keptC := by simp [oweLate]
@[simp] theorem timeout_keptC (c : LiveCmd) (s : State)  : (timeout c s).keptC = s.keptC := by
  unfold timeout
  (try dsimp only)
  (repeat' split)
  all_goals (try simp)

@[simp] theorem loseRecord_keptC (index : Nat) (s : State)  : (loseRecord index s).keptC = s.keptC := by simp [loseRecord]
@[simp] theorem loseTotals_keptC (copy : Nat) (s : State)  : (loseTotals copy s).keptC = s.keptC := by simp [loseTotals]
@[simp] theorem newNetworkKey_keptC (s : State)  : (newNetworkKey s).keptC = s.keptC := by simp [newNetworkKey]
@[simp] theorem keyUpdate_keptC (c : Nat) (s : State)  : (keyUpdate c s).keptC = s.keptC := by simp [keyUpdate]
@[simp] theorem beginSpan_keptC (t : Nat) (s : State)  : (beginSpan t s).keptC = s.keptC := by simp [beginSpan]
@[simp] theorem startDone_keptC (s : State)  : (startDone s).keptC = s.keptC := by simp [startDone]
@[simp] theorem countMisses_keptC (ended : Nat) (s : State)  : (countMisses ended s).keptC = s.keptC := by simp [countMisses]
@[simp] theorem countRouteless_keptC (s : State)  : (countRouteless s).keptC = s.keptC := by simp [countRouteless]
@[simp] theorem ownExpiry_keptC (s : State)  : (ownExpiry s).keptC = s.keptC := by simp [ownExpiry]
@[simp] theorem guards_keptC (s : State)  : (guards s).keptC = s.keptC := by simp [guards]
@[simp] theorem epochFlood_keptC (s : State)  : (epochFlood s).keptC = s.keptC := by simp [epochFlood]
@[simp] theorem placementDue_keptC (c : Nat) (s : State)  : (placementDue c s).keptC = s.keptC := by simp [placementDue]
@[simp] theorem saveTable_keptC (c : Nat) (s : State)  : (saveTable c s).keptC = s.keptC := by simp [saveTable]
@[simp] theorem countPorts_keptC (s : State)  : (countPorts s).keptC = s.keptC := by simp [countPorts]
@[simp] theorem cycleDuties_keptC (c : Nat) (s : State)  : (cycleDuties c s).keptC = s.keptC := by simp [cycleDuties]
@[simp] theorem twinAtT_keptC (cycle : Nat) (s : State)  : (twinAtT cycle s).keptC = s.keptC := by simp [twinAtT]
@[simp] theorem tickSpan_keptC (s : State)  : (tickSpan s).keptC = s.keptC := by simp [tickSpan]
@[simp] theorem tickRtc_keptC (s : State)  : (tickRtc s).keptC = s.keptC := by simp [tickRtc]
@[simp] theorem tickWatchdogs_keptC (s : State)  : (tickWatchdogs s).keptC = s.keptC := by simp [tickWatchdogs]
@[simp] theorem tickLine_keptC (s : State)  : (tickLine s).keptC = s.keptC := by
  unfold tickLine
  (try dsimp only)
  (repeat' split)
  all_goals (try simp)

@[simp] theorem settleLease_keptC (s : State)  : (settleLease s).keptC = s.keptC := by simp [settleLease]
@[simp] theorem tickHealth_keptC (s : State)  : (tickHealth s).keptC = s.keptC := by simp [tickHealth]
theorem execTimeSourceSet_keptC (sid : Nat) (tag : Nat) (s u : State) (h : execTimeSourceSet sid tag s = .next u) : u.keptC = s.keptC := by
  unfold execTimeSourceSet at h
  cases h
  simp

theorem execAnnexParentLost_keptC (heard : Bool) (s u : State) (h : execAnnexParentLost heard s = .next u) : u.keptC = s.keptC := by
  unfold execAnnexParentLost at h
  cases h
  simp

theorem execPtpAnnounce_keptC (m : PtpAnn) (s u : State) (h : execPtpAnnounce m s = .next u) : u.keptC = s.keptC := by
  unfold execPtpAnnounce at h
  cases h
  simp

theorem execAnnounceReceiptTimeout_keptC  (s u : State) (h : execAnnounceReceiptTimeout  s = .next u) : u.keptC = s.keptC := by
  unfold execAnnounceReceiptTimeout at h
  cases h
  simp

theorem execSyncLossTimeout_keptC  (s u : State) (h : execSyncLossTimeout  s = .next u) : u.keptC = s.keptC := by
  unfold execSyncLossTimeout at h
  cases h
  simp

theorem execGnssEdgeLoss_keptC  (s u : State) (h : execGnssEdgeLoss  s = .next u) : u.keptC = s.keptC := by
  unfold execGnssEdgeLoss at h
  cases h
  simp

theorem execGnssLabelLoss_keptC  (s u : State) (h : execGnssLabelLoss  s = .next u) : u.keptC = s.keptC := by
  unfold execGnssLabelLoss at h
  cases h
  simp

theorem execSourcePreferenceTimer_keptC (source : Nat) (s u : State) (h : execSourcePreferenceTimer source s = .next u) : u.keptC = s.keptC := by
  unfold execSourcePreferenceTimer at h
  cases h
  simp

theorem execTwinLinkDownTimeout_keptC  (s u : State) (h : execTwinLinkDownTimeout  s = .next u) : u.keptC = s.keptC := by
  unfold execTwinLinkDownTimeout at h
  cases h
  simp

theorem execLeaseInAssert_keptC  (s u : State) (h : execLeaseInAssert  s = .next u) : u.keptC = s.keptC := by
  unfold execLeaseInAssert at h
  cases h
  simp

theorem execInterlockOpen_keptC  (s u : State) (h : execInterlockOpen  s = .next u) : u.keptC = s.keptC := by
  unfold execInterlockOpen at h
  cases h
  simp

end Sys2Proof.Machine
end

