-- ==== Sys2Proof/Laws/FrameD.lean ====
section
/-! SUPPORT. The frame of the commands of partsKeys: what every operation they use, and each of them, leaves alone. -/

namespace Sys2Proof.Machine

set_option Elab.async false

/-- What the commands of partsKeys leave alone. -/
def State.keptD (s : State) : Nat × TimeUnit × Rtc × SettingsSt × LampSt × Otp × SelfTestSt × BootSt × List Instr :=
  (s.now, s.time, s.rtc, s.set, s.lamp, s.otp, s.bist, s.boot, s.pending)

@[simp] theorem keptD_modHost (s : State) (f) : (s.modHost f).keptD = s.keptD := by have h : (s.modHost f).keptD = s.keptD := rfl; exact h
@[simp] theorem keptD_modFb (s : State) (f) : (s.modFb f).keptD = s.keptD := by have h : (s.modFb f).keptD = s.keptD := rfl; exact h
@[simp] theorem keptD_modMac (s : State) (f) : (s.modMac f).keptD = s.keptD := by have h : (s.modMac f).keptD = s.keptD := rfl; exact h
@[simp] theorem keptD_modPar (s : State) (f) : (s.modPar f).keptD = s.keptD := by have h : (s.modPar f).keptD = s.keptD := rfl; exact h
@[simp] theorem keptD_modSec (s : State) (f) : (s.modSec f).keptD = s.keptD := by have h : (s.modSec f).keptD = s.keptD := rfl; exact h
@[simp] theorem keptD_modUpd (s : State) (f) : (s.modUpd f).keptD = s.keptD := by have h : (s.modUpd f).keptD = s.keptD := rfl; exact h
@[simp] theorem keptD_modPwr (s : State) (f) : (s.modPwr f).keptD = s.keptD := by have h : (s.modPwr f).keptD = s.keptD := rfl; exact h
@[simp] theorem keptD_draw (s : State) : s.draw.keptD = s.keptD := by have h : s.draw.keptD = s.keptD := rfl; exact h
@[simp] theorem keptD_free (s : State) (n : Nat) : ({ s with freeIdx := n } : State).keptD = s.keptD := rfl
@[simp] theorem keptD_modTwin (s : State) (f) : (s.modTwin f).keptD = s.keptD := by have h : (s.modTwin f).keptD = s.keptD := rfl; exact h
@[simp] theorem keptD_modOut (s : State) (f) : (s.modOut f).keptD = s.keptD := by have h : (s.modOut f).keptD = s.keptD := rfl; exact h
@[simp] theorem keptD_modMeter (s : State) (f) : (s.modMeter f).keptD = s.keptD := by have h : (s.modMeter f).keptD = s.keptD := rfl; exact h
@[simp] theorem keptD_modTruss (s : State) (f) : (s.modTruss f).keptD = s.keptD := by have h : (s.modTruss f).keptD = s.keptD := rfl; exact h
@[simp] theorem keptD_foldl {α : Type} (f : State → α → State) (h : ∀ s x, (f s x).keptD = s.keptD) (l : List α) (s : State) :
    (l.foldl f s).keptD = s.keptD := by
  induction l generalizing s with
  | nil => rfl
  | cons a l ih => simp only [List.foldl_cons, ih, h]
@[simp] theorem keptD_ite (c : Prop) [Decidable c] (a b : State) : (if c then a else b).keptD = if c then a.keptD else b.keptD := by
  split <;> rfl
theorem keptD_foldl2 {α : Type} (f : State → α → State) (h : ∀ s x, (f s x).keptD = s.keptD) (l : List α) (s u : State)
    (e : s.keptD = u.keptD) : (l.foldl f s).keptD = u.keptD := by rw [keptD_foldl f h, e]
@[simp] theorem onBank_keptD (k : Nat) (f : State → State) (s : State) (hf : ∀ u, (f u).keptD = u.keptD) : (onBank k f s).keptD = s.keptD := by simp [onBank, hf]
@[simp] theorem twinPut_keptD (type : Nat) (payload : Bytes) (s : State)  : (twinPut type payload s).keptD = s.keptD := by simp [twinPut]
@[simp] theorem twinSend_keptD (type : Nat) (payload : Bytes) (s : State)  : (twinSend type payload s).keptD = s.keptD := by simp [twinSend]
@[simp] theorem State_modSession_keptD (s : State) (sid : Nat) (f : Session → Session)  : (State.modSession s sid f).keptD = s.keptD := by simp [State.modSession]
@[simp] theorem pushNotice_keptD (sid : Nat) (build : Nat → Bytes) (s : State)  : (pushNotice sid build s).keptD = s.keptD := by simp [pushNotice]
@[simp] theorem giveCredits_keptD (sid n : Nat) (s : State)  : (giveCredits sid n s).keptD = s.keptD := by
  unfold giveCredits
  (try dsimp only)
  (repeat' split)
  all_goals (try simp)

@[simp] theorem creditNotice_keptD (sid : Nat) (s : State)  : (creditNotice sid s).keptD = s.keptD := by
  unfold creditNotice
  (try dsimp only)
  (repeat' split)
  all_goals (try simp)

@[simp] theorem noticeTo_keptD (dest : Option Nat) (code tag : Nat) (rec : Bytes) (s : State)  : (noticeTo dest code tag rec s).keptD = s.keptD := by
  unfold noticeTo
  (try dsimp only)
  (repeat' split)
  all_goals (try simp)

@[simp] theorem recordEv_keptD (code source sev : Nat) (payload : Bytes) (dest : Option Nat) (tag : Nat) (s : State)  : (recordEv code source sev payload dest tag s).keptD = s.keptD := by simp [recordEv]
@[simp] theorem ev_keptD (code : Nat) (payload : Bytes) (s : State)  : (ev code payload s).keptD = s.keptD := by simp [ev]
@[simp] theorem evL_keptD (n code : Nat) (payload : Bytes) (s : State)  : (evL n code payload s).keptD = s.keptD := by simp [evL]
@[simp] theorem evS_keptD (sid tag code : Nat) (payload : Bytes) (s : State)  : (evS sid tag code payload s).keptD = s.keptD := by simp [evS]
@[simp] theorem checkBacklog_keptD (sid : Nat) (s : State)  : (checkBacklog sid s).keptD = s.keptD := by
  unfold checkBacklog
  (try dsimp only)
  (repeat' split)
  all_goals (try simp)

@[simp] theorem checkInbound_keptD (s : State)  : (checkInbound s).keptD = s.keptD := by simp [checkInbound]
@[simp] theorem pushBare_keptD (t : Transport) (bytes : Bytes) (seq : Nat) (s : State)  : (pushBare t bytes seq s).keptD = s.keptD := by simp [pushBare]
@[simp] theorem State_modCmd_keptD (s : State) (seq : Nat) (f : LiveCmd → LiveCmd)  : (State.modCmd s seq f).keptD = s.keptD := by simp [State.modCmd]
@[simp] theorem complete_keptD (c : LiveCmd) (status detail : Nat) (params : Bytes) (s : State)  : (complete c status detail params s).keptD = s.keptD := by simp [complete]
@[simp] theorem fail_keptD (c : LiveCmd) (status detail : Nat) (s : State)  : (fail c status detail s).keptD = s.keptD := by simp [fail]
@[simp] theorem completeAll_keptD (p : LiveCmd → Bool) (status detail : Nat) (params : Bytes) (s : State)  : (completeAll p status detail params s).keptD = s.keptD := by simp [completeAll]
@[simp] theorem completeEach_keptD (p : LiveCmd → Bool) (status detail : Nat) (params : LiveCmd → Bytes) (s : State)  : (completeEach p status detail params s).keptD = s.keptD := by simp [completeEach]
@[simp] theorem lateSuccess_keptD (p : LateRec → Bool) (status : Nat) (s : State)  : (lateSuccess p status s).keptD = s.keptD := by simp [lateSuccess]
@[simp] theorem closeSession_keptD (sid : Nat) (s : State)  : (closeSession sid s).keptD = s.keptD := by
  unfold closeSession
  (try dsimp only)
  (repeat' split)
  all_goals (try simp)

@[simp] theorem closeSessions_keptD (p : Session → Bool) (s : State)  : (closeSessions p s).keptD = s.keptD := by
  unfold closeSessions
  (try simp)
  (repeat' (split <;> try simp))

@[simp] theorem takeControl_keptD (a : Agent) (s : State)  : (takeControl a s).keptD = s.keptD := by simp [takeControl]
@[simp] theorem writeCopy_keptD (toB : Bool) (t old : TotalsCopy) (s : State)  : (writeCopy toB t old s).keptD = s.keptD := by simp [writeCopy]
@[simp] theorem saveTotals_keptD (kind : Nat) (s : State)  : (saveTotals kind s).keptD = s.keptD := by simp [saveTotals]
@[simp] theorem accountState_keptD (s : State)  : (accountState s).keptD = s.keptD := by simp [accountState]
@[simp] theorem setPState_keptD (q : PState) (s : State)  : (setPState q s).keptD = s.keptD := by simp [setPState]
@[simp] theorem toRun_keptD (s : State)  : (toRun s).keptD = s.keptD := by simp [toRun]
@[simp] theorem dropLeaseOut_keptD (s : State)  : (dropLeaseOut s).keptD = s.keptD := by simp [dropLeaseOut]
@[simp] theorem modJoint_keptD (j : Nat) (f : Joint → Joint) (s : State)  : (modJoint j f s).keptD = s.keptD := rfl
@[simp] theorem crossNote_keptD (j code : Nat) (payload : Bytes) (s : State)  : (crossNote j code payload s).keptD = s.keptD := by simp [crossNote]
@[simp] theorem takeEdges_keptD (ago : Nat) (edges : List Nat) (s : State)  : (takeEdges ago edges s).keptD = s.keptD := by simp [takeEdges]
@[simp] theorem takeBits_keptD (edges : List Nat) (s : State)  : (takeBits edges s).keptD = s.keptD := by simp [takeBits]
@[simp] theorem startPulse_keptD (k : Nat) (s : State)  : (startPulse k s).keptD = s.keptD := by
  unfold startPulse
  (try dsimp only)
  (repeat' split)
  all_goals (try simp)

@[simp] theorem startPulses_keptD (s : State)  : (startPulses s).keptD = s.keptD := by simp [startPulses]
@[simp] theorem duePulses_keptD (k n : Nat) (s : State)  : (duePulses k n s).keptD = s.keptD := by
  unfold duePulses
  (try dsimp only)
  (repeat' split)
  all_goals (try simp)

@[simp] theorem feedPout_keptD (k r x : Nat) (s : State)  : (feedPout k r x s).keptD = s.keptD := by
  unfold feedPout
  (try dsimp only)
  (repeat' split)
  all_goals (try simp)

@[simp] theorem addEnergy_keptD (r x : Nat) (s : State)  : (addEnergy r x s).keptD = s.keptD := by simp [addEnergy]
@[simp] theorem routePair_keptD (r : Nat) (x : Int) (s : State)  : (routePair r x s).keptD = s.keptD := by simp [routePair]
@[simp] theorem routeCycle_keptD (ph : Nat) (e : CycleEnergy) (s : State)  : (routeCycle ph e s).keptD = s.keptD := by simp [routeCycle]
@[simp] theorem routePhase_keptD (ph until_ : Nat) (s : State)  : (routePhase ph until_ s).keptD = s.keptD := by simp [routePhase]
@[simp] theorem noteRouted_keptD (ph : Nat) (s : State)  : (noteRouted ph s).keptD = s.keptD := by simp [noteRouted]
@[simp] theorem routeTotal_keptD (s : State)  : (routeTotal s).keptD = s.keptD := by simp [routeTotal]
@[simp] theorem closeTotals_keptD (until_ : Nat) (s : State)  : (closeTotals until_ s).keptD = s.keptD := by simp [closeTotals]
@[simp] theorem flushNow_keptD (s : State)  : (flushNow s).keptD = s.keptD := by simp [flushNow]
@[simp] theorem zeroCrossing_keptD (ph : Nat) (s : State)  : (zeroCrossing ph s).keptD = s.keptD := by simp [zeroCrossing]
@[simp] theorem windowReason_keptD (bit : Nat) (s : State)  : (windowReason bit s).keptD = s.keptD := by simp [windowReason]
@[simp] theorem markFilled_keptD (s : State)  : (markFilled s).keptD = s.keptD := by simp [markFilled]
@[simp] theorem fillLast_keptD (s : State)  : (fillLast s).keptD = s.keptD := by
  unfold fillLast
  (try dsimp only)
  (repeat' split)
  all_goals (try simp)

@[simp] theorem creditGap_keptD (ns : Nat) (s : State)  : (creditGap ns s).keptD = s.keptD := by simp [creditGap]
@[simp] theorem resumePath_keptD (drop : Bool) (s : State)  : (resumePath drop s).keptD = s.keptD := by simp [resumePath]
@[simp] theorem nextSecond_keptD (freq : Nat) (s : State)  : (nextSecond freq s).keptD = s.keptD := by simp [nextSecond]
@[simp] theorem scheduleStart_keptD (at_ : Nat) (s : State)  : (scheduleStart at_ s).keptD = s.keptD := by simp [scheduleStart]
@[simp] theorem autoStart_keptD (s : State)  : (autoStart s).keptD = s.keptD := by simp [autoStart]
@[simp] theorem setContactor_keptD (k : Nat) (level : Bool) (s : State)  : (setContactor k level s).keptD = s.keptD := by simp [setContactor]
@[simp] theorem fallbackDrive_keptD (k : Nat) (s : State)  : (fallbackDrive k s).keptD = s.keptD := by
  unfold fallbackDrive
  (try dsimp only)
  (repeat' split)
  all_goals (try simp)

@[simp] theorem fallbackEval_keptD (s : State)  : (fallbackEval s).keptD = s.keptD := by simp [fallbackEval]
@[simp] theorem seqTakes_keptD (s : State)  : (seqTakes s).keptD = s.keptD := by simp [seqTakes]
@[simp] theorem faultRecord_keptD (source cls : Nat) (payload : Bytes) (s : State)  : (faultRecord source cls payload s).keptD = s.keptD := by simp [faultRecord]
@[simp] theorem raiseCE_keptD (source : Nat) (payload : Bytes) (s : State)  : (raiseCE source payload s).keptD = s.keptD := by simp [raiseCE]
@[simp] theorem runCmd_keptD (op sid tag : Nat) (body : LiveCmd → State → State) (s : State) (hbody : ∀ x0 u, (body x0 u).keptD = u.keptD) : (runCmd op sid tag body s).keptD = s.keptD := by
  unfold runCmd
  (try dsimp only)
  (repeat' split)
  all_goals (try simp [hbody])

@[simp] theorem waitFor_keptD (c : LiveCmd) (w : Wait) (work : List Nat) (s : State)  : (waitFor c w work s).keptD = s.keptD := by simp [waitFor]
@[simp] theorem recordOverrun_keptD (j : Nat) (s : State)  : (recordOverrun j s).keptD = s.keptD := by simp [recordOverrun]
@[simp] theorem recordFlushed_keptD (j : Nat) (s : State)  : (recordFlushed j s).keptD = s.keptD := by simp [recordFlushed]
@[simp] theorem pulseLanded_keptD (j : Nat) (s : State)  : (pulseLanded j s).keptD = s.keptD := by simp [pulseLanded]
@[simp] theorem jointSend_keptD (j : Nat) (s : State)  : (jointSend j s).keptD = s.keptD := by simp [jointSend]
@[simp] theorem landCrossed_keptD (j k : Nat) (s : State)  : (landCrossed j k s).keptD = s.keptD := by simp [landCrossed]
@[simp] theorem crossEv_keptD (j code : Nat) (payload : Bytes) (s : State)  : (crossEv j code payload s).keptD = s.keptD := by simp [crossEv]
@[simp] theorem jointDeliver_keptD (j : Nat) (s : State)  : (jointDeliver j s).keptD = s.keptD := by
  unfold jointDeliver
  (try dsimp only)
  (repeat' split)
  all_goals (try simp)

@[simp] theorem flushJoint_keptD (j : Nat) (s : State)  : (flushJoint j s).keptD = s.keptD := by simp [flushJoint]
@[simp] theorem recordOverruns_keptD (s : State)  : (recordOverruns s).keptD = s.keptD := by simp [recordOverruns]
@[simp] theorem pmbusWrite_keptD (command : Nat) (data : Bytes) (s : State)  : (pmbusWrite command data s).keptD = s.keptD := by simp [pmbusWrite]
@[simp] theorem pmbusRead_keptD (command : Nat) (s : State)  : (pmbusRead command s).keptD = s.keptD := by simp [pmbusRead]
@[simp] theorem sendVout_keptD (exponent : Int) (mv : Nat) (s : State)  : (sendVout exponent mv s).keptD = s.keptD := by simp [sendVout]
@[simp] theorem requestVout_keptD (mv attempt : Nat) (s : State)  : (requestVout mv attempt s).keptD = s.keptD := by simp [requestVout]
@[simp] theorem countAbort_keptD (point : Nat) (s : State)  : (countAbort point s).keptD = s.keptD := by simp [countAbort]
@[simp] theorem beginExit_keptD (s : State)  : (beginExit s).keptD = s.keptD := by simp [beginExit]
@[simp] theorem recordWake_keptD (cause : Nat) (s : State)  : (recordWake cause s).keptD = s.keptD := by simp [recordWake]
@[simp] theorem wakeUp_keptD (cause : Nat) (s : State)  : (wakeUp cause s).keptD = s.keptD := by
  unfold wakeUp
  (try dsimp only)
  (repeat' split)
  all_goals (try simp)

@[simp] theorem rtcStepped_keptD (n : Int) (cause : Nat) (s : State)  : (rtcStepped n cause s).keptD = s.keptD := by simp [rtcStepped]
@[simp] theorem meterRun_keptD (on : Bool) (s : State)  : (meterRun on s).keptD = s.keptD := by simp [meterRun]
@[simp] theorem bumpConf_keptD (s : State)  : (bumpConf s).keptD = s.keptD := by simp [bumpConf]
@[simp] theorem caseLevel_keptD (high : Bool) (s : State)  : (caseLevel high s).keptD = s.keptD := by simp [caseLevel]
@[simp] theorem commitDone_keptD (block : Nat) (reply : Bytes) (s : State)  : (commitDone block reply s).keptD = s.keptD := by simp [commitDone]
@[simp] theorem clearPouts_keptD (s : State)  : (clearPouts s).keptD = s.keptD := by simp [clearPouts]
@[simp] theorem moveSecond_keptD (a b : Nat) (s : State)  : (moveSecond a b s).keptD = s.keptD := by simp [moveSecond]
@[simp] theorem modLan_keptD (n : Nat) (f : Lantern → Lantern) (s : State)  : (modLan n f s).keptD = s.keptD := by simp [modLan]
@[simp] theorem dropLantern_keptD (n : Nat) (s : State)  : (dropLantern n s).keptD = s.keptD := by simp [dropLantern]
@[simp] theorem finishMesh_keptD (q : Nat) (s : State)  : (finishMesh q s).keptD = s.keptD := by
  unfold finishMesh
  (try dsimp only)
  (repeat' split)
  all_goals (try simp)

@[simp] theorem removeLantern_keptD (by_ n : Nat) (s : State)  : (removeLantern by_ n s).keptD = s.keptD := by simp [removeLantern]
@[simp] theorem dropPushes_keptD (pol : Nat) (s : State)  : (dropPushes pol s).keptD = s.keptD := by simp [dropPushes]
@[simp] theorem ownSettled_keptD (t : Txn) (o : Outcome) (s : State)  : (ownSettled t o s).keptD = s.keptD := by simp [ownSettled]
@[simp] theorem finishLeave_keptD (t : Txn) (s : State)  : (finishLeave t s).keptD = s.keptD := by
  unfold finishLeave
  (try dsimp only)
  (repeat' split)
  all_goals (try simp)

@[simp] theorem lateLeave_keptD (q n : Nat) (s : State)  : (lateLeave q n s).keptD = s.keptD := by simp [lateLeave]
@[simp] theorem lateMesh_keptD (q : Nat) (s : State)  : (lateMesh q s).keptD = s.keptD := by
  unfold lateMesh
  (try dsimp only)
  (repeat' split)
  all_goals (try simp)

@[simp] theorem settle_keptD (t : Txn) (o : Outcome) (s : State)  : (settle t o s).keptD = s.keptD := by
  unfold settle
  (try dsimp only)
  (repeat' split)
  all_goals (try simp)

@[simp] theorem addRetries_keptD (q k : Nat) (s : State)  : (addRetries q k s).keptD = s.keptD := by simp [addRetries]
@[simp] theorem queueFlood_keptD (f : Flood) (s : State)  : (queueFlood f s).keptD = s.keptD := by simp [queueFlood]
@[simp] theorem trimHeld_keptD (n : Nat) (s : State)  : (trimHeld n s).keptD = s.keptD := by
  unfold trimHeld
  (try dsimp only)
  (repeat' split)
  all_goals (try simp)

@[simp] theorem sendMsg_keptD (owner : Option Nat) (n type : Nat) (confirmed : Bool) (payload : Bytes) (expiry : Nat) (s : State)  : (sendMsg owner n type confirmed payload expiry s).keptD = s.keptD := by
  unfold sendMsg
  (try dsimp only)
  (repeat' split)
  all_goals (try simp)

@[simp] theorem sendOwn_keptD (n type : Nat) (payload : Bytes) (s : State)  : (sendOwn n type payload s).keptD = s.keptD := by simp [sendOwn]
@[simp] theorem loseLantern_keptD (n : Nat) (s : State)  : (loseLantern n s).keptD = s.keptD := by simp [loseLantern]
@[simp] theorem expectJoined_keptD (s : State)  : (expectJoined s).keptD = s.keptD := by simp [expectJoined]
@[simp] theorem contact_keptD (n at_ : Nat) (s : State)  : (contact n at_ s).keptD = s.keptD := by simp [contact]
@[simp] theorem sendEach_keptD (c : LiveCmd) (work : List Nat) (send : State → State) (s : State) (hsend : ∀ u, (send u).keptD = u.keptD) : (sendEach c work send s).keptD = s.keptD := by simp [sendEach, hsend]
@[simp] theorem endSpan_keptD (status detail : Nat) (s : State)  : (endSpan status detail s).keptD = s.keptD := by simp [endSpan]
@[simp] theorem ethData_keptD (sid : Nat) (x : Session) (ch : EthChan) (pkt : Bytes) (s : State)  : (ethData sid x ch pkt s).keptD = s.keptD := by simp [ethData]
@[simp] theorem ethSend_keptD (sid : Nat) (pkt : Bytes) (s : State)  : (ethSend sid pkt s).keptD = s.keptD := by
  unfold ethSend
  (try dsimp only)
  (repeat' split)
  all_goals (try simp)

@[simp] theorem flushSession_keptD (sid : Nat) (s : State)  : (flushSession sid s).keptD = s.keptD := by
  unfold flushSession
  (try dsimp only)
  (repeat' split)
  all_goals (try simp)

@[simp] theorem dismiss_keptD (p : Session → Bool) (s : State)  : (dismiss p s).keptD = s.keptD := by
  unfold dismiss
  (try simp)
  (repeat' (split <;> try simp))

@[simp] theorem closeKeyless_keptD (s : State)  : (closeKeyless s).keptD = s.keptD := by simp [closeKeyless]
@[simp] theorem noteKeyless_keptD (s : State)  : (noteKeyless s).keptD = s.keptD := by simp [noteKeyless]
@[simp] theorem clearKeystone_keptD (s : State)  : (clearKeystone s).keptD = s.keptD := by simp [clearKeystone]
@[simp] theorem eraseSlot_keptD (slot : Nat) (s : State)  : (eraseSlot slot s).keptD = s.keptD := by simp [eraseSlot]
@[simp] theorem staleChallenges_keptD (slot : Nat) (s : State)  : (staleChallenges slot s).keptD = s.keptD := by simp [staleChallenges]
@[simp] theorem retireSlot_keptD (slot : Nat) (s : State)  : (retireSlot slot s).keptD = s.keptD := by simp [retireSlot]
@[simp] theorem loadStone_keptD (key : Bytes) (attr : Nat) (slot : Option Nat) (s : State)  : (loadStone key attr slot s).keptD = s.keptD := by simp [loadStone]
@[simp] theorem useKey_keptD (slot : Nat) (s : State)  : (useKey slot s).keptD = s.keptD := by
  unfold useKey
  (try dsimp only)
  (repeat' split)
  all_goals (try simp)

@[simp] theorem stoneUnitKa_keptD (s : State)  : (stoneUnitKa s).keptD = s.keptD := by
  unfold stoneUnitKa
  (try dsimp only)
  (repeat' split)
  all_goals (try simp)

@[simp] theorem storeKey_keptD (slot : Nat) (key : Bytes) (attr : Nat) (s : State)  : (storeKey slot key attr s).keptD = s.keptD := by
  unfold storeKey
  (try dsimp only)
  (repeat' split)
  all_goals (try simp)

@[simp] theorem recordUnitKa_keptD (s : State)  : (recordUnitKa s).keptD = s.keptD := by
  unfold recordUnitKa
  (try dsimp only)
  (repeat' split)
  all_goals (try simp)

@[simp] theorem advanceEpoch_keptD (s : State)  : (advanceEpoch s).keptD = s.keptD := by simp [advanceEpoch]
@[simp] theorem writeMirror_keptD (s : State)  : (writeMirror s).keptD = s.keptD := by simp [writeMirror]
@[simp] theorem zeroBanks_keptD (s : State)  : (zeroBanks s).keptD = s.keptD := by simp [zeroBanks]
@[simp] theorem eraseFirmware_keptD (old cause : Nat) (s : State)  : (eraseFirmware old cause s).keptD = s.keptD := by simp [eraseFirmware]
@[simp] theorem seedGuard_keptD (s : State)  : (seedGuard s).keptD = s.keptD := by simp [seedGuard]
@[simp] theorem tamperRecord_keptD (e : TamperEnt) (inBackup : Bool) (s : State)  : (tamperRecord e inBackup s).keptD = s.keptD := by simp [tamperRecord]
@[simp] theorem modTamper_keptD (source : Nat) (f : TamperSrc → TamperSrc) (s : State)  : (modTamper source f s).keptD = s.keptD := by simp [modTamper]
@[simp] theorem logTamper_keptD (e : TamperEnt) (s : State)  : (logTamper e s).keptD = s.keptD := by simp [logTamper]
@[simp] theorem eraseVault_keptD (s : State)  : (eraseVault s).keptD = s.keptD := by simp [eraseVault]
@[simp] theorem tamperActs_keptD (source : Nat) (s : State)  : (tamperActs source s).keptD = s.keptD := by simp [tamperActs]
@[simp] theorem tamperTrue_keptD (source : Nat) (s : State)  : (tamperTrue source s).keptD = s.keptD := by simp [tamperTrue]
@[simp] theorem tamperFalse_keptD (source : Nat) (s : State)  : (tamperFalse source s).keptD = s.keptD := by simp [tamperFalse]
@[simp] theorem tamperOwed_keptD (s : State)  : (tamperOwed s).keptD = s.keptD := by
  unfold tamperOwed
  (try dsimp only)
  (repeat' split)
  all_goals (try simp)

@[simp] theorem settleAuth_keptD (s : State)  : (settleAuth s).keptD = s.keptD := by simp [settleAuth]
@[simp] theorem rearm_keptD (source : Nat) (s : State)  : (rearm source s).keptD = s.keptD := by simp [rearm]
@[simp] theorem noteAuth_keptD (opcode sid : Nat) (s : State)  : (noteAuth opcode sid s).keptD = s.keptD := by simp [noteAuth]
@[simp] theorem timeGet_keptD (c : LiveCmd) (s : State)  : (timeGet c s).keptD = s.keptD := by simp [timeGet]
@[simp] theorem fallbackTableLoad_keptD (c : LiveCmd) (s : State)  : (fallbackTableLoad c s).keptD = s.keptD := by
  unfold fallbackTableLoad
  (try dsimp only)
  (repeat' split)
  all_goals (try simp)

@[simp] theorem extendPins_keptD (s : State)  : (extendPins s).keptD = s.keptD := by simp [extendPins]
@[simp] theorem firmwareMinute_keptD (k : Nat) (tbl : Bytes) (s : State)  : (firmwareMinute k tbl s).keptD = s.keptD := by
  unfold firmwareMinute
  (try dsimp only)
  (repeat' split)
  all_goals (try simp)

@[simp] theorem fallbackMinute_keptD (s : State)  : (fallbackMinute s).keptD = s.keptD := by
  unfold fallbackMinute
  (try dsimp only)
  (repeat' split)
  all_goals (try simp)

@[simp] theorem echo_keptD (c : LiveCmd) (s : State)  : (echo c s).keptD = s.keptD := by simp [echo]
@[simp] theorem deviceInfo_keptD (c : LiveCmd) (s : State)  : (deviceInfo c s).keptD = s.keptD := by simp [deviceInfo]
@[simp] theorem awaitReset_keptD (c : LiveCmd) (type source : Nat) (s : State)  : (awaitReset c type source s).keptD = s.keptD := by simp [awaitReset]
@[simp] theorem resetCmd_keptD (c : LiveCmd) (s : State)  : (resetCmd c s).keptD = s.keptD := by
  unfold resetCmd
  (try dsimp only)
  (repeat' split)
  all_goals (try simp)

@[simp] theorem fence_keptD (c : LiveCmd) (s : State)  : (fence c s).keptD = s.keptD := by simp [fence]
@[simp] theorem noteLocked_keptD (st : Nat) (s : State)  : (noteLocked st s).keptD = s.keptD := by simp [noteLocked]
@[simp] theorem settingRead_keptD (c : LiveCmd) (s : State)  : (settingRead c s).keptD = s.keptD := by
  unfold settingRead
  (try dsimp only)
  (repeat' split)
  all_goals (try simp)

@[simp] theorem closeTransport_keptD (t : Transport) (s : State)  : (closeTransport t s).keptD = s.keptD := by
  unfold closeTransport
  (try dsimp only)
  (repeat' split)
  all_goals (try simp)

@[simp] theorem grantSession_keptD (c : LiveCmd) (n role baud : Nat) (keylessProc : Bool) (s : State)  : (grantSession c n role baud keylessProc s).keptD = s.keptD := by simp [grantSession]
@[simp] theorem refuseOpen_keptD (c : LiveCmd) (st d : Nat) (s : State)  : (refuseOpen c st d s).keptD = s.keptD := by simp [refuseOpen]
@[simp] theorem openPhase1_keptD (c : LiveCmd) (role baud : Nat) (s : State)  : (openPhase1 c role baud s).keptD = s.keptD := by
  unfold openPhase1
  (try dsimp only)
  (repeat' split)
  all_goals (try simp)

@[simp] theorem openPhase2_keptD (c : LiveCmd) (role baud : Nat) (q : Option OpenChal) (s : State)  : (openPhase2 c role baud q s).keptD = s.keptD := by
  unfold openPhase2
  (try dsimp only)
  (repeat' split)
  all_goals (try simp)

@[simp] theorem sessionOpen_keptD (c : LiveCmd) (s : State)  : (sessionOpen c s).keptD = s.keptD := by simp [sessionOpen]
@[simp] theorem queueStatus_keptD (c : LiveCmd) (s : State)  : (queueStatus c s).keptD = s.keptD := by simp [queueStatus]
@[simp] theorem faultStatus_keptD (c : LiveCmd) (s : State)  : (faultStatus c s).keptD = s.keptD := by simp [faultStatus]
@[simp] theorem ackReply_keptD (c : LiveCmd) (s : State)  : (ackReply c s).keptD = s.keptD := by simp [ackReply]
@[simp] theorem eventRead_keptD (c : LiveCmd) (s : State)  : (eventRead c s).keptD = s.keptD := by simp [eventRead]
@[simp] theorem clearPhase1_keptD (c : LiveCmd) (s : State)  : (clearPhase1 c s).keptD = s.keptD := by simp [clearPhase1]
@[simp] theorem clearLog_keptD (q : SidChal) (c : LiveCmd) (s : State)  : (clearLog q c s).keptD = s.keptD := by simp [clearLog]
@[simp] theorem clearPhase2_keptD (c : LiveCmd) (s : State)  : (clearPhase2 c s).keptD = s.keptD := by
  unfold clearPhase2
  (try dsimp only)
  (repeat' split)
  all_goals (try simp)

@[simp] theorem eventClear_keptD (c : LiveCmd) (s : State)  : (eventClear c s).keptD = s.keptD := by simp [eventClear]
@[simp] theorem setRate_keptD (code burst refill : Nat) (s : State)  : (setRate code burst refill s).keptD = s.keptD := by simp [setRate]
@[simp] theorem eventRateSet_keptD (c : LiveCmd) (s : State)  : (eventRateSet c s).keptD = s.keptD := by simp [eventRateSet]
@[simp] theorem faultInject_keptD (c : LiveCmd) (s : State)  : (faultInject c s).keptD = s.keptD := by
  unfold faultInject
  (try dsimp only)
  (repeat' split)
  all_goals (try simp)

@[simp] theorem noteInfo_keptD (source : Nat) (info : Bytes) (s : State)  : (noteInfo source info s).keptD = s.keptD := by simp [noteInfo]
@[simp] theorem rearmWatchdog_keptD (core : Nat) (s : State)  : (rearmWatchdog core s).keptD = s.keptD := by simp [rearmWatchdog]
@[simp] theorem copyPage_keptD (s : State)  : (copyPage s).keptD = s.keptD := by simp [copyPage]
@[simp] theorem installKey_keptD (c : LiveCmd) (k : KeyLoad) (key : Bytes) (s : State)  : (installKey c k key s).keptD = s.keptD := by simp [installKey]
@[simp] theorem loadUnder_keptD (c : LiveCmd) (k : KeyLoad) (kek : Option Bytes) (s : State)  : (loadUnder c k kek s).keptD = s.keptD := by
  unfold loadUnder
  (try dsimp only)
  (repeat' split)
  all_goals (try simp)

@[simp] theorem keyRetire_keptD (c : LiveCmd) (s : State)  : (keyRetire c s).keptD = s.keptD := by simp [keyRetire]
@[simp] theorem tamperPolicySet_keptD (c : LiveCmd) (s : State)  : (tamperPolicySet c s).keptD = s.keptD := by simp [tamperPolicySet]
@[simp] theorem unlockPhase1_keptD (c : LiveCmd) (s : State)  : (unlockPhase1 c s).keptD = s.keptD := by simp [unlockPhase1]
@[simp] theorem unlockPhase2_keptD (c : LiveCmd) (s : State)  : (unlockPhase2 c s).keptD = s.keptD := by
  unfold unlockPhase2
  (try dsimp only)
  (repeat' split)
  all_goals (try simp)

@[simp] theorem debugUnlock_keptD (c : LiveCmd) (s : State)  : (debugUnlock c s).keptD = s.keptD := by simp [debugUnlock]
@[simp] theorem securityStatus_keptD (c : LiveCmd) (s : State)  : (securityStatus c s).keptD = s.keptD := by simp [securityStatus]
@[simp] theorem senseTamper_keptD (source : Nat) (s : State)  : (senseTamper source s).keptD = s.keptD := by simp [senseTamper]
@[simp] theorem guardOff_keptD (s : State)  : (guardOff s).keptD = s.keptD := by simp [guardOff]
@[simp] theorem modPort_keptD (k : Nat) (f : Port → Port) (s : State)  : (modPort k f s).keptD = s.keptD := by simp [modPort]
@[simp] theorem runOne_keptD (k id ch : Nat) (frame miso : Bytes) (s : State)  : (runOne k id ch frame miso s).1.keptD = s.keptD := by simp [runOne]
@[simp] theorem runSeqs_keptD (k ch : Nat) (frame : Bytes) (y0 : List Nat) (y1 : Bytes) (s : State)  : (runSeqs k ch frame y0 y1 s).1.keptD = s.keptD := by
  induction y0 generalizing y1 s with
  | nil => rfl
  | cons id l ih =>
    unfold runSeqs
    split
    · rfl
    · dsimp only
      split <;> simp [ih]

@[simp] theorem moveLanterns_keptD (k : Nat) (s : State)  : (moveLanterns k s).keptD = s.keptD := by simp [moveLanterns]
@[simp] theorem pulseInit_keptD (k : Nat) (miso : Bytes) (s : State)  : (pulseInit k miso s).1.keptD = s.keptD := by simp [pulseInit]
@[simp] theorem stoneNetwork_keptD (phase : Nat) (s : State)  : (stoneNetwork phase s).keptD = s.keptD := by simp [stoneNetwork]
@[simp] theorem useCounter_keptD (idx : Nat) (s : State)  : (useCounter idx s).keptD = s.keptD := by simp [useCounter]
@[simp] theorem launch_keptD (k ch start : Nat) (psdu : Bytes) (s : State)  : (launch k ch start psdu s).keptD = s.keptD := by simp [launch]

theorem suppressed_resD {k ch f : Nat} {p : Bytes} {s t : State} (e : suppressed k ch f p s = some t) : t.keptD = s.keptD := by
  unfold suppressed at e
  dsimp only at e
  split at e
  · cases e; simp
  · cases e

@[simp] theorem checkAdrift_keptD (n : Nat) (s : State)  : (checkAdrift n s).keptD = s.keptD := by
  unfold checkAdrift
  (try dsimp only)
  (repeat' split)
  all_goals (try simp)

@[simp] theorem modTxn_keptD (id : Nat) (f : Txn → Txn) (s : State)  : (modTxn id f s).keptD = s.keptD := by simp [modTxn]
@[simp] theorem takeTxn_keptD (t : Txn) (s : State)  : (takeTxn t s).keptD = s.keptD := by simp [takeTxn]
@[simp] theorem backOff_keptD (k : Nat) (s : State)  : (backOff k s).keptD = s.keptD := by simp [backOff]
@[simp] theorem endAttempt_keptD (a : Attempt) (ok : Bool) (s : State)  : (endAttempt a ok s).keptD = s.keptD := by
  unfold endAttempt
  (try dsimp only)
  (repeat' split)
  all_goals (try simp)

@[simp] theorem beginAttempt_keptD (a : Attempt) (s : State)  : (beginAttempt a s).keptD = s.keptD := by
  unfold beginAttempt
  (try dsimp only)
  (repeat' split)
  all_goals (try simp)

@[simp] theorem echoResult_keptD (k asn outcome : Nat) (s : State)  : (echoResult k asn outcome s).keptD = s.keptD := by simp [echoResult]
@[simp] theorem lostAttempt_keptD (a : Attempt) (s : State)  : (lostAttempt a s).keptD = s.keptD := by simp [lostAttempt]
@[simp] theorem failAttempts_keptD (k : Nat) (s : State)  : (failAttempts k s).keptD = s.keptD := by simp [failAttempts]
@[simp] theorem echoFeed_keptD (k asn : Nat) (kind : CellKind) (plain : Bytes) (s : State)  : (echoFeed k asn kind plain s).keptD = s.keptD := by simp [echoFeed]
@[simp] theorem feedEcho_keptD (k asn : Nat) (kind : CellKind) (plain : Bytes) (s : State)  : (feedEcho k asn kind plain s).keptD = s.keptD := by simp [feedEcho]
@[simp] theorem addSeen_keptD (origin seq : Nat) (s : State)  : (addSeen origin seq s).keptD = s.keptD := by simp [addSeen]
@[simp] theorem floodSent_keptD (f : Flood) (seq asn : Nat) (s : State)  : (floodSent f seq asn s).keptD = s.keptD := by
  unfold floodSent
  (try dsimp only)
  (repeat' split)
  all_goals (try simp)

@[simp] theorem dropFeed_keptD (f : Nat × Nat × Nat × Bytes) (s : State)  : (dropFeed f s).keptD = s.keptD := by simp [dropFeed]
@[simp] theorem staleAttempts_keptD (k : Nat) (s : State)  : (staleAttempts k s).keptD = s.keptD := by simp [staleAttempts]
@[simp] theorem acceptCounter_keptD (key ctr : Nat) (s : State)  : (acceptCounter key ctr s).keptD = s.keptD := by simp [acceptCounter]
@[simp] theorem securityDrop_keptD (s : State)  : (securityDrop s).keptD = s.keptD := by simp [securityDrop]
@[simp] theorem acked_keptD (a : Attempt) (nack : Bool) (s : State)  : (acked a nack s).keptD = s.keptD := by simp [acked]
@[simp] theorem enhancedAck_keptD (a : Attempt) (p : Bytes) (s : State)  : (enhancedAck a p s).keptD = s.keptD := by
  unfold enhancedAck
  (try dsimp only)
  (repeat' split)
  all_goals (try simp)

@[simp] theorem respond_keptD (n seq status retries : Nat) (s : State)  : (respond n seq status retries s).keptD = s.keptD := by simp [respond]
@[simp] theorem deliver_keptD (k src : Nat) (m : Bytes) (at_ : Nat) (s : State)  : (deliver k src m at_ s).keptD = s.keptD := by
  unfold deliver
  (try dsimp only)
  (repeat' split)
  all_goals (try simp)

@[simp] theorem forwardMsg_keptD (m : Bytes) (s : State)  : (forwardMsg m s).keptD = s.keptD := by
  unfold forwardMsg
  (try dsimp only)
  (repeat' split)
  all_goals (try simp)

@[simp] theorem message_keptD (k src : Nat) (m : Bytes) (at_ : Nat) (s : State)  : (message k src m at_ s).keptD = s.keptD := by simp [message]
@[simp] theorem linkFragment_keptD (k src : Nat) (body : Bytes) (at_ : Nat) (s : State)  : (linkFragment k src body at_ s).keptD = s.keptD := by
  unfold linkFragment
  (try dsimp only)
  (repeat' split)
  all_goals (try simp)

@[simp] theorem filterDrop_keptD (s : State)  : (filterDrop s).keptD = s.keptD := by simp [filterDrop]
@[simp] theorem keepBeacon_keptD (f : RxFrame) (body : Bytes) (s : State)  : (keepBeacon f body s).keptD = s.keptD := by simp [keepBeacon]
@[simp] theorem rxBeacon_keptD (f : RxFrame) (s : State)  : (rxBeacon f s).keptD = s.keptD := by
  unfold rxBeacon
  (try dsimp only)
  (repeat' split)
  all_goals (try simp)

@[simp] theorem rxJoin_keptD (f : RxFrame) (s : State)  : (rxJoin f s).keptD = s.keptD := by simp [rxJoin]
@[simp] theorem rxFlood_keptD (f : RxFrame) (s : State)  : (rxFlood f s).keptD = s.keptD := by
  unfold rxFlood
  (try dsimp only)
  (repeat' split)
  all_goals (try simp)

@[simp] theorem modAnnex_keptD (f : AnnexSt → AnnexSt) (s : State)  : (modAnnex f s).keptD = s.keptD := by simp [modAnnex]
@[simp] theorem modNet_keptD (f : AnnexNet → AnnexNet) (s : State)  : (modNet f s).keptD = s.keptD := by simp [modNet]
@[simp] theorem useAnnexCounter_keptD (idx : Nat) (s : State)  : (useAnnexCounter idx s).keptD = s.keptD := by simp [useAnnexCounter]
@[simp] theorem annexKeyAt_keptD (idx : Nat) (key : Bytes) (s : State)  : (annexKeyAt idx key s).keptD = s.keptD := by simp [annexKeyAt]
@[simp] theorem nextMacSeq_keptD (s : State)  : (nextMacSeq s).keptD = s.keptD := by simp [nextMacSeq]
@[simp] theorem annexQueue_keptD (dst expiry : Nat) (resync : Bool) (m : Bytes) (s : State)  : (annexQueue dst expiry resync m s).keptD = s.keptD := by simp [annexQueue]
@[simp] theorem annexSend_keptD (type : Nat) (confirmed resync : Bool) (payload : Bytes) (s : State)  : (annexSend type confirmed resync payload s).keptD = s.keptD := by
  unfold annexSend
  (try dsimp only)
  (repeat' split)
  all_goals (try simp)

@[simp] theorem annexReportTo_keptD (n : AnnexNet) (type life : Nat) (payload : Bytes) (s : State)  : (annexReportTo n type life payload s).keptD = s.keptD := by
  unfold annexReportTo
  (try dsimp only)
  (repeat' split)
  all_goals (try simp)

@[simp] theorem annexRespond_keptD (seq retries status : Nat) (data : Bytes) (s : State)  : (annexRespond seq retries status data s).keptD = s.keptD := by simp [annexRespond]
@[simp] theorem annexContact_keptD (src at_ : Nat) (s : State)  : (annexContact src at_ s).keptD = s.keptD := by simp [annexContact]
@[simp] theorem annexReport_keptD (s : State)  : (annexReport s).keptD = s.keptD := by
  unfold annexReport
  (try dsimp only)
  (repeat' split)
  all_goals (try simp)

@[simp] theorem annexChoose_keptD (p : AnnexCand → Bool) (s : State)  : (annexChoose p s).keptD = s.keptD := by simp [annexChoose]
@[simp] theorem annexScan_keptD (s : State)  : (annexScan s).keptD = s.keptD := by simp [annexScan]
@[simp] theorem annexJoinFrames_keptD (s0 : State) (dst last : Nat) (y0 : List Bytes) (y1 : Nat) (s : State)  : (annexJoinFrames s0 dst last y0 y1 s).1.keptD = s.keptD := by
  induction y0 generalizing y1 s with
  | nil => rfl
  | cons b l ih => unfold annexJoinFrames; simp [ih]

@[simp] theorem annexRequest_keptD (p : AnnexCand) (s : State)  : (annexRequest p s).keptD = s.keptD := by simp [annexRequest]
@[simp] theorem annexJoining_keptD (p : AnnexCand) (s : State)  : (annexJoining p s).keptD = s.keptD := by simp [annexJoining]
@[simp] theorem annexLeave_keptD (s : State)  : (annexLeave s).keptD = s.keptD := by simp [annexLeave]
@[simp] theorem annexKids_keptD (p : AnnexCand) (n : AnnexNet) (s : State)  : (annexKids p n s).keptD = s.keptD := by simp [annexKids]
@[simp] theorem annexMissed_keptD (asn : Nat) (n : AnnexNet) (s : State)  : (annexMissed asn n s).keptD = s.keptD := by simp [annexMissed]
@[simp] theorem annexEnergy_keptD (asn : Nat) (n : AnnexNet) (s : State)  : (annexEnergy asn n s).keptD = s.keptD := by simp [annexEnergy]
@[simp] theorem annexGone_keptD (s : State)  : (annexGone s).keptD = s.keptD := by simp [annexGone]
@[simp] theorem annexSecond_keptD (s : State)  : (annexSecond s).keptD = s.keptD := by
  unfold annexSecond
  (try dsimp only)
  (repeat' split)
  all_goals (try simp)

@[simp] theorem endAnnex_keptD (ok : Bool) (s : State)  : (endAnnex ok s).keptD = s.keptD := by
  unfold endAnnex
  (try dsimp only)
  (repeat' split)
  all_goals (try simp)

@[simp] theorem annexAccept_keptD (key ctr : Nat) (s : State)  : (annexAccept key ctr s).keptD = s.keptD := by simp [annexAccept]
@[simp] theorem annexInstall_keptD (m : Bytes) (s : State)  : (annexInstall m s).keptD = s.keptD := by simp [annexInstall]
@[simp] theorem annexJoined_keptD (m : Bytes) (s : State)  : (annexJoined m s).keptD = s.keptD := by
  unfold annexJoined
  (try dsimp only)
  (repeat' split)
  all_goals (try simp)

@[simp] theorem annexResponse_keptD (f : RxFrame) (s : State)  : (annexResponse f s).keptD = s.keptD := by
  unfold annexResponse
  (try dsimp only)
  (repeat' split)
  all_goals (try simp)

@[simp] theorem annexAct_keptD (at_ : Nat) (m : Bytes) (s : State)  : (annexAct at_ m s).1.keptD = s.keptD := by
  unfold annexAct
  simp [apply_ite Prod.fst]

theorem annexAct_resD {a : Nat} {m : Bytes} {u t : State} {r : Option Nat} (e : annexAct a m u = (t, r)) : t.keptD = u.keptD := by
  have k := annexAct_keptD a m u
  rw [e] at k
  exact k

@[simp] theorem annexDeliver_keptD (at_ : Nat) (m : Bytes) (s : State)  : (annexDeliver at_ m s).keptD = s.keptD := by
  unfold annexDeliver
  (try dsimp only)
  (repeat' split)
  all_goals first | rfl | (simp; done) | ((try simp); have k := annexAct_resD (by assumption); exact k.trans (by simp))

@[simp] theorem annexForward_keptD (m : Bytes) (s : State)  : (annexForward m s).keptD = s.keptD := by
  unfold annexForward
  (try dsimp only)
  (repeat' split)
  all_goals (try simp)

@[simp] theorem annexOverhear_keptD (m : Bytes) (s : State)  : (annexOverhear m s).keptD = s.keptD := by simp [annexOverhear]
@[simp] theorem annexRxBeacon_keptD (f : RxFrame) (s : State)  : (annexRxBeacon f s).keptD = s.keptD := by
  unfold annexRxBeacon
  (try dsimp only)
  (repeat' split)
  all_goals (try simp)

@[simp] theorem annexProxy_keptD (f : RxFrame) (s : State)  : (annexProxy f s).keptD = s.keptD := by
  unfold annexProxy
  (try dsimp only)
  (repeat' split)
  all_goals (try simp)

@[simp] theorem annexRxFlood_keptD (f : RxFrame) (s : State)  : (annexRxFlood f s).keptD = s.keptD := by
  unfold annexRxFlood
  (try dsimp only)
  (repeat' split)
  all_goals (try simp)

@[simp] theorem keepFrame_keptD (port at_ : Nat) (psdu : Bytes) (s : State)  : (keepFrame port at_ psdu s).keptD = s.keptD := by
  unfold keepFrame
  (try dsimp only)
  (repeat' split)
  all_goals (try simp)

@[simp] theorem correctBeacon_keptD (port at_ : Nat) (s : State)  : (correctBeacon port at_ s).keptD = s.keptD := by simp [correctBeacon]
@[simp] theorem activateKey_keptD (s : State)  : (activateKey s).keptD = s.keptD := by
  unfold activateKey
  (try dsimp only)
  (repeat' split)
  all_goals (try simp)

@[simp] theorem annexKeyStep_keptD (s : State)  : (annexKeyStep s).keptD = s.keptD := by
  unfold annexKeyStep
  (try dsimp only)
  (repeat' split)
  all_goals (try simp)

@[simp] theorem lampStatus_keptD (c : LiveCmd) (s : State)  : (lampStatus c s).keptD = s.keptD := by simp [lampStatus]
@[simp] theorem recomputeRoutes_keptD (s : State)  : (recomputeRoutes s).keptD = s.keptD := by simp [recomputeRoutes]
@[simp] theorem sendInstall_keptD (n : Nat) (b : Bytes) (s : State)  : (sendInstall n b s).keptD = s.keptD := by simp [sendInstall]
@[simp] theorem pushFragment_keptD (f : Fragment) (s : State)  : (pushFragment f s).keptD = s.keptD := by simp [pushFragment]
@[simp] theorem pushEntry_keptD (p : Pier) (e : HeadEntry) (s : State)  : (pushEntry p e s).keptD = s.keptD := by simp [pushEntry]
@[simp] theorem sendOnce_keptD (n type : Nat) (payload : Bytes) (s : State)  : (sendOnce n type payload s).keptD = s.keptD := by simp [sendOnce]
@[simp] theorem pushWatches_keptD (site : Option Nat) (s : State)  : (pushWatches site s).keptD = s.keptD := by simp [pushWatches]
@[simp] theorem pushConfigs_keptD (site : Option Nat) (s : State)  : (pushConfigs site s).keptD = s.keptD := by
  unfold pushConfigs
  (try dsimp only)
  refine keptD_foldl _ (fun u x => ?_) _ _
  (try dsimp only)
  (repeat' split)
  all_goals first | rfl | simp

@[simp] theorem pushEnds_keptD (site : Option Nat) (s : State)  : (pushEnds site s).keptD = s.keptD := by simp [pushEnds]
@[simp] theorem pushAll_keptD (site : Option Nat) (s : State)  : (pushAll site s).keptD = s.keptD := by simp [pushAll]
@[simp] theorem syncHeads_keptD (s : State)  : (syncHeads s).keptD = s.keptD := by simp [syncHeads]
@[simp] theorem newRoutes_keptD (s : State)  : (newRoutes s).keptD = s.keptD := by simp [newRoutes]
@[simp] theorem noteShortfall_keptD (s : State)  : (noteShortfall s).keptD = s.keptD := by simp [noteShortfall]
@[simp] theorem viaductSub_keptD (r : Bytes) (s : State)  : (viaductSub r s).keptD = s.keptD := by simp [viaductSub]
@[simp] theorem viaductSubs_keptD (s : State)  : (viaductSubs s).keptD = s.keptD := by simp [viaductSubs]
@[simp] theorem placementsDone_keptD (s : State)  : (placementsDone s).keptD = s.keptD := by simp [placementsDone]
@[simp] theorem evaluatePlacement_keptD (s : State)  : (evaluatePlacement s).keptD = s.keptD := by simp [evaluatePlacement]
@[simp] theorem sendSchedule_keptD (n : Nat) (s : State)  : (sendSchedule n s).keptD = s.keptD := by simp [sendSchedule]
@[simp] theorem reschedule_keptD (joining : Option Nat) (s : State)  : (reschedule joining s).keptD = s.keptD := by simp [reschedule]
@[simp] theorem claimAgain_keptD (p : Policy) (n : Nat) (s : State)  : (claimAgain p n s).keptD = s.keptD := by simp [claimAgain]
@[simp] theorem decideContactor_keptD (r : Bytes) (k : Nat) (close : Bool) (s : State)  : (decideContactor r k close s).keptD = s.keptD := by simp [decideContactor]
@[simp] theorem firmwareTakes_keptD (s : State)  : (firmwareTakes s).keptD = s.keptD := by simp [firmwareTakes]
@[simp] theorem evaluateNow_keptD (s : State)  : (evaluateNow s).keptD = s.keptD := by simp [evaluateNow]
@[simp] theorem reportSubs_keptD (n sensor : Nat) (payload : Bytes) (s : State)  : (reportSubs n sensor payload s).keptD = s.keptD := by simp [reportSubs]
@[simp] theorem askEvaluation_keptD (s : State)  : (askEvaluation s).keptD = s.keptD := by simp [askEvaluation]
@[simp] theorem policyLoad_keptD (c : LiveCmd) (s : State)  : (policyLoad c s).keptD = s.keptD := by
  unfold policyLoad
  (try dsimp only)
  (repeat' split)
  all_goals (try simp)

@[simp] theorem policyList_keptD (c : LiveCmd) (s : State)  : (policyList c s).keptD = s.keptD := by simp [policyList]
@[simp] theorem placementRead_keptD (c : LiveCmd) (s : State)  : (placementRead c s).keptD = s.keptD := by simp [placementRead]
@[simp] theorem placementPin_keptD (c : LiveCmd) (s : State)  : (placementPin c s).keptD = s.keptD := by
  unfold placementPin
  (try dsimp only)
  (repeat' split)
  all_goals (try simp)

@[simp] theorem placementHold_keptD (c : LiveCmd) (s : State)  : (placementHold c s).keptD = s.keptD := by simp [placementHold]
@[simp] theorem sensorSubscribe_keptD (c : LiveCmd) (s : State)  : (sensorSubscribe c s).keptD = s.keptD := by
  unfold sensorSubscribe
  (try dsimp only)
  (repeat' split)
  all_goals (try simp)

@[simp] theorem imageStage_keptD (c : LiveCmd) (s : State)  : (imageStage c s).keptD = s.keptD := by
  unfold imageStage
  (try simp)
  (repeat' (split <;> try simp))

@[simp] theorem setTarget_keptD (img n code : Nat) (s : State)  : (setTarget img n code s).keptD = s.keptD := by simp [setTarget]
@[simp] theorem announceCache_keptD (r : Rollout) (i : LanImage) (m : Nat) (s : State)  : (announceCache r i m s).keptD = s.keptD := by simp [announceCache]
@[simp] theorem visitRollout_keptD (img : Nat) (s : State) (n : Nat)  : (visitRollout img s n).keptD = s.keptD := by
  unfold visitRollout
  (try dsimp only)
  (repeat' split)
  all_goals (try simp)

@[simp] theorem finishRollouts_keptD (s : State)  : (finishRollouts s).keptD = s.keptD := by simp [finishRollouts]
@[simp] theorem progressRollouts_keptD (s : State)  : (progressRollouts s).keptD = s.keptD := by simp [progressRollouts]
@[simp] theorem imageRollout_keptD (c : LiveCmd) (s : State)  : (imageRollout c s).keptD = s.keptD := by
  unfold imageRollout
  (try dsimp only)
  (repeat' split)
  all_goals (try simp)

@[simp] theorem rolloutCapability_keptD (n : Nat) (s : State)  : (rolloutCapability n s).keptD = s.keptD := by
  unfold rolloutCapability
  simp only [progressRollouts_keptD]
  refine keptD_foldl _ (fun u n => ?_) _ _
  split
  · split <;> simp
  · rfl

@[simp] theorem imageStatus_keptD (n : Nat) (p : Bytes) (s : State)  : (imageStatus n p s).keptD = s.keptD := by
  unfold imageStatus
  (try dsimp only)
  (repeat' split)
  all_goals (try simp)

@[simp] theorem chunkRequest_keptD (n : Nat) (p : Bytes) (s : State)  : (chunkRequest n p s).keptD = s.keptD := by
  unfold chunkRequest
  (try dsimp only)
  (repeat' split)
  all_goals (try simp)

@[simp] theorem spanStart_keptD (c : LiveCmd) (s : State)  : (spanStart c s).keptD = s.keptD := by
  unfold spanStart
  (try dsimp only)
  (repeat' split)
  all_goals (try simp)

@[simp] theorem stopSpan_keptD (s : State)  : (stopSpan s).keptD = s.keptD := by simp [stopSpan]
@[simp] theorem spanStop_keptD (c : LiveCmd) (s : State)  : (spanStop c s).keptD = s.keptD := by simp [spanStop]
@[simp] theorem lanternAdmit_keptD (c : LiveCmd) (s : State)  : (lanternAdmit c s).keptD = s.keptD := by
  unfold lanternAdmit
  (try simp)
  (repeat' (split <;> try simp))

@[simp] theorem lanternRemove_keptD (c : LiveCmd) (s : State)  : (lanternRemove c s).keptD = s.keptD := by simp [lanternRemove]
@[simp] theorem lanternQuery_keptD (c : LiveCmd) (s : State)  : (lanternQuery c s).keptD = s.keptD := by
  unfold lanternQuery
  (try dsimp only)
  (repeat' split)
  all_goals (try simp)

@[simp] theorem lanternSend_keptD (c : LiveCmd) (s : State)  : (lanternSend c s).keptD = s.keptD := by simp [lanternSend]
@[simp] theorem floodSend_keptD (c : LiveCmd) (s : State)  : (floodSend c s).keptD = s.keptD := by simp [floodSend]
@[simp] theorem topologyRead_keptD (c : LiveCmd) (s : State)  : (topologyRead c s).keptD = s.keptD := by simp [topologyRead]
@[simp] theorem regionLoad_keptD (c : LiveCmd) (s : State)  : (regionLoad c s).keptD = s.keptD := by
  unfold regionLoad
  (try dsimp only)
  (repeat' split)
  all_goals (try simp)

@[simp] theorem loadPort_keptD (k : Nat) (p miso : Bytes) (s : State)  : (loadPort k p miso s).1.keptD = s.keptD := by simp [loadPort]
@[simp] theorem radioLoad_keptD (misoA misoB : Bytes) (c : LiveCmd) (s : State)  : (radioLoad misoA misoB c s).keptD = s.keptD := by
  unfold radioLoad
  (try dsimp only)
  (repeat' split)
  all_goals (try simp)

@[simp] theorem dwellStatus_keptD (c : LiveCmd) (s : State)  : (dwellStatus c s).keptD = s.keptD := by
  unfold dwellStatus
  (try dsimp only)
  (repeat' split)
  all_goals (try simp)

@[simp] theorem withMsg_keptD (type origin : Nat) (f : InMsg → State → State) (s : State) (hf : ∀ x0 u, (f x0 u).keptD = u.keptD) : (withMsg type origin f s).keptD = s.keptD := by
  unfold withMsg
  (try dsimp only)
  (repeat' split)
  all_goals (try simp [hf])

@[simp] theorem fromLantern_keptD (type n : Nat) (f : Lantern → InMsg → State → State) (s : State) (hf : ∀ x0 x1 u, (f x0 x1 u).keptD = u.keptD) : (fromLantern type n f s).keptD = s.keptD := by
  unfold fromLantern
  exact withMsg_keptD _ _ _ _ (fun m u => by split <;> simp [hf])

@[simp] theorem joinRefused_keptD (eui reason proxy : Nat) (s : State)  : (joinRefused eui reason proxy s).keptD = s.keptD := by simp [joinRefused]
@[simp] theorem joinFrames_keptD (n eui last : Nat) (y0 : List Bytes) (y1 : Nat) (s : State)  : (joinFrames n eui last y0 y1 s).1.keptD = s.keptD := by
  induction y0 generalizing y1 s with
  | nil => rfl
  | cons b l ih => unfold joinFrames; split <;> simp [ih]

@[simp] theorem sendJoinResponse_keptD (proxy port lan eui : Nat) (body : Bytes) (s : State)  : (sendJoinResponse proxy port lan eui body s).keptD = s.keptD := by
  unfold sendJoinResponse
  (try dsimp only)
  (repeat' split)
  all_goals (try simp)

@[simp] theorem joinAccepted_keptD (proxy port at_ n : Nat) (l : Lantern) (s : State)  : (joinAccepted proxy port at_ n l s).keptD = s.keptD := by simp [joinAccepted]
@[simp] theorem joinRequest_keptD (proxy port at_ : Nat) (psdu : Bytes) (s : State)  : (joinRequest proxy port at_ psdu s).keptD = s.keptD := by
  unfold joinRequest
  (try dsimp only)
  (repeat' split)
  all_goals (try simp)

@[simp] theorem sendKey_keptD (phase asn n : Nat) (s : State)  : (sendKey phase asn n s).keptD = s.keptD := by simp [sendKey]
@[simp] theorem pushScenes_keptD (n : Nat) (s : State)  : (pushScenes n s).keptD = s.keptD := by simp [pushScenes]
@[simp] theorem welcome_keptD (n : Nat) (s : State)  : (welcome n s).keptD = s.keptD := by
  unfold welcome
  (try dsimp only)
  (repeat' split)
  all_goals (try simp)

@[simp] theorem capability_keptD (n : Nat) (l : Lantern) (m : InMsg) (s : State)  : (capability n l m s).keptD = s.keptD := by simp [capability]
@[simp] theorem neighbourReport_keptD (n : Nat) (l : Lantern) (m : InMsg) (s : State)  : (neighbourReport n l m s).keptD = s.keptD := by
  unfold neighbourReport
  (try dsimp only)
  (repeat' split)
  all_goals (try simp)

@[simp] theorem clearSilent_keptD (n : Nat) (s : State)  : (clearSilent n s).keptD = s.keptD := by
  unfold clearSilent
  (try dsimp only)
  (repeat' split)
  all_goals (try simp)

@[simp] theorem missBeacon_keptD (n cyc : Nat) (s : State)  : (missBeacon n cyc s).keptD = s.keptD := by simp [missBeacon]
@[simp] theorem beaconMiss_keptD (n : Nat) (m : InMsg) (s : State)  : (beaconMiss n m s).keptD = s.keptD := by simp [beaconMiss]
@[simp] theorem annexHeard_keptD (c : AnnexCand) (s : State)  : (annexHeard c s).keptD = s.keptD := by simp [annexHeard]
@[simp] theorem response_keptD (n : Nat) (m : InMsg) (s : State)  : (response n m s).keptD = s.keptD := by
  unfold response
  (try dsimp only)
  (repeat' split)
  all_goals (try simp)

@[simp] theorem fragmentInventory_keptD (n : Nat) (m : InMsg) (s : State)  : (fragmentInventory n m s).keptD = s.keptD := by simp [fragmentInventory]
@[simp] theorem settleGap_keptD (s : State)  : (settleGap s).keptD = s.keptD := by simp [settleGap]
@[simp] theorem returnClock_keptD (edges : List Nat) (s : State)  : (returnClock edges s).keptD = s.keptD := by simp [returnClock]
@[simp] theorem presenceSecond_keptD (s : State)  : (presenceSecond s).keptD = s.keptD := by
  unfold presenceSecond
  (try dsimp only)
  (repeat' split)
  all_goals (try simp)

@[simp] theorem saveSecond_keptD (s : State)  : (saveSecond s).keptD = s.keptD := by simp [saveSecond]
@[simp] theorem restartSecond_keptD (s : State)  : (restartSecond s).keptD = s.keptD := by
  unfold restartSecond
  (try dsimp only)
  (repeat' split)
  all_goals (try simp)

@[simp] theorem windowSecond_keptD (s : State)  : (windowSecond s).keptD = s.keptD := by
  unfold windowSecond
  (try dsimp only)
  (repeat' split)
  all_goals (try simp)

@[simp] theorem flushTotals_keptD (s : State)  : (flushTotals s).keptD = s.keptD := by
  unfold flushTotals
  (try dsimp only)
  (repeat' split)
  all_goals (try simp)

@[simp] theorem noteResult_keptD (r : ReconRes) (need : Nat) (s : State)  : (noteResult r need s).keptD = s.keptD := by simp [noteResult]
@[simp] theorem reconcile_keptD (w : ReconWin) (s : State)  : (reconcile w s).keptD = s.keptD := by simp [reconcile]
@[simp] theorem reconcilePrev_keptD (s : State)  : (reconcilePrev s).keptD = s.keptD := by
  unfold reconcilePrev
  (try dsimp only)
  (repeat' split)
  all_goals (try simp)

@[simp] theorem windowEnds_keptD (c : Nat) (s : State)  : (windowEnds c s).keptD = s.keptD := by simp [windowEnds]
@[simp] theorem windowBegins_keptD (c : Nat) (s : State)  : (windowBegins c s).keptD = s.keptD := by simp [windowBegins]
@[simp] theorem windowsStop_keptD (s : State)  : (windowsStop s).keptD = s.keptD := by
  unfold windowsStop
  (try dsimp only)
  (repeat' split)
  all_goals (try simp)

@[simp] theorem modWindow_keptD (start : Nat) (f : ReconWin → ReconWin) (s : State)  : (modWindow start f s).keptD = s.keptD := by simp [modWindow]
@[simp] theorem energyAggregate_keptD (head : Nat) (p : Bytes) (s : State)  : (energyAggregate head p s).keptD = s.keptD := by simp [energyAggregate]
@[simp] theorem standbyWindow_keptD (s : State)  : (standbyWindow s).keptD = s.keptD := by
  unfold standbyWindow
  (try dsimp only)
  (repeat' split)
  all_goals (try simp)

@[simp] theorem meterRead_keptD (c : LiveCmd) (s : State)  : (meterRead c s).keptD = s.keptD := by simp [meterRead]
@[simp] theorem energyRead_keptD (c : LiveCmd) (s : State)  : (energyRead c s).keptD = s.keptD := by simp [energyRead]
@[simp] theorem pulseInputRead_keptD (c : LiveCmd) (s : State)  : (pulseInputRead c s).keptD = s.keptD := by simp [pulseInputRead]
@[simp] theorem reconcileRead_keptD (c : LiveCmd) (s : State)  : (reconcileRead c s).keptD = s.keptD := by simp [reconcileRead]
@[simp] theorem meterCalibrate_keptD (c : LiveCmd) (s : State)  : (meterCalibrate c s).keptD = s.keptD := by simp [meterCalibrate]
@[simp] theorem selftestResult_keptD (c : LiveCmd) (s : State)  : (selftestResult c s).keptD = s.keptD := by
  unfold selftestResult
  (try dsimp only)
  (repeat' split)
  all_goals (try simp)

@[simp] theorem sendHealth_keptD (s : State)  : (sendHealth s).keptD = s.keptD := by simp [sendHealth]
@[simp] theorem sendHello_keptD (s : State)  : (sendHello s).keptD = s.keptD := by simp [sendHello]
@[simp] theorem heard_keptD (s : State)  : (heard s).keptD = s.keptD := by simp [heard]
@[simp] theorem frameBad_keptD (s : State)  : (frameBad s).keptD = s.keptD := by simp [frameBad]
@[simp] theorem onLink_keptD (type : Nat) (f : LinkIn) (k : State → State) (s : State) (hk : ∀ u, (k u).keptD = u.keptD) : (onLink type f k s).keptD = s.keptD := by simp [onLink, hk]
@[simp] theorem assertLease_keptD (cause : Nat) (s : State)  : (assertLease cause s).keptD = s.keptD := by simp [assertLease]
@[simp] theorem linkUp_keptD (h : PeerHello) (s : State)  : (linkUp h s).keptD = s.keptD := by simp [linkUp]
@[simp] theorem trainLink_keptD (s : State)  : (trainLink s).keptD = s.keptD := by
  unfold trainLink
  (try dsimp only)
  (repeat' split)
  all_goals (try simp)

@[simp] theorem twinHello_keptD (f : LinkIn) (s : State)  : (twinHello f s).keptD = s.keptD := by simp [twinHello]
@[simp] theorem inSequence_keptD (type : Nat) (f : LinkIn) (ok : State → State) (s : State) (hok : ∀ u, (ok u).keptD = u.keptD) : (inSequence type f ok s).keptD = s.keptD := by
  unfold inSequence
  (try dsimp only)
  (repeat' split)
  all_goals (try simp [hok])

@[simp] theorem nak_keptD (f : LinkIn) (s : State)  : (nak f s).keptD = s.keptD := by simp [nak]
@[simp] theorem renewAndCopy_keptD (cycle : Nat) (step : Int) (s : State)  : (renewAndCopy cycle step s).keptD = s.keptD := by simp [renewAndCopy]
@[simp] theorem copySegment_keptD (f : LinkIn) (s : State)  : (copySegment f s).keptD = s.keptD := by
  unfold copySegment
  exact inSequence_keptD _ _ _ _ (fun _ => rfl)

@[simp] theorem yieldDone_keptD (cycle : Nat) (s : State)  : (yieldDone cycle s).keptD = s.keptD := by simp [yieldDone]
@[simp] theorem standbyCycle_keptD (s : State)  : (standbyCycle s).keptD = s.keptD := by simp [standbyCycle]
@[simp] theorem journalFrame_keptD (f : LinkIn) (s : State)  : (journalFrame f s).keptD = s.keptD := by simp [journalFrame]
@[simp] theorem journalAck_keptD (f : LinkIn) (s : State)  : (journalAck f s).keptD = s.keptD := by
  unfold journalAck
  (try dsimp only)
  (repeat' split)
  all_goals (try simp)

@[simp] theorem journalAccept_keptD (c : LiveCmd) (s : State)  : (journalAccept c s).keptD = s.keptD := by simp [journalAccept]
@[simp] theorem echoFed_keptD (f : LinkIn) (s : State)  : (echoFed f s).keptD = s.keptD := by simp [echoFed]
@[simp] theorem echoDone_keptD (f : LinkIn) (s : State)  : (echoDone f s).keptD = s.keptD := by
  unfold echoDone
  (try dsimp only)
  (repeat' split)
  all_goals (try simp)

@[simp] theorem timeExchange_keptD (s : State)  : (timeExchange s).keptD = s.keptD := by simp [timeExchange]
@[simp] theorem resumeMeter_keptD (img : CopyImage) (s : State)  : (resumeMeter img s).keptD = s.keptD := by simp [resumeMeter]
@[simp] theorem advanceSeries_keptD (s : State)  : (advanceSeries s).keptD = s.keptD := by simp [advanceSeries]
@[simp] theorem reportUnknown_keptD (us : List JournalEnt) (s : State)  : (reportUnknown us s).keptD = s.keptD := by simp [reportUnknown]
@[simp] theorem takeoverWindow_keptD (s : State)  : (takeoverWindow s).keptD = s.keptD := by simp [takeoverWindow]
@[simp] theorem arbitrate_keptD (s : State)  : (arbitrate s).keptD = s.keptD := by
  unfold arbitrate
  (try dsimp only)
  (repeat' split)
  all_goals (try simp)

@[simp] theorem leaseInDeassert_keptD (s : State)  : (leaseInDeassert s).keptD = s.keptD := by simp [leaseInDeassert]
@[simp] theorem noteUnhealthy_keptD (s : State)  : (noteUnhealthy s).keptD = s.keptD := by simp [noteUnhealthy]
@[simp] theorem twinStatus_keptD (c : LiveCmd) (s : State)  : (twinStatus c s).keptD = s.keptD := by simp [twinStatus]
@[simp] theorem leaseYield_keptD (c : LiveCmd) (s : State)  : (leaseYield c s).keptD = s.keptD := by simp [leaseYield]
@[simp] theorem countRefusals_keptD (l : List Nat) (s : State)  : (countRefusals l s).keptD = s.keptD := by simp [countRefusals]
@[simp] theorem countEntry_keptD (q : PState) (s : State)  : (countEntry q s).keptD = s.keptD := by simp [countEntry]
@[simp] theorem beginEntry_keptD (s : State)  : (beginEntry s).keptD = s.keptD := by simp [beginEntry]
@[simp] theorem chooseState_keptD (y0 : List PState) (s : State)  : (chooseState y0 s).keptD = s.keptD := by
  induction y0 generalizing s with
  | nil => rfl
  | cons q l ih =>
    unfold chooseState
    dsimp only
    (repeat' split) <;> simp only [ih, countRefusals_keptD, beginEntry_keptD, countEntry_keptD, setPState_keptD, keptD_draw]

@[simp] theorem applyOpPoint_keptD (s : State)  : (applyOpPoint s).keptD = s.keptD := by simp [applyOpPoint]
@[simp] theorem meterResumes_keptD (s : State)  : (meterResumes s).keptD = s.keptD := by
  unfold meterResumes
  (try dsimp only)
  (repeat' split)
  all_goals (try simp)

@[simp] theorem abandonAt_keptD (point : Nat) (s : State)  : (abandonAt point s).keptD = s.keptD := by simp [abandonAt]
@[simp] theorem checkinTick_keptD (s : State)  : (checkinTick s).keptD = s.keptD := by simp [checkinTick]
@[simp] theorem powerStatus_keptD (c : LiveCmd) (s : State)  : (powerStatus c s).keptD = s.keptD := by simp [powerStatus]
@[simp] theorem powerRefusalsRead_keptD (c : LiveCmd) (s : State)  : (powerRefusalsRead c s).keptD = s.keptD := by simp [powerRefusalsRead]
@[simp] theorem modSlot_keptD (k : Nat) (f : SlotImg → SlotImg) (s : State)  : (modSlot k f s).keptD = s.keptD := by simp [modSlot]
@[simp] theorem endFragments_keptD (s : State)  : (endFragments s).keptD = s.keptD := by simp [endFragments]
@[simp] theorem newSessionUpd_keptD (h : Bytes) (target : Nat) (s : State)  : (newSessionUpd h target s).keptD = s.keptD := by simp [newSessionUpd]
@[simp] theorem updateBegin_keptD (c : LiveCmd) (s : State)  : (updateBegin c s).keptD = s.keptD := by
  unfold updateBegin
  (try dsimp only)
  (repeat' split)
  all_goals (try simp)

@[simp] theorem programFrag_keptD (x : UpdSession) (i : Nat) (d : Bytes) (s : State)  : (programFrag x i d s).keptD = s.keptD := by simp [programFrag]
@[simp] theorem storeFragment_keptD (c : LiveCmd) (s : State)  : (storeFragment c s).keptD = s.keptD := by
  unfold storeFragment
  (try dsimp only)
  (repeat' split)
  all_goals (try simp)

@[simp] theorem updateFragment_keptD (c : LiveCmd) (s : State)  : (updateFragment c s).keptD = s.keptD := by simp [updateFragment]
@[simp] theorem sectorErased_keptD (s : State)  : (sectorErased s).keptD = s.keptD := by
  unfold sectorErased
  (try dsimp only)
  (repeat' split)
  all_goals (try simp)

@[simp] theorem verifyDone_keptD (s : State)  : (verifyDone s).keptD = s.keptD := by
  unfold verifyDone
  (try dsimp only)
  (repeat' split)
  all_goals (try simp)

@[simp] theorem unactivate_keptD (s : State)  : (unactivate s).keptD = s.keptD := by
  unfold unactivate
  (try dsimp only)
  (repeat' split)
  all_goals (try simp)

@[simp] theorem dropSession_keptD (s : State)  : (dropSession s).keptD = s.keptD := by simp [dropSession]
@[simp] theorem updateStatus_keptD (c : LiveCmd) (s : State)  : (updateStatus c s).keptD = s.keptD := by simp [updateStatus]
@[simp] theorem rewrap_keptD (target : Nat) (s : State)  : (rewrap target s).keptD = s.keptD := by simp [rewrap]
@[simp] theorem updateActivate_keptD (c : LiveCmd) (s : State)  : (updateActivate c s).keptD = s.keptD := by
  unfold updateActivate
  (try dsimp only)
  (repeat' split)
  all_goals (try simp)

@[simp] theorem updateAbort_keptD (c : LiveCmd) (s : State)  : (updateAbort c s).keptD = s.keptD := by
  unfold updateAbort
  (try dsimp only)
  (repeat' split)
  all_goals (try simp)

@[simp] theorem activated_keptD (type : Nat) (s : State)  : (activated type s).keptD = s.keptD := by
  unfold activated
  (try dsimp only)
  (repeat' split)
  all_goals (try simp)

@[simp] theorem migrate_keptD (s : State)  : (migrate s).keptD = s.keptD := by
  unfold migrate
  (try dsimp only)
  (repeat' split)
  all_goals (try simp)

@[simp] theorem restoreTotals_keptD (s : State)  : (restoreTotals s).keptD = s.keptD := by
  unfold restoreTotals
  (try dsimp only)
  (repeat' split)
  all_goals (try simp)

@[simp] theorem restartEvents_keptD (cold : Bool) (s : State)  : (restartEvents cold s).keptD = s.keptD := by simp [restartEvents]
@[simp] theorem tamperStart_keptD (s : State)  : (tamperStart s).keptD = s.keptD := by simp [tamperStart]
@[simp] theorem resetCause_keptD (s : State)  : (resetCause s).keptD = s.keptD := by simp [resetCause]
@[simp] theorem testFails_keptD (origin : Nat) (l : List (TestUnit × List (Nat × Nat))) (s : State)  : (testFails origin l s).keptD = s.keptD := by simp [testFails]
@[simp] theorem writeLatch_keptD (s : State)  : (writeLatch s).keptD = s.keptD := by simp [writeLatch]
@[simp] theorem modRecovery_keptD (f : Recovery → Recovery) (s : State)  : (modRecovery f s).keptD = s.keptD := by simp [modRecovery]
@[simp] theorem romSend_keptD (b : Bytes) (s : State)  : (romSend b s).keptD = s.keptD := by simp [romSend]
@[simp] theorem romStatus_keptD (seq status detail : Nat) (s : State)  : (romStatus seq status detail s).keptD = s.keptD := by simp [romStatus]
@[simp] theorem romCommand_keptD (type : Nat) (f : Bytes) (body : Bytes → State → State × Nat × Nat) (s : State) (hbody : ∀ x0 u, (body x0 u).1.keptD = u.keptD) : (romCommand type f body s).keptD = s.keptD := by
  unfold romCommand
  dsimp only
  (repeat' split) <;> simp [hbody]

@[simp] theorem romBegin_keptD (h : Bytes) (s : State)  : (romBegin h s).1.keptD = s.keptD := by
  unfold romBegin
  (try dsimp only)
  (repeat' split)
  all_goals (try simp)

@[simp] theorem romData_keptD (p : Bytes) (s : State)  : (romData p s).1.keptD = s.keptD := by
  unfold romData
  (try dsimp only)
  (repeat' split)
  all_goals (try simp)

@[simp] theorem romKeys_keptD (target : Nat) (s : State)  : (romKeys target s).keptD = s.keptD := by simp [romKeys]
@[simp] theorem romHello_keptD (s : State)  : (romHello s).keptD = s.keptD := by simp [romHello]
@[simp] theorem refusePacket_keptD (t : Transport) (sid : Option Nat) (b : Bytes) (st d : Nat) (s : State)  : (refusePacket t sid b st d s).keptD = s.keptD := by
  unfold refusePacket
  (try dsimp only)
  (repeat' split)
  all_goals (try simp)

@[simp] theorem safeReply_keptD (t : Transport) (charged : Bool) (b : Bytes) (st d seq : Nat) (s : State)  : (safeReply t charged b st d seq s).keptD = s.keptD := by
  unfold safeReply
  (try dsimp only)
  (repeat' split)
  all_goals (try simp)

@[simp] theorem safeAnswer_keptD (t : Transport) (charged : Bool) (b : Bytes) (s : State)  : (safeAnswer t charged b s).keptD = s.keptD := by
  unfold safeAnswer
  (try dsimp only)
  (repeat' split)
  all_goals (try simp)

@[simp] theorem enqueue_keptD (e : InEntry) (s : State)  : (enqueue e s).keptD = s.keptD := by simp [enqueue]
@[simp] theorem offerOn_keptD (t : Transport) (n : Nat) (x : Session) (b : Bytes) (s : State)  : (offerOn t n x b s).keptD = s.keptD := by simp [offerOn]
@[simp] theorem offerLocal_keptD (t : Transport) (b : Bytes) (s : State)  : (offerLocal t b s).keptD = s.keptD := by
  unfold offerLocal
  (try dsimp only)
  (repeat' split)
  all_goals (try simp)

@[simp] theorem dropOut_keptD (t : Transport) (sid : Option Nat) (p : OutPkt) (s : State)  : (dropOut t sid p s).keptD = s.keptD := by
  unfold dropOut
  (try dsimp only)
  (repeat' split)
  all_goals (try simp)

@[simp] theorem modWin_keptD (f : Window → Window) (s : State)  : (modWin f s).keptD = s.keptD := by simp [modWin]
@[simp] theorem hspi_keptD (f : State → State) (s : State) (hf : ∀ u, (f u).keptD = u.keptD) : (hspi f s).keptD = s.keptD := by simp [hspi, hf]
@[simp] theorem writeStatus_keptD (v : Nat) (s : State)  : (writeStatus v s).keptD = s.keptD := by simp [writeStatus]
@[simp] theorem writeCause_keptD (v : Nat) (s : State)  : (writeCause v s).keptD = s.keptD := by simp [writeCause]
@[simp] theorem ethDrop_keptD (s : State)  : (ethDrop s).keptD = s.keptD := by simp [ethDrop]
@[simp] theorem ethOut_keptD (peer : Nat) (b : Bytes) (s : State)  : (ethOut peer b s).keptD = s.keptD := by simp [ethOut]
@[simp] theorem refuseHandshake_keptD (peer st : Nat) (s : State)  : (refuseHandshake peer st s).keptD = s.keptD := by simp [refuseHandshake]
@[simp] theorem openEth_keptD (peer role n : Nat) (hostKey p z : Bytes) (d : Nat) (s : State)  : (openEth peer role n hostKey p z d s).keptD = s.keptD := by simp [openEth]
@[simp] theorem handshake_keptD (peer : Nat) (p : Bytes) (s : State)  : (handshake peer p s).keptD = s.keptD := by
  unfold handshake
  (try dsimp only)
  (repeat' split)
  all_goals (try simp)

@[simp] theorem takePacket_keptD (n : Nat) (b : Bytes) (s : State)  : (takePacket n b s).keptD = s.keptD := by
  unfold takePacket
  (try dsimp only)
  (repeat' split)
  all_goals (try simp)

@[simp] theorem modChan_keptD (n : Nat) (f : EthChan → EthChan) (s : State)  : (modChan n f s).keptD = s.keptD := by simp [modChan]
@[simp] theorem takeHeld_keptD (n : Nat) (y0 : Nat) (s : State)  : (takeHeld n y0 s).keptD = s.keptD := by
  induction y0 generalizing s with
  | zero => rfl
  | succ k ih => unfold takeHeld; (repeat' split) <;> simp [ih]

@[simp] theorem dataIn_keptD (peer : Nat) (p : Bytes) (s : State)  : (dataIn peer p s).keptD = s.keptD := by
  unfold dataIn
  (try dsimp only)
  (repeat' split)
  all_goals (try simp)

@[simp] theorem datagram_keptD (peer : Nat) (p : Bytes) (s : State)  : (datagram peer p s).keptD = s.keptD := by simp [datagram]
@[simp] theorem fragmentIn_keptD (peer id off : Nat) (more : Bool) (b : Bytes) (s : State)  : (fragmentIn peer id off more b s).keptD = s.keptD := by
  unfold fragmentIn
  (try dsimp only)
  (repeat' split)
  all_goals (try simp)

@[simp] theorem ethIn_keptD (d : EthIn) (s : State)  : (ethIn d s).keptD = s.keptD := by
  unfold ethIn
  (try dsimp only)
  (repeat' split)
  all_goals (try simp)

@[simp] theorem reorderTimeout_keptD (n : Nat) (s : State)  : (reorderTimeout n s).keptD = s.keptD := by
  unfold reorderTimeout
  (try dsimp only)
  (repeat' split)
  all_goals (try simp)

@[simp] theorem supersede_keptD (b a : LiveCmd) (s : State)  : (supersede b a s).keptD = s.keptD := by simp [supersede]
@[simp] theorem supersedeAll_keptD (b : LiveCmd) (s : State)  : (supersedeAll b s).keptD = s.keptD := by simp [supersedeAll]
@[simp] theorem acceptPacket_keptD (t : Transport) (sid : Option Nat) (b : Bytes) (s : State)  : (acceptPacket t sid b s).keptD = s.keptD := by
  unfold acceptPacket
  (try dsimp only)
  (repeat' split)
  all_goals (try simp)

@[simp] theorem intakeService_keptD (s : State)  : (intakeService s).keptD = s.keptD := by
  unfold intakeService
  (try dsimp only)
  (repeat' split)
  all_goals (try simp)

@[simp] theorem transmitNext_keptD (t : Transport) (sid : Option Nat) (p : OutPkt) (s : State)  : (transmitNext t sid p s).keptD = s.keptD := by
  unfold transmitNext
  (try dsimp only)
  (repeat' split)
  all_goals (try simp)

@[simp] theorem dropUntaken_keptD (q : Nat) (s : State)  : (dropUntaken q s).keptD = s.keptD := by simp [dropUntaken]
@[simp] theorem releaseTaken_keptD (q : Nat) (s : State)  : (releaseTaken q s).keptD = s.keptD := by simp [releaseTaken]
@[simp] theorem dropTxns_keptD (q : Nat) (s : State)  : (dropTxns q s).keptD = s.keptD := by simp [dropTxns]
@[simp] theorem oweLate_keptD (c : LiveCmd) (mesh : Bool) (s : State)  : (oweLate c mesh s).keptD = s.keptD := by simp [oweLate]
@[simp] theorem timeout_keptD (c : LiveCmd) (s : State)  : (timeout c s).keptD = s.keptD := by
  unfold timeout
  (try dsimp only)
  (repeat' split)
  all_goals (try simp)

@[simp] theorem loseRecord_keptD (index : Nat) (s : State)  : (loseRecord index s).keptD = s.keptD := by simp [loseRecord]
@[simp] theorem loseTotals_keptD (copy : Nat) (s : State)  : (loseTotals copy s).keptD = s.keptD := by simp [loseTotals]
@[simp] theorem newNetworkKey_keptD (s : State)  : (newNetworkKey s).keptD = s.keptD := by simp [newNetworkKey]
@[simp] theorem keyUpdate_keptD (c : Nat) (s : State)  : (keyUpdate c s).keptD = s.keptD := by simp [keyUpdate]
@[simp] theorem beginSpan_keptD (t : Nat) (s : State)  : (beginSpan t s).keptD = s.keptD := by simp [beginSpan]
@[simp] theorem startDone_keptD (s : State)  : (startDone s).keptD = s.keptD := by simp [startDone]
@[simp] theorem countMisses_keptD (ended : Nat) (s : State)  : (countMisses ended s).keptD = s.keptD := by simp [countMisses]
@[simp] theorem countRouteless_keptD (s : State)  : (countRouteless s).keptD = s.keptD := by simp [countRouteless]
@[simp] theorem ownExpiry_keptD (s : State)  : (ownExpiry s).keptD = s.keptD := by simp [ownExpiry]
@[simp] theorem guards_keptD (s : State)  : (guards s).keptD = s.keptD := by simp [guards]
@[simp] theorem placementDue_keptD (c : Nat) (s : State)  : (placementDue c s).keptD = s.keptD := by simp [placementDue]
@[simp] theorem saveTable_keptD (c : Nat) (s : State)  : (saveTable c s).keptD = s.keptD := by simp [saveTable]
@[simp] theorem countPorts_keptD (s : State)  : (countPorts s).keptD = s.keptD := by simp [countPorts]
@[simp] theorem tickWatchdogs_keptD (s : State)  : (tickWatchdogs s).keptD = s.keptD := by simp [tickWatchdogs]
@[simp] theorem tickHealth_keptD (s : State)  : (tickHealth s).keptD = s.keptD := by simp [tickHealth]
theorem execSessionOpen_keptD (sid : Nat) (tag : Nat) (s u : State) (h : execSessionOpen sid tag s = .next u) : u.keptD = s.keptD := by
  unfold execSessionOpen at h
  cases h
  simp

theorem execRadioProfileLoad_keptD (sid : Nat) (tag : Nat) (misoA : Bytes) (misoB : Bytes) (s u : State) (h : execRadioProfileLoad sid tag misoA misoB s = .next u) : u.keptD = s.keptD := by
  unfold execRadioProfileLoad at h
  cases h
  simp

theorem execUpdateBegin_keptD (sid : Nat) (tag : Nat) (s u : State) (h : execUpdateBegin sid tag s = .next u) : u.keptD = s.keptD := by
  unfold execUpdateBegin at h
  cases h
  simp

theorem execKeyRetire_keptD (sid : Nat) (tag : Nat) (s u : State) (h : execKeyRetire sid tag s = .next u) : u.keptD = s.keptD := by
  unfold execKeyRetire at h
  cases h
  simp

theorem execDebugUnlock_keptD (sid : Nat) (tag : Nat) (s u : State) (h : execDebugUnlock sid tag s = .next u) : u.keptD = s.keptD := by
  unfold execDebugUnlock at h
  cases h
  simp

theorem execEventClear_keptD (sid : Nat) (tag : Nat) (s u : State) (h : execEventClear sid tag s = .next u) : u.keptD = s.keptD := by
  unfold execEventClear at h
  cases h
  simp

theorem execEthHandshake_keptD (d : EthIn) (s u : State) (h : execEthHandshake d s = .next u) : u.keptD = s.keptD := by
  unfold execEthHandshake at h
  cases h
  simp

theorem execEthData_keptD (d : EthIn) (s u : State) (h : execEthData d s = .next u) : u.keptD = s.keptD := by
  unfold execEthData at h
  cases h
  simp

theorem execJoinRequest_keptD (eui : Nat) (s u : State) (h : execJoinRequest eui s = .next u) : u.keptD = s.keptD := by
  unfold execJoinRequest at h
  cases h
  simp

theorem execJoinRelay_keptD (proxy : Nat) (s u : State) (h : execJoinRelay proxy s = .next u) : u.keptD = s.keptD := by
  unfold execJoinRelay at h
  cases h
  simp

theorem execTamperCondition_keptD (source : Nat) (s u : State) (h : execTamperCondition source s = .next u) : u.keptD = s.keptD := by
  unfold execTamperCondition at h
  cases h
  simp

theorem execTamper0DebounceExpiry_keptD  (s u : State) (h : execTamper0DebounceExpiry  s = .next u) : u.keptD = s.keptD := by
  unfold execTamper0DebounceExpiry at h
  cases h
  simp

theorem execGuardSample_keptD (level : Bool) (s u : State) (h : execGuardSample level s = .next u) : u.keptD = s.keptD := by
  unfold execGuardSample at h
  cases h
  simp

theorem execVbatLowTimer_keptD  (s u : State) (h : execVbatLowTimer  s = .next u) : u.keptD = s.keptD := by
  unfold execVbatLowTimer at h
  cases h
  simp

end Sys2Proof.Machine
end

