-- ==== Sys2Proof/Laws/FrameE.lean ====
section
/-! SUPPORT. The frame of the commands of partsLocal: what every operation they use, and each of them, leaves alone. -/

namespace Sys2Proof.Machine

set_option Elab.async false

/-- What the commands of partsLocal leave alone. -/
def State.keptE (s : State) : Nat × Rtc × TrussSt × Otp × UpdateSt × BootSt × List Instr × Nat :=
  (s.now, s.rtc, s.truss, s.otp, s.upd, s.boot, s.pending, s.freeIdx)

@[simp] theorem keptE_modOut (s : State) (f) : (s.modOut f).keptE = s.keptE := by have h : (s.modOut f).keptE = s.keptE := rfl; exact h
@[simp] theorem keptE_modHost (s : State) (f) : (s.modHost f).keptE = s.keptE := by have h : (s.modHost f).keptE = s.keptE := rfl; exact h
@[simp] theorem keptE_modTime (s : State) (f) : (s.modTime f).keptE = s.keptE := by have h : (s.modTime f).keptE = s.keptE := rfl; exact h
@[simp] theorem keptE_modTwin (s : State) (f) : (s.modTwin f).keptE = s.keptE := by have h : (s.modTwin f).keptE = s.keptE := rfl; exact h
@[simp] theorem keptE_modFb (s : State) (f) : (s.modFb f).keptE = s.keptE := by have h : (s.modFb f).keptE = s.keptE := rfl; exact h
@[simp] theorem keptE_modMac (s : State) (f) : (s.modMac f).keptE = s.keptE := by have h : (s.modMac f).keptE = s.keptE := rfl; exact h
@[simp] theorem keptE_modPar (s : State) (f) : (s.modPar f).keptE = s.keptE := by have h : (s.modPar f).keptE = s.keptE := rfl; exact h
@[simp] theorem keptE_modSec (s : State) (f) : (s.modSec f).keptE = s.keptE := by have h : (s.modSec f).keptE = s.keptE := rfl; exact h
@[simp] theorem keptE_modBist (s : State) (f) : (s.modBist f).keptE = s.keptE := by have h : (s.modBist f).keptE = s.keptE := rfl; exact h
@[simp] theorem keptE_modPwr (s : State) (f) : (s.modPwr f).keptE = s.keptE := by have h : (s.modPwr f).keptE = s.keptE := rfl; exact h
@[simp] theorem keptE_modSet (s : State) (f) : (s.modSet f).keptE = s.keptE := by have h : (s.modSet f).keptE = s.keptE := rfl; exact h
@[simp] theorem keptE_modLamp (s : State) (f) : (s.modLamp f).keptE = s.keptE := by have h : (s.modLamp f).keptE = s.keptE := rfl; exact h
@[simp] theorem keptE_modMeter (s : State) (f) : (s.modMeter f).keptE = s.keptE := by have h : (s.modMeter f).keptE = s.keptE := rfl; exact h
@[simp] theorem keptE_foldl {α : Type} (f : State → α → State) (h : ∀ s x, (f s x).keptE = s.keptE) (l : List α) (s : State) :
    (l.foldl f s).keptE = s.keptE := by
  induction l generalizing s with
  | nil => rfl
  | cons a l ih => simp only [List.foldl_cons, ih, h]
@[simp] theorem keptE_ite (c : Prop) [Decidable c] (a b : State) : (if c then a else b).keptE = if c then a.keptE else b.keptE := by
  split <;> rfl
theorem keptE_foldl2 {α : Type} (f : State → α → State) (h : ∀ s x, (f s x).keptE = s.keptE) (l : List α) (s u : State)
    (e : s.keptE = u.keptE) : (l.foldl f s).keptE = u.keptE := by rw [keptE_foldl f h, e]
@[simp] theorem onBank_keptE (k : Nat) (f : State → State) (s : State) (hf : ∀ u, (f u).keptE = u.keptE) : (onBank k f s).keptE = s.keptE := by simp [onBank, hf]
@[simp] theorem twinPut_keptE (type : Nat) (payload : Bytes) (s : State)  : (twinPut type payload s).keptE = s.keptE := by simp [twinPut]
@[simp] theorem twinSend_keptE (type : Nat) (payload : Bytes) (s : State)  : (twinSend type payload s).keptE = s.keptE := by simp [twinSend]
@[simp] theorem State_modSession_keptE (s : State) (sid : Nat) (f : Session → Session)  : (State.modSession s sid f).keptE = s.keptE := by simp [State.modSession]
@[simp] theorem pushNotice_keptE (sid : Nat) (build : Nat → Bytes) (s : State)  : (pushNotice sid build s).keptE = s.keptE := by simp [pushNotice]
@[simp] theorem giveCredits_keptE (sid n : Nat) (s : State)  : (giveCredits sid n s).keptE = s.keptE := by
  unfold giveCredits
  (try dsimp only)
  (repeat' split)
  all_goals (try simp)

@[simp] theorem creditNotice_keptE (sid : Nat) (s : State)  : (creditNotice sid s).keptE = s.keptE := by
  unfold creditNotice
  (try dsimp only)
  (repeat' split)
  all_goals (try simp)

@[simp] theorem noticeTo_keptE (dest : Option Nat) (code tag : Nat) (rec : Bytes) (s : State)  : (noticeTo dest code tag rec s).keptE = s.keptE := by
  unfold noticeTo
  (try dsimp only)
  (repeat' split)
  all_goals (try simp)

@[simp] theorem recordEv_keptE (code source sev : Nat) (payload : Bytes) (dest : Option Nat) (tag : Nat) (s : State)  : (recordEv code source sev payload dest tag s).keptE = s.keptE := by simp [recordEv]
@[simp] theorem ev_keptE (code : Nat) (payload : Bytes) (s : State)  : (ev code payload s).keptE = s.keptE := by simp [ev]
@[simp] theorem evL_keptE (n code : Nat) (payload : Bytes) (s : State)  : (evL n code payload s).keptE = s.keptE := by simp [evL]
@[simp] theorem evS_keptE (sid tag code : Nat) (payload : Bytes) (s : State)  : (evS sid tag code payload s).keptE = s.keptE := by simp [evS]
@[simp] theorem checkBacklog_keptE (sid : Nat) (s : State)  : (checkBacklog sid s).keptE = s.keptE := by
  unfold checkBacklog
  (try dsimp only)
  (repeat' split)
  all_goals (try simp)

@[simp] theorem checkInbound_keptE (s : State)  : (checkInbound s).keptE = s.keptE := by simp [checkInbound]
@[simp] theorem pushBare_keptE (t : Transport) (bytes : Bytes) (seq : Nat) (s : State)  : (pushBare t bytes seq s).keptE = s.keptE := by simp [pushBare]
@[simp] theorem State_modCmd_keptE (s : State) (seq : Nat) (f : LiveCmd → LiveCmd)  : (State.modCmd s seq f).keptE = s.keptE := by simp [State.modCmd]
@[simp] theorem complete_keptE (c : LiveCmd) (status detail : Nat) (params : Bytes) (s : State)  : (complete c status detail params s).keptE = s.keptE := by simp [complete]
@[simp] theorem fail_keptE (c : LiveCmd) (status detail : Nat) (s : State)  : (fail c status detail s).keptE = s.keptE := by simp [fail]
@[simp] theorem completeAll_keptE (p : LiveCmd → Bool) (status detail : Nat) (params : Bytes) (s : State)  : (completeAll p status detail params s).keptE = s.keptE := by simp [completeAll]
@[simp] theorem completeEach_keptE (p : LiveCmd → Bool) (status detail : Nat) (params : LiveCmd → Bytes) (s : State)  : (completeEach p status detail params s).keptE = s.keptE := by simp [completeEach]
@[simp] theorem dropPend_keptE (s : State)  : (dropPend s).keptE = s.keptE := by simp [dropPend]
@[simp] theorem lateSuccess_keptE (p : LateRec → Bool) (status : Nat) (s : State)  : (lateSuccess p status s).keptE = s.keptE := by simp [lateSuccess]
@[simp] theorem closeSession_keptE (sid : Nat) (s : State)  : (closeSession sid s).keptE = s.keptE := by
  unfold closeSession
  (try dsimp only)
  (repeat' split)
  all_goals (try simp)

@[simp] theorem closeSessions_keptE (p : Session → Bool) (s : State)  : (closeSessions p s).keptE = s.keptE := by
  unfold closeSessions
  (try simp)
  (repeat' (split <;> try simp))

@[simp] theorem takeControl_keptE (a : Agent) (s : State)  : (takeControl a s).keptE = s.keptE := by simp [takeControl]
@[simp] theorem refreshLdEn_keptE (s : State)  : (refreshLdEn s).keptE = s.keptE := by simp [refreshLdEn]
@[simp] theorem writeCopy_keptE (toB : Bool) (t old : TotalsCopy) (s : State)  : (writeCopy toB t old s).keptE = s.keptE := by simp [writeCopy]
@[simp] theorem saveTotals_keptE (kind : Nat) (s : State)  : (saveTotals kind s).keptE = s.keptE := by simp [saveTotals]
@[simp] theorem setAddend_keptE (a : Int) (s : State)  : (setAddend a s).keptE = s.keptE := by simp [setAddend]
@[simp] theorem toHoldover_keptE (s : State)  : (toHoldover s).keptE = s.keptE := by simp [toHoldover]
@[simp] theorem accountState_keptE (s : State)  : (accountState s).keptE = s.keptE := by simp [accountState]
@[simp] theorem setPState_keptE (q : PState) (s : State)  : (setPState q s).keptE = s.keptE := by simp [setPState]
@[simp] theorem toRun_keptE (s : State)  : (toRun s).keptE = s.keptE := by simp [toRun]
@[simp] theorem loseLease_keptE (s : State)  : (loseLease s).keptE = s.keptE := by simp [loseLease]
@[simp] theorem dropLeaseOut_keptE (s : State)  : (dropLeaseOut s).keptE = s.keptE := by simp [dropLeaseOut]
@[simp] theorem modJoint_keptE (j : Nat) (f : Joint → Joint) (s : State)  : (modJoint j f s).keptE = s.keptE := rfl
@[simp] theorem crossNote_keptE (j code : Nat) (payload : Bytes) (s : State)  : (crossNote j code payload s).keptE = s.keptE := by simp [crossNote]
@[simp] theorem takeEdges_keptE (ago : Nat) (edges : List Nat) (s : State)  : (takeEdges ago edges s).keptE = s.keptE := by simp [takeEdges]
@[simp] theorem takeBits_keptE (edges : List Nat) (s : State)  : (takeBits edges s).keptE = s.keptE := by simp [takeBits]
@[simp] theorem startPulse_keptE (k : Nat) (s : State)  : (startPulse k s).keptE = s.keptE := by
  unfold startPulse
  (try dsimp only)
  (repeat' split)
  all_goals (try simp)

@[simp] theorem startPulses_keptE (s : State)  : (startPulses s).keptE = s.keptE := by simp [startPulses]
@[simp] theorem duePulses_keptE (k n : Nat) (s : State)  : (duePulses k n s).keptE = s.keptE := by
  unfold duePulses
  (try dsimp only)
  (repeat' split)
  all_goals (try simp)

@[simp] theorem feedPout_keptE (k r x : Nat) (s : State)  : (feedPout k r x s).keptE = s.keptE := by
  unfold feedPout
  (try dsimp only)
  (repeat' split)
  all_goals (try simp)

@[simp] theorem addEnergy_keptE (r x : Nat) (s : State)  : (addEnergy r x s).keptE = s.keptE := by simp [addEnergy]
@[simp] theorem routePair_keptE (r : Nat) (x : Int) (s : State)  : (routePair r x s).keptE = s.keptE := by simp [routePair]
@[simp] theorem routeCycle_keptE (ph : Nat) (e : CycleEnergy) (s : State)  : (routeCycle ph e s).keptE = s.keptE := by simp [routeCycle]
@[simp] theorem routePhase_keptE (ph until_ : Nat) (s : State)  : (routePhase ph until_ s).keptE = s.keptE := by simp [routePhase]
@[simp] theorem noteRouted_keptE (ph : Nat) (s : State)  : (noteRouted ph s).keptE = s.keptE := by simp [noteRouted]
@[simp] theorem routeTotal_keptE (s : State)  : (routeTotal s).keptE = s.keptE := by simp [routeTotal]
@[simp] theorem closeTotals_keptE (until_ : Nat) (s : State)  : (closeTotals until_ s).keptE = s.keptE := by simp [closeTotals]
@[simp] theorem flushNow_keptE (s : State)  : (flushNow s).keptE = s.keptE := by simp [flushNow]
@[simp] theorem zeroCrossing_keptE (ph : Nat) (s : State)  : (zeroCrossing ph s).keptE = s.keptE := by simp [zeroCrossing]
@[simp] theorem windowReason_keptE (bit : Nat) (s : State)  : (windowReason bit s).keptE = s.keptE := by simp [windowReason]
@[simp] theorem markFilled_keptE (s : State)  : (markFilled s).keptE = s.keptE := by simp [markFilled]
@[simp] theorem fillLast_keptE (s : State)  : (fillLast s).keptE = s.keptE := by
  unfold fillLast
  (try dsimp only)
  (repeat' split)
  all_goals (try simp)

@[simp] theorem creditGap_keptE (ns : Nat) (s : State)  : (creditGap ns s).keptE = s.keptE := by simp [creditGap]
@[simp] theorem resumePath_keptE (drop : Bool) (s : State)  : (resumePath drop s).keptE = s.keptE := by simp [resumePath]
@[simp] theorem nextSecond_keptE (freq : Nat) (s : State)  : (nextSecond freq s).keptE = s.keptE := by simp [nextSecond]
@[simp] theorem scheduleStart_keptE (at_ : Nat) (s : State)  : (scheduleStart at_ s).keptE = s.keptE := by simp [scheduleStart]
@[simp] theorem autoStart_keptE (s : State)  : (autoStart s).keptE = s.keptE := by simp [autoStart]
@[simp] theorem setContactor_keptE (k : Nat) (level : Bool) (s : State)  : (setContactor k level s).keptE = s.keptE := by simp [setContactor]
@[simp] theorem fallbackDrive_keptE (k : Nat) (s : State)  : (fallbackDrive k s).keptE = s.keptE := by
  unfold fallbackDrive
  (try dsimp only)
  (repeat' split)
  all_goals (try simp)

@[simp] theorem fallbackEval_keptE (s : State)  : (fallbackEval s).keptE = s.keptE := by simp [fallbackEval]
@[simp] theorem seqTakes_keptE (s : State)  : (seqTakes s).keptE = s.keptE := by simp [seqTakes]
@[simp] theorem enterSafe_keptE (code source index : Nat) (s : State)  : (enterSafe code source index s).keptE = s.keptE := by
  unfold enterSafe
  (try dsimp only)
  (repeat' split)
  all_goals (try simp)

@[simp] theorem faultRecord_keptE (source cls : Nat) (payload : Bytes) (s : State)  : (faultRecord source cls payload s).keptE = s.keptE := by simp [faultRecord]
@[simp] theorem raiseFT_keptE (source : Nat) (payload : Bytes) (s : State)  : (raiseFT source payload s).keptE = s.keptE := by simp [raiseFT]
@[simp] theorem raiseUC_keptE (source : Nat) (payload : Bytes) (s : State)  : (raiseUC source payload s).keptE = s.keptE := by simp [raiseUC]
@[simp] theorem raiseCE_keptE (source : Nat) (payload : Bytes) (s : State)  : (raiseCE source payload s).keptE = s.keptE := by simp [raiseCE]
@[simp] theorem raiseFault_keptE (source cls : Nat) (payload : Bytes) (s : State)  : (raiseFault source cls payload s).keptE = s.keptE := by simp [raiseFault]
@[simp] theorem escalate_keptE (source : Nat) (s : State)  : (escalate source s).keptE = s.keptE := by simp [escalate]
@[simp] theorem ackFault_keptE (source : Nat) (s : State)  : (ackFault source s).keptE = s.keptE := by
  unfold ackFault
  (try dsimp only)
  (repeat' split)
  all_goals (try simp)

@[simp] theorem runCmd_keptE (op sid tag : Nat) (body : LiveCmd → State → State) (s : State) (hbody : ∀ x0 u, (body x0 u).keptE = u.keptE) : (runCmd op sid tag body s).keptE = s.keptE := by
  unfold runCmd
  (try dsimp only)
  (repeat' split)
  all_goals (try simp [hbody])

@[simp] theorem waitFor_keptE (c : LiveCmd) (w : Wait) (work : List Nat) (s : State)  : (waitFor c w work s).keptE = s.keptE := by simp [waitFor]
@[simp] theorem recordOverrun_keptE (j : Nat) (s : State)  : (recordOverrun j s).keptE = s.keptE := by simp [recordOverrun]
@[simp] theorem recordFlushed_keptE (j : Nat) (s : State)  : (recordFlushed j s).keptE = s.keptE := by simp [recordFlushed]
@[simp] theorem pulseLanded_keptE (j : Nat) (s : State)  : (pulseLanded j s).keptE = s.keptE := by simp [pulseLanded]
@[simp] theorem jointSend_keptE (j : Nat) (s : State)  : (jointSend j s).keptE = s.keptE := by simp [jointSend]
@[simp] theorem landCrossed_keptE (j k : Nat) (s : State)  : (landCrossed j k s).keptE = s.keptE := by simp [landCrossed]
@[simp] theorem crossEv_keptE (j code : Nat) (payload : Bytes) (s : State)  : (crossEv j code payload s).keptE = s.keptE := by simp [crossEv]
@[simp] theorem jointDeliver_keptE (j : Nat) (s : State)  : (jointDeliver j s).keptE = s.keptE := by
  unfold jointDeliver
  (try dsimp only)
  (repeat' split)
  all_goals (try simp)

@[simp] theorem flushJoint_keptE (j : Nat) (s : State)  : (flushJoint j s).keptE = s.keptE := by simp [flushJoint]
@[simp] theorem recordOverruns_keptE (s : State)  : (recordOverruns s).keptE = s.keptE := by simp [recordOverruns]
@[simp] theorem pmbusWrite_keptE (command : Nat) (data : Bytes) (s : State)  : (pmbusWrite command data s).keptE = s.keptE := by simp [pmbusWrite]
@[simp] theorem pmbusRead_keptE (command : Nat) (s : State)  : (pmbusRead command s).keptE = s.keptE := by simp [pmbusRead]
@[simp] theorem sendVout_keptE (exponent : Int) (mv : Nat) (s : State)  : (sendVout exponent mv s).keptE = s.keptE := by simp [sendVout]
@[simp] theorem requestVout_keptE (mv attempt : Nat) (s : State)  : (requestVout mv attempt s).keptE = s.keptE := by simp [requestVout]
@[simp] theorem countAbort_keptE (point : Nat) (s : State)  : (countAbort point s).keptE = s.keptE := by simp [countAbort]
@[simp] theorem beginExit_keptE (s : State)  : (beginExit s).keptE = s.keptE := by simp [beginExit]
@[simp] theorem recordWake_keptE (cause : Nat) (s : State)  : (recordWake cause s).keptE = s.keptE := by simp [recordWake]
@[simp] theorem wakeUp_keptE (cause : Nat) (s : State)  : (wakeUp cause s).keptE = s.keptE := by
  unfold wakeUp
  (try dsimp only)
  (repeat' split)
  all_goals (try simp)

@[simp] theorem rtcStepped_keptE (n : Int) (cause : Nat) (s : State)  : (rtcStepped n cause s).keptE = s.keptE := by simp [rtcStepped]
@[simp] theorem meterRun_keptE (on : Bool) (s : State)  : (meterRun on s).keptE = s.keptE := by simp [meterRun]
@[simp] theorem twinEnable_keptE (on : Bool) (s : State)  : (twinEnable on s).keptE = s.keptE := by simp [twinEnable]
@[simp] theorem bumpConf_keptE (s : State)  : (bumpConf s).keptE = s.keptE := by simp [bumpConf]
@[simp] theorem caseLevel_keptE (high : Bool) (s : State)  : (caseLevel high s).keptE = s.keptE := by simp [caseLevel]
@[simp] theorem syncShadow_keptE (s : State)  : (syncShadow s).keptE = s.keptE := by simp [syncShadow]
@[simp] theorem commitDone_keptE (block : Nat) (reply : Bytes) (s : State)  : (commitDone block reply s).keptE = s.keptE := by simp [commitDone]
@[simp] theorem clearPouts_keptE (s : State)  : (clearPouts s).keptE = s.keptE := by simp [clearPouts]
@[simp] theorem moveSecond_keptE (a b : Nat) (s : State)  : (moveSecond a b s).keptE = s.keptE := by simp [moveSecond]
@[simp] theorem modSource_keptE (c : Nat) (f : Source → Source) (s : State)  : (modSource c f s).keptE = s.keptE := by simp [modSource]
@[simp] theorem countMeasurement_keptE (c : Nat) (x : Int) (s : State)  : (countMeasurement c x s).keptE = s.keptE := by simp [countMeasurement]
@[simp] theorem modLan_keptE (n : Nat) (f : Lantern → Lantern) (s : State)  : (modLan n f s).keptE = s.keptE := by simp [modLan]
@[simp] theorem dropLantern_keptE (n : Nat) (s : State)  : (dropLantern n s).keptE = s.keptE := by simp [dropLantern]
@[simp] theorem finishMesh_keptE (q : Nat) (s : State)  : (finishMesh q s).keptE = s.keptE := by
  unfold finishMesh
  (try dsimp only)
  (repeat' split)
  all_goals (try simp)

@[simp] theorem removeLantern_keptE (by_ n : Nat) (s : State)  : (removeLantern by_ n s).keptE = s.keptE := by simp [removeLantern]
@[simp] theorem finishLeave_keptE (t : Txn) (s : State)  : (finishLeave t s).keptE = s.keptE := by
  unfold finishLeave
  (try dsimp only)
  (repeat' split)
  all_goals (try simp)

@[simp] theorem lateLeave_keptE (q n : Nat) (s : State)  : (lateLeave q n s).keptE = s.keptE := by simp [lateLeave]
@[simp] theorem lateMesh_keptE (q : Nat) (s : State)  : (lateMesh q s).keptE = s.keptE := by
  unfold lateMesh
  (try dsimp only)
  (repeat' split)
  all_goals (try simp)

@[simp] theorem addRetries_keptE (q k : Nat) (s : State)  : (addRetries q k s).keptE = s.keptE := by simp [addRetries]
@[simp] theorem queueFlood_keptE (f : Flood) (s : State)  : (queueFlood f s).keptE = s.keptE := by simp [queueFlood]
@[simp] theorem expectJoined_keptE (s : State)  : (expectJoined s).keptE = s.keptE := by simp [expectJoined]
@[simp] theorem contact_keptE (n at_ : Nat) (s : State)  : (contact n at_ s).keptE = s.keptE := by simp [contact]
@[simp] theorem sendEach_keptE (c : LiveCmd) (work : List Nat) (send : State → State) (s : State) (hsend : ∀ u, (send u).keptE = u.keptE) : (sendEach c work send s).keptE = s.keptE := by simp [sendEach, hsend]
@[simp] theorem ethData_keptE (sid : Nat) (x : Session) (ch : EthChan) (pkt : Bytes) (s : State)  : (ethData sid x ch pkt s).keptE = s.keptE := by simp [ethData]
@[simp] theorem ethSend_keptE (sid : Nat) (pkt : Bytes) (s : State)  : (ethSend sid pkt s).keptE = s.keptE := by
  unfold ethSend
  (try dsimp only)
  (repeat' split)
  all_goals (try simp)

@[simp] theorem flushSession_keptE (sid : Nat) (s : State)  : (flushSession sid s).keptE = s.keptE := by
  unfold flushSession
  (try dsimp only)
  (repeat' split)
  all_goals (try simp)

@[simp] theorem dismiss_keptE (p : Session → Bool) (s : State)  : (dismiss p s).keptE = s.keptE := by
  unfold dismiss
  (try simp)
  (repeat' (split <;> try simp))

@[simp] theorem closeKeyless_keptE (s : State)  : (closeKeyless s).keptE = s.keptE := by simp [closeKeyless]
@[simp] theorem clearKeystone_keptE (s : State)  : (clearKeystone s).keptE = s.keptE := by simp [clearKeystone]
@[simp] theorem eraseSlot_keptE (slot : Nat) (s : State)  : (eraseSlot slot s).keptE = s.keptE := by simp [eraseSlot]
@[simp] theorem staleChallenges_keptE (slot : Nat) (s : State)  : (staleChallenges slot s).keptE = s.keptE := by simp [staleChallenges]
@[simp] theorem retireSlot_keptE (slot : Nat) (s : State)  : (retireSlot slot s).keptE = s.keptE := by simp [retireSlot]
@[simp] theorem loadStone_keptE (key : Bytes) (attr : Nat) (slot : Option Nat) (s : State)  : (loadStone key attr slot s).keptE = s.keptE := by simp [loadStone]
@[simp] theorem keystoneMisuse_keptE (s : State)  : (keystoneMisuse s).keptE = s.keptE := by simp [keystoneMisuse]
@[simp] theorem stoneUnitKa_keptE (s : State)  : (stoneUnitKa s).keptE = s.keptE := by
  unfold stoneUnitKa
  (try dsimp only)
  (repeat' split)
  all_goals (try simp)

@[simp] theorem recordUnitKa_keptE (s : State)  : (recordUnitKa s).keptE = s.keptE := by
  unfold recordUnitKa
  (try dsimp only)
  (repeat' split)
  all_goals (try simp)

@[simp] theorem advanceEpoch_keptE (s : State)  : (advanceEpoch s).keptE = s.keptE := by simp [advanceEpoch]
@[simp] theorem writeMirror_keptE (s : State)  : (writeMirror s).keptE = s.keptE := by simp [writeMirror]
@[simp] theorem zeroBanks_keptE (s : State)  : (zeroBanks s).keptE = s.keptE := by simp [zeroBanks]
@[simp] theorem tamperRecord_keptE (e : TamperEnt) (inBackup : Bool) (s : State)  : (tamperRecord e inBackup s).keptE = s.keptE := by simp [tamperRecord]
@[simp] theorem modTamper_keptE (source : Nat) (f : TamperSrc → TamperSrc) (s : State)  : (modTamper source f s).keptE = s.keptE := by simp [modTamper]
@[simp] theorem logTamper_keptE (e : TamperEnt) (s : State)  : (logTamper e s).keptE = s.keptE := by simp [logTamper]
@[simp] theorem eraseVault_keptE (s : State)  : (eraseVault s).keptE = s.keptE := by simp [eraseVault]
@[simp] theorem tamperFalse_keptE (source : Nat) (s : State)  : (tamperFalse source s).keptE = s.keptE := by simp [tamperFalse]
@[simp] theorem settleAuth_keptE (s : State)  : (settleAuth s).keptE = s.keptE := by simp [settleAuth]
@[simp] theorem rearm_keptE (source : Nat) (s : State)  : (rearm source s).keptE = s.keptE := by simp [rearm]
@[simp] theorem timeGet_keptE (c : LiveCmd) (s : State)  : (timeGet c s).keptE = s.keptE := by simp [timeGet]
@[simp] theorem timeSlew_keptE (c : LiveCmd) (s : State)  : (timeSlew c s).keptE = s.keptE := by simp [timeSlew]
@[simp] theorem ptpDelayResp_keptE (m : PtpResp) (s : State)  : (ptpDelayResp m s).keptE = s.keptE := by
  unfold ptpDelayResp
  (try dsimp only)
  (repeat' split)
  all_goals (try simp)

@[simp] theorem delayReqTimer_keptE (s : State)  : (delayReqTimer s).keptE = s.keptE := by simp [delayReqTimer]
@[simp] theorem fallbackTableLoad_keptE (c : LiveCmd) (s : State)  : (fallbackTableLoad c s).keptE = s.keptE := by
  unfold fallbackTableLoad
  (try dsimp only)
  (repeat' split)
  all_goals (try simp)

@[simp] theorem extendPins_keptE (s : State)  : (extendPins s).keptE = s.keptE := by simp [extendPins]
@[simp] theorem ppsSecond_keptE (s : State)  : (ppsSecond s).keptE = s.keptE := by simp [ppsSecond]
@[simp] theorem firmwareMinute_keptE (k : Nat) (tbl : Bytes) (s : State)  : (firmwareMinute k tbl s).keptE = s.keptE := by
  unfold firmwareMinute
  (try dsimp only)
  (repeat' split)
  all_goals (try simp)

@[simp] theorem fallbackMinute_keptE (s : State)  : (fallbackMinute s).keptE = s.keptE := by
  unfold fallbackMinute
  (try dsimp only)
  (repeat' split)
  all_goals (try simp)

@[simp] theorem echo_keptE (c : LiveCmd) (s : State)  : (echo c s).keptE = s.keptE := by simp [echo]
@[simp] theorem deviceInfo_keptE (c : LiveCmd) (s : State)  : (deviceInfo c s).keptE = s.keptE := by simp [deviceInfo]
@[simp] theorem awaitReset_keptE (c : LiveCmd) (type source : Nat) (s : State)  : (awaitReset c type source s).keptE = s.keptE := by simp [awaitReset]
@[simp] theorem resetCmd_keptE (c : LiveCmd) (s : State)  : (resetCmd c s).keptE = s.keptE := by
  unfold resetCmd
  (try dsimp only)
  (repeat' split)
  all_goals (try simp)

@[simp] theorem fence_keptE (c : LiveCmd) (s : State)  : (fence c s).keptE = s.keptE := by simp [fence]
@[simp] theorem noteLocked_keptE (st : Nat) (s : State)  : (noteLocked st s).keptE = s.keptE := by simp [noteLocked]
@[simp] theorem settingRead_keptE (c : LiveCmd) (s : State)  : (settingRead c s).keptE = s.keptE := by
  unfold settingRead
  (try dsimp only)
  (repeat' split)
  all_goals (try simp)

@[simp] theorem closeTransport_keptE (t : Transport) (s : State)  : (closeTransport t s).keptE = s.keptE := by
  unfold closeTransport
  (try dsimp only)
  (repeat' split)
  all_goals (try simp)

@[simp] theorem grantSession_keptE (c : LiveCmd) (n role baud : Nat) (keylessProc : Bool) (s : State)  : (grantSession c n role baud keylessProc s).keptE = s.keptE := by simp [grantSession]
@[simp] theorem refuseOpen_keptE (c : LiveCmd) (st d : Nat) (s : State)  : (refuseOpen c st d s).keptE = s.keptE := by simp [refuseOpen]
@[simp] theorem queueStatus_keptE (c : LiveCmd) (s : State)  : (queueStatus c s).keptE = s.keptE := by simp [queueStatus]
@[simp] theorem faultStatus_keptE (c : LiveCmd) (s : State)  : (faultStatus c s).keptE = s.keptE := by simp [faultStatus]
@[simp] theorem ackReply_keptE (c : LiveCmd) (s : State)  : (ackReply c s).keptE = s.keptE := by simp [ackReply]
@[simp] theorem faultAck_keptE (c : LiveCmd) (s : State)  : (faultAck c s).keptE = s.keptE := by simp [faultAck]
@[simp] theorem eventRead_keptE (c : LiveCmd) (s : State)  : (eventRead c s).keptE = s.keptE := by simp [eventRead]
@[simp] theorem clearLog_keptE (q : SidChal) (c : LiveCmd) (s : State)  : (clearLog q c s).keptE = s.keptE := by simp [clearLog]
@[simp] theorem setRate_keptE (code burst refill : Nat) (s : State)  : (setRate code burst refill s).keptE = s.keptE := by simp [setRate]
@[simp] theorem eventRateSet_keptE (c : LiveCmd) (s : State)  : (eventRateSet c s).keptE = s.keptE := by simp [eventRateSet]
@[simp] theorem faultInject_keptE (c : LiveCmd) (s : State)  : (faultInject c s).keptE = s.keptE := by
  unfold faultInject
  (try dsimp only)
  (repeat' split)
  all_goals (try simp)

@[simp] theorem noteInfo_keptE (source : Nat) (info : Bytes) (s : State)  : (noteInfo source info s).keptE = s.keptE := by simp [noteInfo]
@[simp] theorem detectFault_keptE (source cls : Nat) (info : Bytes) (s : State)  : (detectFault source cls info s).keptE = s.keptE := by
  unfold detectFault
  (try dsimp only)
  (repeat' split)
  all_goals (try simp)

@[simp] theorem rearmWatchdog_keptE (core : Nat) (s : State)  : (rearmWatchdog core s).keptE = s.keptE := by simp [rearmWatchdog]
@[simp] theorem copyPage_keptE (s : State)  : (copyPage s).keptE = s.keptE := by simp [copyPage]
@[simp] theorem tamperPolicySet_keptE (c : LiveCmd) (s : State)  : (tamperPolicySet c s).keptE = s.keptE := by simp [tamperPolicySet]
@[simp] theorem securityStatus_keptE (c : LiveCmd) (s : State)  : (securityStatus c s).keptE = s.keptE := by simp [securityStatus]
@[simp] theorem guardOff_keptE (s : State)  : (guardOff s).keptE = s.keptE := by simp [guardOff]
@[simp] theorem modPort_keptE (k : Nat) (f : Port → Port) (s : State)  : (modPort k f s).keptE = s.keptE := by simp [modPort]
@[simp] theorem runOne_keptE (k id ch : Nat) (frame miso : Bytes) (s : State)  : (runOne k id ch frame miso s).1.keptE = s.keptE := by simp [runOne]
@[simp] theorem runSeqs_keptE (k ch : Nat) (frame : Bytes) (y0 : List Nat) (y1 : Bytes) (s : State)  : (runSeqs k ch frame y0 y1 s).1.keptE = s.keptE := by
  induction y0 generalizing y1 s with
  | nil => rfl
  | cons id l ih =>
    unfold runSeqs
    split
    · rfl
    · dsimp only
      split <;> simp [ih]

@[simp] theorem moveLanterns_keptE (k : Nat) (s : State)  : (moveLanterns k s).keptE = s.keptE := by simp [moveLanterns]
@[simp] theorem pulseInit_keptE (k : Nat) (miso : Bytes) (s : State)  : (pulseInit k miso s).1.keptE = s.keptE := by simp [pulseInit]
@[simp] theorem stoneNetwork_keptE (phase : Nat) (s : State)  : (stoneNetwork phase s).keptE = s.keptE := by simp [stoneNetwork]
@[simp] theorem useCounter_keptE (idx : Nat) (s : State)  : (useCounter idx s).keptE = s.keptE := by simp [useCounter]
@[simp] theorem launch_keptE (k ch start : Nat) (psdu : Bytes) (s : State)  : (launch k ch start psdu s).keptE = s.keptE := by simp [launch]

theorem suppressed_resE {k ch f : Nat} {p : Bytes} {s t : State} (e : suppressed k ch f p s = some t) : t.keptE = s.keptE := by
  unfold suppressed at e
  dsimp only at e
  split at e
  · cases e; simp
  · cases e

@[simp] theorem modTxn_keptE (id : Nat) (f : Txn → Txn) (s : State)  : (modTxn id f s).keptE = s.keptE := by simp [modTxn]
@[simp] theorem takeTxn_keptE (t : Txn) (s : State)  : (takeTxn t s).keptE = s.keptE := by simp [takeTxn]
@[simp] theorem beginAttempt_keptE (a : Attempt) (s : State)  : (beginAttempt a s).keptE = s.keptE := by
  unfold beginAttempt
  (try dsimp only)
  (repeat' split)
  all_goals (try simp)

@[simp] theorem echoResult_keptE (k asn outcome : Nat) (s : State)  : (echoResult k asn outcome s).keptE = s.keptE := by simp [echoResult]
@[simp] theorem resetPorts_keptE (k : Nat) (y0 : Nat) (y1 : Bytes) (s : State)  : (resetPorts k y0 y1 s).keptE = s.keptE := by
  induction y0 generalizing y1 s with
  | zero => rfl
  | succ k ih => unfold resetPorts; dsimp only; (repeat' split) <;> simp [ih]

@[simp] theorem echoFeed_keptE (k asn : Nat) (kind : CellKind) (plain : Bytes) (s : State)  : (echoFeed k asn kind plain s).keptE = s.keptE := by simp [echoFeed]
@[simp] theorem feedEcho_keptE (k asn : Nat) (kind : CellKind) (plain : Bytes) (s : State)  : (feedEcho k asn kind plain s).keptE = s.keptE := by simp [feedEcho]
@[simp] theorem addSeen_keptE (origin seq : Nat) (s : State)  : (addSeen origin seq s).keptE = s.keptE := by simp [addSeen]
@[simp] theorem floodSent_keptE (f : Flood) (seq asn : Nat) (s : State)  : (floodSent f seq asn s).keptE = s.keptE := by
  unfold floodSent
  (try dsimp only)
  (repeat' split)
  all_goals (try simp)

@[simp] theorem dropFeed_keptE (f : Nat × Nat × Nat × Bytes) (s : State)  : (dropFeed f s).keptE = s.keptE := by simp [dropFeed]
@[simp] theorem acceptCounter_keptE (key ctr : Nat) (s : State)  : (acceptCounter key ctr s).keptE = s.keptE := by simp [acceptCounter]
@[simp] theorem securityDrop_keptE (s : State)  : (securityDrop s).keptE = s.keptE := by simp [securityDrop]
@[simp] theorem filterDrop_keptE (s : State)  : (filterDrop s).keptE = s.keptE := by simp [filterDrop]
@[simp] theorem keepBeacon_keptE (f : RxFrame) (body : Bytes) (s : State)  : (keepBeacon f body s).keptE = s.keptE := by simp [keepBeacon]
@[simp] theorem rxBeacon_keptE (f : RxFrame) (s : State)  : (rxBeacon f s).keptE = s.keptE := by
  unfold rxBeacon
  (try dsimp only)
  (repeat' split)
  all_goals (try simp)

@[simp] theorem rxJoin_keptE (f : RxFrame) (s : State)  : (rxJoin f s).keptE = s.keptE := by simp [rxJoin]
@[simp] theorem modAnnex_keptE (f : AnnexSt → AnnexSt) (s : State)  : (modAnnex f s).keptE = s.keptE := by simp [modAnnex]
@[simp] theorem modNet_keptE (f : AnnexNet → AnnexNet) (s : State)  : (modNet f s).keptE = s.keptE := by simp [modNet]
@[simp] theorem useAnnexCounter_keptE (idx : Nat) (s : State)  : (useAnnexCounter idx s).keptE = s.keptE := by simp [useAnnexCounter]
@[simp] theorem annexKeyAt_keptE (idx : Nat) (key : Bytes) (s : State)  : (annexKeyAt idx key s).keptE = s.keptE := by simp [annexKeyAt]
@[simp] theorem nextMacSeq_keptE (s : State)  : (nextMacSeq s).keptE = s.keptE := by simp [nextMacSeq]
@[simp] theorem annexQueue_keptE (dst expiry : Nat) (resync : Bool) (m : Bytes) (s : State)  : (annexQueue dst expiry resync m s).keptE = s.keptE := by simp [annexQueue]
@[simp] theorem annexSend_keptE (type : Nat) (confirmed resync : Bool) (payload : Bytes) (s : State)  : (annexSend type confirmed resync payload s).keptE = s.keptE := by
  unfold annexSend
  (try dsimp only)
  (repeat' split)
  all_goals (try simp)

@[simp] theorem annexReportTo_keptE (n : AnnexNet) (type life : Nat) (payload : Bytes) (s : State)  : (annexReportTo n type life payload s).keptE = s.keptE := by
  unfold annexReportTo
  (try dsimp only)
  (repeat' split)
  all_goals (try simp)

@[simp] theorem annexRespond_keptE (seq retries status : Nat) (data : Bytes) (s : State)  : (annexRespond seq retries status data s).keptE = s.keptE := by simp [annexRespond]
@[simp] theorem annexContact_keptE (src at_ : Nat) (s : State)  : (annexContact src at_ s).keptE = s.keptE := by simp [annexContact]
@[simp] theorem annexChoose_keptE (p : AnnexCand → Bool) (s : State)  : (annexChoose p s).keptE = s.keptE := by simp [annexChoose]
@[simp] theorem annexScan_keptE (s : State)  : (annexScan s).keptE = s.keptE := by simp [annexScan]
@[simp] theorem annexJoinFrames_keptE (s0 : State) (dst last : Nat) (y0 : List Bytes) (y1 : Nat) (s : State)  : (annexJoinFrames s0 dst last y0 y1 s).1.keptE = s.keptE := by
  induction y0 generalizing y1 s with
  | nil => rfl
  | cons b l ih => unfold annexJoinFrames; simp [ih]

@[simp] theorem annexLeave_keptE (s : State)  : (annexLeave s).keptE = s.keptE := by simp [annexLeave]
@[simp] theorem annexKids_keptE (p : AnnexCand) (n : AnnexNet) (s : State)  : (annexKids p n s).keptE = s.keptE := by simp [annexKids]
@[simp] theorem annexMissed_keptE (asn : Nat) (n : AnnexNet) (s : State)  : (annexMissed asn n s).keptE = s.keptE := by simp [annexMissed]
@[simp] theorem annexGone_keptE (s : State)  : (annexGone s).keptE = s.keptE := by simp [annexGone]
@[simp] theorem annexAccept_keptE (key ctr : Nat) (s : State)  : (annexAccept key ctr s).keptE = s.keptE := by simp [annexAccept]
@[simp] theorem annexAct_keptE (at_ : Nat) (m : Bytes) (s : State)  : (annexAct at_ m s).1.keptE = s.keptE := by
  unfold annexAct
  simp [apply_ite Prod.fst]

theorem annexAct_resE {a : Nat} {m : Bytes} {u t : State} {r : Option Nat} (e : annexAct a m u = (t, r)) : t.keptE = u.keptE := by
  have k := annexAct_keptE a m u
  rw [e] at k
  exact k

@[simp] theorem annexDeliver_keptE (at_ : Nat) (m : Bytes) (s : State)  : (annexDeliver at_ m s).keptE = s.keptE := by
  unfold annexDeliver
  (try dsimp only)
  (repeat' split)
  all_goals first | rfl | (simp; done) | ((try simp); have k := annexAct_resE (by assumption); exact k.trans (by simp))

@[simp] theorem annexForward_keptE (m : Bytes) (s : State)  : (annexForward m s).keptE = s.keptE := by
  unfold annexForward
  (try dsimp only)
  (repeat' split)
  all_goals (try simp)

@[simp] theorem annexOverhear_keptE (m : Bytes) (s : State)  : (annexOverhear m s).keptE = s.keptE := by simp [annexOverhear]
@[simp] theorem annexRxBeacon_keptE (f : RxFrame) (s : State)  : (annexRxBeacon f s).keptE = s.keptE := by
  unfold annexRxBeacon
  (try dsimp only)
  (repeat' split)
  all_goals (try simp)

@[simp] theorem annexProxy_keptE (f : RxFrame) (s : State)  : (annexProxy f s).keptE = s.keptE := by
  unfold annexProxy
  (try dsimp only)
  (repeat' split)
  all_goals (try simp)

@[simp] theorem keepFrame_keptE (port at_ : Nat) (psdu : Bytes) (s : State)  : (keepFrame port at_ psdu s).keptE = s.keptE := by
  unfold keepFrame
  (try dsimp only)
  (repeat' split)
  all_goals (try simp)

@[simp] theorem correctBeacon_keptE (port at_ : Nat) (s : State)  : (correctBeacon port at_ s).keptE = s.keptE := by simp [correctBeacon]
@[simp] theorem activateKey_keptE (s : State)  : (activateKey s).keptE = s.keptE := by
  unfold activateKey
  (try dsimp only)
  (repeat' split)
  all_goals (try simp)

@[simp] theorem annexKeyStep_keptE (s : State)  : (annexKeyStep s).keptE = s.keptE := by
  unfold annexKeyStep
  (try dsimp only)
  (repeat' split)
  all_goals (try simp)

@[simp] theorem modCh_keptE (n : Nat) (f : LampCh → LampCh) (s : State)  : (modCh n f s).keptE = s.keptE := by simp [modCh]
@[simp] theorem modGroup_keptE (g : Nat) (f : ColSet → ColSet) (s : State)  : (modGroup g f s).keptE = s.keptE := by simp [modGroup]
@[simp] theorem refreshDuty_keptE (ns : List Nat) (s : State)  : (refreshDuty ns s).keptE = s.keptE := by simp [refreshDuty]
@[simp] theorem goManual_keptE (g : Nat) (s : State)  : (goManual g s).keptE = s.keptE := by simp [goManual]
@[simp] theorem setPoint_keptE (g : Nat) (ch : Change) (s : State)  : (setPoint g ch s).keptE = s.keptE := by simp [setPoint]
@[simp] theorem applyLocal_keptE (outs : List Nat) (ch : Change) (s : State)  : (applyLocal outs ch s).keptE = s.keptE := by simp [applyLocal]
@[simp] theorem markDirect_keptE (b : Bool) (outs : List Nat) (s : State)  : (markDirect b outs s).keptE = s.keptE := by simp [markDirect]
@[simp] theorem applyDirect_keptE (outs : List Nat) (ch : Change) (s : State)  : (applyDirect outs ch s).keptE = s.keptE := by simp [applyDirect]
@[simp] theorem applyClaim_keptE (outs : List Nat) (ch : Change) (s : State)  : (applyClaim outs ch s).keptE = s.keptE := by simp [applyClaim]
@[simp] theorem followTop_keptE (outs : List Nat) (fade curve : Nat) (s : State)  : (followTop outs fade curve s).keptE = s.keptE := by simp [followTop]
@[simp] theorem placeClaims_keptE (outs : List Nat) (cl : Claim) (s : State)  : (placeClaims outs cl s).keptE = s.keptE := by simp [placeClaims]
@[simp] theorem endClaims_keptE (outs : List Nat) (p : Claim → Bool) (s : State)  : (endClaims outs p s).keptE = s.keptE := by
  unfold endClaims
  exact keptE_foldl _ (fun u n => by dsimp only; split <;> simp) _ _

@[simp] theorem applyScene_keptE (scene : Nat) (s : State)  : (applyScene scene s).keptE = s.keptE := by
  unfold applyScene
  (try dsimp only)
  (repeat' split)
  all_goals (try simp)

@[simp] theorem applyInstant_keptE (t : Nat) (s : State)  : (applyInstant t s).keptE = s.keptE := by simp [applyInstant]
@[simp] theorem applyDue_keptE (y0 : Nat) (s : State)  : (applyDue y0 s).keptE = s.keptE := by
  induction y0 generalizing s with
  | zero => rfl
  | succ k ih => unfold applyDue; split <;> simp [ih]

@[simp] theorem latchShutdown_keptE (s : State)  : (latchShutdown s).keptE = s.keptE := by simp [latchShutdown]
@[simp] theorem lampLocally_keptE (outs : List Nat) (p : Bytes) (s : State)  : (lampLocally outs p s).keptE = s.keptE := by simp [lampLocally]
@[simp] theorem sceneLaunch_keptE (c : LiveCmd) (s : State)  : (sceneLaunch c s).keptE = s.keptE := by
  unfold sceneLaunch
  (try dsimp only)
  (repeat' split)
  all_goals (try simp)

@[simp] theorem lampStatus_keptE (c : LiveCmd) (s : State)  : (lampStatus c s).keptE = s.keptE := by simp [lampStatus]
@[simp] theorem recomputeRoutes_keptE (s : State)  : (recomputeRoutes s).keptE = s.keptE := by simp [recomputeRoutes]
@[simp] theorem placementsDone_keptE (s : State)  : (placementsDone s).keptE = s.keptE := by simp [placementsDone]
@[simp] theorem claimLocal_keptE (p : Policy) (i : Nat) (a : Bytes) (elapsed : Nat) (noFade : Bool) (s : State)  : (claimLocal p i a elapsed noFade s).keptE = s.keptE := by simp [claimLocal]
@[simp] theorem firmwareTakes_keptE (s : State)  : (firmwareTakes s).keptE = s.keptE := by simp [firmwareTakes]
@[simp] theorem policyList_keptE (c : LiveCmd) (s : State)  : (policyList c s).keptE = s.keptE := by simp [policyList]
@[simp] theorem placementRead_keptE (c : LiveCmd) (s : State)  : (placementRead c s).keptE = s.keptE := by simp [placementRead]
@[simp] theorem spanStart_keptE (c : LiveCmd) (s : State)  : (spanStart c s).keptE = s.keptE := by
  unfold spanStart
  (try dsimp only)
  (repeat' split)
  all_goals (try simp)

@[simp] theorem stopSpan_keptE (s : State)  : (stopSpan s).keptE = s.keptE := by simp [stopSpan]
@[simp] theorem spanStop_keptE (c : LiveCmd) (s : State)  : (spanStop c s).keptE = s.keptE := by simp [spanStop]
@[simp] theorem floodSend_keptE (c : LiveCmd) (s : State)  : (floodSend c s).keptE = s.keptE := by simp [floodSend]
@[simp] theorem topologyRead_keptE (c : LiveCmd) (s : State)  : (topologyRead c s).keptE = s.keptE := by simp [topologyRead]
@[simp] theorem regionLoad_keptE (c : LiveCmd) (s : State)  : (regionLoad c s).keptE = s.keptE := by
  unfold regionLoad
  (try dsimp only)
  (repeat' split)
  all_goals (try simp)

@[simp] theorem dwellStatus_keptE (c : LiveCmd) (s : State)  : (dwellStatus c s).keptE = s.keptE := by
  unfold dwellStatus
  (try dsimp only)
  (repeat' split)
  all_goals (try simp)

@[simp] theorem withMsg_keptE (type origin : Nat) (f : InMsg → State → State) (s : State) (hf : ∀ x0 u, (f x0 u).keptE = u.keptE) : (withMsg type origin f s).keptE = s.keptE := by
  unfold withMsg
  (try dsimp only)
  (repeat' split)
  all_goals (try simp [hf])

@[simp] theorem fromLantern_keptE (type n : Nat) (f : Lantern → InMsg → State → State) (s : State) (hf : ∀ x0 x1 u, (f x0 x1 u).keptE = u.keptE) : (fromLantern type n f s).keptE = s.keptE := by
  unfold fromLantern
  exact withMsg_keptE _ _ _ _ (fun m u => by split <;> simp [hf])

@[simp] theorem joinRefused_keptE (eui reason proxy : Nat) (s : State)  : (joinRefused eui reason proxy s).keptE = s.keptE := by simp [joinRefused]
@[simp] theorem neighbourReport_keptE (n : Nat) (l : Lantern) (m : InMsg) (s : State)  : (neighbourReport n l m s).keptE = s.keptE := by
  unfold neighbourReport
  (try dsimp only)
  (repeat' split)
  all_goals (try simp)

@[simp] theorem missBeacon_keptE (n cyc : Nat) (s : State)  : (missBeacon n cyc s).keptE = s.keptE := by simp [missBeacon]
@[simp] theorem annexHeard_keptE (c : AnnexCand) (s : State)  : (annexHeard c s).keptE = s.keptE := by simp [annexHeard]
@[simp] theorem settleGap_keptE (s : State)  : (settleGap s).keptE = s.keptE := by simp [settleGap]
@[simp] theorem returnClock_keptE (edges : List Nat) (s : State)  : (returnClock edges s).keptE = s.keptE := by simp [returnClock]
@[simp] theorem presenceSecond_keptE (s : State)  : (presenceSecond s).keptE = s.keptE := by
  unfold presenceSecond
  (try dsimp only)
  (repeat' split)
  all_goals (try simp)

@[simp] theorem saveSecond_keptE (s : State)  : (saveSecond s).keptE = s.keptE := by simp [saveSecond]
@[simp] theorem restartSecond_keptE (s : State)  : (restartSecond s).keptE = s.keptE := by
  unfold restartSecond
  (try dsimp only)
  (repeat' split)
  all_goals (try simp)

@[simp] theorem windowSecond_keptE (s : State)  : (windowSecond s).keptE = s.keptE := by
  unfold windowSecond
  (try dsimp only)
  (repeat' split)
  all_goals (try simp)

@[simp] theorem flushTotals_keptE (s : State)  : (flushTotals s).keptE = s.keptE := by
  unfold flushTotals
  (try dsimp only)
  (repeat' split)
  all_goals (try simp)

@[simp] theorem noteResult_keptE (r : ReconRes) (need : Nat) (s : State)  : (noteResult r need s).keptE = s.keptE := by simp [noteResult]
@[simp] theorem reconcile_keptE (w : ReconWin) (s : State)  : (reconcile w s).keptE = s.keptE := by simp [reconcile]
@[simp] theorem reconcilePrev_keptE (s : State)  : (reconcilePrev s).keptE = s.keptE := by
  unfold reconcilePrev
  (try dsimp only)
  (repeat' split)
  all_goals (try simp)

@[simp] theorem windowEnds_keptE (c : Nat) (s : State)  : (windowEnds c s).keptE = s.keptE := by simp [windowEnds]
@[simp] theorem windowBegins_keptE (c : Nat) (s : State)  : (windowBegins c s).keptE = s.keptE := by simp [windowBegins]
@[simp] theorem windowsStop_keptE (s : State)  : (windowsStop s).keptE = s.keptE := by
  unfold windowsStop
  (try dsimp only)
  (repeat' split)
  all_goals (try simp)

@[simp] theorem modWindow_keptE (start : Nat) (f : ReconWin → ReconWin) (s : State)  : (modWindow start f s).keptE = s.keptE := by simp [modWindow]
@[simp] theorem energyAggregate_keptE (head : Nat) (p : Bytes) (s : State)  : (energyAggregate head p s).keptE = s.keptE := by simp [energyAggregate]
@[simp] theorem standbyWindow_keptE (s : State)  : (standbyWindow s).keptE = s.keptE := by
  unfold standbyWindow
  (try dsimp only)
  (repeat' split)
  all_goals (try simp)

@[simp] theorem meterRead_keptE (c : LiveCmd) (s : State)  : (meterRead c s).keptE = s.keptE := by simp [meterRead]
@[simp] theorem energyRead_keptE (c : LiveCmd) (s : State)  : (energyRead c s).keptE = s.keptE := by simp [energyRead]
@[simp] theorem pulseInputRead_keptE (c : LiveCmd) (s : State)  : (pulseInputRead c s).keptE = s.keptE := by simp [pulseInputRead]
@[simp] theorem reconcileRead_keptE (c : LiveCmd) (s : State)  : (reconcileRead c s).keptE = s.keptE := by simp [reconcileRead]
@[simp] theorem meterCalibrate_keptE (c : LiveCmd) (s : State)  : (meterCalibrate c s).keptE = s.keptE := by simp [meterCalibrate]
@[simp] theorem setBank_keptE (n : Nat) (u : BankUse) (contents : Nat) (s : State)  : (setBank n u contents s).keptE = s.keptE := by simp [setBank]
@[simp] theorem dropUnit_keptE (isRun : Bool) (s : State)  : (dropUnit isRun s).keptE = s.keptE := by simp [dropUnit]
@[simp] theorem unitFailed_keptE (alg origin : Nat) (u : TestUnit) (r : Nat × Option Nat) (s : State)  : (unitFailed alg origin u r s).keptE = s.keptE := by
  unfold unitFailed
  (try dsimp only)
  (repeat' split)
  all_goals (try simp)

@[simp] theorem unitEnds_keptE (isRun : Bool) (alg : Nat) (u : TestUnit) (r : Nat × Option Nat) (s : State)  : (unitEnds isRun alg u r s).keptE = s.keptE := by
  unfold unitEnds
  (try dsimp only)
  (repeat' split)
  all_goals (try simp)

@[simp] theorem refuseEvacuation_keptE (isRun : Bool) (s : State)  : (refuseEvacuation isRun s).keptE = s.keptE := by simp [refuseEvacuation]
@[simp] theorem swapBanks_keptE (isRun : Bool) (n k : Nat) (s : State)  : (swapBanks isRun n k s).keptE = s.keptE := by simp [swapBanks]
@[simp] theorem evacuate_keptE (isRun : Bool) (n left : Nat) (s : State)  : (evacuate isRun n left s).1.keptE = s.keptE := by
  unfold evacuate
  (try dsimp only)
  (repeat' split)
  all_goals (try simp)

@[simp] theorem skipRetired_keptE (isRun : Bool) (s : State)  : (skipRetired isRun s).keptE = s.keptE := by simp [skipRetired]
@[simp] theorem sliceWork_keptE (isRun : Bool) (alg : Nat) (y0 : Nat) (y1 : Nat) (y2 : List (List (Nat × Nat))) (s : State)  : (sliceWork isRun alg y0 y1 y2 s).1.keptE = s.keptE := by
  induction y0 generalizing y1 y2 s with
  | zero => rfl
  | succ f ih => unfold sliceWork; dsimp only; (repeat' split) <;> simp [ih]

@[simp] theorem finishRun_keptE (r : TestRun) (outcome status : Nat) (s : State)  : (finishRun r outcome status s).keptE = s.keptE := by
  unfold finishRun
  (try dsimp only)
  (repeat' split)
  all_goals (try simp)

@[simp] theorem abortRun_keptE (r : TestRun) (status : Nat) (s : State)  : (abortRun r status s).keptE = s.keptE := by
  unfold abortRun
  (try dsimp only)
  (repeat' split)
  all_goals (try simp)

@[simp] theorem checkRun_keptE (s : State)  : (checkRun s).keptE = s.keptE := by
  unfold checkRun
  (try dsimp only)
  (repeat' split)
  all_goals (try simp)

@[simp] theorem checkSweep_keptE (s : State)  : (checkSweep s).keptE = s.keptE := by
  unfold checkSweep
  (try dsimp only)
  (repeat' split)
  all_goals (try simp)

@[simp] theorem takeQueued_keptE (s : State)  : (takeQueued s).keptE = s.keptE := by simp [takeQueued]
@[simp] theorem sliceStart_keptE (r : SliceIn) (s : State)  : (sliceStart r s).keptE = s.keptE := by simp [sliceStart]
@[simp] theorem sliceSoFar_keptE (s : State)  : (sliceSoFar s).1.keptE = s.keptE := by simp [sliceSoFar]
@[simp] theorem stopSlice_keptE (s : State)  : (stopSlice s).keptE = s.keptE := by simp [stopSlice]
@[simp] theorem cutSlice_keptE (s : State)  : (cutSlice s).keptE = s.keptE := by
  unfold cutSlice
  (try dsimp only)
  (repeat' split)
  all_goals (try simp)

@[simp] theorem selftestRun_keptE (c : LiveCmd) (s : State)  : (selftestRun c s).keptE = s.keptE := by
  unfold selftestRun
  (try dsimp only)
  (repeat' split)
  all_goals (try simp)

@[simp] theorem selftestResult_keptE (c : LiveCmd) (s : State)  : (selftestResult c s).keptE = s.keptE := by
  unfold selftestResult
  (try dsimp only)
  (repeat' split)
  all_goals (try simp)

@[simp] theorem scanRequest_keptE (s : State)  : (scanRequest s).keptE = s.keptE := by simp [scanRequest]
@[simp] theorem scanTick_keptE (s : State)  : (scanTick s).keptE = s.keptE := by
  unfold scanTick
  (try dsimp only)
  (repeat' split)
  all_goals (try simp)

@[simp] theorem sendHealth_keptE (s : State)  : (sendHealth s).keptE = s.keptE := by simp [sendHealth]
@[simp] theorem sendHello_keptE (s : State)  : (sendHello s).keptE = s.keptE := by simp [sendHello]
@[simp] theorem heard_keptE (s : State)  : (heard s).keptE = s.keptE := by simp [heard]
@[simp] theorem frameBad_keptE (s : State)  : (frameBad s).keptE = s.keptE := by simp [frameBad]
@[simp] theorem onLink_keptE (type : Nat) (f : LinkIn) (k : State → State) (s : State) (hk : ∀ u, (k u).keptE = u.keptE) : (onLink type f k s).keptE = s.keptE := by simp [onLink, hk]
@[simp] theorem assertLease_keptE (cause : Nat) (s : State)  : (assertLease cause s).keptE = s.keptE := by simp [assertLease]
@[simp] theorem linkUp_keptE (h : PeerHello) (s : State)  : (linkUp h s).keptE = s.keptE := by simp [linkUp]
@[simp] theorem trainLink_keptE (s : State)  : (trainLink s).keptE = s.keptE := by
  unfold trainLink
  (try dsimp only)
  (repeat' split)
  all_goals (try simp)

@[simp] theorem twinHello_keptE (f : LinkIn) (s : State)  : (twinHello f s).keptE = s.keptE := by simp [twinHello]
@[simp] theorem inSequence_keptE (type : Nat) (f : LinkIn) (ok : State → State) (s : State) (hok : ∀ u, (ok u).keptE = u.keptE) : (inSequence type f ok s).keptE = s.keptE := by
  unfold inSequence
  (try dsimp only)
  (repeat' split)
  all_goals (try simp [hok])

@[simp] theorem nak_keptE (f : LinkIn) (s : State)  : (nak f s).keptE = s.keptE := by simp [nak]
@[simp] theorem renewAndCopy_keptE (cycle : Nat) (step : Int) (s : State)  : (renewAndCopy cycle step s).keptE = s.keptE := by simp [renewAndCopy]
@[simp] theorem releaseLease_keptE (s : State)  : (releaseLease s).keptE = s.keptE := by simp [releaseLease]
@[simp] theorem leaveTwin_keptE (s : State)  : (leaveTwin s).keptE = s.keptE := by simp [leaveTwin]
@[simp] theorem copySegment_keptE (f : LinkIn) (s : State)  : (copySegment f s).keptE = s.keptE := by
  unfold copySegment
  exact inSequence_keptE _ _ _ _ (fun _ => rfl)

@[simp] theorem copyAck_keptE (f : LinkIn) (s : State)  : (copyAck f s).keptE = s.keptE := by
  unfold copyAck
  (try dsimp only)
  (repeat' split)
  all_goals (try simp)

@[simp] theorem yieldDone_keptE (cycle : Nat) (s : State)  : (yieldDone cycle s).keptE = s.keptE := by simp [yieldDone]
@[simp] theorem standbyCycle_keptE (s : State)  : (standbyCycle s).keptE = s.keptE := by simp [standbyCycle]
@[simp] theorem holderCycle_keptE (cycle : Nat) (step : Int) (s : State)  : (holderCycle cycle step s).keptE = s.keptE := by simp [holderCycle]
@[simp] theorem journalFrame_keptE (f : LinkIn) (s : State)  : (journalFrame f s).keptE = s.keptE := by simp [journalFrame]
@[simp] theorem journalAck_keptE (f : LinkIn) (s : State)  : (journalAck f s).keptE = s.keptE := by
  unfold journalAck
  (try dsimp only)
  (repeat' split)
  all_goals (try simp)

@[simp] theorem journalAccept_keptE (c : LiveCmd) (s : State)  : (journalAccept c s).keptE = s.keptE := by simp [journalAccept]
@[simp] theorem echoFed_keptE (f : LinkIn) (s : State)  : (echoFed f s).keptE = s.keptE := by simp [echoFed]
@[simp] theorem timeExchange_keptE (s : State)  : (timeExchange s).keptE = s.keptE := by simp [timeExchange]
@[simp] theorem resumeMeter_keptE (img : CopyImage) (s : State)  : (resumeMeter img s).keptE = s.keptE := by simp [resumeMeter]
@[simp] theorem advanceSeries_keptE (s : State)  : (advanceSeries s).keptE = s.keptE := by simp [advanceSeries]
@[simp] theorem reportUnknown_keptE (us : List JournalEnt) (s : State)  : (reportUnknown us s).keptE = s.keptE := by simp [reportUnknown]
@[simp] theorem takeoverWindow_keptE (s : State)  : (takeoverWindow s).keptE = s.keptE := by simp [takeoverWindow]
@[simp] theorem leaseInDeassert_keptE (s : State)  : (leaseInDeassert s).keptE = s.keptE := by simp [leaseInDeassert]
@[simp] theorem noteUnhealthy_keptE (s : State)  : (noteUnhealthy s).keptE = s.keptE := by simp [noteUnhealthy]
@[simp] theorem twinStatus_keptE (c : LiveCmd) (s : State)  : (twinStatus c s).keptE = s.keptE := by simp [twinStatus]
@[simp] theorem leaseYield_keptE (c : LiveCmd) (s : State)  : (leaseYield c s).keptE = s.keptE := by simp [leaseYield]
@[simp] theorem countRefusals_keptE (l : List Nat) (s : State)  : (countRefusals l s).keptE = s.keptE := by simp [countRefusals]
@[simp] theorem countEntry_keptE (q : PState) (s : State)  : (countEntry q s).keptE = s.keptE := by simp [countEntry]
@[simp] theorem beginEntry_keptE (s : State)  : (beginEntry s).keptE = s.keptE := by simp [beginEntry]
@[simp] theorem applyOpPoint_keptE (s : State)  : (applyOpPoint s).keptE = s.keptE := by simp [applyOpPoint]
@[simp] theorem restoreSpan_keptE (s : State)  : (restoreSpan s).keptE = s.keptE := keptE_modTime _ _
@[simp] theorem enterSlumber_keptE (s : State)  : (enterSlumber s).keptE = s.keptE := by simp [enterSlumber]
@[simp] theorem meterResumes_keptE (s : State)  : (meterResumes s).keptE = s.keptE := by
  unfold meterResumes
  (try dsimp only)
  (repeat' split)
  all_goals (try simp)

@[simp] theorem abandonAt_keptE (point : Nat) (s : State)  : (abandonAt point s).keptE = s.keptE := by simp [abandonAt]
@[simp] theorem checkinTick_keptE (s : State)  : (checkinTick s).keptE = s.keptE := by simp [checkinTick]
@[simp] theorem thermal_keptE (celsius : Int) (s : State)  : (thermal celsius s).keptE = s.keptE := by simp [thermal]
@[simp] theorem powerStatus_keptE (c : LiveCmd) (s : State)  : (powerStatus c s).keptE = s.keptE := by simp [powerStatus]
@[simp] theorem powerRefusalsRead_keptE (c : LiveCmd) (s : State)  : (powerRefusalsRead c s).keptE = s.keptE := by simp [powerRefusalsRead]
@[simp] theorem endFragments_keptE (s : State)  : (endFragments s).keptE = s.keptE := by simp [endFragments]
@[simp] theorem rewrap_keptE (target : Nat) (s : State)  : (rewrap target s).keptE = s.keptE := by simp [rewrap]
@[simp] theorem restoreTotals_keptE (s : State)  : (restoreTotals s).keptE = s.keptE := by
  unfold restoreTotals
  (try dsimp only)
  (repeat' split)
  all_goals (try simp)

@[simp] theorem restartEvents_keptE (cold : Bool) (s : State)  : (restartEvents cold s).keptE = s.keptE := by simp [restartEvents]
@[simp] theorem resetCause_keptE (s : State)  : (resetCause s).keptE = s.keptE := by simp [resetCause]
@[simp] theorem testFails_keptE (origin : Nat) (l : List (TestUnit × List (Nat × Nat))) (s : State)  : (testFails origin l s).keptE = s.keptE := by simp [testFails]
@[simp] theorem startBanks_keptE (fails : List Nat) (s : State)  : (startBanks fails s).keptE = s.keptE := by simp [startBanks]
@[simp] theorem startTest_keptE (e : BootEnv) (recovery : Bool) (s : State)  : (startTest e recovery s).keptE = s.keptE := by
  unfold startTest
  (try dsimp only)
  (repeat' split)
  all_goals (try simp)

@[simp] theorem writeLatch_keptE (s : State)  : (writeLatch s).keptE = s.keptE := by simp [writeLatch]
@[simp] theorem romSend_keptE (b : Bytes) (s : State)  : (romSend b s).keptE = s.keptE := by simp [romSend]
@[simp] theorem romKeys_keptE (target : Nat) (s : State)  : (romKeys target s).keptE = s.keptE := by simp [romKeys]
@[simp] theorem romHello_keptE (s : State)  : (romHello s).keptE = s.keptE := by simp [romHello]
@[simp] theorem refusePacket_keptE (t : Transport) (sid : Option Nat) (b : Bytes) (st d : Nat) (s : State)  : (refusePacket t sid b st d s).keptE = s.keptE := by
  unfold refusePacket
  (try dsimp only)
  (repeat' split)
  all_goals (try simp)

@[simp] theorem safeReply_keptE (t : Transport) (charged : Bool) (b : Bytes) (st d seq : Nat) (s : State)  : (safeReply t charged b st d seq s).keptE = s.keptE := by
  unfold safeReply
  (try dsimp only)
  (repeat' split)
  all_goals (try simp)

@[simp] theorem safeAnswer_keptE (t : Transport) (charged : Bool) (b : Bytes) (s : State)  : (safeAnswer t charged b s).keptE = s.keptE := by
  unfold safeAnswer
  (try dsimp only)
  (repeat' split)
  all_goals (try simp)

@[simp] theorem enqueue_keptE (e : InEntry) (s : State)  : (enqueue e s).keptE = s.keptE := by simp [enqueue]
@[simp] theorem offerOn_keptE (t : Transport) (n : Nat) (x : Session) (b : Bytes) (s : State)  : (offerOn t n x b s).keptE = s.keptE := by simp [offerOn]
@[simp] theorem offerLocal_keptE (t : Transport) (b : Bytes) (s : State)  : (offerLocal t b s).keptE = s.keptE := by
  unfold offerLocal
  (try dsimp only)
  (repeat' split)
  all_goals (try simp)

@[simp] theorem dropOut_keptE (t : Transport) (sid : Option Nat) (p : OutPkt) (s : State)  : (dropOut t sid p s).keptE = s.keptE := by
  unfold dropOut
  (try dsimp only)
  (repeat' split)
  all_goals (try simp)

@[simp] theorem modWin_keptE (f : Window → Window) (s : State)  : (modWin f s).keptE = s.keptE := by simp [modWin]
@[simp] theorem hspi_keptE (f : State → State) (s : State) (hf : ∀ u, (f u).keptE = u.keptE) : (hspi f s).keptE = s.keptE := by simp [hspi, hf]
@[simp] theorem writeStatus_keptE (v : Nat) (s : State)  : (writeStatus v s).keptE = s.keptE := by simp [writeStatus]
@[simp] theorem writeCause_keptE (v : Nat) (s : State)  : (writeCause v s).keptE = s.keptE := by simp [writeCause]
@[simp] theorem ethDrop_keptE (s : State)  : (ethDrop s).keptE = s.keptE := by simp [ethDrop]
@[simp] theorem ethOut_keptE (peer : Nat) (b : Bytes) (s : State)  : (ethOut peer b s).keptE = s.keptE := by simp [ethOut]
@[simp] theorem refuseHandshake_keptE (peer st : Nat) (s : State)  : (refuseHandshake peer st s).keptE = s.keptE := by simp [refuseHandshake]
@[simp] theorem takePacket_keptE (n : Nat) (b : Bytes) (s : State)  : (takePacket n b s).keptE = s.keptE := by
  unfold takePacket
  (try dsimp only)
  (repeat' split)
  all_goals (try simp)

@[simp] theorem modChan_keptE (n : Nat) (f : EthChan → EthChan) (s : State)  : (modChan n f s).keptE = s.keptE := by simp [modChan]
@[simp] theorem takeHeld_keptE (n : Nat) (y0 : Nat) (s : State)  : (takeHeld n y0 s).keptE = s.keptE := by
  induction y0 generalizing s with
  | zero => rfl
  | succ k ih => unfold takeHeld; (repeat' split) <;> simp [ih]

@[simp] theorem dataIn_keptE (peer : Nat) (p : Bytes) (s : State)  : (dataIn peer p s).keptE = s.keptE := by
  unfold dataIn
  (try dsimp only)
  (repeat' split)
  all_goals (try simp)

@[simp] theorem reorderTimeout_keptE (n : Nat) (s : State)  : (reorderTimeout n s).keptE = s.keptE := by
  unfold reorderTimeout
  (try dsimp only)
  (repeat' split)
  all_goals (try simp)

@[simp] theorem supersede_keptE (b a : LiveCmd) (s : State)  : (supersede b a s).keptE = s.keptE := by simp [supersede]
@[simp] theorem supersedeAll_keptE (b : LiveCmd) (s : State)  : (supersedeAll b s).keptE = s.keptE := by simp [supersedeAll]
@[simp] theorem acceptPacket_keptE (t : Transport) (sid : Option Nat) (b : Bytes) (s : State)  : (acceptPacket t sid b s).keptE = s.keptE := by
  unfold acceptPacket
  (try dsimp only)
  (repeat' split)
  all_goals (try simp)

@[simp] theorem intakeService_keptE (s : State)  : (intakeService s).keptE = s.keptE := by
  unfold intakeService
  (try dsimp only)
  (repeat' split)
  all_goals (try simp)

@[simp] theorem transmitNext_keptE (t : Transport) (sid : Option Nat) (p : OutPkt) (s : State)  : (transmitNext t sid p s).keptE = s.keptE := by
  unfold transmitNext
  (try dsimp only)
  (repeat' split)
  all_goals (try simp)

@[simp] theorem dropUntaken_keptE (q : Nat) (s : State)  : (dropUntaken q s).keptE = s.keptE := by simp [dropUntaken]
@[simp] theorem releaseTaken_keptE (q : Nat) (s : State)  : (releaseTaken q s).keptE = s.keptE := by simp [releaseTaken]
@[simp] theorem dropTxns_keptE (q : Nat) (s : State)  : (dropTxns q s).keptE = s.keptE := by simp [dropTxns]
@[simp] theorem cancel_keptE (c : LiveCmd) (s : State)  : (cancel c s).keptE = s.keptE := by
  have h : ∀ d u v, cancelBegun d u = some v → v.keptE = u.keptE := by
    intro d u v h
    unfold cancelBegun at h
    (repeat' split at h)
    all_goals first
      | (cases h; simp; done)
      | exact absurd h (by simp)
  unfold cancel
  (repeat' split)
  all_goals first
    | (simp; done)
    | (rename_i e; simp [h _ _ _ e])

@[simp] theorem oweLate_keptE (c : LiveCmd) (mesh : Bool) (s : State)  : (oweLate c mesh s).keptE = s.keptE := by simp [oweLate]
@[simp] theorem timeout_keptE (c : LiveCmd) (s : State)  : (timeout c s).keptE = s.keptE := by
  unfold timeout
  (try dsimp only)
  (repeat' split)
  all_goals (try simp)

@[simp] theorem loseRecord_keptE (index : Nat) (s : State)  : (loseRecord index s).keptE = s.keptE := by simp [loseRecord]
@[simp] theorem loseTotals_keptE (copy : Nat) (s : State)  : (loseTotals copy s).keptE = s.keptE := by simp [loseTotals]
@[simp] theorem startDone_keptE (s : State)  : (startDone s).keptE = s.keptE := by simp [startDone]
@[simp] theorem countRouteless_keptE (s : State)  : (countRouteless s).keptE = s.keptE := by simp [countRouteless]
@[simp] theorem epochFlood_keptE (s : State)  : (epochFlood s).keptE = s.keptE := by simp [epochFlood]
@[simp] theorem saveTable_keptE (c : Nat) (s : State)  : (saveTable c s).keptE = s.keptE := by simp [saveTable]
@[simp] theorem countPorts_keptE (s : State)  : (countPorts s).keptE = s.keptE := by simp [countPorts]
@[simp] theorem twinAtT_keptE (cycle : Nat) (s : State)  : (twinAtT cycle s).keptE = s.keptE := by simp [twinAtT]
@[simp] theorem tickSpan_keptE (s : State)  : (tickSpan s).keptE = s.keptE := by simp [tickSpan]
@[simp] theorem tickWatchdogs_keptE (s : State)  : (tickWatchdogs s).keptE = s.keptE := by simp [tickWatchdogs]
@[simp] theorem tickHealth_keptE (s : State)  : (tickHealth s).keptE = s.keptE := by simp [tickHealth]
theorem execCancel_keptE (sid : Nat) (tag : Nat) (s u : State) (h : execCancel sid tag s = .next u) : u.keptE = s.keptE := by
  unfold execCancel at h
  cases h
  simp

theorem execFaultAck_keptE (sid : Nat) (tag : Nat) (s u : State) (h : execFaultAck sid tag s = .next u) : u.keptE = s.keptE := by
  unfold execFaultAck at h
  cases h
  simp

theorem execVaultScrub_keptE (result : Nat) (s u : State) (h : execVaultScrub result s = .next u) : u.keptE = s.keptE := by
  unfold execVaultScrub at h
  cases h
  simp

theorem execCopyAck_keptE (f : LinkIn) (s u : State) (h : execCopyAck f s = .next u) : u.keptE = s.keptE := by
  unfold execCopyAck at h
  cases h
  simp

theorem execThermalSensorChange_keptE (celsius : Int) (s u : State) (h : execThermalSensorChange celsius s = .next u) : u.keptE = s.keptE := by
  unfold execThermalSensorChange at h
  cases h
  simp

theorem execPmPgoodFall_keptE  (s u : State) (h : execPmPgoodFall  s = .next u) : u.keptE = s.keptE := by
  unfold execPmPgoodFall at h
  cases h
  simp

theorem execFaultRaised_keptE (source : Nat) (cls : Nat) (payload : Bytes) (s u : State) (h : execFaultRaised source cls payload s = .next u) : u.keptE = s.keptE := by
  unfold execFaultRaised at h
  cases h
  simp

theorem execFaultInjection_keptE  (s u : State) (h : execFaultInjection  s = .next u) : u.keptE = s.keptE := by
  unfold execFaultInjection at h
  cases h
  (try dsimp only)
  (repeat' split)
  all_goals (try simp)

theorem execUcEscalation_keptE  (s u : State) (h : execUcEscalation  s = .next u) : u.keptE = s.keptE := by
  unfold execUcEscalation at h
  cases h
  (try dsimp only)
  (repeat' split)
  all_goals (try simp)

theorem execWatchdogExpiry_keptE (core : Nat) (s u : State) (h : execWatchdogExpiry core s = .next u) : u.keptE = s.keptE := by
  unfold execWatchdogExpiry at h
  cases h
  (try dsimp only)
  (repeat' split)
  all_goals (try simp)

theorem execScanRequest_keptE  (s u : State) (h : execScanRequest  s = .next u) : u.keptE = s.keptE := by
  unfold execScanRequest at h
  cases h
  simp

end Sys2Proof.Machine
end

