-- ==== Sys2Proof/Laws/FrameF.lean ====
section
/-! SUPPORT. The frame of the commands of partsWide: what every operation they use, and each of them, leaves alone. -/

namespace Sys2Proof.Machine

set_option Elab.async false

/-- What the commands of partsWide leave alone. -/
def State.keptF (s : State) : Nat × Otp × BootSt × List Instr :=
  (s.now, s.otp, s.boot, s.pending)

@[simp] theorem keptF_modHost (s : State) (f) : (s.modHost f).keptF = s.keptF := by have h : (s.modHost f).keptF = s.keptF := rfl; exact h
@[simp] theorem keptF_modTime (s : State) (f) : (s.modTime f).keptF = s.keptF := by have h : (s.modTime f).keptF = s.keptF := rfl; exact h
@[simp] theorem keptF_modLamp (s : State) (f) : (s.modLamp f).keptF = s.keptF := by have h : (s.modLamp f).keptF = s.keptF := rfl; exact h
@[simp] theorem keptF_modSet (s : State) (f) : (s.modSet f).keptF = s.keptF := by have h : (s.modSet f).keptF = s.keptF := rfl; exact h
@[simp] theorem keptF_modFb (s : State) (f) : (s.modFb f).keptF = s.keptF := by have h : (s.modFb f).keptF = s.keptF := rfl; exact h
@[simp] theorem keptF_modMac (s : State) (f) : (s.modMac f).keptF = s.keptF := by have h : (s.modMac f).keptF = s.keptF := rfl; exact h
@[simp] theorem keptF_modPar (s : State) (f) : (s.modPar f).keptF = s.keptF := by have h : (s.modPar f).keptF = s.keptF := rfl; exact h
@[simp] theorem keptF_modRtc (s : State) (f) : (s.modRtc f).keptF = s.keptF := by have h : (s.modRtc f).keptF = s.keptF := rfl; exact h
@[simp] theorem keptF_modSec (s : State) (f) : (s.modSec f).keptF = s.keptF := by have h : (s.modSec f).keptF = s.keptF := rfl; exact h
@[simp] theorem keptF_modUpd (s : State) (f) : (s.modUpd f).keptF = s.keptF := by have h : (s.modUpd f).keptF = s.keptF := rfl; exact h
@[simp] theorem keptF_modBist (s : State) (f) : (s.modBist f).keptF = s.keptF := by have h : (s.modBist f).keptF = s.keptF := rfl; exact h
@[simp] theorem keptF_modPwr (s : State) (f) : (s.modPwr f).keptF = s.keptF := by have h : (s.modPwr f).keptF = s.keptF := rfl; exact h
@[simp] theorem keptF_draw (s : State) : s.draw.keptF = s.keptF := by have h : s.draw.keptF = s.keptF := rfl; exact h
@[simp] theorem keptF_free (s : State) (n : Nat) : ({ s with freeIdx := n } : State).keptF = s.keptF := rfl
@[simp] theorem keptF_modTwin (s : State) (f) : (s.modTwin f).keptF = s.keptF := by have h : (s.modTwin f).keptF = s.keptF := rfl; exact h
@[simp] theorem keptF_modOut (s : State) (f) : (s.modOut f).keptF = s.keptF := by have h : (s.modOut f).keptF = s.keptF := rfl; exact h
@[simp] theorem keptF_modMeter (s : State) (f) : (s.modMeter f).keptF = s.keptF := by have h : (s.modMeter f).keptF = s.keptF := rfl; exact h
@[simp] theorem keptF_modTruss (s : State) (f) : (s.modTruss f).keptF = s.keptF := by have h : (s.modTruss f).keptF = s.keptF := rfl; exact h
@[simp] theorem keptF_foldl {α : Type} (f : State → α → State) (h : ∀ s x, (f s x).keptF = s.keptF) (l : List α) (s : State) :
    (l.foldl f s).keptF = s.keptF := by
  induction l generalizing s with
  | nil => rfl
  | cons a l ih => simp only [List.foldl_cons, ih, h]
@[simp] theorem keptF_ite (c : Prop) [Decidable c] (a b : State) : (if c then a else b).keptF = if c then a.keptF else b.keptF := by
  split <;> rfl
theorem keptF_foldl2 {α : Type} (f : State → α → State) (h : ∀ s x, (f s x).keptF = s.keptF) (l : List α) (s u : State)
    (e : s.keptF = u.keptF) : (l.foldl f s).keptF = u.keptF := by rw [keptF_foldl f h, e]
@[simp] theorem onBank_keptF (k : Nat) (f : State → State) (s : State) (hf : ∀ u, (f u).keptF = u.keptF) : (onBank k f s).keptF = s.keptF := by simp [onBank, hf]
@[simp] theorem twinPut_keptF (type : Nat) (payload : Bytes) (s : State)  : (twinPut type payload s).keptF = s.keptF := by simp [twinPut]
@[simp] theorem twinSend_keptF (type : Nat) (payload : Bytes) (s : State)  : (twinSend type payload s).keptF = s.keptF := by simp [twinSend]
@[simp] theorem State_modSession_keptF (s : State) (sid : Nat) (f : Session → Session)  : (State.modSession s sid f).keptF = s.keptF := by simp [State.modSession]
@[simp] theorem pushNotice_keptF (sid : Nat) (build : Nat → Bytes) (s : State)  : (pushNotice sid build s).keptF = s.keptF := by simp [pushNotice]
@[simp] theorem giveCredits_keptF (sid n : Nat) (s : State)  : (giveCredits sid n s).keptF = s.keptF := by
  unfold giveCredits
  (try dsimp only)
  (repeat' split)
  all_goals (try simp)

@[simp] theorem creditNotice_keptF (sid : Nat) (s : State)  : (creditNotice sid s).keptF = s.keptF := by
  unfold creditNotice
  (try dsimp only)
  (repeat' split)
  all_goals (try simp)

@[simp] theorem noticeTo_keptF (dest : Option Nat) (code tag : Nat) (rec : Bytes) (s : State)  : (noticeTo dest code tag rec s).keptF = s.keptF := by
  unfold noticeTo
  (try dsimp only)
  (repeat' split)
  all_goals (try simp)

@[simp] theorem recordEv_keptF (code source sev : Nat) (payload : Bytes) (dest : Option Nat) (tag : Nat) (s : State)  : (recordEv code source sev payload dest tag s).keptF = s.keptF := by simp [recordEv]
@[simp] theorem ev_keptF (code : Nat) (payload : Bytes) (s : State)  : (ev code payload s).keptF = s.keptF := by simp [ev]
@[simp] theorem evL_keptF (n code : Nat) (payload : Bytes) (s : State)  : (evL n code payload s).keptF = s.keptF := by simp [evL]
@[simp] theorem evS_keptF (sid tag code : Nat) (payload : Bytes) (s : State)  : (evS sid tag code payload s).keptF = s.keptF := by simp [evS]
@[simp] theorem checkBacklog_keptF (sid : Nat) (s : State)  : (checkBacklog sid s).keptF = s.keptF := by
  unfold checkBacklog
  (try dsimp only)
  (repeat' split)
  all_goals (try simp)

@[simp] theorem checkInbound_keptF (s : State)  : (checkInbound s).keptF = s.keptF := by simp [checkInbound]
@[simp] theorem pushBare_keptF (t : Transport) (bytes : Bytes) (seq : Nat) (s : State)  : (pushBare t bytes seq s).keptF = s.keptF := by simp [pushBare]
@[simp] theorem State_modCmd_keptF (s : State) (seq : Nat) (f : LiveCmd → LiveCmd)  : (State.modCmd s seq f).keptF = s.keptF := by simp [State.modCmd]
@[simp] theorem complete_keptF (c : LiveCmd) (status detail : Nat) (params : Bytes) (s : State)  : (complete c status detail params s).keptF = s.keptF := by simp [complete]
@[simp] theorem fail_keptF (c : LiveCmd) (status detail : Nat) (s : State)  : (fail c status detail s).keptF = s.keptF := by simp [fail]
@[simp] theorem completeAll_keptF (p : LiveCmd → Bool) (status detail : Nat) (params : Bytes) (s : State)  : (completeAll p status detail params s).keptF = s.keptF := by simp [completeAll]
@[simp] theorem completeEach_keptF (p : LiveCmd → Bool) (status detail : Nat) (params : LiveCmd → Bytes) (s : State)  : (completeEach p status detail params s).keptF = s.keptF := by simp [completeEach]
@[simp] theorem dropPend_keptF (s : State)  : (dropPend s).keptF = s.keptF := by simp [dropPend]
@[simp] theorem lateSuccess_keptF (p : LateRec → Bool) (status : Nat) (s : State)  : (lateSuccess p status s).keptF = s.keptF := by simp [lateSuccess]
@[simp] theorem closeSession_keptF (sid : Nat) (s : State)  : (closeSession sid s).keptF = s.keptF := by
  unfold closeSession
  (try dsimp only)
  (repeat' split)
  all_goals (try simp)

@[simp] theorem closeSessions_keptF (p : Session → Bool) (s : State)  : (closeSessions p s).keptF = s.keptF := by
  unfold closeSessions
  (try simp)
  (repeat' (split <;> try simp))

@[simp] theorem takeControl_keptF (a : Agent) (s : State)  : (takeControl a s).keptF = s.keptF := by simp [takeControl]
@[simp] theorem refreshLdEn_keptF (s : State)  : (refreshLdEn s).keptF = s.keptF := by simp [refreshLdEn]
@[simp] theorem writeCopy_keptF (toB : Bool) (t old : TotalsCopy) (s : State)  : (writeCopy toB t old s).keptF = s.keptF := by simp [writeCopy]
@[simp] theorem saveTotals_keptF (kind : Nat) (s : State)  : (saveTotals kind s).keptF = s.keptF := by simp [saveTotals]
@[simp] theorem setAddend_keptF (a : Int) (s : State)  : (setAddend a s).keptF = s.keptF := by simp [setAddend]
@[simp] theorem toHoldover_keptF (s : State)  : (toHoldover s).keptF = s.keptF := by simp [toHoldover]
@[simp] theorem accountState_keptF (s : State)  : (accountState s).keptF = s.keptF := by simp [accountState]
@[simp] theorem setPState_keptF (q : PState) (s : State)  : (setPState q s).keptF = s.keptF := by simp [setPState]
@[simp] theorem toRun_keptF (s : State)  : (toRun s).keptF = s.keptF := by simp [toRun]
@[simp] theorem loseLease_keptF (s : State)  : (loseLease s).keptF = s.keptF := by simp [loseLease]
@[simp] theorem dropLeaseOut_keptF (s : State)  : (dropLeaseOut s).keptF = s.keptF := by simp [dropLeaseOut]
@[simp] theorem modJoint_keptF (j : Nat) (f : Joint → Joint) (s : State)  : (modJoint j f s).keptF = s.keptF := rfl
@[simp] theorem crossNote_keptF (j code : Nat) (payload : Bytes) (s : State)  : (crossNote j code payload s).keptF = s.keptF := by simp [crossNote]
@[simp] theorem takeEdges_keptF (ago : Nat) (edges : List Nat) (s : State)  : (takeEdges ago edges s).keptF = s.keptF := by simp [takeEdges]
@[simp] theorem takeBits_keptF (edges : List Nat) (s : State)  : (takeBits edges s).keptF = s.keptF := by simp [takeBits]
@[simp] theorem startPulse_keptF (k : Nat) (s : State)  : (startPulse k s).keptF = s.keptF := by
  unfold startPulse
  (try dsimp only)
  (repeat' split)
  all_goals (try simp)

@[simp] theorem startPulses_keptF (s : State)  : (startPulses s).keptF = s.keptF := by simp [startPulses]
@[simp] theorem duePulses_keptF (k n : Nat) (s : State)  : (duePulses k n s).keptF = s.keptF := by
  unfold duePulses
  (try dsimp only)
  (repeat' split)
  all_goals (try simp)

@[simp] theorem feedPout_keptF (k r x : Nat) (s : State)  : (feedPout k r x s).keptF = s.keptF := by
  unfold feedPout
  (try dsimp only)
  (repeat' split)
  all_goals (try simp)

@[simp] theorem addEnergy_keptF (r x : Nat) (s : State)  : (addEnergy r x s).keptF = s.keptF := by simp [addEnergy]
@[simp] theorem routePair_keptF (r : Nat) (x : Int) (s : State)  : (routePair r x s).keptF = s.keptF := by simp [routePair]
@[simp] theorem routeCycle_keptF (ph : Nat) (e : CycleEnergy) (s : State)  : (routeCycle ph e s).keptF = s.keptF := by simp [routeCycle]
@[simp] theorem routePhase_keptF (ph until_ : Nat) (s : State)  : (routePhase ph until_ s).keptF = s.keptF := by simp [routePhase]
@[simp] theorem noteRouted_keptF (ph : Nat) (s : State)  : (noteRouted ph s).keptF = s.keptF := by simp [noteRouted]
@[simp] theorem routeTotal_keptF (s : State)  : (routeTotal s).keptF = s.keptF := by simp [routeTotal]
@[simp] theorem closeTotals_keptF (until_ : Nat) (s : State)  : (closeTotals until_ s).keptF = s.keptF := by simp [closeTotals]
@[simp] theorem flushNow_keptF (s : State)  : (flushNow s).keptF = s.keptF := by simp [flushNow]
@[simp] theorem zeroCrossing_keptF (ph : Nat) (s : State)  : (zeroCrossing ph s).keptF = s.keptF := by simp [zeroCrossing]
@[simp] theorem windowReason_keptF (bit : Nat) (s : State)  : (windowReason bit s).keptF = s.keptF := by simp [windowReason]
@[simp] theorem markFilled_keptF (s : State)  : (markFilled s).keptF = s.keptF := by simp [markFilled]
@[simp] theorem fillLast_keptF (s : State)  : (fillLast s).keptF = s.keptF := by
  unfold fillLast
  (try dsimp only)
  (repeat' split)
  all_goals (try simp)

@[simp] theorem creditGap_keptF (ns : Nat) (s : State)  : (creditGap ns s).keptF = s.keptF := by simp [creditGap]
@[simp] theorem resumePath_keptF (drop : Bool) (s : State)  : (resumePath drop s).keptF = s.keptF := by simp [resumePath]
@[simp] theorem nextSecond_keptF (freq : Nat) (s : State)  : (nextSecond freq s).keptF = s.keptF := by simp [nextSecond]
@[simp] theorem scheduleStart_keptF (at_ : Nat) (s : State)  : (scheduleStart at_ s).keptF = s.keptF := by simp [scheduleStart]
@[simp] theorem autoStart_keptF (s : State)  : (autoStart s).keptF = s.keptF := by simp [autoStart]
@[simp] theorem setContactor_keptF (k : Nat) (level : Bool) (s : State)  : (setContactor k level s).keptF = s.keptF := by simp [setContactor]
@[simp] theorem fallbackDrive_keptF (k : Nat) (s : State)  : (fallbackDrive k s).keptF = s.keptF := by
  unfold fallbackDrive
  (try dsimp only)
  (repeat' split)
  all_goals (try simp)

@[simp] theorem fallbackEval_keptF (s : State)  : (fallbackEval s).keptF = s.keptF := by simp [fallbackEval]
@[simp] theorem seqTakes_keptF (s : State)  : (seqTakes s).keptF = s.keptF := by simp [seqTakes]
@[simp] theorem enterSafe_keptF (code source index : Nat) (s : State)  : (enterSafe code source index s).keptF = s.keptF := by
  unfold enterSafe
  (try dsimp only)
  (repeat' split)
  all_goals (try simp)

@[simp] theorem faultRecord_keptF (source cls : Nat) (payload : Bytes) (s : State)  : (faultRecord source cls payload s).keptF = s.keptF := by simp [faultRecord]
@[simp] theorem raiseFT_keptF (source : Nat) (payload : Bytes) (s : State)  : (raiseFT source payload s).keptF = s.keptF := by simp [raiseFT]
@[simp] theorem raiseUC_keptF (source : Nat) (payload : Bytes) (s : State)  : (raiseUC source payload s).keptF = s.keptF := by simp [raiseUC]
@[simp] theorem raiseCE_keptF (source : Nat) (payload : Bytes) (s : State)  : (raiseCE source payload s).keptF = s.keptF := by simp [raiseCE]
@[simp] theorem raiseFault_keptF (source cls : Nat) (payload : Bytes) (s : State)  : (raiseFault source cls payload s).keptF = s.keptF := by simp [raiseFault]
@[simp] theorem escalate_keptF (source : Nat) (s : State)  : (escalate source s).keptF = s.keptF := by simp [escalate]
@[simp] theorem ackFault_keptF (source : Nat) (s : State)  : (ackFault source s).keptF = s.keptF := by
  unfold ackFault
  (try dsimp only)
  (repeat' split)
  all_goals (try simp)

@[simp] theorem runCmd_keptF (op sid tag : Nat) (body : LiveCmd → State → State) (s : State) (hbody : ∀ x0 u, (body x0 u).keptF = u.keptF) : (runCmd op sid tag body s).keptF = s.keptF := by
  unfold runCmd
  (try dsimp only)
  (repeat' split)
  all_goals (try simp [hbody])

@[simp] theorem waitFor_keptF (c : LiveCmd) (w : Wait) (work : List Nat) (s : State)  : (waitFor c w work s).keptF = s.keptF := by simp [waitFor]
@[simp] theorem recordOverrun_keptF (j : Nat) (s : State)  : (recordOverrun j s).keptF = s.keptF := by simp [recordOverrun]
@[simp] theorem recordFlushed_keptF (j : Nat) (s : State)  : (recordFlushed j s).keptF = s.keptF := by simp [recordFlushed]
@[simp] theorem pulseLanded_keptF (j : Nat) (s : State)  : (pulseLanded j s).keptF = s.keptF := by simp [pulseLanded]
@[simp] theorem jointSend_keptF (j : Nat) (s : State)  : (jointSend j s).keptF = s.keptF := by simp [jointSend]
@[simp] theorem landCrossed_keptF (j k : Nat) (s : State)  : (landCrossed j k s).keptF = s.keptF := by simp [landCrossed]
@[simp] theorem crossEv_keptF (j code : Nat) (payload : Bytes) (s : State)  : (crossEv j code payload s).keptF = s.keptF := by simp [crossEv]
@[simp] theorem jointDeliver_keptF (j : Nat) (s : State)  : (jointDeliver j s).keptF = s.keptF := by
  unfold jointDeliver
  (try dsimp only)
  (repeat' split)
  all_goals (try simp)

@[simp] theorem flushJoint_keptF (j : Nat) (s : State)  : (flushJoint j s).keptF = s.keptF := by simp [flushJoint]
@[simp] theorem recordOverruns_keptF (s : State)  : (recordOverruns s).keptF = s.keptF := by simp [recordOverruns]
@[simp] theorem pmbusWrite_keptF (command : Nat) (data : Bytes) (s : State)  : (pmbusWrite command data s).keptF = s.keptF := by simp [pmbusWrite]
@[simp] theorem pmbusRead_keptF (command : Nat) (s : State)  : (pmbusRead command s).keptF = s.keptF := by simp [pmbusRead]
@[simp] theorem sendVout_keptF (exponent : Int) (mv : Nat) (s : State)  : (sendVout exponent mv s).keptF = s.keptF := by simp [sendVout]
@[simp] theorem requestVout_keptF (mv attempt : Nat) (s : State)  : (requestVout mv attempt s).keptF = s.keptF := by simp [requestVout]
@[simp] theorem countAbort_keptF (point : Nat) (s : State)  : (countAbort point s).keptF = s.keptF := by simp [countAbort]
@[simp] theorem beginExit_keptF (s : State)  : (beginExit s).keptF = s.keptF := by simp [beginExit]
@[simp] theorem recordWake_keptF (cause : Nat) (s : State)  : (recordWake cause s).keptF = s.keptF := by simp [recordWake]
@[simp] theorem wakeUp_keptF (cause : Nat) (s : State)  : (wakeUp cause s).keptF = s.keptF := by
  unfold wakeUp
  (try dsimp only)
  (repeat' split)
  all_goals (try simp)

@[simp] theorem fireAlarm_keptF (i flags instants t : Nat) (s : State)  : (fireAlarm i flags instants t s).keptF = s.keptF := by simp [fireAlarm]
@[simp] theorem matchAlarm_keptF (i t : Nat) (s : State)  : (matchAlarm i t s).keptF = s.keptF := by
  unfold matchAlarm
  (try dsimp only)
  (repeat' split)
  all_goals (try simp)

@[simp] theorem rtcAlarmMatch_keptF (s : State)  : (rtcAlarmMatch s).keptF = s.keptF := by simp [rtcAlarmMatch]
@[simp] theorem alarmStep_keptF (i a b : Nat) (s : State)  : (alarmStep i a b s).keptF = s.keptF := by
  unfold alarmStep
  (try dsimp only)
  (repeat' split)
  all_goals (try simp)

@[simp] theorem rtcStepped_keptF (n : Int) (cause : Nat) (s : State)  : (rtcStepped n cause s).keptF = s.keptF := by simp [rtcStepped]
@[simp] theorem rtcMove_keptF (n : Int) (cause : Nat) (adjust : Bool) (s : State)  : (rtcMove n cause adjust s).keptF = s.keptF := by simp [rtcMove]
@[simp] theorem rtcStep_keptF (n : Int) (cause : Nat) (adjust : Bool) (s : State)  : (rtcStep n cause adjust s).keptF = s.keptF := by simp [rtcStep]
@[simp] theorem rtcValidate_keptF (s : State)  : (rtcValidate s).keptF = s.keptF := by simp [rtcValidate]
@[simp] theorem rtcStepValid_keptF (n : Int) (cause : Nat) (s : State)  : (rtcStepValid n cause s).keptF = s.keptF := by simp [rtcStepValid]
@[simp] theorem refreshU_keptF (s : State)  : (refreshU s).keptF = s.keptF := by simp [refreshU]
@[simp] theorem meterRun_keptF (on : Bool) (s : State)  : (meterRun on s).keptF = s.keptF := by simp [meterRun]
@[simp] theorem twinEnable_keptF (on : Bool) (s : State)  : (twinEnable on s).keptF = s.keptF := by simp [twinEnable]
@[simp] theorem bumpConf_keptF (s : State)  : (bumpConf s).keptF = s.keptF := by simp [bumpConf]
@[simp] theorem caseLevel_keptF (high : Bool) (s : State)  : (caseLevel high s).keptF = s.keptF := by simp [caseLevel]
@[simp] theorem settingEffect_keptF (id old v : Nat) (s : State)  : (settingEffect id old v s).keptF = s.keptF := by simp [settingEffect]
@[simp] theorem applySetting_keptF (id v : Nat) (s : State)  : (applySetting id v s).keptF = s.keptF := by simp [applySetting]
@[simp] theorem syncShadow_keptF (s : State)  : (syncShadow s).keptF = s.keptF := by simp [syncShadow]
@[simp] theorem commitDone_keptF (block : Nat) (reply : Bytes) (s : State)  : (commitDone block reply s).keptF = s.keptF := by simp [commitDone]
@[simp] theorem clearPouts_keptF (s : State)  : (clearPouts s).keptF = s.keptF := by simp [clearPouts]
@[simp] theorem applyBlock_keptF (block : Nat) (cycle : Option Nat) (s : State)  : (applyBlock block cycle s).keptF = s.keptF := by
  unfold applyBlock
  (try dsimp only)
  (repeat' split)
  all_goals (try simp)

@[simp] theorem moveSecond_keptF (a b : Nat) (s : State)  : (moveSecond a b s).keptF = s.keptF := by simp [moveSecond]
@[simp] theorem applyStep_keptF (x : Int) (cause application : Nat) (seq : Option Nat) (s : State)  : (applyStep x cause application seq s).keptF = s.keptF := by
  unfold applyStep
  (try dsimp only)
  (repeat' split)
  all_goals (try simp)

@[simp] theorem doStep_keptF (x : Int) (cause : Nat) (seq : Option Nat) (s : State)  : (doStep x cause seq s).keptF = s.keptF := by simp [doStep]
@[simp] theorem modSource_keptF (c : Nat) (f : Source → Source) (s : State)  : (modSource c f s).keptF = s.keptF := by simp [modSource]
@[simp] theorem selectSource_keptF (c : Nat) (s : State)  : (selectSource c s).keptF = s.keptF := by simp [selectSource]
@[simp] theorem qualify_keptF (c : Nat) (s : State)  : (qualify c s).keptF = s.keptF := by simp [qualify]
@[simp] theorem loseSource_keptF (c : Nat) (s : State)  : (loseSource c s).keptF = s.keptF := by simp [loseSource]
@[simp] theorem countMeasurement_keptF (c : Nat) (x : Int) (s : State)  : (countMeasurement c x s).keptF = s.keptF := by simp [countMeasurement]
@[simp] theorem refuseMeasurement_keptF (c : Nat) (x : Int) (s : State)  : (refuseMeasurement c x s).keptF = s.keptF := by simp [refuseMeasurement]
@[simp] theorem servo_keptF (x : Int) (s : State)  : (servo x s).keptF = s.keptF := by simp [servo]
@[simp] theorem measure_keptF (c : Nat) (x : Int) (s : State)  : (measure c x s).keptF = s.keptF := by simp [measure]
@[simp] theorem modLan_keptF (n : Nat) (f : Lantern → Lantern) (s : State)  : (modLan n f s).keptF = s.keptF := by simp [modLan]
@[simp] theorem dropLantern_keptF (n : Nat) (s : State)  : (dropLantern n s).keptF = s.keptF := by simp [dropLantern]
@[simp] theorem finishMesh_keptF (q : Nat) (s : State)  : (finishMesh q s).keptF = s.keptF := by
  unfold finishMesh
  (try dsimp only)
  (repeat' split)
  all_goals (try simp)

@[simp] theorem removeLantern_keptF (by_ n : Nat) (s : State)  : (removeLantern by_ n s).keptF = s.keptF := by simp [removeLantern]
@[simp] theorem dropPushes_keptF (pol : Nat) (s : State)  : (dropPushes pol s).keptF = s.keptF := by simp [dropPushes]
@[simp] theorem ownSettled_keptF (t : Txn) (o : Outcome) (s : State)  : (ownSettled t o s).keptF = s.keptF := by simp [ownSettled]
@[simp] theorem finishLeave_keptF (t : Txn) (s : State)  : (finishLeave t s).keptF = s.keptF := by
  unfold finishLeave
  (try dsimp only)
  (repeat' split)
  all_goals (try simp)

@[simp] theorem lateLeave_keptF (q n : Nat) (s : State)  : (lateLeave q n s).keptF = s.keptF := by simp [lateLeave]
@[simp] theorem lateMesh_keptF (q : Nat) (s : State)  : (lateMesh q s).keptF = s.keptF := by
  unfold lateMesh
  (try dsimp only)
  (repeat' split)
  all_goals (try simp)

@[simp] theorem settle_keptF (t : Txn) (o : Outcome) (s : State)  : (settle t o s).keptF = s.keptF := by
  unfold settle
  (try dsimp only)
  (repeat' split)
  all_goals (try simp)

@[simp] theorem addRetries_keptF (q k : Nat) (s : State)  : (addRetries q k s).keptF = s.keptF := by simp [addRetries]
@[simp] theorem queueFlood_keptF (f : Flood) (s : State)  : (queueFlood f s).keptF = s.keptF := by simp [queueFlood]
@[simp] theorem trimHeld_keptF (n : Nat) (s : State)  : (trimHeld n s).keptF = s.keptF := by
  unfold trimHeld
  (try dsimp only)
  (repeat' split)
  all_goals (try simp)

@[simp] theorem sendMsg_keptF (owner : Option Nat) (n type : Nat) (confirmed : Bool) (payload : Bytes) (expiry : Nat) (s : State)  : (sendMsg owner n type confirmed payload expiry s).keptF = s.keptF := by
  unfold sendMsg
  (try dsimp only)
  (repeat' split)
  all_goals (try simp)

@[simp] theorem sendOwn_keptF (n type : Nat) (payload : Bytes) (s : State)  : (sendOwn n type payload s).keptF = s.keptF := by simp [sendOwn]
@[simp] theorem loseLantern_keptF (n : Nat) (s : State)  : (loseLantern n s).keptF = s.keptF := by simp [loseLantern]
@[simp] theorem expectJoined_keptF (s : State)  : (expectJoined s).keptF = s.keptF := by simp [expectJoined]
@[simp] theorem contact_keptF (n at_ : Nat) (s : State)  : (contact n at_ s).keptF = s.keptF := by simp [contact]
@[simp] theorem sendEach_keptF (c : LiveCmd) (work : List Nat) (send : State → State) (s : State) (hsend : ∀ u, (send u).keptF = u.keptF) : (sendEach c work send s).keptF = s.keptF := by simp [sendEach, hsend]
@[simp] theorem endSpan_keptF (status detail : Nat) (s : State)  : (endSpan status detail s).keptF = s.keptF := by simp [endSpan]
@[simp] theorem ethData_keptF (sid : Nat) (x : Session) (ch : EthChan) (pkt : Bytes) (s : State)  : (ethData sid x ch pkt s).keptF = s.keptF := by simp [ethData]
@[simp] theorem ethSend_keptF (sid : Nat) (pkt : Bytes) (s : State)  : (ethSend sid pkt s).keptF = s.keptF := by
  unfold ethSend
  (try dsimp only)
  (repeat' split)
  all_goals (try simp)

@[simp] theorem flushSession_keptF (sid : Nat) (s : State)  : (flushSession sid s).keptF = s.keptF := by
  unfold flushSession
  (try dsimp only)
  (repeat' split)
  all_goals (try simp)

@[simp] theorem dismiss_keptF (p : Session → Bool) (s : State)  : (dismiss p s).keptF = s.keptF := by
  unfold dismiss
  (try simp)
  (repeat' (split <;> try simp))

@[simp] theorem closeKeyless_keptF (s : State)  : (closeKeyless s).keptF = s.keptF := by simp [closeKeyless]
@[simp] theorem noteKeyless_keptF (s : State)  : (noteKeyless s).keptF = s.keptF := by simp [noteKeyless]
@[simp] theorem clearKeystone_keptF (s : State)  : (clearKeystone s).keptF = s.keptF := by simp [clearKeystone]
@[simp] theorem eraseSlot_keptF (slot : Nat) (s : State)  : (eraseSlot slot s).keptF = s.keptF := by simp [eraseSlot]
@[simp] theorem staleChallenges_keptF (slot : Nat) (s : State)  : (staleChallenges slot s).keptF = s.keptF := by simp [staleChallenges]
@[simp] theorem retireSlot_keptF (slot : Nat) (s : State)  : (retireSlot slot s).keptF = s.keptF := by simp [retireSlot]
@[simp] theorem loadStone_keptF (key : Bytes) (attr : Nat) (slot : Option Nat) (s : State)  : (loadStone key attr slot s).keptF = s.keptF := by simp [loadStone]
@[simp] theorem useKey_keptF (slot : Nat) (s : State)  : (useKey slot s).keptF = s.keptF := by
  unfold useKey
  (try dsimp only)
  (repeat' split)
  all_goals (try simp)

@[simp] theorem keystoneMisuse_keptF (s : State)  : (keystoneMisuse s).keptF = s.keptF := by simp [keystoneMisuse]
@[simp] theorem stoneUnitKa_keptF (s : State)  : (stoneUnitKa s).keptF = s.keptF := by
  unfold stoneUnitKa
  (try dsimp only)
  (repeat' split)
  all_goals (try simp)

@[simp] theorem storeKey_keptF (slot : Nat) (key : Bytes) (attr : Nat) (s : State)  : (storeKey slot key attr s).keptF = s.keptF := by
  unfold storeKey
  (try dsimp only)
  (repeat' split)
  all_goals (try simp)

@[simp] theorem recordUnitKa_keptF (s : State)  : (recordUnitKa s).keptF = s.keptF := by
  unfold recordUnitKa
  (try dsimp only)
  (repeat' split)
  all_goals (try simp)

@[simp] theorem advanceEpoch_keptF (s : State)  : (advanceEpoch s).keptF = s.keptF := by simp [advanceEpoch]
@[simp] theorem writeMirror_keptF (s : State)  : (writeMirror s).keptF = s.keptF := by simp [writeMirror]
@[simp] theorem zeroBanks_keptF (s : State)  : (zeroBanks s).keptF = s.keptF := by simp [zeroBanks]
@[simp] theorem eraseFirmware_keptF (old cause : Nat) (s : State)  : (eraseFirmware old cause s).keptF = s.keptF := by simp [eraseFirmware]
@[simp] theorem seedGuard_keptF (s : State)  : (seedGuard s).keptF = s.keptF := by simp [seedGuard]
@[simp] theorem tamperRecord_keptF (e : TamperEnt) (inBackup : Bool) (s : State)  : (tamperRecord e inBackup s).keptF = s.keptF := by simp [tamperRecord]
@[simp] theorem modTamper_keptF (source : Nat) (f : TamperSrc → TamperSrc) (s : State)  : (modTamper source f s).keptF = s.keptF := by simp [modTamper]
@[simp] theorem logTamper_keptF (e : TamperEnt) (s : State)  : (logTamper e s).keptF = s.keptF := by simp [logTamper]
@[simp] theorem eraseVault_keptF (s : State)  : (eraseVault s).keptF = s.keptF := by simp [eraseVault]
@[simp] theorem tamperActs_keptF (source : Nat) (s : State)  : (tamperActs source s).keptF = s.keptF := by simp [tamperActs]
@[simp] theorem tamperTrue_keptF (source : Nat) (s : State)  : (tamperTrue source s).keptF = s.keptF := by simp [tamperTrue]
@[simp] theorem tamperFalse_keptF (source : Nat) (s : State)  : (tamperFalse source s).keptF = s.keptF := by simp [tamperFalse]
@[simp] theorem tamperOwed_keptF (s : State)  : (tamperOwed s).keptF = s.keptF := by
  unfold tamperOwed
  (try dsimp only)
  (repeat' split)
  all_goals (try simp)

@[simp] theorem settleAuth_keptF (s : State)  : (settleAuth s).keptF = s.keptF := by simp [settleAuth]
@[simp] theorem rearm_keptF (source : Nat) (s : State)  : (rearm source s).keptF = s.keptF := by simp [rearm]
@[simp] theorem noteAuth_keptF (opcode sid : Nat) (s : State)  : (noteAuth opcode sid s).keptF = s.keptF := by simp [noteAuth]
@[simp] theorem timeGet_keptF (c : LiveCmd) (s : State)  : (timeGet c s).keptF = s.keptF := by simp [timeGet]
@[simp] theorem timeSlew_keptF (c : LiveCmd) (s : State)  : (timeSlew c s).keptF = s.keptF := by simp [timeSlew]
@[simp] theorem timeStep_keptF (c : LiveCmd) (s : State)  : (timeStep c s).keptF = s.keptF := by
  unfold timeStep
  (try dsimp only)
  (repeat' split)
  all_goals (try simp)

@[simp] theorem timeSourceSet_keptF (c : LiveCmd) (s : State)  : (timeSourceSet c s).keptF = s.keptF := by
  unfold timeSourceSet
  (try dsimp only)
  (repeat' split)
  all_goals (try simp)

@[simp] theorem ptpMeasure_keptF (t21 : Int) (s : State)  : (ptpMeasure t21 s).keptF = s.keptF := by
  unfold ptpMeasure
  (try dsimp only)
  (repeat' split)
  all_goals (try simp)

@[simp] theorem ptpSync_keptF (m : PtpSync) (s : State)  : (ptpSync m s).keptF = s.keptF := by simp [ptpSync]
@[simp] theorem ptpFollowUp_keptF (m : PtpFollow) (s : State)  : (ptpFollowUp m s).keptF = s.keptF := by
  unfold ptpFollowUp
  (try dsimp only)
  (repeat' split)
  all_goals (try simp)

@[simp] theorem chooseParent_keptF (s : State)  : (chooseParent s).keptF = s.keptF := by
  unfold chooseParent
  (try dsimp only)
  (repeat' split)
  all_goals (try simp)

@[simp] theorem ptpAnnounce_keptF (m : PtpAnn) (s : State)  : (ptpAnnounce m s).keptF = s.keptF := by simp [ptpAnnounce]
@[simp] theorem ptpDelayResp_keptF (m : PtpResp) (s : State)  : (ptpDelayResp m s).keptF = s.keptF := by
  unfold ptpDelayResp
  (try dsimp only)
  (repeat' split)
  all_goals (try simp)

@[simp] theorem delayReqTimer_keptF (s : State)  : (delayReqTimer s).keptF = s.keptF := by simp [delayReqTimer]
@[simp] theorem announceTimeout_keptF (s : State)  : (announceTimeout s).keptF = s.keptF := by
  unfold announceTimeout
  (try dsimp only)
  (repeat' split)
  all_goals (try simp)

@[simp] theorem gnssMeasure_keptF (ref : Int) (s : State)  : (gnssMeasure ref s).keptF = s.keptF := by simp [gnssMeasure]
@[simp] theorem ppsInEdge_keptF (s : State)  : (ppsInEdge s).keptF = s.keptF := by
  unfold ppsInEdge
  (try dsimp only)
  (repeat' split)
  all_goals (try simp)

@[simp] theorem nmeaSentence_keptF (text : Bytes) (s : State)  : (nmeaSentence text s).keptF = s.keptF := by
  unfold nmeaSentence
  (try dsimp only)
  (repeat' split)
  all_goals (try simp)

@[simp] theorem rtcAlarmSet_keptF (c : LiveCmd) (s : State)  : (rtcAlarmSet c s).keptF = s.keptF := by
  unfold rtcAlarmSet
  (try dsimp only)
  (repeat' split)
  all_goals (try simp)

@[simp] theorem rtcSet_keptF (utc : Nat) (s : State)  : (rtcSet utc s).keptF = s.keptF := by simp [rtcSet]
@[simp] theorem calendarConvert_keptF (c : LiveCmd) (s : State)  : (calendarConvert c s).keptF = s.keptF := by simp [calendarConvert]
@[simp] theorem checkTableShort_keptF (s : State)  : (checkTableShort s).keptF = s.keptF := by simp [checkTableShort]
@[simp] theorem localTimeTableLoad_keptF (c : LiveCmd) (s : State)  : (localTimeTableLoad c s).keptF = s.keptF := by
  unfold localTimeTableLoad
  (try dsimp only)
  (repeat' split)
  all_goals (try simp)

@[simp] theorem fallbackTableLoad_keptF (c : LiveCmd) (s : State)  : (fallbackTableLoad c s).keptF = s.keptF := by
  unfold fallbackTableLoad
  (try dsimp only)
  (repeat' split)
  all_goals (try simp)

@[simp] theorem discipline_keptF (s : State)  : (discipline s).keptF = s.keptF := by simp [discipline]
@[simp] theorem learnSecond_keptF (s : State)  : (learnSecond s).keptF = s.keptF := by simp [learnSecond]
@[simp] theorem extendPins_keptF (s : State)  : (extendPins s).keptF = s.keptF := by simp [extendPins]
@[simp] theorem ppsSecond_keptF (s : State)  : (ppsSecond s).keptF = s.keptF := by simp [ppsSecond]
@[simp] theorem wholeSecond_keptF (s : State)  : (wholeSecond s).keptF = s.keptF := by simp [wholeSecond]
@[simp] theorem leapSecond_keptF (s : State)  : (leapSecond s).keptF = s.keptF := by
  unfold leapSecond
  (try dsimp only)
  (repeat' split)
  all_goals (try simp)

@[simp] theorem firmwareMinute_keptF (k : Nat) (tbl : Bytes) (s : State)  : (firmwareMinute k tbl s).keptF = s.keptF := by
  unfold firmwareMinute
  (try dsimp only)
  (repeat' split)
  all_goals (try simp)

@[simp] theorem fallbackMinute_keptF (s : State)  : (fallbackMinute s).keptF = s.keptF := by
  unfold fallbackMinute
  (try dsimp only)
  (repeat' split)
  all_goals (try simp)

@[simp] theorem echo_keptF (c : LiveCmd) (s : State)  : (echo c s).keptF = s.keptF := by simp [echo]
@[simp] theorem deviceInfo_keptF (c : LiveCmd) (s : State)  : (deviceInfo c s).keptF = s.keptF := by simp [deviceInfo]
@[simp] theorem awaitReset_keptF (c : LiveCmd) (type source : Nat) (s : State)  : (awaitReset c type source s).keptF = s.keptF := by simp [awaitReset]
@[simp] theorem resetCmd_keptF (c : LiveCmd) (s : State)  : (resetCmd c s).keptF = s.keptF := by
  unfold resetCmd
  (try dsimp only)
  (repeat' split)
  all_goals (try simp)

@[simp] theorem fence_keptF (c : LiveCmd) (s : State)  : (fence c s).keptF = s.keptF := by simp [fence]
@[simp] theorem writeOne_keptF (id v : Nat) (s : State)  : (writeOne id v s).keptF = s.keptF := by
  unfold writeOne
  (try dsimp only)
  (repeat' split)
  all_goals (try simp)

@[simp] theorem writeSettings_keptF (es : List (Nat × Nat)) (s : State)  : (writeSettings es s).keptF = s.keptF := by simp [writeSettings]
@[simp] theorem noteLocked_keptF (st : Nat) (s : State)  : (noteLocked st s).keptF = s.keptF := by simp [noteLocked]
@[simp] theorem settingRead_keptF (c : LiveCmd) (s : State)  : (settingRead c s).keptF = s.keptF := by
  unfold settingRead
  (try dsimp only)
  (repeat' split)
  all_goals (try simp)

@[simp] theorem settingWrite_keptF (c : LiveCmd) (s : State)  : (settingWrite c s).keptF = s.keptF := by
  unfold settingWrite
  (try dsimp only)
  (repeat' split)
  all_goals (try simp)

@[simp] theorem commitBlock_keptF (c : LiveCmd) (block : Nat) (s : State)  : (commitBlock c block s).keptF = s.keptF := by simp [commitBlock]
@[simp] theorem settingCommit_keptF (c : LiveCmd) (s : State)  : (settingCommit c s).keptF = s.keptF := by simp [settingCommit]
@[simp] theorem writeAndCommit_keptF (c : LiveCmd) (es : List (Nat × Nat)) (block : Nat) (s : State)  : (writeAndCommit c es block s).keptF = s.keptF := by
  unfold writeAndCommit
  (try dsimp only)
  (repeat' split)
  all_goals (try simp)

@[simp] theorem closeTransport_keptF (t : Transport) (s : State)  : (closeTransport t s).keptF = s.keptF := by
  unfold closeTransport
  (try dsimp only)
  (repeat' split)
  all_goals (try simp)

@[simp] theorem grantSession_keptF (c : LiveCmd) (n role baud : Nat) (keylessProc : Bool) (s : State)  : (grantSession c n role baud keylessProc s).keptF = s.keptF := by simp [grantSession]
@[simp] theorem refuseOpen_keptF (c : LiveCmd) (st d : Nat) (s : State)  : (refuseOpen c st d s).keptF = s.keptF := by simp [refuseOpen]
@[simp] theorem openPhase1_keptF (c : LiveCmd) (role baud : Nat) (s : State)  : (openPhase1 c role baud s).keptF = s.keptF := by
  unfold openPhase1
  (try dsimp only)
  (repeat' split)
  all_goals (try simp)

@[simp] theorem openPhase2_keptF (c : LiveCmd) (role baud : Nat) (q : Option OpenChal) (s : State)  : (openPhase2 c role baud q s).keptF = s.keptF := by
  unfold openPhase2
  (try dsimp only)
  (repeat' split)
  all_goals (try simp)

@[simp] theorem sessionOpen_keptF (c : LiveCmd) (s : State)  : (sessionOpen c s).keptF = s.keptF := by simp [sessionOpen]
@[simp] theorem queueConfig_keptF (c : LiveCmd) (s : State)  : (queueConfig c s).keptF = s.keptF := by simp [queueConfig]
@[simp] theorem queueStatus_keptF (c : LiveCmd) (s : State)  : (queueStatus c s).keptF = s.keptF := by simp [queueStatus]
@[simp] theorem faultStatus_keptF (c : LiveCmd) (s : State)  : (faultStatus c s).keptF = s.keptF := by simp [faultStatus]
@[simp] theorem ackReply_keptF (c : LiveCmd) (s : State)  : (ackReply c s).keptF = s.keptF := by simp [ackReply]
@[simp] theorem faultAck_keptF (c : LiveCmd) (s : State)  : (faultAck c s).keptF = s.keptF := by simp [faultAck]
@[simp] theorem eventRead_keptF (c : LiveCmd) (s : State)  : (eventRead c s).keptF = s.keptF := by simp [eventRead]
@[simp] theorem clearPhase1_keptF (c : LiveCmd) (s : State)  : (clearPhase1 c s).keptF = s.keptF := by simp [clearPhase1]
@[simp] theorem clearLog_keptF (q : SidChal) (c : LiveCmd) (s : State)  : (clearLog q c s).keptF = s.keptF := by simp [clearLog]
@[simp] theorem clearPhase2_keptF (c : LiveCmd) (s : State)  : (clearPhase2 c s).keptF = s.keptF := by
  unfold clearPhase2
  (try dsimp only)
  (repeat' split)
  all_goals (try simp)

@[simp] theorem eventClear_keptF (c : LiveCmd) (s : State)  : (eventClear c s).keptF = s.keptF := by simp [eventClear]
@[simp] theorem setRate_keptF (code burst refill : Nat) (s : State)  : (setRate code burst refill s).keptF = s.keptF := by simp [setRate]
@[simp] theorem eventRateSet_keptF (c : LiveCmd) (s : State)  : (eventRateSet c s).keptF = s.keptF := by simp [eventRateSet]
@[simp] theorem faultInject_keptF (c : LiveCmd) (s : State)  : (faultInject c s).keptF = s.keptF := by
  unfold faultInject
  (try dsimp only)
  (repeat' split)
  all_goals (try simp)

@[simp] theorem noteInfo_keptF (source : Nat) (info : Bytes) (s : State)  : (noteInfo source info s).keptF = s.keptF := by simp [noteInfo]
@[simp] theorem detectFault_keptF (source cls : Nat) (info : Bytes) (s : State)  : (detectFault source cls info s).keptF = s.keptF := by
  unfold detectFault
  (try dsimp only)
  (repeat' split)
  all_goals (try simp)

@[simp] theorem rearmWatchdog_keptF (core : Nat) (s : State)  : (rearmWatchdog core s).keptF = s.keptF := by simp [rearmWatchdog]
@[simp] theorem copyPage_keptF (s : State)  : (copyPage s).keptF = s.keptF := by simp [copyPage]
@[simp] theorem installKey_keptF (c : LiveCmd) (k : KeyLoad) (key : Bytes) (s : State)  : (installKey c k key s).keptF = s.keptF := by simp [installKey]
@[simp] theorem loadUnder_keptF (c : LiveCmd) (k : KeyLoad) (kek : Option Bytes) (s : State)  : (loadUnder c k kek s).keptF = s.keptF := by
  unfold loadUnder
  (try dsimp only)
  (repeat' split)
  all_goals (try simp)

@[simp] theorem keyLoad_keptF (c : LiveCmd) (s : State)  : (keyLoad c s).keptF = s.keptF := by
  unfold keyLoad
  (try dsimp only)
  (repeat' split)
  all_goals (try simp)

@[simp] theorem keyRetire_keptF (c : LiveCmd) (s : State)  : (keyRetire c s).keptF = s.keptF := by simp [keyRetire]
@[simp] theorem useStore_keptF (c : StoreCopy) (s : State)  : (useStore c s).keptF = s.keptF := by simp [useStore]
@[simp] theorem tamperPolicySet_keptF (c : LiveCmd) (s : State)  : (tamperPolicySet c s).keptF = s.keptF := by simp [tamperPolicySet]
@[simp] theorem unlockPhase1_keptF (c : LiveCmd) (s : State)  : (unlockPhase1 c s).keptF = s.keptF := by simp [unlockPhase1]
@[simp] theorem unlockPhase2_keptF (c : LiveCmd) (s : State)  : (unlockPhase2 c s).keptF = s.keptF := by
  unfold unlockPhase2
  (try dsimp only)
  (repeat' split)
  all_goals (try simp)

@[simp] theorem debugUnlock_keptF (c : LiveCmd) (s : State)  : (debugUnlock c s).keptF = s.keptF := by simp [debugUnlock]
@[simp] theorem securityStatus_keptF (c : LiveCmd) (s : State)  : (securityStatus c s).keptF = s.keptF := by simp [securityStatus]
@[simp] theorem senseTamper_keptF (source : Nat) (s : State)  : (senseTamper source s).keptF = s.keptF := by simp [senseTamper]
@[simp] theorem guardOff_keptF (s : State)  : (guardOff s).keptF = s.keptF := by simp [guardOff]
@[simp] theorem modPort_keptF (k : Nat) (f : Port → Port) (s : State)  : (modPort k f s).keptF = s.keptF := by simp [modPort]
@[simp] theorem runOne_keptF (k id ch : Nat) (frame miso : Bytes) (s : State)  : (runOne k id ch frame miso s).1.keptF = s.keptF := by simp [runOne]
@[simp] theorem runSeqs_keptF (k ch : Nat) (frame : Bytes) (y0 : List Nat) (y1 : Bytes) (s : State)  : (runSeqs k ch frame y0 y1 s).1.keptF = s.keptF := by
  induction y0 generalizing y1 s with
  | nil => rfl
  | cons id l ih =>
    unfold runSeqs
    split
    · rfl
    · dsimp only
      split <;> simp [ih]

@[simp] theorem moveLanterns_keptF (k : Nat) (s : State)  : (moveLanterns k s).keptF = s.keptF := by simp [moveLanterns]
@[simp] theorem pulseInit_keptF (k : Nat) (miso : Bytes) (s : State)  : (pulseInit k miso s).1.keptF = s.keptF := by simp [pulseInit]
@[simp] theorem stoneNetwork_keptF (phase : Nat) (s : State)  : (stoneNetwork phase s).keptF = s.keptF := by simp [stoneNetwork]
@[simp] theorem useCounter_keptF (idx : Nat) (s : State)  : (useCounter idx s).keptF = s.keptF := by simp [useCounter]
@[simp] theorem launch_keptF (k ch start : Nat) (psdu : Bytes) (s : State)  : (launch k ch start psdu s).keptF = s.keptF := by simp [launch]

theorem suppressed_resF {k ch f : Nat} {p : Bytes} {s t : State} (e : suppressed k ch f p s = some t) : t.keptF = s.keptF := by
  unfold suppressed at e
  dsimp only at e
  split at e
  · cases e; simp
  · cases e

@[simp] theorem checkAdrift_keptF (n : Nat) (s : State)  : (checkAdrift n s).keptF = s.keptF := by
  unfold checkAdrift
  (try dsimp only)
  (repeat' split)
  all_goals (try simp)

@[simp] theorem modTxn_keptF (id : Nat) (f : Txn → Txn) (s : State)  : (modTxn id f s).keptF = s.keptF := by simp [modTxn]
@[simp] theorem takeTxn_keptF (t : Txn) (s : State)  : (takeTxn t s).keptF = s.keptF := by simp [takeTxn]
@[simp] theorem backOff_keptF (k : Nat) (s : State)  : (backOff k s).keptF = s.keptF := by simp [backOff]
@[simp] theorem endAttempt_keptF (a : Attempt) (ok : Bool) (s : State)  : (endAttempt a ok s).keptF = s.keptF := by
  unfold endAttempt
  (try dsimp only)
  (repeat' split)
  all_goals (try simp)

@[simp] theorem beginAttempt_keptF (a : Attempt) (s : State)  : (beginAttempt a s).keptF = s.keptF := by
  unfold beginAttempt
  (try dsimp only)
  (repeat' split)
  all_goals (try simp)

@[simp] theorem echoResult_keptF (k asn outcome : Nat) (s : State)  : (echoResult k asn outcome s).keptF = s.keptF := by simp [echoResult]
@[simp] theorem lostAttempt_keptF (a : Attempt) (s : State)  : (lostAttempt a s).keptF = s.keptF := by simp [lostAttempt]
@[simp] theorem failAttempts_keptF (k : Nat) (s : State)  : (failAttempts k s).keptF = s.keptF := by simp [failAttempts]
@[simp] theorem resetPorts_keptF (k : Nat) (y0 : Nat) (y1 : Bytes) (s : State)  : (resetPorts k y0 y1 s).keptF = s.keptF := by
  induction y0 generalizing y1 s with
  | zero => rfl
  | succ k ih => unfold resetPorts; dsimp only; (repeat' split) <;> simp [ih]

@[simp] theorem resetPort_keptF (k : Nat) (miso : Bytes) (s : State)  : (resetPort k miso s).keptF = s.keptF := by simp [resetPort]
@[simp] theorem transmitAt_keptF (k ch start : Nat) (late : Bool) (miso psdu : Bytes) (s : State)  : (transmitAt k ch start late miso psdu s).1.keptF = s.keptF := by
  unfold transmitAt
  (try dsimp only)
  (repeat' split)
  all_goals first | rfl | (simp; done) | (have k := suppressed_resF (by assumption); simp [k])

theorem transmitAt_resF {k ch st : Nat} {l : Bool} {m p : Bytes} {u t : State} {r : TxRes} (e : transmitAt k ch st l m p u = (t, r)) : t.keptF = u.keptF := by
  have k := transmitAt_keptF k ch st l m p u
  rw [e] at k
  exact k

@[simp] theorem transmit_keptF (c : Cell) (psdu : Bytes) (s : State)  : (transmit c psdu s).1.keptF = s.keptF := by
  unfold transmit
  simp

theorem transmit_resF {c : Cell} {p : Bytes} {u t : State} {r : TxRes} (e : transmit c p u = (t, r)) : t.keptF = u.keptF := by
  have k := transmit_keptF c p u
  rw [e] at k
  exact k

@[simp] theorem listenAt_keptF (k ch start guard asn : Nat) (kind : CellKind) (miso : Bytes) (s : State)  : (listenAt k ch start guard asn kind miso s).keptF = s.keptF := by simp [listenAt]
@[simp] theorem listen_keptF (c : Cell) (s : State)  : (listen c s).keptF = s.keptF := by simp [listen]
@[simp] theorem echoFeed_keptF (k asn : Nat) (kind : CellKind) (plain : Bytes) (s : State)  : (echoFeed k asn kind plain s).keptF = s.keptF := by simp [echoFeed]
@[simp] theorem feedEcho_keptF (k asn : Nat) (kind : CellKind) (plain : Bytes) (s : State)  : (feedEcho k asn kind plain s).keptF = s.keptF := by simp [feedEcho]
@[simp] theorem sendUnicast_keptF (c : Cell) (s : State)  : (sendUnicast c s).keptF = s.keptF := by
  unfold sendUnicast
  (try dsimp only)
  (repeat' split)
  all_goals first | rfl | (have k := transmit_resF ‹transmit _ _ _ = _›; simp [k]; done) | simp

@[simp] theorem addSeen_keptF (origin seq : Nat) (s : State)  : (addSeen origin seq s).keptF = s.keptF := by simp [addSeen]
@[simp] theorem floodSent_keptF (f : Flood) (seq asn : Nat) (s : State)  : (floodSent f seq asn s).keptF = s.keptF := by
  unfold floodSent
  (try dsimp only)
  (repeat' split)
  all_goals (try simp)

@[simp] theorem originate_keptF (c : Cell) (s : State)  : (originate c s).keptF = s.keptF := by
  unfold originate
  (try dsimp only)
  (repeat' split)
  all_goals first | rfl | (have k := transmit_resF ‹transmit _ _ _ = _›; simp [k]; done) | simp

@[simp] theorem dropFeed_keptF (f : Nat × Nat × Nat × Bytes) (s : State)  : (dropFeed f s).keptF = s.keptF := by simp [dropFeed]
@[simp] theorem echoCell_keptF (c : Cell) (s : State)  : (echoCell c s).keptF = s.keptF := by
  unfold echoCell
  (try dsimp only)
  (repeat' split)
  all_goals first | rfl | (have k := transmit_resF ‹transmit _ _ _ = _›; simp [k]; done) | simp

@[simp] theorem standbyBeacon_keptF (c : Cell) (s : State)  : (standbyBeacon c s).keptF = s.keptF := by
  unfold standbyBeacon
  (try dsimp only)
  (repeat' split)
  all_goals (try simp)

@[simp] theorem sendJoin_keptF (c : Cell) (s : State)  : (sendJoin c s).keptF = s.keptF := by
  unfold sendJoin
  (try dsimp only)
  (repeat' split)
  all_goals first | rfl | (have k := transmit_resF ‹transmit _ _ _ = _›; simp [k]; done) | simp

@[simp] theorem sharedCell_keptF (c : Cell) (s : State)  : (sharedCell c s).keptF = s.keptF := by simp [sharedCell]
@[simp] theorem staleAttempts_keptF (k : Nat) (s : State)  : (staleAttempts k s).keptF = s.keptF := by simp [staleAttempts]
@[simp] theorem rendezvousCell_keptF (c : Cell) (s : State)  : (rendezvousCell c s).keptF = s.keptF := by
  unfold rendezvousCell
  (try dsimp only)
  (repeat' split)
  all_goals (try simp)

@[simp] theorem floodCellOf_keptF (c : Cell) (s : State)  : (floodCellOf c s).keptF = s.keptF := by
  unfold floodCellOf
  (try dsimp only)
  (repeat' split)
  all_goals (try simp)

@[simp] theorem cellStart_keptF (c : Cell) (s : State)  : (cellStart c s).keptF = s.keptF := by
  unfold cellStart
  (try dsimp only)
  (repeat' split)
  all_goals (try simp)

@[simp] theorem spanCell_keptF (c : Cell) (s : State)  : (spanCell c s).keptF = s.keptF := by
  unfold spanCell
  (try dsimp only)
  (repeat' split)
  all_goals (try simp)

@[simp] theorem acceptCounter_keptF (key ctr : Nat) (s : State)  : (acceptCounter key ctr s).keptF = s.keptF := by simp [acceptCounter]
@[simp] theorem securityDrop_keptF (s : State)  : (securityDrop s).keptF = s.keptF := by simp [securityDrop]
@[simp] theorem acked_keptF (a : Attempt) (nack : Bool) (s : State)  : (acked a nack s).keptF = s.keptF := by simp [acked]
@[simp] theorem enhancedAck_keptF (a : Attempt) (p : Bytes) (s : State)  : (enhancedAck a p s).keptF = s.keptF := by
  unfold enhancedAck
  (try dsimp only)
  (repeat' split)
  all_goals (try simp)

@[simp] theorem sendAck_keptF (k start idx : Nat) (psdu miso : Bytes) (use : Nat → State → State) (s : State) (huse : ∀ x0 u, (use x0 u).keptF = u.keptF) : (sendAck k start idx psdu miso use s).keptF = s.keptF := by
  unfold sendAck
  split
  · rename_i k
    exact suppressed_resF k
  · dsimp only
    split <;> simp [huse]

@[simp] theorem ackEngine_keptF (f : RxFrame) (miso : Bytes) (s : State)  : (ackEngine f miso s).keptF = s.keptF := by
  unfold ackEngine
  (try dsimp only)
  (repeat' split)
  all_goals first | rfl | (simp; done) | (have k := suppressed_resF (by assumption); simp [k])

@[simp] theorem respond_keptF (n seq status retries : Nat) (s : State)  : (respond n seq status retries s).keptF = s.keptF := by simp [respond]
@[simp] theorem deliver_keptF (k src : Nat) (m : Bytes) (at_ : Nat) (s : State)  : (deliver k src m at_ s).keptF = s.keptF := by
  unfold deliver
  (try dsimp only)
  (repeat' split)
  all_goals (try simp)

@[simp] theorem forwardMsg_keptF (m : Bytes) (s : State)  : (forwardMsg m s).keptF = s.keptF := by
  unfold forwardMsg
  (try dsimp only)
  (repeat' split)
  all_goals (try simp)

@[simp] theorem message_keptF (k src : Nat) (m : Bytes) (at_ : Nat) (s : State)  : (message k src m at_ s).keptF = s.keptF := by simp [message]
@[simp] theorem linkFragment_keptF (k src : Nat) (body : Bytes) (at_ : Nat) (s : State)  : (linkFragment k src body at_ s).keptF = s.keptF := by
  unfold linkFragment
  (try dsimp only)
  (repeat' split)
  all_goals (try simp)

@[simp] theorem filterDrop_keptF (s : State)  : (filterDrop s).keptF = s.keptF := by simp [filterDrop]
@[simp] theorem rxData_keptF (f : RxFrame) (miso : Bytes) (s : State)  : (rxData f miso s).keptF = s.keptF := by
  unfold rxData
  (try dsimp only)
  (repeat' split)
  all_goals (try simp)

@[simp] theorem keepBeacon_keptF (f : RxFrame) (body : Bytes) (s : State)  : (keepBeacon f body s).keptF = s.keptF := by simp [keepBeacon]
@[simp] theorem rxBeacon_keptF (f : RxFrame) (s : State)  : (rxBeacon f s).keptF = s.keptF := by
  unfold rxBeacon
  (try dsimp only)
  (repeat' split)
  all_goals (try simp)

@[simp] theorem rxJoin_keptF (f : RxFrame) (s : State)  : (rxJoin f s).keptF = s.keptF := by simp [rxJoin]
@[simp] theorem rxFlood_keptF (f : RxFrame) (s : State)  : (rxFlood f s).keptF = s.keptF := by
  unfold rxFlood
  (try dsimp only)
  (repeat' split)
  all_goals (try simp)

@[simp] theorem receiveFrame_keptF (f : RxFrame) (miso : Bytes) (s : State)  : (receiveFrame f miso s).keptF = s.keptF := by simp [receiveFrame]
@[simp] theorem modAnnex_keptF (f : AnnexSt → AnnexSt) (s : State)  : (modAnnex f s).keptF = s.keptF := by simp [modAnnex]
@[simp] theorem modNet_keptF (f : AnnexNet → AnnexNet) (s : State)  : (modNet f s).keptF = s.keptF := by simp [modNet]
@[simp] theorem useAnnexCounter_keptF (idx : Nat) (s : State)  : (useAnnexCounter idx s).keptF = s.keptF := by simp [useAnnexCounter]
@[simp] theorem annexKeyAt_keptF (idx : Nat) (key : Bytes) (s : State)  : (annexKeyAt idx key s).keptF = s.keptF := by simp [annexKeyAt]
@[simp] theorem nextMacSeq_keptF (s : State)  : (nextMacSeq s).keptF = s.keptF := by simp [nextMacSeq]
@[simp] theorem annexQueue_keptF (dst expiry : Nat) (resync : Bool) (m : Bytes) (s : State)  : (annexQueue dst expiry resync m s).keptF = s.keptF := by simp [annexQueue]
@[simp] theorem annexSend_keptF (type : Nat) (confirmed resync : Bool) (payload : Bytes) (s : State)  : (annexSend type confirmed resync payload s).keptF = s.keptF := by
  unfold annexSend
  (try dsimp only)
  (repeat' split)
  all_goals (try simp)

@[simp] theorem annexReportTo_keptF (n : AnnexNet) (type life : Nat) (payload : Bytes) (s : State)  : (annexReportTo n type life payload s).keptF = s.keptF := by
  unfold annexReportTo
  (try dsimp only)
  (repeat' split)
  all_goals (try simp)

@[simp] theorem annexRespond_keptF (seq retries status : Nat) (data : Bytes) (s : State)  : (annexRespond seq retries status data s).keptF = s.keptF := by simp [annexRespond]
@[simp] theorem annexContact_keptF (src at_ : Nat) (s : State)  : (annexContact src at_ s).keptF = s.keptF := by simp [annexContact]
@[simp] theorem annexReport_keptF (s : State)  : (annexReport s).keptF = s.keptF := by
  unfold annexReport
  (try dsimp only)
  (repeat' split)
  all_goals (try simp)

@[simp] theorem annexChoose_keptF (p : AnnexCand → Bool) (s : State)  : (annexChoose p s).keptF = s.keptF := by simp [annexChoose]
@[simp] theorem annexScan_keptF (s : State)  : (annexScan s).keptF = s.keptF := by simp [annexScan]
@[simp] theorem annexJoinFrames_keptF (s0 : State) (dst last : Nat) (y0 : List Bytes) (y1 : Nat) (s : State)  : (annexJoinFrames s0 dst last y0 y1 s).1.keptF = s.keptF := by
  induction y0 generalizing y1 s with
  | nil => rfl
  | cons b l ih => unfold annexJoinFrames; simp [ih]

@[simp] theorem annexRequest_keptF (p : AnnexCand) (s : State)  : (annexRequest p s).keptF = s.keptF := by simp [annexRequest]
@[simp] theorem annexJoining_keptF (p : AnnexCand) (s : State)  : (annexJoining p s).keptF = s.keptF := by simp [annexJoining]
@[simp] theorem annexLeave_keptF (s : State)  : (annexLeave s).keptF = s.keptF := by simp [annexLeave]
@[simp] theorem annexKids_keptF (p : AnnexCand) (n : AnnexNet) (s : State)  : (annexKids p n s).keptF = s.keptF := by simp [annexKids]
@[simp] theorem annexMissed_keptF (asn : Nat) (n : AnnexNet) (s : State)  : (annexMissed asn n s).keptF = s.keptF := by simp [annexMissed]
@[simp] theorem annexEnergy_keptF (asn : Nat) (n : AnnexNet) (s : State)  : (annexEnergy asn n s).keptF = s.keptF := by simp [annexEnergy]
@[simp] theorem annexGone_keptF (s : State)  : (annexGone s).keptF = s.keptF := by simp [annexGone]
@[simp] theorem annexSecond_keptF (s : State)  : (annexSecond s).keptF = s.keptF := by
  unfold annexSecond
  (try dsimp only)
  (repeat' split)
  all_goals (try simp)

@[simp] theorem endAnnex_keptF (ok : Bool) (s : State)  : (endAnnex ok s).keptF = s.keptF := by
  unfold endAnnex
  (try dsimp only)
  (repeat' split)
  all_goals (try simp)

@[simp] theorem annexTransmit_keptF (c : Cell) (p : AnnexCand) (asn ch : Nat) (psdu : Bytes) (s : State)  : (annexTransmit c p asn ch psdu s).1.keptF = s.keptF := by
  unfold annexTransmit
  simp

theorem annexTransmit_resF {c : Cell} {a : AnnexCand} {n ch : Nat} {p : Bytes} {u t : State} {r : TxRes}
    (e : annexTransmit c a n ch p u = (t, r)) : t.keptF = u.keptF := by
  have k := annexTransmit_keptF c a n ch p u
  rw [e] at k
  exact k

@[simp] theorem annexAttempt_keptF (c : Cell) (p : AnnexCand) (asn ch : Nat) (pick : AnnexTx → Bool) (s : State)  : (annexAttempt c p asn ch pick s).keptF = s.keptF := by
  unfold annexAttempt
  (try dsimp only)
  (repeat' split)
  all_goals first | rfl | (simp; done) | (have k := annexTransmit_resF (by assumption); simp [k]; done)

@[simp] theorem annexListen_keptF (c : Cell) (start guard asn ch : Nat) (s : State)  : (annexListen c start guard asn ch s).keptF = s.keptF := by simp [annexListen]
@[simp] theorem annexHear_keptF (c : Cell) (p : AnnexCand) (asn ch : Nat) (s : State)  : (annexHear c p asn ch s).keptF = s.keptF := by simp [annexHear]
@[simp] theorem annexFlood_keptF (c : Cell) (p : AnnexCand) (asn ch : Nat) (s : State)  : (annexFlood c p asn ch s).keptF = s.keptF := by
  unfold annexFlood
  (try dsimp only)
  (repeat' split)
  all_goals (try simp)

@[simp] theorem annexJoinCell_keptF (c : Cell) (p : AnnexCand) (asn ch : Nat) (s : State)  : (annexJoinCell c p asn ch s).keptF = s.keptF := by
  unfold annexJoinCell
  (try dsimp only)
  (repeat' split)
  all_goals first | rfl | (simp; done) | (have k := annexTransmit_resF (by assumption); simp [k]; done)

@[simp] theorem annexShared_keptF (c : Cell) (p : AnnexCand) (asn ch : Nat) (s : State)  : (annexShared c p asn ch s).keptF = s.keptF := by simp [annexShared]
@[simp] theorem annexDedicated_keptF (c : Cell) (p : AnnexCand) (n : AnnexNet) (asn ch : Nat) (s : State)  : (annexDedicated c p n asn ch s).keptF = s.keptF := by simp [annexDedicated]
@[simp] theorem annexBeaconCell_keptF (c : Cell) (p : AnnexCand) (asn ch : Nat) (s : State)  : (annexBeaconCell c p asn ch s).keptF = s.keptF := by
  unfold annexBeaconCell
  (try dsimp only)
  (repeat' split)
  all_goals first | rfl | (simp; done) | (have k := annexTransmit_resF (by assumption); simp [k]; done)

@[simp] theorem annexRendezvous_keptF (c : Cell) (p : AnnexCand) (n : AnnexNet) (asn : Nat) (s : State)  : (annexRendezvous c p n asn s).keptF = s.keptF := by simp [annexRendezvous]
@[simp] theorem annexRun_keptF (c : Cell) (p : AnnexCand) (asn : Nat) (s : State)  : (annexRun c p asn s).keptF = s.keptF := by
  unfold annexRun
  (try dsimp only)
  (repeat' split)
  all_goals (try simp)

@[simp] theorem annexCell_keptF (c : Cell) (s : State)  : (annexCell c s).keptF = s.keptF := by
  unfold annexCell
  (try dsimp only)
  (repeat' split)
  all_goals (try simp)

@[simp] theorem annexAccept_keptF (key ctr : Nat) (s : State)  : (annexAccept key ctr s).keptF = s.keptF := by simp [annexAccept]
@[simp] theorem annexInstall_keptF (m : Bytes) (s : State)  : (annexInstall m s).keptF = s.keptF := by simp [annexInstall]
@[simp] theorem annexJoined_keptF (m : Bytes) (s : State)  : (annexJoined m s).keptF = s.keptF := by
  unfold annexJoined
  (try dsimp only)
  (repeat' split)
  all_goals (try simp)

@[simp] theorem annexResponse_keptF (f : RxFrame) (s : State)  : (annexResponse f s).keptF = s.keptF := by
  unfold annexResponse
  (try dsimp only)
  (repeat' split)
  all_goals (try simp)

@[simp] theorem annexAct_keptF (at_ : Nat) (m : Bytes) (s : State)  : (annexAct at_ m s).1.keptF = s.keptF := by
  unfold annexAct
  simp [apply_ite Prod.fst]

theorem annexAct_resF {a : Nat} {m : Bytes} {u t : State} {r : Option Nat} (e : annexAct a m u = (t, r)) : t.keptF = u.keptF := by
  have k := annexAct_keptF a m u
  rw [e] at k
  exact k

@[simp] theorem annexDeliver_keptF (at_ : Nat) (m : Bytes) (s : State)  : (annexDeliver at_ m s).keptF = s.keptF := by
  unfold annexDeliver
  (try dsimp only)
  (repeat' split)
  all_goals first | rfl | (simp; done) | ((try simp); have k := annexAct_resF (by assumption); exact k.trans (by simp))

@[simp] theorem annexForward_keptF (m : Bytes) (s : State)  : (annexForward m s).keptF = s.keptF := by
  unfold annexForward
  (try dsimp only)
  (repeat' split)
  all_goals (try simp)

@[simp] theorem annexAck_keptF (f : RxFrame) (miso : Bytes) (p : AnnexCand) (n : AnnexNet) (s : State)  : (annexAck f miso p n s).keptF = s.keptF := by
  unfold annexAck
  (try dsimp only)
  (repeat' split)
  all_goals first | rfl | (simp; done) | (have k := suppressed_resF (by assumption); simp [k]; done)

@[simp] theorem annexDeviation_keptF (x : Int) (s : State)  : (annexDeviation x s).keptF = s.keptF := by simp [annexDeviation]
@[simp] theorem annexOverhear_keptF (m : Bytes) (s : State)  : (annexOverhear m s).keptF = s.keptF := by simp [annexOverhear]
@[simp] theorem annexData_keptF (f : RxFrame) (miso : Bytes) (s : State)  : (annexData f miso s).keptF = s.keptF := by
  unfold annexData
  (try dsimp only)
  (repeat' split)
  all_goals (try simp)

@[simp] theorem annexRxBeacon_keptF (f : RxFrame) (s : State)  : (annexRxBeacon f s).keptF = s.keptF := by
  unfold annexRxBeacon
  (try dsimp only)
  (repeat' split)
  all_goals (try simp)

@[simp] theorem annexProxy_keptF (f : RxFrame) (s : State)  : (annexProxy f s).keptF = s.keptF := by
  unfold annexProxy
  (try dsimp only)
  (repeat' split)
  all_goals (try simp)

@[simp] theorem annexRxFlood_keptF (f : RxFrame) (s : State)  : (annexRxFlood f s).keptF = s.keptF := by
  unfold annexRxFlood
  (try dsimp only)
  (repeat' split)
  all_goals (try simp)

@[simp] theorem annexFrame_keptF (f : RxFrame) (miso : Bytes) (s : State)  : (annexFrame f miso s).keptF = s.keptF := by simp [annexFrame]
@[simp] theorem annexEnhancedAck_keptF (p : Bytes) (s : State)  : (annexEnhancedAck p s).keptF = s.keptF := by
  unfold annexEnhancedAck
  (try dsimp only)
  (repeat' split)
  all_goals (try simp)

@[simp] theorem keepFrame_keptF (port at_ : Nat) (psdu : Bytes) (s : State)  : (keepFrame port at_ psdu s).keptF = s.keptF := by
  unfold keepFrame
  (try dsimp only)
  (repeat' split)
  all_goals (try simp)

@[simp] theorem correctBeacon_keptF (port at_ : Nat) (s : State)  : (correctBeacon port at_ s).keptF = s.keptF := by simp [correctBeacon]
@[simp] theorem resetAny_keptF (port : Nat) (miso : Bytes) (s : State)  : (resetAny port miso s).keptF = s.keptF := by simp [resetAny]
@[simp] theorem serveIrq_keptF (port : Nat) (miso : Bytes) (edge : Int) (s : State)  : (serveIrq port miso edge s).keptF = s.keptF := by simp [serveIrq]
@[simp] theorem activateKey_keptF (s : State)  : (activateKey s).keptF = s.keptF := by
  unfold activateKey
  (try dsimp only)
  (repeat' split)
  all_goals (try simp)

@[simp] theorem annexKeyStep_keptF (s : State)  : (annexKeyStep s).keptF = s.keptF := by
  unfold annexKeyStep
  (try dsimp only)
  (repeat' split)
  all_goals (try simp)

@[simp] theorem modCh_keptF (n : Nat) (f : LampCh → LampCh) (s : State)  : (modCh n f s).keptF = s.keptF := by simp [modCh]
@[simp] theorem modGroup_keptF (g : Nat) (f : ColSet → ColSet) (s : State)  : (modGroup g f s).keptF = s.keptF := by simp [modGroup]
@[simp] theorem refreshDuty_keptF (ns : List Nat) (s : State)  : (refreshDuty ns s).keptF = s.keptF := by simp [refreshDuty]
@[simp] theorem goManual_keptF (g : Nat) (s : State)  : (goManual g s).keptF = s.keptF := by simp [goManual]
@[simp] theorem setPoint_keptF (g : Nat) (ch : Change) (s : State)  : (setPoint g ch s).keptF = s.keptF := by simp [setPoint]
@[simp] theorem applyLocal_keptF (outs : List Nat) (ch : Change) (s : State)  : (applyLocal outs ch s).keptF = s.keptF := by simp [applyLocal]
@[simp] theorem markDirect_keptF (b : Bool) (outs : List Nat) (s : State)  : (markDirect b outs s).keptF = s.keptF := by simp [markDirect]
@[simp] theorem applyDirect_keptF (outs : List Nat) (ch : Change) (s : State)  : (applyDirect outs ch s).keptF = s.keptF := by simp [applyDirect]
@[simp] theorem applyClaim_keptF (outs : List Nat) (ch : Change) (s : State)  : (applyClaim outs ch s).keptF = s.keptF := by simp [applyClaim]
@[simp] theorem followTop_keptF (outs : List Nat) (fade curve : Nat) (s : State)  : (followTop outs fade curve s).keptF = s.keptF := by simp [followTop]
@[simp] theorem placeClaims_keptF (outs : List Nat) (cl : Claim) (s : State)  : (placeClaims outs cl s).keptF = s.keptF := by simp [placeClaims]
@[simp] theorem endClaims_keptF (outs : List Nat) (p : Claim → Bool) (s : State)  : (endClaims outs p s).keptF = s.keptF := by
  unfold endClaims
  exact keptF_foldl _ (fun u n => by dsimp only; split <;> simp) _ _

@[simp] theorem applyLampPart_keptF (p : Nat → Bool) (s : State)  : (applyLampPart p s).keptF = s.keptF := by
  unfold applyLampPart
  (try dsimp only)
  (repeat' split)
  all_goals (try simp)

@[simp] theorem applyScene_keptF (scene : Nat) (s : State)  : (applyScene scene s).keptF = s.keptF := by
  unfold applyScene
  (try dsimp only)
  (repeat' split)
  all_goals (try simp)

@[simp] theorem applyInstant_keptF (t : Nat) (s : State)  : (applyInstant t s).keptF = s.keptF := by simp [applyInstant]
@[simp] theorem applyDue_keptF (y0 : Nat) (s : State)  : (applyDue y0 s).keptF = s.keptF := by
  induction y0 generalizing s with
  | zero => rfl
  | succ k ih => unfold applyDue; split <;> simp [ih]

@[simp] theorem latchShutdown_keptF (s : State)  : (latchShutdown s).keptF = s.keptF := by simp [latchShutdown]
@[simp] theorem lampLocally_keptF (outs : List Nat) (p : Bytes) (s : State)  : (lampLocally outs p s).keptF = s.keptF := by simp [lampLocally]
@[simp] theorem lampSet_keptF (c : LiveCmd) (s : State)  : (lampSet c s).keptF = s.keptF := by
  unfold lampSet
  (try dsimp only)
  (repeat' split)
  all_goals (try simp)

@[simp] theorem sceneDefine_keptF (c : LiveCmd) (s : State)  : (sceneDefine c s).keptF = s.keptF := by
  unfold sceneDefine
  (try dsimp only)
  (repeat' split)
  all_goals (try simp)

@[simp] theorem sceneLaunch_keptF (c : LiveCmd) (s : State)  : (sceneLaunch c s).keptF = s.keptF := by
  unfold sceneLaunch
  (try dsimp only)
  (repeat' split)
  all_goals (try simp)

@[simp] theorem calibrationLoad_keptF (c : LiveCmd) (s : State)  : (calibrationLoad c s).keptF = s.keptF := by
  unfold calibrationLoad
  (try dsimp only)
  (repeat' split)
  all_goals (try simp)

@[simp] theorem localChannelConfig_keptF (c : LiveCmd) (s : State)  : (localChannelConfig c s).keptF = s.keptF := by
  unfold localChannelConfig
  (try dsimp only)
  (repeat' split)
  all_goals (try simp)

@[simp] theorem lampStatus_keptF (c : LiveCmd) (s : State)  : (lampStatus c s).keptF = s.keptF := by simp [lampStatus]
@[simp] theorem recomputeRoutes_keptF (s : State)  : (recomputeRoutes s).keptF = s.keptF := by simp [recomputeRoutes]
@[simp] theorem sendInstall_keptF (n : Nat) (b : Bytes) (s : State)  : (sendInstall n b s).keptF = s.keptF := by simp [sendInstall]
@[simp] theorem pushFragment_keptF (f : Fragment) (s : State)  : (pushFragment f s).keptF = s.keptF := by simp [pushFragment]
@[simp] theorem pushEntry_keptF (p : Pier) (e : HeadEntry) (s : State)  : (pushEntry p e s).keptF = s.keptF := by simp [pushEntry]
@[simp] theorem sendOnce_keptF (n type : Nat) (payload : Bytes) (s : State)  : (sendOnce n type payload s).keptF = s.keptF := by simp [sendOnce]
@[simp] theorem pushWatches_keptF (site : Option Nat) (s : State)  : (pushWatches site s).keptF = s.keptF := by simp [pushWatches]
@[simp] theorem pushConfigs_keptF (site : Option Nat) (s : State)  : (pushConfigs site s).keptF = s.keptF := by
  unfold pushConfigs
  (try dsimp only)
  refine keptF_foldl _ (fun u x => ?_) _ _
  (try dsimp only)
  (repeat' split)
  all_goals first | rfl | simp

@[simp] theorem pushEnds_keptF (site : Option Nat) (s : State)  : (pushEnds site s).keptF = s.keptF := by simp [pushEnds]
@[simp] theorem pushAll_keptF (site : Option Nat) (s : State)  : (pushAll site s).keptF = s.keptF := by simp [pushAll]
@[simp] theorem syncHeads_keptF (s : State)  : (syncHeads s).keptF = s.keptF := by simp [syncHeads]
@[simp] theorem newRoutes_keptF (s : State)  : (newRoutes s).keptF = s.keptF := by simp [newRoutes]
@[simp] theorem noteShortfall_keptF (s : State)  : (noteShortfall s).keptF = s.keptF := by simp [noteShortfall]
@[simp] theorem viaductSub_keptF (r : Bytes) (s : State)  : (viaductSub r s).keptF = s.keptF := by simp [viaductSub]
@[simp] theorem viaductSubs_keptF (s : State)  : (viaductSubs s).keptF = s.keptF := by simp [viaductSubs]
@[simp] theorem placementsDone_keptF (s : State)  : (placementsDone s).keptF = s.keptF := by simp [placementsDone]
@[simp] theorem evaluatePlacement_keptF (s : State)  : (evaluatePlacement s).keptF = s.keptF := by simp [evaluatePlacement]
@[simp] theorem sendSchedule_keptF (n : Nat) (s : State)  : (sendSchedule n s).keptF = s.keptF := by simp [sendSchedule]
@[simp] theorem reschedule_keptF (joining : Option Nat) (s : State)  : (reschedule joining s).keptF = s.keptF := by simp [reschedule]
@[simp] theorem claimLocal_keptF (p : Policy) (i : Nat) (a : Bytes) (elapsed : Nat) (noFade : Bool) (s : State)  : (claimLocal p i a elapsed noFade s).keptF = s.keptF := by simp [claimLocal]
@[simp] theorem claimAgain_keptF (p : Policy) (n : Nat) (s : State)  : (claimAgain p n s).keptF = s.keptF := by simp [claimAgain]
@[simp] theorem decideContactor_keptF (r : Bytes) (k : Nat) (close : Bool) (s : State)  : (decideContactor r k close s).keptF = s.keptF := by simp [decideContactor]
@[simp] theorem runAction_keptF (p : Policy) (ts : List (Option Nat)) (i : Nat) (a : Bytes) (s : State)  : (runAction p ts i a s).keptF = s.keptF := by
  unfold runAction
  split
  · refine keptF_foldl _ (fun u q => ?_) _ _
    split
    · split <;> simp
    · simp
  · simp
  · dsimp only
    split <;> simp
  · rfl

@[simp] theorem firePolicy_keptF (p : Policy) (only : Nat → Bool) (s : State)  : (firePolicy p only s).keptF = s.keptF := by
  unfold firePolicy
  (try dsimp only)
  (repeat' split)
  all_goals (try simp)

@[simp] theorem scenePolicies_keptF (scene : Nat) (s : State)  : (scenePolicies scene s).keptF = s.keptF := by simp [scenePolicies]
@[simp] theorem applyDueAll_keptF (y0 : Nat) (s : State)  : (applyDueAll y0 s).keptF = s.keptF := by
  induction y0 generalizing s with
  | zero => rfl
  | succ k ih => unfold applyDueAll; split <;> simp [ih]

@[simp] theorem lampDue_keptF (s : State)  : (lampDue s).keptF = s.keptF := by simp [lampDue]
@[simp] theorem spanTrigger_keptF (pol : Nat) (s : State)  : (spanTrigger pol s).keptF = s.keptF := by
  unfold spanTrigger
  (try dsimp only)
  (repeat' split)
  all_goals (try simp)

@[simp] theorem catchUpPolicy_keptF (s : State) (p : Policy)  : (catchUpPolicy s p).keptF = s.keptF := by
  unfold catchUpPolicy
  (try dsimp only)
  (repeat' split)
  all_goals (try simp)

@[simp] theorem firmwareTakes_keptF (s : State)  : (firmwareTakes s).keptF = s.keptF := by simp [firmwareTakes]
@[simp] theorem evaluateNow_keptF (s : State)  : (evaluateNow s).keptF = s.keptF := by simp [evaluateNow]
@[simp] theorem sensorPolicy_keptF (n sensor heading : Nat) (prev : Option Int) (v : Int) (s : State) (p : Policy)  : (sensorPolicy n sensor heading prev v s p).keptF = s.keptF := by simp [sensorPolicy]
@[simp] theorem reportSubs_keptF (n sensor : Nat) (payload : Bytes) (s : State)  : (reportSubs n sensor payload s).keptF = s.keptF := by simp [reportSubs]
@[simp] theorem sensorEvent_keptF (n : Nat) (payload : Bytes) (s : State)  : (sensorEvent n payload s).keptF = s.keptF := by simp [sensorEvent]
@[simp] theorem meterConditions_keptF (s : State)  : (meterConditions s).keptF = s.keptF := by
  unfold meterConditions
  refine keptF_foldl _ (fun u n => ?_) _ _
  dsimp only
  split
  · rfl
  · split <;> simp

@[simp] theorem endPolicyClaims_keptF (pol : Nat) (s : State)  : (endPolicyClaims pol s).keptF = s.keptF := by
  unfold endPolicyClaims
  (try dsimp only)
  (repeat' split)
  all_goals (try simp)

@[simp] theorem askEvaluation_keptF (s : State)  : (askEvaluation s).keptF = s.keptF := by simp [askEvaluation]
@[simp] theorem policyLoad_keptF (c : LiveCmd) (s : State)  : (policyLoad c s).keptF = s.keptF := by
  unfold policyLoad
  (try dsimp only)
  (repeat' split)
  all_goals (try simp)

@[simp] theorem removePolicy_keptF (id : Nat) (s : State)  : (removePolicy id s).keptF = s.keptF := by simp [removePolicy]
@[simp] theorem policyRemove_keptF (c : LiveCmd) (s : State)  : (policyRemove c s).keptF = s.keptF := by simp [policyRemove]
@[simp] theorem policyList_keptF (c : LiveCmd) (s : State)  : (policyList c s).keptF = s.keptF := by simp [policyList]
@[simp] theorem placementRead_keptF (c : LiveCmd) (s : State)  : (placementRead c s).keptF = s.keptF := by simp [placementRead]
@[simp] theorem placementPin_keptF (c : LiveCmd) (s : State)  : (placementPin c s).keptF = s.keptF := by
  unfold placementPin
  (try dsimp only)
  (repeat' split)
  all_goals (try simp)

@[simp] theorem placementHold_keptF (c : LiveCmd) (s : State)  : (placementHold c s).keptF = s.keptF := by simp [placementHold]
@[simp] theorem sensorSubscribe_keptF (c : LiveCmd) (s : State)  : (sensorSubscribe c s).keptF = s.keptF := by
  unfold sensorSubscribe
  (try dsimp only)
  (repeat' split)
  all_goals (try simp)

@[simp] theorem imageStage_keptF (c : LiveCmd) (s : State)  : (imageStage c s).keptF = s.keptF := by
  unfold imageStage
  (try simp)
  (repeat' (split <;> try simp))

@[simp] theorem setTarget_keptF (img n code : Nat) (s : State)  : (setTarget img n code s).keptF = s.keptF := by simp [setTarget]
@[simp] theorem announceCache_keptF (r : Rollout) (i : LanImage) (m : Nat) (s : State)  : (announceCache r i m s).keptF = s.keptF := by simp [announceCache]
@[simp] theorem visitRollout_keptF (img : Nat) (s : State) (n : Nat)  : (visitRollout img s n).keptF = s.keptF := by
  unfold visitRollout
  (try dsimp only)
  (repeat' split)
  all_goals (try simp)

@[simp] theorem finishRollouts_keptF (s : State)  : (finishRollouts s).keptF = s.keptF := by simp [finishRollouts]
@[simp] theorem progressRollouts_keptF (s : State)  : (progressRollouts s).keptF = s.keptF := by simp [progressRollouts]
@[simp] theorem imageRollout_keptF (c : LiveCmd) (s : State)  : (imageRollout c s).keptF = s.keptF := by
  unfold imageRollout
  (try dsimp only)
  (repeat' split)
  all_goals (try simp)

@[simp] theorem rolloutCapability_keptF (n : Nat) (s : State)  : (rolloutCapability n s).keptF = s.keptF := by
  unfold rolloutCapability
  simp only [progressRollouts_keptF]
  refine keptF_foldl _ (fun u n => ?_) _ _
  split
  · split <;> simp
  · rfl

@[simp] theorem imageStatus_keptF (n : Nat) (p : Bytes) (s : State)  : (imageStatus n p s).keptF = s.keptF := by
  unfold imageStatus
  (try dsimp only)
  (repeat' split)
  all_goals (try simp)

@[simp] theorem chunkRequest_keptF (n : Nat) (p : Bytes) (s : State)  : (chunkRequest n p s).keptF = s.keptF := by
  unfold chunkRequest
  (try dsimp only)
  (repeat' split)
  all_goals (try simp)

@[simp] theorem spanStart_keptF (c : LiveCmd) (s : State)  : (spanStart c s).keptF = s.keptF := by
  unfold spanStart
  (try dsimp only)
  (repeat' split)
  all_goals (try simp)

@[simp] theorem stopSpan_keptF (s : State)  : (stopSpan s).keptF = s.keptF := by simp [stopSpan]
@[simp] theorem spanStop_keptF (c : LiveCmd) (s : State)  : (spanStop c s).keptF = s.keptF := by simp [spanStop]
@[simp] theorem lanternAdmit_keptF (c : LiveCmd) (s : State)  : (lanternAdmit c s).keptF = s.keptF := by
  unfold lanternAdmit
  (try simp)
  (repeat' (split <;> try simp))

@[simp] theorem lanternRemove_keptF (c : LiveCmd) (s : State)  : (lanternRemove c s).keptF = s.keptF := by simp [lanternRemove]
@[simp] theorem lanternQuery_keptF (c : LiveCmd) (s : State)  : (lanternQuery c s).keptF = s.keptF := by
  unfold lanternQuery
  (try dsimp only)
  (repeat' split)
  all_goals (try simp)

@[simp] theorem lanternSend_keptF (c : LiveCmd) (s : State)  : (lanternSend c s).keptF = s.keptF := by simp [lanternSend]
@[simp] theorem floodSend_keptF (c : LiveCmd) (s : State)  : (floodSend c s).keptF = s.keptF := by simp [floodSend]
@[simp] theorem topologyRead_keptF (c : LiveCmd) (s : State)  : (topologyRead c s).keptF = s.keptF := by simp [topologyRead]
@[simp] theorem regionLoad_keptF (c : LiveCmd) (s : State)  : (regionLoad c s).keptF = s.keptF := by
  unfold regionLoad
  (try dsimp only)
  (repeat' split)
  all_goals (try simp)

@[simp] theorem loadPort_keptF (k : Nat) (p miso : Bytes) (s : State)  : (loadPort k p miso s).1.keptF = s.keptF := by simp [loadPort]
@[simp] theorem radioLoad_keptF (misoA misoB : Bytes) (c : LiveCmd) (s : State)  : (radioLoad misoA misoB c s).keptF = s.keptF := by
  unfold radioLoad
  (try dsimp only)
  (repeat' split)
  all_goals (try simp)

@[simp] theorem dwellStatus_keptF (c : LiveCmd) (s : State)  : (dwellStatus c s).keptF = s.keptF := by
  unfold dwellStatus
  (try dsimp only)
  (repeat' split)
  all_goals (try simp)

@[simp] theorem withMsg_keptF (type origin : Nat) (f : InMsg → State → State) (s : State) (hf : ∀ x0 u, (f x0 u).keptF = u.keptF) : (withMsg type origin f s).keptF = s.keptF := by
  unfold withMsg
  (try dsimp only)
  (repeat' split)
  all_goals (try simp [hf])

@[simp] theorem fromLantern_keptF (type n : Nat) (f : Lantern → InMsg → State → State) (s : State) (hf : ∀ x0 x1 u, (f x0 x1 u).keptF = u.keptF) : (fromLantern type n f s).keptF = s.keptF := by
  unfold fromLantern
  exact withMsg_keptF _ _ _ _ (fun m u => by split <;> simp [hf])

@[simp] theorem joinRefused_keptF (eui reason proxy : Nat) (s : State)  : (joinRefused eui reason proxy s).keptF = s.keptF := by simp [joinRefused]
@[simp] theorem joinFrames_keptF (n eui last : Nat) (y0 : List Bytes) (y1 : Nat) (s : State)  : (joinFrames n eui last y0 y1 s).1.keptF = s.keptF := by
  induction y0 generalizing y1 s with
  | nil => rfl
  | cons b l ih => unfold joinFrames; split <;> simp [ih]

@[simp] theorem sendJoinResponse_keptF (proxy port lan eui : Nat) (body : Bytes) (s : State)  : (sendJoinResponse proxy port lan eui body s).keptF = s.keptF := by
  unfold sendJoinResponse
  (try dsimp only)
  (repeat' split)
  all_goals (try simp)

@[simp] theorem joinAccepted_keptF (proxy port at_ n : Nat) (l : Lantern) (s : State)  : (joinAccepted proxy port at_ n l s).keptF = s.keptF := by simp [joinAccepted]
@[simp] theorem joinRequest_keptF (proxy port at_ : Nat) (psdu : Bytes) (s : State)  : (joinRequest proxy port at_ psdu s).keptF = s.keptF := by
  unfold joinRequest
  (try dsimp only)
  (repeat' split)
  all_goals (try simp)

@[simp] theorem sendKey_keptF (phase asn n : Nat) (s : State)  : (sendKey phase asn n s).keptF = s.keptF := by simp [sendKey]
@[simp] theorem pushScenes_keptF (n : Nat) (s : State)  : (pushScenes n s).keptF = s.keptF := by simp [pushScenes]
@[simp] theorem welcome_keptF (n : Nat) (s : State)  : (welcome n s).keptF = s.keptF := by
  unfold welcome
  (try dsimp only)
  (repeat' split)
  all_goals (try simp)

@[simp] theorem capability_keptF (n : Nat) (l : Lantern) (m : InMsg) (s : State)  : (capability n l m s).keptF = s.keptF := by simp [capability]
@[simp] theorem neighbourReport_keptF (n : Nat) (l : Lantern) (m : InMsg) (s : State)  : (neighbourReport n l m s).keptF = s.keptF := by
  unfold neighbourReport
  (try dsimp only)
  (repeat' split)
  all_goals (try simp)

@[simp] theorem clearSilent_keptF (n : Nat) (s : State)  : (clearSilent n s).keptF = s.keptF := by
  unfold clearSilent
  (try dsimp only)
  (repeat' split)
  all_goals (try simp)

@[simp] theorem missBeacon_keptF (n cyc : Nat) (s : State)  : (missBeacon n cyc s).keptF = s.keptF := by simp [missBeacon]
@[simp] theorem beaconMiss_keptF (n : Nat) (m : InMsg) (s : State)  : (beaconMiss n m s).keptF = s.keptF := by simp [beaconMiss]
@[simp] theorem parentBeacon_keptF (m : InMsg) (n : AnnexNet) (s : State)  : (parentBeacon m n s).keptF = s.keptF := by simp [parentBeacon]
@[simp] theorem annexHeard_keptF (c : AnnexCand) (s : State)  : (annexHeard c s).keptF = s.keptF := by simp [annexHeard]
@[simp] theorem annexParentBeacon_keptF (c : AnnexCand) (m : InMsg) (s : State)  : (annexParentBeacon c m s).keptF = s.keptF := by
  unfold annexParentBeacon
  (try dsimp only)
  (repeat' split)
  all_goals (try simp)

@[simp] theorem annexReparent_keptF (old : Nat) (c : AnnexCand) (m : InMsg) (s : State)  : (annexReparent old c m s).keptF = s.keptF := by simp [annexReparent]
@[simp] theorem annexBeacon_keptF (m : InMsg) (s0 : State)  : (annexBeacon m s0).keptF = s0.keptF := by
  unfold annexBeacon
  (try dsimp only)
  (repeat' split)
  all_goals (try simp)

@[simp] theorem beaconReceived_keptF (m : InMsg) (s : State)  : (beaconReceived m s).keptF = s.keptF := by
  unfold beaconReceived
  (try dsimp only)
  (repeat' split)
  all_goals (try simp)

@[simp] theorem response_keptF (n : Nat) (m : InMsg) (s : State)  : (response n m s).keptF = s.keptF := by
  unfold response
  (try dsimp only)
  (repeat' split)
  all_goals (try simp)

@[simp] theorem fragmentInventory_keptF (n : Nat) (m : InMsg) (s : State)  : (fragmentInventory n m s).keptF = s.keptF := by simp [fragmentInventory]
@[simp] theorem settleGap_keptF (s : State)  : (settleGap s).keptF = s.keptF := by simp [settleGap]
@[simp] theorem returnClock_keptF (edges : List Nat) (s : State)  : (returnClock edges s).keptF = s.keptF := by simp [returnClock]
@[simp] theorem presenceSecond_keptF (s : State)  : (presenceSecond s).keptF = s.keptF := by
  unfold presenceSecond
  (try dsimp only)
  (repeat' split)
  all_goals (try simp)

@[simp] theorem saveSecond_keptF (s : State)  : (saveSecond s).keptF = s.keptF := by simp [saveSecond]
@[simp] theorem restartSecond_keptF (s : State)  : (restartSecond s).keptF = s.keptF := by
  unfold restartSecond
  (try dsimp only)
  (repeat' split)
  all_goals (try simp)

@[simp] theorem windowSecond_keptF (s : State)  : (windowSecond s).keptF = s.keptF := by
  unfold windowSecond
  (try dsimp only)
  (repeat' split)
  all_goals (try simp)

@[simp] theorem finishCalib_keptF (k : Calib) (s : State)  : (finishCalib k s).keptF = s.keptF := by
  unfold finishCalib
  (try dsimp only)
  (repeat' split)
  all_goals (try simp)

@[simp] theorem calibSecond_keptF (m : MeterIn) (s : State)  : (calibSecond m s).keptF = s.keptF := by simp [calibSecond]
@[simp] theorem meterSecondClose_keptF (s : State)  : (meterSecondClose s).keptF = s.keptF := by simp [meterSecondClose]
@[simp] theorem flushTotals_keptF (s : State)  : (flushTotals s).keptF = s.keptF := by
  unfold flushTotals
  (try dsimp only)
  (repeat' split)
  all_goals (try simp)

@[simp] theorem noteResult_keptF (r : ReconRes) (need : Nat) (s : State)  : (noteResult r need s).keptF = s.keptF := by simp [noteResult]
@[simp] theorem reconcile_keptF (w : ReconWin) (s : State)  : (reconcile w s).keptF = s.keptF := by simp [reconcile]
@[simp] theorem reconcilePrev_keptF (s : State)  : (reconcilePrev s).keptF = s.keptF := by
  unfold reconcilePrev
  (try dsimp only)
  (repeat' split)
  all_goals (try simp)

@[simp] theorem windowEnds_keptF (c : Nat) (s : State)  : (windowEnds c s).keptF = s.keptF := by simp [windowEnds]
@[simp] theorem windowBegins_keptF (c : Nat) (s : State)  : (windowBegins c s).keptF = s.keptF := by simp [windowBegins]
@[simp] theorem windowsStop_keptF (s : State)  : (windowsStop s).keptF = s.keptF := by
  unfold windowsStop
  (try dsimp only)
  (repeat' split)
  all_goals (try simp)

@[simp] theorem modWindow_keptF (start : Nat) (f : ReconWin → ReconWin) (s : State)  : (modWindow start f s).keptF = s.keptF := by simp [modWindow]
@[simp] theorem energyAggregate_keptF (head : Nat) (p : Bytes) (s : State)  : (energyAggregate head p s).keptF = s.keptF := by simp [energyAggregate]
@[simp] theorem standbyWindow_keptF (s : State)  : (standbyWindow s).keptF = s.keptF := by
  unfold standbyWindow
  (try dsimp only)
  (repeat' split)
  all_goals (try simp)

@[simp] theorem meterConfig_keptF (c : LiveCmd) (s : State)  : (meterConfig c s).keptF = s.keptF := by
  unfold meterConfig
  (try dsimp only)
  (repeat' split)
  all_goals (try simp)

@[simp] theorem meterRead_keptF (c : LiveCmd) (s : State)  : (meterRead c s).keptF = s.keptF := by simp [meterRead]
@[simp] theorem energyRead_keptF (c : LiveCmd) (s : State)  : (energyRead c s).keptF = s.keptF := by simp [energyRead]
@[simp] theorem pulseOutputAssign_keptF (c : LiveCmd) (s : State)  : (pulseOutputAssign c s).keptF = s.keptF := by
  unfold pulseOutputAssign
  (try dsimp only)
  (repeat' split)
  all_goals (try simp)

@[simp] theorem pulseInputRead_keptF (c : LiveCmd) (s : State)  : (pulseInputRead c s).keptF = s.keptF := by simp [pulseInputRead]
@[simp] theorem reconcileRead_keptF (c : LiveCmd) (s : State)  : (reconcileRead c s).keptF = s.keptF := by simp [reconcileRead]
@[simp] theorem meterCalibrate_keptF (c : LiveCmd) (s : State)  : (meterCalibrate c s).keptF = s.keptF := by simp [meterCalibrate]
@[simp] theorem setBank_keptF (n : Nat) (u : BankUse) (contents : Nat) (s : State)  : (setBank n u contents s).keptF = s.keptF := by simp [setBank]
@[simp] theorem dropUnit_keptF (isRun : Bool) (s : State)  : (dropUnit isRun s).keptF = s.keptF := by simp [dropUnit]
@[simp] theorem unitFailed_keptF (alg origin : Nat) (u : TestUnit) (r : Nat × Option Nat) (s : State)  : (unitFailed alg origin u r s).keptF = s.keptF := by
  unfold unitFailed
  (try dsimp only)
  (repeat' split)
  all_goals (try simp)

@[simp] theorem unitEnds_keptF (isRun : Bool) (alg : Nat) (u : TestUnit) (r : Nat × Option Nat) (s : State)  : (unitEnds isRun alg u r s).keptF = s.keptF := by
  unfold unitEnds
  (try dsimp only)
  (repeat' split)
  all_goals (try simp)

@[simp] theorem refuseEvacuation_keptF (isRun : Bool) (s : State)  : (refuseEvacuation isRun s).keptF = s.keptF := by simp [refuseEvacuation]
@[simp] theorem swapBanks_keptF (isRun : Bool) (n k : Nat) (s : State)  : (swapBanks isRun n k s).keptF = s.keptF := by simp [swapBanks]
@[simp] theorem evacuate_keptF (isRun : Bool) (n left : Nat) (s : State)  : (evacuate isRun n left s).1.keptF = s.keptF := by
  unfold evacuate
  (try dsimp only)
  (repeat' split)
  all_goals (try simp)

@[simp] theorem skipRetired_keptF (isRun : Bool) (s : State)  : (skipRetired isRun s).keptF = s.keptF := by simp [skipRetired]
@[simp] theorem sliceWork_keptF (isRun : Bool) (alg : Nat) (y0 : Nat) (y1 : Nat) (y2 : List (List (Nat × Nat))) (s : State)  : (sliceWork isRun alg y0 y1 y2 s).1.keptF = s.keptF := by
  induction y0 generalizing y1 y2 s with
  | zero => rfl
  | succ f ih => unfold sliceWork; dsimp only; (repeat' split) <;> simp [ih]

@[simp] theorem finishRun_keptF (r : TestRun) (outcome status : Nat) (s : State)  : (finishRun r outcome status s).keptF = s.keptF := by
  unfold finishRun
  (try dsimp only)
  (repeat' split)
  all_goals (try simp)

@[simp] theorem abortRun_keptF (r : TestRun) (status : Nat) (s : State)  : (abortRun r status s).keptF = s.keptF := by
  unfold abortRun
  (try dsimp only)
  (repeat' split)
  all_goals (try simp)

@[simp] theorem checkRun_keptF (s : State)  : (checkRun s).keptF = s.keptF := by
  unfold checkRun
  (try dsimp only)
  (repeat' split)
  all_goals (try simp)

@[simp] theorem checkSweep_keptF (s : State)  : (checkSweep s).keptF = s.keptF := by
  unfold checkSweep
  (try dsimp only)
  (repeat' split)
  all_goals (try simp)

@[simp] theorem takeQueued_keptF (s : State)  : (takeQueued s).keptF = s.keptF := by simp [takeQueued]
@[simp] theorem sliceStart_keptF (r : SliceIn) (s : State)  : (sliceStart r s).keptF = s.keptF := by simp [sliceStart]
@[simp] theorem sliceSoFar_keptF (s : State)  : (sliceSoFar s).1.keptF = s.keptF := by simp [sliceSoFar]
@[simp] theorem stopSlice_keptF (s : State)  : (stopSlice s).keptF = s.keptF := by simp [stopSlice]
@[simp] theorem cutSlice_keptF (s : State)  : (cutSlice s).keptF = s.keptF := by
  unfold cutSlice
  (try dsimp only)
  (repeat' split)
  all_goals (try simp)

@[simp] theorem endSlice_keptF (s : State)  : (endSlice s).keptF = s.keptF := by simp [endSlice]
@[simp] theorem selftestRun_keptF (c : LiveCmd) (s : State)  : (selftestRun c s).keptF = s.keptF := by
  unfold selftestRun
  (try dsimp only)
  (repeat' split)
  all_goals (try simp)

@[simp] theorem selftestResult_keptF (c : LiveCmd) (s : State)  : (selftestResult c s).keptF = s.keptF := by
  unfold selftestResult
  (try dsimp only)
  (repeat' split)
  all_goals (try simp)

@[simp] theorem selftestSchedule_keptF (c : LiveCmd) (s : State)  : (selftestSchedule c s).keptF = s.keptF := by simp [selftestSchedule]
@[simp] theorem scanRequest_keptF (s : State)  : (scanRequest s).keptF = s.keptF := by simp [scanRequest]
@[simp] theorem scanTick_keptF (s : State)  : (scanTick s).keptF = s.keptF := by
  unfold scanTick
  (try dsimp only)
  (repeat' split)
  all_goals (try simp)

@[simp] theorem pfailSlice_keptF (s : State)  : (pfailSlice s).keptF = s.keptF := by simp [pfailSlice]
@[simp] theorem pfailFall_keptF (s : State)  : (pfailFall s).keptF = s.keptF := by
  unfold pfailFall
  (try dsimp only)
  (repeat' split)
  all_goals (try simp)

@[simp] theorem sendHealth_keptF (s : State)  : (sendHealth s).keptF = s.keptF := by simp [sendHealth]
@[simp] theorem sendHello_keptF (s : State)  : (sendHello s).keptF = s.keptF := by simp [sendHello]
@[simp] theorem linkDown_keptF (s : State)  : (linkDown s).keptF = s.keptF := by simp [linkDown]
@[simp] theorem heard_keptF (s : State)  : (heard s).keptF = s.keptF := by simp [heard]
@[simp] theorem frameBad_keptF (s : State)  : (frameBad s).keptF = s.keptF := by simp [frameBad]
@[simp] theorem onLink_keptF (type : Nat) (f : LinkIn) (k : State → State) (s : State) (hk : ∀ u, (k u).keptF = u.keptF) : (onLink type f k s).keptF = s.keptF := by simp [onLink, hk]
@[simp] theorem assertLease_keptF (cause : Nat) (s : State)  : (assertLease cause s).keptF = s.keptF := by simp [assertLease]
@[simp] theorem linkUp_keptF (h : PeerHello) (s : State)  : (linkUp h s).keptF = s.keptF := by simp [linkUp]
@[simp] theorem trainLink_keptF (s : State)  : (trainLink s).keptF = s.keptF := by
  unfold trainLink
  (try dsimp only)
  (repeat' split)
  all_goals (try simp)

@[simp] theorem twinHello_keptF (f : LinkIn) (s : State)  : (twinHello f s).keptF = s.keptF := by simp [twinHello]
@[simp] theorem inSequence_keptF (type : Nat) (f : LinkIn) (ok : State → State) (s : State) (hok : ∀ u, (ok u).keptF = u.keptF) : (inSequence type f ok s).keptF = s.keptF := by
  unfold inSequence
  (try dsimp only)
  (repeat' split)
  all_goals (try simp [hok])

@[simp] theorem nak_keptF (f : LinkIn) (s : State)  : (nak f s).keptF = s.keptF := by simp [nak]
@[simp] theorem renewAndCopy_keptF (cycle : Nat) (step : Int) (s : State)  : (renewAndCopy cycle step s).keptF = s.keptF := by simp [renewAndCopy]
@[simp] theorem releaseLease_keptF (s : State)  : (releaseLease s).keptF = s.keptF := by simp [releaseLease]
@[simp] theorem leaveTwin_keptF (s : State)  : (leaveTwin s).keptF = s.keptF := by simp [leaveTwin]
@[simp] theorem copySegment_keptF (f : LinkIn) (s : State)  : (copySegment f s).keptF = s.keptF := by
  unfold copySegment
  exact inSequence_keptF _ _ _ _ (fun _ => rfl)

@[simp] theorem installStandby_keptF (img : CopyImage) (s : State)  : (installStandby img s).keptF = s.keptF := by simp [installStandby]
@[simp] theorem commitCopy_keptF (cycle : Nat) (full : Bool) (raw : Bytes) (img : CopyImage) (s : State)  : (commitCopy cycle full raw img s).keptF = s.keptF := by
  unfold commitCopy
  (try dsimp only)
  (repeat' split)
  all_goals (try simp)

@[simp] theorem copyEnd_keptF (f : LinkIn) (s : State)  : (copyEnd f s).keptF = s.keptF := by
  unfold copyEnd
  (try dsimp only)
  (repeat' split)
  all_goals (try simp)

@[simp] theorem copyAck_keptF (f : LinkIn) (s : State)  : (copyAck f s).keptF = s.keptF := by
  unfold copyAck
  (try dsimp only)
  (repeat' split)
  all_goals (try simp)

@[simp] theorem yieldDone_keptF (cycle : Nat) (s : State)  : (yieldDone cycle s).keptF = s.keptF := by simp [yieldDone]
@[simp] theorem followStep_keptF (x : Int) (s : State)  : (followStep x s).keptF = s.keptF := by simp [followStep]
@[simp] theorem renew_keptF (f : LinkIn) (s : State)  : (renew f s).keptF = s.keptF := by simp [renew]
@[simp] theorem standbyCycle_keptF (s : State)  : (standbyCycle s).keptF = s.keptF := by simp [standbyCycle]
@[simp] theorem holderCycle_keptF (cycle : Nat) (step : Int) (s : State)  : (holderCycle cycle step s).keptF = s.keptF := by simp [holderCycle]
@[simp] theorem journalFrame_keptF (f : LinkIn) (s : State)  : (journalFrame f s).keptF = s.keptF := by simp [journalFrame]
@[simp] theorem journalAck_keptF (f : LinkIn) (s : State)  : (journalAck f s).keptF = s.keptF := by
  unfold journalAck
  (try dsimp only)
  (repeat' split)
  all_goals (try simp)

@[simp] theorem journalAccept_keptF (c : LiveCmd) (s : State)  : (journalAccept c s).keptF = s.keptF := by simp [journalAccept]
@[simp] theorem echoFed_keptF (f : LinkIn) (s : State)  : (echoFed f s).keptF = s.keptF := by simp [echoFed]
@[simp] theorem echoDone_keptF (f : LinkIn) (s : State)  : (echoDone f s).keptF = s.keptF := by
  unfold echoDone
  (try dsimp only)
  (repeat' split)
  all_goals (try simp)

@[simp] theorem timeExchange_keptF (s : State)  : (timeExchange s).keptF = s.keptF := by simp [timeExchange]
@[simp] theorem twinTime_keptF (f : LinkIn) (s : State)  : (twinTime f s).keptF = s.keptF := by
  unfold twinTime
  (try dsimp only)
  (repeat' split)
  all_goals (try simp)

@[simp] theorem resumeMeter_keptF (img : CopyImage) (s : State)  : (resumeMeter img s).keptF = s.keptF := by simp [resumeMeter]
@[simp] theorem resumeAlarms_keptF (img : CopyImage) (s : State)  : (resumeAlarms img s).keptF = s.keptF := by simp [resumeAlarms]
@[simp] theorem advanceSeries_keptF (s : State)  : (advanceSeries s).keptF = s.keptF := by simp [advanceSeries]
@[simp] theorem resumeCopy_keptF (img : CopyImage) (s : State)  : (resumeCopy img s).keptF = s.keptF := by simp [resumeCopy]
@[simp] theorem reportUnknown_keptF (us : List JournalEnt) (s : State)  : (reportUnknown us s).keptF = s.keptF := by simp [reportUnknown]
@[simp] theorem takeoverWindow_keptF (s : State)  : (takeoverWindow s).keptF = s.keptF := by simp [takeoverWindow]
@[simp] theorem takeover_keptF (s : State)  : (takeover s).keptF = s.keptF := by
  unfold takeover
  (try dsimp only)
  (repeat' split)
  all_goals (try simp)

@[simp] theorem arbitrate_keptF (s : State)  : (arbitrate s).keptF = s.keptF := by
  unfold arbitrate
  (try dsimp only)
  (repeat' split)
  all_goals (try simp)

@[simp] theorem leaseInAssert_keptF (s : State)  : (leaseInAssert s).keptF = s.keptF := by simp [leaseInAssert]
@[simp] theorem leaseInDeassert_keptF (s : State)  : (leaseInDeassert s).keptF = s.keptF := by simp [leaseInDeassert]
@[simp] theorem noteUnhealthy_keptF (s : State)  : (noteUnhealthy s).keptF = s.keptF := by simp [noteUnhealthy]
@[simp] theorem twinStatus_keptF (c : LiveCmd) (s : State)  : (twinStatus c s).keptF = s.keptF := by simp [twinStatus]
@[simp] theorem twinConfig_keptF (c : LiveCmd) (s : State)  : (twinConfig c s).keptF = s.keptF := by simp [twinConfig]
@[simp] theorem leaseYield_keptF (c : LiveCmd) (s : State)  : (leaseYield c s).keptF = s.keptF := by simp [leaseYield]
@[simp] theorem countRefusals_keptF (l : List Nat) (s : State)  : (countRefusals l s).keptF = s.keptF := by simp [countRefusals]
@[simp] theorem countEntry_keptF (q : PState) (s : State)  : (countEntry q s).keptF = s.keptF := by simp [countEntry]
@[simp] theorem beginEntry_keptF (s : State)  : (beginEntry s).keptF = s.keptF := by simp [beginEntry]
@[simp] theorem chooseState_keptF (y0 : List PState) (s : State)  : (chooseState y0 s).keptF = s.keptF := by
  induction y0 generalizing s with
  | nil => rfl
  | cons q l ih =>
    unfold chooseState
    dsimp only
    (repeat' split) <;> simp only [ih, countRefusals_keptF, beginEntry_keptF, countEntry_keptF, setPState_keptF, keptF_draw]

@[simp] theorem applyOpPoint_keptF (s : State)  : (applyOpPoint s).keptF = s.keptF := by simp [applyOpPoint]
@[simp] theorem powerEvaluation_keptF (s : State)  : (powerEvaluation s).keptF = s.keptF := by simp [powerEvaluation]
@[simp] theorem restoreSpan_keptF (s : State)  : (restoreSpan s).keptF = s.keptF := keptF_modTime _ _
@[simp] theorem enterSlumber_keptF (s : State)  : (enterSlumber s).keptF = s.keptF := by simp [enterSlumber]
@[simp] theorem meterResumes_keptF (s : State)  : (meterResumes s).keptF = s.keptF := by
  unfold meterResumes
  (try dsimp only)
  (repeat' split)
  all_goals (try simp)

@[simp] theorem afterTransition_keptF (s : State)  : (afterTransition s).keptF = s.keptF := by
  unfold afterTransition
  (try dsimp only)
  (repeat' split)
  all_goals (try simp)

@[simp] theorem arriveExit_keptF (s : State)  : (arriveExit s).keptF = s.keptF := by
  simp only [arriveExit, afterTransition_keptF, refreshLdEn_keptF, toHoldover_keptF, keptF_modFb, keptF_modPwr, setPState_keptF,
    restoreSpan_keptF]

@[simp] theorem arriveAbandoned_keptF (s : State)  : (arriveAbandoned s).keptF = s.keptF := by simp [arriveAbandoned]
@[simp] theorem abandonAt_keptF (point : Nat) (s : State)  : (abandonAt point s).keptF = s.keptF := by simp [abandonAt]
@[simp] theorem powerTick_keptF (s : State)  : (powerTick s).keptF = s.keptF := by
  unfold powerTick
  (try dsimp only)
  (repeat' split)
  all_goals (try simp)

@[simp] theorem checkinTick_keptF (s : State)  : (checkinTick s).keptF = s.keptF := by simp [checkinTick]
@[simp] theorem voutAcked_keptF (mv : Nat) (s : State)  : (voutAcked mv s).keptF = s.keptF := by
  unfold voutAcked
  (try dsimp only)
  (repeat' split)
  all_goals (try simp)

@[simp] theorem pmicAck_keptF (nack pgood : Bool) (status : Nat) (s : State)  : (pmicAck nack pgood status s).keptF = s.keptF := by
  unfold pmicAck
  (try dsimp only)
  (repeat' split)
  all_goals (try simp)

@[simp] theorem pmicTimeout_keptF (s : State)  : (pmicTimeout s).keptF = s.keptF := by
  unfold pmicTimeout
  (try dsimp only)
  (repeat' split)
  all_goals (try simp)

@[simp] theorem thermal_keptF (celsius : Int) (s : State)  : (thermal celsius s).keptF = s.keptF := by simp [thermal]
@[simp] theorem powerPolicySet_keptF (c : LiveCmd) (s : State)  : (powerPolicySet c s).keptF = s.keptF := by simp [powerPolicySet]
@[simp] theorem powerStatus_keptF (c : LiveCmd) (s : State)  : (powerStatus c s).keptF = s.keptF := by simp [powerStatus]
@[simp] theorem powerRefusalsRead_keptF (c : LiveCmd) (s : State)  : (powerRefusalsRead c s).keptF = s.keptF := by simp [powerRefusalsRead]
@[simp] theorem modSlot_keptF (k : Nat) (f : SlotImg → SlotImg) (s : State)  : (modSlot k f s).keptF = s.keptF := by simp [modSlot]
@[simp] theorem endFragments_keptF (s : State)  : (endFragments s).keptF = s.keptF := by simp [endFragments]
@[simp] theorem newSessionUpd_keptF (h : Bytes) (target : Nat) (s : State)  : (newSessionUpd h target s).keptF = s.keptF := by simp [newSessionUpd]
@[simp] theorem updateBegin_keptF (c : LiveCmd) (s : State)  : (updateBegin c s).keptF = s.keptF := by
  unfold updateBegin
  (try dsimp only)
  (repeat' split)
  all_goals (try simp)

@[simp] theorem programFrag_keptF (x : UpdSession) (i : Nat) (d : Bytes) (s : State)  : (programFrag x i d s).keptF = s.keptF := by simp [programFrag]
@[simp] theorem storeFragment_keptF (c : LiveCmd) (s : State)  : (storeFragment c s).keptF = s.keptF := by
  unfold storeFragment
  (try dsimp only)
  (repeat' split)
  all_goals (try simp)

@[simp] theorem updateFragment_keptF (c : LiveCmd) (s : State)  : (updateFragment c s).keptF = s.keptF := by simp [updateFragment]
@[simp] theorem sectorErased_keptF (s : State)  : (sectorErased s).keptF = s.keptF := by
  unfold sectorErased
  (try dsimp only)
  (repeat' split)
  all_goals (try simp)

@[simp] theorem verifyDone_keptF (s : State)  : (verifyDone s).keptF = s.keptF := by
  unfold verifyDone
  (try dsimp only)
  (repeat' split)
  all_goals (try simp)

@[simp] theorem unactivate_keptF (s : State)  : (unactivate s).keptF = s.keptF := by
  unfold unactivate
  (try dsimp only)
  (repeat' split)
  all_goals (try simp)

@[simp] theorem dropSession_keptF (s : State)  : (dropSession s).keptF = s.keptF := by simp [dropSession]
@[simp] theorem updateStatus_keptF (c : LiveCmd) (s : State)  : (updateStatus c s).keptF = s.keptF := by simp [updateStatus]
@[simp] theorem rewrap_keptF (target : Nat) (s : State)  : (rewrap target s).keptF = s.keptF := by simp [rewrap]
@[simp] theorem updateActivate_keptF (c : LiveCmd) (s : State)  : (updateActivate c s).keptF = s.keptF := by
  unfold updateActivate
  (try dsimp only)
  (repeat' split)
  all_goals (try simp)

@[simp] theorem updateAbort_keptF (c : LiveCmd) (s : State)  : (updateAbort c s).keptF = s.keptF := by
  unfold updateAbort
  (try dsimp only)
  (repeat' split)
  all_goals (try simp)

@[simp] theorem resetTimeUnit_keptF (s : State)  : (resetTimeUnit s).keptF = s.keptF := by simp [resetTimeUnit]
@[simp] theorem activated_keptF (type : Nat) (s : State)  : (activated type s).keptF = s.keptF := by
  unfold activated
  (try dsimp only)
  (repeat' split)
  all_goals (try simp)

@[simp] theorem revertTrial_keptF (cause : Nat) (s : State)  : (revertTrial cause s).keptF = s.keptF := by
  unfold revertTrial
  (try dsimp only)
  (repeat' split)
  all_goals (try simp)

@[simp] theorem readBootRecord_keptF (s : State)  : (readBootRecord s).keptF = s.keptF := by
  unfold readBootRecord
  (try dsimp only)
  (repeat' split)
  all_goals (try simp)

@[simp] theorem chooseSlot_keptF (badA badB : Bool) (s : State)  : (chooseSlot badA badB s).1.keptF = s.keptF := by
  unfold chooseSlot
  (try dsimp only)
  (repeat' split)
  all_goals (try simp)

@[simp] theorem migrate_keptF (s : State)  : (migrate s).keptF = s.keptF := by
  unfold migrate
  (try dsimp only)
  (repeat' split)
  all_goals (try simp)

@[simp] theorem restoreTotals_keptF (s : State)  : (restoreTotals s).keptF = s.keptF := by
  unfold restoreTotals
  (try dsimp only)
  (repeat' split)
  all_goals (try simp)

@[simp] theorem restartEvents_keptF (cold : Bool) (s : State)  : (restartEvents cold s).keptF = s.keptF := by simp [restartEvents]
@[simp] theorem tamperStart_keptF (s : State)  : (tamperStart s).keptF = s.keptF := by simp [tamperStart]
@[simp] theorem alarmStart_keptF (i : Nat) (s : State)  : (alarmStart i s).keptF = s.keptF := by
  unfold alarmStart
  (try dsimp only)
  (repeat' split)
  all_goals (try simp)

@[simp] theorem resetCause_keptF (s : State)  : (resetCause s).keptF = s.keptF := by simp [resetCause]
@[simp] theorem testFails_keptF (origin : Nat) (l : List (TestUnit × List (Nat × Nat))) (s : State)  : (testFails origin l s).keptF = s.keptF := by simp [testFails]
@[simp] theorem startBanks_keptF (fails : List Nat) (s : State)  : (startBanks fails s).keptF = s.keptF := by simp [startBanks]
@[simp] theorem startTest_keptF (e : BootEnv) (recovery : Bool) (s : State)  : (startTest e recovery s).keptF = s.keptF := by
  unfold startTest
  (try dsimp only)
  (repeat' split)
  all_goals (try simp)

@[simp] theorem writeLatch_keptF (s : State)  : (writeLatch s).keptF = s.keptF := by simp [writeLatch]
@[simp] theorem modRecovery_keptF (f : Recovery → Recovery) (s : State)  : (modRecovery f s).keptF = s.keptF := by simp [modRecovery]
@[simp] theorem romSend_keptF (b : Bytes) (s : State)  : (romSend b s).keptF = s.keptF := by simp [romSend]
@[simp] theorem romStatus_keptF (seq status detail : Nat) (s : State)  : (romStatus seq status detail s).keptF = s.keptF := by simp [romStatus]
@[simp] theorem romCommand_keptF (type : Nat) (f : Bytes) (body : Bytes → State → State × Nat × Nat) (s : State) (hbody : ∀ x0 u, (body x0 u).1.keptF = u.keptF) : (romCommand type f body s).keptF = s.keptF := by
  unfold romCommand
  dsimp only
  (repeat' split) <;> simp [hbody]

@[simp] theorem romBegin_keptF (h : Bytes) (s : State)  : (romBegin h s).1.keptF = s.keptF := by
  unfold romBegin
  (try dsimp only)
  (repeat' split)
  all_goals (try simp)

@[simp] theorem romData_keptF (p : Bytes) (s : State)  : (romData p s).1.keptF = s.keptF := by
  unfold romData
  (try dsimp only)
  (repeat' split)
  all_goals (try simp)

@[simp] theorem romKeys_keptF (target : Nat) (s : State)  : (romKeys target s).keptF = s.keptF := by simp [romKeys]
@[simp] theorem romHello_keptF (s : State)  : (romHello s).keptF = s.keptF := by simp [romHello]
@[simp] theorem refusePacket_keptF (t : Transport) (sid : Option Nat) (b : Bytes) (st d : Nat) (s : State)  : (refusePacket t sid b st d s).keptF = s.keptF := by
  unfold refusePacket
  (try dsimp only)
  (repeat' split)
  all_goals (try simp)

@[simp] theorem safeReply_keptF (t : Transport) (charged : Bool) (b : Bytes) (st d seq : Nat) (s : State)  : (safeReply t charged b st d seq s).keptF = s.keptF := by
  unfold safeReply
  (try dsimp only)
  (repeat' split)
  all_goals (try simp)

@[simp] theorem safeAnswer_keptF (t : Transport) (charged : Bool) (b : Bytes) (s : State)  : (safeAnswer t charged b s).keptF = s.keptF := by
  unfold safeAnswer
  (try dsimp only)
  (repeat' split)
  all_goals (try simp)

@[simp] theorem enqueue_keptF (e : InEntry) (s : State)  : (enqueue e s).keptF = s.keptF := by simp [enqueue]
@[simp] theorem offerOn_keptF (t : Transport) (n : Nat) (x : Session) (b : Bytes) (s : State)  : (offerOn t n x b s).keptF = s.keptF := by simp [offerOn]
@[simp] theorem offerLocal_keptF (t : Transport) (b : Bytes) (s : State)  : (offerLocal t b s).keptF = s.keptF := by
  unfold offerLocal
  (try dsimp only)
  (repeat' split)
  all_goals (try simp)

@[simp] theorem dropOut_keptF (t : Transport) (sid : Option Nat) (p : OutPkt) (s : State)  : (dropOut t sid p s).keptF = s.keptF := by
  unfold dropOut
  (try dsimp only)
  (repeat' split)
  all_goals (try simp)

@[simp] theorem modWin_keptF (f : Window → Window) (s : State)  : (modWin f s).keptF = s.keptF := by simp [modWin]
@[simp] theorem hspi_keptF (f : State → State) (s : State) (hf : ∀ u, (f u).keptF = u.keptF) : (hspi f s).keptF = s.keptF := by simp [hspi, hf]
@[simp] theorem writeStatus_keptF (v : Nat) (s : State)  : (writeStatus v s).keptF = s.keptF := by simp [writeStatus]
@[simp] theorem writeCause_keptF (v : Nat) (s : State)  : (writeCause v s).keptF = s.keptF := by simp [writeCause]
@[simp] theorem ethDrop_keptF (s : State)  : (ethDrop s).keptF = s.keptF := by simp [ethDrop]
@[simp] theorem ethOut_keptF (peer : Nat) (b : Bytes) (s : State)  : (ethOut peer b s).keptF = s.keptF := by simp [ethOut]
@[simp] theorem refuseHandshake_keptF (peer st : Nat) (s : State)  : (refuseHandshake peer st s).keptF = s.keptF := by simp [refuseHandshake]
@[simp] theorem openEth_keptF (peer role n : Nat) (hostKey p z : Bytes) (d : Nat) (s : State)  : (openEth peer role n hostKey p z d s).keptF = s.keptF := by simp [openEth]
@[simp] theorem handshake_keptF (peer : Nat) (p : Bytes) (s : State)  : (handshake peer p s).keptF = s.keptF := by
  unfold handshake
  (try dsimp only)
  (repeat' split)
  all_goals (try simp)

@[simp] theorem takePacket_keptF (n : Nat) (b : Bytes) (s : State)  : (takePacket n b s).keptF = s.keptF := by
  unfold takePacket
  (try dsimp only)
  (repeat' split)
  all_goals (try simp)

@[simp] theorem modChan_keptF (n : Nat) (f : EthChan → EthChan) (s : State)  : (modChan n f s).keptF = s.keptF := by simp [modChan]
@[simp] theorem takeHeld_keptF (n : Nat) (y0 : Nat) (s : State)  : (takeHeld n y0 s).keptF = s.keptF := by
  induction y0 generalizing s with
  | zero => rfl
  | succ k ih => unfold takeHeld; (repeat' split) <;> simp [ih]

@[simp] theorem dataIn_keptF (peer : Nat) (p : Bytes) (s : State)  : (dataIn peer p s).keptF = s.keptF := by
  unfold dataIn
  (try dsimp only)
  (repeat' split)
  all_goals (try simp)

@[simp] theorem datagram_keptF (peer : Nat) (p : Bytes) (s : State)  : (datagram peer p s).keptF = s.keptF := by simp [datagram]
@[simp] theorem fragmentIn_keptF (peer id off : Nat) (more : Bool) (b : Bytes) (s : State)  : (fragmentIn peer id off more b s).keptF = s.keptF := by
  unfold fragmentIn
  (try dsimp only)
  (repeat' split)
  all_goals (try simp)

@[simp] theorem ethIn_keptF (d : EthIn) (s : State)  : (ethIn d s).keptF = s.keptF := by
  unfold ethIn
  (try dsimp only)
  (repeat' split)
  all_goals (try simp)

@[simp] theorem reorderTimeout_keptF (n : Nat) (s : State)  : (reorderTimeout n s).keptF = s.keptF := by
  unfold reorderTimeout
  (try dsimp only)
  (repeat' split)
  all_goals (try simp)

@[simp] theorem supersede_keptF (b a : LiveCmd) (s : State)  : (supersede b a s).keptF = s.keptF := by simp [supersede]
@[simp] theorem supersedeAll_keptF (b : LiveCmd) (s : State)  : (supersedeAll b s).keptF = s.keptF := by simp [supersedeAll]
@[simp] theorem acceptPacket_keptF (t : Transport) (sid : Option Nat) (b : Bytes) (s : State)  : (acceptPacket t sid b s).keptF = s.keptF := by
  unfold acceptPacket
  (try dsimp only)
  (repeat' split)
  all_goals (try simp)

@[simp] theorem intakeService_keptF (s : State)  : (intakeService s).keptF = s.keptF := by
  unfold intakeService
  (try dsimp only)
  (repeat' split)
  all_goals (try simp)

@[simp] theorem transmitNext_keptF (t : Transport) (sid : Option Nat) (p : OutPkt) (s : State)  : (transmitNext t sid p s).keptF = s.keptF := by
  unfold transmitNext
  (try dsimp only)
  (repeat' split)
  all_goals (try simp)

@[simp] theorem dropUntaken_keptF (q : Nat) (s : State)  : (dropUntaken q s).keptF = s.keptF := by simp [dropUntaken]
@[simp] theorem releaseTaken_keptF (q : Nat) (s : State)  : (releaseTaken q s).keptF = s.keptF := by simp [releaseTaken]
@[simp] theorem dropTxns_keptF (q : Nat) (s : State)  : (dropTxns q s).keptF = s.keptF := by simp [dropTxns]
@[simp] theorem cancel_keptF (c : LiveCmd) (s : State)  : (cancel c s).keptF = s.keptF := by
  have h : ∀ d u v, cancelBegun d u = some v → v.keptF = u.keptF := by
    intro d u v h
    unfold cancelBegun at h
    (repeat' split at h)
    all_goals first
      | (cases h; simp; done)
      | exact absurd h (by simp)
  unfold cancel
  (repeat' split)
  all_goals first
    | (simp; done)
    | (rename_i e; simp [h _ _ _ e])

@[simp] theorem oweLate_keptF (c : LiveCmd) (mesh : Bool) (s : State)  : (oweLate c mesh s).keptF = s.keptF := by simp [oweLate]
@[simp] theorem timeout_keptF (c : LiveCmd) (s : State)  : (timeout c s).keptF = s.keptF := by
  unfold timeout
  (try dsimp only)
  (repeat' split)
  all_goals (try simp)

@[simp] theorem loseRecord_keptF (index : Nat) (s : State)  : (loseRecord index s).keptF = s.keptF := by simp [loseRecord]
@[simp] theorem loseTotals_keptF (copy : Nat) (s : State)  : (loseTotals copy s).keptF = s.keptF := by simp [loseTotals]
@[simp] theorem contain_keptF (source : Nat) (info : Bytes) (s : State)  : (contain source info s).keptF = s.keptF := by simp [contain]
@[simp] theorem containment_keptF (e : UcEntry) (s : State)  : (containment e s).keptF = s.keptF := by simp [containment]
@[simp] theorem cycleCommits_keptF (c : Nat) (s : State)  : (cycleCommits c s).keptF = s.keptF := by simp [cycleCommits]
@[simp] theorem pendingSteps_keptF (s : State)  : (pendingSteps s).keptF = s.keptF := by simp [pendingSteps]
@[simp] theorem newNetworkKey_keptF (s : State)  : (newNetworkKey s).keptF = s.keptF := by simp [newNetworkKey]
@[simp] theorem keyUpdate_keptF (c : Nat) (s : State)  : (keyUpdate c s).keptF = s.keptF := by simp [keyUpdate]
@[simp] theorem beginSpan_keptF (t : Nat) (s : State)  : (beginSpan t s).keptF = s.keptF := by simp [beginSpan]
@[simp] theorem rootBeacon_keptF (k : Nat) (late : Bool) (miso : Bytes) (s : State)  : (rootBeacon k late miso s).keptF = s.keptF := by
  unfold rootBeacon
  (try dsimp only)
  (repeat' split)
  all_goals first | rfl | (have k := transmit_resF ‹transmit _ _ _ = _›; simp [k]; done) | simp

@[simp] theorem rootBeacons_keptF (lateA lateB : Bool) (misoA misoB : Bytes) (s : State)  : (rootBeacons lateA lateB misoA misoB s).keptF = s.keptF := by simp [rootBeacons]
@[simp] theorem startDone_keptF (s : State)  : (startDone s).keptF = s.keptF := by simp [startDone]
@[simp] theorem countMisses_keptF (ended : Nat) (s : State)  : (countMisses ended s).keptF = s.keptF := by simp [countMisses]
@[simp] theorem countRouteless_keptF (s : State)  : (countRouteless s).keptF = s.keptF := by simp [countRouteless]
@[simp] theorem ownExpiry_keptF (s : State)  : (ownExpiry s).keptF = s.keptF := by simp [ownExpiry]
@[simp] theorem guards_keptF (s : State)  : (guards s).keptF = s.keptF := by simp [guards]
@[simp] theorem epochFlood_keptF (s : State)  : (epochFlood s).keptF = s.keptF := by simp [epochFlood]
@[simp] theorem placementDue_keptF (c : Nat) (s : State)  : (placementDue c s).keptF = s.keptF := by simp [placementDue]
@[simp] theorem saveTable_keptF (c : Nat) (s : State)  : (saveTable c s).keptF = s.keptF := by simp [saveTable]
@[simp] theorem countPorts_keptF (s : State)  : (countPorts s).keptF = s.keptF := by simp [countPorts]
@[simp] theorem cycleDuties_keptF (c : Nat) (s : State)  : (cycleDuties c s).keptF = s.keptF := by simp [cycleDuties]
@[simp] theorem twinAtT_keptF (cycle : Nat) (s : State)  : (twinAtT cycle s).keptF = s.keptF := by simp [twinAtT]
@[simp] theorem endCycles_keptF (s : State)  : (endCycles s).keptF = s.keptF := by simp [endCycles]
@[simp] theorem beginCycle_keptF (c : Nat) (lateA lateB : Bool) (misoA misoB : Bytes) (s : State)  : (beginCycle c lateA lateB misoA misoB s).keptF = s.keptF := by simp [beginCycle]
@[simp] theorem nextCycle_keptF (lateA lateB : Bool) (misoA misoB : Bytes) (s : State)  : (nextCycle lateA lateB misoA misoB s).keptF = s.keptF := by simp [nextCycle]
@[simp] theorem firstCycle_keptF (t : Nat) (lateA lateB : Bool) (misoA misoB : Bytes) (s : State)  : (firstCycle t lateA lateB misoA misoB s).keptF = s.keptF := by simp [firstCycle]
@[simp] theorem tickSpan_keptF (s : State)  : (tickSpan s).keptF = s.keptF := by simp [tickSpan]
@[simp] theorem tickRtc_keptF (s : State)  : (tickRtc s).keptF = s.keptF := by simp [tickRtc]
@[simp] theorem tickWatchdogs_keptF (s : State)  : (tickWatchdogs s).keptF = s.keptF := by simp [tickWatchdogs]
@[simp] theorem tickLine_keptF (s : State)  : (tickLine s).keptF = s.keptF := by
  unfold tickLine
  (try dsimp only)
  (repeat' split)
  all_goals (try simp)

@[simp] theorem settleLease_keptF (s : State)  : (settleLease s).keptF = s.keptF := by simp [settleLease]
@[simp] theorem tickHealth_keptF (s : State)  : (tickHealth s).keptF = s.keptF := by simp [tickHealth]
theorem execSettingWrite_keptF (sid : Nat) (tag : Nat) (s u : State) (h : execSettingWrite sid tag s = .next u) : u.keptF = s.keptF := by
  unfold execSettingWrite at h
  cases h
  simp

theorem execSettingCommit_keptF (sid : Nat) (tag : Nat) (s u : State) (h : execSettingCommit sid tag s = .next u) : u.keptF = s.keptF := by
  unfold execSettingCommit at h
  cases h
  simp

theorem execTimeStep_keptF (sid : Nat) (tag : Nat) (s u : State) (h : execTimeStep sid tag s = .next u) : u.keptF = s.keptF := by
  unfold execTimeStep at h
  cases h
  simp

theorem execCalendarConvert_keptF (sid : Nat) (tag : Nat) (s u : State) (h : execCalendarConvert sid tag s = .next u) : u.keptF = s.keptF := by
  unfold execCalendarConvert at h
  cases h
  simp

theorem execPowerPolicySet_keptF (sid : Nat) (tag : Nat) (s u : State) (h : execPowerPolicySet sid tag s = .next u) : u.keptF = s.keptF := by
  unfold execPowerPolicySet at h
  cases h
  simp

theorem execLocalChannelConfig_keptF (sid : Nat) (tag : Nat) (s u : State) (h : execLocalChannelConfig sid tag s = .next u) : u.keptF = s.keptF := by
  unfold execLocalChannelConfig at h
  cases h
  simp

theorem execMeterConfig_keptF (sid : Nat) (tag : Nat) (s u : State) (h : execMeterConfig sid tag s = .next u) : u.keptF = s.keptF := by
  unfold execMeterConfig at h
  cases h
  simp

theorem execPulseOutputAssign_keptF (sid : Nat) (tag : Nat) (s u : State) (h : execPulseOutputAssign sid tag s = .next u) : u.keptF = s.keptF := by
  unfold execPulseOutputAssign at h
  cases h
  simp

theorem execKeyLoad_keptF (sid : Nat) (tag : Nat) (s u : State) (h : execKeyLoad sid tag s = .next u) : u.keptF = s.keptF := by
  unfold execKeyLoad at h
  cases h
  simp

theorem execTwinConfig_keptF (sid : Nat) (tag : Nat) (s u : State) (h : execTwinConfig sid tag s = .next u) : u.keptF = s.keptF := by
  unfold execTwinConfig at h
  cases h
  simp

theorem execSelftestSchedule_keptF (sid : Nat) (tag : Nat) (s u : State) (h : execSelftestSchedule sid tag s = .next u) : u.keptF = s.keptF := by
  unfold execSelftestSchedule at h
  cases h
  simp

theorem execQueueConfig_keptF (sid : Nat) (tag : Nat) (s u : State) (h : execQueueConfig sid tag s = .next u) : u.keptF = s.keptF := by
  unfold execQueueConfig at h
  cases h
  simp

theorem execQueueServicePassEnd_keptF  (s u : State) (h : execQueueServicePassEnd  s = .next u) : u.keptF = s.keptF := by
  unfold execQueueServicePassEnd at h
  cases h
  simp

theorem execCycleBoundary_keptF (lateA : Bool) (lateB : Bool) (misoA : Bytes) (misoB : Bytes) (s u : State) (h : execCycleBoundary lateA lateB misoA misoB s = .next u) : u.keptF = s.keptF := by
  unfold execCycleBoundary at h
  cases h
  (try dsimp only)
  (repeat' split)
  all_goals (try simp)

theorem execCellStart_keptF (c : Cell) (s u : State) (h : execCellStart c s = .next u) : u.keptF = s.keptF := by
  unfold execCellStart at h
  cases h
  simp

theorem execEnhancedAckReceived_keptF (port : Nat) (psdu : Bytes) (s u : State) (h : execEnhancedAckReceived port psdu s = .next u) : u.keptF = s.keptF := by
  unfold execEnhancedAckReceived at h
  cases h
  (try dsimp only)
  (repeat' split)
  all_goals (try simp)

theorem execRadioIrq_keptF (port : Nat) (miso : Bytes) (edge : Int) (s u : State) (h : execRadioIrq port miso edge s = .next u) : u.keptF = s.keptF := by
  unfold execRadioIrq at h
  cases h
  simp

theorem execRadioPollTimeout_keptF (poll : PollIn) (s u : State) (h : execRadioPollTimeout poll s = .next u) : u.keptF = s.keptF := by
  unfold execRadioPollTimeout at h
  cases h
  simp

theorem execFrameReceived_keptF (poll : PollIn) (s u : State) (h : execFrameReceived poll s = .next u) : u.keptF = s.keptF := by
  unfold execFrameReceived at h
  cases h
  (try dsimp only)
  (repeat' split)
  all_goals (try simp)

theorem execBeaconReceived_keptF (src : Nat) (s u : State) (h : execBeaconReceived src s = .next u) : u.keptF = s.keptF := by
  unfold execBeaconReceived at h
  cases h
  simp

theorem execPtpSync_keptF (m : PtpSync) (s u : State) (h : execPtpSync m s = .next u) : u.keptF = s.keptF := by
  unfold execPtpSync at h
  cases h
  simp

theorem execPtpFollowUp_keptF (m : PtpFollow) (s u : State) (h : execPtpFollowUp m s = .next u) : u.keptF = s.keptF := by
  unfold execPtpFollowUp at h
  cases h
  simp

theorem execPpsInEdge_keptF  (s u : State) (h : execPpsInEdge  s = .next u) : u.keptF = s.keptF := by
  unfold execPpsInEdge at h
  cases h
  simp

theorem execNmeaSentence_keptF (text : NmeaIn) (s u : State) (h : execNmeaSentence text s = .next u) : u.keptF = s.keptF := by
  unfold execNmeaSentence at h
  cases h
  simp

theorem execWholeSecond_keptF  (s u : State) (h : execWholeSecond  s = .next u) : u.keptF = s.keptF := by
  unfold execWholeSecond at h
  cases h
  simp

theorem execLeapSecond_keptF  (s u : State) (h : execLeapSecond  s = .next u) : u.keptF = s.keptF := by
  unfold execLeapSecond at h
  cases h
  simp

theorem execRtcTrimLearn_keptF  (s u : State) (h : execRtcTrimLearn  s = .next u) : u.keptF = s.keptF := by
  unfold execRtcTrimLearn at h
  cases h
  simp

theorem execMeterSecondClose_keptF (edges : List Nat) (s u : State) (h : execMeterSecondClose edges s = .next u) : u.keptF = s.keptF := by
  unfold execMeterSecondClose at h
  cases h
  simp

theorem execPfailFall_keptF  (s u : State) (h : execPfailFall  s = .next u) : u.keptF = s.keptF := by
  unfold execPfailFall at h
  cases h
  simp

theorem execRenew_keptF (f : LinkIn) (s u : State) (h : execRenew f s = .next u) : u.keptF = s.keptF := by
  unfold execRenew at h
  cases h
  simp

theorem execCopyEnd_keptF (f : LinkIn) (s u : State) (h : execCopyEnd f s = .next u) : u.keptF = s.keptF := by
  unfold execCopyEnd at h
  cases h
  simp

theorem execTwinTime_keptF (f : LinkIn) (s u : State) (h : execTwinTime f s = .next u) : u.keptF = s.keptF := by
  unfold execTwinTime at h
  cases h
  simp

theorem execPowerEvaluation_keptF  (s u : State) (h : execPowerEvaluation  s = .next u) : u.keptF = s.keptF := by
  unfold execPowerEvaluation at h
  cases h
  simp

theorem execPmicAck_keptF (nack : Bool) (pgood : Bool) (status : Nat) (s u : State) (h : execPmicAck nack pgood status s = .next u) : u.keptF = s.keptF := by
  unfold execPmicAck at h
  cases h
  simp

theorem execPmicAckTimeout_keptF  (s u : State) (h : execPmicAckTimeout  s = .next u) : u.keptF = s.keptF := by
  unfold execPmicAckTimeout at h
  cases h
  simp

theorem execFirmwareFaultAck_keptF (source : Nat) (s u : State) (h : execFirmwareFaultAck source s = .next u) : u.keptF = s.keptF := by
  unfold execFirmwareFaultAck at h
  cases h
  (try dsimp only)
  (repeat' split)
  all_goals (try simp)

theorem execLampPeriodStart_keptF (output : Nat) (s u : State) (h : execLampPeriodStart output s = .next u) : u.keptF = s.keptF := by
  unfold execLampPeriodStart at h
  cases h
  simp

end Sys2Proof.Machine
end

