-- ==== Sys2Proof/Laws/FrameG.lean ====
section
/-! SUPPORT. The frame of the commands of partsLines: what every operation they use, and each of them, leaves alone. -/

namespace Sys2Proof.Machine

set_option Elab.async false

/-- What the commands of partsLines leave alone. -/
def State.keptG (s : State) : Nat × TimeUnit × SettingsSt × MacSt × TrussSt × Otp × SecSt × UpdateSt × SelfTestSt × BootSt × List Instr × Nat :=
  (s.now, s.time, s.set, s.mac, s.truss, s.otp, s.sec, s.upd, s.bist, s.boot, s.pending, s.freeIdx)

@[simp] theorem keptG_modHost (s : State) (f) : (s.modHost f).keptG = s.keptG := by have h : (s.modHost f).keptG = s.keptG := rfl; exact h
@[simp] theorem keptG_modLamp (s : State) (f) : (s.modLamp f).keptG = s.keptG := by have h : (s.modLamp f).keptG = s.keptG := rfl; exact h
@[simp] theorem keptG_modFb (s : State) (f) : (s.modFb f).keptG = s.keptG := by have h : (s.modFb f).keptG = s.keptG := rfl; exact h
@[simp] theorem keptG_modRtc (s : State) (f) : (s.modRtc f).keptG = s.keptG := by have h : (s.modRtc f).keptG = s.keptG := rfl; exact h
@[simp] theorem keptG_modPar (s : State) (f) : (s.modPar f).keptG = s.keptG := by have h : (s.modPar f).keptG = s.keptG := rfl; exact h
@[simp] theorem keptG_modPwr (s : State) (f) : (s.modPwr f).keptG = s.keptG := by have h : (s.modPwr f).keptG = s.keptG := rfl; exact h
@[simp] theorem keptG_modTwin (s : State) (f) : (s.modTwin f).keptG = s.keptG := by have h : (s.modTwin f).keptG = s.keptG := rfl; exact h
@[simp] theorem keptG_modOut (s : State) (f) : (s.modOut f).keptG = s.keptG := by have h : (s.modOut f).keptG = s.keptG := rfl; exact h
@[simp] theorem keptG_modMeter (s : State) (f) : (s.modMeter f).keptG = s.keptG := by have h : (s.modMeter f).keptG = s.keptG := rfl; exact h
@[simp] theorem keptG_foldl {α : Type} (f : State → α → State) (h : ∀ s x, (f s x).keptG = s.keptG) (l : List α) (s : State) :
    (l.foldl f s).keptG = s.keptG := by
  induction l generalizing s with
  | nil => rfl
  | cons a l ih => simp only [List.foldl_cons, ih, h]
@[simp] theorem keptG_ite (c : Prop) [Decidable c] (a b : State) : (if c then a else b).keptG = if c then a.keptG else b.keptG := by
  split <;> rfl
theorem keptG_foldl2 {α : Type} (f : State → α → State) (h : ∀ s x, (f s x).keptG = s.keptG) (l : List α) (s u : State)
    (e : s.keptG = u.keptG) : (l.foldl f s).keptG = u.keptG := by rw [keptG_foldl f h, e]
@[simp] theorem onBank_keptG (k : Nat) (f : State → State) (s : State) (hf : ∀ u, (f u).keptG = u.keptG) : (onBank k f s).keptG = s.keptG := by simp [onBank, hf]
@[simp] theorem twinPut_keptG (type : Nat) (payload : Bytes) (s : State)  : (twinPut type payload s).keptG = s.keptG := by simp [twinPut]
@[simp] theorem twinSend_keptG (type : Nat) (payload : Bytes) (s : State)  : (twinSend type payload s).keptG = s.keptG := by simp [twinSend]
@[simp] theorem State_modSession_keptG (s : State) (sid : Nat) (f : Session → Session)  : (State.modSession s sid f).keptG = s.keptG := by simp [State.modSession]
@[simp] theorem pushNotice_keptG (sid : Nat) (build : Nat → Bytes) (s : State)  : (pushNotice sid build s).keptG = s.keptG := by simp [pushNotice]
@[simp] theorem giveCredits_keptG (sid n : Nat) (s : State)  : (giveCredits sid n s).keptG = s.keptG := by
  unfold giveCredits
  (try dsimp only)
  (repeat' split)
  all_goals (try simp)

@[simp] theorem creditNotice_keptG (sid : Nat) (s : State)  : (creditNotice sid s).keptG = s.keptG := by
  unfold creditNotice
  (try dsimp only)
  (repeat' split)
  all_goals (try simp)

@[simp] theorem noticeTo_keptG (dest : Option Nat) (code tag : Nat) (rec : Bytes) (s : State)  : (noticeTo dest code tag rec s).keptG = s.keptG := by
  unfold noticeTo
  (try dsimp only)
  (repeat' split)
  all_goals (try simp)

@[simp] theorem recordEv_keptG (code source sev : Nat) (payload : Bytes) (dest : Option Nat) (tag : Nat) (s : State)  : (recordEv code source sev payload dest tag s).keptG = s.keptG := by simp [recordEv]
@[simp] theorem ev_keptG (code : Nat) (payload : Bytes) (s : State)  : (ev code payload s).keptG = s.keptG := by simp [ev]
@[simp] theorem evL_keptG (n code : Nat) (payload : Bytes) (s : State)  : (evL n code payload s).keptG = s.keptG := by simp [evL]
@[simp] theorem evS_keptG (sid tag code : Nat) (payload : Bytes) (s : State)  : (evS sid tag code payload s).keptG = s.keptG := by simp [evS]
@[simp] theorem checkBacklog_keptG (sid : Nat) (s : State)  : (checkBacklog sid s).keptG = s.keptG := by
  unfold checkBacklog
  (try dsimp only)
  (repeat' split)
  all_goals (try simp)

@[simp] theorem checkInbound_keptG (s : State)  : (checkInbound s).keptG = s.keptG := by simp [checkInbound]
@[simp] theorem pushBare_keptG (t : Transport) (bytes : Bytes) (seq : Nat) (s : State)  : (pushBare t bytes seq s).keptG = s.keptG := by simp [pushBare]
@[simp] theorem State_modCmd_keptG (s : State) (seq : Nat) (f : LiveCmd → LiveCmd)  : (State.modCmd s seq f).keptG = s.keptG := by simp [State.modCmd]
@[simp] theorem complete_keptG (c : LiveCmd) (status detail : Nat) (params : Bytes) (s : State)  : (complete c status detail params s).keptG = s.keptG := by simp [complete]
@[simp] theorem fail_keptG (c : LiveCmd) (status detail : Nat) (s : State)  : (fail c status detail s).keptG = s.keptG := by simp [fail]
@[simp] theorem completeAll_keptG (p : LiveCmd → Bool) (status detail : Nat) (params : Bytes) (s : State)  : (completeAll p status detail params s).keptG = s.keptG := by simp [completeAll]
@[simp] theorem completeEach_keptG (p : LiveCmd → Bool) (status detail : Nat) (params : LiveCmd → Bytes) (s : State)  : (completeEach p status detail params s).keptG = s.keptG := by simp [completeEach]
@[simp] theorem lateSuccess_keptG (p : LateRec → Bool) (status : Nat) (s : State)  : (lateSuccess p status s).keptG = s.keptG := by simp [lateSuccess]
@[simp] theorem closeSession_keptG (sid : Nat) (s : State)  : (closeSession sid s).keptG = s.keptG := by
  unfold closeSession
  (try dsimp only)
  (repeat' split)
  all_goals (try simp)

@[simp] theorem closeSessions_keptG (p : Session → Bool) (s : State)  : (closeSessions p s).keptG = s.keptG := by
  unfold closeSessions
  (try simp)
  (repeat' (split <;> try simp))

@[simp] theorem takeControl_keptG (a : Agent) (s : State)  : (takeControl a s).keptG = s.keptG := by simp [takeControl]
@[simp] theorem refreshLdEn_keptG (s : State)  : (refreshLdEn s).keptG = s.keptG := by simp [refreshLdEn]
@[simp] theorem writeCopy_keptG (toB : Bool) (t old : TotalsCopy) (s : State)  : (writeCopy toB t old s).keptG = s.keptG := by simp [writeCopy]
@[simp] theorem saveTotals_keptG (kind : Nat) (s : State)  : (saveTotals kind s).keptG = s.keptG := by simp [saveTotals]
@[simp] theorem accountState_keptG (s : State)  : (accountState s).keptG = s.keptG := by simp [accountState]
@[simp] theorem setPState_keptG (q : PState) (s : State)  : (setPState q s).keptG = s.keptG := by simp [setPState]
@[simp] theorem toRun_keptG (s : State)  : (toRun s).keptG = s.keptG := by simp [toRun]
@[simp] theorem dropLeaseOut_keptG (s : State)  : (dropLeaseOut s).keptG = s.keptG := by simp [dropLeaseOut]
@[simp] theorem modJoint_keptG (j : Nat) (f : Joint → Joint) (s : State)  : (modJoint j f s).keptG = s.keptG := rfl
@[simp] theorem crossNote_keptG (j code : Nat) (payload : Bytes) (s : State)  : (crossNote j code payload s).keptG = s.keptG := by simp [crossNote]
@[simp] theorem takeEdges_keptG (ago : Nat) (edges : List Nat) (s : State)  : (takeEdges ago edges s).keptG = s.keptG := by simp [takeEdges]
@[simp] theorem takeBits_keptG (edges : List Nat) (s : State)  : (takeBits edges s).keptG = s.keptG := by simp [takeBits]
@[simp] theorem startPulse_keptG (k : Nat) (s : State)  : (startPulse k s).keptG = s.keptG := by
  unfold startPulse
  (try dsimp only)
  (repeat' split)
  all_goals (try simp)

@[simp] theorem startPulses_keptG (s : State)  : (startPulses s).keptG = s.keptG := by simp [startPulses]
@[simp] theorem duePulses_keptG (k n : Nat) (s : State)  : (duePulses k n s).keptG = s.keptG := by
  unfold duePulses
  (try dsimp only)
  (repeat' split)
  all_goals (try simp)

@[simp] theorem feedPout_keptG (k r x : Nat) (s : State)  : (feedPout k r x s).keptG = s.keptG := by
  unfold feedPout
  (try dsimp only)
  (repeat' split)
  all_goals (try simp)

@[simp] theorem addEnergy_keptG (r x : Nat) (s : State)  : (addEnergy r x s).keptG = s.keptG := by simp [addEnergy]
@[simp] theorem routePair_keptG (r : Nat) (x : Int) (s : State)  : (routePair r x s).keptG = s.keptG := by simp [routePair]
@[simp] theorem routeCycle_keptG (ph : Nat) (e : CycleEnergy) (s : State)  : (routeCycle ph e s).keptG = s.keptG := by simp [routeCycle]
@[simp] theorem routePhase_keptG (ph until_ : Nat) (s : State)  : (routePhase ph until_ s).keptG = s.keptG := by simp [routePhase]
@[simp] theorem noteRouted_keptG (ph : Nat) (s : State)  : (noteRouted ph s).keptG = s.keptG := by simp [noteRouted]
@[simp] theorem routeTotal_keptG (s : State)  : (routeTotal s).keptG = s.keptG := by simp [routeTotal]
@[simp] theorem closeTotals_keptG (until_ : Nat) (s : State)  : (closeTotals until_ s).keptG = s.keptG := by simp [closeTotals]
@[simp] theorem flushNow_keptG (s : State)  : (flushNow s).keptG = s.keptG := by simp [flushNow]
@[simp] theorem zeroCrossing_keptG (ph : Nat) (s : State)  : (zeroCrossing ph s).keptG = s.keptG := by simp [zeroCrossing]
@[simp] theorem windowReason_keptG (bit : Nat) (s : State)  : (windowReason bit s).keptG = s.keptG := by simp [windowReason]
@[simp] theorem markFilled_keptG (s : State)  : (markFilled s).keptG = s.keptG := by simp [markFilled]
@[simp] theorem fillLast_keptG (s : State)  : (fillLast s).keptG = s.keptG := by
  unfold fillLast
  (try dsimp only)
  (repeat' split)
  all_goals (try simp)

@[simp] theorem creditGap_keptG (ns : Nat) (s : State)  : (creditGap ns s).keptG = s.keptG := by simp [creditGap]
@[simp] theorem resumePath_keptG (drop : Bool) (s : State)  : (resumePath drop s).keptG = s.keptG := by simp [resumePath]
@[simp] theorem nextSecond_keptG (freq : Nat) (s : State)  : (nextSecond freq s).keptG = s.keptG := by simp [nextSecond]
@[simp] theorem faultRecord_keptG (source cls : Nat) (payload : Bytes) (s : State)  : (faultRecord source cls payload s).keptG = s.keptG := by simp [faultRecord]
@[simp] theorem raiseCE_keptG (source : Nat) (payload : Bytes) (s : State)  : (raiseCE source payload s).keptG = s.keptG := by simp [raiseCE]
@[simp] theorem runCmd_keptG (op sid tag : Nat) (body : LiveCmd → State → State) (s : State) (hbody : ∀ x0 u, (body x0 u).keptG = u.keptG) : (runCmd op sid tag body s).keptG = s.keptG := by
  unfold runCmd
  (try dsimp only)
  (repeat' split)
  all_goals (try simp [hbody])

@[simp] theorem waitFor_keptG (c : LiveCmd) (w : Wait) (work : List Nat) (s : State)  : (waitFor c w work s).keptG = s.keptG := by simp [waitFor]
@[simp] theorem recordOverrun_keptG (j : Nat) (s : State)  : (recordOverrun j s).keptG = s.keptG := by simp [recordOverrun]
@[simp] theorem recordFlushed_keptG (j : Nat) (s : State)  : (recordFlushed j s).keptG = s.keptG := by simp [recordFlushed]
@[simp] theorem pulseLanded_keptG (j : Nat) (s : State)  : (pulseLanded j s).keptG = s.keptG := by simp [pulseLanded]
@[simp] theorem jointSend_keptG (j : Nat) (s : State)  : (jointSend j s).keptG = s.keptG := by simp [jointSend]
@[simp] theorem landCrossed_keptG (j k : Nat) (s : State)  : (landCrossed j k s).keptG = s.keptG := by simp [landCrossed]
@[simp] theorem crossEv_keptG (j code : Nat) (payload : Bytes) (s : State)  : (crossEv j code payload s).keptG = s.keptG := by simp [crossEv]
@[simp] theorem jointDeliver_keptG (j : Nat) (s : State)  : (jointDeliver j s).keptG = s.keptG := by
  unfold jointDeliver
  (try dsimp only)
  (repeat' split)
  all_goals (try simp)

@[simp] theorem flushJoint_keptG (j : Nat) (s : State)  : (flushJoint j s).keptG = s.keptG := by simp [flushJoint]
@[simp] theorem recordOverruns_keptG (s : State)  : (recordOverruns s).keptG = s.keptG := by simp [recordOverruns]
@[simp] theorem pmbusWrite_keptG (command : Nat) (data : Bytes) (s : State)  : (pmbusWrite command data s).keptG = s.keptG := by simp [pmbusWrite]
@[simp] theorem pmbusRead_keptG (command : Nat) (s : State)  : (pmbusRead command s).keptG = s.keptG := by simp [pmbusRead]
@[simp] theorem sendVout_keptG (exponent : Int) (mv : Nat) (s : State)  : (sendVout exponent mv s).keptG = s.keptG := by simp [sendVout]
@[simp] theorem requestVout_keptG (mv attempt : Nat) (s : State)  : (requestVout mv attempt s).keptG = s.keptG := by simp [requestVout]
@[simp] theorem countAbort_keptG (point : Nat) (s : State)  : (countAbort point s).keptG = s.keptG := by simp [countAbort]
@[simp] theorem beginExit_keptG (s : State)  : (beginExit s).keptG = s.keptG := by simp [beginExit]
@[simp] theorem recordWake_keptG (cause : Nat) (s : State)  : (recordWake cause s).keptG = s.keptG := by simp [recordWake]
@[simp] theorem wakeUp_keptG (cause : Nat) (s : State)  : (wakeUp cause s).keptG = s.keptG := by
  unfold wakeUp
  (try dsimp only)
  (repeat' split)
  all_goals (try simp)

@[simp] theorem fireAlarm_keptG (i flags instants t : Nat) (s : State)  : (fireAlarm i flags instants t s).keptG = s.keptG := by simp [fireAlarm]
@[simp] theorem matchAlarm_keptG (i t : Nat) (s : State)  : (matchAlarm i t s).keptG = s.keptG := by
  unfold matchAlarm
  (try dsimp only)
  (repeat' split)
  all_goals (try simp)

@[simp] theorem rtcAlarmMatch_keptG (s : State)  : (rtcAlarmMatch s).keptG = s.keptG := by simp [rtcAlarmMatch]
@[simp] theorem alarmStep_keptG (i a b : Nat) (s : State)  : (alarmStep i a b s).keptG = s.keptG := by
  unfold alarmStep
  (try dsimp only)
  (repeat' split)
  all_goals (try simp)

@[simp] theorem rtcStepped_keptG (n : Int) (cause : Nat) (s : State)  : (rtcStepped n cause s).keptG = s.keptG := by simp [rtcStepped]
@[simp] theorem rtcMove_keptG (n : Int) (cause : Nat) (adjust : Bool) (s : State)  : (rtcMove n cause adjust s).keptG = s.keptG := by simp [rtcMove]
@[simp] theorem meterRun_keptG (on : Bool) (s : State)  : (meterRun on s).keptG = s.keptG := by simp [meterRun]
@[simp] theorem twinEnable_keptG (on : Bool) (s : State)  : (twinEnable on s).keptG = s.keptG := by simp [twinEnable]
@[simp] theorem commitDone_keptG (block : Nat) (reply : Bytes) (s : State)  : (commitDone block reply s).keptG = s.keptG := by simp [commitDone]
@[simp] theorem clearPouts_keptG (s : State)  : (clearPouts s).keptG = s.keptG := by simp [clearPouts]
@[simp] theorem moveSecond_keptG (a b : Nat) (s : State)  : (moveSecond a b s).keptG = s.keptG := by simp [moveSecond]
@[simp] theorem finishMesh_keptG (q : Nat) (s : State)  : (finishMesh q s).keptG = s.keptG := by
  unfold finishMesh
  (try dsimp only)
  (repeat' split)
  all_goals (try simp)

@[simp] theorem lateMesh_keptG (q : Nat) (s : State)  : (lateMesh q s).keptG = s.keptG := by
  unfold lateMesh
  (try dsimp only)
  (repeat' split)
  all_goals (try simp)

@[simp] theorem addRetries_keptG (q k : Nat) (s : State)  : (addRetries q k s).keptG = s.keptG := by simp [addRetries]
@[simp] theorem expectJoined_keptG (s : State)  : (expectJoined s).keptG = s.keptG := by simp [expectJoined]
@[simp] theorem sendEach_keptG (c : LiveCmd) (work : List Nat) (send : State → State) (s : State) (hsend : ∀ u, (send u).keptG = u.keptG) : (sendEach c work send s).keptG = s.keptG := by simp [sendEach, hsend]
@[simp] theorem staleChallenges_keptG (slot : Nat) (s : State)  : (staleChallenges slot s).keptG = s.keptG := by simp [staleChallenges]
@[simp] theorem tamperRecord_keptG (e : TamperEnt) (inBackup : Bool) (s : State)  : (tamperRecord e inBackup s).keptG = s.keptG := by simp [tamperRecord]
@[simp] theorem timeGet_keptG (c : LiveCmd) (s : State)  : (timeGet c s).keptG = s.keptG := by simp [timeGet]
@[simp] theorem rtcAlarmSet_keptG (c : LiveCmd) (s : State)  : (rtcAlarmSet c s).keptG = s.keptG := by
  unfold rtcAlarmSet
  (try dsimp only)
  (repeat' split)
  all_goals (try simp)

@[simp] theorem checkTableShort_keptG (s : State)  : (checkTableShort s).keptG = s.keptG := by simp [checkTableShort]
@[simp] theorem localTimeTableLoad_keptG (c : LiveCmd) (s : State)  : (localTimeTableLoad c s).keptG = s.keptG := by
  unfold localTimeTableLoad
  (try dsimp only)
  (repeat' split)
  all_goals (try simp)

@[simp] theorem learnSecond_keptG (s : State)  : (learnSecond s).keptG = s.keptG := by simp [learnSecond]
@[simp] theorem extendPins_keptG (s : State)  : (extendPins s).keptG = s.keptG := by simp [extendPins]
@[simp] theorem echo_keptG (c : LiveCmd) (s : State)  : (echo c s).keptG = s.keptG := by simp [echo]
@[simp] theorem deviceInfo_keptG (c : LiveCmd) (s : State)  : (deviceInfo c s).keptG = s.keptG := by simp [deviceInfo]
@[simp] theorem awaitReset_keptG (c : LiveCmd) (type source : Nat) (s : State)  : (awaitReset c type source s).keptG = s.keptG := by simp [awaitReset]
@[simp] theorem resetCmd_keptG (c : LiveCmd) (s : State)  : (resetCmd c s).keptG = s.keptG := by
  unfold resetCmd
  (try dsimp only)
  (repeat' split)
  all_goals (try simp)

@[simp] theorem fence_keptG (c : LiveCmd) (s : State)  : (fence c s).keptG = s.keptG := by simp [fence]
@[simp] theorem noteLocked_keptG (st : Nat) (s : State)  : (noteLocked st s).keptG = s.keptG := by simp [noteLocked]
@[simp] theorem settingRead_keptG (c : LiveCmd) (s : State)  : (settingRead c s).keptG = s.keptG := by
  unfold settingRead
  (try dsimp only)
  (repeat' split)
  all_goals (try simp)

@[simp] theorem closeTransport_keptG (t : Transport) (s : State)  : (closeTransport t s).keptG = s.keptG := by
  unfold closeTransport
  (try dsimp only)
  (repeat' split)
  all_goals (try simp)

@[simp] theorem grantSession_keptG (c : LiveCmd) (n role baud : Nat) (keylessProc : Bool) (s : State)  : (grantSession c n role baud keylessProc s).keptG = s.keptG := by simp [grantSession]
@[simp] theorem refuseOpen_keptG (c : LiveCmd) (st d : Nat) (s : State)  : (refuseOpen c st d s).keptG = s.keptG := by simp [refuseOpen]
@[simp] theorem queueStatus_keptG (c : LiveCmd) (s : State)  : (queueStatus c s).keptG = s.keptG := by simp [queueStatus]
@[simp] theorem faultStatus_keptG (c : LiveCmd) (s : State)  : (faultStatus c s).keptG = s.keptG := by simp [faultStatus]
@[simp] theorem ackReply_keptG (c : LiveCmd) (s : State)  : (ackReply c s).keptG = s.keptG := by simp [ackReply]
@[simp] theorem eventRead_keptG (c : LiveCmd) (s : State)  : (eventRead c s).keptG = s.keptG := by simp [eventRead]
@[simp] theorem clearLog_keptG (q : SidChal) (c : LiveCmd) (s : State)  : (clearLog q c s).keptG = s.keptG := by simp [clearLog]
@[simp] theorem setRate_keptG (code burst refill : Nat) (s : State)  : (setRate code burst refill s).keptG = s.keptG := by simp [setRate]
@[simp] theorem eventRateSet_keptG (c : LiveCmd) (s : State)  : (eventRateSet c s).keptG = s.keptG := by simp [eventRateSet]
@[simp] theorem faultInject_keptG (c : LiveCmd) (s : State)  : (faultInject c s).keptG = s.keptG := by
  unfold faultInject
  (try dsimp only)
  (repeat' split)
  all_goals (try simp)

@[simp] theorem noteInfo_keptG (source : Nat) (info : Bytes) (s : State)  : (noteInfo source info s).keptG = s.keptG := by simp [noteInfo]
@[simp] theorem rearmWatchdog_keptG (core : Nat) (s : State)  : (rearmWatchdog core s).keptG = s.keptG := by simp [rearmWatchdog]
@[simp] theorem copyPage_keptG (s : State)  : (copyPage s).keptG = s.keptG := by simp [copyPage]
@[simp] theorem echoResult_keptG (k asn outcome : Nat) (s : State)  : (echoResult k asn outcome s).keptG = s.keptG := by simp [echoResult]
@[simp] theorem echoFeed_keptG (k asn : Nat) (kind : CellKind) (plain : Bytes) (s : State)  : (echoFeed k asn kind plain s).keptG = s.keptG := by simp [echoFeed]
@[simp] theorem dropFeed_keptG (f : Nat × Nat × Nat × Bytes) (s : State)  : (dropFeed f s).keptG = s.keptG := by simp [dropFeed]
@[simp] theorem correctBeacon_keptG (port at_ : Nat) (s : State)  : (correctBeacon port at_ s).keptG = s.keptG := by simp [correctBeacon]
@[simp] theorem modCh_keptG (n : Nat) (f : LampCh → LampCh) (s : State)  : (modCh n f s).keptG = s.keptG := by simp [modCh]
@[simp] theorem modGroup_keptG (g : Nat) (f : ColSet → ColSet) (s : State)  : (modGroup g f s).keptG = s.keptG := by simp [modGroup]
@[simp] theorem refreshDuty_keptG (ns : List Nat) (s : State)  : (refreshDuty ns s).keptG = s.keptG := by simp [refreshDuty]
@[simp] theorem goManual_keptG (g : Nat) (s : State)  : (goManual g s).keptG = s.keptG := by simp [goManual]
@[simp] theorem setPoint_keptG (g : Nat) (ch : Change) (s : State)  : (setPoint g ch s).keptG = s.keptG := by simp [setPoint]
@[simp] theorem applyLocal_keptG (outs : List Nat) (ch : Change) (s : State)  : (applyLocal outs ch s).keptG = s.keptG := by simp [applyLocal]
@[simp] theorem markDirect_keptG (b : Bool) (outs : List Nat) (s : State)  : (markDirect b outs s).keptG = s.keptG := by simp [markDirect]
@[simp] theorem applyDirect_keptG (outs : List Nat) (ch : Change) (s : State)  : (applyDirect outs ch s).keptG = s.keptG := by simp [applyDirect]
@[simp] theorem applyClaim_keptG (outs : List Nat) (ch : Change) (s : State)  : (applyClaim outs ch s).keptG = s.keptG := by simp [applyClaim]
@[simp] theorem followTop_keptG (outs : List Nat) (fade curve : Nat) (s : State)  : (followTop outs fade curve s).keptG = s.keptG := by simp [followTop]
@[simp] theorem placeClaims_keptG (outs : List Nat) (cl : Claim) (s : State)  : (placeClaims outs cl s).keptG = s.keptG := by simp [placeClaims]
@[simp] theorem endClaims_keptG (outs : List Nat) (p : Claim → Bool) (s : State)  : (endClaims outs p s).keptG = s.keptG := by
  unfold endClaims
  exact keptG_foldl _ (fun u n => by dsimp only; split <;> simp) _ _

@[simp] theorem applyScene_keptG (scene : Nat) (s : State)  : (applyScene scene s).keptG = s.keptG := by
  unfold applyScene
  (try dsimp only)
  (repeat' split)
  all_goals (try simp)

@[simp] theorem applyInstant_keptG (t : Nat) (s : State)  : (applyInstant t s).keptG = s.keptG := by simp [applyInstant]
@[simp] theorem applyDue_keptG (y0 : Nat) (s : State)  : (applyDue y0 s).keptG = s.keptG := by
  induction y0 generalizing s with
  | zero => rfl
  | succ k ih => unfold applyDue; split <;> simp [ih]

@[simp] theorem latchShutdown_keptG (s : State)  : (latchShutdown s).keptG = s.keptG := by simp [latchShutdown]
@[simp] theorem lampLocally_keptG (outs : List Nat) (p : Bytes) (s : State)  : (lampLocally outs p s).keptG = s.keptG := by simp [lampLocally]
@[simp] theorem lampStatus_keptG (c : LiveCmd) (s : State)  : (lampStatus c s).keptG = s.keptG := by simp [lampStatus]
@[simp] theorem placementsDone_keptG (s : State)  : (placementsDone s).keptG = s.keptG := by simp [placementsDone]
@[simp] theorem claimLocal_keptG (p : Policy) (i : Nat) (a : Bytes) (elapsed : Nat) (noFade : Bool) (s : State)  : (claimLocal p i a elapsed noFade s).keptG = s.keptG := by simp [claimLocal]
@[simp] theorem firmwareTakes_keptG (s : State)  : (firmwareTakes s).keptG = s.keptG := by simp [firmwareTakes]
@[simp] theorem policyList_keptG (c : LiveCmd) (s : State)  : (policyList c s).keptG = s.keptG := by simp [policyList]
@[simp] theorem placementRead_keptG (c : LiveCmd) (s : State)  : (placementRead c s).keptG = s.keptG := by simp [placementRead]
@[simp] theorem topologyRead_keptG (c : LiveCmd) (s : State)  : (topologyRead c s).keptG = s.keptG := by simp [topologyRead]
@[simp] theorem dwellStatus_keptG (c : LiveCmd) (s : State)  : (dwellStatus c s).keptG = s.keptG := by
  unfold dwellStatus
  (try dsimp only)
  (repeat' split)
  all_goals (try simp)

@[simp] theorem joinRefused_keptG (eui reason proxy : Nat) (s : State)  : (joinRefused eui reason proxy s).keptG = s.keptG := by simp [joinRefused]
@[simp] theorem settleGap_keptG (s : State)  : (settleGap s).keptG = s.keptG := by simp [settleGap]
@[simp] theorem returnClock_keptG (edges : List Nat) (s : State)  : (returnClock edges s).keptG = s.keptG := by simp [returnClock]
@[simp] theorem presenceSecond_keptG (s : State)  : (presenceSecond s).keptG = s.keptG := by
  unfold presenceSecond
  (try dsimp only)
  (repeat' split)
  all_goals (try simp)

@[simp] theorem saveSecond_keptG (s : State)  : (saveSecond s).keptG = s.keptG := by simp [saveSecond]
@[simp] theorem restartSecond_keptG (s : State)  : (restartSecond s).keptG = s.keptG := by
  unfold restartSecond
  (try dsimp only)
  (repeat' split)
  all_goals (try simp)

@[simp] theorem windowSecond_keptG (s : State)  : (windowSecond s).keptG = s.keptG := by
  unfold windowSecond
  (try dsimp only)
  (repeat' split)
  all_goals (try simp)

@[simp] theorem flushTotals_keptG (s : State)  : (flushTotals s).keptG = s.keptG := by
  unfold flushTotals
  (try dsimp only)
  (repeat' split)
  all_goals (try simp)

@[simp] theorem noteResult_keptG (r : ReconRes) (need : Nat) (s : State)  : (noteResult r need s).keptG = s.keptG := by simp [noteResult]
@[simp] theorem reconcile_keptG (w : ReconWin) (s : State)  : (reconcile w s).keptG = s.keptG := by simp [reconcile]
@[simp] theorem reconcilePrev_keptG (s : State)  : (reconcilePrev s).keptG = s.keptG := by
  unfold reconcilePrev
  (try dsimp only)
  (repeat' split)
  all_goals (try simp)

@[simp] theorem windowEnds_keptG (c : Nat) (s : State)  : (windowEnds c s).keptG = s.keptG := by simp [windowEnds]
@[simp] theorem windowBegins_keptG (c : Nat) (s : State)  : (windowBegins c s).keptG = s.keptG := by simp [windowBegins]
@[simp] theorem windowsStop_keptG (s : State)  : (windowsStop s).keptG = s.keptG := by
  unfold windowsStop
  (try dsimp only)
  (repeat' split)
  all_goals (try simp)

@[simp] theorem modWindow_keptG (start : Nat) (f : ReconWin → ReconWin) (s : State)  : (modWindow start f s).keptG = s.keptG := by simp [modWindow]
@[simp] theorem energyAggregate_keptG (head : Nat) (p : Bytes) (s : State)  : (energyAggregate head p s).keptG = s.keptG := by simp [energyAggregate]
@[simp] theorem standbyWindow_keptG (s : State)  : (standbyWindow s).keptG = s.keptG := by
  unfold standbyWindow
  (try dsimp only)
  (repeat' split)
  all_goals (try simp)

@[simp] theorem meterRead_keptG (c : LiveCmd) (s : State)  : (meterRead c s).keptG = s.keptG := by simp [meterRead]
@[simp] theorem energyRead_keptG (c : LiveCmd) (s : State)  : (energyRead c s).keptG = s.keptG := by simp [energyRead]
@[simp] theorem pulseInputRead_keptG (c : LiveCmd) (s : State)  : (pulseInputRead c s).keptG = s.keptG := by simp [pulseInputRead]
@[simp] theorem reconcileRead_keptG (c : LiveCmd) (s : State)  : (reconcileRead c s).keptG = s.keptG := by simp [reconcileRead]
@[simp] theorem meterCalibrate_keptG (c : LiveCmd) (s : State)  : (meterCalibrate c s).keptG = s.keptG := by simp [meterCalibrate]
@[simp] theorem selftestResult_keptG (c : LiveCmd) (s : State)  : (selftestResult c s).keptG = s.keptG := by
  unfold selftestResult
  (try dsimp only)
  (repeat' split)
  all_goals (try simp)

@[simp] theorem sendHealth_keptG (s : State)  : (sendHealth s).keptG = s.keptG := by simp [sendHealth]
@[simp] theorem sendHello_keptG (s : State)  : (sendHello s).keptG = s.keptG := by simp [sendHello]
@[simp] theorem heard_keptG (s : State)  : (heard s).keptG = s.keptG := by simp [heard]
@[simp] theorem frameBad_keptG (s : State)  : (frameBad s).keptG = s.keptG := by simp [frameBad]
@[simp] theorem onLink_keptG (type : Nat) (f : LinkIn) (k : State → State) (s : State) (hk : ∀ u, (k u).keptG = u.keptG) : (onLink type f k s).keptG = s.keptG := by simp [onLink, hk]
@[simp] theorem assertLease_keptG (cause : Nat) (s : State)  : (assertLease cause s).keptG = s.keptG := by simp [assertLease]
@[simp] theorem linkUp_keptG (h : PeerHello) (s : State)  : (linkUp h s).keptG = s.keptG := by simp [linkUp]
@[simp] theorem trainLink_keptG (s : State)  : (trainLink s).keptG = s.keptG := by
  unfold trainLink
  (try dsimp only)
  (repeat' split)
  all_goals (try simp)

@[simp] theorem twinHello_keptG (f : LinkIn) (s : State)  : (twinHello f s).keptG = s.keptG := by simp [twinHello]
@[simp] theorem inSequence_keptG (type : Nat) (f : LinkIn) (ok : State → State) (s : State) (hok : ∀ u, (ok u).keptG = u.keptG) : (inSequence type f ok s).keptG = s.keptG := by
  unfold inSequence
  (try dsimp only)
  (repeat' split)
  all_goals (try simp [hok])

@[simp] theorem nak_keptG (f : LinkIn) (s : State)  : (nak f s).keptG = s.keptG := by simp [nak]
@[simp] theorem renewAndCopy_keptG (cycle : Nat) (step : Int) (s : State)  : (renewAndCopy cycle step s).keptG = s.keptG := by simp [renewAndCopy]
@[simp] theorem copySegment_keptG (f : LinkIn) (s : State)  : (copySegment f s).keptG = s.keptG := by
  unfold copySegment
  exact inSequence_keptG _ _ _ _ (fun _ => rfl)

@[simp] theorem yieldDone_keptG (cycle : Nat) (s : State)  : (yieldDone cycle s).keptG = s.keptG := by simp [yieldDone]
@[simp] theorem standbyCycle_keptG (s : State)  : (standbyCycle s).keptG = s.keptG := by simp [standbyCycle]
@[simp] theorem journalFrame_keptG (f : LinkIn) (s : State)  : (journalFrame f s).keptG = s.keptG := by simp [journalFrame]
@[simp] theorem journalAck_keptG (f : LinkIn) (s : State)  : (journalAck f s).keptG = s.keptG := by
  unfold journalAck
  (try dsimp only)
  (repeat' split)
  all_goals (try simp)

@[simp] theorem journalAccept_keptG (c : LiveCmd) (s : State)  : (journalAccept c s).keptG = s.keptG := by simp [journalAccept]
@[simp] theorem echoFed_keptG (f : LinkIn) (s : State)  : (echoFed f s).keptG = s.keptG := by simp [echoFed]
@[simp] theorem timeExchange_keptG (s : State)  : (timeExchange s).keptG = s.keptG := by simp [timeExchange]
@[simp] theorem resumeMeter_keptG (img : CopyImage) (s : State)  : (resumeMeter img s).keptG = s.keptG := by simp [resumeMeter]
@[simp] theorem resumeAlarms_keptG (img : CopyImage) (s : State)  : (resumeAlarms img s).keptG = s.keptG := by simp [resumeAlarms]
@[simp] theorem reportUnknown_keptG (us : List JournalEnt) (s : State)  : (reportUnknown us s).keptG = s.keptG := by simp [reportUnknown]
@[simp] theorem takeoverWindow_keptG (s : State)  : (takeoverWindow s).keptG = s.keptG := by simp [takeoverWindow]
@[simp] theorem leaseInDeassert_keptG (s : State)  : (leaseInDeassert s).keptG = s.keptG := by simp [leaseInDeassert]
@[simp] theorem noteUnhealthy_keptG (s : State)  : (noteUnhealthy s).keptG = s.keptG := by simp [noteUnhealthy]
@[simp] theorem twinStatus_keptG (c : LiveCmd) (s : State)  : (twinStatus c s).keptG = s.keptG := by simp [twinStatus]
@[simp] theorem leaseYield_keptG (c : LiveCmd) (s : State)  : (leaseYield c s).keptG = s.keptG := by simp [leaseYield]
@[simp] theorem countRefusals_keptG (l : List Nat) (s : State)  : (countRefusals l s).keptG = s.keptG := by simp [countRefusals]
@[simp] theorem countEntry_keptG (q : PState) (s : State)  : (countEntry q s).keptG = s.keptG := by simp [countEntry]
@[simp] theorem beginEntry_keptG (s : State)  : (beginEntry s).keptG = s.keptG := by simp [beginEntry]
@[simp] theorem applyOpPoint_keptG (s : State)  : (applyOpPoint s).keptG = s.keptG := by simp [applyOpPoint]
@[simp] theorem enterSlumber_keptG (s : State)  : (enterSlumber s).keptG = s.keptG := by simp [enterSlumber]
@[simp] theorem meterResumes_keptG (s : State)  : (meterResumes s).keptG = s.keptG := by
  unfold meterResumes
  (try dsimp only)
  (repeat' split)
  all_goals (try simp)

@[simp] theorem abandonAt_keptG (point : Nat) (s : State)  : (abandonAt point s).keptG = s.keptG := by simp [abandonAt]
@[simp] theorem checkinTick_keptG (s : State)  : (checkinTick s).keptG = s.keptG := by simp [checkinTick]
@[simp] theorem powerStatus_keptG (c : LiveCmd) (s : State)  : (powerStatus c s).keptG = s.keptG := by simp [powerStatus]
@[simp] theorem powerRefusalsRead_keptG (c : LiveCmd) (s : State)  : (powerRefusalsRead c s).keptG = s.keptG := by simp [powerRefusalsRead]
@[simp] theorem endFragments_keptG (s : State)  : (endFragments s).keptG = s.keptG := by simp [endFragments]
@[simp] theorem restoreTotals_keptG (s : State)  : (restoreTotals s).keptG = s.keptG := by
  unfold restoreTotals
  (try dsimp only)
  (repeat' split)
  all_goals (try simp)

@[simp] theorem restartEvents_keptG (cold : Bool) (s : State)  : (restartEvents cold s).keptG = s.keptG := by simp [restartEvents]
@[simp] theorem alarmStart_keptG (i : Nat) (s : State)  : (alarmStart i s).keptG = s.keptG := by
  unfold alarmStart
  (try dsimp only)
  (repeat' split)
  all_goals (try simp)

@[simp] theorem resetCause_keptG (s : State)  : (resetCause s).keptG = s.keptG := by simp [resetCause]
@[simp] theorem testFails_keptG (origin : Nat) (l : List (TestUnit × List (Nat × Nat))) (s : State)  : (testFails origin l s).keptG = s.keptG := by simp [testFails]
@[simp] theorem writeLatch_keptG (s : State)  : (writeLatch s).keptG = s.keptG := by simp [writeLatch]
@[simp] theorem romSend_keptG (b : Bytes) (s : State)  : (romSend b s).keptG = s.keptG := by simp [romSend]
@[simp] theorem romHello_keptG (s : State)  : (romHello s).keptG = s.keptG := by simp [romHello]
@[simp] theorem refusePacket_keptG (t : Transport) (sid : Option Nat) (b : Bytes) (st d : Nat) (s : State)  : (refusePacket t sid b st d s).keptG = s.keptG := by
  unfold refusePacket
  (try dsimp only)
  (repeat' split)
  all_goals (try simp)

@[simp] theorem safeReply_keptG (t : Transport) (charged : Bool) (b : Bytes) (st d seq : Nat) (s : State)  : (safeReply t charged b st d seq s).keptG = s.keptG := by
  unfold safeReply
  (try dsimp only)
  (repeat' split)
  all_goals (try simp)

@[simp] theorem safeAnswer_keptG (t : Transport) (charged : Bool) (b : Bytes) (s : State)  : (safeAnswer t charged b s).keptG = s.keptG := by
  unfold safeAnswer
  (try dsimp only)
  (repeat' split)
  all_goals (try simp)

@[simp] theorem enqueue_keptG (e : InEntry) (s : State)  : (enqueue e s).keptG = s.keptG := by simp [enqueue]
@[simp] theorem offerOn_keptG (t : Transport) (n : Nat) (x : Session) (b : Bytes) (s : State)  : (offerOn t n x b s).keptG = s.keptG := by simp [offerOn]
@[simp] theorem offerLocal_keptG (t : Transport) (b : Bytes) (s : State)  : (offerLocal t b s).keptG = s.keptG := by
  unfold offerLocal
  (try dsimp only)
  (repeat' split)
  all_goals (try simp)

@[simp] theorem dropOut_keptG (t : Transport) (sid : Option Nat) (p : OutPkt) (s : State)  : (dropOut t sid p s).keptG = s.keptG := by
  unfold dropOut
  (try dsimp only)
  (repeat' split)
  all_goals (try simp)

@[simp] theorem modWin_keptG (f : Window → Window) (s : State)  : (modWin f s).keptG = s.keptG := by simp [modWin]
@[simp] theorem hspi_keptG (f : State → State) (s : State) (hf : ∀ u, (f u).keptG = u.keptG) : (hspi f s).keptG = s.keptG := by simp [hspi, hf]
@[simp] theorem writeStatus_keptG (v : Nat) (s : State)  : (writeStatus v s).keptG = s.keptG := by simp [writeStatus]
@[simp] theorem writeCause_keptG (v : Nat) (s : State)  : (writeCause v s).keptG = s.keptG := by simp [writeCause]
@[simp] theorem ethDrop_keptG (s : State)  : (ethDrop s).keptG = s.keptG := by simp [ethDrop]
@[simp] theorem ethOut_keptG (peer : Nat) (b : Bytes) (s : State)  : (ethOut peer b s).keptG = s.keptG := by simp [ethOut]
@[simp] theorem refuseHandshake_keptG (peer st : Nat) (s : State)  : (refuseHandshake peer st s).keptG = s.keptG := by simp [refuseHandshake]
@[simp] theorem takePacket_keptG (n : Nat) (b : Bytes) (s : State)  : (takePacket n b s).keptG = s.keptG := by
  unfold takePacket
  (try dsimp only)
  (repeat' split)
  all_goals (try simp)

@[simp] theorem modChan_keptG (n : Nat) (f : EthChan → EthChan) (s : State)  : (modChan n f s).keptG = s.keptG := by simp [modChan]
@[simp] theorem takeHeld_keptG (n : Nat) (y0 : Nat) (s : State)  : (takeHeld n y0 s).keptG = s.keptG := by
  induction y0 generalizing s with
  | zero => rfl
  | succ k ih => unfold takeHeld; (repeat' split) <;> simp [ih]

@[simp] theorem dataIn_keptG (peer : Nat) (p : Bytes) (s : State)  : (dataIn peer p s).keptG = s.keptG := by
  unfold dataIn
  (try dsimp only)
  (repeat' split)
  all_goals (try simp)

@[simp] theorem reorderTimeout_keptG (n : Nat) (s : State)  : (reorderTimeout n s).keptG = s.keptG := by
  unfold reorderTimeout
  (try dsimp only)
  (repeat' split)
  all_goals (try simp)

@[simp] theorem oweLate_keptG (c : LiveCmd) (mesh : Bool) (s : State)  : (oweLate c mesh s).keptG = s.keptG := by simp [oweLate]
@[simp] theorem loseRecord_keptG (index : Nat) (s : State)  : (loseRecord index s).keptG = s.keptG := by simp [loseRecord]
@[simp] theorem loseTotals_keptG (copy : Nat) (s : State)  : (loseTotals copy s).keptG = s.keptG := by simp [loseTotals]
@[simp] theorem tickRtc_keptG (s : State)  : (tickRtc s).keptG = s.keptG := by simp [tickRtc]
@[simp] theorem tickWatchdogs_keptG (s : State)  : (tickWatchdogs s).keptG = s.keptG := by simp [tickWatchdogs]
@[simp] theorem tickHealth_keptG (s : State)  : (tickHealth s).keptG = s.keptG := by simp [tickHealth]
theorem execRtcAlarmSet_keptG (sid : Nat) (tag : Nat) (s u : State) (h : execRtcAlarmSet sid tag s = .next u) : u.keptG = s.keptG := by
  unfold execRtcAlarmSet at h
  cases h
  simp

theorem execLocalTimeTableLoad_keptG (sid : Nat) (tag : Nat) (s u : State) (h : execLocalTimeTableLoad sid tag s = .next u) : u.keptG = s.keptG := by
  unfold execLocalTimeTableLoad at h
  cases h
  simp

theorem execPulseInputRead_keptG (sid : Nat) (tag : Nat) (s u : State) (h : execPulseInputRead sid tag s = .next u) : u.keptG = s.keptG := by
  unfold execPulseInputRead at h
  cases h
  simp

theorem execMeterCalibrate_keptG (sid : Nat) (tag : Nat) (s u : State) (h : execMeterCalibrate sid tag s = .next u) : u.keptG = s.keptG := by
  unfold execMeterCalibrate at h
  cases h
  simp

theorem execRtcAlarmMatch_keptG  (s u : State) (h : execRtcAlarmMatch  s = .next u) : u.keptG = s.keptG := by
  unfold execRtcAlarmMatch at h
  cases h
  simp

theorem execFallbackKeepaliveRenew_keptG  (s u : State) (h : execFallbackKeepaliveRenew  s = .next u) : u.keptG = s.keptG := by
  unfold execFallbackKeepaliveRenew at h
  cases h
  simp

theorem execLineZeroCrossing_keptG (phase : Nat) (edges : List Nat) (s u : State) (h : execLineZeroCrossing phase edges s = .next u) : u.keptG = s.keptG := by
  unfold execLineZeroCrossing at h
  cases h
  simp

theorem execRoutingTimeout_keptG (phase : Nat) (edges : List Nat) (s u : State) (h : execRoutingTimeout phase edges s = .next u) : u.keptG = s.keptG := by
  unfold execRoutingTimeout at h
  cases h
  simp

theorem execPinDebounceExpiry_keptG (input : Nat) (s u : State) (h : execPinDebounceExpiry input s = .next u) : u.keptG = s.keptG := by
  unfold execPinDebounceExpiry at h
  cases h
  (try dsimp only)
  (repeat' split)
  all_goals (try simp)

theorem execReconcileWindow_keptG  (s u : State) (h : execReconcileWindow  s = .next u) : u.keptG = s.keptG := by
  unfold execReconcileWindow at h
  cases h
  (try dsimp only)
  (repeat' split)
  all_goals (try simp)

theorem execStandbyMeterWindow_keptG  (s u : State) (h : execStandbyMeterWindow  s = .next u) : u.keptG = s.keptG := by
  unfold execStandbyMeterWindow at h
  cases h
  simp

theorem execTwinHello_keptG (f : LinkIn) (s u : State) (h : execTwinHello f s = .next u) : u.keptG = s.keptG := by
  unfold execTwinHello at h
  cases h
  simp

theorem execLeaseInDeassert_keptG  (s u : State) (h : execLeaseInDeassert  s = .next u) : u.keptG = s.keptG := by
  unfold execLeaseInDeassert at h
  cases h
  simp

theorem execWake_keptG (cause : Nat) (s u : State) (h : execWake cause s = .next u) : u.keptG = s.keptG := by
  unfold execWake at h
  cases h
  simp

theorem execKnownEventTimer_keptG  (s u : State) (h : execKnownEventTimer  s = .next u) : u.keptG = s.keptG := by
  unfold execKnownEventTimer at h
  cases h
  (try dsimp only)
  (repeat' split)
  all_goals (try simp)

theorem execPmAlert_keptG (status : Nat) (s u : State) (h : execPmAlert status s = .next u) : u.keptG = s.keptG := by
  unfold execPmAlert at h
  cases h
  simp

theorem execJointDelivery_keptG (joint : Nat) (s u : State) (h : execJointDelivery joint s = .next u) : u.keptG = s.keptG := by
  unfold execJointDelivery at h
  cases h
  simp

theorem execJointSideReset_keptG (joint : Nat) (s u : State) (h : execJointSideReset joint s = .next u) : u.keptG = s.keptG := by
  unfold execJointSideReset at h
  cases h
  simp

theorem execLdFaultFall_keptG  (s u : State) (h : execLdFaultFall  s = .next u) : u.keptG = s.keptG := by
  unfold execLdFaultFall at h
  cases h
  simp

theorem execLdFaultFilterExpiry_keptG  (s u : State) (h : execLdFaultFilterExpiry  s = .next u) : u.keptG = s.keptG := by
  unfold execLdFaultFilterExpiry at h
  cases h
  simp

theorem execLdFaultRise_keptG  (s u : State) (h : execLdFaultRise  s = .next u) : u.keptG = s.keptG := by
  unfold execLdFaultRise at h
  cases h
  simp

theorem execModClkReturn_keptG (edges : List Nat) (s u : State) (h : execModClkReturn edges s = .next u) : u.keptG = s.keptG := by
  unfold execModClkReturn at h
  cases h
  simp

end Sys2Proof.Machine
end

