-- ==== Sys2Proof/Laws/FrameH.lean ====
section
/-! SUPPORT. The frame of the commands of partsStore: what every operation they use, and each of them, leaves alone. -/

namespace Sys2Proof.Machine

set_option Elab.async false

/-- What the commands of partsStore leave alone. -/
def State.keptH (s : State) : Nat × Fallback × SettingsSt × List Joint × MacSt × TrussSt × LampSt × MeterSt × Otp × BootSt × List Instr :=
  (s.now, s.fb, s.set, s.joints, s.mac, s.truss, s.lamp, s.meter, s.otp, s.boot, s.pending)

@[simp] theorem keptH_modHost (s : State) (f) : (s.modHost f).keptH = s.keptH := by have h : (s.modHost f).keptH = s.keptH := rfl; exact h
@[simp] theorem keptH_modTime (s : State) (f) : (s.modTime f).keptH = s.keptH := by have h : (s.modTime f).keptH = s.keptH := rfl; exact h
@[simp] theorem keptH_modRtc (s : State) (f) : (s.modRtc f).keptH = s.keptH := by have h : (s.modRtc f).keptH = s.keptH := rfl; exact h
@[simp] theorem keptH_modPar (s : State) (f) : (s.modPar f).keptH = s.keptH := by have h : (s.modPar f).keptH = s.keptH := rfl; exact h
@[simp] theorem keptH_modSec (s : State) (f) : (s.modSec f).keptH = s.keptH := by have h : (s.modSec f).keptH = s.keptH := rfl; exact h
@[simp] theorem keptH_modUpd (s : State) (f) : (s.modUpd f).keptH = s.keptH := by have h : (s.modUpd f).keptH = s.keptH := rfl; exact h
@[simp] theorem keptH_modBist (s : State) (f) : (s.modBist f).keptH = s.keptH := by have h : (s.modBist f).keptH = s.keptH := rfl; exact h
@[simp] theorem keptH_modPwr (s : State) (f) : (s.modPwr f).keptH = s.keptH := by have h : (s.modPwr f).keptH = s.keptH := rfl; exact h
@[simp] theorem keptH_draw (s : State) : s.draw.keptH = s.keptH := by have h : s.draw.keptH = s.keptH := rfl; exact h
@[simp] theorem keptH_free (s : State) (n : Nat) : ({ s with freeIdx := n } : State).keptH = s.keptH := rfl
@[simp] theorem keptH_modTwin (s : State) (f) : (s.modTwin f).keptH = s.keptH := by have h : (s.modTwin f).keptH = s.keptH := rfl; exact h
@[simp] theorem keptH_modOut (s : State) (f) : (s.modOut f).keptH = s.keptH := by have h : (s.modOut f).keptH = s.keptH := rfl; exact h
@[simp] theorem keptH_foldl {α : Type} (f : State → α → State) (h : ∀ s x, (f s x).keptH = s.keptH) (l : List α) (s : State) :
    (l.foldl f s).keptH = s.keptH := by
  induction l generalizing s with
  | nil => rfl
  | cons a l ih => simp only [List.foldl_cons, ih, h]
@[simp] theorem keptH_ite (c : Prop) [Decidable c] (a b : State) : (if c then a else b).keptH = if c then a.keptH else b.keptH := by
  split <;> rfl
theorem keptH_foldl2 {α : Type} (f : State → α → State) (h : ∀ s x, (f s x).keptH = s.keptH) (l : List α) (s u : State)
    (e : s.keptH = u.keptH) : (l.foldl f s).keptH = u.keptH := by rw [keptH_foldl f h, e]
@[simp] theorem onBank_keptH (k : Nat) (f : State → State) (s : State) (hf : ∀ u, (f u).keptH = u.keptH) : (onBank k f s).keptH = s.keptH := by simp [onBank, hf]
@[simp] theorem twinPut_keptH (type : Nat) (payload : Bytes) (s : State)  : (twinPut type payload s).keptH = s.keptH := by simp [twinPut]
@[simp] theorem twinSend_keptH (type : Nat) (payload : Bytes) (s : State)  : (twinSend type payload s).keptH = s.keptH := by simp [twinSend]
@[simp] theorem State_modSession_keptH (s : State) (sid : Nat) (f : Session → Session)  : (State.modSession s sid f).keptH = s.keptH := by simp [State.modSession]
@[simp] theorem pushNotice_keptH (sid : Nat) (build : Nat → Bytes) (s : State)  : (pushNotice sid build s).keptH = s.keptH := by simp [pushNotice]
@[simp] theorem giveCredits_keptH (sid n : Nat) (s : State)  : (giveCredits sid n s).keptH = s.keptH := by
  unfold giveCredits
  (try dsimp only)
  (repeat' split)
  all_goals (try simp)

@[simp] theorem creditNotice_keptH (sid : Nat) (s : State)  : (creditNotice sid s).keptH = s.keptH := by
  unfold creditNotice
  (try dsimp only)
  (repeat' split)
  all_goals (try simp)

@[simp] theorem noticeTo_keptH (dest : Option Nat) (code tag : Nat) (rec : Bytes) (s : State)  : (noticeTo dest code tag rec s).keptH = s.keptH := by
  unfold noticeTo
  (try dsimp only)
  (repeat' split)
  all_goals (try simp)

@[simp] theorem recordEv_keptH (code source sev : Nat) (payload : Bytes) (dest : Option Nat) (tag : Nat) (s : State)  : (recordEv code source sev payload dest tag s).keptH = s.keptH := by simp [recordEv]
@[simp] theorem ev_keptH (code : Nat) (payload : Bytes) (s : State)  : (ev code payload s).keptH = s.keptH := by simp [ev]
@[simp] theorem evL_keptH (n code : Nat) (payload : Bytes) (s : State)  : (evL n code payload s).keptH = s.keptH := by simp [evL]
@[simp] theorem evS_keptH (sid tag code : Nat) (payload : Bytes) (s : State)  : (evS sid tag code payload s).keptH = s.keptH := by simp [evS]
@[simp] theorem checkBacklog_keptH (sid : Nat) (s : State)  : (checkBacklog sid s).keptH = s.keptH := by
  unfold checkBacklog
  (try dsimp only)
  (repeat' split)
  all_goals (try simp)

@[simp] theorem checkInbound_keptH (s : State)  : (checkInbound s).keptH = s.keptH := by simp [checkInbound]
@[simp] theorem pushBare_keptH (t : Transport) (bytes : Bytes) (seq : Nat) (s : State)  : (pushBare t bytes seq s).keptH = s.keptH := by simp [pushBare]
@[simp] theorem State_modCmd_keptH (s : State) (seq : Nat) (f : LiveCmd → LiveCmd)  : (State.modCmd s seq f).keptH = s.keptH := by simp [State.modCmd]
@[simp] theorem complete_keptH (c : LiveCmd) (status detail : Nat) (params : Bytes) (s : State)  : (complete c status detail params s).keptH = s.keptH := by simp [complete]
@[simp] theorem fail_keptH (c : LiveCmd) (status detail : Nat) (s : State)  : (fail c status detail s).keptH = s.keptH := by simp [fail]
@[simp] theorem completeAll_keptH (p : LiveCmd → Bool) (status detail : Nat) (params : Bytes) (s : State)  : (completeAll p status detail params s).keptH = s.keptH := by simp [completeAll]
@[simp] theorem completeEach_keptH (p : LiveCmd → Bool) (status detail : Nat) (params : LiveCmd → Bytes) (s : State)  : (completeEach p status detail params s).keptH = s.keptH := by simp [completeEach]
@[simp] theorem lateSuccess_keptH (p : LateRec → Bool) (status : Nat) (s : State)  : (lateSuccess p status s).keptH = s.keptH := by simp [lateSuccess]
@[simp] theorem closeSession_keptH (sid : Nat) (s : State)  : (closeSession sid s).keptH = s.keptH := by
  unfold closeSession
  (try dsimp only)
  (repeat' split)
  all_goals (try simp)

@[simp] theorem closeSessions_keptH (p : Session → Bool) (s : State)  : (closeSessions p s).keptH = s.keptH := by
  unfold closeSessions
  (try simp)
  (repeat' (split <;> try simp))

@[simp] theorem setAddend_keptH (a : Int) (s : State)  : (setAddend a s).keptH = s.keptH := by simp [setAddend]
@[simp] theorem toHoldover_keptH (s : State)  : (toHoldover s).keptH = s.keptH := by simp [toHoldover]
@[simp] theorem accountState_keptH (s : State)  : (accountState s).keptH = s.keptH := by simp [accountState]
@[simp] theorem setPState_keptH (q : PState) (s : State)  : (setPState q s).keptH = s.keptH := by simp [setPState]
@[simp] theorem toRun_keptH (s : State)  : (toRun s).keptH = s.keptH := by simp [toRun]
@[simp] theorem dropLeaseOut_keptH (s : State)  : (dropLeaseOut s).keptH = s.keptH := by simp [dropLeaseOut]
@[simp] theorem faultRecord_keptH (source cls : Nat) (payload : Bytes) (s : State)  : (faultRecord source cls payload s).keptH = s.keptH := by simp [faultRecord]
@[simp] theorem raiseCE_keptH (source : Nat) (payload : Bytes) (s : State)  : (raiseCE source payload s).keptH = s.keptH := by simp [raiseCE]
@[simp] theorem runCmd_keptH (op sid tag : Nat) (body : LiveCmd → State → State) (s : State) (hbody : ∀ x0 u, (body x0 u).keptH = u.keptH) : (runCmd op sid tag body s).keptH = s.keptH := by
  unfold runCmd
  (try dsimp only)
  (repeat' split)
  all_goals (try simp [hbody])

@[simp] theorem waitFor_keptH (c : LiveCmd) (w : Wait) (work : List Nat) (s : State)  : (waitFor c w work s).keptH = s.keptH := by simp [waitFor]
@[simp] theorem landCrossed_keptH (j k : Nat) (s : State)  : (landCrossed j k s).keptH = s.keptH := by simp [landCrossed]
@[simp] theorem pmbusWrite_keptH (command : Nat) (data : Bytes) (s : State)  : (pmbusWrite command data s).keptH = s.keptH := by simp [pmbusWrite]
@[simp] theorem pmbusRead_keptH (command : Nat) (s : State)  : (pmbusRead command s).keptH = s.keptH := by simp [pmbusRead]
@[simp] theorem sendVout_keptH (exponent : Int) (mv : Nat) (s : State)  : (sendVout exponent mv s).keptH = s.keptH := by simp [sendVout]
@[simp] theorem requestVout_keptH (mv attempt : Nat) (s : State)  : (requestVout mv attempt s).keptH = s.keptH := by simp [requestVout]
@[simp] theorem countAbort_keptH (point : Nat) (s : State)  : (countAbort point s).keptH = s.keptH := by simp [countAbort]
@[simp] theorem beginExit_keptH (s : State)  : (beginExit s).keptH = s.keptH := by simp [beginExit]
@[simp] theorem rtcStepped_keptH (n : Int) (cause : Nat) (s : State)  : (rtcStepped n cause s).keptH = s.keptH := by simp [rtcStepped]
@[simp] theorem caseLevel_keptH (high : Bool) (s : State)  : (caseLevel high s).keptH = s.keptH := by simp [caseLevel]
@[simp] theorem commitDone_keptH (block : Nat) (reply : Bytes) (s : State)  : (commitDone block reply s).keptH = s.keptH := by simp [commitDone]
@[simp] theorem modSource_keptH (c : Nat) (f : Source → Source) (s : State)  : (modSource c f s).keptH = s.keptH := by simp [modSource]
@[simp] theorem countMeasurement_keptH (c : Nat) (x : Int) (s : State)  : (countMeasurement c x s).keptH = s.keptH := by simp [countMeasurement]
@[simp] theorem servo_keptH (x : Int) (s : State)  : (servo x s).keptH = s.keptH := by simp [servo]
@[simp] theorem finishMesh_keptH (q : Nat) (s : State)  : (finishMesh q s).keptH = s.keptH := by
  unfold finishMesh
  (try dsimp only)
  (repeat' split)
  all_goals (try simp)

@[simp] theorem lateMesh_keptH (q : Nat) (s : State)  : (lateMesh q s).keptH = s.keptH := by
  unfold lateMesh
  (try dsimp only)
  (repeat' split)
  all_goals (try simp)

@[simp] theorem addRetries_keptH (q k : Nat) (s : State)  : (addRetries q k s).keptH = s.keptH := by simp [addRetries]
@[simp] theorem sendEach_keptH (c : LiveCmd) (work : List Nat) (send : State → State) (s : State) (hsend : ∀ u, (send u).keptH = u.keptH) : (sendEach c work send s).keptH = s.keptH := by simp [sendEach, hsend]
@[simp] theorem ethData_keptH (sid : Nat) (x : Session) (ch : EthChan) (pkt : Bytes) (s : State)  : (ethData sid x ch pkt s).keptH = s.keptH := by simp [ethData]
@[simp] theorem ethSend_keptH (sid : Nat) (pkt : Bytes) (s : State)  : (ethSend sid pkt s).keptH = s.keptH := by
  unfold ethSend
  (try dsimp only)
  (repeat' split)
  all_goals (try simp)

@[simp] theorem flushSession_keptH (sid : Nat) (s : State)  : (flushSession sid s).keptH = s.keptH := by
  unfold flushSession
  (try dsimp only)
  (repeat' split)
  all_goals (try simp)

@[simp] theorem dismiss_keptH (p : Session → Bool) (s : State)  : (dismiss p s).keptH = s.keptH := by
  unfold dismiss
  (try simp)
  (repeat' (split <;> try simp))

@[simp] theorem closeKeyless_keptH (s : State)  : (closeKeyless s).keptH = s.keptH := by simp [closeKeyless]
@[simp] theorem clearKeystone_keptH (s : State)  : (clearKeystone s).keptH = s.keptH := by simp [clearKeystone]
@[simp] theorem eraseSlot_keptH (slot : Nat) (s : State)  : (eraseSlot slot s).keptH = s.keptH := by simp [eraseSlot]
@[simp] theorem staleChallenges_keptH (slot : Nat) (s : State)  : (staleChallenges slot s).keptH = s.keptH := by simp [staleChallenges]
@[simp] theorem retireSlot_keptH (slot : Nat) (s : State)  : (retireSlot slot s).keptH = s.keptH := by simp [retireSlot]
@[simp] theorem loadStone_keptH (key : Bytes) (attr : Nat) (slot : Option Nat) (s : State)  : (loadStone key attr slot s).keptH = s.keptH := by simp [loadStone]
@[simp] theorem stoneUnitKa_keptH (s : State)  : (stoneUnitKa s).keptH = s.keptH := by
  unfold stoneUnitKa
  (try dsimp only)
  (repeat' split)
  all_goals (try simp)

@[simp] theorem storeKey_keptH (slot : Nat) (key : Bytes) (attr : Nat) (s : State)  : (storeKey slot key attr s).keptH = s.keptH := by
  unfold storeKey
  (try dsimp only)
  (repeat' split)
  all_goals (try simp)

@[simp] theorem recordUnitKa_keptH (s : State)  : (recordUnitKa s).keptH = s.keptH := by
  unfold recordUnitKa
  (try dsimp only)
  (repeat' split)
  all_goals (try simp)

@[simp] theorem advanceEpoch_keptH (s : State)  : (advanceEpoch s).keptH = s.keptH := by simp [advanceEpoch]
@[simp] theorem writeMirror_keptH (s : State)  : (writeMirror s).keptH = s.keptH := by simp [writeMirror]
@[simp] theorem seedGuard_keptH (s : State)  : (seedGuard s).keptH = s.keptH := by simp [seedGuard]
@[simp] theorem tamperRecord_keptH (e : TamperEnt) (inBackup : Bool) (s : State)  : (tamperRecord e inBackup s).keptH = s.keptH := by simp [tamperRecord]
@[simp] theorem modTamper_keptH (source : Nat) (f : TamperSrc → TamperSrc) (s : State)  : (modTamper source f s).keptH = s.keptH := by simp [modTamper]
@[simp] theorem logTamper_keptH (e : TamperEnt) (s : State)  : (logTamper e s).keptH = s.keptH := by simp [logTamper]
@[simp] theorem eraseVault_keptH (s : State)  : (eraseVault s).keptH = s.keptH := by simp [eraseVault]
@[simp] theorem tamperFalse_keptH (source : Nat) (s : State)  : (tamperFalse source s).keptH = s.keptH := by simp [tamperFalse]
@[simp] theorem settleAuth_keptH (s : State)  : (settleAuth s).keptH = s.keptH := by simp [settleAuth]
@[simp] theorem rearm_keptH (source : Nat) (s : State)  : (rearm source s).keptH = s.keptH := by simp [rearm]
@[simp] theorem timeGet_keptH (c : LiveCmd) (s : State)  : (timeGet c s).keptH = s.keptH := by simp [timeGet]
@[simp] theorem timeSlew_keptH (c : LiveCmd) (s : State)  : (timeSlew c s).keptH = s.keptH := by simp [timeSlew]
@[simp] theorem ptpDelayResp_keptH (m : PtpResp) (s : State)  : (ptpDelayResp m s).keptH = s.keptH := by
  unfold ptpDelayResp
  (try dsimp only)
  (repeat' split)
  all_goals (try simp)

@[simp] theorem delayReqTimer_keptH (s : State)  : (delayReqTimer s).keptH = s.keptH := by simp [delayReqTimer]
@[simp] theorem rtcAlarmSet_keptH (c : LiveCmd) (s : State)  : (rtcAlarmSet c s).keptH = s.keptH := by
  unfold rtcAlarmSet
  (try dsimp only)
  (repeat' split)
  all_goals (try simp)

@[simp] theorem checkTableShort_keptH (s : State)  : (checkTableShort s).keptH = s.keptH := by simp [checkTableShort]
@[simp] theorem localTimeTableLoad_keptH (c : LiveCmd) (s : State)  : (localTimeTableLoad c s).keptH = s.keptH := by
  unfold localTimeTableLoad
  (try dsimp only)
  (repeat' split)
  all_goals (try simp)

@[simp] theorem learnSecond_keptH (s : State)  : (learnSecond s).keptH = s.keptH := by simp [learnSecond]
@[simp] theorem ppsSecond_keptH (s : State)  : (ppsSecond s).keptH = s.keptH := by simp [ppsSecond]
@[simp] theorem echo_keptH (c : LiveCmd) (s : State)  : (echo c s).keptH = s.keptH := by simp [echo]
@[simp] theorem deviceInfo_keptH (c : LiveCmd) (s : State)  : (deviceInfo c s).keptH = s.keptH := by simp [deviceInfo]
@[simp] theorem awaitReset_keptH (c : LiveCmd) (type source : Nat) (s : State)  : (awaitReset c type source s).keptH = s.keptH := by simp [awaitReset]
@[simp] theorem resetCmd_keptH (c : LiveCmd) (s : State)  : (resetCmd c s).keptH = s.keptH := by
  unfold resetCmd
  (try dsimp only)
  (repeat' split)
  all_goals (try simp)

@[simp] theorem fence_keptH (c : LiveCmd) (s : State)  : (fence c s).keptH = s.keptH := by simp [fence]
@[simp] theorem noteLocked_keptH (st : Nat) (s : State)  : (noteLocked st s).keptH = s.keptH := by simp [noteLocked]
@[simp] theorem settingRead_keptH (c : LiveCmd) (s : State)  : (settingRead c s).keptH = s.keptH := by
  unfold settingRead
  (try dsimp only)
  (repeat' split)
  all_goals (try simp)

@[simp] theorem closeTransport_keptH (t : Transport) (s : State)  : (closeTransport t s).keptH = s.keptH := by
  unfold closeTransport
  (try dsimp only)
  (repeat' split)
  all_goals (try simp)

@[simp] theorem grantSession_keptH (c : LiveCmd) (n role baud : Nat) (keylessProc : Bool) (s : State)  : (grantSession c n role baud keylessProc s).keptH = s.keptH := by simp [grantSession]
@[simp] theorem refuseOpen_keptH (c : LiveCmd) (st d : Nat) (s : State)  : (refuseOpen c st d s).keptH = s.keptH := by simp [refuseOpen]
@[simp] theorem openPhase1_keptH (c : LiveCmd) (role baud : Nat) (s : State)  : (openPhase1 c role baud s).keptH = s.keptH := by
  unfold openPhase1
  (try dsimp only)
  (repeat' split)
  all_goals (try simp)

@[simp] theorem queueStatus_keptH (c : LiveCmd) (s : State)  : (queueStatus c s).keptH = s.keptH := by simp [queueStatus]
@[simp] theorem faultStatus_keptH (c : LiveCmd) (s : State)  : (faultStatus c s).keptH = s.keptH := by simp [faultStatus]
@[simp] theorem ackReply_keptH (c : LiveCmd) (s : State)  : (ackReply c s).keptH = s.keptH := by simp [ackReply]
@[simp] theorem eventRead_keptH (c : LiveCmd) (s : State)  : (eventRead c s).keptH = s.keptH := by simp [eventRead]
@[simp] theorem clearPhase1_keptH (c : LiveCmd) (s : State)  : (clearPhase1 c s).keptH = s.keptH := by simp [clearPhase1]
@[simp] theorem clearLog_keptH (q : SidChal) (c : LiveCmd) (s : State)  : (clearLog q c s).keptH = s.keptH := by simp [clearLog]
@[simp] theorem setRate_keptH (code burst refill : Nat) (s : State)  : (setRate code burst refill s).keptH = s.keptH := by simp [setRate]
@[simp] theorem eventRateSet_keptH (c : LiveCmd) (s : State)  : (eventRateSet c s).keptH = s.keptH := by simp [eventRateSet]
@[simp] theorem faultInject_keptH (c : LiveCmd) (s : State)  : (faultInject c s).keptH = s.keptH := by
  unfold faultInject
  (try dsimp only)
  (repeat' split)
  all_goals (try simp)

@[simp] theorem noteInfo_keptH (source : Nat) (info : Bytes) (s : State)  : (noteInfo source info s).keptH = s.keptH := by simp [noteInfo]
@[simp] theorem rearmWatchdog_keptH (core : Nat) (s : State)  : (rearmWatchdog core s).keptH = s.keptH := by simp [rearmWatchdog]
@[simp] theorem copyPage_keptH (s : State)  : (copyPage s).keptH = s.keptH := by simp [copyPage]
@[simp] theorem tamperPolicySet_keptH (c : LiveCmd) (s : State)  : (tamperPolicySet c s).keptH = s.keptH := by simp [tamperPolicySet]
@[simp] theorem unlockPhase1_keptH (c : LiveCmd) (s : State)  : (unlockPhase1 c s).keptH = s.keptH := by simp [unlockPhase1]
@[simp] theorem securityStatus_keptH (c : LiveCmd) (s : State)  : (securityStatus c s).keptH = s.keptH := by simp [securityStatus]
@[simp] theorem guardOff_keptH (s : State)  : (guardOff s).keptH = s.keptH := by simp [guardOff]
@[simp] theorem stoneNetwork_keptH (phase : Nat) (s : State)  : (stoneNetwork phase s).keptH = s.keptH := by simp [stoneNetwork]
@[simp] theorem echoResult_keptH (k asn outcome : Nat) (s : State)  : (echoResult k asn outcome s).keptH = s.keptH := by simp [echoResult]
@[simp] theorem echoFeed_keptH (k asn : Nat) (kind : CellKind) (plain : Bytes) (s : State)  : (echoFeed k asn kind plain s).keptH = s.keptH := by simp [echoFeed]
@[simp] theorem dropFeed_keptH (f : Nat × Nat × Nat × Bytes) (s : State)  : (dropFeed f s).keptH = s.keptH := by simp [dropFeed]
@[simp] theorem annexDeviation_keptH (x : Int) (s : State)  : (annexDeviation x s).keptH = s.keptH := by simp [annexDeviation]
@[simp] theorem correctBeacon_keptH (port at_ : Nat) (s : State)  : (correctBeacon port at_ s).keptH = s.keptH := by simp [correctBeacon]
@[simp] theorem lampStatus_keptH (c : LiveCmd) (s : State)  : (lampStatus c s).keptH = s.keptH := by simp [lampStatus]
@[simp] theorem placementsDone_keptH (s : State)  : (placementsDone s).keptH = s.keptH := by simp [placementsDone]
@[simp] theorem policyList_keptH (c : LiveCmd) (s : State)  : (policyList c s).keptH = s.keptH := by simp [policyList]
@[simp] theorem placementRead_keptH (c : LiveCmd) (s : State)  : (placementRead c s).keptH = s.keptH := by simp [placementRead]
@[simp] theorem imageStage_keptH (c : LiveCmd) (s : State)  : (imageStage c s).keptH = s.keptH := by
  unfold imageStage
  (try simp)
  (repeat' (split <;> try simp))

@[simp] theorem setTarget_keptH (img n code : Nat) (s : State)  : (setTarget img n code s).keptH = s.keptH := by simp [setTarget]
@[simp] theorem finishRollouts_keptH (s : State)  : (finishRollouts s).keptH = s.keptH := by simp [finishRollouts]
@[simp] theorem topologyRead_keptH (c : LiveCmd) (s : State)  : (topologyRead c s).keptH = s.keptH := by simp [topologyRead]
@[simp] theorem dwellStatus_keptH (c : LiveCmd) (s : State)  : (dwellStatus c s).keptH = s.keptH := by
  unfold dwellStatus
  (try dsimp only)
  (repeat' split)
  all_goals (try simp)

@[simp] theorem joinRefused_keptH (eui reason proxy : Nat) (s : State)  : (joinRefused eui reason proxy s).keptH = s.keptH := by simp [joinRefused]
@[simp] theorem meterRead_keptH (c : LiveCmd) (s : State)  : (meterRead c s).keptH = s.keptH := by simp [meterRead]
@[simp] theorem energyRead_keptH (c : LiveCmd) (s : State)  : (energyRead c s).keptH = s.keptH := by simp [energyRead]
@[simp] theorem reconcileRead_keptH (c : LiveCmd) (s : State)  : (reconcileRead c s).keptH = s.keptH := by simp [reconcileRead]
@[simp] theorem setBank_keptH (n : Nat) (u : BankUse) (contents : Nat) (s : State)  : (setBank n u contents s).keptH = s.keptH := by simp [setBank]
@[simp] theorem dropUnit_keptH (isRun : Bool) (s : State)  : (dropUnit isRun s).keptH = s.keptH := by simp [dropUnit]
@[simp] theorem unitFailed_keptH (alg origin : Nat) (u : TestUnit) (r : Nat × Option Nat) (s : State)  : (unitFailed alg origin u r s).keptH = s.keptH := by
  unfold unitFailed
  (try dsimp only)
  (repeat' split)
  all_goals (try simp)

@[simp] theorem unitEnds_keptH (isRun : Bool) (alg : Nat) (u : TestUnit) (r : Nat × Option Nat) (s : State)  : (unitEnds isRun alg u r s).keptH = s.keptH := by
  unfold unitEnds
  (try dsimp only)
  (repeat' split)
  all_goals (try simp)

@[simp] theorem refuseEvacuation_keptH (isRun : Bool) (s : State)  : (refuseEvacuation isRun s).keptH = s.keptH := by simp [refuseEvacuation]
@[simp] theorem swapBanks_keptH (isRun : Bool) (n k : Nat) (s : State)  : (swapBanks isRun n k s).keptH = s.keptH := by simp [swapBanks]
@[simp] theorem evacuate_keptH (isRun : Bool) (n left : Nat) (s : State)  : (evacuate isRun n left s).1.keptH = s.keptH := by
  unfold evacuate
  (try dsimp only)
  (repeat' split)
  all_goals (try simp)

@[simp] theorem skipRetired_keptH (isRun : Bool) (s : State)  : (skipRetired isRun s).keptH = s.keptH := by simp [skipRetired]
@[simp] theorem sliceWork_keptH (isRun : Bool) (alg : Nat) (y0 : Nat) (y1 : Nat) (y2 : List (List (Nat × Nat))) (s : State)  : (sliceWork isRun alg y0 y1 y2 s).1.keptH = s.keptH := by
  induction y0 generalizing y1 y2 s with
  | zero => rfl
  | succ f ih => unfold sliceWork; dsimp only; (repeat' split) <;> simp [ih]

@[simp] theorem finishRun_keptH (r : TestRun) (outcome status : Nat) (s : State)  : (finishRun r outcome status s).keptH = s.keptH := by
  unfold finishRun
  (try dsimp only)
  (repeat' split)
  all_goals (try simp)

@[simp] theorem abortRun_keptH (r : TestRun) (status : Nat) (s : State)  : (abortRun r status s).keptH = s.keptH := by
  unfold abortRun
  (try dsimp only)
  (repeat' split)
  all_goals (try simp)

@[simp] theorem checkRun_keptH (s : State)  : (checkRun s).keptH = s.keptH := by
  unfold checkRun
  (try dsimp only)
  (repeat' split)
  all_goals (try simp)

@[simp] theorem checkSweep_keptH (s : State)  : (checkSweep s).keptH = s.keptH := by
  unfold checkSweep
  (try dsimp only)
  (repeat' split)
  all_goals (try simp)

@[simp] theorem takeQueued_keptH (s : State)  : (takeQueued s).keptH = s.keptH := by simp [takeQueued]
@[simp] theorem sliceStart_keptH (r : SliceIn) (s : State)  : (sliceStart r s).keptH = s.keptH := by simp [sliceStart]
@[simp] theorem sliceSoFar_keptH (s : State)  : (sliceSoFar s).1.keptH = s.keptH := by simp [sliceSoFar]
@[simp] theorem stopSlice_keptH (s : State)  : (stopSlice s).keptH = s.keptH := by simp [stopSlice]
@[simp] theorem cutSlice_keptH (s : State)  : (cutSlice s).keptH = s.keptH := by
  unfold cutSlice
  (try dsimp only)
  (repeat' split)
  all_goals (try simp)

@[simp] theorem selftestRun_keptH (c : LiveCmd) (s : State)  : (selftestRun c s).keptH = s.keptH := by
  unfold selftestRun
  (try dsimp only)
  (repeat' split)
  all_goals (try simp)

@[simp] theorem selftestResult_keptH (c : LiveCmd) (s : State)  : (selftestResult c s).keptH = s.keptH := by
  unfold selftestResult
  (try dsimp only)
  (repeat' split)
  all_goals (try simp)

@[simp] theorem sendHealth_keptH (s : State)  : (sendHealth s).keptH = s.keptH := by simp [sendHealth]
@[simp] theorem sendHello_keptH (s : State)  : (sendHello s).keptH = s.keptH := by simp [sendHello]
@[simp] theorem heard_keptH (s : State)  : (heard s).keptH = s.keptH := by simp [heard]
@[simp] theorem frameBad_keptH (s : State)  : (frameBad s).keptH = s.keptH := by simp [frameBad]
@[simp] theorem onLink_keptH (type : Nat) (f : LinkIn) (k : State → State) (s : State) (hk : ∀ u, (k u).keptH = u.keptH) : (onLink type f k s).keptH = s.keptH := by simp [onLink, hk]
@[simp] theorem assertLease_keptH (cause : Nat) (s : State)  : (assertLease cause s).keptH = s.keptH := by simp [assertLease]
@[simp] theorem inSequence_keptH (type : Nat) (f : LinkIn) (ok : State → State) (s : State) (hok : ∀ u, (ok u).keptH = u.keptH) : (inSequence type f ok s).keptH = s.keptH := by
  unfold inSequence
  (try dsimp only)
  (repeat' split)
  all_goals (try simp [hok])

@[simp] theorem nak_keptH (f : LinkIn) (s : State)  : (nak f s).keptH = s.keptH := by simp [nak]
@[simp] theorem renewAndCopy_keptH (cycle : Nat) (step : Int) (s : State)  : (renewAndCopy cycle step s).keptH = s.keptH := by simp [renewAndCopy]
@[simp] theorem copySegment_keptH (f : LinkIn) (s : State)  : (copySegment f s).keptH = s.keptH := by
  unfold copySegment
  exact inSequence_keptH _ _ _ _ (fun _ => rfl)

@[simp] theorem yieldDone_keptH (cycle : Nat) (s : State)  : (yieldDone cycle s).keptH = s.keptH := by simp [yieldDone]
@[simp] theorem standbyCycle_keptH (s : State)  : (standbyCycle s).keptH = s.keptH := by simp [standbyCycle]
@[simp] theorem journalFrame_keptH (f : LinkIn) (s : State)  : (journalFrame f s).keptH = s.keptH := by simp [journalFrame]
@[simp] theorem journalAck_keptH (f : LinkIn) (s : State)  : (journalAck f s).keptH = s.keptH := by
  unfold journalAck
  (try dsimp only)
  (repeat' split)
  all_goals (try simp)

@[simp] theorem journalAccept_keptH (c : LiveCmd) (s : State)  : (journalAccept c s).keptH = s.keptH := by simp [journalAccept]
@[simp] theorem echoFed_keptH (f : LinkIn) (s : State)  : (echoFed f s).keptH = s.keptH := by simp [echoFed]
@[simp] theorem timeExchange_keptH (s : State)  : (timeExchange s).keptH = s.keptH := by simp [timeExchange]
@[simp] theorem reportUnknown_keptH (us : List JournalEnt) (s : State)  : (reportUnknown us s).keptH = s.keptH := by simp [reportUnknown]
@[simp] theorem arbitrate_keptH (s : State)  : (arbitrate s).keptH = s.keptH := by
  unfold arbitrate
  (try dsimp only)
  (repeat' split)
  all_goals (try simp)

@[simp] theorem noteUnhealthy_keptH (s : State)  : (noteUnhealthy s).keptH = s.keptH := by simp [noteUnhealthy]
@[simp] theorem twinStatus_keptH (c : LiveCmd) (s : State)  : (twinStatus c s).keptH = s.keptH := by simp [twinStatus]
@[simp] theorem leaseYield_keptH (c : LiveCmd) (s : State)  : (leaseYield c s).keptH = s.keptH := by simp [leaseYield]
@[simp] theorem countRefusals_keptH (l : List Nat) (s : State)  : (countRefusals l s).keptH = s.keptH := by simp [countRefusals]
@[simp] theorem countEntry_keptH (q : PState) (s : State)  : (countEntry q s).keptH = s.keptH := by simp [countEntry]
@[simp] theorem beginEntry_keptH (s : State)  : (beginEntry s).keptH = s.keptH := by simp [beginEntry]
@[simp] theorem chooseState_keptH (y0 : List PState) (s : State)  : (chooseState y0 s).keptH = s.keptH := by
  induction y0 generalizing s with
  | nil => rfl
  | cons q l ih =>
    unfold chooseState
    dsimp only
    (repeat' split) <;> simp only [ih, countRefusals_keptH, beginEntry_keptH, countEntry_keptH, setPState_keptH, keptH_draw]

@[simp] theorem applyOpPoint_keptH (s : State)  : (applyOpPoint s).keptH = s.keptH := by simp [applyOpPoint]
@[simp] theorem restoreSpan_keptH (s : State)  : (restoreSpan s).keptH = s.keptH := keptH_modTime _ _
@[simp] theorem abandonAt_keptH (point : Nat) (s : State)  : (abandonAt point s).keptH = s.keptH := by simp [abandonAt]
@[simp] theorem checkinTick_keptH (s : State)  : (checkinTick s).keptH = s.keptH := by simp [checkinTick]
@[simp] theorem powerStatus_keptH (c : LiveCmd) (s : State)  : (powerStatus c s).keptH = s.keptH := by simp [powerStatus]
@[simp] theorem powerRefusalsRead_keptH (c : LiveCmd) (s : State)  : (powerRefusalsRead c s).keptH = s.keptH := by simp [powerRefusalsRead]
@[simp] theorem modSlot_keptH (k : Nat) (f : SlotImg → SlotImg) (s : State)  : (modSlot k f s).keptH = s.keptH := by simp [modSlot]
@[simp] theorem endFragments_keptH (s : State)  : (endFragments s).keptH = s.keptH := by simp [endFragments]
@[simp] theorem newSessionUpd_keptH (h : Bytes) (target : Nat) (s : State)  : (newSessionUpd h target s).keptH = s.keptH := by simp [newSessionUpd]
@[simp] theorem programFrag_keptH (x : UpdSession) (i : Nat) (d : Bytes) (s : State)  : (programFrag x i d s).keptH = s.keptH := by simp [programFrag]
@[simp] theorem storeFragment_keptH (c : LiveCmd) (s : State)  : (storeFragment c s).keptH = s.keptH := by
  unfold storeFragment
  (try dsimp only)
  (repeat' split)
  all_goals (try simp)

@[simp] theorem updateFragment_keptH (c : LiveCmd) (s : State)  : (updateFragment c s).keptH = s.keptH := by simp [updateFragment]
@[simp] theorem sectorErased_keptH (s : State)  : (sectorErased s).keptH = s.keptH := by
  unfold sectorErased
  (try dsimp only)
  (repeat' split)
  all_goals (try simp)

@[simp] theorem verifyDone_keptH (s : State)  : (verifyDone s).keptH = s.keptH := by
  unfold verifyDone
  (try dsimp only)
  (repeat' split)
  all_goals (try simp)

@[simp] theorem unactivate_keptH (s : State)  : (unactivate s).keptH = s.keptH := by
  unfold unactivate
  (try dsimp only)
  (repeat' split)
  all_goals (try simp)

@[simp] theorem dropSession_keptH (s : State)  : (dropSession s).keptH = s.keptH := by simp [dropSession]
@[simp] theorem updateStatus_keptH (c : LiveCmd) (s : State)  : (updateStatus c s).keptH = s.keptH := by simp [updateStatus]
@[simp] theorem rewrap_keptH (target : Nat) (s : State)  : (rewrap target s).keptH = s.keptH := by simp [rewrap]
@[simp] theorem updateActivate_keptH (c : LiveCmd) (s : State)  : (updateActivate c s).keptH = s.keptH := by
  unfold updateActivate
  (try dsimp only)
  (repeat' split)
  all_goals (try simp)

@[simp] theorem updateAbort_keptH (c : LiveCmd) (s : State)  : (updateAbort c s).keptH = s.keptH := by
  unfold updateAbort
  (try dsimp only)
  (repeat' split)
  all_goals (try simp)

@[simp] theorem activated_keptH (type : Nat) (s : State)  : (activated type s).keptH = s.keptH := by
  unfold activated
  (try dsimp only)
  (repeat' split)
  all_goals (try simp)

@[simp] theorem migrate_keptH (s : State)  : (migrate s).keptH = s.keptH := by
  unfold migrate
  (try dsimp only)
  (repeat' split)
  all_goals (try simp)

@[simp] theorem restartEvents_keptH (cold : Bool) (s : State)  : (restartEvents cold s).keptH = s.keptH := by simp [restartEvents]
@[simp] theorem alarmStart_keptH (i : Nat) (s : State)  : (alarmStart i s).keptH = s.keptH := by
  unfold alarmStart
  (try dsimp only)
  (repeat' split)
  all_goals (try simp)

@[simp] theorem resetCause_keptH (s : State)  : (resetCause s).keptH = s.keptH := by simp [resetCause]
@[simp] theorem testFails_keptH (origin : Nat) (l : List (TestUnit × List (Nat × Nat))) (s : State)  : (testFails origin l s).keptH = s.keptH := by simp [testFails]
@[simp] theorem startBanks_keptH (fails : List Nat) (s : State)  : (startBanks fails s).keptH = s.keptH := by simp [startBanks]
@[simp] theorem startTest_keptH (e : BootEnv) (recovery : Bool) (s : State)  : (startTest e recovery s).keptH = s.keptH := by
  unfold startTest
  (try dsimp only)
  (repeat' split)
  all_goals (try simp)

@[simp] theorem writeLatch_keptH (s : State)  : (writeLatch s).keptH = s.keptH := by simp [writeLatch]
@[simp] theorem modRecovery_keptH (f : Recovery → Recovery) (s : State)  : (modRecovery f s).keptH = s.keptH := by simp [modRecovery]
@[simp] theorem romSend_keptH (b : Bytes) (s : State)  : (romSend b s).keptH = s.keptH := by simp [romSend]
@[simp] theorem romStatus_keptH (seq status detail : Nat) (s : State)  : (romStatus seq status detail s).keptH = s.keptH := by simp [romStatus]
@[simp] theorem romCommand_keptH (type : Nat) (f : Bytes) (body : Bytes → State → State × Nat × Nat) (s : State) (hbody : ∀ x0 u, (body x0 u).1.keptH = u.keptH) : (romCommand type f body s).keptH = s.keptH := by
  unfold romCommand
  dsimp only
  (repeat' split) <;> simp [hbody]

@[simp] theorem romBegin_keptH (h : Bytes) (s : State)  : (romBegin h s).1.keptH = s.keptH := by
  unfold romBegin
  (try dsimp only)
  (repeat' split)
  all_goals (try simp)

@[simp] theorem romData_keptH (p : Bytes) (s : State)  : (romData p s).1.keptH = s.keptH := by
  unfold romData
  (try dsimp only)
  (repeat' split)
  all_goals (try simp)

@[simp] theorem romKeys_keptH (target : Nat) (s : State)  : (romKeys target s).keptH = s.keptH := by simp [romKeys]
@[simp] theorem romHello_keptH (s : State)  : (romHello s).keptH = s.keptH := by simp [romHello]
@[simp] theorem refusePacket_keptH (t : Transport) (sid : Option Nat) (b : Bytes) (st d : Nat) (s : State)  : (refusePacket t sid b st d s).keptH = s.keptH := by
  unfold refusePacket
  (try dsimp only)
  (repeat' split)
  all_goals (try simp)

@[simp] theorem safeReply_keptH (t : Transport) (charged : Bool) (b : Bytes) (st d seq : Nat) (s : State)  : (safeReply t charged b st d seq s).keptH = s.keptH := by
  unfold safeReply
  (try dsimp only)
  (repeat' split)
  all_goals (try simp)

@[simp] theorem safeAnswer_keptH (t : Transport) (charged : Bool) (b : Bytes) (s : State)  : (safeAnswer t charged b s).keptH = s.keptH := by
  unfold safeAnswer
  (try dsimp only)
  (repeat' split)
  all_goals (try simp)

@[simp] theorem enqueue_keptH (e : InEntry) (s : State)  : (enqueue e s).keptH = s.keptH := by simp [enqueue]
@[simp] theorem offerOn_keptH (t : Transport) (n : Nat) (x : Session) (b : Bytes) (s : State)  : (offerOn t n x b s).keptH = s.keptH := by simp [offerOn]
@[simp] theorem offerLocal_keptH (t : Transport) (b : Bytes) (s : State)  : (offerLocal t b s).keptH = s.keptH := by
  unfold offerLocal
  (try dsimp only)
  (repeat' split)
  all_goals (try simp)

@[simp] theorem dropOut_keptH (t : Transport) (sid : Option Nat) (p : OutPkt) (s : State)  : (dropOut t sid p s).keptH = s.keptH := by
  unfold dropOut
  (try dsimp only)
  (repeat' split)
  all_goals (try simp)

@[simp] theorem modWin_keptH (f : Window → Window) (s : State)  : (modWin f s).keptH = s.keptH := by simp [modWin]
@[simp] theorem writeStatus_keptH (v : Nat) (s : State)  : (writeStatus v s).keptH = s.keptH := by simp [writeStatus]
@[simp] theorem writeCause_keptH (v : Nat) (s : State)  : (writeCause v s).keptH = s.keptH := by simp [writeCause]
@[simp] theorem ethDrop_keptH (s : State)  : (ethDrop s).keptH = s.keptH := by simp [ethDrop]
@[simp] theorem ethOut_keptH (peer : Nat) (b : Bytes) (s : State)  : (ethOut peer b s).keptH = s.keptH := by simp [ethOut]
@[simp] theorem refuseHandshake_keptH (peer st : Nat) (s : State)  : (refuseHandshake peer st s).keptH = s.keptH := by simp [refuseHandshake]
@[simp] theorem openEth_keptH (peer role n : Nat) (hostKey p z : Bytes) (d : Nat) (s : State)  : (openEth peer role n hostKey p z d s).keptH = s.keptH := by simp [openEth]
@[simp] theorem takePacket_keptH (n : Nat) (b : Bytes) (s : State)  : (takePacket n b s).keptH = s.keptH := by
  unfold takePacket
  (try dsimp only)
  (repeat' split)
  all_goals (try simp)

@[simp] theorem modChan_keptH (n : Nat) (f : EthChan → EthChan) (s : State)  : (modChan n f s).keptH = s.keptH := by simp [modChan]
@[simp] theorem takeHeld_keptH (n : Nat) (y0 : Nat) (s : State)  : (takeHeld n y0 s).keptH = s.keptH := by
  induction y0 generalizing s with
  | zero => rfl
  | succ k ih => unfold takeHeld; (repeat' split) <;> simp [ih]

@[simp] theorem dataIn_keptH (peer : Nat) (p : Bytes) (s : State)  : (dataIn peer p s).keptH = s.keptH := by
  unfold dataIn
  (try dsimp only)
  (repeat' split)
  all_goals (try simp)

@[simp] theorem reorderTimeout_keptH (n : Nat) (s : State)  : (reorderTimeout n s).keptH = s.keptH := by
  unfold reorderTimeout
  (try dsimp only)
  (repeat' split)
  all_goals (try simp)

@[simp] theorem transmitNext_keptH (t : Transport) (sid : Option Nat) (p : OutPkt) (s : State)  : (transmitNext t sid p s).keptH = s.keptH := by
  unfold transmitNext
  (try dsimp only)
  (repeat' split)
  all_goals (try simp)

@[simp] theorem oweLate_keptH (c : LiveCmd) (mesh : Bool) (s : State)  : (oweLate c mesh s).keptH = s.keptH := by simp [oweLate]
@[simp] theorem loseRecord_keptH (index : Nat) (s : State)  : (loseRecord index s).keptH = s.keptH := by simp [loseRecord]
@[simp] theorem tickSpan_keptH (s : State)  : (tickSpan s).keptH = s.keptH := by simp [tickSpan]
@[simp] theorem tickRtc_keptH (s : State)  : (tickRtc s).keptH = s.keptH := by simp [tickRtc]
@[simp] theorem tickWatchdogs_keptH (s : State)  : (tickWatchdogs s).keptH = s.keptH := by simp [tickWatchdogs]
theorem execTimeSlew_keptH (sid : Nat) (tag : Nat) (s u : State) (h : execTimeSlew sid tag s = .next u) : u.keptH = s.keptH := by
  unfold execTimeSlew at h
  cases h
  simp

theorem execUpdateFragment_keptH (sid : Nat) (tag : Nat) (s u : State) (h : execUpdateFragment sid tag s = .next u) : u.keptH = s.keptH := by
  unfold execUpdateFragment at h
  cases h
  simp

theorem execUpdateStatus_keptH (sid : Nat) (tag : Nat) (s u : State) (h : execUpdateStatus sid tag s = .next u) : u.keptH = s.keptH := by
  unfold execUpdateStatus at h
  cases h
  simp

theorem execUpdateActivate_keptH (sid : Nat) (tag : Nat) (s u : State) (h : execUpdateActivate sid tag s = .next u) : u.keptH = s.keptH := by
  unfold execUpdateActivate at h
  cases h
  simp

theorem execUpdateAbort_keptH (sid : Nat) (tag : Nat) (s u : State) (h : execUpdateAbort sid tag s = .next u) : u.keptH = s.keptH := by
  unfold execUpdateAbort at h
  cases h
  simp

theorem execLanternImageStage_keptH (sid : Nat) (tag : Nat) (s u : State) (h : execLanternImageStage sid tag s = .next u) : u.keptH = s.keptH := by
  unfold execLanternImageStage at h
  cases h
  simp

theorem execTamperPolicySet_keptH (sid : Nat) (tag : Nat) (s u : State) (h : execTamperPolicySet sid tag s = .next u) : u.keptH = s.keptH := by
  unfold execTamperPolicySet at h
  cases h
  simp

theorem execSecurityStatus_keptH (sid : Nat) (tag : Nat) (s u : State) (h : execSecurityStatus sid tag s = .next u) : u.keptH = s.keptH := by
  unfold execSecurityStatus at h
  cases h
  simp

theorem execSelftestRun_keptH (sid : Nat) (tag : Nat) (s u : State) (h : execSelftestRun sid tag s = .next u) : u.keptH = s.keptH := by
  unfold execSelftestRun at h
  cases h
  simp

theorem execUpdateSectorErased_keptH  (s u : State) (h : execUpdateSectorErased  s = .next u) : u.keptH = s.keptH := by
  unfold execUpdateSectorErased at h
  cases h
  simp

theorem execUpdateVerifyDone_keptH  (s u : State) (h : execUpdateVerifyDone  s = .next u) : u.keptH = s.keptH := by
  unfold execUpdateVerifyDone at h
  cases h
  simp

theorem execUpdateJournalExpiry_keptH  (s u : State) (h : execUpdateJournalExpiry  s = .next u) : u.keptH = s.keptH := by
  unfold execUpdateJournalExpiry at h
  cases h
  (try dsimp only)
  (repeat' split)
  all_goals (try simp)

theorem execRecoveryHelloTimer_keptH  (s u : State) (h : execRecoveryHelloTimer  s = .next u) : u.keptH = s.keptH := by
  unfold execRecoveryHelloTimer at h
  cases h
  simp

theorem execRecoveryBegin_keptH (frame : Bytes) (s u : State) (h : execRecoveryBegin frame s = .next u) : u.keptH = s.keptH := by
  unfold execRecoveryBegin at h
  cases h
  simp

theorem execRecoveryData_keptH (frame : Bytes) (s u : State) (h : execRecoveryData frame s = .next u) : u.keptH = s.keptH := by
  unfold execRecoveryData at h
  cases h
  simp

theorem execSelftestSweepStart_keptH  (s u : State) (h : execSelftestSweepStart  s = .next u) : u.keptH = s.keptH := by
  unfold execSelftestSweepStart at h
  cases h
  (try dsimp only)
  (repeat' split)
  all_goals (try simp)

theorem execSelftestSliceStart_keptH (r : SliceIn) (s u : State) (h : execSelftestSliceStart r s = .next u) : u.keptH = s.keptH := by
  unfold execSelftestSliceStart at h
  cases h
  simp

end Sys2Proof.Machine
end

