-- ==== Sys2Proof/Laws/FrameS.lean ====
section
/-! SUPPORT. The frames of the commands that touch one part of the state: what every operation they use, and each of them, leaves alone. -/

namespace Sys2Proof.Machine

set_option Elab.async false

/-- What the commands of partsSessions leave alone. -/
def State.keptHo (s : State) : Nat × TimeUnit × Rtc × Fallback × SettingsSt × Parapet × PowerSt × List Joint × MacSt × TrussSt × LampSt × MeterSt × TwinSt × Otp × SecSt × UpdateSt × SelfTestSt × BootSt × Outputs × List Instr × Nat :=
  (s.now, s.time, s.rtc, s.fb, s.set, s.par, s.pwr, s.joints, s.mac, s.truss, s.lamp, s.meter, s.twin, s.otp, s.sec, s.upd, s.bist, s.boot, s.out, s.pending, s.freeIdx)

@[simp] theorem keptHo_modHost (s : State) (f) : (s.modHost f).keptHo = s.keptHo := by have h : (s.modHost f).keptHo = s.keptHo := rfl; exact h
@[simp] theorem keptHo_foldl {α : Type} (f : State → α → State) (h : ∀ s x, (f s x).keptHo = s.keptHo) (l : List α) (s : State) :
    (l.foldl f s).keptHo = s.keptHo := by
  induction l generalizing s with
  | nil => rfl
  | cons a l ih => simp only [List.foldl_cons, ih, h]
@[simp] theorem keptHo_ite (c : Prop) [Decidable c] (a b : State) : (if c then a else b).keptHo = if c then a.keptHo else b.keptHo := by
  split <;> rfl
theorem keptHo_foldl2 {α : Type} (f : State → α → State) (h : ∀ s x, (f s x).keptHo = s.keptHo) (l : List α) (s u : State)
    (e : s.keptHo = u.keptHo) : (l.foldl f s).keptHo = u.keptHo := by rw [keptHo_foldl f h, e]
@[simp] theorem onBank_keptHo (k : Nat) (f : State → State) (s : State) (hf : ∀ u, (f u).keptHo = u.keptHo) : (onBank k f s).keptHo = s.keptHo := by simp [onBank, hf]
@[simp] theorem State_modSession_keptHo (s : State) (sid : Nat) (f : Session → Session)  : (State.modSession s sid f).keptHo = s.keptHo := by simp [State.modSession]
@[simp] theorem pushNotice_keptHo (sid : Nat) (build : Nat → Bytes) (s : State)  : (pushNotice sid build s).keptHo = s.keptHo := by simp [pushNotice]
@[simp] theorem giveCredits_keptHo (sid n : Nat) (s : State)  : (giveCredits sid n s).keptHo = s.keptHo := by
  unfold giveCredits
  (try dsimp only)
  (repeat' split)
  all_goals (try simp)

@[simp] theorem creditNotice_keptHo (sid : Nat) (s : State)  : (creditNotice sid s).keptHo = s.keptHo := by
  unfold creditNotice
  (try dsimp only)
  (repeat' split)
  all_goals (try simp)

@[simp] theorem noticeTo_keptHo (dest : Option Nat) (code tag : Nat) (rec : Bytes) (s : State)  : (noticeTo dest code tag rec s).keptHo = s.keptHo := by
  unfold noticeTo
  (try dsimp only)
  (repeat' split)
  all_goals (try simp)

@[simp] theorem checkInbound_keptHo (s : State)  : (checkInbound s).keptHo = s.keptHo := by simp [checkInbound]
@[simp] theorem pushBare_keptHo (t : Transport) (bytes : Bytes) (seq : Nat) (s : State)  : (pushBare t bytes seq s).keptHo = s.keptHo := by simp [pushBare]
@[simp] theorem State_modCmd_keptHo (s : State) (seq : Nat) (f : LiveCmd → LiveCmd)  : (State.modCmd s seq f).keptHo = s.keptHo := by simp [State.modCmd]
@[simp] theorem waitFor_keptHo (c : LiveCmd) (w : Wait) (work : List Nat) (s : State)  : (waitFor c w work s).keptHo = s.keptHo := by simp [waitFor]
@[simp] theorem addRetries_keptHo (q k : Nat) (s : State)  : (addRetries q k s).keptHo = s.keptHo := by simp [addRetries]
@[simp] theorem staleChallenges_keptHo (slot : Nat) (s : State)  : (staleChallenges slot s).keptHo = s.keptHo := by simp [staleChallenges]
@[simp] theorem awaitReset_keptHo (c : LiveCmd) (type source : Nat) (s : State)  : (awaitReset c type source s).keptHo = s.keptHo := by simp [awaitReset]
@[simp] theorem safeReply_keptHo (t : Transport) (charged : Bool) (b : Bytes) (st d seq : Nat) (s : State)  : (safeReply t charged b st d seq s).keptHo = s.keptHo := by
  unfold safeReply
  (try dsimp only)
  (repeat' split)
  all_goals (try simp)

@[simp] theorem safeAnswer_keptHo (t : Transport) (charged : Bool) (b : Bytes) (s : State)  : (safeAnswer t charged b s).keptHo = s.keptHo := by
  unfold safeAnswer
  (try dsimp only)
  (repeat' split)
  all_goals (try simp)

@[simp] theorem modWin_keptHo (f : Window → Window) (s : State)  : (modWin f s).keptHo = s.keptHo := by simp [modWin]
@[simp] theorem writeStatus_keptHo (v : Nat) (s : State)  : (writeStatus v s).keptHo = s.keptHo := by simp [writeStatus]
@[simp] theorem writeCause_keptHo (v : Nat) (s : State)  : (writeCause v s).keptHo = s.keptHo := by simp [writeCause]
@[simp] theorem ethDrop_keptHo (s : State)  : (ethDrop s).keptHo = s.keptHo := by simp [ethDrop]
@[simp] theorem modChan_keptHo (n : Nat) (f : EthChan → EthChan) (s : State)  : (modChan n f s).keptHo = s.keptHo := by simp [modChan]
@[simp] theorem oweLate_keptHo (c : LiveCmd) (mesh : Bool) (s : State)  : (oweLate c mesh s).keptHo = s.keptHo := by simp [oweLate]
theorem execIpReassemblyTimeout_keptHo (id : Nat) (s u : State) (h : execIpReassemblyTimeout id s = .next u) : u.keptHo = s.keptHo := by
  unfold execIpReassemblyTimeout at h
  cases h
  simp

theorem execInterimReplyTimer_keptHo (sid : Nat) (tag : Nat) (s u : State) (h : execInterimReplyTimer sid tag s = .next u) : u.keptHo = s.keptHo := by
  unfold execInterimReplyTimer at h
  cases h
  (try dsimp only)
  (repeat' split)
  all_goals (try simp)

theorem execCreditReturnTimer_keptHo (sid : Nat) (s u : State) (h : execCreditReturnTimer sid s = .next u) : u.keptHo = s.keptHo := by
  unfold execCreditReturnTimer at h
  cases h
  (try dsimp only)
  (repeat' split)
  all_goals (try simp)

theorem execChallengeExpiry_keptHo (t : Transport) (s u : State) (h : execChallengeExpiry t s = .next u) : u.keptHo = s.keptHo := by
  unfold execChallengeExpiry at h
  cases h
  simp

theorem execDebugChallengeExpiry_keptHo  (s u : State) (h : execDebugChallengeExpiry  s = .next u) : u.keptHo = s.keptHo := by
  unfold execDebugChallengeExpiry at h
  cases h
  simp

theorem execEventClearChallengeExpiry_keptHo  (s u : State) (h : execEventClearChallengeExpiry  s = .next u) : u.keptHo = s.keptHo := by
  unfold execEventClearChallengeExpiry at h
  cases h
  simp

theorem execBaudChangeTimer_keptHo  (s u : State) (h : execBaudChangeTimer  s = .next u) : u.keptHo = s.keptHo := by
  unfold execBaudChangeTimer at h
  cases h
  (try dsimp only)
  (repeat' split)
  all_goals (try simp)

/-- What the commands of partsLink leave alone. -/
def State.keptTw (s : State) : Nat × TimeUnit × Rtc × Fallback × SettingsSt × HostSide × Parapet × PowerSt × List Joint × MacSt × TrussSt × LampSt × MeterSt × Otp × SecSt × UpdateSt × SelfTestSt × BootSt × Outputs × List Instr × Nat :=
  (s.now, s.time, s.rtc, s.fb, s.set, s.host, s.par, s.pwr, s.joints, s.mac, s.truss, s.lamp, s.meter, s.otp, s.sec, s.upd, s.bist, s.boot, s.out, s.pending, s.freeIdx)

@[simp] theorem keptTw_modTwin (s : State) (f) : (s.modTwin f).keptTw = s.keptTw := by have h : (s.modTwin f).keptTw = s.keptTw := rfl; exact h
@[simp] theorem keptTw_foldl {α : Type} (f : State → α → State) (h : ∀ s x, (f s x).keptTw = s.keptTw) (l : List α) (s : State) :
    (l.foldl f s).keptTw = s.keptTw := by
  induction l generalizing s with
  | nil => rfl
  | cons a l ih => simp only [List.foldl_cons, ih, h]
@[simp] theorem keptTw_ite (c : Prop) [Decidable c] (a b : State) : (if c then a else b).keptTw = if c then a.keptTw else b.keptTw := by
  split <;> rfl
theorem keptTw_foldl2 {α : Type} (f : State → α → State) (h : ∀ s x, (f s x).keptTw = s.keptTw) (l : List α) (s u : State)
    (e : s.keptTw = u.keptTw) : (l.foldl f s).keptTw = u.keptTw := by rw [keptTw_foldl f h, e]
@[simp] theorem onBank_keptTw (k : Nat) (f : State → State) (s : State) (hf : ∀ u, (f u).keptTw = u.keptTw) : (onBank k f s).keptTw = s.keptTw := by simp [onBank, hf]
@[simp] theorem twinPut_keptTw (type : Nat) (payload : Bytes) (s : State)  : (twinPut type payload s).keptTw = s.keptTw := by simp [twinPut]
@[simp] theorem twinSend_keptTw (type : Nat) (payload : Bytes) (s : State)  : (twinSend type payload s).keptTw = s.keptTw := by simp [twinSend]
@[simp] theorem dropLeaseOut_keptTw (s : State)  : (dropLeaseOut s).keptTw = s.keptTw := by simp [dropLeaseOut]
@[simp] theorem echoResult_keptTw (k asn outcome : Nat) (s : State)  : (echoResult k asn outcome s).keptTw = s.keptTw := by simp [echoResult]
@[simp] theorem echoFeed_keptTw (k asn : Nat) (kind : CellKind) (plain : Bytes) (s : State)  : (echoFeed k asn kind plain s).keptTw = s.keptTw := by simp [echoFeed]
@[simp] theorem dropFeed_keptTw (f : Nat × Nat × Nat × Bytes) (s : State)  : (dropFeed f s).keptTw = s.keptTw := by simp [dropFeed]
@[simp] theorem sendHealth_keptTw (s : State)  : (sendHealth s).keptTw = s.keptTw := by simp [sendHealth]
@[simp] theorem sendHello_keptTw (s : State)  : (sendHello s).keptTw = s.keptTw := by simp [sendHello]
@[simp] theorem heard_keptTw (s : State)  : (heard s).keptTw = s.keptTw := by simp [heard]
@[simp] theorem frameBad_keptTw (s : State)  : (frameBad s).keptTw = s.keptTw := by simp [frameBad]
@[simp] theorem onLink_keptTw (type : Nat) (f : LinkIn) (k : State → State) (s : State) (hk : ∀ u, (k u).keptTw = u.keptTw) : (onLink type f k s).keptTw = s.keptTw := by simp [onLink, hk]
@[simp] theorem assertLease_keptTw (cause : Nat) (s : State)  : (assertLease cause s).keptTw = s.keptTw := by simp [assertLease]
@[simp] theorem inSequence_keptTw (type : Nat) (f : LinkIn) (ok : State → State) (s : State) (hok : ∀ u, (ok u).keptTw = u.keptTw) : (inSequence type f ok s).keptTw = s.keptTw := by
  unfold inSequence
  (try dsimp only)
  (repeat' split)
  all_goals (try simp [hok])

@[simp] theorem nak_keptTw (f : LinkIn) (s : State)  : (nak f s).keptTw = s.keptTw := by simp [nak]
@[simp] theorem renewAndCopy_keptTw (cycle : Nat) (step : Int) (s : State)  : (renewAndCopy cycle step s).keptTw = s.keptTw := by simp [renewAndCopy]
@[simp] theorem copySegment_keptTw (f : LinkIn) (s : State)  : (copySegment f s).keptTw = s.keptTw := by
  unfold copySegment
  exact inSequence_keptTw _ _ _ _ (fun _ => rfl)

@[simp] theorem standbyCycle_keptTw (s : State)  : (standbyCycle s).keptTw = s.keptTw := by simp [standbyCycle]
@[simp] theorem journalFrame_keptTw (f : LinkIn) (s : State)  : (journalFrame f s).keptTw = s.keptTw := by simp [journalFrame]
@[simp] theorem echoFed_keptTw (f : LinkIn) (s : State)  : (echoFed f s).keptTw = s.keptTw := by simp [echoFed]
@[simp] theorem timeExchange_keptTw (s : State)  : (timeExchange s).keptTw = s.keptTw := by simp [timeExchange]
@[simp] theorem noteUnhealthy_keptTw (s : State)  : (noteUnhealthy s).keptTw = s.keptTw := by simp [noteUnhealthy]
@[simp] theorem writeLatch_keptTw (s : State)  : (writeLatch s).keptTw = s.keptTw := by simp [writeLatch]
theorem execHeartbeat_keptTw (f : LinkIn) (s u : State) (h : execHeartbeat f s = .next u) : u.keptTw = s.keptTw := by
  unfold execHeartbeat at h
  cases h
  simp

theorem execCopy_keptTw (f : LinkIn) (s u : State) (h : execCopy f s = .next u) : u.keptTw = s.keptTw := by
  unfold execCopy at h
  cases h
  simp

theorem execTimeEcho_keptTw (f : LinkIn) (s u : State) (h : execTimeEcho f s = .next u) : u.keptTw = s.keptTw := by
  unfold execTimeEcho at h
  cases h
  simp

theorem execEchoFeed_keptTw (f : LinkIn) (s u : State) (h : execEchoFeed f s = .next u) : u.keptTw = s.keptTw := by
  unfold execEchoFeed at h
  cases h
  simp

theorem execJournal_keptTw (f : LinkIn) (s u : State) (h : execJournal f s = .next u) : u.keptTw = s.keptTw := by
  unfold execJournal at h
  cases h
  simp

theorem execHealth_keptTw (f : LinkIn) (s u : State) (h : execHealth f s = .next u) : u.keptTw = s.keptTw := by
  unfold execHealth at h
  cases h
  simp

theorem execNak_keptTw (f : LinkIn) (s u : State) (h : execNak f s = .next u) : u.keptTw = s.keptTw := by
  unfold execNak at h
  cases h
  simp

theorem execTwinFrameBad_keptTw  (s u : State) (h : execTwinFrameBad  s = .next u) : u.keptTw = s.keptTw := by
  unfold execTwinFrameBad at h
  cases h
  simp

theorem execTwinHelloTimer_keptTw  (s u : State) (h : execTwinHelloTimer  s = .next u) : u.keptTw = s.keptTw := by
  unfold execTwinHelloTimer at h
  cases h
  simp

theorem execHeartbeatTimer_keptTw  (s u : State) (h : execHeartbeatTimer  s = .next u) : u.keptTw = s.keptTw := by
  unfold execHeartbeatTimer at h
  cases h
  simp

theorem execLeaseExpiryTake_keptTw  (s u : State) (h : execLeaseExpiryTake  s = .next u) : u.keptTw = s.keptTw := by
  unfold execLeaseExpiryTake at h
  cases h
  simp

theorem execLoneStartTimer_keptTw  (s u : State) (h : execLoneStartTimer  s = .next u) : u.keptTw = s.keptTw := by
  unfold execLoneStartTimer at h
  cases h
  simp

theorem execConflictBackoffTimer_keptTw  (s u : State) (h : execConflictBackoffTimer  s = .next u) : u.keptTw = s.keptTw := by
  unfold execConflictBackoffTimer at h
  cases h
  (try dsimp only)
  (repeat' split)
  all_goals (try simp)

theorem execHealthYieldTimer_keptTw  (s u : State) (h : execHealthYieldTimer  s = .next u) : u.keptTw = s.keptTw := by
  unfold execHealthYieldTimer at h
  cases h
  simp

theorem execCopyStale_keptTw  (s u : State) (h : execCopyStale  s = .next u) : u.keptTw = s.keptTw := by
  unfold execCopyStale at h
  cases h
  simp

/-- What the commands of partsRadio leave alone. -/
def State.keptMa (s : State) : Nat × TimeUnit × Rtc × Fallback × SettingsSt × HostSide × Parapet × PowerSt × List Joint × TrussSt × LampSt × MeterSt × TwinSt × Otp × SecSt × UpdateSt × SelfTestSt × BootSt × Outputs × List Instr × Nat :=
  (s.now, s.time, s.rtc, s.fb, s.set, s.host, s.par, s.pwr, s.joints, s.truss, s.lamp, s.meter, s.twin, s.otp, s.sec, s.upd, s.bist, s.boot, s.out, s.pending, s.freeIdx)

@[simp] theorem keptMa_modMac (s : State) (f) : (s.modMac f).keptMa = s.keptMa := by have h : (s.modMac f).keptMa = s.keptMa := rfl; exact h
@[simp] theorem keptMa_foldl {α : Type} (f : State → α → State) (h : ∀ s x, (f s x).keptMa = s.keptMa) (l : List α) (s : State) :
    (l.foldl f s).keptMa = s.keptMa := by
  induction l generalizing s with
  | nil => rfl
  | cons a l ih => simp only [List.foldl_cons, ih, h]
@[simp] theorem keptMa_ite (c : Prop) [Decidable c] (a b : State) : (if c then a else b).keptMa = if c then a.keptMa else b.keptMa := by
  split <;> rfl
theorem keptMa_foldl2 {α : Type} (f : State → α → State) (h : ∀ s x, (f s x).keptMa = s.keptMa) (l : List α) (s u : State)
    (e : s.keptMa = u.keptMa) : (l.foldl f s).keptMa = u.keptMa := by rw [keptMa_foldl f h, e]
@[simp] theorem onBank_keptMa (k : Nat) (f : State → State) (s : State) (hf : ∀ u, (f u).keptMa = u.keptMa) : (onBank k f s).keptMa = s.keptMa := by simp [onBank, hf]
@[simp] theorem scheduleStart_keptMa (at_ : Nat) (s : State)  : (scheduleStart at_ s).keptMa = s.keptMa := by simp [scheduleStart]
@[simp] theorem autoStart_keptMa (s : State)  : (autoStart s).keptMa = s.keptMa := by simp [autoStart]
@[simp] theorem bumpConf_keptMa (s : State)  : (bumpConf s).keptMa = s.keptMa := by simp [bumpConf]
@[simp] theorem modLan_keptMa (n : Nat) (f : Lantern → Lantern) (s : State)  : (modLan n f s).keptMa = s.keptMa := by simp [modLan]
@[simp] theorem dropLantern_keptMa (n : Nat) (s : State)  : (dropLantern n s).keptMa = s.keptMa := by simp [dropLantern]
@[simp] theorem queueFlood_keptMa (f : Flood) (s : State)  : (queueFlood f s).keptMa = s.keptMa := by simp [queueFlood]
@[simp] theorem modPort_keptMa (k : Nat) (f : Port → Port) (s : State)  : (modPort k f s).keptMa = s.keptMa := by simp [modPort]
@[simp] theorem moveLanterns_keptMa (k : Nat) (s : State)  : (moveLanterns k s).keptMa = s.keptMa := by simp [moveLanterns]
theorem suppressed_resMa {k ch f : Nat} {p : Bytes} {s t : State} (e : suppressed k ch f p s = some t) : t.keptMa = s.keptMa := by
  unfold suppressed at e
  dsimp only at e
  split at e
  · cases e; simp
  · cases e

@[simp] theorem modTxn_keptMa (id : Nat) (f : Txn → Txn) (s : State)  : (modTxn id f s).keptMa = s.keptMa := by simp [modTxn]
@[simp] theorem takeTxn_keptMa (t : Txn) (s : State)  : (takeTxn t s).keptMa = s.keptMa := by simp [takeTxn]
@[simp] theorem addSeen_keptMa (origin seq : Nat) (s : State)  : (addSeen origin seq s).keptMa = s.keptMa := by simp [addSeen]
@[simp] theorem securityDrop_keptMa (s : State)  : (securityDrop s).keptMa = s.keptMa := by simp [securityDrop]
@[simp] theorem filterDrop_keptMa (s : State)  : (filterDrop s).keptMa = s.keptMa := by simp [filterDrop]
@[simp] theorem keepBeacon_keptMa (f : RxFrame) (body : Bytes) (s : State)  : (keepBeacon f body s).keptMa = s.keptMa := by simp [keepBeacon]
@[simp] theorem rxJoin_keptMa (f : RxFrame) (s : State)  : (rxJoin f s).keptMa = s.keptMa := by simp [rxJoin]
@[simp] theorem modAnnex_keptMa (f : AnnexSt → AnnexSt) (s : State)  : (modAnnex f s).keptMa = s.keptMa := by simp [modAnnex]
@[simp] theorem modNet_keptMa (f : AnnexNet → AnnexNet) (s : State)  : (modNet f s).keptMa = s.keptMa := by simp [modNet]
@[simp] theorem useAnnexCounter_keptMa (idx : Nat) (s : State)  : (useAnnexCounter idx s).keptMa = s.keptMa := by simp [useAnnexCounter]
@[simp] theorem annexKeyAt_keptMa (idx : Nat) (key : Bytes) (s : State)  : (annexKeyAt idx key s).keptMa = s.keptMa := by simp [annexKeyAt]
@[simp] theorem nextMacSeq_keptMa (s : State)  : (nextMacSeq s).keptMa = s.keptMa := by simp [nextMacSeq]
@[simp] theorem annexQueue_keptMa (dst expiry : Nat) (resync : Bool) (m : Bytes) (s : State)  : (annexQueue dst expiry resync m s).keptMa = s.keptMa := by simp [annexQueue]
@[simp] theorem annexSend_keptMa (type : Nat) (confirmed resync : Bool) (payload : Bytes) (s : State)  : (annexSend type confirmed resync payload s).keptMa = s.keptMa := by
  unfold annexSend
  (try dsimp only)
  (repeat' split)
  all_goals (try simp)

@[simp] theorem annexReportTo_keptMa (n : AnnexNet) (type life : Nat) (payload : Bytes) (s : State)  : (annexReportTo n type life payload s).keptMa = s.keptMa := by
  unfold annexReportTo
  (try dsimp only)
  (repeat' split)
  all_goals (try simp)

@[simp] theorem annexRespond_keptMa (seq retries status : Nat) (data : Bytes) (s : State)  : (annexRespond seq retries status data s).keptMa = s.keptMa := by simp [annexRespond]
@[simp] theorem annexContact_keptMa (src at_ : Nat) (s : State)  : (annexContact src at_ s).keptMa = s.keptMa := by simp [annexContact]
@[simp] theorem annexChoose_keptMa (p : AnnexCand → Bool) (s : State)  : (annexChoose p s).keptMa = s.keptMa := by simp [annexChoose]
@[simp] theorem annexScan_keptMa (s : State)  : (annexScan s).keptMa = s.keptMa := by simp [annexScan]
@[simp] theorem annexJoinFrames_keptMa (s0 : State) (dst last : Nat) (y0 : List Bytes) (y1 : Nat) (s : State)  : (annexJoinFrames s0 dst last y0 y1 s).1.keptMa = s.keptMa := by
  induction y0 generalizing y1 s with
  | nil => rfl
  | cons b l ih => unfold annexJoinFrames; simp [ih]

@[simp] theorem annexLeave_keptMa (s : State)  : (annexLeave s).keptMa = s.keptMa := by simp [annexLeave]
@[simp] theorem annexKids_keptMa (p : AnnexCand) (n : AnnexNet) (s : State)  : (annexKids p n s).keptMa = s.keptMa := by simp [annexKids]
@[simp] theorem annexMissed_keptMa (asn : Nat) (n : AnnexNet) (s : State)  : (annexMissed asn n s).keptMa = s.keptMa := by simp [annexMissed]
@[simp] theorem annexGone_keptMa (s : State)  : (annexGone s).keptMa = s.keptMa := by simp [annexGone]
@[simp] theorem annexAccept_keptMa (key ctr : Nat) (s : State)  : (annexAccept key ctr s).keptMa = s.keptMa := by simp [annexAccept]
@[simp] theorem annexAct_keptMa (at_ : Nat) (m : Bytes) (s : State)  : (annexAct at_ m s).1.keptMa = s.keptMa := by
  unfold annexAct
  simp [apply_ite Prod.fst]

theorem annexAct_resMa {a : Nat} {m : Bytes} {u t : State} {r : Option Nat} (e : annexAct a m u = (t, r)) : t.keptMa = u.keptMa := by
  have k := annexAct_keptMa a m u
  rw [e] at k
  exact k

@[simp] theorem annexDeliver_keptMa (at_ : Nat) (m : Bytes) (s : State)  : (annexDeliver at_ m s).keptMa = s.keptMa := by
  unfold annexDeliver
  (try dsimp only)
  (repeat' split)
  all_goals first | rfl | (simp; done) | ((try simp); have k := annexAct_resMa (by assumption); exact k.trans (by simp))

@[simp] theorem annexForward_keptMa (m : Bytes) (s : State)  : (annexForward m s).keptMa = s.keptMa := by
  unfold annexForward
  (try dsimp only)
  (repeat' split)
  all_goals (try simp)

@[simp] theorem annexOverhear_keptMa (m : Bytes) (s : State)  : (annexOverhear m s).keptMa = s.keptMa := by simp [annexOverhear]
@[simp] theorem annexRxBeacon_keptMa (f : RxFrame) (s : State)  : (annexRxBeacon f s).keptMa = s.keptMa := by
  unfold annexRxBeacon
  (try dsimp only)
  (repeat' split)
  all_goals (try simp)

@[simp] theorem annexProxy_keptMa (f : RxFrame) (s : State)  : (annexProxy f s).keptMa = s.keptMa := by
  unfold annexProxy
  (try dsimp only)
  (repeat' split)
  all_goals (try simp)

@[simp] theorem keepFrame_keptMa (port at_ : Nat) (psdu : Bytes) (s : State)  : (keepFrame port at_ psdu s).keptMa = s.keptMa := by
  unfold keepFrame
  (try dsimp only)
  (repeat' split)
  all_goals (try simp)

@[simp] theorem activateKey_keptMa (s : State)  : (activateKey s).keptMa = s.keptMa := by
  unfold activateKey
  (try dsimp only)
  (repeat' split)
  all_goals (try simp)

@[simp] theorem annexKeyStep_keptMa (s : State)  : (annexKeyStep s).keptMa = s.keptMa := by
  unfold annexKeyStep
  (try dsimp only)
  (repeat' split)
  all_goals (try simp)

@[simp] theorem recomputeRoutes_keptMa (s : State)  : (recomputeRoutes s).keptMa = s.keptMa := by simp [recomputeRoutes]
@[simp] theorem withMsg_keptMa (type origin : Nat) (f : InMsg → State → State) (s : State) (hf : ∀ x0 u, (f x0 u).keptMa = u.keptMa) : (withMsg type origin f s).keptMa = s.keptMa := by
  unfold withMsg
  (try dsimp only)
  (repeat' split)
  all_goals (try simp [hf])

@[simp] theorem fromLantern_keptMa (type n : Nat) (f : Lantern → InMsg → State → State) (s : State) (hf : ∀ x0 x1 u, (f x0 x1 u).keptMa = u.keptMa) : (fromLantern type n f s).keptMa = s.keptMa := by
  unfold fromLantern
  exact withMsg_keptMa _ _ _ _ (fun m u => by split <;> simp [hf])

@[simp] theorem missBeacon_keptMa (n cyc : Nat) (s : State)  : (missBeacon n cyc s).keptMa = s.keptMa := by simp [missBeacon]
@[simp] theorem annexHeard_keptMa (c : AnnexCand) (s : State)  : (annexHeard c s).keptMa = s.keptMa := by simp [annexHeard]
@[simp] theorem advanceSeries_keptMa (s : State)  : (advanceSeries s).keptMa = s.keptMa := by simp [advanceSeries]
@[simp] theorem dropUntaken_keptMa (q : Nat) (s : State)  : (dropUntaken q s).keptMa = s.keptMa := by simp [dropUntaken]
@[simp] theorem releaseTaken_keptMa (q : Nat) (s : State)  : (releaseTaken q s).keptMa = s.keptMa := by simp [releaseTaken]
@[simp] theorem dropTxns_keptMa (q : Nat) (s : State)  : (dropTxns q s).keptMa = s.keptMa := by simp [dropTxns]
@[simp] theorem countRouteless_keptMa (s : State)  : (countRouteless s).keptMa = s.keptMa := by simp [countRouteless]
@[simp] theorem saveTable_keptMa (c : Nat) (s : State)  : (saveTable c s).keptMa = s.keptMa := by simp [saveTable]
@[simp] theorem countPorts_keptMa (s : State)  : (countPorts s).keptMa = s.keptMa := by simp [countPorts]
theorem execRootPortReassign_keptMa (lantern : Nat) (s u : State) (h : execRootPortReassign lantern s = .next u) : u.keptMa = s.keptMa := by
  unfold execRootPortReassign at h
  cases h
  (try dsimp only)
  (repeat' split)
  all_goals (try simp)

theorem execFaultReport_keptMa (lantern : Nat) (s u : State) (h : execFaultReport lantern s = .next u) : u.keptMa = s.keptMa := by
  unfold execFaultReport at h
  cases h
  simp

theorem execLampReport_keptMa (lantern : Nat) (s u : State) (h : execLampReport lantern s = .next u) : u.keptMa = s.keptMa := by
  unfold execLampReport at h
  cases h
  simp

theorem execKeyUpdateActivation_keptMa  (s u : State) (h : execKeyUpdateActivation  s = .next u) : u.keptMa = s.keptMa := by
  unfold execKeyUpdateActivation at h
  cases h
  simp

theorem execOldNetworkKeyExpiry_keptMa  (s u : State) (h : execOldNetworkKeyExpiry  s = .next u) : u.keptMa = s.keptMa := by
  unfold execOldNetworkKeyExpiry at h
  cases h
  (try dsimp only)
  (repeat' split)
  all_goals (try simp)

theorem execMeshReassemblyTimeout_keptMa (src : Nat) (s u : State) (h : execMeshReassemblyTimeout src s = .next u) : u.keptMa = s.keptMa := by
  unfold execMeshReassemblyTimeout at h
  cases h
  simp

/-- What the commands of partsMetering leave alone. -/
def State.keptMe (s : State) : Nat × TimeUnit × Rtc × Fallback × SettingsSt × HostSide × Parapet × PowerSt × List Joint × MacSt × TrussSt × LampSt × TwinSt × Otp × SecSt × UpdateSt × SelfTestSt × BootSt × Outputs × List Instr × Nat :=
  (s.now, s.time, s.rtc, s.fb, s.set, s.host, s.par, s.pwr, s.joints, s.mac, s.truss, s.lamp, s.twin, s.otp, s.sec, s.upd, s.bist, s.boot, s.out, s.pending, s.freeIdx)

@[simp] theorem keptMe_modMeter (s : State) (f) : (s.modMeter f).keptMe = s.keptMe := by have h : (s.modMeter f).keptMe = s.keptMe := rfl; exact h
@[simp] theorem keptMe_foldl {α : Type} (f : State → α → State) (h : ∀ s x, (f s x).keptMe = s.keptMe) (l : List α) (s : State) :
    (l.foldl f s).keptMe = s.keptMe := by
  induction l generalizing s with
  | nil => rfl
  | cons a l ih => simp only [List.foldl_cons, ih, h]
@[simp] theorem keptMe_ite (c : Prop) [Decidable c] (a b : State) : (if c then a else b).keptMe = if c then a.keptMe else b.keptMe := by
  split <;> rfl
theorem keptMe_foldl2 {α : Type} (f : State → α → State) (h : ∀ s x, (f s x).keptMe = s.keptMe) (l : List α) (s u : State)
    (e : s.keptMe = u.keptMe) : (l.foldl f s).keptMe = u.keptMe := by rw [keptMe_foldl f h, e]
@[simp] theorem onBank_keptMe (k : Nat) (f : State → State) (s : State) (hf : ∀ u, (f u).keptMe = u.keptMe) : (onBank k f s).keptMe = s.keptMe := by simp [onBank, hf]
@[simp] theorem writeCopy_keptMe (toB : Bool) (t old : TotalsCopy) (s : State)  : (writeCopy toB t old s).keptMe = s.keptMe := by simp [writeCopy]
@[simp] theorem saveTotals_keptMe (kind : Nat) (s : State)  : (saveTotals kind s).keptMe = s.keptMe := by simp [saveTotals]
@[simp] theorem takeEdges_keptMe (ago : Nat) (edges : List Nat) (s : State)  : (takeEdges ago edges s).keptMe = s.keptMe := by simp [takeEdges]
@[simp] theorem takeBits_keptMe (edges : List Nat) (s : State)  : (takeBits edges s).keptMe = s.keptMe := by simp [takeBits]
@[simp] theorem startPulse_keptMe (k : Nat) (s : State)  : (startPulse k s).keptMe = s.keptMe := by
  unfold startPulse
  (try dsimp only)
  (repeat' split)
  all_goals (try simp)

@[simp] theorem startPulses_keptMe (s : State)  : (startPulses s).keptMe = s.keptMe := by simp [startPulses]
@[simp] theorem noteRouted_keptMe (ph : Nat) (s : State)  : (noteRouted ph s).keptMe = s.keptMe := by simp [noteRouted]
@[simp] theorem windowReason_keptMe (bit : Nat) (s : State)  : (windowReason bit s).keptMe = s.keptMe := by simp [windowReason]
@[simp] theorem markFilled_keptMe (s : State)  : (markFilled s).keptMe = s.keptMe := by simp [markFilled]
@[simp] theorem fillLast_keptMe (s : State)  : (fillLast s).keptMe = s.keptMe := by
  unfold fillLast
  (try dsimp only)
  (repeat' split)
  all_goals (try simp)

@[simp] theorem resumePath_keptMe (drop : Bool) (s : State)  : (resumePath drop s).keptMe = s.keptMe := by simp [resumePath]
@[simp] theorem nextSecond_keptMe (freq : Nat) (s : State)  : (nextSecond freq s).keptMe = s.keptMe := by simp [nextSecond]
@[simp] theorem pulseLanded_keptMe (j : Nat) (s : State)  : (pulseLanded j s).keptMe = s.keptMe := by simp [pulseLanded]
@[simp] theorem clearPouts_keptMe (s : State)  : (clearPouts s).keptMe = s.keptMe := by simp [clearPouts]
@[simp] theorem moveSecond_keptMe (a b : Nat) (s : State)  : (moveSecond a b s).keptMe = s.keptMe := by simp [moveSecond]
@[simp] theorem expectJoined_keptMe (s : State)  : (expectJoined s).keptMe = s.keptMe := by simp [expectJoined]
@[simp] theorem extendPins_keptMe (s : State)  : (extendPins s).keptMe = s.keptMe := by simp [extendPins]
@[simp] theorem saveSecond_keptMe (s : State)  : (saveSecond s).keptMe = s.keptMe := by simp [saveSecond]
@[simp] theorem windowSecond_keptMe (s : State)  : (windowSecond s).keptMe = s.keptMe := by
  unfold windowSecond
  (try dsimp only)
  (repeat' split)
  all_goals (try simp)

@[simp] theorem windowBegins_keptMe (c : Nat) (s : State)  : (windowBegins c s).keptMe = s.keptMe := by simp [windowBegins]
@[simp] theorem modWindow_keptMe (start : Nat) (f : ReconWin → ReconWin) (s : State)  : (modWindow start f s).keptMe = s.keptMe := by simp [modWindow]
@[simp] theorem energyAggregate_keptMe (head : Nat) (p : Bytes) (s : State)  : (energyAggregate head p s).keptMe = s.keptMe := by simp [energyAggregate]
@[simp] theorem takeoverWindow_keptMe (s : State)  : (takeoverWindow s).keptMe = s.keptMe := by simp [takeoverWindow]
@[simp] theorem loseTotals_keptMe (copy : Nat) (s : State)  : (loseTotals copy s).keptMe = s.keptMe := by simp [loseTotals]
theorem execModClkGap_keptMe  (s u : State) (h : execModClkGap  s = .next u) : u.keptMe = s.keptMe := by
  unfold execModClkGap at h
  cases h
  simp

theorem execPfailRise_keptMe  (s u : State) (h : execPfailRise  s = .next u) : u.keptMe = s.keptMe := by
  unfold execPfailRise at h
  cases h
  simp

theorem execPoutPulsePhaseEnd_keptMe (output : Nat) (s u : State) (h : execPoutPulsePhaseEnd output s = .next u) : u.keptMe = s.keptMe := by
  unfold execPoutPulsePhaseEnd at h
  cases h
  (try dsimp only)
  (repeat' split)
  all_goals (try simp)

theorem execPinEdge_keptMe (input : Nat) (level : Bool) (s u : State) (h : execPinEdge input level s = .next u) : u.keptMe = s.keptMe := by
  unfold execPinEdge at h
  cases h
  (try dsimp only)
  (repeat' split)
  all_goals (try simp)

/-- What the commands of partsRecorder leave alone. -/
def State.keptPa (s : State) : Nat × TimeUnit × Rtc × Fallback × SettingsSt × HostSide × PowerSt × List Joint × MacSt × TrussSt × LampSt × MeterSt × TwinSt × Otp × SecSt × UpdateSt × SelfTestSt × BootSt × Outputs × List Instr × Nat :=
  (s.now, s.time, s.rtc, s.fb, s.set, s.host, s.pwr, s.joints, s.mac, s.truss, s.lamp, s.meter, s.twin, s.otp, s.sec, s.upd, s.bist, s.boot, s.out, s.pending, s.freeIdx)

@[simp] theorem keptPa_modPar (s : State) (f) : (s.modPar f).keptPa = s.keptPa := by have h : (s.modPar f).keptPa = s.keptPa := rfl; exact h
@[simp] theorem keptPa_foldl {α : Type} (f : State → α → State) (h : ∀ s x, (f s x).keptPa = s.keptPa) (l : List α) (s : State) :
    (l.foldl f s).keptPa = s.keptPa := by
  induction l generalizing s with
  | nil => rfl
  | cons a l ih => simp only [List.foldl_cons, ih, h]
@[simp] theorem keptPa_ite (c : Prop) [Decidable c] (a b : State) : (if c then a else b).keptPa = if c then a.keptPa else b.keptPa := by
  split <;> rfl
theorem keptPa_foldl2 {α : Type} (f : State → α → State) (h : ∀ s x, (f s x).keptPa = s.keptPa) (l : List α) (s u : State)
    (e : s.keptPa = u.keptPa) : (l.foldl f s).keptPa = u.keptPa := by rw [keptPa_foldl f h, e]
@[simp] theorem onBank_keptPa (k : Nat) (f : State → State) (s : State) (hf : ∀ u, (f u).keptPa = u.keptPa) : (onBank k f s).keptPa = s.keptPa := by simp [onBank, hf]
@[simp] theorem setRate_keptPa (code burst refill : Nat) (s : State)  : (setRate code burst refill s).keptPa = s.keptPa := by simp [setRate]
@[simp] theorem noteInfo_keptPa (source : Nat) (info : Bytes) (s : State)  : (noteInfo source info s).keptPa = s.keptPa := by simp [noteInfo]
@[simp] theorem rearmWatchdog_keptPa (core : Nat) (s : State)  : (rearmWatchdog core s).keptPa = s.keptPa := by simp [rearmWatchdog]
@[simp] theorem copyPage_keptPa (s : State)  : (copyPage s).keptPa = s.keptPa := by simp [copyPage]
@[simp] theorem loseRecord_keptPa (index : Nat) (s : State)  : (loseRecord index s).keptPa = s.keptPa := by simp [loseRecord]
@[simp] theorem tickWatchdogs_keptPa (s : State)  : (tickWatchdogs s).keptPa = s.keptPa := by simp [tickWatchdogs]
theorem execEventPageCopy_keptPa  (s u : State) (h : execEventPageCopy  s = .next u) : u.keptPa = s.keptPa := by
  unfold execEventPageCopy at h
  cases h
  simp

theorem execEventLogEraseDone_keptPa  (s u : State) (h : execEventLogEraseDone  s = .next u) : u.keptPa = s.keptPa := by
  unfold execEventLogEraseDone at h
  cases h
  simp

theorem execRateBucketRefill_keptPa (code : Nat) (s u : State) (h : execRateBucketRefill code s = .next u) : u.keptPa = s.keptPa := by
  unfold execRateBucketRefill at h
  cases h
  (try dsimp only)
  (repeat' split)
  all_goals (try simp)

theorem execWatchdogRenewal_keptPa (core : Nat) (s u : State) (h : execWatchdogRenewal core s = .next u) : u.keptPa = s.keptPa := by
  unfold execWatchdogRenewal at h
  cases h
  simp

/-- What the commands of partsSecrets leave alone. -/
def State.keptSe (s : State) : Nat × TimeUnit × Rtc × Fallback × SettingsSt × HostSide × Parapet × PowerSt × List Joint × MacSt × TrussSt × LampSt × MeterSt × TwinSt × Otp × UpdateSt × SelfTestSt × BootSt × Outputs × List Instr × Nat :=
  (s.now, s.time, s.rtc, s.fb, s.set, s.host, s.par, s.pwr, s.joints, s.mac, s.truss, s.lamp, s.meter, s.twin, s.otp, s.upd, s.bist, s.boot, s.out, s.pending, s.freeIdx)

@[simp] theorem keptSe_modSec (s : State) (f) : (s.modSec f).keptSe = s.keptSe := by have h : (s.modSec f).keptSe = s.keptSe := rfl; exact h
@[simp] theorem keptSe_foldl {α : Type} (f : State → α → State) (h : ∀ s x, (f s x).keptSe = s.keptSe) (l : List α) (s : State) :
    (l.foldl f s).keptSe = s.keptSe := by
  induction l generalizing s with
  | nil => rfl
  | cons a l ih => simp only [List.foldl_cons, ih, h]
@[simp] theorem keptSe_ite (c : Prop) [Decidable c] (a b : State) : (if c then a else b).keptSe = if c then a.keptSe else b.keptSe := by
  split <;> rfl
theorem keptSe_foldl2 {α : Type} (f : State → α → State) (h : ∀ s x, (f s x).keptSe = s.keptSe) (l : List α) (s u : State)
    (e : s.keptSe = u.keptSe) : (l.foldl f s).keptSe = u.keptSe := by rw [keptSe_foldl f h, e]
@[simp] theorem onBank_keptSe (k : Nat) (f : State → State) (s : State) (hf : ∀ u, (f u).keptSe = u.keptSe) : (onBank k f s).keptSe = s.keptSe := by simp [onBank, hf]
@[simp] theorem caseLevel_keptSe (high : Bool) (s : State)  : (caseLevel high s).keptSe = s.keptSe := by simp [caseLevel]
@[simp] theorem clearKeystone_keptSe (s : State)  : (clearKeystone s).keptSe = s.keptSe := by simp [clearKeystone]
@[simp] theorem eraseSlot_keptSe (slot : Nat) (s : State)  : (eraseSlot slot s).keptSe = s.keptSe := by simp [eraseSlot]
@[simp] theorem loadStone_keptSe (key : Bytes) (attr : Nat) (slot : Option Nat) (s : State)  : (loadStone key attr slot s).keptSe = s.keptSe := by simp [loadStone]
@[simp] theorem stoneUnitKa_keptSe (s : State)  : (stoneUnitKa s).keptSe = s.keptSe := by
  unfold stoneUnitKa
  (try dsimp only)
  (repeat' split)
  all_goals (try simp)

@[simp] theorem advanceEpoch_keptSe (s : State)  : (advanceEpoch s).keptSe = s.keptSe := by simp [advanceEpoch]
@[simp] theorem writeMirror_keptSe (s : State)  : (writeMirror s).keptSe = s.keptSe := by simp [writeMirror]
@[simp] theorem modTamper_keptSe (source : Nat) (f : TamperSrc → TamperSrc) (s : State)  : (modTamper source f s).keptSe = s.keptSe := by simp [modTamper]
@[simp] theorem logTamper_keptSe (e : TamperEnt) (s : State)  : (logTamper e s).keptSe = s.keptSe := by simp [logTamper]
@[simp] theorem eraseVault_keptSe (s : State)  : (eraseVault s).keptSe = s.keptSe := by simp [eraseVault]
@[simp] theorem tamperFalse_keptSe (source : Nat) (s : State)  : (tamperFalse source s).keptSe = s.keptSe := by simp [tamperFalse]
@[simp] theorem settleAuth_keptSe (s : State)  : (settleAuth s).keptSe = s.keptSe := by simp [settleAuth]
@[simp] theorem rearm_keptSe (source : Nat) (s : State)  : (rearm source s).keptSe = s.keptSe := by simp [rearm]
@[simp] theorem guardOff_keptSe (s : State)  : (guardOff s).keptSe = s.keptSe := by simp [guardOff]
@[simp] theorem stoneNetwork_keptSe (phase : Nat) (s : State)  : (stoneNetwork phase s).keptSe = s.keptSe := by simp [stoneNetwork]
theorem execGuardLfsrAdvance_keptSe  (s u : State) (h : execGuardLfsrAdvance  s = .next u) : u.keptSe = s.keptSe := by
  unfold execGuardLfsrAdvance at h
  cases h
  simp

theorem execTamperRearmTimer_keptSe (source : Nat) (s u : State) (h : execTamperRearmTimer source s = .next u) : u.keptSe = s.keptSe := by
  unfold execTamperRearmTimer at h
  cases h
  simp

theorem execTamper0Edge_keptSe (level : Bool) (s u : State) (h : execTamper0Edge level s = .next u) : u.keptSe = s.keptSe := by
  unfold execTamper0Edge at h
  cases h
  simp

theorem execTamperConditionEnd_keptSe (source : Nat) (s u : State) (h : execTamperConditionEnd source s = .next u) : u.keptSe = s.keptSe := by
  unfold execTamperConditionEnd at h
  cases h
  simp

/-- What the commands of partsLamps leave alone. -/
def State.keptLa (s : State) : Nat × TimeUnit × Rtc × Fallback × SettingsSt × HostSide × Parapet × PowerSt × List Joint × MacSt × TrussSt × MeterSt × TwinSt × Otp × SecSt × UpdateSt × SelfTestSt × BootSt × Outputs × List Instr × Nat :=
  (s.now, s.time, s.rtc, s.fb, s.set, s.host, s.par, s.pwr, s.joints, s.mac, s.truss, s.meter, s.twin, s.otp, s.sec, s.upd, s.bist, s.boot, s.out, s.pending, s.freeIdx)

@[simp] theorem keptLa_modLamp (s : State) (f) : (s.modLamp f).keptLa = s.keptLa := by have h : (s.modLamp f).keptLa = s.keptLa := rfl; exact h
@[simp] theorem keptLa_foldl {α : Type} (f : State → α → State) (h : ∀ s x, (f s x).keptLa = s.keptLa) (l : List α) (s : State) :
    (l.foldl f s).keptLa = s.keptLa := by
  induction l generalizing s with
  | nil => rfl
  | cons a l ih => simp only [List.foldl_cons, ih, h]
@[simp] theorem keptLa_ite (c : Prop) [Decidable c] (a b : State) : (if c then a else b).keptLa = if c then a.keptLa else b.keptLa := by
  split <;> rfl
theorem keptLa_foldl2 {α : Type} (f : State → α → State) (h : ∀ s x, (f s x).keptLa = s.keptLa) (l : List α) (s u : State)
    (e : s.keptLa = u.keptLa) : (l.foldl f s).keptLa = u.keptLa := by rw [keptLa_foldl f h, e]
@[simp] theorem onBank_keptLa (k : Nat) (f : State → State) (s : State) (hf : ∀ u, (f u).keptLa = u.keptLa) : (onBank k f s).keptLa = s.keptLa := by simp [onBank, hf]
@[simp] theorem refreshLdEn_keptLa (s : State)  : (refreshLdEn s).keptLa = s.keptLa := by simp [refreshLdEn]
@[simp] theorem modCh_keptLa (n : Nat) (f : LampCh → LampCh) (s : State)  : (modCh n f s).keptLa = s.keptLa := by simp [modCh]
@[simp] theorem modGroup_keptLa (g : Nat) (f : ColSet → ColSet) (s : State)  : (modGroup g f s).keptLa = s.keptLa := by simp [modGroup]
@[simp] theorem refreshDuty_keptLa (ns : List Nat) (s : State)  : (refreshDuty ns s).keptLa = s.keptLa := by simp [refreshDuty]
@[simp] theorem goManual_keptLa (g : Nat) (s : State)  : (goManual g s).keptLa = s.keptLa := by simp [goManual]
@[simp] theorem setPoint_keptLa (g : Nat) (ch : Change) (s : State)  : (setPoint g ch s).keptLa = s.keptLa := by simp [setPoint]
@[simp] theorem applyLocal_keptLa (outs : List Nat) (ch : Change) (s : State)  : (applyLocal outs ch s).keptLa = s.keptLa := by simp [applyLocal]
@[simp] theorem markDirect_keptLa (b : Bool) (outs : List Nat) (s : State)  : (markDirect b outs s).keptLa = s.keptLa := by simp [markDirect]
@[simp] theorem applyDirect_keptLa (outs : List Nat) (ch : Change) (s : State)  : (applyDirect outs ch s).keptLa = s.keptLa := by simp [applyDirect]
@[simp] theorem applyClaim_keptLa (outs : List Nat) (ch : Change) (s : State)  : (applyClaim outs ch s).keptLa = s.keptLa := by simp [applyClaim]
@[simp] theorem followTop_keptLa (outs : List Nat) (fade curve : Nat) (s : State)  : (followTop outs fade curve s).keptLa = s.keptLa := by simp [followTop]
@[simp] theorem placeClaims_keptLa (outs : List Nat) (cl : Claim) (s : State)  : (placeClaims outs cl s).keptLa = s.keptLa := by simp [placeClaims]
@[simp] theorem endClaims_keptLa (outs : List Nat) (p : Claim → Bool) (s : State)  : (endClaims outs p s).keptLa = s.keptLa := by
  unfold endClaims
  exact keptLa_foldl _ (fun u n => by dsimp only; split <;> simp) _ _

@[simp] theorem applyScene_keptLa (scene : Nat) (s : State)  : (applyScene scene s).keptLa = s.keptLa := by
  unfold applyScene
  (try dsimp only)
  (repeat' split)
  all_goals (try simp)

@[simp] theorem applyInstant_keptLa (t : Nat) (s : State)  : (applyInstant t s).keptLa = s.keptLa := by simp [applyInstant]
@[simp] theorem applyDue_keptLa (y0 : Nat) (s : State)  : (applyDue y0 s).keptLa = s.keptLa := by
  induction y0 generalizing s with
  | zero => rfl
  | succ k ih => unfold applyDue; split <;> simp [ih]

@[simp] theorem latchShutdown_keptLa (s : State)  : (latchShutdown s).keptLa = s.keptLa := by simp [latchShutdown]
@[simp] theorem lampLocally_keptLa (outs : List Nat) (p : Bytes) (s : State)  : (lampLocally outs p s).keptLa = s.keptLa := by simp [lampLocally]
@[simp] theorem claimLocal_keptLa (p : Policy) (i : Nat) (a : Bytes) (elapsed : Nat) (noFade : Bool) (s : State)  : (claimLocal p i a elapsed noFade s).keptLa = s.keptLa := by simp [claimLocal]
theorem execFadeStep_keptLa (output : Nat) (s u : State) (h : execFadeStep output s = .next u) : u.keptLa = s.keptLa := by
  unfold execFadeStep at h
  cases h
  (try dsimp only)
  (repeat' split)
  all_goals (try simp)

theorem execLdFaultRetryTimer_keptLa  (s u : State) (h : execLdFaultRetryTimer  s = .next u) : u.keptLa = s.keptLa := by
  unfold execLdFaultRetryTimer at h
  cases h
  (try dsimp only)
  (repeat' split)
  all_goals (try simp)

/-- What the commands of partsPower leave alone. -/
def State.keptPw (s : State) : Nat × TimeUnit × Rtc × Fallback × SettingsSt × HostSide × Parapet × List Joint × MacSt × TrussSt × LampSt × MeterSt × TwinSt × Otp × SecSt × UpdateSt × SelfTestSt × BootSt × List Instr × Nat :=
  (s.now, s.time, s.rtc, s.fb, s.set, s.host, s.par, s.joints, s.mac, s.truss, s.lamp, s.meter, s.twin, s.otp, s.sec, s.upd, s.bist, s.boot, s.pending, s.freeIdx)

@[simp] theorem keptPw_modPwr (s : State) (f) : (s.modPwr f).keptPw = s.keptPw := by have h : (s.modPwr f).keptPw = s.keptPw := rfl; exact h
@[simp] theorem keptPw_modOut (s : State) (f) : (s.modOut f).keptPw = s.keptPw := by have h : (s.modOut f).keptPw = s.keptPw := rfl; exact h
@[simp] theorem keptPw_foldl {α : Type} (f : State → α → State) (h : ∀ s x, (f s x).keptPw = s.keptPw) (l : List α) (s : State) :
    (l.foldl f s).keptPw = s.keptPw := by
  induction l generalizing s with
  | nil => rfl
  | cons a l ih => simp only [List.foldl_cons, ih, h]
@[simp] theorem keptPw_ite (c : Prop) [Decidable c] (a b : State) : (if c then a else b).keptPw = if c then a.keptPw else b.keptPw := by
  split <;> rfl
theorem keptPw_foldl2 {α : Type} (f : State → α → State) (h : ∀ s x, (f s x).keptPw = s.keptPw) (l : List α) (s u : State)
    (e : s.keptPw = u.keptPw) : (l.foldl f s).keptPw = u.keptPw := by rw [keptPw_foldl f h, e]
@[simp] theorem onBank_keptPw (k : Nat) (f : State → State) (s : State) (hf : ∀ u, (f u).keptPw = u.keptPw) : (onBank k f s).keptPw = s.keptPw := by simp [onBank, hf]
@[simp] theorem accountState_keptPw (s : State)  : (accountState s).keptPw = s.keptPw := by simp [accountState]
@[simp] theorem setPState_keptPw (q : PState) (s : State)  : (setPState q s).keptPw = s.keptPw := by simp [setPState]
@[simp] theorem toRun_keptPw (s : State)  : (toRun s).keptPw = s.keptPw := by simp [toRun]
@[simp] theorem pmbusWrite_keptPw (command : Nat) (data : Bytes) (s : State)  : (pmbusWrite command data s).keptPw = s.keptPw := by simp [pmbusWrite]
@[simp] theorem pmbusRead_keptPw (command : Nat) (s : State)  : (pmbusRead command s).keptPw = s.keptPw := by simp [pmbusRead]
@[simp] theorem sendVout_keptPw (exponent : Int) (mv : Nat) (s : State)  : (sendVout exponent mv s).keptPw = s.keptPw := by simp [sendVout]
@[simp] theorem requestVout_keptPw (mv attempt : Nat) (s : State)  : (requestVout mv attempt s).keptPw = s.keptPw := by simp [requestVout]
@[simp] theorem countAbort_keptPw (point : Nat) (s : State)  : (countAbort point s).keptPw = s.keptPw := by simp [countAbort]
@[simp] theorem beginExit_keptPw (s : State)  : (beginExit s).keptPw = s.keptPw := by simp [beginExit]
@[simp] theorem countRefusals_keptPw (l : List Nat) (s : State)  : (countRefusals l s).keptPw = s.keptPw := by simp [countRefusals]
@[simp] theorem countEntry_keptPw (q : PState) (s : State)  : (countEntry q s).keptPw = s.keptPw := by simp [countEntry]
@[simp] theorem beginEntry_keptPw (s : State)  : (beginEntry s).keptPw = s.keptPw := by simp [beginEntry]
@[simp] theorem applyOpPoint_keptPw (s : State)  : (applyOpPoint s).keptPw = s.keptPw := by simp [applyOpPoint]
@[simp] theorem abandonAt_keptPw (point : Nat) (s : State)  : (abandonAt point s).keptPw = s.keptPw := by simp [abandonAt]
@[simp] theorem checkinTick_keptPw (s : State)  : (checkinTick s).keptPw = s.keptPw := by simp [checkinTick]
@[simp] theorem romSend_keptPw (b : Bytes) (s : State)  : (romSend b s).keptPw = s.keptPw := by simp [romSend]
@[simp] theorem ethOut_keptPw (peer : Nat) (b : Bytes) (s : State)  : (ethOut peer b s).keptPw = s.keptPw := by simp [ethOut]
@[simp] theorem refuseHandshake_keptPw (peer st : Nat) (s : State)  : (refuseHandshake peer st s).keptPw = s.keptPw := by simp [refuseHandshake]
theorem execPtpEventForward_keptPw (ingress : Nat) (stamp : Nat) (frame : Bytes) (s u : State) (h : execPtpEventForward ingress stamp frame s = .next u) : u.keptPw = s.keptPw := by
  unfold execPtpEventForward at h
  cases h
  simp

theorem execPmbusRetryTimer_keptPw  (s u : State) (h : execPmbusRetryTimer  s = .next u) : u.keptPw = s.keptPw := by
  unfold execPmbusRetryTimer at h
  cases h
  (try dsimp only)
  (repeat' split)
  all_goals (try simp)

theorem execEthLinkPoll_keptPw (a : Bool) (b : Bool) (s u : State) (h : execEthLinkPoll a b s = .next u) : u.keptPw = s.keptPw := by
  unfold execEthLinkPoll at h
  cases h
  simp

theorem execCheckinWindowEnd_keptPw  (s u : State) (h : execCheckinWindowEnd  s = .next u) : u.keptPw = s.keptPw := by
  unfold execCheckinWindowEnd at h
  cases h
  (try dsimp only)
  (repeat' split)
  all_goals (try simp)

/-- What the commands of partsUnit leave alone. -/
def State.keptTi (s : State) : Nat × Rtc × Fallback × SettingsSt × HostSide × Parapet × PowerSt × List Joint × MacSt × TrussSt × LampSt × MeterSt × TwinSt × Otp × SecSt × UpdateSt × SelfTestSt × BootSt × List Instr :=
  (s.now, s.rtc, s.fb, s.set, s.host, s.par, s.pwr, s.joints, s.mac, s.truss, s.lamp, s.meter, s.twin, s.otp, s.sec, s.upd, s.bist, s.boot, s.pending)

@[simp] theorem keptTi_draw (s : State) : s.draw.keptTi = s.keptTi := by have h : s.draw.keptTi = s.keptTi := rfl; exact h
@[simp] theorem keptTi_free (s : State) (n : Nat) : ({ s with freeIdx := n } : State).keptTi = s.keptTi := rfl
@[simp] theorem keptTi_modOut (s : State) (f) : (s.modOut f).keptTi = s.keptTi := by have h : (s.modOut f).keptTi = s.keptTi := rfl; exact h
@[simp] theorem keptTi_modTime (s : State) (f) : (s.modTime f).keptTi = s.keptTi := by have h : (s.modTime f).keptTi = s.keptTi := rfl; exact h
@[simp] theorem keptTi_foldl {α : Type} (f : State → α → State) (h : ∀ s x, (f s x).keptTi = s.keptTi) (l : List α) (s : State) :
    (l.foldl f s).keptTi = s.keptTi := by
  induction l generalizing s with
  | nil => rfl
  | cons a l ih => simp only [List.foldl_cons, ih, h]
@[simp] theorem keptTi_ite (c : Prop) [Decidable c] (a b : State) : (if c then a else b).keptTi = if c then a.keptTi else b.keptTi := by
  split <;> rfl
theorem keptTi_foldl2 {α : Type} (f : State → α → State) (h : ∀ s x, (f s x).keptTi = s.keptTi) (l : List α) (s u : State)
    (e : s.keptTi = u.keptTi) : (l.foldl f s).keptTi = u.keptTi := by rw [keptTi_foldl f h, e]
@[simp] theorem onBank_keptTi (k : Nat) (f : State → State) (s : State) (hf : ∀ u, (f u).keptTi = u.keptTi) : (onBank k f s).keptTi = s.keptTi := by simp [onBank, hf]
@[simp] theorem setAddend_keptTi (a : Int) (s : State)  : (setAddend a s).keptTi = s.keptTi := by simp [setAddend]
@[simp] theorem pmbusWrite_keptTi (command : Nat) (data : Bytes) (s : State)  : (pmbusWrite command data s).keptTi = s.keptTi := by simp [pmbusWrite]
@[simp] theorem pmbusRead_keptTi (command : Nat) (s : State)  : (pmbusRead command s).keptTi = s.keptTi := by simp [pmbusRead]
@[simp] theorem sendVout_keptTi (exponent : Int) (mv : Nat) (s : State)  : (sendVout exponent mv s).keptTi = s.keptTi := by simp [sendVout]
@[simp] theorem modSource_keptTi (c : Nat) (f : Source → Source) (s : State)  : (modSource c f s).keptTi = s.keptTi := by simp [modSource]
@[simp] theorem servo_keptTi (x : Int) (s : State)  : (servo x s).keptTi = s.keptTi := by simp [servo]
@[simp] theorem ptpDelayResp_keptTi (m : PtpResp) (s : State)  : (ptpDelayResp m s).keptTi = s.keptTi := by
  unfold ptpDelayResp
  (try dsimp only)
  (repeat' split)
  all_goals (try simp)

@[simp] theorem delayReqTimer_keptTi (s : State)  : (delayReqTimer s).keptTi = s.keptTi := by simp [delayReqTimer]
@[simp] theorem ppsSecond_keptTi (s : State)  : (ppsSecond s).keptTi = s.keptTi := by simp [ppsSecond]
@[simp] theorem annexDeviation_keptTi (x : Int) (s : State)  : (annexDeviation x s).keptTi = s.keptTi := by simp [annexDeviation]
@[simp] theorem restoreSpan_keptTi (s : State)  : (restoreSpan s).keptTi = s.keptTi := keptTi_modTime _ _
@[simp] theorem romSend_keptTi (b : Bytes) (s : State)  : (romSend b s).keptTi = s.keptTi := by simp [romSend]
@[simp] theorem ethOut_keptTi (peer : Nat) (b : Bytes) (s : State)  : (ethOut peer b s).keptTi = s.keptTi := by simp [ethOut]
@[simp] theorem refuseHandshake_keptTi (peer st : Nat) (s : State)  : (refuseHandshake peer st s).keptTi = s.keptTi := by simp [refuseHandshake]
@[simp] theorem tickSpan_keptTi (s : State)  : (tickSpan s).keptTi = s.keptTi := by simp [tickSpan]
theorem execPtpDelayResp_keptTi (m : PtpResp) (s u : State) (h : execPtpDelayResp m s = .next u) : u.keptTi = s.keptTi := by
  unfold execPtpDelayResp at h
  cases h
  simp

theorem execDelayReqTimer_keptTi  (s u : State) (h : execDelayReqTimer  s = .next u) : u.keptTi = s.keptTi := by
  unfold execDelayReqTimer at h
  cases h
  simp

theorem execSlewEnd_keptTi  (s u : State) (h : execSlewEnd  s = .next u) : u.keptTi = s.keptTi := by
  unfold execSlewEnd at h
  cases h
  (try dsimp only)
  (repeat' split)
  all_goals (try simp)

/-- What the commands of partsRtc leave alone. -/
def State.keptRt (s : State) : Nat × TimeUnit × Fallback × SettingsSt × HostSide × Parapet × PowerSt × List Joint × MacSt × TrussSt × LampSt × MeterSt × TwinSt × Otp × SecSt × UpdateSt × SelfTestSt × BootSt × Outputs × List Instr × Nat :=
  (s.now, s.time, s.fb, s.set, s.host, s.par, s.pwr, s.joints, s.mac, s.truss, s.lamp, s.meter, s.twin, s.otp, s.sec, s.upd, s.bist, s.boot, s.out, s.pending, s.freeIdx)

@[simp] theorem keptRt_modRtc (s : State) (f) : (s.modRtc f).keptRt = s.keptRt := by have h : (s.modRtc f).keptRt = s.keptRt := rfl; exact h
@[simp] theorem keptRt_foldl {α : Type} (f : State → α → State) (h : ∀ s x, (f s x).keptRt = s.keptRt) (l : List α) (s : State) :
    (l.foldl f s).keptRt = s.keptRt := by
  induction l generalizing s with
  | nil => rfl
  | cons a l ih => simp only [List.foldl_cons, ih, h]
@[simp] theorem keptRt_ite (c : Prop) [Decidable c] (a b : State) : (if c then a else b).keptRt = if c then a.keptRt else b.keptRt := by
  split <;> rfl
theorem keptRt_foldl2 {α : Type} (f : State → α → State) (h : ∀ s x, (f s x).keptRt = s.keptRt) (l : List α) (s u : State)
    (e : s.keptRt = u.keptRt) : (l.foldl f s).keptRt = u.keptRt := by rw [keptRt_foldl f h, e]
@[simp] theorem onBank_keptRt (k : Nat) (f : State → State) (s : State) (hf : ∀ u, (f u).keptRt = u.keptRt) : (onBank k f s).keptRt = s.keptRt := by simp [onBank, hf]
@[simp] theorem learnSecond_keptRt (s : State)  : (learnSecond s).keptRt = s.keptRt := by simp [learnSecond]
@[simp] theorem tickRtc_keptRt (s : State)  : (tickRtc s).keptRt = s.keptRt := by simp [tickRtc]
theorem execRtcTrimAccumulate_keptRt  (s u : State) (h : execRtcTrimAccumulate  s = .next u) : u.keptRt = s.keptRt := by
  unfold execRtcTrimAccumulate at h
  cases h
  simp

theorem execRtcTempCompensation_keptRt (correction : Int) (s u : State) (h : execRtcTempCompensation correction s = .next u) : u.keptRt = s.keptRt := by
  unfold execRtcTempCompensation at h
  cases h
  simp

end Sys2Proof.Machine
end

