-- ==== Sys2Proof/Laws/Kept.lean ====
section
/-! SUPPORT. What every operation of the machine leaves alone: the clock, the queue of waiting commands, the OTP and a
pending life-cycle advance; one lemma per operation, but for those that program the OTP. -/

namespace Sys2Proof.Machine

set_option Elab.async false

/-- What the meanings leave alone, but for the two that program the OTP: the clock, the queue, the OTP. -/
def State.kept (s : State) : Nat × List Instr × Otp × Option (Nat × Nat) := (s.now, s.pending, s.otp, s.sec.advance)

@[simp] theorem kept_modTime (s : State) (f) : (s.modTime f).kept = s.kept := by have h : (s.modTime f).kept = s.kept := rfl; exact h
@[simp] theorem kept_modRtc (s : State) (f) : (s.modRtc f).kept = s.kept := by have h : (s.modRtc f).kept = s.kept := rfl; exact h
@[simp] theorem kept_modFb (s : State) (f) : (s.modFb f).kept = s.kept := by have h : (s.modFb f).kept = s.kept := rfl; exact h
@[simp] theorem kept_modSet (s : State) (f) : (s.modSet f).kept = s.kept := by have h : (s.modSet f).kept = s.kept := rfl; exact h
@[simp] theorem kept_modHost (s : State) (f) : (s.modHost f).kept = s.kept := by have h : (s.modHost f).kept = s.kept := rfl; exact h
@[simp] theorem kept_modPar (s : State) (f) : (s.modPar f).kept = s.kept := by have h : (s.modPar f).kept = s.kept := rfl; exact h
@[simp] theorem kept_modPwr (s : State) (f) : (s.modPwr f).kept = s.kept := by have h : (s.modPwr f).kept = s.kept := rfl; exact h
@[simp] theorem kept_modMac (s : State) (f) : (s.modMac f).kept = s.kept := by have h : (s.modMac f).kept = s.kept := rfl; exact h
@[simp] theorem kept_modTruss (s : State) (f) : (s.modTruss f).kept = s.kept := by have h : (s.modTruss f).kept = s.kept := rfl; exact h
@[simp] theorem kept_modLamp (s : State) (f) : (s.modLamp f).kept = s.kept := by have h : (s.modLamp f).kept = s.kept := rfl; exact h
@[simp] theorem kept_modMeter (s : State) (f) : (s.modMeter f).kept = s.kept := by have h : (s.modMeter f).kept = s.kept := rfl; exact h
@[simp] theorem kept_modTwin (s : State) (f) : (s.modTwin f).kept = s.kept := by have h : (s.modTwin f).kept = s.kept := rfl; exact h
@[simp] theorem kept_modSec (s : State) (f : SecSt → SecSt) (h : (f s.sec).advance = s.sec.advance) : (s.modSec f).kept = s.kept := by
  simp [State.kept, State.modSec, h]
@[simp] theorem kept_modUpd (s : State) (f) : (s.modUpd f).kept = s.kept := by have h : (s.modUpd f).kept = s.kept := rfl; exact h
@[simp] theorem kept_modBist (s : State) (f) : (s.modBist f).kept = s.kept := by have h : (s.modBist f).kept = s.kept := rfl; exact h
@[simp] theorem kept_modBoot (s : State) (f) : (s.modBoot f).kept = s.kept := by have h : (s.modBoot f).kept = s.kept := rfl; exact h
@[simp] theorem kept_modOut (s : State) (f) : (s.modOut f).kept = s.kept := by have h : (s.modOut f).kept = s.kept := rfl; exact h
@[simp] theorem kept_draw (s : State) : s.draw.kept = s.kept := by have h : s.draw.kept = s.kept := rfl; exact h
@[simp] theorem kept_free (s : State) (n : Nat) : ({ s with freeIdx := n } : State).kept = s.kept := rfl
@[simp] theorem kept_foldl {α : Type} (f : State → α → State) (h : ∀ s x, (f s x).kept = s.kept) (l : List α) (s : State) :
    (l.foldl f s).kept = s.kept := by
  induction l generalizing s with
  | nil => rfl
  | cons a l ih => simp only [List.foldl_cons, ih, h]
@[simp] theorem kept_ite (c : Prop) [Decidable c] (a b : State) : (if c then a else b).kept = if c then a.kept else b.kept := by
  split <;> rfl
/-- A fold under a projection of equals. -/
theorem kept_foldl2 {α : Type} (f : State → α → State) (h : ∀ s x, (f s x).kept = s.kept) (l : List α) (s u : State)
    (e : s.kept = u.kept) : (l.foldl f s).kept = u.kept := by rw [kept_foldl f h, e]

@[simp] theorem onBank_kept (k : Nat) (f : State → State) (s : State) (hf : ∀ u, (f u).kept = u.kept) : (onBank k f s).kept = s.kept := by simp [onBank, hf]
@[simp] theorem twinPut_kept (type : Nat) (payload : Bytes) (s : State)  : (twinPut type payload s).kept = s.kept := by simp [twinPut]
@[simp] theorem twinSend_kept (type : Nat) (payload : Bytes) (s : State)  : (twinSend type payload s).kept = s.kept := by simp [twinSend]
@[simp] theorem State_modSession_kept (s : State) (sid : Nat) (f : Session → Session)  : (State.modSession s sid f).kept = s.kept := by simp [State.modSession]
@[simp] theorem pushNotice_kept (sid : Nat) (build : Nat → Bytes) (s : State)  : (pushNotice sid build s).kept = s.kept := by simp [pushNotice]
@[simp] theorem giveCredits_kept (sid n : Nat) (s : State)  : (giveCredits sid n s).kept = s.kept := by
  unfold giveCredits
  (try dsimp only)
  (repeat' split)
  all_goals (try simp)

@[simp] theorem creditNotice_kept (sid : Nat) (s : State)  : (creditNotice sid s).kept = s.kept := by
  unfold creditNotice
  (try dsimp only)
  (repeat' split)
  all_goals (try simp)

@[simp] theorem noticeTo_kept (dest : Option Nat) (code tag : Nat) (rec : Bytes) (s : State)  : (noticeTo dest code tag rec s).kept = s.kept := by
  unfold noticeTo
  (try dsimp only)
  (repeat' split)
  all_goals (try simp)

@[simp] theorem recordEv_kept (code source sev : Nat) (payload : Bytes) (dest : Option Nat) (tag : Nat) (s : State)  : (recordEv code source sev payload dest tag s).kept = s.kept := by simp [recordEv]
@[simp] theorem ev_kept (code : Nat) (payload : Bytes) (s : State)  : (ev code payload s).kept = s.kept := by simp [ev]
@[simp] theorem evL_kept (n code : Nat) (payload : Bytes) (s : State)  : (evL n code payload s).kept = s.kept := by simp [evL]
@[simp] theorem evS_kept (sid tag code : Nat) (payload : Bytes) (s : State)  : (evS sid tag code payload s).kept = s.kept := by simp [evS]
@[simp] theorem checkBacklog_kept (sid : Nat) (s : State)  : (checkBacklog sid s).kept = s.kept := by
  unfold checkBacklog
  (try dsimp only)
  (repeat' split)
  all_goals (try simp)

@[simp] theorem checkInbound_kept (s : State)  : (checkInbound s).kept = s.kept := by simp [checkInbound]
@[simp] theorem pushBare_kept (t : Transport) (bytes : Bytes) (seq : Nat) (s : State)  : (pushBare t bytes seq s).kept = s.kept := by simp [pushBare]
@[simp] theorem State_modCmd_kept (s : State) (seq : Nat) (f : LiveCmd → LiveCmd)  : (State.modCmd s seq f).kept = s.kept := by simp [State.modCmd]
@[simp] theorem complete_kept (c : LiveCmd) (status detail : Nat) (params : Bytes) (s : State)  : (complete c status detail params s).kept = s.kept := by simp [complete]
@[simp] theorem fail_kept (c : LiveCmd) (status detail : Nat) (s : State)  : (fail c status detail s).kept = s.kept := by simp [fail]
@[simp] theorem completeAll_kept (p : LiveCmd → Bool) (status detail : Nat) (params : Bytes) (s : State)  : (completeAll p status detail params s).kept = s.kept := by simp [completeAll]
@[simp] theorem completeEach_kept (p : LiveCmd → Bool) (status detail : Nat) (params : LiveCmd → Bytes) (s : State)  : (completeEach p status detail params s).kept = s.kept := by simp [completeEach]
@[simp] theorem dropPend_kept (s : State)  : (dropPend s).kept = s.kept := by simp [dropPend]
@[simp] theorem lateSuccess_kept (p : LateRec → Bool) (status : Nat) (s : State)  : (lateSuccess p status s).kept = s.kept := by simp [lateSuccess]
@[simp] theorem closeSession_kept (sid : Nat) (s : State)  : (closeSession sid s).kept = s.kept := by
  unfold closeSession
  (try dsimp only)
  (repeat' split)
  all_goals (try simp)

@[simp] theorem closeSessions_kept (p : Session → Bool) (s : State)  : (closeSessions p s).kept = s.kept := by
  unfold closeSessions
  (try simp)
  (repeat' (split <;> try simp))

@[simp] theorem takeControl_kept (a : Agent) (s : State)  : (takeControl a s).kept = s.kept := by simp [takeControl]
@[simp] theorem refreshLdEn_kept (s : State)  : (refreshLdEn s).kept = s.kept := by simp [refreshLdEn]
@[simp] theorem writeCopy_kept (toB : Bool) (t old : TotalsCopy) (s : State)  : (writeCopy toB t old s).kept = s.kept := by simp [writeCopy]
@[simp] theorem saveTotals_kept (kind : Nat) (s : State)  : (saveTotals kind s).kept = s.kept := by simp [saveTotals]
@[simp] theorem setAddend_kept (a : Int) (s : State)  : (setAddend a s).kept = s.kept := by simp [setAddend]
@[simp] theorem toHoldover_kept (s : State)  : (toHoldover s).kept = s.kept := by simp [toHoldover]
@[simp] theorem accountState_kept (s : State)  : (accountState s).kept = s.kept := by simp [accountState]
@[simp] theorem setPState_kept (q : PState) (s : State)  : (setPState q s).kept = s.kept := by simp [setPState]
@[simp] theorem toRun_kept (s : State)  : (toRun s).kept = s.kept := by simp [toRun]
@[simp] theorem loseLease_kept (s : State)  : (loseLease s).kept = s.kept := by simp [loseLease]
@[simp] theorem dropLeaseOut_kept (s : State)  : (dropLeaseOut s).kept = s.kept := by simp [dropLeaseOut]
@[simp] theorem modJoint_kept (j : Nat) (f : Joint → Joint) (s : State)  : (modJoint j f s).kept = s.kept := rfl
@[simp] theorem crossNote_kept (j code : Nat) (payload : Bytes) (s : State)  : (crossNote j code payload s).kept = s.kept := by simp [crossNote]
@[simp] theorem takeEdges_kept (ago : Nat) (edges : List Nat) (s : State)  : (takeEdges ago edges s).kept = s.kept := by simp [takeEdges]
@[simp] theorem takeBits_kept (edges : List Nat) (s : State)  : (takeBits edges s).kept = s.kept := by simp [takeBits]
@[simp] theorem startPulse_kept (k : Nat) (s : State)  : (startPulse k s).kept = s.kept := by
  unfold startPulse
  (try dsimp only)
  (repeat' split)
  all_goals (try simp)

@[simp] theorem startPulses_kept (s : State)  : (startPulses s).kept = s.kept := by simp [startPulses]
@[simp] theorem duePulses_kept (k n : Nat) (s : State)  : (duePulses k n s).kept = s.kept := by
  unfold duePulses
  (try dsimp only)
  (repeat' split)
  all_goals (try simp)

@[simp] theorem feedPout_kept (k r x : Nat) (s : State)  : (feedPout k r x s).kept = s.kept := by
  unfold feedPout
  (try dsimp only)
  (repeat' split)
  all_goals (try simp)

@[simp] theorem addEnergy_kept (r x : Nat) (s : State)  : (addEnergy r x s).kept = s.kept := by simp [addEnergy]
@[simp] theorem routePair_kept (r : Nat) (x : Int) (s : State)  : (routePair r x s).kept = s.kept := by simp [routePair]
@[simp] theorem routeCycle_kept (ph : Nat) (e : CycleEnergy) (s : State)  : (routeCycle ph e s).kept = s.kept := by simp [routeCycle]
@[simp] theorem routePhase_kept (ph until_ : Nat) (s : State)  : (routePhase ph until_ s).kept = s.kept := by simp [routePhase]
@[simp] theorem noteRouted_kept (ph : Nat) (s : State)  : (noteRouted ph s).kept = s.kept := by simp [noteRouted]
@[simp] theorem routeTotal_kept (s : State)  : (routeTotal s).kept = s.kept := by simp [routeTotal]
@[simp] theorem closeTotals_kept (until_ : Nat) (s : State)  : (closeTotals until_ s).kept = s.kept := by simp [closeTotals]
@[simp] theorem flushNow_kept (s : State)  : (flushNow s).kept = s.kept := by simp [flushNow]
@[simp] theorem zeroCrossing_kept (ph : Nat) (s : State)  : (zeroCrossing ph s).kept = s.kept := by simp [zeroCrossing]
@[simp] theorem windowReason_kept (bit : Nat) (s : State)  : (windowReason bit s).kept = s.kept := by simp [windowReason]
@[simp] theorem markFilled_kept (s : State)  : (markFilled s).kept = s.kept := by simp [markFilled]
@[simp] theorem fillLast_kept (s : State)  : (fillLast s).kept = s.kept := by
  unfold fillLast
  (try dsimp only)
  (repeat' split)
  all_goals (try simp)

@[simp] theorem creditGap_kept (ns : Nat) (s : State)  : (creditGap ns s).kept = s.kept := by simp [creditGap]
@[simp] theorem resumePath_kept (drop : Bool) (s : State)  : (resumePath drop s).kept = s.kept := by simp [resumePath]
@[simp] theorem nextSecond_kept (freq : Nat) (s : State)  : (nextSecond freq s).kept = s.kept := by simp [nextSecond]
@[simp] theorem scheduleStart_kept (at_ : Nat) (s : State)  : (scheduleStart at_ s).kept = s.kept := by simp [scheduleStart]
@[simp] theorem autoStart_kept (s : State)  : (autoStart s).kept = s.kept := by simp [autoStart]
@[simp] theorem setContactor_kept (k : Nat) (level : Bool) (s : State)  : (setContactor k level s).kept = s.kept := by simp [setContactor]
@[simp] theorem fallbackDrive_kept (k : Nat) (s : State)  : (fallbackDrive k s).kept = s.kept := by
  unfold fallbackDrive
  (try dsimp only)
  (repeat' split)
  all_goals (try simp)

@[simp] theorem fallbackEval_kept (s : State)  : (fallbackEval s).kept = s.kept := by simp [fallbackEval]
@[simp] theorem seqTakes_kept (s : State)  : (seqTakes s).kept = s.kept := by simp [seqTakes]
@[simp] theorem enterSafe_kept (code source index : Nat) (s : State)  : (enterSafe code source index s).kept = s.kept := by
  unfold enterSafe
  (try dsimp only)
  (repeat' split)
  all_goals (try simp)

@[simp] theorem faultRecord_kept (source cls : Nat) (payload : Bytes) (s : State)  : (faultRecord source cls payload s).kept = s.kept := by simp [faultRecord]
@[simp] theorem raiseFT_kept (source : Nat) (payload : Bytes) (s : State)  : (raiseFT source payload s).kept = s.kept := by simp [raiseFT]
@[simp] theorem raiseUC_kept (source : Nat) (payload : Bytes) (s : State)  : (raiseUC source payload s).kept = s.kept := by simp [raiseUC]
@[simp] theorem raiseCE_kept (source : Nat) (payload : Bytes) (s : State)  : (raiseCE source payload s).kept = s.kept := by simp [raiseCE]
@[simp] theorem raiseFault_kept (source cls : Nat) (payload : Bytes) (s : State)  : (raiseFault source cls payload s).kept = s.kept := by simp [raiseFault]
@[simp] theorem escalate_kept (source : Nat) (s : State)  : (escalate source s).kept = s.kept := by simp [escalate]
@[simp] theorem ackFault_kept (source : Nat) (s : State)  : (ackFault source s).kept = s.kept := by
  unfold ackFault
  (try dsimp only)
  (repeat' split)
  all_goals (try simp)

@[simp] theorem runCmd_kept (op sid tag : Nat) (body : LiveCmd → State → State) (s : State) (hbody : ∀ x0 u, (body x0 u).kept = u.kept) : (runCmd op sid tag body s).kept = s.kept := by
  unfold runCmd
  (try dsimp only)
  (repeat' split)
  all_goals (try simp [hbody])

@[simp] theorem waitFor_kept (c : LiveCmd) (w : Wait) (work : List Nat) (s : State)  : (waitFor c w work s).kept = s.kept := by simp [waitFor]
@[simp] theorem recordOverrun_kept (j : Nat) (s : State)  : (recordOverrun j s).kept = s.kept := by simp [recordOverrun]
@[simp] theorem recordFlushed_kept (j : Nat) (s : State)  : (recordFlushed j s).kept = s.kept := by simp [recordFlushed]
@[simp] theorem pulseLanded_kept (j : Nat) (s : State)  : (pulseLanded j s).kept = s.kept := by simp [pulseLanded]
@[simp] theorem jointSend_kept (j : Nat) (s : State)  : (jointSend j s).kept = s.kept := by simp [jointSend]
@[simp] theorem landCrossed_kept (j k : Nat) (s : State)  : (landCrossed j k s).kept = s.kept := by simp [landCrossed]
@[simp] theorem crossEv_kept (j code : Nat) (payload : Bytes) (s : State)  : (crossEv j code payload s).kept = s.kept := by simp [crossEv]
@[simp] theorem jointDeliver_kept (j : Nat) (s : State)  : (jointDeliver j s).kept = s.kept := by
  unfold jointDeliver
  (try dsimp only)
  (repeat' split)
  all_goals (try simp)

@[simp] theorem flushJoint_kept (j : Nat) (s : State)  : (flushJoint j s).kept = s.kept := by simp [flushJoint]
@[simp] theorem recordOverruns_kept (s : State)  : (recordOverruns s).kept = s.kept := by simp [recordOverruns]
@[simp] theorem pmbusWrite_kept (command : Nat) (data : Bytes) (s : State)  : (pmbusWrite command data s).kept = s.kept := by simp [pmbusWrite]
@[simp] theorem pmbusRead_kept (command : Nat) (s : State)  : (pmbusRead command s).kept = s.kept := by simp [pmbusRead]
@[simp] theorem sendVout_kept (exponent : Int) (mv : Nat) (s : State)  : (sendVout exponent mv s).kept = s.kept := by simp [sendVout]
@[simp] theorem requestVout_kept (mv attempt : Nat) (s : State)  : (requestVout mv attempt s).kept = s.kept := by simp [requestVout]
@[simp] theorem countAbort_kept (point : Nat) (s : State)  : (countAbort point s).kept = s.kept := by simp [countAbort]
@[simp] theorem beginExit_kept (s : State)  : (beginExit s).kept = s.kept := by simp [beginExit]
@[simp] theorem recordWake_kept (cause : Nat) (s : State)  : (recordWake cause s).kept = s.kept := by simp [recordWake]
@[simp] theorem wakeUp_kept (cause : Nat) (s : State)  : (wakeUp cause s).kept = s.kept := by
  unfold wakeUp
  (try dsimp only)
  (repeat' split)
  all_goals (try simp)

@[simp] theorem fireAlarm_kept (i flags instants t : Nat) (s : State)  : (fireAlarm i flags instants t s).kept = s.kept := by simp [fireAlarm]
@[simp] theorem matchAlarm_kept (i t : Nat) (s : State)  : (matchAlarm i t s).kept = s.kept := by
  unfold matchAlarm
  (try dsimp only)
  (repeat' split)
  all_goals (try simp)

@[simp] theorem rtcAlarmMatch_kept (s : State)  : (rtcAlarmMatch s).kept = s.kept := by simp [rtcAlarmMatch]
@[simp] theorem alarmStep_kept (i a b : Nat) (s : State)  : (alarmStep i a b s).kept = s.kept := by
  unfold alarmStep
  (try dsimp only)
  (repeat' split)
  all_goals (try simp)

@[simp] theorem rtcStepped_kept (n : Int) (cause : Nat) (s : State)  : (rtcStepped n cause s).kept = s.kept := by simp [rtcStepped]
@[simp] theorem rtcMove_kept (n : Int) (cause : Nat) (adjust : Bool) (s : State)  : (rtcMove n cause adjust s).kept = s.kept := by simp [rtcMove]
@[simp] theorem rtcStep_kept (n : Int) (cause : Nat) (adjust : Bool) (s : State)  : (rtcStep n cause adjust s).kept = s.kept := by simp [rtcStep]
@[simp] theorem rtcValidate_kept (s : State)  : (rtcValidate s).kept = s.kept := by simp [rtcValidate]
@[simp] theorem rtcStepValid_kept (n : Int) (cause : Nat) (s : State)  : (rtcStepValid n cause s).kept = s.kept := by simp [rtcStepValid]
@[simp] theorem refreshU_kept (s : State)  : (refreshU s).kept = s.kept := by simp [refreshU]
@[simp] theorem meterRun_kept (on : Bool) (s : State)  : (meterRun on s).kept = s.kept := by simp [meterRun]
@[simp] theorem twinEnable_kept (on : Bool) (s : State)  : (twinEnable on s).kept = s.kept := by simp [twinEnable]
@[simp] theorem bumpConf_kept (s : State)  : (bumpConf s).kept = s.kept := by simp [bumpConf]
@[simp] theorem caseLevel_kept (high : Bool) (s : State)  : (caseLevel high s).kept = s.kept := by simp [caseLevel]
@[simp] theorem settingEffect_kept (id old v : Nat) (s : State)  : (settingEffect id old v s).kept = s.kept := by simp [settingEffect]
@[simp] theorem applySetting_kept (id v : Nat) (s : State)  : (applySetting id v s).kept = s.kept := by simp [applySetting]
@[simp] theorem syncShadow_kept (s : State)  : (syncShadow s).kept = s.kept := by simp [syncShadow]
@[simp] theorem commitDone_kept (block : Nat) (reply : Bytes) (s : State)  : (commitDone block reply s).kept = s.kept := by simp [commitDone]
@[simp] theorem clearPouts_kept (s : State)  : (clearPouts s).kept = s.kept := by simp [clearPouts]
@[simp] theorem applyBlock_kept (block : Nat) (cycle : Option Nat) (s : State)  : (applyBlock block cycle s).kept = s.kept := by
  unfold applyBlock
  (try dsimp only)
  (repeat' split)
  all_goals (try simp)

@[simp] theorem moveSecond_kept (a b : Nat) (s : State)  : (moveSecond a b s).kept = s.kept := by simp [moveSecond]
@[simp] theorem applyStep_kept (x : Int) (cause application : Nat) (seq : Option Nat) (s : State)  : (applyStep x cause application seq s).kept = s.kept := by
  unfold applyStep
  (try dsimp only)
  (repeat' split)
  all_goals (try simp)

@[simp] theorem doStep_kept (x : Int) (cause : Nat) (seq : Option Nat) (s : State)  : (doStep x cause seq s).kept = s.kept := by simp [doStep]
@[simp] theorem modSource_kept (c : Nat) (f : Source → Source) (s : State)  : (modSource c f s).kept = s.kept := by simp [modSource]
@[simp] theorem selectSource_kept (c : Nat) (s : State)  : (selectSource c s).kept = s.kept := by simp [selectSource]
@[simp] theorem qualify_kept (c : Nat) (s : State)  : (qualify c s).kept = s.kept := by simp [qualify]
@[simp] theorem loseSource_kept (c : Nat) (s : State)  : (loseSource c s).kept = s.kept := by simp [loseSource]
@[simp] theorem countMeasurement_kept (c : Nat) (x : Int) (s : State)  : (countMeasurement c x s).kept = s.kept := by simp [countMeasurement]
@[simp] theorem refuseMeasurement_kept (c : Nat) (x : Int) (s : State)  : (refuseMeasurement c x s).kept = s.kept := by simp [refuseMeasurement]
@[simp] theorem servo_kept (x : Int) (s : State)  : (servo x s).kept = s.kept := by simp [servo]
@[simp] theorem measure_kept (c : Nat) (x : Int) (s : State)  : (measure c x s).kept = s.kept := by simp [measure]
@[simp] theorem modLan_kept (n : Nat) (f : Lantern → Lantern) (s : State)  : (modLan n f s).kept = s.kept := by simp [modLan]
@[simp] theorem dropLantern_kept (n : Nat) (s : State)  : (dropLantern n s).kept = s.kept := by simp [dropLantern]
@[simp] theorem finishMesh_kept (q : Nat) (s : State)  : (finishMesh q s).kept = s.kept := by
  unfold finishMesh
  (try dsimp only)
  (repeat' split)
  all_goals (try simp)

@[simp] theorem removeLantern_kept (by_ n : Nat) (s : State)  : (removeLantern by_ n s).kept = s.kept := by simp [removeLantern]
@[simp] theorem dropPushes_kept (pol : Nat) (s : State)  : (dropPushes pol s).kept = s.kept := by simp [dropPushes]
@[simp] theorem ownSettled_kept (t : Txn) (o : Outcome) (s : State)  : (ownSettled t o s).kept = s.kept := by simp [ownSettled]
@[simp] theorem finishLeave_kept (t : Txn) (s : State)  : (finishLeave t s).kept = s.kept := by
  unfold finishLeave
  (try dsimp only)
  (repeat' split)
  all_goals (try simp)

@[simp] theorem lateLeave_kept (q n : Nat) (s : State)  : (lateLeave q n s).kept = s.kept := by simp [lateLeave]
@[simp] theorem lateMesh_kept (q : Nat) (s : State)  : (lateMesh q s).kept = s.kept := by
  unfold lateMesh
  (try dsimp only)
  (repeat' split)
  all_goals (try simp)

@[simp] theorem settle_kept (t : Txn) (o : Outcome) (s : State)  : (settle t o s).kept = s.kept := by
  unfold settle
  (try dsimp only)
  (repeat' split)
  all_goals (try simp)

@[simp] theorem addRetries_kept (q k : Nat) (s : State)  : (addRetries q k s).kept = s.kept := by simp [addRetries]
@[simp] theorem queueFlood_kept (f : Flood) (s : State)  : (queueFlood f s).kept = s.kept := by simp [queueFlood]
@[simp] theorem trimHeld_kept (n : Nat) (s : State)  : (trimHeld n s).kept = s.kept := by
  unfold trimHeld
  (try dsimp only)
  (repeat' split)
  all_goals (try simp)

@[simp] theorem sendMsg_kept (owner : Option Nat) (n type : Nat) (confirmed : Bool) (payload : Bytes) (expiry : Nat) (s : State)  : (sendMsg owner n type confirmed payload expiry s).kept = s.kept := by
  unfold sendMsg
  (try dsimp only)
  (repeat' split)
  all_goals (try simp)

@[simp] theorem sendOwn_kept (n type : Nat) (payload : Bytes) (s : State)  : (sendOwn n type payload s).kept = s.kept := by simp [sendOwn]
@[simp] theorem loseLantern_kept (n : Nat) (s : State)  : (loseLantern n s).kept = s.kept := by simp [loseLantern]
@[simp] theorem expectJoined_kept (s : State)  : (expectJoined s).kept = s.kept := by simp [expectJoined]
@[simp] theorem contact_kept (n at_ : Nat) (s : State)  : (contact n at_ s).kept = s.kept := by simp [contact]
@[simp] theorem sendEach_kept (c : LiveCmd) (work : List Nat) (send : State → State) (s : State) (hsend : ∀ u, (send u).kept = u.kept) : (sendEach c work send s).kept = s.kept := by simp [sendEach, hsend]
@[simp] theorem endSpan_kept (status detail : Nat) (s : State)  : (endSpan status detail s).kept = s.kept := by simp [endSpan]
@[simp] theorem ethData_kept (sid : Nat) (x : Session) (ch : EthChan) (pkt : Bytes) (s : State)  : (ethData sid x ch pkt s).kept = s.kept := by simp [ethData]
@[simp] theorem ethSend_kept (sid : Nat) (pkt : Bytes) (s : State)  : (ethSend sid pkt s).kept = s.kept := by
  unfold ethSend
  (try dsimp only)
  (repeat' split)
  all_goals (try simp)

@[simp] theorem flushSession_kept (sid : Nat) (s : State)  : (flushSession sid s).kept = s.kept := by
  unfold flushSession
  (try dsimp only)
  (repeat' split)
  all_goals (try simp)

@[simp] theorem dismiss_kept (p : Session → Bool) (s : State)  : (dismiss p s).kept = s.kept := by
  unfold dismiss
  (try simp)
  (repeat' (split <;> try simp))

@[simp] theorem closeKeyless_kept (s : State)  : (closeKeyless s).kept = s.kept := by simp [closeKeyless]
@[simp] theorem noteKeyless_kept (s : State)  : (noteKeyless s).kept = s.kept := by simp [noteKeyless]
@[simp] theorem clearKeystone_kept (s : State)  : (clearKeystone s).kept = s.kept := by simp [clearKeystone]
@[simp] theorem eraseSlot_kept (slot : Nat) (s : State)  : (eraseSlot slot s).kept = s.kept := by simp [eraseSlot]
@[simp] theorem staleChallenges_kept (slot : Nat) (s : State)  : (staleChallenges slot s).kept = s.kept := by simp [staleChallenges]
@[simp] theorem retireSlot_kept (slot : Nat) (s : State)  : (retireSlot slot s).kept = s.kept := by simp [retireSlot]
@[simp] theorem loadStone_kept (key : Bytes) (attr : Nat) (slot : Option Nat) (s : State)  : (loadStone key attr slot s).kept = s.kept := by simp [loadStone]
@[simp] theorem useKey_kept (slot : Nat) (s : State)  : (useKey slot s).kept = s.kept := by
  unfold useKey
  (try dsimp only)
  (repeat' split)
  all_goals (try simp)

@[simp] theorem keystoneMisuse_kept (s : State)  : (keystoneMisuse s).kept = s.kept := by simp [keystoneMisuse]
@[simp] theorem stoneUnitKa_kept (s : State)  : (stoneUnitKa s).kept = s.kept := by
  unfold stoneUnitKa
  (try dsimp only)
  (repeat' split)
  all_goals (try simp)

@[simp] theorem storeKey_kept (slot : Nat) (key : Bytes) (attr : Nat) (s : State)  : (storeKey slot key attr s).kept = s.kept := by
  unfold storeKey
  (try dsimp only)
  (repeat' split)
  all_goals (try simp)

@[simp] theorem recordUnitKa_kept (s : State)  : (recordUnitKa s).kept = s.kept := by
  unfold recordUnitKa
  (try dsimp only)
  (repeat' split)
  all_goals (try simp)

@[simp] theorem advanceEpoch_kept (s : State)  : (advanceEpoch s).kept = s.kept := by simp [advanceEpoch]
@[simp] theorem writeMirror_kept (s : State)  : (writeMirror s).kept = s.kept := by simp [writeMirror]
@[simp] theorem zeroBanks_kept (s : State)  : (zeroBanks s).kept = s.kept := by simp [zeroBanks]
@[simp] theorem eraseFirmware_kept (old cause : Nat) (s : State)  : (eraseFirmware old cause s).kept = s.kept := by simp [eraseFirmware]
@[simp] theorem seedGuard_kept (s : State)  : (seedGuard s).kept = s.kept := by simp [seedGuard]
@[simp] theorem tamperRecord_kept (e : TamperEnt) (inBackup : Bool) (s : State)  : (tamperRecord e inBackup s).kept = s.kept := by simp [tamperRecord]
@[simp] theorem modTamper_kept (source : Nat) (f : TamperSrc → TamperSrc) (s : State)  : (modTamper source f s).kept = s.kept := by simp [modTamper]
@[simp] theorem logTamper_kept (e : TamperEnt) (s : State)  : (logTamper e s).kept = s.kept := by simp [logTamper]
@[simp] theorem eraseVault_kept (s : State)  : (eraseVault s).kept = s.kept := by simp [eraseVault]
@[simp] theorem tamperActs_kept (source : Nat) (s : State)  : (tamperActs source s).kept = s.kept := by simp [tamperActs]
@[simp] theorem tamperTrue_kept (source : Nat) (s : State)  : (tamperTrue source s).kept = s.kept := by simp [tamperTrue]
@[simp] theorem tamperFalse_kept (source : Nat) (s : State)  : (tamperFalse source s).kept = s.kept := by simp [tamperFalse]
@[simp] theorem tamperOwed_kept (s : State)  : (tamperOwed s).kept = s.kept := by
  unfold tamperOwed
  (try dsimp only)
  (repeat' split)
  all_goals (try simp)

@[simp] theorem settleAuth_kept (s : State)  : (settleAuth s).kept = s.kept := by simp [settleAuth]
@[simp] theorem rearm_kept (source : Nat) (s : State)  : (rearm source s).kept = s.kept := by simp [rearm]
@[simp] theorem noteAuth_kept (opcode sid : Nat) (s : State)  : (noteAuth opcode sid s).kept = s.kept := by simp [noteAuth]
@[simp] theorem timeGet_kept (c : LiveCmd) (s : State)  : (timeGet c s).kept = s.kept := by simp [timeGet]
@[simp] theorem timeSlew_kept (c : LiveCmd) (s : State)  : (timeSlew c s).kept = s.kept := by simp [timeSlew]
@[simp] theorem timeStep_kept (c : LiveCmd) (s : State)  : (timeStep c s).kept = s.kept := by
  unfold timeStep
  (try dsimp only)
  (repeat' split)
  all_goals (try simp)

@[simp] theorem timeSourceSet_kept (c : LiveCmd) (s : State)  : (timeSourceSet c s).kept = s.kept := by
  unfold timeSourceSet
  (try dsimp only)
  (repeat' split)
  all_goals (try simp)

@[simp] theorem ptpMeasure_kept (t21 : Int) (s : State)  : (ptpMeasure t21 s).kept = s.kept := by
  unfold ptpMeasure
  (try dsimp only)
  (repeat' split)
  all_goals (try simp)

@[simp] theorem ptpSync_kept (m : PtpSync) (s : State)  : (ptpSync m s).kept = s.kept := by simp [ptpSync]
@[simp] theorem ptpFollowUp_kept (m : PtpFollow) (s : State)  : (ptpFollowUp m s).kept = s.kept := by
  unfold ptpFollowUp
  (try dsimp only)
  (repeat' split)
  all_goals (try simp)

@[simp] theorem chooseParent_kept (s : State)  : (chooseParent s).kept = s.kept := by
  unfold chooseParent
  (try dsimp only)
  (repeat' split)
  all_goals (try simp)

@[simp] theorem ptpAnnounce_kept (m : PtpAnn) (s : State)  : (ptpAnnounce m s).kept = s.kept := by simp [ptpAnnounce]
@[simp] theorem ptpDelayResp_kept (m : PtpResp) (s : State)  : (ptpDelayResp m s).kept = s.kept := by
  unfold ptpDelayResp
  (try dsimp only)
  (repeat' split)
  all_goals (try simp)

@[simp] theorem delayReqTimer_kept (s : State)  : (delayReqTimer s).kept = s.kept := by simp [delayReqTimer]
@[simp] theorem announceTimeout_kept (s : State)  : (announceTimeout s).kept = s.kept := by
  unfold announceTimeout
  (try dsimp only)
  (repeat' split)
  all_goals (try simp)

@[simp] theorem gnssMeasure_kept (ref : Int) (s : State)  : (gnssMeasure ref s).kept = s.kept := by simp [gnssMeasure]
@[simp] theorem ppsInEdge_kept (s : State)  : (ppsInEdge s).kept = s.kept := by
  unfold ppsInEdge
  (try dsimp only)
  (repeat' split)
  all_goals (try simp)

@[simp] theorem nmeaSentence_kept (text : Bytes) (s : State)  : (nmeaSentence text s).kept = s.kept := by
  unfold nmeaSentence
  (try dsimp only)
  (repeat' split)
  all_goals (try simp)

@[simp] theorem rtcAlarmSet_kept (c : LiveCmd) (s : State)  : (rtcAlarmSet c s).kept = s.kept := by
  unfold rtcAlarmSet
  (try dsimp only)
  (repeat' split)
  all_goals (try simp)

@[simp] theorem rtcSet_kept (utc : Nat) (s : State)  : (rtcSet utc s).kept = s.kept := by simp [rtcSet]
@[simp] theorem calendarConvert_kept (c : LiveCmd) (s : State)  : (calendarConvert c s).kept = s.kept := by simp [calendarConvert]
@[simp] theorem checkTableShort_kept (s : State)  : (checkTableShort s).kept = s.kept := by simp [checkTableShort]
@[simp] theorem localTimeTableLoad_kept (c : LiveCmd) (s : State)  : (localTimeTableLoad c s).kept = s.kept := by
  unfold localTimeTableLoad
  (try dsimp only)
  (repeat' split)
  all_goals (try simp)

@[simp] theorem fallbackTableLoad_kept (c : LiveCmd) (s : State)  : (fallbackTableLoad c s).kept = s.kept := by
  unfold fallbackTableLoad
  (try dsimp only)
  (repeat' split)
  all_goals (try simp)

@[simp] theorem discipline_kept (s : State)  : (discipline s).kept = s.kept := by simp [discipline]
@[simp] theorem learnSecond_kept (s : State)  : (learnSecond s).kept = s.kept := by simp [learnSecond]
@[simp] theorem extendPins_kept (s : State)  : (extendPins s).kept = s.kept := by simp [extendPins]
@[simp] theorem ppsSecond_kept (s : State)  : (ppsSecond s).kept = s.kept := by simp [ppsSecond]
@[simp] theorem wholeSecond_kept (s : State)  : (wholeSecond s).kept = s.kept := by simp [wholeSecond]
@[simp] theorem leapSecond_kept (s : State)  : (leapSecond s).kept = s.kept := by
  unfold leapSecond
  (try dsimp only)
  (repeat' split)
  all_goals (try simp)

@[simp] theorem firmwareMinute_kept (k : Nat) (tbl : Bytes) (s : State)  : (firmwareMinute k tbl s).kept = s.kept := by
  unfold firmwareMinute
  (try dsimp only)
  (repeat' split)
  all_goals (try simp)

@[simp] theorem fallbackMinute_kept (s : State)  : (fallbackMinute s).kept = s.kept := by
  unfold fallbackMinute
  (try dsimp only)
  (repeat' split)
  all_goals (try simp)

@[simp] theorem echo_kept (c : LiveCmd) (s : State)  : (echo c s).kept = s.kept := by simp [echo]
@[simp] theorem deviceInfo_kept (c : LiveCmd) (s : State)  : (deviceInfo c s).kept = s.kept := by simp [deviceInfo]
@[simp] theorem awaitReset_kept (c : LiveCmd) (type source : Nat) (s : State)  : (awaitReset c type source s).kept = s.kept := by simp [awaitReset]
@[simp] theorem resetCmd_kept (c : LiveCmd) (s : State)  : (resetCmd c s).kept = s.kept := by
  unfold resetCmd
  (try dsimp only)
  (repeat' split)
  all_goals (try simp)

@[simp] theorem fence_kept (c : LiveCmd) (s : State)  : (fence c s).kept = s.kept := by simp [fence]
@[simp] theorem writeOne_kept (id v : Nat) (s : State)  : (writeOne id v s).kept = s.kept := by
  unfold writeOne
  (try dsimp only)
  (repeat' split)
  all_goals (try simp)

@[simp] theorem writeSettings_kept (es : List (Nat × Nat)) (s : State)  : (writeSettings es s).kept = s.kept := by simp [writeSettings]
@[simp] theorem noteLocked_kept (st : Nat) (s : State)  : (noteLocked st s).kept = s.kept := by simp [noteLocked]
@[simp] theorem settingRead_kept (c : LiveCmd) (s : State)  : (settingRead c s).kept = s.kept := by
  unfold settingRead
  (try dsimp only)
  (repeat' split)
  all_goals (try simp)

@[simp] theorem settingWrite_kept (c : LiveCmd) (s : State)  : (settingWrite c s).kept = s.kept := by
  unfold settingWrite
  (try dsimp only)
  (repeat' split)
  all_goals (try simp)

@[simp] theorem commitBlock_kept (c : LiveCmd) (block : Nat) (s : State)  : (commitBlock c block s).kept = s.kept := by simp [commitBlock]
@[simp] theorem settingCommit_kept (c : LiveCmd) (s : State)  : (settingCommit c s).kept = s.kept := by simp [settingCommit]
@[simp] theorem writeAndCommit_kept (c : LiveCmd) (es : List (Nat × Nat)) (block : Nat) (s : State)  : (writeAndCommit c es block s).kept = s.kept := by
  unfold writeAndCommit
  (try dsimp only)
  (repeat' split)
  all_goals (try simp)

@[simp] theorem closeTransport_kept (t : Transport) (s : State)  : (closeTransport t s).kept = s.kept := by
  unfold closeTransport
  (try dsimp only)
  (repeat' split)
  all_goals (try simp)

@[simp] theorem grantSession_kept (c : LiveCmd) (n role baud : Nat) (keylessProc : Bool) (s : State)  : (grantSession c n role baud keylessProc s).kept = s.kept := by simp [grantSession]
@[simp] theorem refuseOpen_kept (c : LiveCmd) (st d : Nat) (s : State)  : (refuseOpen c st d s).kept = s.kept := by simp [refuseOpen]
@[simp] theorem openPhase1_kept (c : LiveCmd) (role baud : Nat) (s : State)  : (openPhase1 c role baud s).kept = s.kept := by
  unfold openPhase1
  (try dsimp only)
  (repeat' split)
  all_goals (try simp)

@[simp] theorem openPhase2_kept (c : LiveCmd) (role baud : Nat) (q : Option OpenChal) (s : State)  : (openPhase2 c role baud q s).kept = s.kept := by
  unfold openPhase2
  (try dsimp only)
  (repeat' split)
  all_goals (try simp)

@[simp] theorem sessionOpen_kept (c : LiveCmd) (s : State)  : (sessionOpen c s).kept = s.kept := by simp [sessionOpen]
@[simp] theorem queueConfig_kept (c : LiveCmd) (s : State)  : (queueConfig c s).kept = s.kept := by simp [queueConfig]
@[simp] theorem queueStatus_kept (c : LiveCmd) (s : State)  : (queueStatus c s).kept = s.kept := by simp [queueStatus]
@[simp] theorem faultStatus_kept (c : LiveCmd) (s : State)  : (faultStatus c s).kept = s.kept := by simp [faultStatus]
@[simp] theorem ackReply_kept (c : LiveCmd) (s : State)  : (ackReply c s).kept = s.kept := by simp [ackReply]
@[simp] theorem faultAck_kept (c : LiveCmd) (s : State)  : (faultAck c s).kept = s.kept := by simp [faultAck]
@[simp] theorem eventRead_kept (c : LiveCmd) (s : State)  : (eventRead c s).kept = s.kept := by simp [eventRead]
@[simp] theorem clearPhase1_kept (c : LiveCmd) (s : State)  : (clearPhase1 c s).kept = s.kept := by simp [clearPhase1]
@[simp] theorem clearLog_kept (q : SidChal) (c : LiveCmd) (s : State)  : (clearLog q c s).kept = s.kept := by simp [clearLog]
@[simp] theorem clearPhase2_kept (c : LiveCmd) (s : State)  : (clearPhase2 c s).kept = s.kept := by
  unfold clearPhase2
  (try dsimp only)
  (repeat' split)
  all_goals (try simp)

@[simp] theorem eventClear_kept (c : LiveCmd) (s : State)  : (eventClear c s).kept = s.kept := by simp [eventClear]
@[simp] theorem setRate_kept (code burst refill : Nat) (s : State)  : (setRate code burst refill s).kept = s.kept := by simp [setRate]
@[simp] theorem eventRateSet_kept (c : LiveCmd) (s : State)  : (eventRateSet c s).kept = s.kept := by simp [eventRateSet]
@[simp] theorem faultInject_kept (c : LiveCmd) (s : State)  : (faultInject c s).kept = s.kept := by
  unfold faultInject
  (try dsimp only)
  (repeat' split)
  all_goals (try simp)

@[simp] theorem noteInfo_kept (source : Nat) (info : Bytes) (s : State)  : (noteInfo source info s).kept = s.kept := by simp [noteInfo]
@[simp] theorem detectFault_kept (source cls : Nat) (info : Bytes) (s : State)  : (detectFault source cls info s).kept = s.kept := by
  unfold detectFault
  (try dsimp only)
  (repeat' split)
  all_goals (try simp)

@[simp] theorem rearmWatchdog_kept (core : Nat) (s : State)  : (rearmWatchdog core s).kept = s.kept := by simp [rearmWatchdog]
@[simp] theorem copyPage_kept (s : State)  : (copyPage s).kept = s.kept := by simp [copyPage]
@[simp] theorem installKey_kept (c : LiveCmd) (k : KeyLoad) (key : Bytes) (s : State)  : (installKey c k key s).kept = s.kept := by simp [installKey]
@[simp] theorem loadUnder_kept (c : LiveCmd) (k : KeyLoad) (kek : Option Bytes) (s : State)  : (loadUnder c k kek s).kept = s.kept := by
  unfold loadUnder
  (try dsimp only)
  (repeat' split)
  all_goals (try simp)

@[simp] theorem keyLoad_kept (c : LiveCmd) (s : State)  : (keyLoad c s).kept = s.kept := by
  unfold keyLoad
  (try dsimp only)
  (repeat' split)
  all_goals (try simp)

@[simp] theorem keyRetire_kept (c : LiveCmd) (s : State)  : (keyRetire c s).kept = s.kept := by simp [keyRetire]
@[simp] theorem useStore_kept (c : StoreCopy) (s : State)  : (useStore c s).kept = s.kept := by simp [useStore]
@[simp] theorem tamperPolicySet_kept (c : LiveCmd) (s : State)  : (tamperPolicySet c s).kept = s.kept := by simp [tamperPolicySet]
@[simp] theorem unlockPhase1_kept (c : LiveCmd) (s : State)  : (unlockPhase1 c s).kept = s.kept := by simp [unlockPhase1]
@[simp] theorem unlockPhase2_kept (c : LiveCmd) (s : State)  : (unlockPhase2 c s).kept = s.kept := by
  unfold unlockPhase2
  (try dsimp only)
  (repeat' split)
  all_goals (try simp)

@[simp] theorem debugUnlock_kept (c : LiveCmd) (s : State)  : (debugUnlock c s).kept = s.kept := by simp [debugUnlock]
@[simp] theorem securityStatus_kept (c : LiveCmd) (s : State)  : (securityStatus c s).kept = s.kept := by simp [securityStatus]
@[simp] theorem senseTamper_kept (source : Nat) (s : State)  : (senseTamper source s).kept = s.kept := by simp [senseTamper]
@[simp] theorem guardOff_kept (s : State)  : (guardOff s).kept = s.kept := by simp [guardOff]
@[simp] theorem modPort_kept (k : Nat) (f : Port → Port) (s : State)  : (modPort k f s).kept = s.kept := by simp [modPort]
@[simp] theorem runOne_kept (k id ch : Nat) (frame miso : Bytes) (s : State)  : (runOne k id ch frame miso s).1.kept = s.kept := by simp [runOne]
@[simp] theorem runSeqs_kept (k ch : Nat) (frame : Bytes) (y0 : List Nat) (y1 : Bytes) (s : State)  : (runSeqs k ch frame y0 y1 s).1.kept = s.kept := by
  induction y0 generalizing y1 s with
  | nil => rfl
  | cons id l ih =>
    unfold runSeqs
    split
    · rfl
    · dsimp only
      split <;> simp [ih]

@[simp] theorem moveLanterns_kept (k : Nat) (s : State)  : (moveLanterns k s).kept = s.kept := by simp [moveLanterns]
@[simp] theorem pulseInit_kept (k : Nat) (miso : Bytes) (s : State)  : (pulseInit k miso s).1.kept = s.kept := by simp [pulseInit]
@[simp] theorem stoneNetwork_kept (phase : Nat) (s : State)  : (stoneNetwork phase s).kept = s.kept := by simp [stoneNetwork]
@[simp] theorem useCounter_kept (idx : Nat) (s : State)  : (useCounter idx s).kept = s.kept := by simp [useCounter]
@[simp] theorem launch_kept (k ch start : Nat) (psdu : Bytes) (s : State)  : (launch k ch start psdu s).kept = s.kept := by simp [launch]

theorem suppressed_res {k ch f : Nat} {p : Bytes} {s t : State} (e : suppressed k ch f p s = some t) : t.kept = s.kept := by
  unfold suppressed at e
  dsimp only at e
  split at e
  · cases e; simp
  · cases e

@[simp] theorem checkAdrift_kept (n : Nat) (s : State)  : (checkAdrift n s).kept = s.kept := by
  unfold checkAdrift
  (try dsimp only)
  (repeat' split)
  all_goals (try simp)

@[simp] theorem modTxn_kept (id : Nat) (f : Txn → Txn) (s : State)  : (modTxn id f s).kept = s.kept := by simp [modTxn]
@[simp] theorem takeTxn_kept (t : Txn) (s : State)  : (takeTxn t s).kept = s.kept := by simp [takeTxn]
@[simp] theorem backOff_kept (k : Nat) (s : State)  : (backOff k s).kept = s.kept := by simp [backOff]
@[simp] theorem endAttempt_kept (a : Attempt) (ok : Bool) (s : State)  : (endAttempt a ok s).kept = s.kept := by
  unfold endAttempt
  (try dsimp only)
  (repeat' split)
  all_goals (try simp)

@[simp] theorem beginAttempt_kept (a : Attempt) (s : State)  : (beginAttempt a s).kept = s.kept := by
  unfold beginAttempt
  (try dsimp only)
  (repeat' split)
  all_goals (try simp)

@[simp] theorem echoResult_kept (k asn outcome : Nat) (s : State)  : (echoResult k asn outcome s).kept = s.kept := by simp [echoResult]
@[simp] theorem lostAttempt_kept (a : Attempt) (s : State)  : (lostAttempt a s).kept = s.kept := by simp [lostAttempt]
@[simp] theorem failAttempts_kept (k : Nat) (s : State)  : (failAttempts k s).kept = s.kept := by simp [failAttempts]
@[simp] theorem resetPorts_kept (k : Nat) (y0 : Nat) (y1 : Bytes) (s : State)  : (resetPorts k y0 y1 s).kept = s.kept := by
  induction y0 generalizing y1 s with
  | zero => rfl
  | succ k ih => unfold resetPorts; dsimp only; (repeat' split) <;> simp [ih]

@[simp] theorem resetPort_kept (k : Nat) (miso : Bytes) (s : State)  : (resetPort k miso s).kept = s.kept := by simp [resetPort]
@[simp] theorem transmitAt_kept (k ch start : Nat) (late : Bool) (miso psdu : Bytes) (s : State)  : (transmitAt k ch start late miso psdu s).1.kept = s.kept := by
  unfold transmitAt
  (try dsimp only)
  (repeat' split)
  all_goals first | rfl | (simp; done) | (have k := suppressed_res (by assumption); simp [k])

theorem transmitAt_res {k ch st : Nat} {l : Bool} {m p : Bytes} {u t : State} {r : TxRes} (e : transmitAt k ch st l m p u = (t, r)) : t.kept = u.kept := by
  have k := transmitAt_kept k ch st l m p u
  rw [e] at k
  exact k

@[simp] theorem transmit_kept (c : Cell) (psdu : Bytes) (s : State)  : (transmit c psdu s).1.kept = s.kept := by
  unfold transmit
  simp

theorem transmit_res {c : Cell} {p : Bytes} {u t : State} {r : TxRes} (e : transmit c p u = (t, r)) : t.kept = u.kept := by
  have k := transmit_kept c p u
  rw [e] at k
  exact k

@[simp] theorem listenAt_kept (k ch start guard asn : Nat) (kind : CellKind) (miso : Bytes) (s : State)  : (listenAt k ch start guard asn kind miso s).kept = s.kept := by simp [listenAt]
@[simp] theorem listen_kept (c : Cell) (s : State)  : (listen c s).kept = s.kept := by simp [listen]
@[simp] theorem echoFeed_kept (k asn : Nat) (kind : CellKind) (plain : Bytes) (s : State)  : (echoFeed k asn kind plain s).kept = s.kept := by simp [echoFeed]
@[simp] theorem feedEcho_kept (k asn : Nat) (kind : CellKind) (plain : Bytes) (s : State)  : (feedEcho k asn kind plain s).kept = s.kept := by simp [feedEcho]
@[simp] theorem sendUnicast_kept (c : Cell) (s : State)  : (sendUnicast c s).kept = s.kept := by
  unfold sendUnicast
  (try dsimp only)
  (repeat' split)
  all_goals first | rfl | (have k := transmit_res ‹transmit _ _ _ = _›; simp [k]; done) | simp

@[simp] theorem addSeen_kept (origin seq : Nat) (s : State)  : (addSeen origin seq s).kept = s.kept := by simp [addSeen]
@[simp] theorem floodSent_kept (f : Flood) (seq asn : Nat) (s : State)  : (floodSent f seq asn s).kept = s.kept := by
  unfold floodSent
  (try dsimp only)
  (repeat' split)
  all_goals (try simp)

@[simp] theorem originate_kept (c : Cell) (s : State)  : (originate c s).kept = s.kept := by
  unfold originate
  (try dsimp only)
  (repeat' split)
  all_goals first | rfl | (have k := transmit_res ‹transmit _ _ _ = _›; simp [k]; done) | simp

@[simp] theorem dropFeed_kept (f : Nat × Nat × Nat × Bytes) (s : State)  : (dropFeed f s).kept = s.kept := by simp [dropFeed]
@[simp] theorem echoCell_kept (c : Cell) (s : State)  : (echoCell c s).kept = s.kept := by
  unfold echoCell
  (try dsimp only)
  (repeat' split)
  all_goals first | rfl | (have k := transmit_res ‹transmit _ _ _ = _›; simp [k]; done) | simp

@[simp] theorem standbyBeacon_kept (c : Cell) (s : State)  : (standbyBeacon c s).kept = s.kept := by
  unfold standbyBeacon
  (try dsimp only)
  (repeat' split)
  all_goals (try simp)

@[simp] theorem sendJoin_kept (c : Cell) (s : State)  : (sendJoin c s).kept = s.kept := by
  unfold sendJoin
  (try dsimp only)
  (repeat' split)
  all_goals first | rfl | (have k := transmit_res ‹transmit _ _ _ = _›; simp [k]; done) | simp

@[simp] theorem sharedCell_kept (c : Cell) (s : State)  : (sharedCell c s).kept = s.kept := by simp [sharedCell]
@[simp] theorem staleAttempts_kept (k : Nat) (s : State)  : (staleAttempts k s).kept = s.kept := by simp [staleAttempts]
@[simp] theorem rendezvousCell_kept (c : Cell) (s : State)  : (rendezvousCell c s).kept = s.kept := by
  unfold rendezvousCell
  (try dsimp only)
  (repeat' split)
  all_goals (try simp)

@[simp] theorem floodCellOf_kept (c : Cell) (s : State)  : (floodCellOf c s).kept = s.kept := by
  unfold floodCellOf
  (try dsimp only)
  (repeat' split)
  all_goals (try simp)

@[simp] theorem cellStart_kept (c : Cell) (s : State)  : (cellStart c s).kept = s.kept := by
  unfold cellStart
  (try dsimp only)
  (repeat' split)
  all_goals (try simp)

@[simp] theorem spanCell_kept (c : Cell) (s : State)  : (spanCell c s).kept = s.kept := by
  unfold spanCell
  (try dsimp only)
  (repeat' split)
  all_goals (try simp)

@[simp] theorem acceptCounter_kept (key ctr : Nat) (s : State)  : (acceptCounter key ctr s).kept = s.kept := by simp [acceptCounter]
@[simp] theorem securityDrop_kept (s : State)  : (securityDrop s).kept = s.kept := by simp [securityDrop]
@[simp] theorem acked_kept (a : Attempt) (nack : Bool) (s : State)  : (acked a nack s).kept = s.kept := by simp [acked]
@[simp] theorem enhancedAck_kept (a : Attempt) (p : Bytes) (s : State)  : (enhancedAck a p s).kept = s.kept := by
  unfold enhancedAck
  (try dsimp only)
  (repeat' split)
  all_goals (try simp)

@[simp] theorem sendAck_kept (k start idx : Nat) (psdu miso : Bytes) (use : Nat → State → State) (s : State) (huse : ∀ x0 u, (use x0 u).kept = u.kept) : (sendAck k start idx psdu miso use s).kept = s.kept := by
  unfold sendAck
  split
  · rename_i k
    exact suppressed_res k
  · dsimp only
    split <;> simp [huse]

@[simp] theorem ackEngine_kept (f : RxFrame) (miso : Bytes) (s : State)  : (ackEngine f miso s).kept = s.kept := by
  unfold ackEngine
  (try dsimp only)
  (repeat' split)
  all_goals first | rfl | (simp; done) | (have k := suppressed_res (by assumption); simp [k])

@[simp] theorem respond_kept (n seq status retries : Nat) (s : State)  : (respond n seq status retries s).kept = s.kept := by simp [respond]
@[simp] theorem deliver_kept (k src : Nat) (m : Bytes) (at_ : Nat) (s : State)  : (deliver k src m at_ s).kept = s.kept := by
  unfold deliver
  (try dsimp only)
  (repeat' split)
  all_goals (try simp)

@[simp] theorem forwardMsg_kept (m : Bytes) (s : State)  : (forwardMsg m s).kept = s.kept := by
  unfold forwardMsg
  (try dsimp only)
  (repeat' split)
  all_goals (try simp)

@[simp] theorem message_kept (k src : Nat) (m : Bytes) (at_ : Nat) (s : State)  : (message k src m at_ s).kept = s.kept := by simp [message]
@[simp] theorem linkFragment_kept (k src : Nat) (body : Bytes) (at_ : Nat) (s : State)  : (linkFragment k src body at_ s).kept = s.kept := by
  unfold linkFragment
  (try dsimp only)
  (repeat' split)
  all_goals (try simp)

@[simp] theorem filterDrop_kept (s : State)  : (filterDrop s).kept = s.kept := by simp [filterDrop]
@[simp] theorem rxData_kept (f : RxFrame) (miso : Bytes) (s : State)  : (rxData f miso s).kept = s.kept := by
  unfold rxData
  (try dsimp only)
  (repeat' split)
  all_goals (try simp)

@[simp] theorem keepBeacon_kept (f : RxFrame) (body : Bytes) (s : State)  : (keepBeacon f body s).kept = s.kept := by simp [keepBeacon]
@[simp] theorem rxBeacon_kept (f : RxFrame) (s : State)  : (rxBeacon f s).kept = s.kept := by
  unfold rxBeacon
  (try dsimp only)
  (repeat' split)
  all_goals (try simp)

@[simp] theorem rxJoin_kept (f : RxFrame) (s : State)  : (rxJoin f s).kept = s.kept := by simp [rxJoin]
@[simp] theorem rxFlood_kept (f : RxFrame) (s : State)  : (rxFlood f s).kept = s.kept := by
  unfold rxFlood
  (try dsimp only)
  (repeat' split)
  all_goals (try simp)

@[simp] theorem receiveFrame_kept (f : RxFrame) (miso : Bytes) (s : State)  : (receiveFrame f miso s).kept = s.kept := by simp [receiveFrame]
@[simp] theorem modAnnex_kept (f : AnnexSt → AnnexSt) (s : State)  : (modAnnex f s).kept = s.kept := by simp [modAnnex]
@[simp] theorem modNet_kept (f : AnnexNet → AnnexNet) (s : State)  : (modNet f s).kept = s.kept := by simp [modNet]
@[simp] theorem useAnnexCounter_kept (idx : Nat) (s : State)  : (useAnnexCounter idx s).kept = s.kept := by simp [useAnnexCounter]
@[simp] theorem annexKeyAt_kept (idx : Nat) (key : Bytes) (s : State)  : (annexKeyAt idx key s).kept = s.kept := by simp [annexKeyAt]
@[simp] theorem nextMacSeq_kept (s : State)  : (nextMacSeq s).kept = s.kept := by simp [nextMacSeq]
@[simp] theorem annexQueue_kept (dst expiry : Nat) (resync : Bool) (m : Bytes) (s : State)  : (annexQueue dst expiry resync m s).kept = s.kept := by simp [annexQueue]
@[simp] theorem annexSend_kept (type : Nat) (confirmed resync : Bool) (payload : Bytes) (s : State)  : (annexSend type confirmed resync payload s).kept = s.kept := by
  unfold annexSend
  (try dsimp only)
  (repeat' split)
  all_goals (try simp)

@[simp] theorem annexReportTo_kept (n : AnnexNet) (type life : Nat) (payload : Bytes) (s : State)  : (annexReportTo n type life payload s).kept = s.kept := by
  unfold annexReportTo
  (try dsimp only)
  (repeat' split)
  all_goals (try simp)

@[simp] theorem annexRespond_kept (seq retries status : Nat) (data : Bytes) (s : State)  : (annexRespond seq retries status data s).kept = s.kept := by simp [annexRespond]
@[simp] theorem annexContact_kept (src at_ : Nat) (s : State)  : (annexContact src at_ s).kept = s.kept := by simp [annexContact]
@[simp] theorem annexReport_kept (s : State)  : (annexReport s).kept = s.kept := by
  unfold annexReport
  (try dsimp only)
  (repeat' split)
  all_goals (try simp)

@[simp] theorem annexChoose_kept (p : AnnexCand → Bool) (s : State)  : (annexChoose p s).kept = s.kept := by simp [annexChoose]
@[simp] theorem annexScan_kept (s : State)  : (annexScan s).kept = s.kept := by simp [annexScan]
@[simp] theorem annexJoinFrames_kept (s0 : State) (dst last : Nat) (y0 : List Bytes) (y1 : Nat) (s : State)  : (annexJoinFrames s0 dst last y0 y1 s).1.kept = s.kept := by
  induction y0 generalizing y1 s with
  | nil => rfl
  | cons b l ih => unfold annexJoinFrames; simp [ih]

@[simp] theorem annexRequest_kept (p : AnnexCand) (s : State)  : (annexRequest p s).kept = s.kept := by simp [annexRequest]
@[simp] theorem annexJoining_kept (p : AnnexCand) (s : State)  : (annexJoining p s).kept = s.kept := by simp [annexJoining]
@[simp] theorem annexLeave_kept (s : State)  : (annexLeave s).kept = s.kept := by simp [annexLeave]
@[simp] theorem annexKids_kept (p : AnnexCand) (n : AnnexNet) (s : State)  : (annexKids p n s).kept = s.kept := by simp [annexKids]
@[simp] theorem annexMissed_kept (asn : Nat) (n : AnnexNet) (s : State)  : (annexMissed asn n s).kept = s.kept := by simp [annexMissed]
@[simp] theorem annexEnergy_kept (asn : Nat) (n : AnnexNet) (s : State)  : (annexEnergy asn n s).kept = s.kept := by simp [annexEnergy]
@[simp] theorem annexGone_kept (s : State)  : (annexGone s).kept = s.kept := by simp [annexGone]
@[simp] theorem annexSecond_kept (s : State)  : (annexSecond s).kept = s.kept := by
  unfold annexSecond
  (try dsimp only)
  (repeat' split)
  all_goals (try simp)

@[simp] theorem endAnnex_kept (ok : Bool) (s : State)  : (endAnnex ok s).kept = s.kept := by
  unfold endAnnex
  (try dsimp only)
  (repeat' split)
  all_goals (try simp)

@[simp] theorem annexTransmit_kept (c : Cell) (p : AnnexCand) (asn ch : Nat) (psdu : Bytes) (s : State)  : (annexTransmit c p asn ch psdu s).1.kept = s.kept := by
  unfold annexTransmit
  simp

theorem annexTransmit_res {c : Cell} {a : AnnexCand} {n ch : Nat} {p : Bytes} {u t : State} {r : TxRes}
    (e : annexTransmit c a n ch p u = (t, r)) : t.kept = u.kept := by
  have k := annexTransmit_kept c a n ch p u
  rw [e] at k
  exact k

@[simp] theorem annexAttempt_kept (c : Cell) (p : AnnexCand) (asn ch : Nat) (pick : AnnexTx → Bool) (s : State)  : (annexAttempt c p asn ch pick s).kept = s.kept := by
  unfold annexAttempt
  (try dsimp only)
  (repeat' split)
  all_goals first | rfl | (simp; done) | (have k := annexTransmit_res (by assumption); simp [k]; done)

@[simp] theorem annexListen_kept (c : Cell) (start guard asn ch : Nat) (s : State)  : (annexListen c start guard asn ch s).kept = s.kept := by simp [annexListen]
@[simp] theorem annexHear_kept (c : Cell) (p : AnnexCand) (asn ch : Nat) (s : State)  : (annexHear c p asn ch s).kept = s.kept := by simp [annexHear]
@[simp] theorem annexFlood_kept (c : Cell) (p : AnnexCand) (asn ch : Nat) (s : State)  : (annexFlood c p asn ch s).kept = s.kept := by
  unfold annexFlood
  (try dsimp only)
  (repeat' split)
  all_goals (try simp)

@[simp] theorem annexJoinCell_kept (c : Cell) (p : AnnexCand) (asn ch : Nat) (s : State)  : (annexJoinCell c p asn ch s).kept = s.kept := by
  unfold annexJoinCell
  (try dsimp only)
  (repeat' split)
  all_goals first | rfl | (simp; done) | (have k := annexTransmit_res (by assumption); simp [k]; done)

@[simp] theorem annexShared_kept (c : Cell) (p : AnnexCand) (asn ch : Nat) (s : State)  : (annexShared c p asn ch s).kept = s.kept := by simp [annexShared]
@[simp] theorem annexDedicated_kept (c : Cell) (p : AnnexCand) (n : AnnexNet) (asn ch : Nat) (s : State)  : (annexDedicated c p n asn ch s).kept = s.kept := by simp [annexDedicated]
@[simp] theorem annexBeaconCell_kept (c : Cell) (p : AnnexCand) (asn ch : Nat) (s : State)  : (annexBeaconCell c p asn ch s).kept = s.kept := by
  unfold annexBeaconCell
  (try dsimp only)
  (repeat' split)
  all_goals first | rfl | (simp; done) | (have k := annexTransmit_res (by assumption); simp [k]; done)

@[simp] theorem annexRendezvous_kept (c : Cell) (p : AnnexCand) (n : AnnexNet) (asn : Nat) (s : State)  : (annexRendezvous c p n asn s).kept = s.kept := by simp [annexRendezvous]
@[simp] theorem annexRun_kept (c : Cell) (p : AnnexCand) (asn : Nat) (s : State)  : (annexRun c p asn s).kept = s.kept := by
  unfold annexRun
  (try dsimp only)
  (repeat' split)
  all_goals (try simp)

@[simp] theorem annexCell_kept (c : Cell) (s : State)  : (annexCell c s).kept = s.kept := by
  unfold annexCell
  (try dsimp only)
  (repeat' split)
  all_goals (try simp)

@[simp] theorem annexAccept_kept (key ctr : Nat) (s : State)  : (annexAccept key ctr s).kept = s.kept := by simp [annexAccept]
@[simp] theorem annexInstall_kept (m : Bytes) (s : State)  : (annexInstall m s).kept = s.kept := by simp [annexInstall]
@[simp] theorem annexJoined_kept (m : Bytes) (s : State)  : (annexJoined m s).kept = s.kept := by
  unfold annexJoined
  (try dsimp only)
  (repeat' split)
  all_goals (try simp)

@[simp] theorem annexResponse_kept (f : RxFrame) (s : State)  : (annexResponse f s).kept = s.kept := by
  unfold annexResponse
  (try dsimp only)
  (repeat' split)
  all_goals (try simp)

@[simp] theorem annexAct_kept (at_ : Nat) (m : Bytes) (s : State)  : (annexAct at_ m s).1.kept = s.kept := by
  unfold annexAct
  simp [apply_ite Prod.fst]

theorem annexAct_res {a : Nat} {m : Bytes} {u t : State} {r : Option Nat} (e : annexAct a m u = (t, r)) : t.kept = u.kept := by
  have k := annexAct_kept a m u
  rw [e] at k
  exact k

@[simp] theorem annexDeliver_kept (at_ : Nat) (m : Bytes) (s : State)  : (annexDeliver at_ m s).kept = s.kept := by
  unfold annexDeliver
  (try dsimp only)
  (repeat' split)
  all_goals first | rfl | (simp; done) | ((try simp); have k := annexAct_res (by assumption); exact k.trans (by simp))

@[simp] theorem annexForward_kept (m : Bytes) (s : State)  : (annexForward m s).kept = s.kept := by
  unfold annexForward
  (try dsimp only)
  (repeat' split)
  all_goals (try simp)

@[simp] theorem annexAck_kept (f : RxFrame) (miso : Bytes) (p : AnnexCand) (n : AnnexNet) (s : State)  : (annexAck f miso p n s).kept = s.kept := by
  unfold annexAck
  (try dsimp only)
  (repeat' split)
  all_goals first | rfl | (simp; done) | (have k := suppressed_res (by assumption); simp [k]; done)

@[simp] theorem annexDeviation_kept (x : Int) (s : State)  : (annexDeviation x s).kept = s.kept := by simp [annexDeviation]
@[simp] theorem annexOverhear_kept (m : Bytes) (s : State)  : (annexOverhear m s).kept = s.kept := by simp [annexOverhear]
@[simp] theorem annexData_kept (f : RxFrame) (miso : Bytes) (s : State)  : (annexData f miso s).kept = s.kept := by
  unfold annexData
  (try dsimp only)
  (repeat' split)
  all_goals (try simp)

@[simp] theorem annexRxBeacon_kept (f : RxFrame) (s : State)  : (annexRxBeacon f s).kept = s.kept := by
  unfold annexRxBeacon
  (try dsimp only)
  (repeat' split)
  all_goals (try simp)

@[simp] theorem annexProxy_kept (f : RxFrame) (s : State)  : (annexProxy f s).kept = s.kept := by
  unfold annexProxy
  (try dsimp only)
  (repeat' split)
  all_goals (try simp)

@[simp] theorem annexRxFlood_kept (f : RxFrame) (s : State)  : (annexRxFlood f s).kept = s.kept := by
  unfold annexRxFlood
  (try dsimp only)
  (repeat' split)
  all_goals (try simp)

@[simp] theorem annexFrame_kept (f : RxFrame) (miso : Bytes) (s : State)  : (annexFrame f miso s).kept = s.kept := by simp [annexFrame]
@[simp] theorem annexEnhancedAck_kept (p : Bytes) (s : State)  : (annexEnhancedAck p s).kept = s.kept := by
  unfold annexEnhancedAck
  (try dsimp only)
  (repeat' split)
  all_goals (try simp)

@[simp] theorem keepFrame_kept (port at_ : Nat) (psdu : Bytes) (s : State)  : (keepFrame port at_ psdu s).kept = s.kept := by
  unfold keepFrame
  (try dsimp only)
  (repeat' split)
  all_goals (try simp)

@[simp] theorem correctBeacon_kept (port at_ : Nat) (s : State)  : (correctBeacon port at_ s).kept = s.kept := by simp [correctBeacon]
@[simp] theorem resetAny_kept (port : Nat) (miso : Bytes) (s : State)  : (resetAny port miso s).kept = s.kept := by simp [resetAny]
@[simp] theorem serveIrq_kept (port : Nat) (miso : Bytes) (edge : Int) (s : State)  : (serveIrq port miso edge s).kept = s.kept := by simp [serveIrq]
@[simp] theorem activateKey_kept (s : State)  : (activateKey s).kept = s.kept := by
  unfold activateKey
  (try dsimp only)
  (repeat' split)
  all_goals (try simp)

@[simp] theorem annexKeyStep_kept (s : State)  : (annexKeyStep s).kept = s.kept := by
  unfold annexKeyStep
  (try dsimp only)
  (repeat' split)
  all_goals (try simp)

@[simp] theorem modCh_kept (n : Nat) (f : LampCh → LampCh) (s : State)  : (modCh n f s).kept = s.kept := by simp [modCh]
@[simp] theorem modGroup_kept (g : Nat) (f : ColSet → ColSet) (s : State)  : (modGroup g f s).kept = s.kept := by simp [modGroup]
@[simp] theorem refreshDuty_kept (ns : List Nat) (s : State)  : (refreshDuty ns s).kept = s.kept := by simp [refreshDuty]
@[simp] theorem goManual_kept (g : Nat) (s : State)  : (goManual g s).kept = s.kept := by simp [goManual]
@[simp] theorem setPoint_kept (g : Nat) (ch : Change) (s : State)  : (setPoint g ch s).kept = s.kept := by simp [setPoint]
@[simp] theorem applyLocal_kept (outs : List Nat) (ch : Change) (s : State)  : (applyLocal outs ch s).kept = s.kept := by simp [applyLocal]
@[simp] theorem markDirect_kept (b : Bool) (outs : List Nat) (s : State)  : (markDirect b outs s).kept = s.kept := by simp [markDirect]
@[simp] theorem applyDirect_kept (outs : List Nat) (ch : Change) (s : State)  : (applyDirect outs ch s).kept = s.kept := by simp [applyDirect]
@[simp] theorem applyClaim_kept (outs : List Nat) (ch : Change) (s : State)  : (applyClaim outs ch s).kept = s.kept := by simp [applyClaim]
@[simp] theorem followTop_kept (outs : List Nat) (fade curve : Nat) (s : State)  : (followTop outs fade curve s).kept = s.kept := by simp [followTop]
@[simp] theorem placeClaims_kept (outs : List Nat) (cl : Claim) (s : State)  : (placeClaims outs cl s).kept = s.kept := by simp [placeClaims]
@[simp] theorem endClaims_kept (outs : List Nat) (p : Claim → Bool) (s : State)  : (endClaims outs p s).kept = s.kept := by
  unfold endClaims
  exact kept_foldl _ (fun u n => by dsimp only; split <;> simp) _ _

@[simp] theorem applyLampPart_kept (p : Nat → Bool) (s : State)  : (applyLampPart p s).kept = s.kept := by
  unfold applyLampPart
  (try dsimp only)
  (repeat' split)
  all_goals (try simp)

@[simp] theorem applyScene_kept (scene : Nat) (s : State)  : (applyScene scene s).kept = s.kept := by
  unfold applyScene
  (try dsimp only)
  (repeat' split)
  all_goals (try simp)

@[simp] theorem applyInstant_kept (t : Nat) (s : State)  : (applyInstant t s).kept = s.kept := by simp [applyInstant]
@[simp] theorem applyDue_kept (y0 : Nat) (s : State)  : (applyDue y0 s).kept = s.kept := by
  induction y0 generalizing s with
  | zero => rfl
  | succ k ih => unfold applyDue; split <;> simp [ih]

@[simp] theorem latchShutdown_kept (s : State)  : (latchShutdown s).kept = s.kept := by simp [latchShutdown]
@[simp] theorem lampLocally_kept (outs : List Nat) (p : Bytes) (s : State)  : (lampLocally outs p s).kept = s.kept := by simp [lampLocally]
@[simp] theorem lampSet_kept (c : LiveCmd) (s : State)  : (lampSet c s).kept = s.kept := by
  unfold lampSet
  (try dsimp only)
  (repeat' split)
  all_goals (try simp)

@[simp] theorem sceneDefine_kept (c : LiveCmd) (s : State)  : (sceneDefine c s).kept = s.kept := by
  unfold sceneDefine
  (try dsimp only)
  (repeat' split)
  all_goals (try simp)

@[simp] theorem sceneLaunch_kept (c : LiveCmd) (s : State)  : (sceneLaunch c s).kept = s.kept := by
  unfold sceneLaunch
  (try dsimp only)
  (repeat' split)
  all_goals (try simp)

@[simp] theorem calibrationLoad_kept (c : LiveCmd) (s : State)  : (calibrationLoad c s).kept = s.kept := by
  unfold calibrationLoad
  (try dsimp only)
  (repeat' split)
  all_goals (try simp)

@[simp] theorem localChannelConfig_kept (c : LiveCmd) (s : State)  : (localChannelConfig c s).kept = s.kept := by
  unfold localChannelConfig
  (try dsimp only)
  (repeat' split)
  all_goals (try simp)

@[simp] theorem lampStatus_kept (c : LiveCmd) (s : State)  : (lampStatus c s).kept = s.kept := by simp [lampStatus]
@[simp] theorem recomputeRoutes_kept (s : State)  : (recomputeRoutes s).kept = s.kept := by simp [recomputeRoutes]
@[simp] theorem sendInstall_kept (n : Nat) (b : Bytes) (s : State)  : (sendInstall n b s).kept = s.kept := by simp [sendInstall]
@[simp] theorem pushFragment_kept (f : Fragment) (s : State)  : (pushFragment f s).kept = s.kept := by simp [pushFragment]
@[simp] theorem pushEntry_kept (p : Pier) (e : HeadEntry) (s : State)  : (pushEntry p e s).kept = s.kept := by simp [pushEntry]
@[simp] theorem sendOnce_kept (n type : Nat) (payload : Bytes) (s : State)  : (sendOnce n type payload s).kept = s.kept := by simp [sendOnce]
@[simp] theorem pushWatches_kept (site : Option Nat) (s : State)  : (pushWatches site s).kept = s.kept := by simp [pushWatches]
@[simp] theorem pushConfigs_kept (site : Option Nat) (s : State)  : (pushConfigs site s).kept = s.kept := by
  unfold pushConfigs
  (try dsimp only)
  refine kept_foldl _ (fun u x => ?_) _ _
  (try dsimp only)
  (repeat' split)
  all_goals first | rfl | simp

@[simp] theorem pushEnds_kept (site : Option Nat) (s : State)  : (pushEnds site s).kept = s.kept := by simp [pushEnds]
@[simp] theorem pushAll_kept (site : Option Nat) (s : State)  : (pushAll site s).kept = s.kept := by simp [pushAll]
@[simp] theorem syncHeads_kept (s : State)  : (syncHeads s).kept = s.kept := by simp [syncHeads]
@[simp] theorem newRoutes_kept (s : State)  : (newRoutes s).kept = s.kept := by simp [newRoutes]
@[simp] theorem noteShortfall_kept (s : State)  : (noteShortfall s).kept = s.kept := by simp [noteShortfall]
@[simp] theorem viaductSub_kept (r : Bytes) (s : State)  : (viaductSub r s).kept = s.kept := by simp [viaductSub]
@[simp] theorem viaductSubs_kept (s : State)  : (viaductSubs s).kept = s.kept := by simp [viaductSubs]
@[simp] theorem placementsDone_kept (s : State)  : (placementsDone s).kept = s.kept := by simp [placementsDone]
@[simp] theorem evaluatePlacement_kept (s : State)  : (evaluatePlacement s).kept = s.kept := by simp [evaluatePlacement]
@[simp] theorem sendSchedule_kept (n : Nat) (s : State)  : (sendSchedule n s).kept = s.kept := by simp [sendSchedule]
@[simp] theorem reschedule_kept (joining : Option Nat) (s : State)  : (reschedule joining s).kept = s.kept := by simp [reschedule]
@[simp] theorem claimLocal_kept (p : Policy) (i : Nat) (a : Bytes) (elapsed : Nat) (noFade : Bool) (s : State)  : (claimLocal p i a elapsed noFade s).kept = s.kept := by simp [claimLocal]
@[simp] theorem claimAgain_kept (p : Policy) (n : Nat) (s : State)  : (claimAgain p n s).kept = s.kept := by simp [claimAgain]
@[simp] theorem decideContactor_kept (r : Bytes) (k : Nat) (close : Bool) (s : State)  : (decideContactor r k close s).kept = s.kept := by simp [decideContactor]
@[simp] theorem runAction_kept (p : Policy) (ts : List (Option Nat)) (i : Nat) (a : Bytes) (s : State)  : (runAction p ts i a s).kept = s.kept := by
  unfold runAction
  split
  · refine kept_foldl _ (fun u q => ?_) _ _
    split
    · split <;> simp
    · simp
  · simp
  · dsimp only
    split <;> simp
  · rfl

@[simp] theorem firePolicy_kept (p : Policy) (only : Nat → Bool) (s : State)  : (firePolicy p only s).kept = s.kept := by
  unfold firePolicy
  (try dsimp only)
  (repeat' split)
  all_goals (try simp)

@[simp] theorem scenePolicies_kept (scene : Nat) (s : State)  : (scenePolicies scene s).kept = s.kept := by simp [scenePolicies]
@[simp] theorem applyDueAll_kept (y0 : Nat) (s : State)  : (applyDueAll y0 s).kept = s.kept := by
  induction y0 generalizing s with
  | zero => rfl
  | succ k ih => unfold applyDueAll; split <;> simp [ih]

@[simp] theorem lampDue_kept (s : State)  : (lampDue s).kept = s.kept := by simp [lampDue]
@[simp] theorem spanTrigger_kept (pol : Nat) (s : State)  : (spanTrigger pol s).kept = s.kept := by
  unfold spanTrigger
  (try dsimp only)
  (repeat' split)
  all_goals (try simp)

@[simp] theorem catchUpPolicy_kept (s : State) (p : Policy)  : (catchUpPolicy s p).kept = s.kept := by
  unfold catchUpPolicy
  (try dsimp only)
  (repeat' split)
  all_goals (try simp)

@[simp] theorem firmwareTakes_kept (s : State)  : (firmwareTakes s).kept = s.kept := by simp [firmwareTakes]
@[simp] theorem evaluateNow_kept (s : State)  : (evaluateNow s).kept = s.kept := by simp [evaluateNow]
@[simp] theorem placementEvaluation_kept (s : State)  : (placementEvaluation s).kept = s.kept := by simp [placementEvaluation]
@[simp] theorem sensorPolicy_kept (n sensor heading : Nat) (prev : Option Int) (v : Int) (s : State) (p : Policy)  : (sensorPolicy n sensor heading prev v s p).kept = s.kept := by simp [sensorPolicy]
@[simp] theorem reportSubs_kept (n sensor : Nat) (payload : Bytes) (s : State)  : (reportSubs n sensor payload s).kept = s.kept := by simp [reportSubs]
@[simp] theorem sensorEvent_kept (n : Nat) (payload : Bytes) (s : State)  : (sensorEvent n payload s).kept = s.kept := by simp [sensorEvent]
@[simp] theorem meterConditions_kept (s : State)  : (meterConditions s).kept = s.kept := by
  unfold meterConditions
  refine kept_foldl _ (fun u n => ?_) _ _
  dsimp only
  split
  · rfl
  · split <;> simp

@[simp] theorem endPolicyClaims_kept (pol : Nat) (s : State)  : (endPolicyClaims pol s).kept = s.kept := by
  unfold endPolicyClaims
  (try dsimp only)
  (repeat' split)
  all_goals (try simp)

@[simp] theorem askEvaluation_kept (s : State)  : (askEvaluation s).kept = s.kept := by simp [askEvaluation]
@[simp] theorem policyLoad_kept (c : LiveCmd) (s : State)  : (policyLoad c s).kept = s.kept := by
  unfold policyLoad
  (try dsimp only)
  (repeat' split)
  all_goals (try simp)

@[simp] theorem removePolicy_kept (id : Nat) (s : State)  : (removePolicy id s).kept = s.kept := by simp [removePolicy]
@[simp] theorem policyRemove_kept (c : LiveCmd) (s : State)  : (policyRemove c s).kept = s.kept := by simp [policyRemove]
@[simp] theorem policyList_kept (c : LiveCmd) (s : State)  : (policyList c s).kept = s.kept := by simp [policyList]
@[simp] theorem placementRead_kept (c : LiveCmd) (s : State)  : (placementRead c s).kept = s.kept := by simp [placementRead]
@[simp] theorem placementPin_kept (c : LiveCmd) (s : State)  : (placementPin c s).kept = s.kept := by
  unfold placementPin
  (try dsimp only)
  (repeat' split)
  all_goals (try simp)

@[simp] theorem placementHold_kept (c : LiveCmd) (s : State)  : (placementHold c s).kept = s.kept := by simp [placementHold]
@[simp] theorem sensorSubscribe_kept (c : LiveCmd) (s : State)  : (sensorSubscribe c s).kept = s.kept := by
  unfold sensorSubscribe
  (try dsimp only)
  (repeat' split)
  all_goals (try simp)

@[simp] theorem imageStage_kept (c : LiveCmd) (s : State)  : (imageStage c s).kept = s.kept := by
  unfold imageStage
  (try simp)
  (repeat' (split <;> try simp))

@[simp] theorem setTarget_kept (img n code : Nat) (s : State)  : (setTarget img n code s).kept = s.kept := by simp [setTarget]
@[simp] theorem announceCache_kept (r : Rollout) (i : LanImage) (m : Nat) (s : State)  : (announceCache r i m s).kept = s.kept := by simp [announceCache]
@[simp] theorem visitRollout_kept (img : Nat) (s : State) (n : Nat)  : (visitRollout img s n).kept = s.kept := by
  unfold visitRollout
  (try dsimp only)
  (repeat' split)
  all_goals (try simp)

@[simp] theorem finishRollouts_kept (s : State)  : (finishRollouts s).kept = s.kept := by simp [finishRollouts]
@[simp] theorem progressRollouts_kept (s : State)  : (progressRollouts s).kept = s.kept := by simp [progressRollouts]
@[simp] theorem imageRollout_kept (c : LiveCmd) (s : State)  : (imageRollout c s).kept = s.kept := by
  unfold imageRollout
  (try dsimp only)
  (repeat' split)
  all_goals (try simp)

@[simp] theorem rolloutCapability_kept (n : Nat) (s : State)  : (rolloutCapability n s).kept = s.kept := by
  unfold rolloutCapability
  simp only [progressRollouts_kept]
  refine kept_foldl _ (fun u n => ?_) _ _
  split
  · split <;> simp
  · rfl

@[simp] theorem imageStatus_kept (n : Nat) (p : Bytes) (s : State)  : (imageStatus n p s).kept = s.kept := by
  unfold imageStatus
  (try dsimp only)
  (repeat' split)
  all_goals (try simp)

@[simp] theorem chunkRequest_kept (n : Nat) (p : Bytes) (s : State)  : (chunkRequest n p s).kept = s.kept := by
  unfold chunkRequest
  (try dsimp only)
  (repeat' split)
  all_goals (try simp)

@[simp] theorem spanStart_kept (c : LiveCmd) (s : State)  : (spanStart c s).kept = s.kept := by
  unfold spanStart
  (try dsimp only)
  (repeat' split)
  all_goals (try simp)

@[simp] theorem stopSpan_kept (s : State)  : (stopSpan s).kept = s.kept := by simp [stopSpan]
@[simp] theorem spanStop_kept (c : LiveCmd) (s : State)  : (spanStop c s).kept = s.kept := by simp [spanStop]
@[simp] theorem lanternAdmit_kept (c : LiveCmd) (s : State)  : (lanternAdmit c s).kept = s.kept := by
  unfold lanternAdmit
  (try simp)
  (repeat' (split <;> try simp))

@[simp] theorem lanternRemove_kept (c : LiveCmd) (s : State)  : (lanternRemove c s).kept = s.kept := by simp [lanternRemove]
@[simp] theorem lanternQuery_kept (c : LiveCmd) (s : State)  : (lanternQuery c s).kept = s.kept := by
  unfold lanternQuery
  (try dsimp only)
  (repeat' split)
  all_goals (try simp)

@[simp] theorem lanternSend_kept (c : LiveCmd) (s : State)  : (lanternSend c s).kept = s.kept := by simp [lanternSend]
@[simp] theorem floodSend_kept (c : LiveCmd) (s : State)  : (floodSend c s).kept = s.kept := by simp [floodSend]
@[simp] theorem topologyRead_kept (c : LiveCmd) (s : State)  : (topologyRead c s).kept = s.kept := by simp [topologyRead]
@[simp] theorem regionLoad_kept (c : LiveCmd) (s : State)  : (regionLoad c s).kept = s.kept := by
  unfold regionLoad
  (try dsimp only)
  (repeat' split)
  all_goals (try simp)

@[simp] theorem loadPort_kept (k : Nat) (p miso : Bytes) (s : State)  : (loadPort k p miso s).1.kept = s.kept := by simp [loadPort]
@[simp] theorem radioLoad_kept (misoA misoB : Bytes) (c : LiveCmd) (s : State)  : (radioLoad misoA misoB c s).kept = s.kept := by
  unfold radioLoad
  (try dsimp only)
  (repeat' split)
  all_goals (try simp)

@[simp] theorem dwellStatus_kept (c : LiveCmd) (s : State)  : (dwellStatus c s).kept = s.kept := by
  unfold dwellStatus
  (try dsimp only)
  (repeat' split)
  all_goals (try simp)

@[simp] theorem withMsg_kept (type origin : Nat) (f : InMsg → State → State) (s : State) (hf : ∀ x0 u, (f x0 u).kept = u.kept) : (withMsg type origin f s).kept = s.kept := by
  unfold withMsg
  (try dsimp only)
  (repeat' split)
  all_goals (try simp [hf])

@[simp] theorem fromLantern_kept (type n : Nat) (f : Lantern → InMsg → State → State) (s : State) (hf : ∀ x0 x1 u, (f x0 x1 u).kept = u.kept) : (fromLantern type n f s).kept = s.kept := by
  unfold fromLantern
  exact withMsg_kept _ _ _ _ (fun m u => by split <;> simp [hf])

@[simp] theorem joinRefused_kept (eui reason proxy : Nat) (s : State)  : (joinRefused eui reason proxy s).kept = s.kept := by simp [joinRefused]
@[simp] theorem joinFrames_kept (n eui last : Nat) (y0 : List Bytes) (y1 : Nat) (s : State)  : (joinFrames n eui last y0 y1 s).1.kept = s.kept := by
  induction y0 generalizing y1 s with
  | nil => rfl
  | cons b l ih => unfold joinFrames; split <;> simp [ih]

@[simp] theorem sendJoinResponse_kept (proxy port lan eui : Nat) (body : Bytes) (s : State)  : (sendJoinResponse proxy port lan eui body s).kept = s.kept := by
  unfold sendJoinResponse
  (try dsimp only)
  (repeat' split)
  all_goals (try simp)

@[simp] theorem joinAccepted_kept (proxy port at_ n : Nat) (l : Lantern) (s : State)  : (joinAccepted proxy port at_ n l s).kept = s.kept := by simp [joinAccepted]
@[simp] theorem joinRequest_kept (proxy port at_ : Nat) (psdu : Bytes) (s : State)  : (joinRequest proxy port at_ psdu s).kept = s.kept := by
  unfold joinRequest
  (try dsimp only)
  (repeat' split)
  all_goals (try simp)

@[simp] theorem sendKey_kept (phase asn n : Nat) (s : State)  : (sendKey phase asn n s).kept = s.kept := by simp [sendKey]
@[simp] theorem pushScenes_kept (n : Nat) (s : State)  : (pushScenes n s).kept = s.kept := by simp [pushScenes]
@[simp] theorem welcome_kept (n : Nat) (s : State)  : (welcome n s).kept = s.kept := by
  unfold welcome
  (try dsimp only)
  (repeat' split)
  all_goals (try simp)

@[simp] theorem capability_kept (n : Nat) (l : Lantern) (m : InMsg) (s : State)  : (capability n l m s).kept = s.kept := by simp [capability]
@[simp] theorem neighbourReport_kept (n : Nat) (l : Lantern) (m : InMsg) (s : State)  : (neighbourReport n l m s).kept = s.kept := by
  unfold neighbourReport
  (try dsimp only)
  (repeat' split)
  all_goals (try simp)

@[simp] theorem clearSilent_kept (n : Nat) (s : State)  : (clearSilent n s).kept = s.kept := by
  unfold clearSilent
  (try dsimp only)
  (repeat' split)
  all_goals (try simp)

@[simp] theorem missBeacon_kept (n cyc : Nat) (s : State)  : (missBeacon n cyc s).kept = s.kept := by simp [missBeacon]
@[simp] theorem beaconMiss_kept (n : Nat) (m : InMsg) (s : State)  : (beaconMiss n m s).kept = s.kept := by simp [beaconMiss]
@[simp] theorem parentBeacon_kept (m : InMsg) (n : AnnexNet) (s : State)  : (parentBeacon m n s).kept = s.kept := by simp [parentBeacon]
@[simp] theorem annexHeard_kept (c : AnnexCand) (s : State)  : (annexHeard c s).kept = s.kept := by simp [annexHeard]
@[simp] theorem annexParentBeacon_kept (c : AnnexCand) (m : InMsg) (s : State)  : (annexParentBeacon c m s).kept = s.kept := by
  unfold annexParentBeacon
  (try dsimp only)
  (repeat' split)
  all_goals (try simp)

@[simp] theorem annexReparent_kept (old : Nat) (c : AnnexCand) (m : InMsg) (s : State)  : (annexReparent old c m s).kept = s.kept := by simp [annexReparent]
@[simp] theorem annexBeacon_kept (m : InMsg) (s0 : State)  : (annexBeacon m s0).kept = s0.kept := by
  unfold annexBeacon
  (try dsimp only)
  (repeat' split)
  all_goals (try simp)

@[simp] theorem beaconReceived_kept (m : InMsg) (s : State)  : (beaconReceived m s).kept = s.kept := by
  unfold beaconReceived
  (try dsimp only)
  (repeat' split)
  all_goals (try simp)

@[simp] theorem response_kept (n : Nat) (m : InMsg) (s : State)  : (response n m s).kept = s.kept := by
  unfold response
  (try dsimp only)
  (repeat' split)
  all_goals (try simp)

@[simp] theorem fragmentInventory_kept (n : Nat) (m : InMsg) (s : State)  : (fragmentInventory n m s).kept = s.kept := by simp [fragmentInventory]
@[simp] theorem settleGap_kept (s : State)  : (settleGap s).kept = s.kept := by simp [settleGap]
@[simp] theorem returnClock_kept (edges : List Nat) (s : State)  : (returnClock edges s).kept = s.kept := by simp [returnClock]
@[simp] theorem presenceSecond_kept (s : State)  : (presenceSecond s).kept = s.kept := by
  unfold presenceSecond
  (try dsimp only)
  (repeat' split)
  all_goals (try simp)

@[simp] theorem saveSecond_kept (s : State)  : (saveSecond s).kept = s.kept := by simp [saveSecond]
@[simp] theorem restartSecond_kept (s : State)  : (restartSecond s).kept = s.kept := by
  unfold restartSecond
  (try dsimp only)
  (repeat' split)
  all_goals (try simp)

@[simp] theorem windowSecond_kept (s : State)  : (windowSecond s).kept = s.kept := by
  unfold windowSecond
  (try dsimp only)
  (repeat' split)
  all_goals (try simp)

@[simp] theorem finishCalib_kept (k : Calib) (s : State)  : (finishCalib k s).kept = s.kept := by
  unfold finishCalib
  (try dsimp only)
  (repeat' split)
  all_goals (try simp)

@[simp] theorem calibSecond_kept (m : MeterIn) (s : State)  : (calibSecond m s).kept = s.kept := by simp [calibSecond]
@[simp] theorem meterSecondClose_kept (s : State)  : (meterSecondClose s).kept = s.kept := by simp [meterSecondClose]
@[simp] theorem flushTotals_kept (s : State)  : (flushTotals s).kept = s.kept := by
  unfold flushTotals
  (try dsimp only)
  (repeat' split)
  all_goals (try simp)

@[simp] theorem noteResult_kept (r : ReconRes) (need : Nat) (s : State)  : (noteResult r need s).kept = s.kept := by simp [noteResult]
@[simp] theorem reconcile_kept (w : ReconWin) (s : State)  : (reconcile w s).kept = s.kept := by simp [reconcile]
@[simp] theorem reconcilePrev_kept (s : State)  : (reconcilePrev s).kept = s.kept := by
  unfold reconcilePrev
  (try dsimp only)
  (repeat' split)
  all_goals (try simp)

@[simp] theorem windowEnds_kept (c : Nat) (s : State)  : (windowEnds c s).kept = s.kept := by simp [windowEnds]
@[simp] theorem windowBegins_kept (c : Nat) (s : State)  : (windowBegins c s).kept = s.kept := by simp [windowBegins]
@[simp] theorem windowsStop_kept (s : State)  : (windowsStop s).kept = s.kept := by
  unfold windowsStop
  (try dsimp only)
  (repeat' split)
  all_goals (try simp)

@[simp] theorem modWindow_kept (start : Nat) (f : ReconWin → ReconWin) (s : State)  : (modWindow start f s).kept = s.kept := by simp [modWindow]
@[simp] theorem energyAggregate_kept (head : Nat) (p : Bytes) (s : State)  : (energyAggregate head p s).kept = s.kept := by simp [energyAggregate]
@[simp] theorem standbyWindow_kept (s : State)  : (standbyWindow s).kept = s.kept := by
  unfold standbyWindow
  (try dsimp only)
  (repeat' split)
  all_goals (try simp)

@[simp] theorem meterConfig_kept (c : LiveCmd) (s : State)  : (meterConfig c s).kept = s.kept := by
  unfold meterConfig
  (try dsimp only)
  (repeat' split)
  all_goals (try simp)

@[simp] theorem meterRead_kept (c : LiveCmd) (s : State)  : (meterRead c s).kept = s.kept := by simp [meterRead]
@[simp] theorem energyRead_kept (c : LiveCmd) (s : State)  : (energyRead c s).kept = s.kept := by simp [energyRead]
@[simp] theorem pulseOutputAssign_kept (c : LiveCmd) (s : State)  : (pulseOutputAssign c s).kept = s.kept := by
  unfold pulseOutputAssign
  (try dsimp only)
  (repeat' split)
  all_goals (try simp)

@[simp] theorem pulseInputRead_kept (c : LiveCmd) (s : State)  : (pulseInputRead c s).kept = s.kept := by simp [pulseInputRead]
@[simp] theorem reconcileRead_kept (c : LiveCmd) (s : State)  : (reconcileRead c s).kept = s.kept := by simp [reconcileRead]
@[simp] theorem meterCalibrate_kept (c : LiveCmd) (s : State)  : (meterCalibrate c s).kept = s.kept := by simp [meterCalibrate]
@[simp] theorem setBank_kept (n : Nat) (u : BankUse) (contents : Nat) (s : State)  : (setBank n u contents s).kept = s.kept := by simp [setBank]
@[simp] theorem dropUnit_kept (isRun : Bool) (s : State)  : (dropUnit isRun s).kept = s.kept := by simp [dropUnit]
@[simp] theorem unitFailed_kept (alg origin : Nat) (u : TestUnit) (r : Nat × Option Nat) (s : State)  : (unitFailed alg origin u r s).kept = s.kept := by
  unfold unitFailed
  (try dsimp only)
  (repeat' split)
  all_goals (try simp)

@[simp] theorem unitEnds_kept (isRun : Bool) (alg : Nat) (u : TestUnit) (r : Nat × Option Nat) (s : State)  : (unitEnds isRun alg u r s).kept = s.kept := by
  unfold unitEnds
  (try dsimp only)
  (repeat' split)
  all_goals (try simp)

@[simp] theorem refuseEvacuation_kept (isRun : Bool) (s : State)  : (refuseEvacuation isRun s).kept = s.kept := by simp [refuseEvacuation]
@[simp] theorem swapBanks_kept (isRun : Bool) (n k : Nat) (s : State)  : (swapBanks isRun n k s).kept = s.kept := by simp [swapBanks]
@[simp] theorem evacuate_kept (isRun : Bool) (n left : Nat) (s : State)  : (evacuate isRun n left s).1.kept = s.kept := by
  unfold evacuate
  (try dsimp only)
  (repeat' split)
  all_goals (try simp)

@[simp] theorem skipRetired_kept (isRun : Bool) (s : State)  : (skipRetired isRun s).kept = s.kept := by simp [skipRetired]
@[simp] theorem sliceWork_kept (isRun : Bool) (alg : Nat) (y0 : Nat) (y1 : Nat) (y2 : List (List (Nat × Nat))) (s : State)  : (sliceWork isRun alg y0 y1 y2 s).1.kept = s.kept := by
  induction y0 generalizing y1 y2 s with
  | zero => rfl
  | succ f ih => unfold sliceWork; dsimp only; (repeat' split) <;> simp [ih]

@[simp] theorem finishRun_kept (r : TestRun) (outcome status : Nat) (s : State)  : (finishRun r outcome status s).kept = s.kept := by
  unfold finishRun
  (try dsimp only)
  (repeat' split)
  all_goals (try simp)

@[simp] theorem abortRun_kept (r : TestRun) (status : Nat) (s : State)  : (abortRun r status s).kept = s.kept := by
  unfold abortRun
  (try dsimp only)
  (repeat' split)
  all_goals (try simp)

@[simp] theorem checkRun_kept (s : State)  : (checkRun s).kept = s.kept := by
  unfold checkRun
  (try dsimp only)
  (repeat' split)
  all_goals (try simp)

@[simp] theorem checkSweep_kept (s : State)  : (checkSweep s).kept = s.kept := by
  unfold checkSweep
  (try dsimp only)
  (repeat' split)
  all_goals (try simp)

@[simp] theorem takeQueued_kept (s : State)  : (takeQueued s).kept = s.kept := by simp [takeQueued]
@[simp] theorem sliceStart_kept (r : SliceIn) (s : State)  : (sliceStart r s).kept = s.kept := by simp [sliceStart]
@[simp] theorem sliceSoFar_kept (s : State)  : (sliceSoFar s).1.kept = s.kept := by simp [sliceSoFar]
@[simp] theorem stopSlice_kept (s : State)  : (stopSlice s).kept = s.kept := by simp [stopSlice]
@[simp] theorem cutSlice_kept (s : State)  : (cutSlice s).kept = s.kept := by
  unfold cutSlice
  (try dsimp only)
  (repeat' split)
  all_goals (try simp)

@[simp] theorem endSlice_kept (s : State)  : (endSlice s).kept = s.kept := by simp [endSlice]
@[simp] theorem selftestRun_kept (c : LiveCmd) (s : State)  : (selftestRun c s).kept = s.kept := by
  unfold selftestRun
  (try dsimp only)
  (repeat' split)
  all_goals (try simp)

@[simp] theorem selftestResult_kept (c : LiveCmd) (s : State)  : (selftestResult c s).kept = s.kept := by
  unfold selftestResult
  (try dsimp only)
  (repeat' split)
  all_goals (try simp)

@[simp] theorem selftestSchedule_kept (c : LiveCmd) (s : State)  : (selftestSchedule c s).kept = s.kept := by simp [selftestSchedule]
@[simp] theorem scanRequest_kept (s : State)  : (scanRequest s).kept = s.kept := by simp [scanRequest]
@[simp] theorem scanTick_kept (s : State)  : (scanTick s).kept = s.kept := by
  unfold scanTick
  (try dsimp only)
  (repeat' split)
  all_goals (try simp)

@[simp] theorem pfailSlice_kept (s : State)  : (pfailSlice s).kept = s.kept := by simp [pfailSlice]
@[simp] theorem pfailFall_kept (s : State)  : (pfailFall s).kept = s.kept := by
  unfold pfailFall
  (try dsimp only)
  (repeat' split)
  all_goals (try simp)

@[simp] theorem sendHealth_kept (s : State)  : (sendHealth s).kept = s.kept := by simp [sendHealth]
@[simp] theorem sendHello_kept (s : State)  : (sendHello s).kept = s.kept := by simp [sendHello]
@[simp] theorem linkDown_kept (s : State)  : (linkDown s).kept = s.kept := by simp [linkDown]
@[simp] theorem heard_kept (s : State)  : (heard s).kept = s.kept := by simp [heard]
@[simp] theorem frameBad_kept (s : State)  : (frameBad s).kept = s.kept := by simp [frameBad]
@[simp] theorem onLink_kept (type : Nat) (f : LinkIn) (k : State → State) (s : State) (hk : ∀ u, (k u).kept = u.kept) : (onLink type f k s).kept = s.kept := by simp [onLink, hk]
@[simp] theorem assertLease_kept (cause : Nat) (s : State)  : (assertLease cause s).kept = s.kept := by simp [assertLease]
@[simp] theorem linkUp_kept (h : PeerHello) (s : State)  : (linkUp h s).kept = s.kept := by simp [linkUp]
@[simp] theorem trainLink_kept (s : State)  : (trainLink s).kept = s.kept := by
  unfold trainLink
  (try dsimp only)
  (repeat' split)
  all_goals (try simp)

@[simp] theorem twinHello_kept (f : LinkIn) (s : State)  : (twinHello f s).kept = s.kept := by simp [twinHello]
@[simp] theorem inSequence_kept (type : Nat) (f : LinkIn) (ok : State → State) (s : State) (hok : ∀ u, (ok u).kept = u.kept) : (inSequence type f ok s).kept = s.kept := by
  unfold inSequence
  (try dsimp only)
  (repeat' split)
  all_goals (try simp [hok])

@[simp] theorem nak_kept (f : LinkIn) (s : State)  : (nak f s).kept = s.kept := by simp [nak]
@[simp] theorem renewAndCopy_kept (cycle : Nat) (step : Int) (s : State)  : (renewAndCopy cycle step s).kept = s.kept := by simp [renewAndCopy]
@[simp] theorem releaseLease_kept (s : State)  : (releaseLease s).kept = s.kept := by simp [releaseLease]
@[simp] theorem leaveTwin_kept (s : State)  : (leaveTwin s).kept = s.kept := by simp [leaveTwin]
@[simp] theorem copySegment_kept (f : LinkIn) (s : State)  : (copySegment f s).kept = s.kept := by
  unfold copySegment
  exact inSequence_kept _ _ _ _ (fun _ => rfl)

@[simp] theorem installStandby_kept (img : CopyImage) (s : State)  : (installStandby img s).kept = s.kept := by simp [installStandby]
@[simp] theorem commitCopy_kept (cycle : Nat) (full : Bool) (raw : Bytes) (img : CopyImage) (s : State)  : (commitCopy cycle full raw img s).kept = s.kept := by
  unfold commitCopy
  (try dsimp only)
  (repeat' split)
  all_goals (try simp)

@[simp] theorem copyEnd_kept (f : LinkIn) (s : State)  : (copyEnd f s).kept = s.kept := by
  unfold copyEnd
  (try dsimp only)
  (repeat' split)
  all_goals (try simp)

@[simp] theorem copyAck_kept (f : LinkIn) (s : State)  : (copyAck f s).kept = s.kept := by
  unfold copyAck
  (try dsimp only)
  (repeat' split)
  all_goals (try simp)

@[simp] theorem yieldDone_kept (cycle : Nat) (s : State)  : (yieldDone cycle s).kept = s.kept := by simp [yieldDone]
@[simp] theorem followStep_kept (x : Int) (s : State)  : (followStep x s).kept = s.kept := by simp [followStep]
@[simp] theorem renew_kept (f : LinkIn) (s : State)  : (renew f s).kept = s.kept := by simp [renew]
@[simp] theorem standbyCycle_kept (s : State)  : (standbyCycle s).kept = s.kept := by simp [standbyCycle]
@[simp] theorem holderCycle_kept (cycle : Nat) (step : Int) (s : State)  : (holderCycle cycle step s).kept = s.kept := by simp [holderCycle]
@[simp] theorem journalFrame_kept (f : LinkIn) (s : State)  : (journalFrame f s).kept = s.kept := by simp [journalFrame]
@[simp] theorem journalAck_kept (f : LinkIn) (s : State)  : (journalAck f s).kept = s.kept := by
  unfold journalAck
  (try dsimp only)
  (repeat' split)
  all_goals (try simp)

@[simp] theorem journalAccept_kept (c : LiveCmd) (s : State)  : (journalAccept c s).kept = s.kept := by simp [journalAccept]
@[simp] theorem echoFed_kept (f : LinkIn) (s : State)  : (echoFed f s).kept = s.kept := by simp [echoFed]
@[simp] theorem echoDone_kept (f : LinkIn) (s : State)  : (echoDone f s).kept = s.kept := by
  unfold echoDone
  (try dsimp only)
  (repeat' split)
  all_goals (try simp)

@[simp] theorem timeExchange_kept (s : State)  : (timeExchange s).kept = s.kept := by simp [timeExchange]
@[simp] theorem twinTime_kept (f : LinkIn) (s : State)  : (twinTime f s).kept = s.kept := by
  unfold twinTime
  (try dsimp only)
  (repeat' split)
  all_goals (try simp)

@[simp] theorem resumeMeter_kept (img : CopyImage) (s : State)  : (resumeMeter img s).kept = s.kept := by simp [resumeMeter]
@[simp] theorem resumeAlarms_kept (img : CopyImage) (s : State)  : (resumeAlarms img s).kept = s.kept := by simp [resumeAlarms]
@[simp] theorem advanceSeries_kept (s : State)  : (advanceSeries s).kept = s.kept := by simp [advanceSeries]
@[simp] theorem resumeCopy_kept (img : CopyImage) (s : State)  : (resumeCopy img s).kept = s.kept := by simp [resumeCopy]
@[simp] theorem reportUnknown_kept (us : List JournalEnt) (s : State)  : (reportUnknown us s).kept = s.kept := by simp [reportUnknown]
@[simp] theorem takeoverWindow_kept (s : State)  : (takeoverWindow s).kept = s.kept := by simp [takeoverWindow]
@[simp] theorem takeover_kept (s : State)  : (takeover s).kept = s.kept := by
  unfold takeover
  (try dsimp only)
  (repeat' split)
  all_goals (try simp)

@[simp] theorem arbitrate_kept (s : State)  : (arbitrate s).kept = s.kept := by
  unfold arbitrate
  (try dsimp only)
  (repeat' split)
  all_goals (try simp)

@[simp] theorem leaseInAssert_kept (s : State)  : (leaseInAssert s).kept = s.kept := by simp [leaseInAssert]
@[simp] theorem leaseInDeassert_kept (s : State)  : (leaseInDeassert s).kept = s.kept := by simp [leaseInDeassert]
@[simp] theorem noteUnhealthy_kept (s : State)  : (noteUnhealthy s).kept = s.kept := by simp [noteUnhealthy]
@[simp] theorem twinStatus_kept (c : LiveCmd) (s : State)  : (twinStatus c s).kept = s.kept := by simp [twinStatus]
@[simp] theorem twinConfig_kept (c : LiveCmd) (s : State)  : (twinConfig c s).kept = s.kept := by simp [twinConfig]
@[simp] theorem leaseYield_kept (c : LiveCmd) (s : State)  : (leaseYield c s).kept = s.kept := by simp [leaseYield]
@[simp] theorem countRefusals_kept (l : List Nat) (s : State)  : (countRefusals l s).kept = s.kept := by simp [countRefusals]
@[simp] theorem countEntry_kept (q : PState) (s : State)  : (countEntry q s).kept = s.kept := by simp [countEntry]
@[simp] theorem beginEntry_kept (s : State)  : (beginEntry s).kept = s.kept := by simp [beginEntry]
@[simp] theorem chooseState_kept (y0 : List PState) (s : State)  : (chooseState y0 s).kept = s.kept := by
  induction y0 generalizing s with
  | nil => rfl
  | cons q l ih =>
    unfold chooseState
    dsimp only
    (repeat' split) <;> simp only [ih, countRefusals_kept, beginEntry_kept, countEntry_kept, setPState_kept, kept_draw]

@[simp] theorem applyOpPoint_kept (s : State)  : (applyOpPoint s).kept = s.kept := by simp [applyOpPoint]
@[simp] theorem powerEvaluation_kept (s : State)  : (powerEvaluation s).kept = s.kept := by simp [powerEvaluation]
@[simp] theorem restoreSpan_kept (s : State)  : (restoreSpan s).kept = s.kept := kept_modTime _ _
@[simp] theorem enterSlumber_kept (s : State)  : (enterSlumber s).kept = s.kept := by simp [enterSlumber]
@[simp] theorem meterResumes_kept (s : State)  : (meterResumes s).kept = s.kept := by
  unfold meterResumes
  (try dsimp only)
  (repeat' split)
  all_goals (try simp)

@[simp] theorem afterTransition_kept (s : State)  : (afterTransition s).kept = s.kept := by
  unfold afterTransition
  (try dsimp only)
  (repeat' split)
  all_goals (try simp)

@[simp] theorem arriveExit_kept (s : State)  : (arriveExit s).kept = s.kept := by
  simp only [arriveExit, afterTransition_kept, refreshLdEn_kept, toHoldover_kept, kept_modFb, kept_modPwr, setPState_kept,
    restoreSpan_kept]

@[simp] theorem arriveAbandoned_kept (s : State)  : (arriveAbandoned s).kept = s.kept := by simp [arriveAbandoned]
@[simp] theorem abandonAt_kept (point : Nat) (s : State)  : (abandonAt point s).kept = s.kept := by simp [abandonAt]
@[simp] theorem powerTick_kept (s : State)  : (powerTick s).kept = s.kept := by
  unfold powerTick
  (try dsimp only)
  (repeat' split)
  all_goals (try simp)

@[simp] theorem checkinTick_kept (s : State)  : (checkinTick s).kept = s.kept := by simp [checkinTick]
@[simp] theorem voutAcked_kept (mv : Nat) (s : State)  : (voutAcked mv s).kept = s.kept := by
  unfold voutAcked
  (try dsimp only)
  (repeat' split)
  all_goals (try simp)

@[simp] theorem pmicAck_kept (nack pgood : Bool) (status : Nat) (s : State)  : (pmicAck nack pgood status s).kept = s.kept := by
  unfold pmicAck
  (try dsimp only)
  (repeat' split)
  all_goals (try simp)

@[simp] theorem pmicTimeout_kept (s : State)  : (pmicTimeout s).kept = s.kept := by
  unfold pmicTimeout
  (try dsimp only)
  (repeat' split)
  all_goals (try simp)

@[simp] theorem thermal_kept (celsius : Int) (s : State)  : (thermal celsius s).kept = s.kept := by simp [thermal]
@[simp] theorem powerPolicySet_kept (c : LiveCmd) (s : State)  : (powerPolicySet c s).kept = s.kept := by simp [powerPolicySet]
@[simp] theorem powerStatus_kept (c : LiveCmd) (s : State)  : (powerStatus c s).kept = s.kept := by simp [powerStatus]
@[simp] theorem powerRefusalsRead_kept (c : LiveCmd) (s : State)  : (powerRefusalsRead c s).kept = s.kept := by simp [powerRefusalsRead]
@[simp] theorem modSlot_kept (k : Nat) (f : SlotImg → SlotImg) (s : State)  : (modSlot k f s).kept = s.kept := by simp [modSlot]
@[simp] theorem endFragments_kept (s : State)  : (endFragments s).kept = s.kept := by simp [endFragments]
@[simp] theorem newSessionUpd_kept (h : Bytes) (target : Nat) (s : State)  : (newSessionUpd h target s).kept = s.kept := by simp [newSessionUpd]
@[simp] theorem updateBegin_kept (c : LiveCmd) (s : State)  : (updateBegin c s).kept = s.kept := by
  unfold updateBegin
  (try dsimp only)
  (repeat' split)
  all_goals (try simp)

@[simp] theorem programFrag_kept (x : UpdSession) (i : Nat) (d : Bytes) (s : State)  : (programFrag x i d s).kept = s.kept := by simp [programFrag]
@[simp] theorem storeFragment_kept (c : LiveCmd) (s : State)  : (storeFragment c s).kept = s.kept := by
  unfold storeFragment
  (try dsimp only)
  (repeat' split)
  all_goals (try simp)

@[simp] theorem updateFragment_kept (c : LiveCmd) (s : State)  : (updateFragment c s).kept = s.kept := by simp [updateFragment]
@[simp] theorem sectorErased_kept (s : State)  : (sectorErased s).kept = s.kept := by
  unfold sectorErased
  (try dsimp only)
  (repeat' split)
  all_goals (try simp)

@[simp] theorem verifyDone_kept (s : State)  : (verifyDone s).kept = s.kept := by
  unfold verifyDone
  (try dsimp only)
  (repeat' split)
  all_goals (try simp)

@[simp] theorem unactivate_kept (s : State)  : (unactivate s).kept = s.kept := by
  unfold unactivate
  (try dsimp only)
  (repeat' split)
  all_goals (try simp)

@[simp] theorem dropSession_kept (s : State)  : (dropSession s).kept = s.kept := by simp [dropSession]
@[simp] theorem updateStatus_kept (c : LiveCmd) (s : State)  : (updateStatus c s).kept = s.kept := by simp [updateStatus]
@[simp] theorem rewrap_kept (target : Nat) (s : State)  : (rewrap target s).kept = s.kept := by simp [rewrap]
@[simp] theorem updateActivate_kept (c : LiveCmd) (s : State)  : (updateActivate c s).kept = s.kept := by
  unfold updateActivate
  (try dsimp only)
  (repeat' split)
  all_goals (try simp)

@[simp] theorem updateAbort_kept (c : LiveCmd) (s : State)  : (updateAbort c s).kept = s.kept := by
  unfold updateAbort
  (try dsimp only)
  (repeat' split)
  all_goals (try simp)

@[simp] theorem resetTimeUnit_kept (s : State)  : (resetTimeUnit s).kept = s.kept := by simp [resetTimeUnit]
@[simp] theorem activated_kept (type : Nat) (s : State)  : (activated type s).kept = s.kept := by
  unfold activated
  (try dsimp only)
  (repeat' split)
  all_goals (try simp)

@[simp] theorem revertTrial_kept (cause : Nat) (s : State)  : (revertTrial cause s).kept = s.kept := by
  unfold revertTrial
  (try dsimp only)
  (repeat' split)
  all_goals (try simp)

@[simp] theorem readBootRecord_kept (s : State)  : (readBootRecord s).kept = s.kept := by
  unfold readBootRecord
  (try dsimp only)
  (repeat' split)
  all_goals (try simp)

@[simp] theorem chooseSlot_kept (badA badB : Bool) (s : State)  : (chooseSlot badA badB s).1.kept = s.kept := by
  unfold chooseSlot
  (try dsimp only)
  (repeat' split)
  all_goals (try simp)

@[simp] theorem migrate_kept (s : State)  : (migrate s).kept = s.kept := by
  unfold migrate
  (try dsimp only)
  (repeat' split)
  all_goals (try simp)

@[simp] theorem restoreTotals_kept (s : State)  : (restoreTotals s).kept = s.kept := by
  unfold restoreTotals
  (try dsimp only)
  (repeat' split)
  all_goals (try simp)

@[simp] theorem restartEvents_kept (cold : Bool) (s : State)  : (restartEvents cold s).kept = s.kept := by simp [restartEvents]
@[simp] theorem vaultStart_kept (s : State)  : (vaultStart s).kept = s.kept := by simp [vaultStart]
@[simp] theorem tamperStart_kept (s : State)  : (tamperStart s).kept = s.kept := by simp [tamperStart]
@[simp] theorem alarmStart_kept (i : Nat) (s : State)  : (alarmStart i s).kept = s.kept := by
  unfold alarmStart
  (try dsimp only)
  (repeat' split)
  all_goals (try simp)

@[simp] theorem resetCause_kept (s : State)  : (resetCause s).kept = s.kept := by simp [resetCause]
@[simp] theorem startFirmware_kept (s : State)  : (startFirmware s).kept = s.kept := by
  unfold startFirmware
  (try dsimp only)
  (repeat' split)
  all_goals (try simp)

@[simp] theorem testFails_kept (origin : Nat) (l : List (TestUnit × List (Nat × Nat))) (s : State)  : (testFails origin l s).kept = s.kept := by simp [testFails]
@[simp] theorem startBanks_kept (fails : List Nat) (s : State)  : (startBanks fails s).kept = s.kept := by simp [startBanks]
@[simp] theorem startTest_kept (e : BootEnv) (recovery : Bool) (s : State)  : (startTest e recovery s).kept = s.kept := by
  unfold startTest
  (try dsimp only)
  (repeat' split)
  all_goals (try simp)

@[simp] theorem enterRecovery_kept (cause : Nat) (s : State)  : (enterRecovery cause s).kept = s.kept := by simp [enterRecovery]
@[simp] theorem loseSram_kept (s : State)  : (loseSram s).kept = s.kept := by simp [loseSram]
@[simp] theorem writeLatch_kept (s : State)  : (writeLatch s).kept = s.kept := by simp [writeLatch]
@[simp] theorem bootFrom_kept (e : BootEnv) (s : State)  : (bootFrom e s).kept = s.kept := by simp [bootFrom]
@[simp] theorem loseVault_kept (s : State)  : (loseVault s).kept = s.kept := by simp [loseVault]
@[simp] theorem ioBankChange_kept (bank mode : Nat) (s : State)  : (ioBankChange bank mode s).kept = s.kept := by simp [ioBankChange]
@[simp] theorem modRecovery_kept (f : Recovery → Recovery) (s : State)  : (modRecovery f s).kept = s.kept := by simp [modRecovery]
@[simp] theorem romSend_kept (b : Bytes) (s : State)  : (romSend b s).kept = s.kept := by simp [romSend]
@[simp] theorem romStatus_kept (seq status detail : Nat) (s : State)  : (romStatus seq status detail s).kept = s.kept := by simp [romStatus]
@[simp] theorem romCommand_kept (type : Nat) (f : Bytes) (body : Bytes → State → State × Nat × Nat) (s : State) (hbody : ∀ x0 u, (body x0 u).1.kept = u.kept) : (romCommand type f body s).kept = s.kept := by
  unfold romCommand
  dsimp only
  (repeat' split) <;> simp [hbody]

@[simp] theorem romBegin_kept (h : Bytes) (s : State)  : (romBegin h s).1.kept = s.kept := by
  unfold romBegin
  (try dsimp only)
  (repeat' split)
  all_goals (try simp)

@[simp] theorem romData_kept (p : Bytes) (s : State)  : (romData p s).1.kept = s.kept := by
  unfold romData
  (try dsimp only)
  (repeat' split)
  all_goals (try simp)

@[simp] theorem romKeys_kept (target : Nat) (s : State)  : (romKeys target s).kept = s.kept := by simp [romKeys]
@[simp] theorem romBoot_kept (s : State)  : (romBoot s).kept = s.kept := by
  unfold romBoot
  (try dsimp only)
  (repeat' split)
  all_goals (try simp)

@[simp] theorem recoveryBoot_kept (f : Bytes) (s : State)  : (recoveryBoot f s).kept = s.kept := by
  unfold recoveryBoot
  have h : ∀ g : Bytes → State → State × Nat × Nat, (∀ p u, (g p u).1.kept = u.kept) → (romCommand 5 f g s).kept = s.kept :=
    fun g k => romCommand_kept _ _ _ _ k
  dsimp only
  split
  · rw [romBoot_kept]; exact h _ (fun p u => by (repeat' split) <;> rfl)
  · exact h _ (fun p u => by (repeat' split) <;> rfl)

@[simp] theorem romHello_kept (s : State)  : (romHello s).kept = s.kept := by simp [romHello]
@[simp] theorem refusePacket_kept (t : Transport) (sid : Option Nat) (b : Bytes) (st d : Nat) (s : State)  : (refusePacket t sid b st d s).kept = s.kept := by
  unfold refusePacket
  (try dsimp only)
  (repeat' split)
  all_goals (try simp)

@[simp] theorem safeReply_kept (t : Transport) (charged : Bool) (b : Bytes) (st d seq : Nat) (s : State)  : (safeReply t charged b st d seq s).kept = s.kept := by
  unfold safeReply
  (try dsimp only)
  (repeat' split)
  all_goals (try simp)

@[simp] theorem safeAnswer_kept (t : Transport) (charged : Bool) (b : Bytes) (s : State)  : (safeAnswer t charged b s).kept = s.kept := by
  unfold safeAnswer
  (try dsimp only)
  (repeat' split)
  all_goals (try simp)

@[simp] theorem enqueue_kept (e : InEntry) (s : State)  : (enqueue e s).kept = s.kept := by simp [enqueue]
@[simp] theorem offerOn_kept (t : Transport) (n : Nat) (x : Session) (b : Bytes) (s : State)  : (offerOn t n x b s).kept = s.kept := by simp [offerOn]
@[simp] theorem offerLocal_kept (t : Transport) (b : Bytes) (s : State)  : (offerLocal t b s).kept = s.kept := by
  unfold offerLocal
  (try dsimp only)
  (repeat' split)
  all_goals (try simp)

@[simp] theorem dropOut_kept (t : Transport) (sid : Option Nat) (p : OutPkt) (s : State)  : (dropOut t sid p s).kept = s.kept := by
  unfold dropOut
  (try dsimp only)
  (repeat' split)
  all_goals (try simp)

@[simp] theorem modWin_kept (f : Window → Window) (s : State)  : (modWin f s).kept = s.kept := by simp [modWin]
@[simp] theorem romFrameIn_kept (t : Transport) (f : Bytes) (s : State)  : (romFrameIn t f s).kept = s.kept := by simp [romFrameIn]
@[simp] theorem windowIn_kept (b : Bytes) (s : State)  : (windowIn b s).kept = s.kept := by simp [windowIn]
@[simp] theorem pushWord_kept (w : Word32) (s : State)  : (pushWord w s).kept = s.kept := by simp [pushWord]
@[simp] theorem hspi_kept (f : State → State) (s : State) (hf : ∀ u, (f u).kept = u.kept) : (hspi f s).kept = s.kept := by simp [hspi, hf]
@[simp] theorem writeStatus_kept (v : Nat) (s : State)  : (writeStatus v s).kept = s.kept := by simp [writeStatus]
@[simp] theorem writeCause_kept (v : Nat) (s : State)  : (writeCause v s).kept = s.kept := by simp [writeCause]
@[simp] theorem writeReg_kept (offset : Nat) (w : Word32) (s : State)  : (writeReg offset w s).kept = s.kept := by simp [writeReg]
@[simp] theorem writeGroups_kept (y0 : Nat) (y1 : Nat) (y2 : Bytes) (s : State)  : (writeGroups y0 y1 y2 s).kept = s.kept := by
  induction y0 generalizing y1 y2 s with
  | zero => rfl
  | succ k ih => unfold writeGroups; split <;> simp [ih]

@[simp] theorem frameIn_kept (t : Transport) (f : Bytes) (s : State)  : (frameIn t f s).kept = s.kept := by
  unfold frameIn
  (try dsimp only)
  (repeat' split)
  all_goals (try simp)

@[simp] theorem framesIn_kept (t : Transport) (raw : Bytes) (s : State)  : (framesIn t raw s).kept = s.kept := by simp [framesIn]
@[simp] theorem huartFrame_kept (raw : Bytes) (s : State)  : (huartFrame raw s).kept = s.kept := by simp [huartFrame]
@[simp] theorem ethDrop_kept (s : State)  : (ethDrop s).kept = s.kept := by simp [ethDrop]
@[simp] theorem ethOut_kept (peer : Nat) (b : Bytes) (s : State)  : (ethOut peer b s).kept = s.kept := by simp [ethOut]
@[simp] theorem refuseHandshake_kept (peer st : Nat) (s : State)  : (refuseHandshake peer st s).kept = s.kept := by simp [refuseHandshake]
@[simp] theorem openEth_kept (peer role n : Nat) (hostKey p z : Bytes) (d : Nat) (s : State)  : (openEth peer role n hostKey p z d s).kept = s.kept := by simp [openEth]
@[simp] theorem handshake_kept (peer : Nat) (p : Bytes) (s : State)  : (handshake peer p s).kept = s.kept := by
  unfold handshake
  (try dsimp only)
  (repeat' split)
  all_goals (try simp)

@[simp] theorem takePacket_kept (n : Nat) (b : Bytes) (s : State)  : (takePacket n b s).kept = s.kept := by
  unfold takePacket
  (try dsimp only)
  (repeat' split)
  all_goals (try simp)

@[simp] theorem modChan_kept (n : Nat) (f : EthChan → EthChan) (s : State)  : (modChan n f s).kept = s.kept := by simp [modChan]
@[simp] theorem takeHeld_kept (n : Nat) (y0 : Nat) (s : State)  : (takeHeld n y0 s).kept = s.kept := by
  induction y0 generalizing s with
  | zero => rfl
  | succ k ih => unfold takeHeld; (repeat' split) <;> simp [ih]

@[simp] theorem dataIn_kept (peer : Nat) (p : Bytes) (s : State)  : (dataIn peer p s).kept = s.kept := by
  unfold dataIn
  (try dsimp only)
  (repeat' split)
  all_goals (try simp)

@[simp] theorem datagram_kept (peer : Nat) (p : Bytes) (s : State)  : (datagram peer p s).kept = s.kept := by simp [datagram]
@[simp] theorem fragmentIn_kept (peer id off : Nat) (more : Bool) (b : Bytes) (s : State)  : (fragmentIn peer id off more b s).kept = s.kept := by
  unfold fragmentIn
  (try dsimp only)
  (repeat' split)
  all_goals (try simp)

@[simp] theorem ethIn_kept (d : EthIn) (s : State)  : (ethIn d s).kept = s.kept := by
  unfold ethIn
  (try dsimp only)
  (repeat' split)
  all_goals (try simp)

@[simp] theorem reorderTimeout_kept (n : Nat) (s : State)  : (reorderTimeout n s).kept = s.kept := by
  unfold reorderTimeout
  (try dsimp only)
  (repeat' split)
  all_goals (try simp)

@[simp] theorem supersede_kept (b a : LiveCmd) (s : State)  : (supersede b a s).kept = s.kept := by simp [supersede]
@[simp] theorem supersedeAll_kept (b : LiveCmd) (s : State)  : (supersedeAll b s).kept = s.kept := by simp [supersedeAll]
@[simp] theorem acceptPacket_kept (t : Transport) (sid : Option Nat) (b : Bytes) (s : State)  : (acceptPacket t sid b s).kept = s.kept := by
  unfold acceptPacket
  (try dsimp only)
  (repeat' split)
  all_goals (try simp)

@[simp] theorem intakeService_kept (s : State)  : (intakeService s).kept = s.kept := by
  unfold intakeService
  (try dsimp only)
  (repeat' split)
  all_goals (try simp)

@[simp] theorem transmitNext_kept (t : Transport) (sid : Option Nat) (p : OutPkt) (s : State)  : (transmitNext t sid p s).kept = s.kept := by
  unfold transmitNext
  (try dsimp only)
  (repeat' split)
  all_goals (try simp)

@[simp] theorem dropUntaken_kept (q : Nat) (s : State)  : (dropUntaken q s).kept = s.kept := by simp [dropUntaken]
@[simp] theorem releaseTaken_kept (q : Nat) (s : State)  : (releaseTaken q s).kept = s.kept := by simp [releaseTaken]
@[simp] theorem dropTxns_kept (q : Nat) (s : State)  : (dropTxns q s).kept = s.kept := by simp [dropTxns]
@[simp] theorem cancel_kept (c : LiveCmd) (s : State)  : (cancel c s).kept = s.kept := by
  have h : ∀ d u v, cancelBegun d u = some v → v.kept = u.kept := by
    intro d u v h
    unfold cancelBegun at h
    (repeat' split at h)
    all_goals first
      | (cases h; simp; done)
      | exact absurd h (by simp)
  unfold cancel
  (repeat' split)
  all_goals first
    | (simp; done)
    | (rename_i e; simp [h _ _ _ e])

@[simp] theorem oweLate_kept (c : LiveCmd) (mesh : Bool) (s : State)  : (oweLate c mesh s).kept = s.kept := by simp [oweLate]
@[simp] theorem timeout_kept (c : LiveCmd) (s : State)  : (timeout c s).kept = s.kept := by
  unfold timeout
  (try dsimp only)
  (repeat' split)
  all_goals (try simp)

@[simp] theorem loseRecord_kept (index : Nat) (s : State)  : (loseRecord index s).kept = s.kept := by simp [loseRecord]
@[simp] theorem loseTotals_kept (copy : Nat) (s : State)  : (loseTotals copy s).kept = s.kept := by simp [loseTotals]
@[simp] theorem contain_kept (source : Nat) (info : Bytes) (s : State)  : (contain source info s).kept = s.kept := by simp [contain]
@[simp] theorem containment_kept (e : UcEntry) (s : State)  : (containment e s).kept = s.kept := by simp [containment]
@[simp] theorem cycleCommits_kept (c : Nat) (s : State)  : (cycleCommits c s).kept = s.kept := by simp [cycleCommits]
@[simp] theorem pendingSteps_kept (s : State)  : (pendingSteps s).kept = s.kept := by simp [pendingSteps]
@[simp] theorem newNetworkKey_kept (s : State)  : (newNetworkKey s).kept = s.kept := by simp [newNetworkKey]
@[simp] theorem keyUpdate_kept (c : Nat) (s : State)  : (keyUpdate c s).kept = s.kept := by simp [keyUpdate]
@[simp] theorem beginSpan_kept (t : Nat) (s : State)  : (beginSpan t s).kept = s.kept := by simp [beginSpan]
@[simp] theorem rootBeacon_kept (k : Nat) (late : Bool) (miso : Bytes) (s : State)  : (rootBeacon k late miso s).kept = s.kept := by
  unfold rootBeacon
  (try dsimp only)
  (repeat' split)
  all_goals first | rfl | (have k := transmit_res ‹transmit _ _ _ = _›; simp [k]; done) | simp

@[simp] theorem rootBeacons_kept (lateA lateB : Bool) (misoA misoB : Bytes) (s : State)  : (rootBeacons lateA lateB misoA misoB s).kept = s.kept := by simp [rootBeacons]
@[simp] theorem startDone_kept (s : State)  : (startDone s).kept = s.kept := by simp [startDone]
@[simp] theorem countMisses_kept (ended : Nat) (s : State)  : (countMisses ended s).kept = s.kept := by simp [countMisses]
@[simp] theorem countRouteless_kept (s : State)  : (countRouteless s).kept = s.kept := by simp [countRouteless]
@[simp] theorem ownExpiry_kept (s : State)  : (ownExpiry s).kept = s.kept := by simp [ownExpiry]
@[simp] theorem guards_kept (s : State)  : (guards s).kept = s.kept := by simp [guards]
@[simp] theorem epochFlood_kept (s : State)  : (epochFlood s).kept = s.kept := by simp [epochFlood]
@[simp] theorem placementDue_kept (c : Nat) (s : State)  : (placementDue c s).kept = s.kept := by simp [placementDue]
@[simp] theorem saveTable_kept (c : Nat) (s : State)  : (saveTable c s).kept = s.kept := by simp [saveTable]
@[simp] theorem countPorts_kept (s : State)  : (countPorts s).kept = s.kept := by simp [countPorts]
@[simp] theorem cycleDuties_kept (c : Nat) (s : State)  : (cycleDuties c s).kept = s.kept := by simp [cycleDuties]
@[simp] theorem twinAtT_kept (cycle : Nat) (s : State)  : (twinAtT cycle s).kept = s.kept := by simp [twinAtT]
@[simp] theorem endCycles_kept (s : State)  : (endCycles s).kept = s.kept := by simp [endCycles]
@[simp] theorem beginCycle_kept (c : Nat) (lateA lateB : Bool) (misoA misoB : Bytes) (s : State)  : (beginCycle c lateA lateB misoA misoB s).kept = s.kept := by simp [beginCycle]
@[simp] theorem nextCycle_kept (lateA lateB : Bool) (misoA misoB : Bytes) (s : State)  : (nextCycle lateA lateB misoA misoB s).kept = s.kept := by simp [nextCycle]
@[simp] theorem firstCycle_kept (t : Nat) (lateA lateB : Bool) (misoA misoB : Bytes) (s : State)  : (firstCycle t lateA lateB misoA misoB s).kept = s.kept := by simp [firstCycle]
@[simp] theorem tickSpan_kept (s : State)  : (tickSpan s).kept = s.kept := by simp [tickSpan]
@[simp] theorem tickRtc_kept (s : State)  : (tickRtc s).kept = s.kept := by simp [tickRtc]
@[simp] theorem tickWatchdogs_kept (s : State)  : (tickWatchdogs s).kept = s.kept := by simp [tickWatchdogs]
@[simp] theorem tickLine_kept (s : State)  : (tickLine s).kept = s.kept := by
  unfold tickLine
  (try dsimp only)
  (repeat' split)
  all_goals (try simp)

@[simp] theorem settleLease_kept (s : State)  : (settleLease s).kept = s.kept := by simp [settleLease]
@[simp] theorem tickHealth_kept (s : State)  : (tickHealth s).kept = s.kept := by simp [tickHealth]
@[simp] theorem hspiWrite_kept (offset : Nat) (w : Word32) (s : State) : (hspiWrite offset w s).kept = s.kept := by
  have e : fld ([0x02, byte offset] ++ le 4 w.toNat) 0 1 = 2 := rfl
  have h : ∀ u : State, (hspiTransaction ([0x02, byte offset] ++ le 4 w.toNat) u).kept = u.kept := by
    intro u
    unfold hspiTransaction hspiBytes
    simp only [e, if_true, kept_modOut]
    split
    · rfl
    · exact writeGroups_kept _ _ _ _
  unfold hspiWrite
  exact hspi_kept _ _ h

end Sys2Proof.Machine
end

