-- ==== Sys2Proof/Laws/KeptExec.lean ====
section
/-! SUPPORT. What the meaning of each command leaves alone: the clock, the queue, the OTP and a pending advance. -/

namespace Sys2Proof.Machine

set_option Elab.async false

theorem execEcho_kept (sid : Nat) (tag : Nat) (s u : State) (h : execEcho sid tag s = .next u) : u.kept = s.kept := by
  unfold execEcho at h
  cases h
  simp

theorem execDeviceInfo_kept (sid : Nat) (tag : Nat) (s u : State) (h : execDeviceInfo sid tag s = .next u) : u.kept = s.kept := by
  unfold execDeviceInfo at h
  cases h
  simp

theorem execReset_kept (sid : Nat) (tag : Nat) (s u : State) (h : execReset sid tag s = .next u) : u.kept = s.kept := by
  unfold execReset at h
  cases h
  simp

theorem execFence_kept (sid : Nat) (tag : Nat) (s u : State) (h : execFence sid tag s = .next u) : u.kept = s.kept := by
  unfold execFence at h
  cases h
  simp

theorem execSettingRead_kept (sid : Nat) (tag : Nat) (s u : State) (h : execSettingRead sid tag s = .next u) : u.kept = s.kept := by
  unfold execSettingRead at h
  cases h
  simp

theorem execSettingWrite_kept (sid : Nat) (tag : Nat) (s u : State) (h : execSettingWrite sid tag s = .next u) : u.kept = s.kept := by
  unfold execSettingWrite at h
  cases h
  simp

theorem execSettingCommit_kept (sid : Nat) (tag : Nat) (s u : State) (h : execSettingCommit sid tag s = .next u) : u.kept = s.kept := by
  unfold execSettingCommit at h
  cases h
  simp

theorem execCancel_kept (sid : Nat) (tag : Nat) (s u : State) (h : execCancel sid tag s = .next u) : u.kept = s.kept := by
  unfold execCancel at h
  cases h
  simp

theorem execSessionOpen_kept (sid : Nat) (tag : Nat) (s u : State) (h : execSessionOpen sid tag s = .next u) : u.kept = s.kept := by
  unfold execSessionOpen at h
  cases h
  simp

theorem execTimeGet_kept (sid : Nat) (tag : Nat) (s u : State) (h : execTimeGet sid tag s = .next u) : u.kept = s.kept := by
  unfold execTimeGet at h
  cases h
  simp

theorem execTimeSlew_kept (sid : Nat) (tag : Nat) (s u : State) (h : execTimeSlew sid tag s = .next u) : u.kept = s.kept := by
  unfold execTimeSlew at h
  cases h
  simp

theorem execTimeStep_kept (sid : Nat) (tag : Nat) (s u : State) (h : execTimeStep sid tag s = .next u) : u.kept = s.kept := by
  unfold execTimeStep at h
  cases h
  simp

theorem execTimeSourceSet_kept (sid : Nat) (tag : Nat) (s u : State) (h : execTimeSourceSet sid tag s = .next u) : u.kept = s.kept := by
  unfold execTimeSourceSet at h
  cases h
  simp

theorem execRtcAlarmSet_kept (sid : Nat) (tag : Nat) (s u : State) (h : execRtcAlarmSet sid tag s = .next u) : u.kept = s.kept := by
  unfold execRtcAlarmSet at h
  cases h
  simp

theorem execCalendarConvert_kept (sid : Nat) (tag : Nat) (s u : State) (h : execCalendarConvert sid tag s = .next u) : u.kept = s.kept := by
  unfold execCalendarConvert at h
  cases h
  simp

theorem execLocalTimeTableLoad_kept (sid : Nat) (tag : Nat) (s u : State) (h : execLocalTimeTableLoad sid tag s = .next u) : u.kept = s.kept := by
  unfold execLocalTimeTableLoad at h
  cases h
  simp

theorem execFallbackTableLoad_kept (sid : Nat) (tag : Nat) (s u : State) (h : execFallbackTableLoad sid tag s = .next u) : u.kept = s.kept := by
  unfold execFallbackTableLoad at h
  cases h
  simp

theorem execPowerPolicySet_kept (sid : Nat) (tag : Nat) (s u : State) (h : execPowerPolicySet sid tag s = .next u) : u.kept = s.kept := by
  unfold execPowerPolicySet at h
  cases h
  simp

theorem execPowerStatus_kept (sid : Nat) (tag : Nat) (s u : State) (h : execPowerStatus sid tag s = .next u) : u.kept = s.kept := by
  unfold execPowerStatus at h
  cases h
  simp

theorem execPowerRefusalsRead_kept (sid : Nat) (tag : Nat) (s u : State) (h : execPowerRefusalsRead sid tag s = .next u) : u.kept = s.kept := by
  unfold execPowerRefusalsRead at h
  cases h
  simp

theorem execSpanStart_kept (sid : Nat) (tag : Nat) (s u : State) (h : execSpanStart sid tag s = .next u) : u.kept = s.kept := by
  unfold execSpanStart at h
  cases h
  simp

theorem execSpanStop_kept (sid : Nat) (tag : Nat) (s u : State) (h : execSpanStop sid tag s = .next u) : u.kept = s.kept := by
  unfold execSpanStop at h
  cases h
  simp

theorem execLanternAdmit_kept (sid : Nat) (tag : Nat) (s u : State) (h : execLanternAdmit sid tag s = .next u) : u.kept = s.kept := by
  unfold execLanternAdmit at h
  cases h
  simp

theorem execLanternRemove_kept (sid : Nat) (tag : Nat) (s u : State) (h : execLanternRemove sid tag s = .next u) : u.kept = s.kept := by
  unfold execLanternRemove at h
  cases h
  simp

theorem execLanternQuery_kept (sid : Nat) (tag : Nat) (s u : State) (h : execLanternQuery sid tag s = .next u) : u.kept = s.kept := by
  unfold execLanternQuery at h
  cases h
  simp

theorem execLanternSend_kept (sid : Nat) (tag : Nat) (s u : State) (h : execLanternSend sid tag s = .next u) : u.kept = s.kept := by
  unfold execLanternSend at h
  cases h
  simp

theorem execTopologyRead_kept (sid : Nat) (tag : Nat) (s u : State) (h : execTopologyRead sid tag s = .next u) : u.kept = s.kept := by
  unfold execTopologyRead at h
  cases h
  simp

theorem execFloodSend_kept (sid : Nat) (tag : Nat) (s u : State) (h : execFloodSend sid tag s = .next u) : u.kept = s.kept := by
  unfold execFloodSend at h
  cases h
  simp

theorem execRegionProfileLoad_kept (sid : Nat) (tag : Nat) (s u : State) (h : execRegionProfileLoad sid tag s = .next u) : u.kept = s.kept := by
  unfold execRegionProfileLoad at h
  cases h
  simp

theorem execDwellStatus_kept (sid : Nat) (tag : Nat) (s u : State) (h : execDwellStatus sid tag s = .next u) : u.kept = s.kept := by
  unfold execDwellStatus at h
  cases h
  simp

theorem execRadioProfileLoad_kept (sid : Nat) (tag : Nat) (misoA : Bytes) (misoB : Bytes) (s u : State) (h : execRadioProfileLoad sid tag misoA misoB s = .next u) : u.kept = s.kept := by
  unfold execRadioProfileLoad at h
  cases h
  simp

theorem execPolicyLoad_kept (sid : Nat) (tag : Nat) (s u : State) (h : execPolicyLoad sid tag s = .next u) : u.kept = s.kept := by
  unfold execPolicyLoad at h
  cases h
  simp

theorem execPolicyRemove_kept (sid : Nat) (tag : Nat) (s u : State) (h : execPolicyRemove sid tag s = .next u) : u.kept = s.kept := by
  unfold execPolicyRemove at h
  cases h
  simp

theorem execPolicyList_kept (sid : Nat) (tag : Nat) (s u : State) (h : execPolicyList sid tag s = .next u) : u.kept = s.kept := by
  unfold execPolicyList at h
  cases h
  simp

theorem execPlacementRead_kept (sid : Nat) (tag : Nat) (s u : State) (h : execPlacementRead sid tag s = .next u) : u.kept = s.kept := by
  unfold execPlacementRead at h
  cases h
  simp

theorem execPlacementPin_kept (sid : Nat) (tag : Nat) (s u : State) (h : execPlacementPin sid tag s = .next u) : u.kept = s.kept := by
  unfold execPlacementPin at h
  cases h
  simp

theorem execPlacementHold_kept (sid : Nat) (tag : Nat) (s u : State) (h : execPlacementHold sid tag s = .next u) : u.kept = s.kept := by
  unfold execPlacementHold at h
  cases h
  simp

theorem execSensorSubscribe_kept (sid : Nat) (tag : Nat) (s u : State) (h : execSensorSubscribe sid tag s = .next u) : u.kept = s.kept := by
  unfold execSensorSubscribe at h
  cases h
  simp

theorem execLampSet_kept (sid : Nat) (tag : Nat) (s u : State) (h : execLampSet sid tag s = .next u) : u.kept = s.kept := by
  unfold execLampSet at h
  cases h
  simp

theorem execSceneDefine_kept (sid : Nat) (tag : Nat) (s u : State) (h : execSceneDefine sid tag s = .next u) : u.kept = s.kept := by
  unfold execSceneDefine at h
  cases h
  simp

theorem execSceneLaunch_kept (sid : Nat) (tag : Nat) (s u : State) (h : execSceneLaunch sid tag s = .next u) : u.kept = s.kept := by
  unfold execSceneLaunch at h
  cases h
  simp

theorem execCalibrationLoad_kept (sid : Nat) (tag : Nat) (s u : State) (h : execCalibrationLoad sid tag s = .next u) : u.kept = s.kept := by
  unfold execCalibrationLoad at h
  cases h
  simp

theorem execLocalChannelConfig_kept (sid : Nat) (tag : Nat) (s u : State) (h : execLocalChannelConfig sid tag s = .next u) : u.kept = s.kept := by
  unfold execLocalChannelConfig at h
  cases h
  simp

theorem execLampStatus_kept (sid : Nat) (tag : Nat) (s u : State) (h : execLampStatus sid tag s = .next u) : u.kept = s.kept := by
  unfold execLampStatus at h
  cases h
  simp

theorem execMeterConfig_kept (sid : Nat) (tag : Nat) (s u : State) (h : execMeterConfig sid tag s = .next u) : u.kept = s.kept := by
  unfold execMeterConfig at h
  cases h
  simp

theorem execMeterRead_kept (sid : Nat) (tag : Nat) (s u : State) (h : execMeterRead sid tag s = .next u) : u.kept = s.kept := by
  unfold execMeterRead at h
  cases h
  simp

theorem execEnergyRead_kept (sid : Nat) (tag : Nat) (s u : State) (h : execEnergyRead sid tag s = .next u) : u.kept = s.kept := by
  unfold execEnergyRead at h
  cases h
  simp

theorem execPulseOutputAssign_kept (sid : Nat) (tag : Nat) (s u : State) (h : execPulseOutputAssign sid tag s = .next u) : u.kept = s.kept := by
  unfold execPulseOutputAssign at h
  cases h
  simp

theorem execPulseInputRead_kept (sid : Nat) (tag : Nat) (s u : State) (h : execPulseInputRead sid tag s = .next u) : u.kept = s.kept := by
  unfold execPulseInputRead at h
  cases h
  simp

theorem execReconcileRead_kept (sid : Nat) (tag : Nat) (s u : State) (h : execReconcileRead sid tag s = .next u) : u.kept = s.kept := by
  unfold execReconcileRead at h
  cases h
  simp

theorem execMeterCalibrate_kept (sid : Nat) (tag : Nat) (s u : State) (h : execMeterCalibrate sid tag s = .next u) : u.kept = s.kept := by
  unfold execMeterCalibrate at h
  cases h
  simp

theorem execUpdateBegin_kept (sid : Nat) (tag : Nat) (s u : State) (h : execUpdateBegin sid tag s = .next u) : u.kept = s.kept := by
  unfold execUpdateBegin at h
  cases h
  simp

theorem execUpdateFragment_kept (sid : Nat) (tag : Nat) (s u : State) (h : execUpdateFragment sid tag s = .next u) : u.kept = s.kept := by
  unfold execUpdateFragment at h
  cases h
  simp

theorem execUpdateStatus_kept (sid : Nat) (tag : Nat) (s u : State) (h : execUpdateStatus sid tag s = .next u) : u.kept = s.kept := by
  unfold execUpdateStatus at h
  cases h
  simp

theorem execUpdateActivate_kept (sid : Nat) (tag : Nat) (s u : State) (h : execUpdateActivate sid tag s = .next u) : u.kept = s.kept := by
  unfold execUpdateActivate at h
  cases h
  simp

theorem execUpdateAbort_kept (sid : Nat) (tag : Nat) (s u : State) (h : execUpdateAbort sid tag s = .next u) : u.kept = s.kept := by
  unfold execUpdateAbort at h
  cases h
  simp

theorem execLanternImageStage_kept (sid : Nat) (tag : Nat) (s u : State) (h : execLanternImageStage sid tag s = .next u) : u.kept = s.kept := by
  unfold execLanternImageStage at h
  cases h
  simp

theorem execLanternImageRollout_kept (sid : Nat) (tag : Nat) (s u : State) (h : execLanternImageRollout sid tag s = .next u) : u.kept = s.kept := by
  unfold execLanternImageRollout at h
  cases h
  simp

theorem execKeyLoad_kept (sid : Nat) (tag : Nat) (s u : State) (h : execKeyLoad sid tag s = .next u) : u.kept = s.kept := by
  unfold execKeyLoad at h
  cases h
  simp

theorem execKeyRetire_kept (sid : Nat) (tag : Nat) (s u : State) (h : execKeyRetire sid tag s = .next u) : u.kept = s.kept := by
  unfold execKeyRetire at h
  cases h
  simp

theorem execTamperPolicySet_kept (sid : Nat) (tag : Nat) (s u : State) (h : execTamperPolicySet sid tag s = .next u) : u.kept = s.kept := by
  unfold execTamperPolicySet at h
  cases h
  simp

theorem execDebugUnlock_kept (sid : Nat) (tag : Nat) (s u : State) (h : execDebugUnlock sid tag s = .next u) : u.kept = s.kept := by
  unfold execDebugUnlock at h
  cases h
  simp

theorem execSecurityStatus_kept (sid : Nat) (tag : Nat) (s u : State) (h : execSecurityStatus sid tag s = .next u) : u.kept = s.kept := by
  unfold execSecurityStatus at h
  cases h
  simp

theorem execFaultStatus_kept (sid : Nat) (tag : Nat) (s u : State) (h : execFaultStatus sid tag s = .next u) : u.kept = s.kept := by
  unfold execFaultStatus at h
  cases h
  simp

theorem execFaultAck_kept (sid : Nat) (tag : Nat) (s u : State) (h : execFaultAck sid tag s = .next u) : u.kept = s.kept := by
  unfold execFaultAck at h
  cases h
  simp

theorem execEventRead_kept (sid : Nat) (tag : Nat) (s u : State) (h : execEventRead sid tag s = .next u) : u.kept = s.kept := by
  unfold execEventRead at h
  cases h
  simp

theorem execEventClear_kept (sid : Nat) (tag : Nat) (s u : State) (h : execEventClear sid tag s = .next u) : u.kept = s.kept := by
  unfold execEventClear at h
  cases h
  simp

theorem execEventRateSet_kept (sid : Nat) (tag : Nat) (s u : State) (h : execEventRateSet sid tag s = .next u) : u.kept = s.kept := by
  unfold execEventRateSet at h
  cases h
  simp

theorem execFaultInject_kept (sid : Nat) (tag : Nat) (s u : State) (h : execFaultInject sid tag s = .next u) : u.kept = s.kept := by
  unfold execFaultInject at h
  cases h
  simp

theorem execTwinStatus_kept (sid : Nat) (tag : Nat) (s u : State) (h : execTwinStatus sid tag s = .next u) : u.kept = s.kept := by
  unfold execTwinStatus at h
  cases h
  simp

theorem execTwinConfig_kept (sid : Nat) (tag : Nat) (s u : State) (h : execTwinConfig sid tag s = .next u) : u.kept = s.kept := by
  unfold execTwinConfig at h
  cases h
  simp

theorem execLeaseYield_kept (sid : Nat) (tag : Nat) (s u : State) (h : execLeaseYield sid tag s = .next u) : u.kept = s.kept := by
  unfold execLeaseYield at h
  cases h
  simp

theorem execSelftestRun_kept (sid : Nat) (tag : Nat) (s u : State) (h : execSelftestRun sid tag s = .next u) : u.kept = s.kept := by
  unfold execSelftestRun at h
  cases h
  simp

theorem execSelftestResult_kept (sid : Nat) (tag : Nat) (s u : State) (h : execSelftestResult sid tag s = .next u) : u.kept = s.kept := by
  unfold execSelftestResult at h
  cases h
  simp

theorem execSelftestSchedule_kept (sid : Nat) (tag : Nat) (s u : State) (h : execSelftestSchedule sid tag s = .next u) : u.kept = s.kept := by
  unfold execSelftestSchedule at h
  cases h
  simp

theorem execQueueConfig_kept (sid : Nat) (tag : Nat) (s u : State) (h : execQueueConfig sid tag s = .next u) : u.kept = s.kept := by
  unfold execQueueConfig at h
  cases h
  simp

theorem execQueueStatus_kept (sid : Nat) (tag : Nat) (s u : State) (h : execQueueStatus sid tag s = .next u) : u.kept = s.kept := by
  unfold execQueueStatus at h
  cases h
  simp

theorem execWinInPush_kept (w : Word32) (s u : State) (h : execWinInPush w s = .next u) : u.kept = s.kept := by
  unfold execWinInPush at h
  cases h
  simp

theorem execAbortIn_kept  (s u : State) (h : execAbortIn  s = .next u) : u.kept = s.kept := by
  unfold execAbortIn at h
  cases h
  simp

theorem execWinStatusW1c_kept (w : Word32) (s u : State) (h : execWinStatusW1c w s = .next u) : u.kept = s.kept := by
  unfold execWinStatusW1c at h
  cases h
  simp

theorem execWinIrqCauseW1c_kept (w : Word32) (s u : State) (h : execWinIrqCauseW1c w s = .next u) : u.kept = s.kept := by
  unfold execWinIrqCauseW1c at h
  cases h
  simp

theorem execRegisterWrite_kept (offset : Nat) (w : Word32) (s u : State) (h : execRegisterWrite offset w s = .next u) : u.kept = s.kept := by
  unfold execRegisterWrite at h
  cases h
  simp

theorem execHuartFrame_kept (raw : Bytes) (s u : State) (h : execHuartFrame raw s = .next u) : u.kept = s.kept := by
  unfold execHuartFrame at h
  cases h
  simp

theorem execDbgFrame_kept (raw : Bytes) (s u : State) (h : execDbgFrame raw s = .next u) : u.kept = s.kept := by
  unfold execDbgFrame at h
  cases h
  simp

theorem execEthHandshake_kept (d : EthIn) (s u : State) (h : execEthHandshake d s = .next u) : u.kept = s.kept := by
  unfold execEthHandshake at h
  cases h
  simp

theorem execEthData_kept (d : EthIn) (s u : State) (h : execEthData d s = .next u) : u.kept = s.kept := by
  unfold execEthData at h
  cases h
  simp

theorem execEthReorderTimeout_kept (sid : Nat) (s u : State) (h : execEthReorderTimeout sid s = .next u) : u.kept = s.kept := by
  unfold execEthReorderTimeout at h
  cases h
  simp

theorem execEthIdleTimeout_kept (sid : Nat) (s u : State) (h : execEthIdleTimeout sid s = .next u) : u.kept = s.kept := by
  unfold execEthIdleTimeout at h
  cases h
  (try dsimp only)
  (repeat' split)
  all_goals (try simp)

theorem execEthFirstDataTimeout_kept (sid : Nat) (s u : State) (h : execEthFirstDataTimeout sid s = .next u) : u.kept = s.kept := by
  unfold execEthFirstDataTimeout at h
  cases h
  (try dsimp only)
  (repeat' split)
  all_goals (try simp)

theorem execIpReassemblyTimeout_kept (id : Nat) (s u : State) (h : execIpReassemblyTimeout id s = .next u) : u.kept = s.kept := by
  unfold execIpReassemblyTimeout at h
  cases h
  simp

theorem execIntakeService_kept  (s u : State) (h : execIntakeService  s = .next u) : u.kept = s.kept := by
  unfold execIntakeService at h
  cases h
  simp

theorem execInterimReplyTimer_kept (sid : Nat) (tag : Nat) (s u : State) (h : execInterimReplyTimer sid tag s = .next u) : u.kept = s.kept := by
  unfold execInterimReplyTimer at h
  cases h
  (try dsimp only)
  (repeat' split)
  all_goals (try simp)

theorem execDeadlineExpiry_kept (sid : Nat) (tag : Nat) (s u : State) (h : execDeadlineExpiry sid tag s = .next u) : u.kept = s.kept := by
  unfold execDeadlineExpiry at h
  cases h
  (try dsimp only)
  (repeat' split)
  all_goals (try simp)

theorem execLateAckWindowExpiry_kept (seq : Nat) (s u : State) (h : execLateAckWindowExpiry seq s = .next u) : u.kept = s.kept := by
  unfold execLateAckWindowExpiry at h
  cases h
  simp

theorem execCreditReturnTimer_kept (sid : Nat) (s u : State) (h : execCreditReturnTimer sid s = .next u) : u.kept = s.kept := by
  unfold execCreditReturnTimer at h
  cases h
  (try dsimp only)
  (repeat' split)
  all_goals (try simp)

theorem execChallengeExpiry_kept (t : Transport) (s u : State) (h : execChallengeExpiry t s = .next u) : u.kept = s.kept := by
  unfold execChallengeExpiry at h
  cases h
  simp

theorem execDebugChallengeExpiry_kept  (s u : State) (h : execDebugChallengeExpiry  s = .next u) : u.kept = s.kept := by
  unfold execDebugChallengeExpiry at h
  cases h
  simp

theorem execEventClearChallengeExpiry_kept  (s u : State) (h : execEventClearChallengeExpiry  s = .next u) : u.kept = s.kept := by
  unfold execEventClearChallengeExpiry at h
  cases h
  simp

theorem execBaudChangeTimer_kept  (s u : State) (h : execBaudChangeTimer  s = .next u) : u.kept = s.kept := by
  unfold execBaudChangeTimer at h
  cases h
  (try dsimp only)
  (repeat' split)
  all_goals (try simp)

theorem execReplyHoldTimer_kept (sid : Nat) (s u : State) (h : execReplyHoldTimer sid s = .next u) : u.kept = s.kept := by
  unfold execReplyHoldTimer at h
  cases h
  (try dsimp only)
  (repeat' split)
  all_goals (try simp)

theorem execQueueServicePassEnd_kept  (s u : State) (h : execQueueServicePassEnd  s = .next u) : u.kept = s.kept := by
  unfold execQueueServicePassEnd at h
  cases h
  simp

theorem execCycleBoundary_kept (lateA : Bool) (lateB : Bool) (misoA : Bytes) (misoB : Bytes) (s u : State) (h : execCycleBoundary lateA lateB misoA misoB s = .next u) : u.kept = s.kept := by
  unfold execCycleBoundary at h
  cases h
  (try dsimp only)
  (repeat' split)
  all_goals (try simp)

theorem execPierHeadSilent_kept (lantern : Nat) (s u : State) (h : execPierHeadSilent lantern s = .next u) : u.kept = s.kept := by
  unfold execPierHeadSilent at h
  cases h
  (try dsimp only)
  (repeat' split)
  all_goals (try simp)

theorem execHolderBeaconsMissed_kept (heard : Bool) (s u : State) (h : execHolderBeaconsMissed heard s = .next u) : u.kept = s.kept := by
  unfold execHolderBeaconsMissed at h
  cases h
  simp

theorem execRendezvousListenEnd_kept (lantern : Nat) (s u : State) (h : execRendezvousListenEnd lantern s = .next u) : u.kept = s.kept := by
  unfold execRendezvousListenEnd at h
  cases h
  (try dsimp only)
  (repeat' split)
  all_goals (try simp)

theorem execRoutelessLost_kept (lantern : Nat) (s u : State) (h : execRoutelessLost lantern s = .next u) : u.kept = s.kept := by
  unfold execRoutelessLost at h
  cases h
  (try dsimp only)
  (repeat' split)
  all_goals (try simp)

theorem execRootPortReassign_kept (lantern : Nat) (s u : State) (h : execRootPortReassign lantern s = .next u) : u.kept = s.kept := by
  unfold execRootPortReassign at h
  cases h
  (try dsimp only)
  (repeat' split)
  all_goals (try simp)

theorem execCellStart_kept (c : Cell) (s u : State) (h : execCellStart c s = .next u) : u.kept = s.kept := by
  unfold execCellStart at h
  cases h
  simp

theorem execAckWindowExpiry_kept (port : Nat) (s u : State) (h : execAckWindowExpiry port s = .next u) : u.kept = s.kept := by
  unfold execAckWindowExpiry at h
  cases h
  (try dsimp only)
  (repeat' split)
  all_goals (try simp)

theorem execEnhancedAckReceived_kept (port : Nat) (psdu : Bytes) (s u : State) (h : execEnhancedAckReceived port psdu s = .next u) : u.kept = s.kept := by
  unfold execEnhancedAckReceived at h
  cases h
  (try dsimp only)
  (repeat' split)
  all_goals (try simp)

theorem execRadioIrq_kept (port : Nat) (miso : Bytes) (edge : Int) (s u : State) (h : execRadioIrq port miso edge s = .next u) : u.kept = s.kept := by
  unfold execRadioIrq at h
  cases h
  simp

theorem execRadioPollTimeout_kept (poll : PollIn) (s u : State) (h : execRadioPollTimeout poll s = .next u) : u.kept = s.kept := by
  unfold execRadioPollTimeout at h
  cases h
  simp

theorem execFrameReceived_kept (poll : PollIn) (s u : State) (h : execFrameReceived poll s = .next u) : u.kept = s.kept := by
  unfold execFrameReceived at h
  cases h
  (try dsimp only)
  (repeat' split)
  all_goals (try simp)

theorem execBeaconReceived_kept (src : Nat) (s u : State) (h : execBeaconReceived src s = .next u) : u.kept = s.kept := by
  unfold execBeaconReceived at h
  cases h
  simp

theorem execJoinRequest_kept (eui : Nat) (s u : State) (h : execJoinRequest eui s = .next u) : u.kept = s.kept := by
  unfold execJoinRequest at h
  cases h
  simp

theorem execJoinRelay_kept (proxy : Nat) (s u : State) (h : execJoinRelay proxy s = .next u) : u.kept = s.kept := by
  unfold execJoinRelay at h
  cases h
  simp

theorem execCapability_kept (lantern : Nat) (s u : State) (h : execCapability lantern s = .next u) : u.kept = s.kept := by
  unfold execCapability at h
  cases h
  simp

theorem execConfigRequest_kept (lantern : Nat) (s u : State) (h : execConfigRequest lantern s = .next u) : u.kept = s.kept := by
  unfold execConfigRequest at h
  cases h
  simp

theorem execResync_kept (lantern : Nat) (s u : State) (h : execResync lantern s = .next u) : u.kept = s.kept := by
  unfold execResync at h
  cases h
  simp

theorem execNeighbourReport_kept (lantern : Nat) (s u : State) (h : execNeighbourReport lantern s = .next u) : u.kept = s.kept := by
  unfold execNeighbourReport at h
  cases h
  simp

theorem execBeaconMiss_kept (lantern : Nat) (s u : State) (h : execBeaconMiss lantern s = .next u) : u.kept = s.kept := by
  unfold execBeaconMiss at h
  cases h
  simp

theorem execResponse_kept (lantern : Nat) (s u : State) (h : execResponse lantern s = .next u) : u.kept = s.kept := by
  unfold execResponse at h
  cases h
  simp

theorem execSensorEvent_kept (lantern : Nat) (s u : State) (h : execSensorEvent lantern s = .next u) : u.kept = s.kept := by
  unfold execSensorEvent at h
  cases h
  simp

theorem execEnergyReport_kept (lantern : Nat) (s u : State) (h : execEnergyReport lantern s = .next u) : u.kept = s.kept := by
  unfold execEnergyReport at h
  cases h
  simp

theorem execEnergyAggregate_kept (lantern : Nat) (s u : State) (h : execEnergyAggregate lantern s = .next u) : u.kept = s.kept := by
  unfold execEnergyAggregate at h
  cases h
  simp

theorem execPolicyReport_kept (lantern : Nat) (s u : State) (h : execPolicyReport lantern s = .next u) : u.kept = s.kept := by
  unfold execPolicyReport at h
  cases h
  simp

theorem execFaultReport_kept (lantern : Nat) (s u : State) (h : execFaultReport lantern s = .next u) : u.kept = s.kept := by
  unfold execFaultReport at h
  cases h
  simp

theorem execFragmentInventory_kept (lantern : Nat) (s u : State) (h : execFragmentInventory lantern s = .next u) : u.kept = s.kept := by
  unfold execFragmentInventory at h
  cases h
  simp

theorem execChunkRequest_kept (lantern : Nat) (s u : State) (h : execChunkRequest lantern s = .next u) : u.kept = s.kept := by
  unfold execChunkRequest at h
  cases h
  simp

theorem execImageStatus_kept (lantern : Nat) (s u : State) (h : execImageStatus lantern s = .next u) : u.kept = s.kept := by
  unfold execImageStatus at h
  cases h
  simp

theorem execLeave_kept (lantern : Nat) (s u : State) (h : execLeave lantern s = .next u) : u.kept = s.kept := by
  unfold execLeave at h
  cases h
  simp

theorem execLampReport_kept (lantern : Nat) (s u : State) (h : execLampReport lantern s = .next u) : u.kept = s.kept := by
  unfold execLampReport at h
  cases h
  simp

theorem execKeyUpdateActivation_kept  (s u : State) (h : execKeyUpdateActivation  s = .next u) : u.kept = s.kept := by
  unfold execKeyUpdateActivation at h
  cases h
  simp

theorem execOldNetworkKeyExpiry_kept  (s u : State) (h : execOldNetworkKeyExpiry  s = .next u) : u.kept = s.kept := by
  unfold execOldNetworkKeyExpiry at h
  cases h
  (try dsimp only)
  (repeat' split)
  all_goals (try simp)

theorem execAnnexParentLost_kept (heard : Bool) (s u : State) (h : execAnnexParentLost heard s = .next u) : u.kept = s.kept := by
  unfold execAnnexParentLost at h
  cases h
  simp

theorem execSpanAutoStopTimer_kept  (s u : State) (h : execSpanAutoStopTimer  s = .next u) : u.kept = s.kept := by
  unfold execSpanAutoStopTimer at h
  cases h
  (try dsimp only)
  (repeat' split)
  all_goals (try simp)

theorem execPtpSync_kept (m : PtpSync) (s u : State) (h : execPtpSync m s = .next u) : u.kept = s.kept := by
  unfold execPtpSync at h
  cases h
  simp

theorem execPtpFollowUp_kept (m : PtpFollow) (s u : State) (h : execPtpFollowUp m s = .next u) : u.kept = s.kept := by
  unfold execPtpFollowUp at h
  cases h
  simp

theorem execPtpAnnounce_kept (m : PtpAnn) (s u : State) (h : execPtpAnnounce m s = .next u) : u.kept = s.kept := by
  unfold execPtpAnnounce at h
  cases h
  simp

theorem execPtpDelayResp_kept (m : PtpResp) (s u : State) (h : execPtpDelayResp m s = .next u) : u.kept = s.kept := by
  unfold execPtpDelayResp at h
  cases h
  simp

theorem execDelayReqTimer_kept  (s u : State) (h : execDelayReqTimer  s = .next u) : u.kept = s.kept := by
  unfold execDelayReqTimer at h
  cases h
  simp

theorem execAnnounceReceiptTimeout_kept  (s u : State) (h : execAnnounceReceiptTimeout  s = .next u) : u.kept = s.kept := by
  unfold execAnnounceReceiptTimeout at h
  cases h
  simp

theorem execSyncLossTimeout_kept  (s u : State) (h : execSyncLossTimeout  s = .next u) : u.kept = s.kept := by
  unfold execSyncLossTimeout at h
  cases h
  simp

theorem execPtpEventForward_kept (ingress : Nat) (stamp : Nat) (frame : Bytes) (s u : State) (h : execPtpEventForward ingress stamp frame s = .next u) : u.kept = s.kept := by
  unfold execPtpEventForward at h
  cases h
  simp

theorem execPpsInEdge_kept  (s u : State) (h : execPpsInEdge  s = .next u) : u.kept = s.kept := by
  unfold execPpsInEdge at h
  cases h
  simp

theorem execNmeaSentence_kept (text : NmeaIn) (s u : State) (h : execNmeaSentence text s = .next u) : u.kept = s.kept := by
  unfold execNmeaSentence at h
  cases h
  simp

theorem execGnssEdgeLoss_kept  (s u : State) (h : execGnssEdgeLoss  s = .next u) : u.kept = s.kept := by
  unfold execGnssEdgeLoss at h
  cases h
  simp

theorem execGnssLabelLoss_kept  (s u : State) (h : execGnssLabelLoss  s = .next u) : u.kept = s.kept := by
  unfold execGnssLabelLoss at h
  cases h
  simp

theorem execSourcePreferenceTimer_kept (source : Nat) (s u : State) (h : execSourcePreferenceTimer source s = .next u) : u.kept = s.kept := by
  unfold execSourcePreferenceTimer at h
  cases h
  simp

theorem execSlewEnd_kept  (s u : State) (h : execSlewEnd  s = .next u) : u.kept = s.kept := by
  unfold execSlewEnd at h
  cases h
  (try dsimp only)
  (repeat' split)
  all_goals (try simp)

theorem execWholeSecond_kept  (s u : State) (h : execWholeSecond  s = .next u) : u.kept = s.kept := by
  unfold execWholeSecond at h
  cases h
  simp

theorem execLeapSecond_kept  (s u : State) (h : execLeapSecond  s = .next u) : u.kept = s.kept := by
  unfold execLeapSecond at h
  cases h
  simp

theorem execTimeExchangeTimer_kept  (s u : State) (h : execTimeExchangeTimer  s = .next u) : u.kept = s.kept := by
  unfold execTimeExchangeTimer at h
  cases h
  simp

theorem execRtcAlarmMatch_kept  (s u : State) (h : execRtcAlarmMatch  s = .next u) : u.kept = s.kept := by
  unfold execRtcAlarmMatch at h
  cases h
  simp

theorem execRtcTrimAccumulate_kept  (s u : State) (h : execRtcTrimAccumulate  s = .next u) : u.kept = s.kept := by
  unfold execRtcTrimAccumulate at h
  cases h
  simp

theorem execRtcTempCompensation_kept (correction : Int) (s u : State) (h : execRtcTempCompensation correction s = .next u) : u.kept = s.kept := by
  unfold execRtcTempCompensation at h
  cases h
  simp

theorem execRtcTrimLearn_kept  (s u : State) (h : execRtcTrimLearn  s = .next u) : u.kept = s.kept := by
  unfold execRtcTrimLearn at h
  cases h
  simp

theorem execVaultScrub_kept (result : Nat) (s u : State) (h : execVaultScrub result s = .next u) : u.kept = s.kept := by
  unfold execVaultScrub at h
  cases h
  simp

theorem execFallbackMinute_kept  (s u : State) (h : execFallbackMinute  s = .next u) : u.kept = s.kept := by
  unfold execFallbackMinute at h
  cases h
  simp

theorem execFallbackKeepaliveRenew_kept  (s u : State) (h : execFallbackKeepaliveRenew  s = .next u) : u.kept = s.kept := by
  unfold execFallbackKeepaliveRenew at h
  cases h
  simp

theorem execFallbackKeepaliveExpiry_kept  (s u : State) (h : execFallbackKeepaliveExpiry  s = .next u) : u.kept = s.kept := by
  unfold execFallbackKeepaliveExpiry at h
  cases h
  (try dsimp only)
  (repeat' split)
  all_goals (try simp)

theorem execMeterSecondClose_kept (edges : List Nat) (s u : State) (h : execMeterSecondClose edges s = .next u) : u.kept = s.kept := by
  unfold execMeterSecondClose at h
  cases h
  simp

theorem execLineZeroCrossing_kept (phase : Nat) (edges : List Nat) (s u : State) (h : execLineZeroCrossing phase edges s = .next u) : u.kept = s.kept := by
  unfold execLineZeroCrossing at h
  cases h
  simp

theorem execRoutingTimeout_kept (phase : Nat) (edges : List Nat) (s u : State) (h : execRoutingTimeout phase edges s = .next u) : u.kept = s.kept := by
  unfold execRoutingTimeout at h
  cases h
  simp

theorem execModClkGap_kept  (s u : State) (h : execModClkGap  s = .next u) : u.kept = s.kept := by
  unfold execModClkGap at h
  cases h
  simp

theorem execPfailFall_kept  (s u : State) (h : execPfailFall  s = .next u) : u.kept = s.kept := by
  unfold execPfailFall at h
  cases h
  simp

theorem execPfailRise_kept  (s u : State) (h : execPfailRise  s = .next u) : u.kept = s.kept := by
  unfold execPfailRise at h
  cases h
  simp

theorem execPoutPulsePhaseEnd_kept (output : Nat) (s u : State) (h : execPoutPulsePhaseEnd output s = .next u) : u.kept = s.kept := by
  unfold execPoutPulsePhaseEnd at h
  cases h
  (try dsimp only)
  (repeat' split)
  all_goals (try simp)

theorem execPinEdge_kept (input : Nat) (level : Bool) (s u : State) (h : execPinEdge input level s = .next u) : u.kept = s.kept := by
  unfold execPinEdge at h
  cases h
  (try dsimp only)
  (repeat' split)
  all_goals (try simp)

theorem execPinDebounceExpiry_kept (input : Nat) (s u : State) (h : execPinDebounceExpiry input s = .next u) : u.kept = s.kept := by
  unfold execPinDebounceExpiry at h
  cases h
  (try dsimp only)
  (repeat' split)
  all_goals (try simp)

theorem execReconcileWindow_kept  (s u : State) (h : execReconcileWindow  s = .next u) : u.kept = s.kept := by
  unfold execReconcileWindow at h
  cases h
  (try dsimp only)
  (repeat' split)
  all_goals (try simp)

theorem execStandbyMeterWindow_kept  (s u : State) (h : execStandbyMeterWindow  s = .next u) : u.kept = s.kept := by
  unfold execStandbyMeterWindow at h
  cases h
  simp

theorem execTwinHello_kept (f : LinkIn) (s u : State) (h : execTwinHello f s = .next u) : u.kept = s.kept := by
  unfold execTwinHello at h
  cases h
  simp

theorem execHeartbeat_kept (f : LinkIn) (s u : State) (h : execHeartbeat f s = .next u) : u.kept = s.kept := by
  unfold execHeartbeat at h
  cases h
  simp

theorem execRenew_kept (f : LinkIn) (s u : State) (h : execRenew f s = .next u) : u.kept = s.kept := by
  unfold execRenew at h
  cases h
  simp

theorem execCopy_kept (f : LinkIn) (s u : State) (h : execCopy f s = .next u) : u.kept = s.kept := by
  unfold execCopy at h
  cases h
  simp

theorem execCopyEnd_kept (f : LinkIn) (s u : State) (h : execCopyEnd f s = .next u) : u.kept = s.kept := by
  unfold execCopyEnd at h
  cases h
  simp

theorem execCopyAck_kept (f : LinkIn) (s u : State) (h : execCopyAck f s = .next u) : u.kept = s.kept := by
  unfold execCopyAck at h
  cases h
  simp

theorem execTwinTime_kept (f : LinkIn) (s u : State) (h : execTwinTime f s = .next u) : u.kept = s.kept := by
  unfold execTwinTime at h
  cases h
  simp

theorem execTimeEcho_kept (f : LinkIn) (s u : State) (h : execTimeEcho f s = .next u) : u.kept = s.kept := by
  unfold execTimeEcho at h
  cases h
  simp

theorem execEchoFeed_kept (f : LinkIn) (s u : State) (h : execEchoFeed f s = .next u) : u.kept = s.kept := by
  unfold execEchoFeed at h
  cases h
  simp

theorem execEchoResult_kept (f : LinkIn) (s u : State) (h : execEchoResult f s = .next u) : u.kept = s.kept := by
  unfold execEchoResult at h
  cases h
  simp

theorem execJournal_kept (f : LinkIn) (s u : State) (h : execJournal f s = .next u) : u.kept = s.kept := by
  unfold execJournal at h
  cases h
  simp

theorem execJournalAck_kept (f : LinkIn) (s u : State) (h : execJournalAck f s = .next u) : u.kept = s.kept := by
  unfold execJournalAck at h
  cases h
  simp

theorem execHealth_kept (f : LinkIn) (s u : State) (h : execHealth f s = .next u) : u.kept = s.kept := by
  unfold execHealth at h
  cases h
  simp

theorem execNak_kept (f : LinkIn) (s u : State) (h : execNak f s = .next u) : u.kept = s.kept := by
  unfold execNak at h
  cases h
  simp

theorem execTwinFrameBad_kept  (s u : State) (h : execTwinFrameBad  s = .next u) : u.kept = s.kept := by
  unfold execTwinFrameBad at h
  cases h
  simp

theorem execTwinLinkDownTimeout_kept  (s u : State) (h : execTwinLinkDownTimeout  s = .next u) : u.kept = s.kept := by
  unfold execTwinLinkDownTimeout at h
  cases h
  simp

theorem execTwinHelloTimer_kept  (s u : State) (h : execTwinHelloTimer  s = .next u) : u.kept = s.kept := by
  unfold execTwinHelloTimer at h
  cases h
  simp

theorem execHeartbeatTimer_kept  (s u : State) (h : execHeartbeatTimer  s = .next u) : u.kept = s.kept := by
  unfold execHeartbeatTimer at h
  cases h
  simp

theorem execLeaseInAssert_kept  (s u : State) (h : execLeaseInAssert  s = .next u) : u.kept = s.kept := by
  unfold execLeaseInAssert at h
  cases h
  simp

theorem execLeaseInDeassert_kept  (s u : State) (h : execLeaseInDeassert  s = .next u) : u.kept = s.kept := by
  unfold execLeaseInDeassert at h
  cases h
  simp

theorem execInterlockOpen_kept  (s u : State) (h : execInterlockOpen  s = .next u) : u.kept = s.kept := by
  unfold execInterlockOpen at h
  cases h
  simp

theorem execLeaseExpiryTake_kept  (s u : State) (h : execLeaseExpiryTake  s = .next u) : u.kept = s.kept := by
  unfold execLeaseExpiryTake at h
  cases h
  simp

theorem execLoneStartTimer_kept  (s u : State) (h : execLoneStartTimer  s = .next u) : u.kept = s.kept := by
  unfold execLoneStartTimer at h
  cases h
  simp

theorem execConflictBackoffTimer_kept  (s u : State) (h : execConflictBackoffTimer  s = .next u) : u.kept = s.kept := by
  unfold execConflictBackoffTimer at h
  cases h
  (try dsimp only)
  (repeat' split)
  all_goals (try simp)

theorem execHealthYieldTimer_kept  (s u : State) (h : execHealthYieldTimer  s = .next u) : u.kept = s.kept := by
  unfold execHealthYieldTimer at h
  cases h
  simp

theorem execCopyStale_kept  (s u : State) (h : execCopyStale  s = .next u) : u.kept = s.kept := by
  unfold execCopyStale at h
  cases h
  simp

theorem execPowerEvaluation_kept  (s u : State) (h : execPowerEvaluation  s = .next u) : u.kept = s.kept := by
  unfold execPowerEvaluation at h
  cases h
  simp

theorem execPmicAck_kept (nack : Bool) (pgood : Bool) (status : Nat) (s u : State) (h : execPmicAck nack pgood status s = .next u) : u.kept = s.kept := by
  unfold execPmicAck at h
  cases h
  simp

theorem execPmicAckTimeout_kept  (s u : State) (h : execPmicAckTimeout  s = .next u) : u.kept = s.kept := by
  unfold execPmicAckTimeout at h
  cases h
  simp

theorem execPmbusRetryTimer_kept  (s u : State) (h : execPmbusRetryTimer  s = .next u) : u.kept = s.kept := by
  unfold execPmbusRetryTimer at h
  cases h
  (try dsimp only)
  (repeat' split)
  all_goals (try simp)

theorem execWake_kept (cause : Nat) (s u : State) (h : execWake cause s = .next u) : u.kept = s.kept := by
  unfold execWake at h
  cases h
  simp

theorem execKnownEventTimer_kept  (s u : State) (h : execKnownEventTimer  s = .next u) : u.kept = s.kept := by
  unfold execKnownEventTimer at h
  cases h
  (try dsimp only)
  (repeat' split)
  all_goals (try simp)

theorem execThermalSensorChange_kept (celsius : Int) (s u : State) (h : execThermalSensorChange celsius s = .next u) : u.kept = s.kept := by
  unfold execThermalSensorChange at h
  cases h
  simp

theorem execPmAlert_kept (status : Nat) (s u : State) (h : execPmAlert status s = .next u) : u.kept = s.kept := by
  unfold execPmAlert at h
  cases h
  simp

theorem execPmPgoodFall_kept  (s u : State) (h : execPmPgoodFall  s = .next u) : u.kept = s.kept := by
  unfold execPmPgoodFall at h
  cases h
  simp

theorem execEthLinkPoll_kept (a : Bool) (b : Bool) (s u : State) (h : execEthLinkPoll a b s = .next u) : u.kept = s.kept := by
  unfold execEthLinkPoll at h
  cases h
  simp

theorem execCheckinWindowEnd_kept  (s u : State) (h : execCheckinWindowEnd  s = .next u) : u.kept = s.kept := by
  unfold execCheckinWindowEnd at h
  cases h
  (try dsimp only)
  (repeat' split)
  all_goals (try simp)

theorem execJointDelivery_kept (joint : Nat) (s u : State) (h : execJointDelivery joint s = .next u) : u.kept = s.kept := by
  unfold execJointDelivery at h
  cases h
  simp

theorem execJointSideReset_kept (joint : Nat) (s u : State) (h : execJointSideReset joint s = .next u) : u.kept = s.kept := by
  unfold execJointSideReset at h
  cases h
  simp

theorem execFaultRaised_kept (source : Nat) (cls : Nat) (payload : Bytes) (s u : State) (h : execFaultRaised source cls payload s = .next u) : u.kept = s.kept := by
  unfold execFaultRaised at h
  cases h
  simp

theorem execFaultInjection_kept  (s u : State) (h : execFaultInjection  s = .next u) : u.kept = s.kept := by
  unfold execFaultInjection at h
  cases h
  (try dsimp only)
  (repeat' split)
  all_goals (try simp)

theorem execUcEscalation_kept  (s u : State) (h : execUcEscalation  s = .next u) : u.kept = s.kept := by
  unfold execUcEscalation at h
  cases h
  (try dsimp only)
  (repeat' split)
  all_goals (try simp)

theorem execFirmwareFaultAck_kept (source : Nat) (s u : State) (h : execFirmwareFaultAck source s = .next u) : u.kept = s.kept := by
  unfold execFirmwareFaultAck at h
  cases h
  (try dsimp only)
  (repeat' split)
  all_goals (try simp)

theorem execWatchdogExpiry_kept (core : Nat) (s u : State) (h : execWatchdogExpiry core s = .next u) : u.kept = s.kept := by
  unfold execWatchdogExpiry at h
  cases h
  (try dsimp only)
  (repeat' split)
  all_goals (try simp)

theorem execEventPageCopy_kept  (s u : State) (h : execEventPageCopy  s = .next u) : u.kept = s.kept := by
  unfold execEventPageCopy at h
  cases h
  simp

theorem execEventLogEraseDone_kept  (s u : State) (h : execEventLogEraseDone  s = .next u) : u.kept = s.kept := by
  unfold execEventLogEraseDone at h
  cases h
  simp

theorem execRateBucketRefill_kept (code : Nat) (s u : State) (h : execRateBucketRefill code s = .next u) : u.kept = s.kept := by
  unfold execRateBucketRefill at h
  cases h
  (try dsimp only)
  (repeat' split)
  all_goals (try simp)

theorem execTamperCondition_kept (source : Nat) (s u : State) (h : execTamperCondition source s = .next u) : u.kept = s.kept := by
  unfold execTamperCondition at h
  cases h
  simp

theorem execTamper0DebounceExpiry_kept  (s u : State) (h : execTamper0DebounceExpiry  s = .next u) : u.kept = s.kept := by
  unfold execTamper0DebounceExpiry at h
  cases h
  simp

theorem execGuardLfsrAdvance_kept  (s u : State) (h : execGuardLfsrAdvance  s = .next u) : u.kept = s.kept := by
  unfold execGuardLfsrAdvance at h
  cases h
  simp

theorem execGuardSample_kept (level : Bool) (s u : State) (h : execGuardSample level s = .next u) : u.kept = s.kept := by
  unfold execGuardSample at h
  cases h
  simp

theorem execVbatLowTimer_kept  (s u : State) (h : execVbatLowTimer  s = .next u) : u.kept = s.kept := by
  unfold execVbatLowTimer at h
  cases h
  simp

theorem execTamperRearmTimer_kept (source : Nat) (s u : State) (h : execTamperRearmTimer source s = .next u) : u.kept = s.kept := by
  unfold execTamperRearmTimer at h
  cases h
  simp

theorem execUpdateSectorErased_kept  (s u : State) (h : execUpdateSectorErased  s = .next u) : u.kept = s.kept := by
  unfold execUpdateSectorErased at h
  cases h
  simp

theorem execUpdateVerifyDone_kept  (s u : State) (h : execUpdateVerifyDone  s = .next u) : u.kept = s.kept := by
  unfold execUpdateVerifyDone at h
  cases h
  simp

theorem execUpdateJournalExpiry_kept  (s u : State) (h : execUpdateJournalExpiry  s = .next u) : u.kept = s.kept := by
  unfold execUpdateJournalExpiry at h
  cases h
  (try dsimp only)
  (repeat' split)
  all_goals (try simp)

theorem execRecoveryHelloTimer_kept  (s u : State) (h : execRecoveryHelloTimer  s = .next u) : u.kept = s.kept := by
  unfold execRecoveryHelloTimer at h
  cases h
  simp

theorem execRecoveryBegin_kept (frame : Bytes) (s u : State) (h : execRecoveryBegin frame s = .next u) : u.kept = s.kept := by
  unfold execRecoveryBegin at h
  cases h
  simp

theorem execRecoveryData_kept (frame : Bytes) (s u : State) (h : execRecoveryData frame s = .next u) : u.kept = s.kept := by
  unfold execRecoveryData at h
  cases h
  simp

theorem execRecoveryBoot_kept (frame : Bytes) (s u : State) (h : execRecoveryBoot frame s = .next u) : u.kept = s.kept := by
  unfold execRecoveryBoot at h
  cases h
  simp

theorem execSelftestSweepStart_kept  (s u : State) (h : execSelftestSweepStart  s = .next u) : u.kept = s.kept := by
  unfold execSelftestSweepStart at h
  cases h
  (try dsimp only)
  (repeat' split)
  all_goals (try simp)

theorem execSelftestSliceStart_kept (r : SliceIn) (s u : State) (h : execSelftestSliceStart r s = .next u) : u.kept = s.kept := by
  unfold execSelftestSliceStart at h
  cases h
  simp

theorem execScanRequest_kept  (s u : State) (h : execScanRequest  s = .next u) : u.kept = s.kept := by
  unfold execScanRequest at h
  cases h
  simp

theorem execPlacementEvaluation_kept  (s u : State) (h : execPlacementEvaluation  s = .next u) : u.kept = s.kept := by
  unfold execPlacementEvaluation at h
  cases h
  simp

theorem execDayTableRefresh_kept (policy : Nat) (site : Nat) (s u : State) (h : execDayTableRefresh policy site s = .next u) : u.kept = s.kept := by
  unfold execDayTableRefresh at h
  cases h
  (try dsimp only)
  (repeat' split)
  all_goals (try simp)

theorem execSpanPolicyTrigger_kept (policy : Nat) (s u : State) (h : execSpanPolicyTrigger policy s = .next u) : u.kept = s.kept := by
  unfold execSpanPolicyTrigger at h
  cases h
  simp

theorem execClaimHoldExpiry_kept (output : Nat) (policy : Nat) (s u : State) (h : execClaimHoldExpiry output policy s = .next u) : u.kept = s.kept := by
  unfold execClaimHoldExpiry at h
  cases h
  simp

theorem execPolicyValidityEnd_kept (policy : Nat) (s u : State) (h : execPolicyValidityEnd policy s = .next u) : u.kept = s.kept := by
  unfold execPolicyValidityEnd at h
  cases h
  (try dsimp only)
  (repeat' split)
  all_goals (try simp)

theorem execPlacementHoldEnd_kept  (s u : State) (h : execPlacementHoldEnd  s = .next u) : u.kept = s.kept := by
  unfold execPlacementHoldEnd at h
  cases h
  (try dsimp only)
  (repeat' split)
  all_goals (try simp)

theorem execSubscriptionExpiry_kept (number : Nat) (s u : State) (h : execSubscriptionExpiry number s = .next u) : u.kept = s.kept := by
  unfold execSubscriptionExpiry at h
  cases h
  simp

theorem execLampPeriodStart_kept (output : Nat) (s u : State) (h : execLampPeriodStart output s = .next u) : u.kept = s.kept := by
  unfold execLampPeriodStart at h
  cases h
  simp

theorem execFadeStep_kept (output : Nat) (s u : State) (h : execFadeStep output s = .next u) : u.kept = s.kept := by
  unfold execFadeStep at h
  cases h
  (try dsimp only)
  (repeat' split)
  all_goals (try simp)

theorem execLocalApplyTime_kept  (s u : State) (h : execLocalApplyTime  s = .next u) : u.kept = s.kept := by
  unfold execLocalApplyTime at h
  cases h
  simp

theorem execLdFaultFall_kept  (s u : State) (h : execLdFaultFall  s = .next u) : u.kept = s.kept := by
  unfold execLdFaultFall at h
  cases h
  simp

theorem execLdFaultFilterExpiry_kept  (s u : State) (h : execLdFaultFilterExpiry  s = .next u) : u.kept = s.kept := by
  unfold execLdFaultFilterExpiry at h
  cases h
  simp

theorem execLdFaultRise_kept  (s u : State) (h : execLdFaultRise  s = .next u) : u.kept = s.kept := by
  unfold execLdFaultRise at h
  cases h
  simp

theorem execLdFaultRetryTimer_kept  (s u : State) (h : execLdFaultRetryTimer  s = .next u) : u.kept = s.kept := by
  unfold execLdFaultRetryTimer at h
  cases h
  (try dsimp only)
  (repeat' split)
  all_goals (try simp)

theorem execResetNRelease_kept (recoveryLow : Bool) (s u : State) (h : execResetNRelease recoveryLow s = .next u) : u.kept = s.kept := by
  unfold execResetNRelease at h
  cases h
  simp

theorem execPowerOnReset_kept  (s u : State) (h : execPowerOnReset  s = .next u) : u.kept = s.kept := by
  unfold execPowerOnReset at h
  cases h
  simp

theorem execBootSequence_kept (e : BootEnv) (s u : State) (h : execBootSequence e s = .next u) : u.kept = s.kept := by
  unfold execBootSequence at h
  cases h
  simp

theorem execPmicStartupRetry_kept (e : BootEnv) (s u : State) (h : execPmicStartupRetry e s = .next u) : u.kept = s.kept := by
  unfold execPmicStartupRetry at h
  cases h
  simp

theorem execIoBankChange_kept (bank : Nat) (mode : Nat) (s u : State) (h : execIoBankChange bank mode s = .next u) : u.kept = s.kept := by
  unfold execIoBankChange at h
  cases h
  (try dsimp only)
  (repeat' split)
  all_goals (try simp)

theorem execMeshReassemblyTimeout_kept (src : Nat) (s u : State) (h : execMeshReassemblyTimeout src s = .next u) : u.kept = s.kept := by
  unfold execMeshReassemblyTimeout at h
  cases h
  simp

theorem execModClkReturn_kept (edges : List Nat) (s u : State) (h : execModClkReturn edges s = .next u) : u.kept = s.kept := by
  unfold execModClkReturn at h
  cases h
  simp

theorem execWatchdogRenewal_kept (core : Nat) (s u : State) (h : execWatchdogRenewal core s = .next u) : u.kept = s.kept := by
  unfold execWatchdogRenewal at h
  cases h
  simp

theorem execTamper0Edge_kept (level : Bool) (s u : State) (h : execTamper0Edge level s = .next u) : u.kept = s.kept := by
  unfold execTamper0Edge at h
  cases h
  simp

theorem execTamperConditionEnd_kept (source : Nat) (s u : State) (h : execTamperConditionEnd source s = .next u) : u.kept = s.kept := by
  unfold execTamperConditionEnd at h
  cases h
  simp


end Sys2Proof.Machine
end

