-- ==== Sys2Proof/Laws/Ops.lean ====
section
/-! SUPPORT. What the shared operations of a command do, each said once: a command whose turn has come executes, one whose dependency
failed completes without executing, one whose turn has not come changes nothing. And what an HSPI transaction does. -/

namespace Sys2Proof.Machine

-- One proof at a time: so many short proofs in parallel each hold a thread and its stack.
set_option Elab.async false

/-- R73: a command whose turn has come executes its body in the state `begun`. -/
theorem runCmd_turn {op sid tag : Nat} {c : LiveCmd} {s : State} (body : LiveCmd → State → State) (h : Turn op sid tag c s) :
    runCmd op sid tag body s = body c (begun c s) := by
  obtain ⟨h1, h2⟩ := h
  simp only [runCmd, h1]
  split
  · rename_i st hs
    rw [if_pos (h2 st hs)]
    rfl
  · rfl

/-- R74: with a failed dependency the command completes with DEPENDENCY_FAILED and does not execute. -/
theorem runCmd_dependency {op sid tag st : Nat} {c : LiveCmd} {s : State} (body : LiveCmd → State → State)
    (h : readyCmd op sid tag s = some c) (hd : c.dep = .status st) (hs : success st = false) :
    runCmd op sid tag body s = complete c stDependencyFailed dNone [] (toRun s) := by
  simp [runCmd, h, hd, hs, fail]

/-- A command whose turn has not come stays as it is. -/
theorem runCmd_waits {op sid tag : Nat} {s : State} (body : LiveCmd → State → State) (h : readyCmd op sid tag s = none) :
    runCmd op sid tag body s = s := by
  simp [runCmd, h]

/-! A command that begins leaves everything alone but its own mark and the power state. -/

@[simp] theorem toRun_now (s : State) : (toRun s).now = s.now := by unfold toRun; split <;> rfl
@[simp] theorem toRun_time (s : State) : (toRun s).time = s.time := by unfold toRun; split <;> rfl
@[simp] theorem toRun_rtc (s : State) : (toRun s).rtc = s.rtc := by unfold toRun; split <;> rfl
@[simp] theorem toRun_fb (s : State) : (toRun s).fb = s.fb := by unfold toRun; split <;> rfl
@[simp] theorem toRun_set (s : State) : (toRun s).set = s.set := by unfold toRun; split <;> rfl
@[simp] theorem toRun_par (s : State) : (toRun s).par = s.par := by unfold toRun; split <;> rfl
@[simp] theorem toRun_joints (s : State) : (toRun s).joints = s.joints := by unfold toRun; split <;> rfl
@[simp] theorem toRun_mac (s : State) : (toRun s).mac = s.mac := by unfold toRun; split <;> rfl
@[simp] theorem toRun_truss (s : State) : (toRun s).truss = s.truss := by unfold toRun; split <;> rfl
@[simp] theorem toRun_lamp (s : State) : (toRun s).lamp = s.lamp := by unfold toRun; split <;> rfl
@[simp] theorem toRun_meter (s : State) : (toRun s).meter = s.meter := by unfold toRun; split <;> rfl
@[simp] theorem toRun_twin (s : State) : (toRun s).twin = s.twin := by unfold toRun; split <;> rfl
@[simp] theorem toRun_otp (s : State) : (toRun s).otp = s.otp := by unfold toRun; split <;> rfl
@[simp] theorem toRun_sec (s : State) : (toRun s).sec = s.sec := by unfold toRun; split <;> rfl
@[simp] theorem toRun_upd (s : State) : (toRun s).upd = s.upd := by unfold toRun; split <;> rfl
@[simp] theorem toRun_bist (s : State) : (toRun s).bist = s.bist := by unfold toRun; split <;> rfl
@[simp] theorem toRun_boot (s : State) : (toRun s).boot = s.boot := by unfold toRun; split <;> rfl
@[simp] theorem toRun_out (s : State) : (toRun s).out = s.out := by unfold toRun; split <;> rfl
@[simp] theorem toRun_pending (s : State) : (toRun s).pending = s.pending := by unfold toRun; split <;> rfl
@[simp] theorem toRun_freeIdx (s : State) : (toRun s).freeIdx = s.freeIdx := by unfold toRun; split <;> rfl
@[simp] theorem toRun_host (s : State) : (toRun s).host = s.host := by unfold toRun; split <;> rfl
@[simp] theorem begun_now (c : LiveCmd) (s : State) : (begun c s).now = s.now := by
  have h : (begun c s).now = (toRun s).now := rfl
  rw [h, toRun_now]
@[simp] theorem begun_time (c : LiveCmd) (s : State) : (begun c s).time = s.time := by
  have h : (begun c s).time = (toRun s).time := rfl
  rw [h, toRun_time]
@[simp] theorem begun_rtc (c : LiveCmd) (s : State) : (begun c s).rtc = s.rtc := by
  have h : (begun c s).rtc = (toRun s).rtc := rfl
  rw [h, toRun_rtc]
@[simp] theorem begun_fb (c : LiveCmd) (s : State) : (begun c s).fb = s.fb := by
  have h : (begun c s).fb = (toRun s).fb := rfl
  rw [h, toRun_fb]
@[simp] theorem begun_set (c : LiveCmd) (s : State) : (begun c s).set = s.set := by
  have h : (begun c s).set = (toRun s).set := rfl
  rw [h, toRun_set]
@[simp] theorem begun_par (c : LiveCmd) (s : State) : (begun c s).par = s.par := by
  have h : (begun c s).par = (toRun s).par := rfl
  rw [h, toRun_par]
@[simp] theorem begun_joints (c : LiveCmd) (s : State) : (begun c s).joints = s.joints := by
  have h : (begun c s).joints = (toRun s).joints := rfl
  rw [h, toRun_joints]
@[simp] theorem begun_mac (c : LiveCmd) (s : State) : (begun c s).mac = s.mac := by
  have h : (begun c s).mac = (toRun s).mac := rfl
  rw [h, toRun_mac]
@[simp] theorem begun_truss (c : LiveCmd) (s : State) : (begun c s).truss = s.truss := by
  have h : (begun c s).truss = (toRun s).truss := rfl
  rw [h, toRun_truss]
@[simp] theorem begun_lamp (c : LiveCmd) (s : State) : (begun c s).lamp = s.lamp := by
  have h : (begun c s).lamp = (toRun s).lamp := rfl
  rw [h, toRun_lamp]
@[simp] theorem begun_meter (c : LiveCmd) (s : State) : (begun c s).meter = s.meter := by
  have h : (begun c s).meter = (toRun s).meter := rfl
  rw [h, toRun_meter]
@[simp] theorem begun_twin (c : LiveCmd) (s : State) : (begun c s).twin = s.twin := by
  have h : (begun c s).twin = (toRun s).twin := rfl
  rw [h, toRun_twin]
@[simp] theorem begun_otp (c : LiveCmd) (s : State) : (begun c s).otp = s.otp := by
  have h : (begun c s).otp = (toRun s).otp := rfl
  rw [h, toRun_otp]
@[simp] theorem begun_sec (c : LiveCmd) (s : State) : (begun c s).sec = s.sec := by
  have h : (begun c s).sec = (toRun s).sec := rfl
  rw [h, toRun_sec]
@[simp] theorem begun_upd (c : LiveCmd) (s : State) : (begun c s).upd = s.upd := by
  have h : (begun c s).upd = (toRun s).upd := rfl
  rw [h, toRun_upd]
@[simp] theorem begun_bist (c : LiveCmd) (s : State) : (begun c s).bist = s.bist := by
  have h : (begun c s).bist = (toRun s).bist := rfl
  rw [h, toRun_bist]
@[simp] theorem begun_boot (c : LiveCmd) (s : State) : (begun c s).boot = s.boot := by
  have h : (begun c s).boot = (toRun s).boot := rfl
  rw [h, toRun_boot]
@[simp] theorem begun_out (c : LiveCmd) (s : State) : (begun c s).out = s.out := by
  have h : (begun c s).out = (toRun s).out := rfl
  rw [h, toRun_out]
@[simp] theorem begun_pending (c : LiveCmd) (s : State) : (begun c s).pending = s.pending := by
  have h : (begun c s).pending = (toRun s).pending := rfl
  rw [h, toRun_pending]
@[simp] theorem begun_freeIdx (c : LiveCmd) (s : State) : (begun c s).freeIdx = s.freeIdx := by
  have h : (begun c s).freeIdx = (toRun s).freeIdx := rfl
  rw [h, toRun_freeIdx]
@[simp] theorem begun_live (c : LiveCmd) (s : State) (id : Nat) : (begun c s).live id = s.live id := by
  simp [State.live, settingReset]
@[simp] theorem begun_sessions (c : LiveCmd) (s : State) : (begun c s).host.sessions = s.host.sessions := by
  have h : (begun c s).host.sessions = (toRun s).host.sessions := rfl
  rw [h, toRun_host]
@[simp] theorem begun_session (c : LiveCmd) (s : State) (n : Nat) : (begun c s).session n = s.session n := by
  simp [State.session]

/-! The transactions of HSPI. -/

/-- Four little-endian bytes spell the word they were taken from. -/
theorem le4_word (w : Word32) : BitVec.ofNat 32 (leNat (le 4 w.toNat)) = w := by
  apply BitVec.eq_of_toNat_eq
  have := w.isLt
  simp [le, leNat, byte]
  omega

/-- A write of one word to a register (R57). -/
theorem hspiBytes_write (offset : Nat) (w : Word32) (s : State) (h : isReg offset = true) :
    hspiBytes ([0x02, byte offset] ++ le 4 w.toNat) s = (writeReg offset w s, []) := by
  have hb : offset < 32 := by simp [isReg] at h; exact h.1
  have e1 : fld ([0x02, byte offset] ++ le 4 w.toNat) 0 1 = 2 := by simp [fld, sub, leNat]
  have e2 : fld ([0x02, byte offset] ++ le 4 w.toNat) 1 1 = offset := by simp [fld, sub, leNat, byte]; omega
  have e3 : BitVec.ofNat 32 (leNat ((le 4 w.toNat).take 4)) = w := by simpa [le] using le4_word w
  have e4 : (([0x02, byte offset] ++ le 4 w.toNat).length) = 6 := by simp [le]
  unfold hspiBytes
  simp only [e1, e2, e4, h]
  simp [writeGroups, e3]
  simp [le]

/-- A write row on a good VIO_N bank: the register takes the word, after the wake. -/
theorem hspiWrite_reg (offset : Nat) (w : Word32) (s : State) (h : isReg offset = true) :
    hspiWrite offset w s = onBank 1 (fun s => (writeReg offset w (wakeUp 5 s)).modOut (fun o => { o with hspi := o.hspi ++ [[]] })) s := by
  simp only [hspiWrite, hspi, hspiTransaction, hspiBytes_write _ _ _ h]

/-- A read of WIN_OUT pops one word and drives it (R57, R60). -/
theorem hspi_pop (s : State) : hspi (hspiTransaction ([0x0B, 0x0C] ++ zeros 5)) s =
    onBank 1 (fun s => let t := popWord (wakeUp 5 s)
      t.modOut (fun o => { o with hspi := o.hspi ++ [le 4 t.host.win.lastPop.toNat] })) s := by
  simp [hspi, hspiTransaction, hspiBytes, zeros, fld, sub, leNat, isReg, readGroups, readReg]

/-- R56: any other transaction is ignored with HSPI_MISO low. -/
theorem hspi_ignored (mosi : Bytes) (s : State)
    (h : mosi.length < 2 ∨ isReg (fld mosi 1 1) = false ∨ (fld mosi 0 1 ≠ 2 ∧ fld mosi 0 1 ≠ 3 ∧ fld mosi 0 1 ≠ 0x0B)) :
    hspi (hspiTransaction mosi) s =
      onBank 1 (fun s => (wakeUp 5 s).modOut (fun o => { o with hspi := o.hspi ++ [zeros mosi.length] })) s := by
  have e : ∀ s, hspiBytes mosi s = (s, zeros mosi.length) := by
    intro s; unfold hspiBytes; dsimp only; split
    · rfl
    · rename_i g; simp only [not_or, Bool.not_eq_true', Bool.not_eq_false] at g
      obtain h | h | ⟨h1, h2, h3⟩ := h
      · exact absurd h g.1
      · rw [h] at g; exact absurd g.2 (by decide)
      · rw [if_neg h1, if_neg h2, if_neg h3]
  simp [hspi, hspiTransaction, e]

end Sys2Proof.Machine
end

