-- ==== Sys2Proof/Laws/Settings.lean ====
section
/-! SUPPORT. Settings: what putting a value into effect leaves alone, and what the live values, the shadows and the pending sets are after a
write and after a commit boundary. -/

namespace Sys2Proof.Machine

set_option Elab.async false

/-- What putting a setting into effect leaves alone. -/
def State.keptQ (s : State) : Nat × SettingsSt × TrussSt × Otp × UpdateSt × SelfTestSt × BootSt × List Instr × Nat :=
  (s.now, s.set, s.truss, s.otp, s.upd, s.bist, s.boot, s.pending, s.freeIdx)

@[simp] theorem keptQ_modRtc (s : State) (f) : (s.modRtc f).keptQ = s.keptQ := by have h : (s.modRtc f).keptQ = s.keptQ := rfl; exact h
@[simp] theorem keptQ_modOut (s : State) (f) : (s.modOut f).keptQ = s.keptQ := by have h : (s.modOut f).keptQ = s.keptQ := rfl; exact h
@[simp] theorem keptQ_modPwr (s : State) (f) : (s.modPwr f).keptQ = s.keptQ := by have h : (s.modPwr f).keptQ = s.keptQ := rfl; exact h
@[simp] theorem keptQ_modTime (s : State) (f) : (s.modTime f).keptQ = s.keptQ := by have h : (s.modTime f).keptQ = s.keptQ := rfl; exact h
@[simp] theorem keptQ_modSec (s : State) (f) : (s.modSec f).keptQ = s.keptQ := by have h : (s.modSec f).keptQ = s.keptQ := rfl; exact h
@[simp] theorem keptQ_modLamp (s : State) (f) : (s.modLamp f).keptQ = s.keptQ := by have h : (s.modLamp f).keptQ = s.keptQ := rfl; exact h
@[simp] theorem keptQ_modHost (s : State) (f) : (s.modHost f).keptQ = s.keptQ := by have h : (s.modHost f).keptQ = s.keptQ := rfl; exact h
@[simp] theorem keptQ_modPar (s : State) (f) : (s.modPar f).keptQ = s.keptQ := by have h : (s.modPar f).keptQ = s.keptQ := rfl; exact h
@[simp] theorem keptQ_modMac (s : State) (f) : (s.modMac f).keptQ = s.keptQ := by have h : (s.modMac f).keptQ = s.keptQ := rfl; exact h
@[simp] theorem keptQ_modMeter (s : State) (f) : (s.modMeter f).keptQ = s.keptQ := by have h : (s.modMeter f).keptQ = s.keptQ := rfl; exact h
@[simp] theorem keptQ_modTwin (s : State) (f) : (s.modTwin f).keptQ = s.keptQ := by have h : (s.modTwin f).keptQ = s.keptQ := rfl; exact h
@[simp] theorem keptQ_modFb (s : State) (f) : (s.modFb f).keptQ = s.keptQ := by have h : (s.modFb f).keptQ = s.keptQ := rfl; exact h
@[simp] theorem keptQ_foldl {α : Type} (f : State → α → State) (h : ∀ s x, (f s x).keptQ = s.keptQ) (l : List α) (s : State) :
    (l.foldl f s).keptQ = s.keptQ := by
  induction l generalizing s with
  | nil => rfl
  | cons a l ih => simp only [List.foldl_cons, ih, h]
@[simp] theorem keptQ_ite (c : Prop) [Decidable c] (a b : State) : (if c then a else b).keptQ = if c then a.keptQ else b.keptQ := by
  split <;> rfl
theorem keptQ_foldl2 {α : Type} (f : State → α → State) (h : ∀ s x, (f s x).keptQ = s.keptQ) (l : List α) (s u : State)
    (e : s.keptQ = u.keptQ) : (l.foldl f s).keptQ = u.keptQ := by rw [keptQ_foldl f h, e]
@[simp] theorem twinPut_keptQ (type : Nat) (payload : Bytes) (s : State)  : (twinPut type payload s).keptQ = s.keptQ := by simp [twinPut]
@[simp] theorem twinSend_keptQ (type : Nat) (payload : Bytes) (s : State)  : (twinSend type payload s).keptQ = s.keptQ := by simp [twinSend]
@[simp] theorem State_modSession_keptQ (s : State) (sid : Nat) (f : Session → Session)  : (State.modSession s sid f).keptQ = s.keptQ := by simp [State.modSession]
@[simp] theorem pushNotice_keptQ (sid : Nat) (build : Nat → Bytes) (s : State)  : (pushNotice sid build s).keptQ = s.keptQ := by simp [pushNotice]
@[simp] theorem giveCredits_keptQ (sid n : Nat) (s : State)  : (giveCredits sid n s).keptQ = s.keptQ := by
  unfold giveCredits
  (try dsimp only)
  (repeat' split)
  all_goals (try simp)

@[simp] theorem creditNotice_keptQ (sid : Nat) (s : State)  : (creditNotice sid s).keptQ = s.keptQ := by
  unfold creditNotice
  (try dsimp only)
  (repeat' split)
  all_goals (try simp)

@[simp] theorem noticeTo_keptQ (dest : Option Nat) (code tag : Nat) (rec : Bytes) (s : State)  : (noticeTo dest code tag rec s).keptQ = s.keptQ := by
  unfold noticeTo
  (try dsimp only)
  (repeat' split)
  all_goals (try simp)

@[simp] theorem recordEv_keptQ (code source sev : Nat) (payload : Bytes) (dest : Option Nat) (tag : Nat) (s : State)  : (recordEv code source sev payload dest tag s).keptQ = s.keptQ := by simp [recordEv]
@[simp] theorem ev_keptQ (code : Nat) (payload : Bytes) (s : State)  : (ev code payload s).keptQ = s.keptQ := by simp [ev]
@[simp] theorem evS_keptQ (sid tag code : Nat) (payload : Bytes) (s : State)  : (evS sid tag code payload s).keptQ = s.keptQ := by simp [evS]
@[simp] theorem checkBacklog_keptQ (sid : Nat) (s : State)  : (checkBacklog sid s).keptQ = s.keptQ := by
  unfold checkBacklog
  (try dsimp only)
  (repeat' split)
  all_goals (try simp)

@[simp] theorem pushBare_keptQ (t : Transport) (bytes : Bytes) (seq : Nat) (s : State)  : (pushBare t bytes seq s).keptQ = s.keptQ := by simp [pushBare]
@[simp] theorem complete_keptQ (c : LiveCmd) (status detail : Nat) (params : Bytes) (s : State)  : (complete c status detail params s).keptQ = s.keptQ := by simp [complete]
@[simp] theorem fail_keptQ (c : LiveCmd) (status detail : Nat) (s : State)  : (fail c status detail s).keptQ = s.keptQ := by simp [fail]
@[simp] theorem completeAll_keptQ (p : LiveCmd → Bool) (status detail : Nat) (params : Bytes) (s : State)  : (completeAll p status detail params s).keptQ = s.keptQ := by simp [completeAll]
@[simp] theorem lateSuccess_keptQ (p : LateRec → Bool) (status : Nat) (s : State)  : (lateSuccess p status s).keptQ = s.keptQ := by simp [lateSuccess]
@[simp] theorem closeSession_keptQ (sid : Nat) (s : State)  : (closeSession sid s).keptQ = s.keptQ := by
  unfold closeSession
  (try dsimp only)
  (repeat' split)
  all_goals (try simp)

@[simp] theorem closeSessions_keptQ (p : Session → Bool) (s : State)  : (closeSessions p s).keptQ = s.keptQ := by
  unfold closeSessions
  (try simp)
  (repeat' (split <;> try simp))

@[simp] theorem refreshLdEn_keptQ (s : State)  : (refreshLdEn s).keptQ = s.keptQ := by simp [refreshLdEn]
@[simp] theorem writeCopy_keptQ (toB : Bool) (t old : TotalsCopy) (s : State)  : (writeCopy toB t old s).keptQ = s.keptQ := by simp [writeCopy]
@[simp] theorem saveTotals_keptQ (kind : Nat) (s : State)  : (saveTotals kind s).keptQ = s.keptQ := by simp [saveTotals]
@[simp] theorem setAddend_keptQ (a : Int) (s : State)  : (setAddend a s).keptQ = s.keptQ := by simp [setAddend]
@[simp] theorem accountState_keptQ (s : State)  : (accountState s).keptQ = s.keptQ := by simp [accountState]
@[simp] theorem setPState_keptQ (q : PState) (s : State)  : (setPState q s).keptQ = s.keptQ := by simp [setPState]
@[simp] theorem toRun_keptQ (s : State)  : (toRun s).keptQ = s.keptQ := by simp [toRun]
@[simp] theorem modJoint_keptQ (j : Nat) (f : Joint → Joint) (s : State)  : (modJoint j f s).keptQ = s.keptQ := rfl
@[simp] theorem crossNote_keptQ (j code : Nat) (payload : Bytes) (s : State)  : (crossNote j code payload s).keptQ = s.keptQ := by simp [crossNote]
@[simp] theorem startPulse_keptQ (k : Nat) (s : State)  : (startPulse k s).keptQ = s.keptQ := by
  unfold startPulse
  (try dsimp only)
  (repeat' split)
  all_goals (try simp)

@[simp] theorem startPulses_keptQ (s : State)  : (startPulses s).keptQ = s.keptQ := by simp [startPulses]
@[simp] theorem duePulses_keptQ (k n : Nat) (s : State)  : (duePulses k n s).keptQ = s.keptQ := by
  unfold duePulses
  (try dsimp only)
  (repeat' split)
  all_goals (try simp)

@[simp] theorem feedPout_keptQ (k r x : Nat) (s : State)  : (feedPout k r x s).keptQ = s.keptQ := by
  unfold feedPout
  (try dsimp only)
  (repeat' split)
  all_goals (try simp)

@[simp] theorem addEnergy_keptQ (r x : Nat) (s : State)  : (addEnergy r x s).keptQ = s.keptQ := by simp [addEnergy]
@[simp] theorem routePair_keptQ (r : Nat) (x : Int) (s : State)  : (routePair r x s).keptQ = s.keptQ := by simp [routePair]
@[simp] theorem routeCycle_keptQ (ph : Nat) (e : CycleEnergy) (s : State)  : (routeCycle ph e s).keptQ = s.keptQ := by simp [routeCycle]
@[simp] theorem routePhase_keptQ (ph until_ : Nat) (s : State)  : (routePhase ph until_ s).keptQ = s.keptQ := by simp [routePhase]
@[simp] theorem routeTotal_keptQ (s : State)  : (routeTotal s).keptQ = s.keptQ := by simp [routeTotal]
@[simp] theorem closeTotals_keptQ (until_ : Nat) (s : State)  : (closeTotals until_ s).keptQ = s.keptQ := by simp [closeTotals]
@[simp] theorem flushNow_keptQ (s : State)  : (flushNow s).keptQ = s.keptQ := by simp [flushNow]
@[simp] theorem scheduleStart_keptQ (at_ : Nat) (s : State)  : (scheduleStart at_ s).keptQ = s.keptQ := by simp [scheduleStart]
@[simp] theorem autoStart_keptQ (s : State)  : (autoStart s).keptQ = s.keptQ := by simp [autoStart]
@[simp] theorem setContactor_keptQ (k : Nat) (level : Bool) (s : State)  : (setContactor k level s).keptQ = s.keptQ := by simp [setContactor]
@[simp] theorem fallbackDrive_keptQ (k : Nat) (s : State)  : (fallbackDrive k s).keptQ = s.keptQ := by
  unfold fallbackDrive
  (try dsimp only)
  (repeat' split)
  all_goals (try simp)

@[simp] theorem fallbackEval_keptQ (s : State)  : (fallbackEval s).keptQ = s.keptQ := by simp [fallbackEval]
@[simp] theorem faultRecord_keptQ (source cls : Nat) (payload : Bytes) (s : State)  : (faultRecord source cls payload s).keptQ = s.keptQ := by simp [faultRecord]
@[simp] theorem raiseCE_keptQ (source : Nat) (payload : Bytes) (s : State)  : (raiseCE source payload s).keptQ = s.keptQ := by simp [raiseCE]
@[simp] theorem recordOverrun_keptQ (j : Nat) (s : State)  : (recordOverrun j s).keptQ = s.keptQ := by simp [recordOverrun]
@[simp] theorem crossEv_keptQ (j code : Nat) (payload : Bytes) (s : State)  : (crossEv j code payload s).keptQ = s.keptQ := by simp [crossEv]
@[simp] theorem pmbusWrite_keptQ (command : Nat) (data : Bytes) (s : State)  : (pmbusWrite command data s).keptQ = s.keptQ := by simp [pmbusWrite]
@[simp] theorem sendVout_keptQ (exponent : Int) (mv : Nat) (s : State)  : (sendVout exponent mv s).keptQ = s.keptQ := by simp [sendVout]
@[simp] theorem requestVout_keptQ (mv attempt : Nat) (s : State)  : (requestVout mv attempt s).keptQ = s.keptQ := by simp [requestVout]
@[simp] theorem beginExit_keptQ (s : State)  : (beginExit s).keptQ = s.keptQ := by simp [beginExit]
@[simp] theorem recordWake_keptQ (cause : Nat) (s : State)  : (recordWake cause s).keptQ = s.keptQ := by simp [recordWake]
@[simp] theorem wakeUp_keptQ (cause : Nat) (s : State)  : (wakeUp cause s).keptQ = s.keptQ := by
  unfold wakeUp
  (try dsimp only)
  (repeat' split)
  all_goals (try simp)

@[simp] theorem fireAlarm_keptQ (i flags instants t : Nat) (s : State)  : (fireAlarm i flags instants t s).keptQ = s.keptQ := by simp [fireAlarm]
@[simp] theorem matchAlarm_keptQ (i t : Nat) (s : State)  : (matchAlarm i t s).keptQ = s.keptQ := by
  unfold matchAlarm
  (try dsimp only)
  (repeat' split)
  all_goals (try simp)

@[simp] theorem rtcAlarmMatch_keptQ (s : State)  : (rtcAlarmMatch s).keptQ = s.keptQ := by simp [rtcAlarmMatch]
@[simp] theorem alarmStep_keptQ (i a b : Nat) (s : State)  : (alarmStep i a b s).keptQ = s.keptQ := by
  unfold alarmStep
  (try dsimp only)
  (repeat' split)
  all_goals (try simp)

@[simp] theorem rtcStepped_keptQ (n : Int) (cause : Nat) (s : State)  : (rtcStepped n cause s).keptQ = s.keptQ := by simp [rtcStepped]
@[simp] theorem rtcMove_keptQ (n : Int) (cause : Nat) (adjust : Bool) (s : State)  : (rtcMove n cause adjust s).keptQ = s.keptQ := by simp [rtcMove]
@[simp] theorem rtcStep_keptQ (n : Int) (cause : Nat) (adjust : Bool) (s : State)  : (rtcStep n cause adjust s).keptQ = s.keptQ := by simp [rtcStep]
@[simp] theorem refreshU_keptQ (s : State)  : (refreshU s).keptQ = s.keptQ := by simp [refreshU]
@[simp] theorem meterRun_keptQ (on : Bool) (s : State)  : (meterRun on s).keptQ = s.keptQ := by simp [meterRun]
@[simp] theorem twinEnable_keptQ (on : Bool) (s : State)  : (twinEnable on s).keptQ = s.keptQ := by simp [twinEnable]
@[simp] theorem bumpConf_keptQ (s : State)  : (bumpConf s).keptQ = s.keptQ := by simp [bumpConf]
@[simp] theorem caseLevel_keptQ (high : Bool) (s : State)  : (caseLevel high s).keptQ = s.keptQ := by simp [caseLevel]
@[simp] theorem settingEffect_keptQ (id old v : Nat) (s : State)  : (settingEffect id old v s).keptQ = s.keptQ := by simp [settingEffect]

theorem settingEffect_live (id old v : Nat) (s : State) : (settingEffect id old v s).set.live = s.set.live :=
  congrArg SettingsSt.live (congrArg (fun x => x.2.1) (settingEffect_keptQ id old v s))
theorem settingEffect_otp (id old v : Nat) (s : State) : (settingEffect id old v s).otp = s.otp :=
  congrArg (fun x => x.2.2.2.1) (settingEffect_keptQ id old v s)

theorem live_congr {s t : State} (hs : t.set.live = s.set.live) (ho : t.otp = s.otp) (id : Nat) : t.live id = s.live id := by
  simp only [State.live, settingReset, hs, ho]

theorem get?_put {α : Type} (l : List (Nat × α)) (k j : Nat) (v : α) : get? (put l k v) j = if k = j then some v else get? l j := by
  induction l with
  | nil => by_cases h : k = j <;> simp [put, get?, h]
  | cons a l ih =>
    obtain ⟨a, x⟩ := a
    simp only [put]
    split
    · by_cases h : k = j <;> simp [get?, h]
    · split
      · rename_i h1 h2
        subst h2
        by_cases h : a = j <;> simp [get?, h]
      · rename_i h1 h2
        simp only [get?, ih]
        by_cases h : a = j
        · subst h; simp [Ne.symm h2]
        · simp [h]

theorem applySetting_live (id v j : Nat) (s : State) : (applySetting id v s).live j = if id = j then v else s.live j := by
  have h : (applySetting id v s).set.live = put s.set.live id v := by
    unfold applySetting; dsimp only; rw [settingEffect_live]; rfl
  have o : (applySetting id v s).otp = s.otp := by
    unfold applySetting; dsimp only; rw [settingEffect_otp]; rfl
  unfold State.live settingReset
  rw [h, get?_put, o]
  by_cases e : id = j <;> simp [e]
theorem syncShadow_live (j : Nat) (s : State) : (syncShadow s).live j = s.live j := live_congr rfl rfl j
theorem commitDone_live (b : Nat) (r : Bytes) (j : Nat) (s : State) : (commitDone b r s).live j = s.live j :=
  live_congr (by rw [commitDone_set]) (commitDone_otp ..) j

theorem applySettings_live (l : List (Nat × Nat)) (j : Nat) (s : State) :
    (l.foldl (fun s e => applySetting e.1 e.2 s) s).live j =
      match l.reverse.find? (fun e => e.1 == j) with | some e => e.2 | none => s.live j := by
  induction l generalizing s with
  | nil => rfl
  | cons a l ih =>
    simp only [List.foldl_cons, ih, List.reverse_cons, List.find?_append, List.find?_cons, List.find?_nil]
    cases hh : l.reverse.find? (fun e => e.1 == j) with
    | some e => rfl
    | none =>
      simp only [Option.none_or, applySetting_live]
      by_cases ha : a.1 = j
      · simp [ha]
      · have : (a.1 == j) = false := by simpa using ha
        simp [ha, this]
theorem keptQ_pend {s t : State} (h : t.keptQ = s.keptQ) : t.set.pend = s.set.pend :=
  congrArg SettingsSt.pend (congrArg (fun x => x.2.1) h)
/-- R31: putting one setting into effect leaves the pending sets. -/
theorem settingEffect_pend (id old v : Nat) (s : State) : (settingEffect id old v s).set.pend = s.set.pend :=
  keptQ_pend (settingEffect_keptQ id old v s)

/-- One setting put into effect: the pending sets stay. -/
theorem applySetting_pend (id v : Nat) (s : State) : (applySetting id v s).set.pend = s.set.pend :=
  settingEffect_pend id (s.live id) v _

/-- A list of settings put into effect: the pending sets stay. -/
theorem applySettings_pend (l : List (Nat × Nat)) (s : State) :
    (l.foldl (fun s e => applySetting e.1 e.2 s) s).set.pend = s.set.pend := by
  induction l generalizing s with
  | nil => rfl
  | cons a l ih => exact (ih _).trans (applySetting_pend a.1 a.2 s)

theorem get?_put_filter {α : Type} (l : List (Nat × α)) (q : Nat × α → Bool) (k : Nat) (v : α) (hq : q (k, v) = true) :
    get? ((put l k v).filter q) k = some v := by
  induction l with
  | nil => simp [put, hq, get?]
  | cons a l ih =>
    obtain ⟨a, x⟩ := a
    simp only [put]
    split
    · simp [hq, get?]
    · split
      · simp [hq, get?]
      · rename_i h1 h2
        rw [List.filter_cons]
        split
        · simp [get?, h2, ih]
        · exact ih

end Sys2Proof.Machine
end

