-- ==== Sys2Proof/WellFormed.lean ====
section
/-! DEFINITION. The operand ranges of the commands: what the fields and the counts of the spec admit. A meaning is total and does
not rely on them. -/

namespace Sys2Proof

def below (bound n : Nat) : Bool := decide (n < bound)

/-- A session number, 0 to 3 (R45). -/
def okSession (sid : Nat) : Bool := below 4 sid

/-- A session number, or 4 HSPI, 5 HUART, 6 DBG for a bare command (R46, R98; log entry 1). -/
def okSid (sid : Nat) : Bool := below 7 sid

def okPhase (phase : Nat) : Bool := decide (1 ≤ phase) && decide (phase ≤ 3)

/-- The longest PSDU of any PHY mode (Table 5.6). -/
def okPsdu (psdu : Bytes) : Bool := decide (psdu.length ≤ 2047)

/-- An NMEA sentence, its start and its end included. -/
def okSentence (text : Bytes) : Bool := decide (text.length ≤ 82)

def okCelsius (t : Int) : Bool := decide (-273 ≤ t) && decide (t ≤ 1000)

/-- A temperature compensation, 0.1 ppm (R307). -/
def okTemp (c : Int) : Bool := decide (c.natAbs ≤ 10000000)

/-- The deviation of an end of SFD, within a cell. -/
def okDeviation (d : Int) : Bool := decide (d.natAbs ≤ 10000000)

/-- A datagram of IPv4 or IPv6: its peer's address and port, its length (R65). -/
def okEth (d : EthIn) : Bool :=
  decide (d.peer < 2 ^ 144) && decide (d.payload.length ≤ 65535)
    && (match d.frag with | some f => decide (f.1 < 2 ^ 32) && decide (f.2.1 < 65536) | none => true)

/-- A cell of the slotframe (Table 5.3, R167). -/
def okCell (c : Cell) : Bool := below 2 c.port && below 100 c.slot && below 64 c.offset && below 65536 c.peer

def okPtp (transport domain source : Nat) : Bool := below 3 transport && below 256 domain && below (2 ^ 80) source

def okSync (m : PtpSync) : Bool := below 2 m.port && below 65536 m.seq && okPtp m.transport m.domain m.source

/-- The bits of eight channels at each edge of `MOD_CLK` (R332). -/
def okEdges (edges : List Nat) : Bool := edges.all (below 256)

/-- A frame of the twin link: 14 bytes of framing, at most 4,096 of payload (Table 11.1). -/
def okLink (f : LinkIn) : Bool := below 65536 f.seq && decide (f.payload.length ≤ 4096)

def okBoot (e : BootEnv) : Bool := below 65536 e.voutMode && e.failBanks.all (fun x => below 32 x.1) && e.failAbut.all (fun x => below 896 x.1)
    && e.failMram.all (fun x => below 16384 x.1)

/-- The operands are in range. -/
def Instr.wf : Instr → Bool
  | .echo sid tag => okSid sid && below 256 tag
  | .deviceInfo sid tag => okSid sid && below 256 tag
  | .reset sid tag => okSid sid && below 256 tag
  | .fence sid tag => okSid sid && below 256 tag
  | .settingRead sid tag => okSid sid && below 256 tag
  | .settingWrite sid tag => okSid sid && below 256 tag
  | .settingCommit sid tag => okSid sid && below 256 tag
  | .cancel sid tag => okSid sid && below 256 tag
  | .sessionOpen sid tag => okSid sid && below 256 tag
  | .timeGet sid tag => okSid sid && below 256 tag
  | .timeSlew sid tag => okSid sid && below 256 tag
  | .timeStep sid tag => okSid sid && below 256 tag
  | .timeSourceSet sid tag => okSid sid && below 256 tag
  | .rtcAlarmSet sid tag => okSid sid && below 256 tag
  | .calendarConvert sid tag => okSid sid && below 256 tag
  | .localTimeTableLoad sid tag => okSid sid && below 256 tag
  | .fallbackTableLoad sid tag => okSid sid && below 256 tag
  | .powerPolicySet sid tag => okSid sid && below 256 tag
  | .powerStatus sid tag => okSid sid && below 256 tag
  | .powerRefusalsRead sid tag => okSid sid && below 256 tag
  | .spanStart sid tag => okSid sid && below 256 tag
  | .spanStop sid tag => okSid sid && below 256 tag
  | .lanternAdmit sid tag => okSid sid && below 256 tag
  | .lanternRemove sid tag => okSid sid && below 256 tag
  | .lanternQuery sid tag => okSid sid && below 256 tag
  | .lanternSend sid tag => okSid sid && below 256 tag
  | .topologyRead sid tag => okSid sid && below 256 tag
  | .floodSend sid tag => okSid sid && below 256 tag
  | .regionProfileLoad sid tag => okSid sid && below 256 tag
  | .dwellStatus sid tag => okSid sid && below 256 tag
  | .radioProfileLoad sid tag _ _ => okSid sid && below 256 tag
  | .policyLoad sid tag => okSid sid && below 256 tag
  | .policyRemove sid tag => okSid sid && below 256 tag
  | .policyList sid tag => okSid sid && below 256 tag
  | .placementRead sid tag => okSid sid && below 256 tag
  | .placementPin sid tag => okSid sid && below 256 tag
  | .placementHold sid tag => okSid sid && below 256 tag
  | .sensorSubscribe sid tag => okSid sid && below 256 tag
  | .lampSet sid tag => okSid sid && below 256 tag
  | .sceneDefine sid tag => okSid sid && below 256 tag
  | .sceneLaunch sid tag => okSid sid && below 256 tag
  | .calibrationLoad sid tag => okSid sid && below 256 tag
  | .localChannelConfig sid tag => okSid sid && below 256 tag
  | .lampStatus sid tag => okSid sid && below 256 tag
  | .meterConfig sid tag => okSid sid && below 256 tag
  | .meterRead sid tag => okSid sid && below 256 tag
  | .energyRead sid tag => okSid sid && below 256 tag
  | .pulseOutputAssign sid tag => okSid sid && below 256 tag
  | .pulseInputRead sid tag => okSid sid && below 256 tag
  | .reconcileRead sid tag => okSid sid && below 256 tag
  | .meterCalibrate sid tag => okSid sid && below 256 tag
  | .updateBegin sid tag => okSid sid && below 256 tag
  | .updateFragment sid tag => okSid sid && below 256 tag
  | .updateStatus sid tag => okSid sid && below 256 tag
  | .updateActivate sid tag => okSid sid && below 256 tag
  | .updateConfirm sid tag => okSid sid && below 256 tag
  | .updateAbort sid tag => okSid sid && below 256 tag
  | .lanternImageStage sid tag => okSid sid && below 256 tag
  | .lanternImageRollout sid tag => okSid sid && below 256 tag
  | .keyLoad sid tag => okSid sid && below 256 tag
  | .keyRetire sid tag => okSid sid && below 256 tag
  | .lifecycleAdvance sid tag => okSid sid && below 256 tag
  | .tamperPolicySet sid tag => okSid sid && below 256 tag
  | .debugUnlock sid tag => okSid sid && below 256 tag
  | .securityStatus sid tag => okSid sid && below 256 tag
  | .faultStatus sid tag => okSid sid && below 256 tag
  | .faultAck sid tag => okSid sid && below 256 tag
  | .eventRead sid tag => okSid sid && below 256 tag
  | .eventClear sid tag => okSid sid && below 256 tag
  | .eventRateSet sid tag => okSid sid && below 256 tag
  | .faultInject sid tag => okSid sid && below 256 tag
  | .twinStatus sid tag => okSid sid && below 256 tag
  | .twinConfig sid tag => okSid sid && below 256 tag
  | .leaseYield sid tag => okSid sid && below 256 tag
  | .selftestRun sid tag => okSid sid && below 256 tag
  | .selftestResult sid tag => okSid sid && below 256 tag
  | .selftestSchedule sid tag => okSid sid && below 256 tag
  | .queueConfig sid tag => okSid sid && below 256 tag
  | .queueStatus sid tag => okSid sid && below 256 tag
  | .winInPush _ => true
  | .winOutPop => true
  | .abortIn => true
  | .winStatusW1c _ => true
  | .winIrqCauseW1c _ => true
  | .registerWrite offset _ => below 65536 offset
  | .hspiTransactionIgnored _ _ => true
  | .huartFrame _ => true
  | .dbgFrame _ => true
  | .ethHandshake d => okEth d
  | .ethData d => okEth d
  | .ethReorderTimeout sid => okSession sid
  | .ethIdleTimeout sid => okSession sid
  | .ethFirstDataTimeout sid => okSession sid
  | .ipReassemblyTimeout id => below (2 ^ 32) id
  | .intakeService => true
  | .interimReplyTimer sid tag => okSession sid && below 256 tag
  | .deadlineExpiry sid tag => okSession sid && below 256 tag
  | .lateAckWindowExpiry seq => below (2 ^ 64) seq
  | .creditReturnTimer sid => okSession sid
  | .challengeExpiry _ => true
  | .debugChallengeExpiry => true
  | .eventClearChallengeExpiry => true
  | .transportTxComplete _ sid => okSession sid
  | .baudChangeTimer => true
  | .delayedReset => true
  | .replyHoldTimer sid => okSession sid
  | .queueServicePassEnd => true
  | .cycleBoundary _ _ _ _ => true
  | .pierHeadSilent lantern => below 4096 lantern
  | .holderBeaconsMissed _ => true
  | .rendezvousListenEnd lantern => below 4096 lantern
  | .routelessLost lantern => below 4096 lantern
  | .rootPortReassign lantern => below 4096 lantern
  | .cellStart c => okCell c
  | .ackWindowExpiry port => below 2 port
  | .enhancedAckReceived port psdu => below 2 port && okPsdu psdu
  | .radioIrq port _ edge => below 2 port && okDeviation edge
  | .radioPollTimeout poll => below 2 poll.port
  | .frameReceived poll => below 2 poll.port
  | .beaconReceived src => below 65536 src
  | .joinRequest eui => below (2 ^ 64) eui
  | .joinRelay proxy => below 4096 proxy
  | .capability lantern => below 4096 lantern
  | .configRequest lantern => below 4096 lantern
  | .resync lantern => below 4096 lantern
  | .neighbourReport lantern => below 4096 lantern
  | .beaconMiss lantern => below 4096 lantern
  | .response lantern => below 4096 lantern
  | .sensorEvent lantern => below 4096 lantern
  | .energyReport lantern => below 4096 lantern
  | .energyAggregate lantern => below 4096 lantern
  | .policyReport lantern => below 4096 lantern
  | .faultReport lantern => below 4096 lantern
  | .fragmentInventory lantern => below 4096 lantern
  | .chunkRequest lantern => below 4096 lantern
  | .imageStatus lantern => below 4096 lantern
  | .leave lantern => below 4096 lantern
  | .lampReport lantern => below 4096 lantern
  | .hostTunnel => true
  | .keyUpdateActivation => true
  | .oldNetworkKeyExpiry => true
  | .annexParentLost _ => true
  | .spanAutoStopTimer => true
  | .ptpSync m => okSync m
  | .ptpFollowUp m => okPtp m.transport m.domain m.source
  | .ptpAnnounce m => okPtp m.transport m.domain m.source
  | .ptpDelayResp m => okPtp m.transport m.domain m.source
  | .delayReqTimer => true
  | .announceReceiptTimeout => true
  | .syncLossTimeout => true
  | .ptpEventForward ingress stamp _ => below 2 ingress && below (2 ^ 78) stamp
  | .ppsInEdge => true
  | .nmeaSentence text => decide (1 ≤ text.baud) && below 7 text.baud && okSentence text.text
  | .gnssEdgeLoss => true
  | .gnssLabelLoss => true
  | .sourcePreferenceTimer source => below 6 source
  | .slewEnd => true
  | .wholeSecond => true
  | .leapSecond => true
  | .timeExchangeTimer => true
  | .rtcAlarmMatch => true
  | .rtcTrimAccumulate => true
  | .rtcTempCompensation correction => okTemp correction
  | .rtcTrimLearn => true
  | .vaultScrub result => below 3 result
  | .fallbackMinute => true
  | .fallbackKeepaliveRenew => true
  | .fallbackKeepaliveExpiry => true
  | .backupEntry => true
  | .meterSecondClose edges => okEdges edges
  | .lineZeroCrossing phase edges => okPhase phase && okEdges edges
  | .routingTimeout phase edges => okPhase phase && okEdges edges
  | .modClkGap => true
  | .pfailFall => true
  | .pfailRise => true
  | .poutPulsePhaseEnd output => below 4 output
  | .pinEdge input _ => below 4 input
  | .pinDebounceExpiry input => below 4 input
  | .reconcileWindow => true
  | .standbyMeterWindow => true
  | .twinHello f => okLink f
  | .heartbeat f => okLink f
  | .renew f => okLink f
  | .copy f => okLink f
  | .copyEnd f => okLink f
  | .copyAck f => okLink f
  | .twinTime f => okLink f
  | .timeEcho f => okLink f
  | .echoFeed f => okLink f
  | .echoResult f => okLink f
  | .journal f => okLink f
  | .journalAck f => okLink f
  | .health f => okLink f
  | .nak f => okLink f
  | .twinFrameBad => true
  | .twinLinkDownTimeout => true
  | .twinHelloTimer => true
  | .heartbeatTimer => true
  | .leaseInAssert => true
  | .leaseInDeassert => true
  | .interlockOpen => true
  | .leaseExpiryTake => true
  | .loneStartTimer => true
  | .conflictBackoffTimer => true
  | .healthYieldTimer => true
  | .copyStale => true
  | .powerEvaluation => true
  | .pmicAck _ _ status => below 65536 status
  | .pmicAckTimeout => true
  | .pmbusRetryTimer => true
  | .wake cause => below 16 cause
  | .knownEventTimer => true
  | .thermalSensorChange celsius => okCelsius celsius
  | .pmAlert status => below 65536 status
  | .pmPgoodFall => true
  | .ethLinkPoll _ _ => true
  | .checkinWindowEnd => true
  | .jointDelivery joint => below 64 joint
  | .jointSideReset joint => below 64 joint
  | .faultRaised source cls _ => below 65536 source && below 4 cls
  | .faultInjection => true
  | .ucEscalation => true
  | .firmwareFaultAck source => below 65536 source
  | .watchdogExpiry core => below 4 core
  | .safeHoldRestart => true
  | .eventPageCopy => true
  | .eventLogEraseDone => true
  | .rateBucketRefill code => below 65536 code
  | .tamperCondition source => below 16 source
  | .tamper0DebounceExpiry => true
  | .guardLfsrAdvance => true
  | .guardSample _ => true
  | .vbatLowTimer => true
  | .tamperRearmTimer source => below 16 source
  | .updateSectorErased => true
  | .updateVerifyDone => true
  | .updateJournalExpiry => true
  | .trialTimeLimit => true
  | .recoveryHelloTimer => true
  | .recoveryBegin _ => true
  | .recoveryData _ => true
  | .recoveryBoot _ => true
  | .selftestSweepStart => true
  | .selftestSliceStart _ => true
  | .scanRequest => true
  | .placementEvaluation => true
  | .dayTableRefresh policy site => below (2 ^ 32) policy && below 65536 site
  | .spanPolicyTrigger policy => below (2 ^ 32) policy
  | .claimHoldExpiry output policy => below 24 output && below (2 ^ 32) policy
  | .policyValidityEnd policy => below (2 ^ 32) policy
  | .placementHoldEnd => true
  | .subscriptionExpiry number => below 256 number
  | .lampPeriodStart output => below 24 output
  | .fadeStep output => below 24 output
  | .localApplyTime => true
  | .ldFaultFall => true
  | .ldFaultFilterExpiry => true
  | .ldFaultRise => true
  | .ldFaultRetryTimer => true
  | .resetNAssert => true
  | .resetNRelease _ => true
  | .powerOnReset => true
  | .bootSequence e => okBoot e
  | .pmicStartupRetry e => okBoot e
  | .ioBankChange bank mode => below 4 bank && below 4 mode
  | .meshReassemblyTimeout src => below 65536 src
  | .modClkReturn edges => okEdges edges
  | .watchdogRenewal core => below 4 core
  | .vaultSupplyLoss => true
  | .tamper0Edge _ => true
  | .tamperConditionEnd source => below 16 source

/-- A well-formed command. -/
abbrev WellFormed (i : Instr) : Prop := i.wf = true

end Sys2Proof
end

