-- ==== Sys2Proof/Tests/Slice0.lean ====
section
/-! SUPPORT. Tests: for each check of WellFormed a command that it refuses; states and operands that meet the hypotheses of the statements;
worked examples of the spec. -/

namespace Sys2Proof.Machine.Tests

-- One proof at a time: so many short proofs in parallel each hold a thread and its stack.
set_option Elab.async false

/-! ### Ill-formed commands -/

def cell0 : Cell := { (default : Cell) with port := 0, slot := 0, offset := 0, peer := 0 }

theorem test_wf_accepts : Instr.wf (.echo 0 255) = true ∧ Instr.wf (.cellStart { cell0 with slot := 99, offset := 63 }) = true := by decide
theorem test_wf_sid : Instr.wf (.echo 7 0) = false := by decide
theorem test_wf_tag : Instr.wf (.echo 0 256) = false := by decide
theorem test_wf_session : Instr.wf (.ethIdleTimeout 4) = false := by decide
theorem test_wf_phase : Instr.wf (.routingTimeout 0 []) = false ∧ Instr.wf (.lineZeroCrossing 4 []) = false := by decide
theorem test_wf_psdu : Instr.wf (.enhancedAckReceived 0 (zeros 2048)) = false := by
  simp only [Instr.wf, okPsdu, zeros, List.length_replicate]; decide
theorem test_wf_sentence : Instr.wf (.nmeaSentence { baud := 1, text := zeros 83 }) = false ∧ Instr.wf (.nmeaSentence { baud := 7, text := [] }) = false ∧
    Instr.wf (.nmeaSentence { baud := 0, text := [] }) = false := by decide
theorem test_wf_celsius : Instr.wf (.thermalSensorChange (-274)) = false := by decide
theorem test_wf_temp : Instr.wf (.rtcTempCompensation 10000001) = false := by decide
theorem test_wf_deviation : okDeviation (-10000001) = false := by decide
theorem test_wf_eth : Instr.wf (.ethData { peer := 2 ^ 144, frag := none, payload := [] }) = false ∧
    Instr.wf (.ethData { peer := 0, frag := some (0, 65536, false), payload := [] }) = false := by decide
theorem test_wf_cell : Instr.wf (.cellStart { cell0 with slot := 100 }) = false ∧ Instr.wf (.cellStart { cell0 with port := 2 }) = false := by
  decide
theorem test_wf_ptp : Instr.wf (.ptpSync { (default : PtpSync) with domain := 256 }) = false ∧
    Instr.wf (.ptpSync { (default : PtpSync) with port := 2 }) = false := by decide
theorem test_wf_edges : Instr.wf (.meterSecondClose [256]) = false := by decide
theorem test_wf_link : Instr.wf (.renew { resend := false, seq := 65536, payload := [] }) = false := by decide
theorem test_wf_boot : Instr.wf (.bootSequence { (default : BootEnv) with failBanks := [(32, [])] }) = false := by decide
theorem test_wf_lantern : Instr.wf (.leave 4096) = false := by decide

/-! ### States that meet the hypotheses -/

/-- The module after reset with its firmware running. -/
def up : State := State.reset.modBoot (fun b => { b with phase := .firmware })

/-- A command accepted from session 0 to 3, its deadline 1 ns ahead. -/
def cmdOf (op sid tag : Nat) (params : Bytes) : LiveCmd :=
  { (default : LiveCmd) with
    seq := 1, sid := sid, tag := tag, opcode := op, role := 1, target := adAll, params := params, transport := .hspi, credits := 1,
    deadline := 1, begun := false, wait := .none, dep := .none, journaled := true, orphan := false }

/-- An open HSPI session of role OPERATOR. -/
def sessionOf : Session := { (default : Session) with transport := .hspi, role := 1, credits := 511 }

def upWith (c : LiveCmd) : State := up.modHost (fun h => { h with live := [c], sessions := [some sessionOf, none, none, none] })

theorem upWith_ready (c : LiveCmd) (op sid tag : Nat) (h1 : c.opcode = op) (h2 : c.sid = sid) (h3 : c.tag = tag) (h4 : c.begun = false)
    (h5 : c.journaled = true) (h6 : c.orphan = false) (h7 : c.deadline = 1) (h8 : ∀ q, c.dep ≠ .live q) :
    readyCmd op sid tag (upWith c) = some c := by
  have e1 : (upWith c).cmd sid tag = some c := by simp [upWith, State.cmd, h2, h3, h6]
  have e2 : (upWith c).fwUp = true := rfl
  have e3 : (upWith c).now = 0 := rfl
  have e4 : canBegin (upWith c).host c = true := by
    simp only [upWith, canBegin]
    cases hd : c.dep <;> simp_all
  simp [readyCmd, e1, e2, e3, e4, h1, h4, h5, h7]

/-- For every command row, every session and tag and any parameters, a state in which its turn has come: the hypothesis of every
statement about a command. -/
theorem test_turn_met (op sid tag : Nat) (p : Bytes) : Turn op sid tag (cmdOf op sid tag p) (upWith (cmdOf op sid tag p)) := by
  refine ⟨upWith_ready _ _ _ _ rfl rfl rfl rfl rfl rfl rfl (by intro q h; cases h), ?_⟩
  intro st h; cases h

/-- CommandTurn: a row with no accepted command, and one whose dependency failed. -/
theorem test_commandTurn_waits (op sid tag : Nat) : readyCmd op sid tag State.reset = none := rfl
theorem test_commandTurn_dependency :
    ∃ c st s, readyCmd 1 0 7 s = some c ∧ c.dep = .status st ∧ success st = false ∧ opcodeOf (.echo 0 7) = some (1, 0, 7) :=
  ⟨{ cmdOf 1 0 7 [] with dep := .status stBadParam }, stBadParam, upWith { cmdOf 1 0 7 [] with dep := .status stBadParam },
    upWith_ready _ _ _ _ rfl rfl rfl rfl rfl rfl rfl (by intro q h; cases h), rfl, rfl, rfl⟩

/-- TimePassesWhenNothingWaits: no command waits and PCLK runs. -/
theorem test_tick_met : up.pending = [] ∧ clocked up = true := by decide

/-- StepRunsFrontCommand, CommandsLeaveClockAndQueue, LifecycleChangesByTable, LifecycleInvariantKept, FusesOnlyProgram, FrameOfEvents:
a state that meets the invariant, and a step and a command that answer. -/
theorem test_lifeInv_met : LifeInv up ∧ (∃ t, step up = .next t) ∧ (∃ t, exec .winOutPop up = .next t) ∧ opcodeOf .winOutPop = none := by
  refine ⟨⟨by decide, by decide, by decide, by decide, ?_⟩, ⟨_, rfl⟩, ⟨_, rfl⟩, rfl⟩
  intro a b h; cases h

theorem test_frameOfCommands_met : (opcodeOf (.echo 0 7)).isSome = true ∧ ∃ t, exec (.echo 0 7) up = .next t := ⟨rfl, ⟨_, rfl⟩⟩

/-- CompletionAnswersTheHost. -/
theorem test_completion_met : (cmdOf 1 0 7 []).sid < 4 ∧ (cmdOf 1 0 7 []).orphan = false ∧
    (upWith (cmdOf 1 0 7 [])).session 0 = some sessionOf := ⟨by decide, rfl, rfl⟩

/-- SettingValuesReadBack: an S, an L and an I setting; a pending set. -/
theorem test_settings_met : ((settingInfo 0x0640).map (·.cls)) = some .s ∧ ((settingInfo 0x0400).map (·.cls)) = some .l ∧
    ((settingInfo 0x0113).map (·.cls)) = some .i ∧ get? up.set.live 0x0400 = none ∧ (7 : Nat) ≠ up.live 0x0640 := by decide
theorem test_pendingSet_met : pendOf (up.modSet (fun x => { x with pend := [{ block := 6, entries := [(0x0640, 7)], count := 1 }] })) 6 =
    some { block := 6, entries := [(0x0640, 7)], count := 1 } ∧ pendOf up 6 = none ∧ (0x0640 : Nat) ≠ 0x0A00 ∧
    inPend (up.modSet (fun x => { x with pend := [{ block := 6, entries := [(0x0640, 7)], count := 1 }] })).set 0x0640 = true := by decide

/-- CancelAndDeadlines: at the deadline, before it, and the waits that cannot and can be cut. -/
def late : State := { upWith (cmdOf 1 0 7 []) with now := 1 }
theorem test_deadline_met : late.fwUp = true ∧
    late.host.live.find? (fun c => c.sid == 0 && c.tag == 7 && decide (c.deadline ≤ late.now)) = some (cmdOf 1 0 7 []) := by decide
theorem test_beforeDeadline_met : ∀ c ∈ (upWith (cmdOf 1 0 7 [])).host.live, c.sid = 0 → c.tag = 7 → (upWith (cmdOf 1 0 7 [])).now < c.deadline := by
  intro c h _ _
  have : c = cmdOf 1 0 7 [] := by simpa [upWith] using h
  subst this; decide
theorem test_waits_met : (cmdOf 1 0 7 []).wait = .none ∧ ({ cmdOf 1 0 7 [] with wait := .mesh } : LiveCmd).wait = .mesh := ⟨rfl, rfl⟩

/-- SafeStateEntry and PendingSetsDiscarded: running, stopped, and already in safe state; a twin member. -/
theorem test_safe_met : up.par.safe = false ∧ up.pwr.stopped = false ∧
    (up.modPwr (fun p => { p with state := .slumber })).pwr.stopped = true ∧ (up.modPar (fun p => { p with safe := true })).par.safe = true ∧
    (up.modTwin (fun t => { t with latch := true })).twin.latch = true ∧ up.fb.agent = .sequencer := by decide

/-- FaultAcknowledgement: a pending entry before and at its deadline. -/
def entry1 : UcEntry := { source := 4, merged := 1, deadline := 50, cycle := 0, order := 0, infos := [] }
def uc (now : Nat) : State := { up.modPar (fun p => { p with pending := [entry1] }) with now := now }
theorem test_ack_met : (uc 49).par.pending.find? (fun e => e.source == 4) = some entry1 ∧ (uc 49).now < entry1.deadline ∧
    entry1.deadline ≤ (uc 50).now ∧ pendingSorted (uc 50) = [entry1] ∧ (uc 50).par.safe = false := by decide

/-- TransitionsDestroyKeys: RETURN to PROVISIONED. -/
theorem test_return_met : (up.modOtp (fun o => { o with lifecycle := lcReturn })).otp.lifecycle = lcReturn := by decide

/-- EventRecording: a full bucket, an exempt code, an empty bucket. -/
theorem test_event_met : up.par.dropped = 0 ∧ 0 < (refilled up.now (bucketOf up.par evTimeHoldover)).tokens ∧ rateExempt evTimeHoldover = false ∧
    rateExempt evSafeStateEntered = true ∧ up.par.volatileBuf.length < 2048 ∧
    (refilled up.now (bucketOf (up.modPar (fun p => { p with defaultBurst := 0 })).par evTimeHoldover)).tokens = 0 := by decide

/-- WindowRowsComplete: VIO_N good, a register's offset, and a transaction that is ignored for each reason. -/
theorem test_window_met : bankGood 1 up = true ∧ isReg 0x1C = true ∧ isReg 0x20 = false ∧ fld [9, 0x1C] 0 1 ≠ 2 ∧ fld [9, 0x1C] 0 1 ≠ 3 ∧
    fld [9, 0x1C] 0 1 ≠ 0x0B ∧ ([2] : Bytes).length < 2 := by decide

/-! ### AcceptedCommandsComplete: for each command a state and parameters that nothing refuses -/

/-- With a state and its command as in the theorems below, the command's turn has come. -/
theorem turn_of (op sid tag : Nat) (c : LiveCmd) (s : State) (h : readyCmd op sid tag s = some c ∧ c.dep = .none) : Turn op sid tag c s :=
  ⟨h.1, fun st e => by rw [h.2] at e; cases e⟩

/-- A header of a plain image of 1,024 bytes with its signature: by a key whose sum with the curve's base point has the digest for its
X, so that r and s are both that digest. -/
def pubKey : Bytes := be 32 0x3cd6a32fe5aad802ab35a694208985b5698a2967c0960cb7e791777391b10711 ++ be 32 0x3837c61938f872ef4bade9a9dbae8050701001d064f33d130e89f864fd23a999
def imageHead : Bytes := le 4 0x4D495244 ++ [1, 0, 0x4B, 0x0D, 0, 1, 0, 0, 4, 0, 0, 0, 0, 0, 1, 0] ++ le 4 1024 ++ zeros 232
def imageHeader : Bytes := imageHead ++ pubKey ++ be 32 0x3a3f8bb7156ec95da296a56c1ab93e1af0901ba95ab6853573b7e67671b6c98c ++ be 32 0x3a3f8bb7156ec95da296a56c1ab93e1af0901ba95ab6853573b7e67671b6c98c ++ zeros 128
def updSession : UpdSession := { header := imageHeader, target := 1, bitmap := [], erased := 1, decrypted := 0, lastStored := 0 }
def image1 : LanImage := { id := 1, header := [], frags := [], state := 1 }
def rollout1 : Rollout := { image := 1, parallel := 1, targets := [], aborted := false, done := false, caches := [] }
/-- A key-encryption key as a slot holds it, sealed on that state. -/
def kekRec (s : State) : SlotRec := { sealRec 4101 (zeros 32) 0x02030000 s with iv := zeros 12 }

/-- A load of lantern slot 0 under slot 4,101, whose key is 32 zero bytes, of a key of 16 zero bytes. -/
def sealedLoad : Bytes :=
  zeros 4 ++ le 4 0x01010000 ++ [1, 0] ++ le 2 4101 ++ zeros 76 ++ [16, 0, 0, 0] ++ le 32 0x8e3506758ef5a2d1742aa637ca036072189df3bad3c54e076e6b604d3d40a7ce
    ++ le 16 0x7e14775f18e1359fdda05a4c9e52aa74

theorem test_meets_meterConfig :
    let c := { cmdOf 0x0601 0 7 ([0x31, 1, 1, 0] ++ le 2 2300 ++ zeros 2 ++ le 4 63000 ++ le 4 65000 ++ le 4 100000 ++ le 4 100000 ++ le 4 10000) with role := 3 }
    let s₀ := upWith c
    let s := begun c s₀
    (readyCmd 0x0601 0 7 s₀ = some c ∧ c.dep = .none) ∧ zeroAt c.params 3 1 = true ∧
    zeroAt c.params 6 2 = true ∧
    writeRefusal s c.role (meterEntries c.params) = none := by decide +kernel

theorem test_meets_pulseOutputAssign :
    let c := { cmdOf 0x0604 0 7 ([0, 1, 0, 0] ++ le 4 1000 ++ le 2 50 ++ zeros 2) with role := 3 }
    let s₀ := upWith c
    let s := begun c s₀
    (readyCmd 0x0604 0 7 s₀ = some c ∧ c.dep = .none) ∧ fld c.params 2 1 = 0 ∧
    zeroAt c.params 3 1 = true ∧
    zeroAt c.params 10 2 = true ∧
    fld c.params 0 1 ≤ 3 ∧
    (s.shadow 0x064C).testBit (fld c.params 0 1) = false ∧
    writeRefusal s c.role [(0x0640 + fld c.params 0 1, fld c.params 1 1), (0x0644 + fld c.params 0 1, fld c.params 4 4),
      (0x0648 + fld c.params 0 1, fld c.params 8 2), (0x064C, s.shadow 0x064C)] = none := by decide +kernel

theorem test_meets_pulseInputRead :
    let c := cmdOf 0x0605 0 7 (zeros 4)
    let s₀ := upWith c
    (readyCmd 0x0605 0 7 s₀ = some c ∧ c.dep = .none) ∧ fld c.params 0 1 = 0 ∧
    zeroAt c.params 1 3 = true := by decide +kernel

theorem test_meets_reconcileRead :
    let c := cmdOf 0x0606 0 7 (zeros 4 ++ [48, 0, 0, 0])
    let s₀ := upWith c
    (readyCmd 0x0606 0 7 s₀ = some c ∧ c.dep = .none) ∧ zeroAt c.params 5 3 = true ∧
    1 ≤ fld c.params 4 1 ∧ fld c.params 4 1 ≤ 48 := by decide +kernel

theorem test_meets_meterCalibrate :
    let c := cmdOf 0x0607 0 7 ([2, 0, 60, 0] ++ zeros 16)
    let s₀ := (fun s => s.modMeter (fun m => { m with active := true })) (upWith c)
    let s := begun c s₀
    (readyCmd 0x0607 0 7 s₀ = some c ∧ c.dep = .none) ∧ fld c.params 0 1 = 2 ∧
    zeroAt c.params 4 12 = true ∧
    zeroAt c.params 16 4 = true ∧
    1 ≤ fld c.params 2 2 ∧ fld c.params 2 2 ≤ 60 ∧
    s.meter.active = true := by decide +kernel

theorem test_meets_updateBegin :
    let c := cmdOf 0x0701 0 7 (zeros 4 ++ imageHeader)
    let s₀ := (fun s => s.modOtp (fun o => { o with firmwareAuth := sha256 pubKey })) (upWith c)
    let s := begun c s₀
    (readyCmd 0x0701 0 7 s₀ = some c ∧ c.dep = .none) ∧ fld c.params 0 4 < 2 ∧
    s.inTrial = false ∧
    headerRefusal (c.params.drop 4) (privilegedChannel c s) true s = none ∧
    s.upd.session = none := by decide +kernel

theorem test_meets_updateFragment :
    let c := cmdOf 0x0702 0 7 (zeros 8 ++ zeros 1024)
    let s₀ := (fun s => s.modUpd (fun u => { u with session := some updSession })) (upWith c)
    let s := begun c s₀
    (readyCmd 0x0702 0 7 s₀ = some c ∧ c.dep = .none) ∧ zeroAt c.params 4 4 = true ∧
    s.upd.session = some updSession ∧
    fld c.params 0 4 < hdrFrags imageHeader ∧
    (c.params.drop 8).length = fragLen (hdrLen imageHeader) (fld c.params 0 4) ∧
    updSession.bitmap.contains (fld c.params 0 4) = false ∧
    fragSector imageHeader (fld c.params 0 4) < updSession.erased := by decide +kernel

theorem test_meets_updateActivate :
    let c := cmdOf 0x0704 0 7 (zeros 4)
    let s₀ := (fun s => s.modUpd (fun u => { u with session := some updSession, state := .ready })) (upWith c)
    let s := begun c s₀
    (readyCmd 0x0704 0 7 s₀ = some c ∧ c.dep = .none) ∧ zeroAt c.params 0 4 = true ∧
    s.upd.session = some updSession ∧
    s.upd.state = .ready ∧
    applySoon s = false := by decide +kernel

theorem test_meets_updateConfirm :
    let c := cmdOf 0x0705 0 7 (zeros 4)
    let s₀ := (fun s => s.modUpd (fun u => { u with boot := { u.boot with trial := some (1, 1) } })) (upWith c)
    let s := begun c s₀
    (readyCmd 0x0705 0 7 s₀ = some c ∧ c.dep = .none) ∧ zeroAt c.params 0 4 = true ∧
    s.upd.boot.trial = some (1, 1) ∧ (1 : Nat) ≠ 0 := by decide +kernel

theorem test_meets_updateAbort :
    let c := cmdOf 0x0706 0 7 (zeros 4)
    let s₀ := (fun s => s.modUpd (fun u => { u with state := .receiving })) (upWith c)
    let s := begun c s₀
    (readyCmd 0x0706 0 7 s₀ = some c ∧ c.dep = .none) ∧ zeroAt c.params 0 4 = true ∧
    s.upd.state = .receiving := by decide +kernel

theorem test_meets_imageStage :
    let c := cmdOf 0x0707 0 7 ([3, 0, 0, 0] ++ le 4 1)
    let s₀ := (fun s => s.modUpd (fun u => { u with images := [image1] })) (upWith c)
    let s := begun c s₀
    (readyCmd 0x0707 0 7 s₀ = some c ∧ c.dep = .none) ∧ fld c.params 0 1 = 3 ∧
    c.params.length = 8 ∧
    zeroAt c.params 1 3 = true ∧
    s.image (fld c.params 4 4) = some image1 ∧
    s.upd.rollouts.any (fun r => r.active && r.image == fld c.params 4 4) = false := by decide +kernel

theorem test_meets_imageRollout :
    let c := cmdOf 0x0708 0 7 ([3, 0, 0, 2] ++ le 4 1)
    let s₀ := (fun s => s.modUpd (fun u => { u with images := [image1], rollouts := [rollout1] })) (upWith c)
    let s := begun c s₀
    (readyCmd 0x0708 0 7 s₀ = some c ∧ c.dep = .none) ∧ fld c.params 0 1 = 3 ∧
    zeroAt c.params 1 1 = true ∧
    fld c.params 2 2 ≤ 512 ∧
    s.image (fld c.params 4 4) = some image1 ∧
    s.upd.rollouts.find? (fun r => r.image == fld c.params 4 4) = some rollout1 := by decide +kernel

theorem test_meets_keyRetire :
    let c := cmdOf 0x0802 0 7 (le 2 4351 ++ zeros 2)
    let s₀ := (fun s => s.modSec (fun k => { k with slots := [(4351, kekRec s)] })) (upWith c)
    let s := begun c s₀
    (readyCmd 0x0802 0 7 s₀ = some c ∧ c.dep = .none) ∧ zeroAt c.params 2 2 = true ∧
    s.inTrial = false ∧
    fld c.params 0 2 ≤ 4351 ∧
    s.occupied (fld c.params 0 2) = true := by decide +kernel

theorem test_meets_keyLoad :
    let c := cmdOf 0x0801 0 7 sealedLoad
    let s₀ := (fun s => s.modSec (fun k => { k with slots := [(4098, kekRec s), (4101, kekRec s)] })) (upWith c)
    let s := begun c s₀
    (readyCmd 0x0801 0 7 s₀ = some c ∧ c.dep = .none) ∧ keyLoadRefusal c s = none ∧
    (decKeyLoad c.params).method = 1 ∧
    s.slotRec (decKeyLoad c.params).kek = some (kekRec up) ∧
    bits (kekRec up).attr 23 16 = 3 ∧
    (unsealKey (decKeyLoad c.params) (kekRec up).key c.params (useKey (decKeyLoad c.params).kek s)).isSome = true := by decide +kernel

theorem test_meets_lifecycleAdvance :
    let c := cmdOf 0x0803 0 7 ([lcScrapped, 0, 0, 0].map byte ++ le 16 up.otp.unitId ++ zeros 128)
    let s₀ := upWith c
    let s := begun c s₀
    (readyCmd 0x0803 0 7 s₀ = some c ∧ c.dep = .none) ∧ lifecycleRefusal c s = none ∧
    c.flags.testBit flQuiet = false := by decide +kernel

theorem test_meets_tamperPolicySet :
    let c := cmdOf 0x0804 0 7 [8, byte (up.tamperSrc 8).policy, 0, 0]
    let s₀ := upWith c
    let s := begun c s₀
    (readyCmd 0x0804 0 7 s₀ = some c ∧ c.dep = .none) ∧ zeroAt c.params 2 2 = true ∧
    1 ≤ fld c.params 0 1 ∧ fld c.params 0 1 ≤ 8 ∧ fld c.params 0 1 ≠ 7 ∧
    1 ≤ fld c.params 1 1 ∧ fld c.params 1 1 ≤ 3 ∧
    (s.tamperSrc (fld c.params 0 1)).policy = fld c.params 1 1 := by decide +kernel

theorem test_meets_debugUnlock :
    let c := cmdOf 0x0805 0 7 [1, 0, 0, 0]
    let s₀ := (fun s => s.modOtp (fun o => { o with lifecycle := lcTest })) (upWith c)
    let s := begun c s₀
    (readyCmd 0x0805 0 7 s₀ = some c ∧ c.dep = .none) ∧ s.otp.lifecycle = lcTest ∧
    c.transport ≠ .dbg ∧
    fld c.params 0 1 = 1 ∧
    c.params.length = 4 ∧
    zeroAt c.params 1 3 = true := by decide +kernel

theorem test_meets_faultAck :
    let c := cmdOf 0x0902 0 7 (le 2 4 ++ zeros 2)
    let s₀ := (fun s => s.modPar (fun p => { p with pending := [entry1] })) (upWith c)
    let s := begun c s₀
    (readyCmd 0x0902 0 7 s₀ = some c ∧ c.dep = .none) ∧ zeroAt c.params 2 2 = true ∧
    fld c.params 0 2 ≠ 0xFFFF ∧
    s.par.pending.any (fun e => e.source == fld c.params 0 2) = true := by decide +kernel

theorem test_meets_eventRead :
    let c := cmdOf 0x0903 0 7 (zeros 4 ++ [126, 0, 0xFF, 0xFF])
    let s₀ := upWith c
    (readyCmd 0x0903 0 7 s₀ = some c ∧ c.dep = .none) ∧ 1 ≤ fld c.params 4 1 ∧ fld c.params 4 1 ≤ 126 := by decide +kernel

theorem test_meets_eventClear :
    let c := cmdOf 0x0904 0 7 [1, 0, 0, 0]
    let s₀ := upWith c
    (readyCmd 0x0904 0 7 s₀ = some c ∧ c.dep = .none) ∧ fld c.params 0 1 = 1 ∧
    c.params.length = 4 ∧
    zeroAt c.params 1 3 = true := by decide +kernel

theorem test_meets_eventRateSet :
    let c := cmdOf 0x0905 0 7 (le 2 evTimeHoldover ++ [1, 0] ++ le 4 100)
    let s₀ := upWith c
    (readyCmd 0x0905 0 7 s₀ = some c ∧ c.dep = .none) ∧ zeroAt c.params 3 1 = true ∧
    rateExempt (fld c.params 0 2) = false ∧
    1 ≤ fld c.params 2 1 ∧
    100 ≤ fld c.params 4 4 ∧ fld c.params 4 4 ≤ 86400000 := by decide +kernel

theorem test_meets_faultInject :
    let c := cmdOf 0x0906 0 7 (le 2 4 ++ [1, 1] ++ le 4 60000)
    let s₀ := upWith c
    (readyCmd 0x0906 0 7 s₀ = some c ∧ c.dep = .none) ∧ injectRefusal c.params = none := by decide +kernel

theorem test_meets_twinConfig :
    let c := { cmdOf 0x0A02 0 7 (le 4 30000 ++ [2, 0, 0, 0]) with role := 3 }
    let s₀ := upWith c
    let s := begun c s₀
    (readyCmd 0x0A02 0 7 s₀ = some c ∧ c.dep = .none) ∧ zeroAt c.params 5 3 = true ∧
    fld c.params 4 1 ≤ 3 ∧
    writeRefusal s c.role [(0x0A01, fld c.params 0 4), (0x0A00, fld c.params 4 1 % 2), (0x0A02, fld c.params 4 1 / 2)] = none := by decide +kernel

theorem test_meets_leaseYield :
    let c := cmdOf 0x0A03 0 7 [1, 0, 0, 0]
    let s₀ := upWith c
    (readyCmd 0x0A03 0 7 s₀ = some c ∧ c.dep = .none) ∧ fld c.params 0 1 = 1 ∧
    zeroAt c.params 1 3 = true := by decide +kernel

/-! ### Worked examples of the spec -/

/-- The ECHO example of chapter 2: the reply to tag 5 is 32 bytes, the first 28 as printed there, and its credit comes back. -/
theorem test_echo_example : (match exec (.echo 0 5) (upWith { cmdOf 1 0 5 [0x11, 0x22, 0x33, 0x44] with seq := 1 }) with
    | .next t => (match t.session 0 with
      | some x => x.credits == 512 && x.replies.length == 1 && x.replies.all (fun p => p.bytes.length == 32 && p.bytes.take 28 ==
        [0x11, 0x05, 0x01, 0x00, 0x00, 0x00, 0x00, 0x01, 0x00, 0x00, 0x01, 0x00, 0xFF, 0xFF, 0xFF, 0xFF, 0xFF, 0xFF, 0xFF, 0xFF,
          0x04, 0x00, 0x00, 0x00, 0x11, 0x22, 0x33, 0x44])
      | none => false)
    | _ => false) = true := by decide

/-- The check values of CRC-32C and CRC-32: of the nine digits, by the definition of these codes. -/
def nine : Bytes := [0x31, 0x32, 0x33, 0x34, 0x35, 0x36, 0x37, 0x38, 0x39]
set_option maxRecDepth 8192 in
theorem test_crc32c : crc32c nine = 0xE3069283 := rfl
set_option maxRecDepth 8192 in
theorem test_crc32 : crc32 nine = 0xCBF43926 := rfl

/-- Chapter 7's example: LD4 at 19,661 of 65,536 steps is 8 sub-periods with the pulses as printed. -/
theorem test_spread_example : subPulses 19661 3 = [2458, 2458, 2458, 2457, 2458, 2457, 2458, 2457] := by decide

/-- Chapter 7's example: halfway through an LSTAR fade from 0 to 32,768 the duty is 6,624. -/
theorem test_lstar_example : fadeDuty 3 0 32768 1 2 = 6624 := by decide

/-- Chapter 9's example: 29 February 2028 is a Tuesday (weekday 2), and the fallback day of a leap year's table. -/
theorem test_calendar_example : encCal (calOfSeconds (calSeconds { (default : Calendar) with
    year := 2028, month := 2, day := 29, hour := 18, minute := 0, second := 0 })) = [0xEC, 0x07, 0x02, 0x1D, 0x12, 0x00, 0x00, 0x02] := by decide

end Sys2Proof.Machine.Tests
end

section
/-! PROOFS. Chapter 1: settings, their commits and the pending sets (O12, O13, O55); CANCEL and the deadlines (O14); the commands of the
span (O19); what a COLD start leaves (O53); the entry to safe state (O54). -/

namespace Sys2Proof.Machine

/-! ### Commands whose turn has come: each executes its meaning in the state `begun` -/

theorem exec_settingRead_turn {sid tag : Nat} {c : LiveCmd} {s : State} (h : Turn 0x0005 sid tag c s) :
    exec (.settingRead sid tag) s = .next (settingRead c (begun c s)) := congrArg Host.Outcome.next (runCmd_turn settingRead h)
theorem exec_settingWrite_turn {sid tag : Nat} {c : LiveCmd} {s : State} (h : Turn 0x0006 sid tag c s) :
    exec (.settingWrite sid tag) s = .next (settingWrite c (begun c s)) := congrArg Host.Outcome.next (runCmd_turn settingWrite h)
theorem exec_settingCommit_turn {sid tag : Nat} {c : LiveCmd} {s : State} (h : Turn 0x0007 sid tag c s) :
    exec (.settingCommit sid tag) s = .next (settingCommit c (begun c s)) := congrArg Host.Outcome.next (runCmd_turn settingCommit h)
theorem exec_cancel_turn {sid tag : Nat} {c : LiveCmd} {s : State} (h : Turn 0x0008 sid tag c s) :
    exec (.cancel sid tag) s = .next (cancel c (begun c s)) := congrArg Host.Outcome.next (runCmd_turn cancel h)
theorem exec_spanStart_turn {sid tag : Nat} {c : LiveCmd} {s : State} (h : Turn 0x0301 sid tag c s) :
    exec (.spanStart sid tag) s = .next (spanStart c (begun c s)) := congrArg Host.Outcome.next (runCmd_turn spanStart h)
theorem exec_spanStop_turn {sid tag : Nat} {c : LiveCmd} {s : State} (h : Turn 0x0302 sid tag c s) :
    exec (.spanStop sid tag) s = .next (spanStop c (begun c s)) := congrArg Host.Outcome.next (runCmd_turn spanStop h)
theorem exec_regionProfileLoad_turn {sid tag : Nat} {c : LiveCmd} {s : State} (h : Turn 0x0309 sid tag c s) :
    exec (.regionProfileLoad sid tag) s = .next (regionLoad c (begun c s)) := congrArg Host.Outcome.next (runCmd_turn regionLoad h)
theorem exec_radioProfileLoad_turn {sid tag : Nat} {misoA misoB : Bytes} {c : LiveCmd} {s : State} (h : Turn 0x030B sid tag c s) :
    exec (.radioProfileLoad sid tag misoA misoB) s = .next (radioLoad misoA misoB c (begun c s)) :=
  congrArg Host.Outcome.next (runCmd_turn (radioLoad misoA misoB) h)
theorem exec_dwellStatus_turn {sid tag : Nat} {c : LiveCmd} {s : State} (h : Turn 0x030A sid tag c s) :
    exec (.dwellStatus sid tag) s = .next (dwellStatus c (begun c s)) := congrArg Host.Outcome.next (runCmd_turn dwellStatus h)

theorem begun_standby (c : LiveCmd) (s : State) : (begun c s).standby = s.standby := by
  simp only [State.standby, begun_twin]

/-! ### Settings as written, and the boundary of a block (R24, R26, R27, R32) -/

/-- A written value different from the live one, or pending, survives the synchronisation of the shadows. -/
theorem syncShadow_shadow_put {id v : Nat} {s : State} (h : v ≠ s.live id ∨ inPend s.set id = true) :
    (syncShadow (s.modSet (fun x => { x with shadow := put x.shadow id v }))).shadow id = v := by
  have hq : (v != (s.modSet (fun x => { x with shadow := put x.shadow id v })).live id
      || inPend (s.modSet (fun x => { x with shadow := put x.shadow id v })).set id) = true := by
    have hl : (s.modSet (fun x => { x with shadow := put x.shadow id v })).live id = s.live id := live_congr rfl rfl id
    rw [hl]
    simpa [inPend] using h
  simp only [State.shadow, syncShadow, State.modSet_set] at hq ⊢
  rw [get?_put_filter _ _ _ _ hq]

theorem writeOne_s {id v : Nat} {r : SettingInfo} {s : State} (hr : settingInfo id = some r) (hc : r.cls = .s) :
    writeOne id v s = syncShadow (s.modSet (fun x => { x with shadow := put x.shadow id v })) := by
  simp [writeOne, hr, hc]

theorem writeOne_atOnce {id v : Nat} {r : SettingInfo} {s : State} (hr : settingInfo id = some r) (hc : r.cls ≠ .s) :
    writeOne id v s = applySetting id v s := by
  simp [writeOne, hr, hc]

theorem live_unwritten {id : Nat} {s : State} (h : get? s.set.live id = none) : s.live id = settingReset s id := by
  simp [State.live, h]

/-- R27: the state in which the commands waiting on a block complete at its boundary. -/
def boundaryState (block : Nat) (p : PendSet) (s : State) : State :=
  let s := p.entries.foldl (fun s e => applySetting e.1 e.2 s) s
  let s := if block = 6 then clearPouts s else s
  syncShadow (s.modSet (fun x => { x with pend := x.pend.filter (fun q => q.block != block) }))

theorem applyBlock_pending {block : Nat} {cycle : Option Nat} {p : PendSet} {s : State} (h : pendOf s block = some p) :
    ∃ r, applyBlock block cycle s = commitDone block r (boundaryState block p s) := by
  simp only [applyBlock, h]
  exact ⟨_, rfl⟩

theorem applyBlock_none {block : Nat} {cycle : Option Nat} {s : State} (h : pendOf s block = none) :
    applyBlock block cycle s = s := by
  simp [applyBlock, h]

theorem boundaryState_live (block : Nat) (p : PendSet) (s : State) (id : Nat) :
    (boundaryState block p s).live id = (p.entries.foldl (fun s e => applySetting e.1 e.2 s) s).live id := by
  unfold boundaryState
  dsimp only
  rw [syncShadow_live]
  split
  · exact live_congr rfl rfl id
  · exact live_congr rfl rfl id

theorem boundaryState_pend (block : Nat) (p : PendSet) (s : State) :
    (boundaryState block p s).set.pend = s.set.pend.filter (fun q => q.block != block) := by
  have h := applySettings_pend p.entries s
  unfold boundaryState
  split <;> exact congrArg (List.filter _) h

/-- Settles O13: each class of write by what `writeOne` is for it, the boundary by the live values of the state it leaves. -/
theorem settingValuesReadBack : Obligations.SettingValuesReadBack := by
  unfold Obligations.SettingValuesReadBack
  refine ⟨?_, ?_, ?_, ?_, fun b cycle s h => applyBlock_none h⟩
  · intro id v r s hr hc
    rw [writeOne_s hr hc]
    exact ⟨fun j => (syncShadow_live j _).trans (live_congr rfl rfl j), syncShadow_shadow_put⟩
  · intro id v r s hr hc
    rw [writeOne_atOnce hr hc]
    refine ⟨by simp [applySetting_live], fun j hj => ?_⟩
    rw [applySetting_live, if_neg (Ne.symm hj)]
  · intro id s h
    exact live_unwritten h
  · intro b cycle p s h
    obtain ⟨r, hr⟩ := applyBlock_pending (cycle := cycle) h
    rw [hr, commitDone_set]
    refine ⟨fun id => ?_, boundaryState_pend b p s⟩
    rw [commitDone_live, boundaryState_live]
    exact applySettings_live p.entries id s

/-- Settles O12: each command executes in the state `begun`, which is on standby where the state before it was. -/
theorem settingCommands : Obligations.SettingCommands := by
  unfold Obligations.SettingCommands
  refine ⟨fun sid tag c s h => ?_, fun sid tag c s h => ?_, fun sid tag c s h => ?_⟩
  · rw [exec_settingRead_turn h]
    rfl
  · rw [exec_settingWrite_turn h]
    unfold settingWrite noteLocked
    simp only [Bool.not_eq_true', begun_standby] <;> rfl
  · rw [exec_settingCommit_turn h]
    unfold settingCommit commitBlock
    simp only [Bool.not_eq_true', begun_standby] <;> rfl

/-! ### CANCEL, the deadlines and the interim reply (R79 to R82) -/

/-- R79: with a command whose deadline has come the row ends it. -/
theorem exec_deadlineExpiry_due {sid tag : Nat} {c : LiveCmd} {s : State} (hf : s.fwUp = true)
    (hc : s.host.live.find? (fun c => c.sid == sid && c.tag == tag && decide (c.deadline ≤ s.now)) = some c) :
    exec (.deadlineExpiry sid tag) s = .next (timeout c (toRun s)) := by
  have h : exec (.deadlineExpiry sid tag) s = execDeadlineExpiry sid tag s := rfl
  rw [h, execDeadlineExpiry, hf, hc]
  rfl

/-- R79: while every deadline of the tag is ahead the row changes nothing. -/
theorem exec_deadlineExpiry_ahead {sid tag : Nat} {s : State}
    (h : ∀ c ∈ s.host.live, c.sid = sid → c.tag = tag → s.now < c.deadline) : exec (.deadlineExpiry sid tag) s = .next s := by
  have hn : s.host.live.find? (fun c => c.sid == sid && c.tag == tag && decide (c.deadline ≤ s.now)) = none := by
    rw [List.find?_eq_none]
    intro c hc hd
    simp only [Bool.and_eq_true, beq_iff_eq, decide_eq_true_eq] at hd
    obtain ⟨⟨hs, ht⟩, hd⟩ := hd
    exact absurd (h c hc hs ht) (Nat.not_lt.mpr hd)
  have he : exec (.deadlineExpiry sid tag) s = execDeadlineExpiry sid tag s := rfl
  rw [he, execDeadlineExpiry, hn]
  exact congrArg Host.Outcome.next (ite_self s)

/-- R80: the window of late completions of a command has run out. -/
theorem late_any_iff (seq : Nat) (s : State) :
    s.host.late.any (fun r => r.seq == seq && (match r.until_ with | some t => decide (t ≤ s.now) | none => false)) = true ↔
      ∃ r ∈ s.host.late, r.seq = seq ∧ ∃ t, r.until_ = some t ∧ t ≤ s.now := by
  rw [List.any_eq_true]
  refine exists_congr fun r => and_congr_right fun _ => ?_
  rw [Bool.and_eq_true, beq_iff_eq]
  refine and_congr_right fun _ => ?_
  cases r.until_ with
  | none => simp
  | some t => simp

/-- Settles O14, row by row; a begun command by what it waits for. -/
theorem cancelAndDeadlines : Obligations.CancelAndDeadlines := by
  unfold Obligations.CancelAndDeadlines
  refine ⟨fun sid tag c s h => ?_, fun d s h => ?_, fun d s h => ?_, fun sid tag c s hf hc => ?_,
    fun sid tag s h => exec_deadlineExpiry_ahead h, fun seq s => ?_, fun sid tag s => ?_⟩
  · rw [exec_cancel_turn h]
    unfold cancel fail
    simp only [Bool.not_eq_true'] <;> rfl
  · obtain h | h | h | h | h | h := h <;> rw [cancelBegun, h]
  · obtain h | h := h <;> rw [cancelBegun, h]
  · rw [exec_deadlineExpiry_due hf hc]
    unfold timeout fail
    simp only [Bool.not_eq_true'] <;> rfl
  · have he : exec (.lateAckWindowExpiry seq) s = execLateAckWindowExpiry seq s := rfl
    rw [he, execLateAckWindowExpiry]
    refine congrArg Host.Outcome.next ?_
    exact ite_congr (propext (late_any_iff seq s)) (fun _ => rfl) (fun _ => rfl)
  · have he : exec (.interimReplyTimer sid tag) s = execInterimReplyTimer sid tag s := rfl
    rw [he, execInterimReplyTimer]
    simp only [Bool.and_eq_true, Bool.not_eq_true', decide_eq_true_eq, and_assoc] <;> rfl

/-! ### The span (R197 to R199, R206, R207) -/

/-- Settles O19: the commands execute in the state `begun`; the two events are their own equations. -/
theorem spanCommands : Obligations.SpanCommands := by
  unfold Obligations.SpanCommands
  refine ⟨fun sid tag c s h => ?_, fun sid tag c s h => ?_, fun lateA lateB misoA misoB s => ?_, fun s => ?_, fun sid tag c s h => ?_,
    fun sid tag misoA misoB c s h => ?_, fun sid tag c s h => ?_⟩
  · rw [exec_spanStart_turn h]
    rfl
  · rw [exec_spanStop_turn h]
    rfl
  · rfl
  · rfl
  · rw [exec_regionProfileLoad_turn h]
    rfl
  · rw [exec_radioProfileLoad_turn h]
    rfl
  · rw [exec_dwellStatus_turn h]
    rfl

/-! ### The state after a reset (R31, R32) -/

/-- R32: a setting that no one has written stands at its Reset column after a COLD start. -/
theorem live_reset {id : Nat} {r : SettingInfo} (h : id ≠ 0x0111) (hr : settingInfo id = some r) : State.reset.live id = r.reset := by
  rw [live_unwritten rfl, settingReset, if_neg h, hr]

theorem session_reset (n : Nat) : State.reset.session n = none := by
  have h : State.reset.session n = ([none, none, none, none] : List (Option Session))[n]?.join := rfl
  rw [h]
  rcases n with _ | _ | _ | _ | n <;> rfl

/-- Settles O53: the fields as the state at reset spells them, every setting at its Reset column. -/
theorem resetLeaves : Obligations.ResetLeaves := by
  unfold Obligations.ResetLeaves
  refine ⟨rfl, rfl, rfl, fun id r h hr => ⟨live_reset h hr, live_reset h hr⟩, rfl, rfl, rfl, rfl, rfl, session_reset, rfl, rfl, rfl,
    rfl, rfl, rfl, rfl, rfl, rfl, rfl⟩

/-! What the frames of the model say of single parts. -/

theorem keptD_time {s t : State} (h : t.keptD = s.keptD) : t.time = s.time := congrArg (fun x => x.2.1) h
theorem keptD_set {s t : State} (h : t.keptD = s.keptD) : t.set = s.set := congrArg (fun x => x.2.2.2.1) h
theorem keptD_lamp {s t : State} (h : t.keptD = s.keptD) : t.lamp = s.lamp := congrArg (fun x => x.2.2.2.2.1) h
theorem keptG_set {s t : State} (h : t.keptG = s.keptG) : t.set = s.set := congrArg (fun x => x.2.2.1) h
theorem keptQ_set {s t : State} (h : t.keptQ = s.keptQ) : t.set = s.set := congrArg (fun x => x.2.1) h
theorem keptB_rtc {s t : State} (h : t.keptB = s.keptB) : t.rtc = s.rtc := congrArg (fun x => x.2.2.1) h
theorem keptB_live {s t : State} (h : t.keptB = s.keptB) (id : Nat) : t.live id = s.live id :=
  live_congr (congrArg (fun x => x.2.2.2.1.live) h) (congrArg (fun x => x.2.2.2.2.2.1) h) id
theorem keptB_sec {s t : State} (h : t.keptB = s.keptB) : t.sec = s.sec := congrArg (fun x => x.2.2.2.2.2.2.1) h
theorem keptH_set {s t : State} (h : t.keptH = s.keptH) : t.set = s.set := congrArg (fun x => x.2.2.1) h
theorem keptC_sec {s t : State} (h : t.keptC = s.keptC) : t.sec = s.sec := congrArg (fun x => x.2.2.1) h
theorem keptH_otp {s t : State} (h : t.keptH = s.keptH) : t.otp = s.otp := congrArg (fun x => x.2.2.2.2.2.2.2.2.1) h
theorem keptE_rtc {s t : State} (h : t.keptE = s.keptE) : t.rtc = s.rtc := congrArg (fun x => x.2.1) h

theorem startPulses_set (s : State) : (startPulses s).set = s.set := keptQ_set (startPulses_keptQ s)
theorem tamperFalse_set (source : Nat) (s : State) : (tamperFalse source s).set = s.set := keptD_set (tamperFalse_keptD source s)
theorem resetTimeUnit_set (s : State) : (resetTimeUnit s).set = s.set := by
  apply keptQ_set
  simp [resetTimeUnit, moveSecond]
theorem flushJoints_set (l : List Nat) (s : State) : (l.foldl (fun s j => flushJoint j s) s).set = s.set :=
  keptG_set (keptG_foldl _ (fun s j => flushJoint_keptG j s) l s)

/-- R31, R26: a reset leaves no pending set and no shadow entry. -/
theorem assertReset_set (type source session : Nat) (s : State) :
    (assertReset type source session s).set.pend = [] ∧ (assertReset type source session s).set.shadow = [] := by
  simp only [assertReset, resetTimeUnit_set, State.modBoot_set, State.modRtc_set, State.modBist_set, State.modUpd_set, State.modSec_set,
    tamperFalse_set, State.modTwin_set, startPulses_set, State.modMeter_set, State.modLamp_set, State.modTruss_set, State.modMac_set,
    flushJoints_set, State.modPwr_set, State.modPar_set, State.modHost_set, State.modSet_set, and_self]

theorem shadow_of_none {id : Nat} {s : State} (h : s.set.shadow = []) : s.shadow id = s.live id := by
  simp [State.shadow, h, get?]

/-- R31: the loss of the lease discards every pending set. -/
theorem loseLease_pend (s : State) : (loseLease s).set.pend = [] := rfl

/-! ### What safe state holds: kept by all that its entry does afterwards -/

/-- The parapet's part of what safe state holds. -/
def Parapet.held (p : Parapet) : Bool × List UcEntry × List Injection := (p.safe, p.pending, p.injections)

/-- What safe state holds in the parapet and on the twin's lines. -/
def State.held (s : State) : (Bool × List UcEntry × List Injection) × Bool × Bool × Bool :=
  (s.par.held, s.twin.latch, s.twin.leaseOut, s.twin.interlock)

/-- The same with the contactors and their agent. -/
def State.stance (s : State) : Fallback × (Bool × List UcEntry × List Injection) × Bool × Bool × Bool := (s.fb, s.held)

theorem stance_mk {s t : State} (hf : t.fb = s.fb) (hp : t.par.held = s.par.held) (ht : t.twin = s.twin) : t.stance = s.stance := by
  simp only [State.stance, State.held, hf, hp, ht]

theorem held_of_stance {s t : State} (h : t.stance = s.stance) : t.held = s.held := congrArg Prod.snd h

@[simp] theorem stance_modHost (s : State) (f) : (s.modHost f).stance = s.stance := rfl
@[simp] theorem stance_modMeter (s : State) (f) : (s.modMeter f).stance = s.stance := rfl
@[simp] theorem stance_modPwr (s : State) (f) : (s.modPwr f).stance = s.stance := rfl
@[simp] theorem stance_modJoint (j : Nat) (f : Joint → Joint) (s : State) : (modJoint j f s).stance = s.stance := rfl
@[simp] theorem stance_ite (c : Prop) [Decidable c] (a b : State) : (if c then a else b).stance = if c then a.stance else b.stance := by
  split <;> rfl
@[simp] theorem stance_foldl {α : Type} (f : State → α → State) (h : ∀ s x, (f s x).stance = s.stance) (l : List α) (s : State) :
    (l.foldl f s).stance = s.stance := by
  induction l generalizing s with
  | nil => rfl
  | cons a l ih => rw [List.foldl_cons, ih, h]

/-! The event recorder. -/

theorem stageAll_held (now : Nat) (p : Parapet) : (stageAll now p).held = p.held := by
  unfold stageAll
  dsimp only
  split <;> rfl

theorem createRec_held (now : Nat) (r : EventRec) (isFault : Bool) (p : Parapet) : (createRec now r isFault p).held = p.held := by
  unfold createRec
  dsimp only
  split
  · rfl
  · split
    · exact stageAll_held now _
    · rfl

theorem reportLost_held (s : State) (p : Parapet) : (reportLost s p).held = p.held := by
  unfold reportLost
  split
  · exact createRec_held s.now _ _ _
  · rfl

theorem noticeTo_par (dest : Option Nat) (code tag : Nat) (rec : Bytes) (s : State) : (noticeTo dest code tag rec s).par = s.par := by
  cases dest <;> rfl

/-- A record created after the loss report, with its bucket written (R447, R450). -/
theorem createRec_reportLost_held (now : Nat) (r : EventRec) (isFault : Bool) (b : List (Nat × Bucket)) (s : State) (p : Parapet) :
    (createRec now r isFault { reportLost s p with buckets := b }).held = p.held :=
  (createRec_held now r isFault _).trans (reportLost_held s p)

theorem recordEv_par_held (code source sev : Nat) (payload : Bytes) (dest : Option Nat) (tag : Nat) (s : State) :
    (recordEv code source sev payload dest tag s).par.held = s.par.held := by
  unfold recordEv
  dsimp only
  split
  · split
    · rw [noticeTo_par]
      exact createRec_reportLost_held _ _ _ _ s s.par
    · exact createRec_reportLost_held _ _ _ _ s s.par
  · split
    · rw [noticeTo_par]
      rfl
    · rfl

@[simp] theorem recordEv_stance (code source sev : Nat) (payload : Bytes) (dest : Option Nat) (tag : Nat) (s : State) :
    (recordEv code source sev payload dest tag s).stance = s.stance :=
  stance_mk (recordEv_fb ..) (recordEv_par_held ..) (recordEv_twin ..)
@[simp] theorem ev_stance (code : Nat) (payload : Bytes) (s : State) : (ev code payload s).stance = s.stance := recordEv_stance ..
@[simp] theorem evS_stance (sid tag code : Nat) (payload : Bytes) (s : State) : (evS sid tag code payload s).stance = s.stance :=
  recordEv_stance ..

/-! The completion of commands and the closing of sessions. -/

@[simp] theorem twinSend_stance (type : Nat) (payload : Bytes) (s : State) : (twinSend type payload s).stance = s.stance := by
  unfold twinSend
  split <;> rfl

@[simp] theorem modSession_stance (sid : Nat) (f : Session → Session) (s : State) : (s.modSession sid f).stance = s.stance := rfl

@[simp] theorem pushNotice_stance (sid : Nat) (build : Nat → Bytes) (s : State) : (pushNotice sid build s).stance = s.stance := rfl

@[simp] theorem giveCredits_stance (sid n : Nat) (s : State) : (giveCredits sid n s).stance = s.stance := by
  unfold giveCredits
  split
  · rfl
  · dsimp only
    split <;> rfl

@[simp] theorem creditNotice_stance (sid : Nat) (s : State) : (creditNotice sid s).stance = s.stance := by
  unfold creditNotice
  split
  · rfl
  · split <;> rfl

@[simp] theorem checkBacklog_stance (sid : Nat) (s : State) : (checkBacklog sid s).stance = s.stance := by
  unfold checkBacklog
  split
  · rfl
  · simp

@[simp] theorem complete_stance (c : LiveCmd) (status detail : Nat) (params : Bytes) (s : State) :
    (complete c status detail params s).stance = s.stance := by
  simp [complete, pushBare]

@[simp] theorem completeAll_stance (p : LiveCmd → Bool) (status detail : Nat) (params : Bytes) (s : State) :
    (completeAll p status detail params s).stance = s.stance :=
  stance_foldl _ (fun s c => complete_stance c status detail params s) _ s

@[simp] theorem closeSession_stance (sid : Nat) (s : State) : (closeSession sid s).stance = s.stance := by
  unfold closeSession
  split
  · rfl
  · exact completeAll_stance ..

@[simp] theorem closeSessions_stance (p : Session → Bool) (s : State) : (closeSessions p s).stance = s.stance := by
  refine stance_foldl _ (fun s sid => ?_) _ s
  split
  · split
    · exact closeSession_stance sid s
    · rfl
  · rfl

/-! The flush of the meter's totals. -/

@[simp] theorem crossNote_stance (j code : Nat) (payload : Bytes) (s : State) : (crossNote j code payload s).stance = s.stance := by
  simp [crossNote]

@[simp] theorem startPulse_stance (k : Nat) (s : State) : (startPulse k s).stance = s.stance := by
  unfold startPulse
  split
  · rfl
  · split <;> rfl

@[simp] theorem duePulses_stance (k n : Nat) (s : State) : (duePulses k n s).stance = s.stance := by
  unfold duePulses
  split
  · rfl
  · simp

@[simp] theorem feedPout_stance (k r x : Nat) (s : State) : (feedPout k r x s).stance = s.stance := by
  unfold feedPout
  split
  · rfl
  · simp

@[simp] theorem addEnergy_stance (r x : Nat) (s : State) : (addEnergy r x s).stance = s.stance := by
  simp [addEnergy]

@[simp] theorem routePair_stance (r : Nat) (x : Int) (s : State) : (routePair r x s).stance = s.stance := by
  simp [routePair]

@[simp] theorem routeCycle_stance (ph : Nat) (e : CycleEnergy) (s : State) : (routeCycle ph e s).stance = s.stance := by
  simp [routeCycle]

@[simp] theorem routePhase_stance (ph until_ : Nat) (s : State) : (routePhase ph until_ s).stance = s.stance := by
  simp [routePhase]

@[simp] theorem flushNow_stance (s : State) : (flushNow s).stance = s.stance := by
  simp [flushNow, saveTotals, writeCopy, closeTotals, routeTotal]

/-! ### The sequencer takes control (R324, R328) -/

@[simp] theorem autoStart_stance (s : State) : (autoStart s).stance = s.stance := by
  unfold autoStart
  split <;> rfl

/-- The contactors after one of them has taken a level. -/
def levelled (k : Nat) (level : Bool) (f : Fallback) : Fallback :=
  if f.cont[k]? = some level then f else { f with cont := modAt f.cont k (fun _ => level) }

/-- The contactors after one of them was driven to what the table gives it; HOLD leaves it. -/
def drivenTo (k : Nat) : Option (Bool × Nat × Nat × Nat) → Fallback → Fallback
  | none, f => f
  | some r, f => levelled k r.1 f

/-- Contactor control in the sequencer's hands. -/
def sequenced (f : Fallback) : Fallback := if f.agent = .sequencer then f else { f with agent := .sequencer, keepalive := none }

theorem setContactor_stance (k : Nat) (level : Bool) (s : State) : (setContactor k level s).stance = (levelled k level s.fb, s.held) := by
  unfold setContactor levelled
  split
  · rfl
  · dsimp only
    split
    · rw [autoStart_stance]
      rfl
    · split <;> rfl

theorem fallbackDrive_stance (k : Nat) (s : State) :
    (fallbackDrive k s).stance = (drivenTo k (fallbackResult s k) s.fb, s.held) := by
  unfold fallbackDrive
  cases fallbackResult s k with
  | none => rfl
  | some r =>
    dsimp only
    split
    · rename_i h
      rw [drivenTo, levelled, if_pos h]
      rfl
    · rw [ev_stance, setContactor_stance]
      rfl

theorem takeControl_sequencer_stance (s : State) : (takeControl .sequencer s).stance = (sequenced s.fb, s.held) := by
  unfold takeControl sequenced
  split
  · rfl
  · rw [ev_stance]
    rfl

theorem seqTakes_held (s : State) : (seqTakes s).held = s.held := by
  have hc : (takeControl .sequencer s).held = s.held := congrArg Prod.snd (takeControl_sequencer_stance s)
  have hd : ∀ k u, (fallbackDrive k u).held = u.held := fun k u => congrArg Prod.snd (fallbackDrive_stance k u)
  unfold seqTakes fallbackEval
  split
  · rfl
  · split
    · exact hc
    · rw [hd, hd, hc]

/-! The sequencer's decision depends on the contactors, the table, the RTC and FALLBACK_NO_TIME alone. -/

/-- Two states in which the fallback sequencer decides alike: the contactors, the table, the RTC and the no-time rule (R327, R329). -/
def SameTable (s t : State) : Prop := t.fb = s.fb ∧ t.rtc = s.rtc ∧ t.live 0x0114 = s.live 0x0114

theorem fallbackResult_congr {s t : State} (h : SameTable s t) (k : Nat) : fallbackResult t k = fallbackResult s k := by
  obtain ⟨hf, hr, hl⟩ := h
  have htable : fbTable t = fbTable s := by simp only [fbTable, hf]
  have hclock : rtcOk t = rtcOk s := by unfold rtcOk State.utcSec; rw [hr]
  have hlocal : tableLocal t = tableLocal s := by unfold tableLocal State.utcSec; rw [hr]
  unfold fallbackResult
  rw [htable, hclock, hlocal, hl]

theorem fallbackDrive_sameTable {s t : State} (h : SameTable s t) (k : Nat) : SameTable (fallbackDrive k s) (fallbackDrive k t) := by
  have hd : ∀ u, (fallbackDrive k u).fb = drivenTo k (fallbackResult u k) u.fb := fun u => congrArg Prod.fst (fallbackDrive_stance k u)
  have hr : ∀ u, (fallbackDrive k u).rtc = u.rtc := fun u => keptB_rtc (fallbackDrive_keptB k u)
  have hl : ∀ u, (fallbackDrive k u).live 0x0114 = u.live 0x0114 := fun u => keptB_live (fallbackDrive_keptB k u) _
  have hresult := fallbackResult_congr h k
  obtain ⟨hfb, hrtc, hlive⟩ := h
  exact ⟨by rw [hd, hd, hresult, hfb], by rw [hr, hr, hrtc], by rw [hl, hl, hlive]⟩

theorem takeControl_sameTable {s t : State} (h : SameTable s t) : SameTable (takeControl .sequencer s) (takeControl .sequencer t) := by
  have hc : ∀ u, (takeControl .sequencer u).fb = sequenced u.fb := fun u => congrArg Prod.fst (takeControl_sequencer_stance u)
  have hr : ∀ u, (takeControl .sequencer u).rtc = u.rtc := fun u => keptB_rtc (takeControl_keptB _ u)
  have hl : ∀ u, (takeControl .sequencer u).live 0x0114 = u.live 0x0114 := fun u => keptB_live (takeControl_keptB _ u) _
  obtain ⟨hfb, hrtc, hlive⟩ := h
  exact ⟨by rw [hc, hc, hfb], by rw [hr, hr, hrtc], by rw [hl, hl, hlive]⟩

theorem seqTakes_fb_congr {s t : State} (h : SameTable s t) : (seqTakes t).fb = (seqTakes s).fb := by
  have hc := takeControl_sameTable h
  unfold seqTakes fallbackEval
  rw [h.1, hc.1]
  split
  · exact h.1
  · split
    · exact hc.1
    · exact (fallbackDrive_sameTable (fallbackDrive_sameTable hc 0) 1).1

theorem levelled_agent (k : Nat) (level : Bool) (f : Fallback) : (levelled k level f).agent = f.agent := by
  unfold levelled
  split <;> rfl

theorem drivenTo_agent (k : Nat) (r : Option (Bool × Nat × Nat × Nat)) (f : Fallback) : (drivenTo k r f).agent = f.agent := by
  cases r with
  | none => rfl
  | some r => exact levelled_agent k r.1 f

/-- R324: the sequencer holds contactor control after it has taken it. -/
theorem seqTakes_agent (s : State) : (seqTakes s).fb.agent = .sequencer := by
  have hc : (takeControl .sequencer s).fb.agent = .sequencer := by
    rw [show (takeControl .sequencer s).fb = sequenced s.fb from congrArg Prod.fst (takeControl_sequencer_stance s), sequenced]
    split
    · assumption
    · rfl
  have hd : ∀ k u, (fallbackDrive k u).fb.agent = u.fb.agent := fun k u =>
    (congrArg (fun x => x.1.agent) (fallbackDrive_stance k u)).trans (drivenTo_agent ..)
  unfold seqTakes fallbackEval
  split
  · assumption
  · split
    · exact hc
    · rw [hd, hd, hc]

theorem seqTakes_of_sequencer {s : State} (h : s.fb.agent = .sequencer) : seqTakes s = s := if_pos h

theorem seqTakes_keeps (s : State) : (seqTakes s).time = s.time ∧ (seqTakes s).set = s.set ∧ (seqTakes s).lamp = s.lamp ∧
    (seqTakes s).sec = s.sec :=
  have k := seqTakes_keptD s
  ⟨keptD_time k, keptD_set k, keptD_lamp k, keptB_sec (seqTakes_keptB s)⟩

/-! ### Sessions by their transports -/

/-- The transport of a session that is open. -/
def State.carrier (s : State) (n : Nat) : Option Transport := (s.session n).map (·.transport)

theorem getElem?_modAt {α : Type} (l : List α) (k n : Nat) (f : α → α) :
    (modAt l k f)[n]? = if n = k then l[n]?.map f else l[n]? := by
  induction l generalizing k n with
  | nil => simp [modAt]
  | cons a l ih =>
    cases k with
    | zero => cases n <;> simp [modAt]
    | succ k => cases n <;> simp [modAt, ih]

theorem modSession_carrier {sid : Nat} {f : Session → Session} (hf : ∀ x, (f x).transport = x.transport) (s : State) (n : Nat) :
    (s.modSession sid f).carrier n = s.carrier n := by
  simp only [State.carrier, State.session, State.modSession, State.modHost_host, getElem?_modAt]
  split
  · rcases s.host.sessions[n]? with _ | _ | x <;> simp [hf]
  · rfl

theorem carrier_congr {s t : State} (h : t.host.sessions = s.host.sessions) (n : Nat) : t.carrier n = s.carrier n := by
  simp only [State.carrier, State.session, h]

theorem pushNotice_carrier (sid : Nat) (build : Nat → Bytes) (s : State) (n : Nat) : (pushNotice sid build s).carrier n = s.carrier n :=
  modSession_carrier (fun x => by split <;> rfl) s n

theorem giveCredits_carrier (sid k : Nat) (s : State) (n : Nat) : (giveCredits sid k s).carrier n = s.carrier n := by
  unfold giveCredits
  split
  · rfl
  · dsimp only
    split
    · exact (carrier_congr rfl n).trans (modSession_carrier (by intros; rfl) s n)
    · exact modSession_carrier (by intros; rfl) s n

theorem creditNotice_carrier (sid : Nat) (s : State) (n : Nat) : (creditNotice sid s).carrier n = s.carrier n := by
  unfold creditNotice
  split
  · rfl
  · split
    · exact pushNotice_carrier ..
    · rfl

theorem noticeTo_carrier (dest : Option Nat) (code tag : Nat) (rec : Bytes) (s : State) (n : Nat) :
    (noticeTo dest code tag rec s).carrier n = s.carrier n := by
  unfold noticeTo
  cases dest with
  | some sid => exact pushNotice_carrier ..
  | none => simp only [List.foldl_cons, List.foldl_nil, pushNotice_carrier]

theorem recordEv_carrier (code source sev : Nat) (payload : Bytes) (dest : Option Nat) (tag : Nat) (s : State) (n : Nat) :
    (recordEv code source sev payload dest tag s).carrier n = s.carrier n := by
  unfold recordEv
  dsimp only
  split
  · split
    · rw [noticeTo_carrier]
      exact carrier_congr rfl n
    · exact carrier_congr rfl n
  · split
    · rw [noticeTo_carrier]
      exact carrier_congr rfl n
    · exact carrier_congr rfl n

theorem checkBacklog_carrier (sid : Nat) (s : State) (n : Nat) : (checkBacklog sid s).carrier n = s.carrier n := by
  unfold checkBacklog
  split
  · rfl
  · dsimp only
    split
    · exact (recordEv_carrier ..).trans (modSession_carrier (by intros; rfl) s n)
    · split
      · exact (recordEv_carrier ..).trans (modSession_carrier (by intros; rfl) s n)
      · rfl

theorem twinSend_carrier (type : Nat) (payload : Bytes) (s : State) (n : Nat) : (twinSend type payload s).carrier n = s.carrier n := by
  unfold twinSend
  split <;> rfl

/-- R50: a completion opens no session and closes none. -/
theorem complete_carrier (c : LiveCmd) (status detail : Nat) (params : Bytes) (s : State) (n : Nat) :
    (complete c status detail params s).carrier n = s.carrier n := by
  have hj : (if s.twin.latch && journalOp c.opcode then twinSend 0x0B (journalEntry 2 c status) (s.modHost (retire c status))
      else s.modHost (retire c status)).carrier n = s.carrier n := by
    split
    · exact (twinSend_carrier ..).trans (carrier_congr rfl n)
    · exact carrier_congr rfl n
  unfold complete
  dsimp only
  split
  · exact (carrier_congr rfl n).trans hj
  · split
    · exact hj
    · rw [checkBacklog_carrier]
      split
      · rw [creditNotice_carrier, giveCredits_carrier, modSession_carrier (by intros; rfl)]
        exact hj
      · rw [modSession_carrier (by intros; rfl), giveCredits_carrier, modSession_carrier (by intros; rfl)]
        exact hj

theorem completeAll_carrier (p : LiveCmd → Bool) (status detail : Nat) (params : Bytes) (s : State) (n : Nat) :
    (completeAll p status detail params s).carrier n = s.carrier n := by
  unfold completeAll
  induction s.host.live.filter p generalizing s with
  | nil => rfl
  | cons c l ih => rw [List.foldl_cons, ih, complete_carrier]

/-- R47: closing a session leaves the others open. -/
theorem closeSession_carrier (sid : Nat) (s : State) (n : Nat) :
    (closeSession sid s).carrier n = if n = sid then none else s.carrier n := by
  unfold closeSession
  split
  · rename_i hs
    split
    · rename_i hn
      simp only [State.carrier, hn, hs, Option.map_none]
    · rfl
  · rw [← completeAll_carrier (fun c => c.sid == sid && !c.begun) stCancelled dNone [] s n]
    simp only [State.carrier, State.session, State.modHost_host, getElem?_modAt]
    split
    · rcases (completeAll _ _ _ _ s).host.sessions[n]? with _ | x <;> rfl
    · rfl

/-- One step of `closeSessions`: session `sid` closes if the condition names it. -/
def closeIf (p : Session → Bool) (sid : Nat) (s : State) : State :=
  match s.session sid with
  | some x => if p x then closeSession sid s else s
  | none => s

theorem closeSessions_eq_closeIf (p : Session → Bool) (s : State) :
    closeSessions p s = [0, 1, 2, 3].foldl (fun s sid => closeIf p sid s) s := rfl

/-- A session on Ethernet, as `enterSafe` names it. -/
def onEth (x : Session) : Bool := x.transport == .eth

theorem closeIf_onEth_carrier {sid n : Nat} {s : State} (h : n = sid ∨ s.carrier n ≠ some .eth) :
    (closeIf onEth sid s).carrier n ≠ some .eth := by
  unfold closeIf
  split
  · rename_i x hx
    split
    · rw [closeSession_carrier]
      split
      · exact nofun
      · exact h.resolve_left ‹_›
    · rename_i hp
      obtain rfl | h := h
      · simpa [State.carrier, hx, onEth] using hp
      · exact h
  · rename_i hx
    obtain rfl | h := h
    · simp [State.carrier, hx]
    · exact h

theorem closeIf_onEth_foldl_carrier {n : Nat} (l : List Nat) {s : State} (h : n ∈ l ∨ s.carrier n ≠ some .eth) :
    (l.foldl (fun s sid => closeIf onEth sid s) s).carrier n ≠ some .eth := by
  induction l generalizing s with
  | nil => exact h.resolve_left List.not_mem_nil
  | cons sid l ih =>
    refine ih ?_
    obtain h | h := h
    · exact (List.mem_cons.mp h).elim (fun e => .inr (closeIf_onEth_carrier (.inl e))) .inl
    · exact .inr (closeIf_onEth_carrier (.inr h))

/-- Table 14.2: no Ethernet session stays open. -/
theorem closeSessions_onEth_carrier {n : Nat} (hn : n < 4) (s : State) : (closeSessions onEth s).carrier n ≠ some .eth := by
  rw [closeSessions_eq_closeIf]
  refine closeIf_onEth_foldl_carrier _ (.inl ?_)
  simp only [List.mem_cons, List.not_mem_nil]
  omega

/-! ### The entry to safe state in its parts -/

/-- `TW_LEASE_OUT` falls, with its record (R371). -/
def leaseReleased (s : State) : State := (if s.twin.latch && s.twin.interlock then ev evLeaseReleased [] else id) (dropLeaseOut s)

/-- First the entry is recorded and the lease released (Table 14.2). -/
def safeAnnounced (code source index : Nat) (s : State) : State :=
  leaseReleased (recordEv evSafeStateEntered sourceModule sevCritical (le 2 code ++ le 2 source ++ le 4 index ++ zeros 6) none 0 (toRun s))

/-- Then the parapet holds safe state, `LD_EN` falls, the keystone empties, pending sets go and span time leaves LOCKED (Table 14.2). -/
def safeLatched (s : State) : State :=
  let s := s.modPar (fun p => { p with safe := true, safeSince := s.now, safeOwed := none, pending := [], injections := [] })
  toHoldover (dropPend ((refreshLdEn s).modSec (fun k => { k with keystone := none })))

/-- The totals are flushed where the datapath runs (R347). -/
def totalsSafe (s : State) : State := if s.meter.active then flushNow s else s

/-- The pulse outputs fall idle, the radio attempts end and the records are staged. -/
def outputsSafe (s : State) : State :=
  let s := s.modMeter (fun m => { m with pouts := m.pouts.map (fun o => { o with phase := 0 }) })
  let s := s.modMac (fun m => { m with attempts := [] })
  s.modPar (stageAll s.now)

/-- After the sequencer has taken control: the totals, the outputs, the Ethernet sessions and the window (Table 14.2). -/
def safeQuieted (s : State) : State :=
  (closeSessions onEth (outputsSafe (totalsSafe s))).modHost (fun h => { h with win := { h.win with causeSafe := true } })

theorem enterSafe_enters {code source index : Nat} {s : State} (hs : s.par.safe = false) (hp : s.pwr.stopped = false) :
    enterSafe code source index s = safeQuieted (seqTakes (safeLatched (safeAnnounced code source index s))) := by
  unfold enterSafe
  rw [hs, hp]
  rfl

/-- Table 12.11: while the clocks of the DECK are stopped the FT is kept and asks for a shallower state. -/
theorem enterSafe_stopped {code source index : Nat} {s : State} (hs : s.par.safe = false) (hp : s.pwr.stopped = true) :
    enterSafe code source index s =
      (s.modPar (fun p => { p with safeOwed := some (p.safeOwed.getD (code, source, index)) })).modPwr (fun p => { p with
        wakePending := true }) := by
  unfold enterSafe
  rw [hs, hp]
  rfl

theorem enterSafe_again {code source index : Nat} {s : State} (hs : s.par.safe = true) : enterSafe code source index s = s := by
  unfold enterSafe
  rw [if_pos hs]

theorem refreshLdEn_safe {s : State} (h : s.par.safe = true) : (refreshLdEn s).lamp.ldEn = false := by
  simp [refreshLdEn, h]

theorem leaseReleased_twin (s : State) : (leaseReleased s).twin = (dropLeaseOut s).twin := by
  unfold leaseReleased
  split
  · exact ev_twin ..
  · rfl

theorem leaseReleased_keptX (s : State) : (leaseReleased s).keptX = s.keptX := by
  unfold leaseReleased
  split
  · exact (ev_keptX ..).trans (dropLeaseOut_keptX s)
  · exact dropLeaseOut_keptX s

theorem toHoldover_stance (s : State) : (toHoldover s).stance = s.stance := by
  unfold toHoldover
  split
  · exact (ev_stance _ _ _).trans rfl
  · rfl

theorem toHoldover_not_locked (s : State) : (toHoldover s).time.state ≠ .locked := by
  unfold toHoldover
  split
  · rw [ev_time]
    exact nofun
  · assumption

theorem toHoldover_lamp (s : State) : (toHoldover s).lamp = s.lamp := by
  unfold toHoldover
  split
  · exact ev_lamp ..
  · rfl

/-! What holds before the sequencer takes control. -/

theorem safeAnnounced_twin (code source index : Nat) (s : State) : (safeAnnounced code source index s).twin = (dropLeaseOut s).twin := by
  unfold safeAnnounced
  rw [leaseReleased_twin]
  simp [dropLeaseOut]

theorem safeAnnounced_keeps (code source index : Nat) (s : State) : (safeAnnounced code source index s).fb = s.fb ∧
    (safeAnnounced code source index s).rtc = s.rtc ∧ ∀ id, (safeAnnounced code source index s).live id = s.live id := by
  unfold safeAnnounced
  have k := leaseReleased_keptX
    (recordEv evSafeStateEntered sourceModule sevCritical (le 2 code ++ le 2 source ++ le 4 index ++ zeros 6) none 0 (toRun s))
  refine ⟨?_, ?_, live_congr ?_ ?_⟩
  · rw [keptX_fb k, recordEv_fb, toRun_fb]
  · rw [keptX_rtc k, recordEv_rtc, toRun_rtc]
  · rw [keptX_set k, recordEv_set, toRun_set]
  · rw [keptX_otp k, recordEv_otp, toRun_otp]

theorem safeLatched_stance (s : State) :
    (safeLatched s).stance = (s.fb, (true, [], []), s.twin.latch, s.twin.leaseOut, s.twin.interlock) :=
  (toHoldover_stance _).trans rfl

theorem safeLatched_rtc (s : State) : (safeLatched s).rtc = s.rtc := (keptE_rtc (toHoldover_keptE _)).trans rfl
theorem safeLatched_live (s : State) (id : Nat) : (safeLatched s).live id = s.live id :=
  live_congr (congrArg SettingsSt.live ((keptH_set (toHoldover_keptH _)).trans rfl)) ((keptH_otp (toHoldover_keptH _)).trans rfl) id
theorem safeLatched_pend (s : State) : (safeLatched s).set.pend = [] :=
  (congrArg SettingsSt.pend (keptH_set (toHoldover_keptH _))).trans rfl
theorem safeLatched_keystone (s : State) : (safeLatched s).sec.keystone = none :=
  (congrArg SecSt.keystone (keptC_sec (toHoldover_keptC _))).trans rfl
theorem safeLatched_ldEn (s : State) : (safeLatched s).lamp.ldEn = false := by
  unfold safeLatched
  dsimp only
  rw [toHoldover_lamp]
  exact refreshLdEn_safe rfl
theorem safeLatched_not_locked (s : State) : (safeLatched s).time.state ≠ .locked := toHoldover_not_locked _

/-- The sequencer decides on entry as it would have before it. -/
theorem safeLatched_sameTable (code source index : Nat) (s : State) : SameTable s (safeLatched (safeAnnounced code source index s)) := by
  obtain ⟨hf, hr, hl⟩ := safeAnnounced_keeps code source index s
  exact ⟨(congrArg Prod.fst (safeLatched_stance _)).trans hf, (safeLatched_rtc _).trans hr, (safeLatched_live ..).trans (hl _)⟩

/-! What the last part brings about and leaves alone. -/

theorem totalsSafe_stance (s : State) : (totalsSafe s).stance = s.stance := by
  unfold totalsSafe
  split
  · exact flushNow_stance s
  · rfl
theorem totalsSafe_keptD (s : State) : (totalsSafe s).keptD = s.keptD := by
  unfold totalsSafe
  split
  · exact flushNow_keptD s
  · rfl
theorem totalsSafe_sec (s : State) : (totalsSafe s).sec = s.sec := by
  unfold totalsSafe
  split
  · exact keptC_sec (flushNow_keptC s)
  · rfl

theorem outputsSafe_stance (s : State) : (outputsSafe s).stance = s.stance := stance_mk rfl (stageAll_held s.now s.par) rfl

theorem outputsSafe_time (s : State) : (outputsSafe s).time = s.time := rfl
theorem outputsSafe_set (s : State) : (outputsSafe s).set = s.set := rfl
theorem outputsSafe_lamp (s : State) : (outputsSafe s).lamp = s.lamp := rfl
theorem outputsSafe_sec (s : State) : (outputsSafe s).sec = s.sec := rfl

theorem safeQuieted_stance (s : State) : (safeQuieted s).stance = s.stance := by
  rw [safeQuieted, stance_modHost, closeSessions_stance, outputsSafe_stance, totalsSafe_stance]

theorem safeQuieted_keeps (s : State) : (safeQuieted s).time = s.time ∧ (safeQuieted s).set = s.set ∧ (safeQuieted s).lamp = s.lamp ∧
    (safeQuieted s).sec = s.sec := by
  have k := totalsSafe_keptD s
  rw [safeQuieted, State.modHost_time, State.modHost_set, State.modHost_lamp, State.modHost_sec, closeSessions_time, closeSessions_set,
    closeSessions_lamp, closeSessions_sec, outputsSafe_time, outputsSafe_set, outputsSafe_lamp, outputsSafe_sec]
  exact ⟨keptD_time k, keptD_set k, keptD_lamp k, totalsSafe_sec s⟩

theorem safeQuieted_attempts (s : State) : (safeQuieted s).mac.attempts = [] := by
  rw [safeQuieted, State.modHost_mac, closeSessions_mac]
  rfl

theorem safeQuieted_pouts (s : State) : ∀ o ∈ (safeQuieted s).meter.pouts, o.phase = 0 := by
  rw [safeQuieted, State.modHost_meter, closeSessions_meter]
  intro o ho
  obtain ⟨_, -, rfl⟩ := List.mem_map.mp ho
  rfl

theorem safeQuieted_transport {s : State} {n : Nat} {x : Session} (hn : n < 4) (hx : (safeQuieted s).session n = some x) :
    x.transport ≠ .eth := by
  have hs : (safeQuieted s).host.sessions = (closeSessions onEth (outputsSafe (totalsSafe s))).host.sessions := by
    rw [safeQuieted, State.modHost_host]
  have hc : (safeQuieted s).carrier n = some x.transport := by simp only [State.carrier, hx, Option.map_some]
  have h := closeSessions_onEth_carrier hn (outputsSafe (totalsSafe s))
  rw [← carrier_congr hs, hc] at h
  exact fun he => h (congrArg some he)

/-- What safe state holds once it is entered. -/
theorem enterSafe_stance {code source index : Nat} {s : State} (hs : s.par.safe = false) (hp : s.pwr.stopped = false) :
    (enterSafe code source index s).stance =
      ((seqTakes s).fb, (true, [], []), s.twin.latch, false, s.twin.interlock && !s.twin.latch) := by
  have hf := seqTakes_fb_congr (safeLatched_sameTable code source index s)
  have hh := (seqTakes_held (safeLatched (safeAnnounced code source index s))).trans (congrArg Prod.snd (safeLatched_stance _))
  rw [safeAnnounced_twin] at hh
  rw [enterSafe_enters hs hp, safeQuieted_stance, State.stance, hf, hh]
  rfl

/-- The parts that the entry sets once and no later step of it touches. -/
theorem enterSafe_parts {code source index : Nat} {s : State} (hs : s.par.safe = false) (hp : s.pwr.stopped = false) :
    (enterSafe code source index s).set.pend = [] ∧ (enterSafe code source index s).lamp.ldEn = false ∧
    (enterSafe code source index s).sec.keystone = none ∧ (enterSafe code source index s).time.state ≠ .locked := by
  obtain ⟨ht, hset, hl, hsec⟩ := safeQuieted_keeps (seqTakes (safeLatched (safeAnnounced code source index s)))
  obtain ⟨ht', hset', hl', hsec'⟩ := seqTakes_keeps (safeLatched (safeAnnounced code source index s))
  rw [enterSafe_enters hs hp, ht, hset, hl, hsec, ht', hset', hl', hsec']
  exact ⟨safeLatched_pend _, safeLatched_ldEn _, safeLatched_keystone _, safeLatched_not_locked _⟩

/-- Settles O54: what the parts of the entry establish, each left alone by the parts after it. -/
theorem safeStateEntry : Obligations.SafeStateEntry := by
  unfold Obligations.SafeStateEntry
  refine ⟨fun code source index s hs hp => ?_, fun code source index s hs hp => ?_, fun code source index s hs => enterSafe_again hs⟩
  · have hstance := enterSafe_stance (code := code) (source := source) (index := index) hs hp
    simp only [State.stance, State.held, Parapet.held, Prod.mk.injEq] at hstance
    obtain ⟨hfb, ⟨hsafe, hpending, hinj⟩, -, hout, hlock⟩ := hstance
    obtain ⟨hpend, hld, hkey, htime⟩ := enterSafe_parts (code := code) (source := source) (index := index) hs hp
    refine ⟨hsafe, hpending, hinj, hpend, hld, hkey, hout, fun hl => ?_, ?_, ?_, fun ha => ?_, htime, ?_⟩
    · rw [hlock, hl, Bool.not_true, Bool.and_false]
    · rw [hfb, seqTakes_agent]
    · rw [hfb]
    · rw [hfb, seqTakes_of_sequencer ha]
    · rw [enterSafe_enters hs hp]
      exact ⟨safeQuieted_attempts _, safeQuieted_pouts _, fun n x hn hx => safeQuieted_transport hn hx, rfl⟩
  · rw [enterSafe_stopped hs hp]
    exact ⟨hs, rfl, rfl⟩

/-- Settles O55: the entry by its parts, a reset by the settings it leaves, the loss of the lease by what it drops. -/
theorem pendingSetsDiscarded : Obligations.PendingSetsDiscarded := by
  unfold Obligations.PendingSetsDiscarded
  refine ⟨fun code source index s hs hp => (enterSafe_parts hs hp).1, fun type source sid s => ?_, loseLease_pend⟩
  obtain ⟨hpend, hshadow⟩ := assertReset_set type source sid s
  exact ⟨hpend, fun id => shadow_of_none hshadow⟩

end Sys2Proof.Machine
end

section
/-! PROOFS. Chapter 2: the turn of a command (O9), what its completion leaves its session (O10), the HSPI window (O27, O60), the opening of
sessions (O15), packets in (O28) and the timers of sessions (O29). -/

namespace Sys2Proof.Machine

/-! ### The turn of a command (R73, R74) -/

/-- Every command row of Table 3.3 runs a body of its own in the command's turn. -/
theorem exec_command {i : Instr} {op sid tag : Nat} (h : opcodeOf i = some (op, sid, tag)) :
    ∃ body, ∀ s, exec i s = .next (runCmd op sid tag body s) := by
  unfold opcodeOf at h
  split at h
  all_goals cases h
  all_goals exact ⟨_, fun _ => rfl⟩

/-- Settles O9: whatever the body of the row is, `runCmd` waits for the turn and refuses after a failed dependency. -/
theorem commandTurn : Obligations.CommandTurn := by
  unfold Obligations.CommandTurn
  intro i op sid tag s h
  obtain ⟨body, hexec⟩ := exec_command h
  refine ⟨fun hwait => ?_, fun c st hready hdep hfailed => ?_⟩
  · rw [hexec, runCmd_waits body hwait]
  · rw [hexec, runCmd_dependency body hready hdep hfailed]

/-! ### Sessions under the operations of a completion (R50, R54, R55, R83) -/

theorem session_modSession (sid n : Nat) (f : Session → Session) (s : State) :
    (s.modSession sid f).session n = if n = sid then (s.session n).map f else s.session n := by
  simp only [State.session, State.modSession, State.modHost_host, getElem?_modAt]
  split
  · cases s.host.sessions[n]? <;> rfl
  · rfl

theorem session_modSession_same {sid : Nat} {x : Session} {s : State} (f : Session → Session) (h : s.session sid = some x) :
    (s.modSession sid f).session sid = some (f x) := by
  rw [session_modSession, if_pos rfl, h, Option.map_some]

/-- What neither notices nor watermarks touch in a session: its credits, its final statuses and its queued replies. -/
def Session.account (x : Session) : Nat × List (Nat × Nat) × List OutPkt := (x.credits, x.statuses, x.replies)

/-- The live commands, and the account of a session that is open. -/
def State.ledger (s : State) (n : Nat) : List LiveCmd × Option (Nat × List (Nat × Nat) × List OutPkt) :=
  (s.host.live, (s.session n).map Session.account)

theorem ledger_congr {s t : State} (h : t.host = s.host) (n : Nat) : t.ledger n = s.ledger n := by
  simp only [State.ledger, State.session, h]

theorem ledger_modSession {sid : Nat} {f : Session → Session} (hf : ∀ x, (f x).account = x.account) (s : State) (n : Nat) :
    (s.modSession sid f).ledger n = s.ledger n := by
  refine Prod.ext rfl ?_
  simp only [State.ledger, session_modSession]
  split
  · cases s.session n with
    | none => rfl
    | some x => exact congrArg some (hf x)
  · rfl

theorem pushNotice_ledger (sid : Nat) (build : Nat → Bytes) (s : State) (n : Nat) : (pushNotice sid build s).ledger n = s.ledger n :=
  ledger_modSession (fun x => by split <;> rfl) s n

theorem creditNotice_ledger (sid : Nat) (s : State) (n : Nat) : (creditNotice sid s).ledger n = s.ledger n := by
  unfold creditNotice
  split
  · rfl
  · split
    · exact pushNotice_ledger ..
    · rfl

theorem noticeTo_ledger (dest : Option Nat) (code tag : Nat) (rec : Bytes) (s : State) (n : Nat) :
    (noticeTo dest code tag rec s).ledger n = s.ledger n := by
  cases dest with
  | some sid => exact pushNotice_ledger ..
  | none => simp only [noticeTo, List.foldl_cons, List.foldl_nil, pushNotice_ledger]

theorem recordEv_ledger (code source sev : Nat) (payload : Bytes) (dest : Option Nat) (tag : Nat) (s : State) (n : Nat) :
    (recordEv code source sev payload dest tag s).ledger n = s.ledger n := by
  have notice_or_not (c : Prop) [Decidable c] (rec : Bytes) (f : Parapet → Parapet) :
      (if c then noticeTo dest code tag rec (s.modPar f) else s.modPar f).ledger n = s.ledger n := by
    split
    · exact (noticeTo_ledger ..).trans (ledger_congr rfl n)
    · exact ledger_congr rfl n
  unfold recordEv
  dsimp only
  split
  · exact notice_or_not ..
  · exact notice_or_not ..

theorem checkBacklog_ledger (sid : Nat) (s : State) (n : Nat) : (checkBacklog sid s).ledger n = s.ledger n := by
  unfold checkBacklog
  split
  · rfl
  · dsimp only
    split
    · exact (recordEv_ledger ..).trans (ledger_modSession (by intros; rfl) s n)
    · split
      · exact (recordEv_ledger ..).trans (ledger_modSession (by intros; rfl) s n)
      · rfl

/-- R55: the credits that come back stand in the session and are owed to the host. -/
theorem giveCredits_session {sid n : Nat} {x : Session} {s : State} (h : s.session sid = some x) :
    (giveCredits sid n s).session sid = some { x with
      credits := x.credits + n, owed := x.owed + n, owedSince := if x.owed = 0 then s.now else x.owedSince } := by
  simp only [giveCredits, h]
  split <;> exact session_modSession_same _ h

theorem giveCredits_live (sid n : Nat) (s : State) : (giveCredits sid n s).host.live = s.host.live := by
  unfold giveCredits
  split
  · rfl
  · dsimp only
    split <;> rfl

/-! ### Completion in an open session (R50, R51, R55, R83) -/

/-- The command has left the live list, its journal entry is sent and its final status noted in its session. -/
def retired (c : LiveCmd) (st : Nat) (s : State) : State :=
  let s := s.modHost (retire c st)
  let s := if s.twin.latch && journalOp c.opcode then twinSend 0x0B (journalEntry 2 c st) s else s
  s.modSession c.sid (fun x => { x with statuses := put x.statuses c.tag st })

/-- The reply of a completed command, which reports the credits owed; with QUIET_OK a success queues none (R83). -/
def replied (c : LiveCmd) (st d : Nat) (p : Bytes) (s : State) : State :=
  if success st && c.flags.testBit flQuiet then creditNotice c.sid s
  else s.modSession c.sid (fun x => { x with
    replies := x.replies ++ [{
      bytes := replyPacket 1 c (le 2 (min c.retries 65535) ++ le 2 (min x.owed 65535)) st d p, slot := true, seq := c.seq }],
    owed := 0 })

theorem complete_open {c : LiveCmd} (hsid : c.sid < 4) (ho : c.orphan = false) (st d : Nat) (p : Bytes) (s : State) :
    complete c st d p s = checkBacklog c.sid (replied c st d p (giveCredits c.sid c.credits (retired c st s))) := by
  unfold complete replied retired
  simp only [if_neg (Nat.not_le.mpr hsid), ho, Bool.false_eq_true, if_false]

theorem twinSend_host (type : Nat) (payload : Bytes) (s : State) : (twinSend type payload s).host = s.host := by
  unfold twinSend
  split <;> rfl

theorem retired_host (c : LiveCmd) (st : Nat) (s : State) : (retired c st s).host =
    ((s.modHost (retire c st)).modSession c.sid (fun x => { x with statuses := put x.statuses c.tag st })).host := by
  unfold retired
  dsimp only
  split
  · simp only [State.modSession, State.modHost_host, twinSend_host]
  · rfl

theorem retired_session {c : LiveCmd} {x : Session} {s : State} (h : s.session c.sid = some x) (st : Nat) :
    (retired c st s).session c.sid = some { x with statuses := put x.statuses c.tag st } := by
  rw [State.session, retired_host]
  exact session_modSession_same (s := s.modHost (retire c st)) _ h

theorem retired_live (c : LiveCmd) (st : Nat) (s : State) : (retired c st s).host.live = (retire c st s.host).live := by
  rw [retired_host]
  rfl

/-- No command with the acceptance number of the completed one stays live. -/
theorem not_mem_retire (c : LiveCmd) (st : Nat) (h : HostSide) : c ∉ (retire c st h).live := by
  intro hc
  obtain ⟨d, hd, hdc⟩ := List.mem_map.mp hc
  have hne : d.seq ≠ c.seq := by simpa using (List.mem_filter.mp hd).2
  refine hne ?_
  rw [← hdc]
  split <;> rfl

theorem replied_live (c : LiveCmd) (st d : Nat) (p : Bytes) (s : State) : (replied c st d p s).host.live = s.host.live := by
  unfold replied
  split
  · exact congrArg Prod.fst (creditNotice_ledger c.sid s 0)
  · rfl

/-- R83: the account of a session after the reply of one of its commands. -/
theorem replied_account {c : LiveCmd} {x : Session} {s : State} (h : s.session c.sid = some x) (st d : Nat) (p : Bytes) :
    ((replied c st d p s).session c.sid).map Session.account = some (x.credits, x.statuses,
      if success st && c.flags.testBit flQuiet then x.replies
      else x.replies ++ [{
        bytes := replyPacket 1 c (le 2 (min c.retries 65535) ++ le 2 (min x.owed 65535)) st d p, slot := true, seq := c.seq }]) := by
  unfold replied
  split
  · refine (congrArg Prod.snd (creditNotice_ledger c.sid s c.sid)).trans ?_
    simp only [State.ledger, h]
    rfl
  · rw [session_modSession_same _ h]
    rfl

theorem complete_not_live {c : LiveCmd} (hsid : c.sid < 4) (ho : c.orphan = false) (st d : Nat) (p : Bytes) (s : State) :
    c ∉ (complete c st d p s).host.live := by
  have hl := congrArg Prod.fst
    (checkBacklog_ledger c.sid (replied c st d p (giveCredits c.sid c.credits (retired c st s))) c.sid)
  dsimp only [State.ledger] at hl
  rw [complete_open hsid ho, hl, replied_live, giveCredits_live, retired_live]
  exact not_mem_retire c st s.host

theorem complete_account {c : LiveCmd} (hsid : c.sid < 4) (ho : c.orphan = false) {x : Session} {s : State}
    (h : s.session c.sid = some x) (st d : Nat) (p : Bytes) :
    ((complete c st d p s).session c.sid).map Session.account = some (x.credits + c.credits, put x.statuses c.tag st,
      if success st && c.flags.testBit flQuiet then x.replies
      else x.replies ++ [{
        bytes := replyPacket 1 c (le 2 (min c.retries 65535) ++ le 2 (min (x.owed + c.credits) 65535)) st d p, slot := true,
        seq := c.seq }]) := by
  rw [complete_open hsid ho]
  exact (congrArg Prod.snd (checkBacklog_ledger c.sid _ c.sid)).trans (replied_account (giveCredits_session (retired_session h st)) st d p)

/-- Settles O10: the account of the session once its command has completed. -/
theorem completionAnswersTheHost : Obligations.CompletionAnswersTheHost := by
  unfold Obligations.CompletionAnswersTheHost
  intro c st d p s x hsid ho hs
  refine ⟨complete_not_live hsid ho st d p s, ?_⟩
  obtain ⟨y, hy, ha⟩ := Option.map_eq_some_iff.mp (complete_account hsid ho hs st d p)
  simp only [Session.account, Prod.mk.injEq] at ha
  obtain ⟨hcredits, hstatuses, hreplies⟩ := ha
  refine ⟨y, hy, hcredits, ?_, ?_⟩
  · rw [hstatuses, get?_put, if_pos rfl]
  · rw [hreplies]
    split
    · rfl
    · rfl

/-! ### The HSPI window (R56 to R60) -/

theorem onBank_good {k : Nat} {s : State} (f : State → State) (h : bankGood k s = true) : onBank k f s = f s := if_pos h

/-- R57: on a good bank a write of a register drives nothing and gives the word to the register. -/
theorem hspiWrite_good {offset : Nat} {s : State} (w : Word32) (hr : isReg offset = true) (hb : bankGood 1 s = true) :
    hspiWrite offset w s = (writeReg offset w (wakeUp 5 s)).modOut (fun o => { o with hspi := o.hspi ++ [[]] }) := by
  rw [hspiWrite_reg offset w s hr, onBank_good _ hb]

/-- Table 2.5: ABORT_IN alone empties the packet being pushed and ends its discarding; the flags stay. -/
theorem writeStatus_abortIn (s : State) :
    writeStatus 0x80000000 s = modWin (fun x => { x with inWords := [], discarding := false }) s := by
  have h31 : Nat.testBit 0x80000000 31 = true := by decide
  have h17 : Nat.testBit 0x80000000 17 = false := by decide
  have h16 : Nat.testBit 0x80000000 16 = false := by decide
  have h15 : Nat.testBit 0x80000000 15 = false := by decide
  simp only [writeStatus, h31, h17, h16, h15, if_true, Bool.not_true, Bool.not_false, Bool.and_false, Bool.and_true]

/-- R56: the transactions that Table 2.3 does not list, as the bytes of the row spell them. -/
theorem hspi_ignored_good {command : Byte} {rest : Bytes} {s : State} (hb : bankGood 1 s = true)
    (h : rest = [] ∨ isReg (fld (command :: rest) 1 1) = false ∨ (command ≠ 2 ∧ command ≠ 3 ∧ command ≠ 0x0B)) :
    hspi (hspiTransaction (command :: rest)) s =
      (wakeUp 5 s).modOut (fun o => { o with hspi := o.hspi ++ [zeros (rest.length + 1)] }) := by
  have hcmd : fld (command :: rest) 0 1 = command.toNat := by simp [fld, sub, leNat]
  have hne {b : Byte} (hn : command ≠ b) : fld (command :: rest) 0 1 ≠ b.toNat := by
    rw [hcmd]
    exact fun he => hn (BitVec.eq_of_toNat_eq he)
  rw [hspi_ignored, onBank_good _ hb, List.length_cons]
  obtain rfl | hreg | ⟨h2, h3, hB⟩ := h
  · exact .inl Nat.one_lt_two
  · exact .inr (.inl hreg)
  · exact .inr (.inr ⟨hne h2, hne h3, hne hB⟩)

/-- Settles O60: each write row by the register it writes, the pop and the ignored transactions by what they drive. -/
theorem windowRowsComplete : Obligations.WindowRowsComplete := by
  unfold Obligations.WindowRowsComplete
  refine ⟨fun w s hb => congrArg Host.Outcome.next (hspiWrite_good w rfl hb),
    fun s hb => congrArg Host.Outcome.next ((hspi_pop s).trans (onBank_good _ hb)),
    fun s hb => congrArg Host.Outcome.next ?_,
    fun w s hb => congrArg Host.Outcome.next (hspiWrite_good w rfl hb),
    fun w s hb => congrArg Host.Outcome.next (hspiWrite_good w rfl hb),
    fun offset w s hr hb => congrArg Host.Outcome.next (hspiWrite_good w hr hb),
    fun w s => ⟨rfl, rfl, rfl, rfl, rfl⟩,
    fun command rest s hb h => congrArg Host.Outcome.next (hspi_ignored_good hb h)⟩
  rw [hspiWrite_good 0x80000000 rfl hb]
  exact congrArg (State.modOut · _) (writeStatus_abortIn (wakeUp 5 s))

/-- Settles O27: the rows and the operations they call, each by its own equation. -/
theorem windowCommands : Obligations.WindowCommands := by
  unfold Obligations.WindowCommands
  exact ⟨fun w s => rfl, fun s => rfl, fun s => rfl, fun w s => rfl, fun w s => rfl, fun offset w s => rfl, fun command rest s => rfl,
    fun f s => rfl, fun offset w s => rfl, fun mosi s => rfl, fun mosi s => rfl, fun k f s => rfl, fun w s => rfl, fun s => rfl,
    fun v s => rfl, fun v s => rfl, fun offset w s => rfl⟩

/-! ### Sessions: their opening, their packets and their timers (R44 to R72, R92, R98) -/

theorem exec_sessionOpen_turn {sid tag : Nat} {c : LiveCmd} {s : State} (h : Turn 0x0009 sid tag c s) :
    exec (.sessionOpen sid tag) s = .next (sessionOpen c (begun c s)) := congrArg Host.Outcome.next (runCmd_turn sessionOpen h)

/-- Settles O15: SESSION_OPEN executes in the state `begun`; the challenges and the rate change are their own equations. -/
theorem sessionOpening : Obligations.SessionOpening := by
  unfold Obligations.SessionOpening
  refine ⟨fun sid tag c s h => ?_, fun t s => rfl, fun s => rfl, fun s => rfl, fun s => rfl⟩
  rw [exec_sessionOpen_turn h]
  rfl

/-- Settles O28: the rows and the operations they call, each by its own equation. -/
theorem packetsIn : Obligations.PacketsIn := by
  unfold Obligations.PacketsIn
  exact ⟨fun raw s => rfl, fun raw s => rfl, fun d s => rfl, fun d s => rfl, fun s => rfl, fun s => rfl, fun raw s => rfl,
    fun t raw s => rfl, fun t f s => rfl, fun t b s => rfl, fun t n x b s => rfl, fun d s => rfl, fun s => rfl, fun s => rfl⟩

/-- Settles O29: the rows and the operations they call, each by its own equation. -/
theorem sessionTimers : Obligations.SessionTimers := by
  unfold Obligations.SessionTimers
  exact ⟨fun sid s => rfl, fun sid s => rfl, fun sid s => rfl, fun id s => rfl, fun sid s => rfl, fun sid s => rfl, fun s => rfl,
    fun s => rfl, fun t sid s => rfl, fun n s => rfl, fun t p s => rfl, fun t sid p s => rfl⟩

end Sys2Proof.Machine
end

section
/-! PROOFS. Chapter 4: the commands of policies, placement and subscriptions (O21), the events of placement (O48) and the messages of lanterns
that report to it (O33). -/

namespace Sys2Proof.Machine

/-! ### The commands of placement in their turn (R154 to R160) -/

theorem exec_policyLoad_turn {sid tag : Nat} {c : LiveCmd} {s : State} (h : Turn 0x0401 sid tag c s) :
    exec (.policyLoad sid tag) s = .next (policyLoad c (begun c s)) := congrArg Host.Outcome.next (runCmd_turn policyLoad h)
theorem exec_policyRemove_turn {sid tag : Nat} {c : LiveCmd} {s : State} (h : Turn 0x0402 sid tag c s) :
    exec (.policyRemove sid tag) s = .next (policyRemove c (begun c s)) := congrArg Host.Outcome.next (runCmd_turn policyRemove h)
theorem exec_policyList_turn {sid tag : Nat} {c : LiveCmd} {s : State} (h : Turn 0x0403 sid tag c s) :
    exec (.policyList sid tag) s = .next (policyList c (begun c s)) := congrArg Host.Outcome.next (runCmd_turn policyList h)
theorem exec_placementRead_turn {sid tag : Nat} {c : LiveCmd} {s : State} (h : Turn 0x0404 sid tag c s) :
    exec (.placementRead sid tag) s = .next (placementRead c (begun c s)) := congrArg Host.Outcome.next (runCmd_turn placementRead h)
theorem exec_placementPin_turn {sid tag : Nat} {c : LiveCmd} {s : State} (h : Turn 0x0405 sid tag c s) :
    exec (.placementPin sid tag) s = .next (placementPin c (begun c s)) := congrArg Host.Outcome.next (runCmd_turn placementPin h)
theorem exec_placementHold_turn {sid tag : Nat} {c : LiveCmd} {s : State} (h : Turn 0x0406 sid tag c s) :
    exec (.placementHold sid tag) s = .next (placementHold c (begun c s)) := congrArg Host.Outcome.next (runCmd_turn placementHold h)
theorem exec_sensorSubscribe_turn {sid tag : Nat} {c : LiveCmd} {s : State} (h : Turn 0x0407 sid tag c s) :
    exec (.sensorSubscribe sid tag) s = .next (sensorSubscribe c (begun c s)) := congrArg Host.Outcome.next (runCmd_turn sensorSubscribe h)

/-- Settles O21: each command executes in the state `begun`. -/
theorem policyCommands : Obligations.PolicyCommands := by
  unfold Obligations.PolicyCommands
  refine ⟨fun sid tag c s h => ?_, fun sid tag c s h => ?_, fun sid tag c s h => ?_, fun sid tag c s h => ?_, fun sid tag c s h => ?_,
    fun sid tag c s h => ?_, fun sid tag c s h => ?_⟩
  · rw [exec_policyLoad_turn h]
    rfl
  · rw [exec_policyRemove_turn h]
    rfl
  · rw [exec_policyList_turn h]
    rfl
  · rw [exec_placementRead_turn h]
    rfl
  · rw [exec_placementPin_turn h]
    rfl
  · rw [exec_placementHold_turn h]
    rfl
  · rw [exec_sensorSubscribe_turn h]
    rfl

/-! ### Events of placement and messages of lanterns (R126, R134, R141, R145, R146, R268 to R273) -/

/-- Settles O48: the rows and the operations they call, each by its own equation. -/
theorem placementEvents : Obligations.PlacementEvents := by
  unfold Obligations.PlacementEvents
  exact ⟨fun s => rfl, fun policy site s => rfl, fun policy s => rfl, fun output policy s => rfl, fun policy s => rfl, fun s => rfl,
    fun number s => rfl, fun s => rfl, fun pol s => rfl, fun outs p s => rfl⟩

/-- Settles O33: the rows and the operations they call, each by its own equation. -/
theorem sensorAndReportMessages : Obligations.SensorAndReportMessages := by
  unfold Obligations.SensorAndReportMessages
  exact ⟨fun lantern s => rfl, fun lantern s => rfl, fun lantern s => rfl, fun lantern s => rfl, fun lantern s => rfl,
    fun lantern s => rfl, fun lantern s => rfl, fun lantern s => rfl, fun lantern s => rfl, fun n payload s => rfl, fun head p s => rfl,
    fun n m s => rfl, fun n p s => rfl, fun n p s => rfl⟩

end Sys2Proof.Machine
end

section
/-! PROOFS. Chapters 5 and 6: the commands of the lantern table (O20), beacons and network keys (O30), cells and the radio (O31), joins and
the messages that answer (O32). -/

namespace Sys2Proof.Machine

/-! ### The commands of the lantern table in their turn (R200 to R205) -/

theorem exec_lanternAdmit_turn {sid tag : Nat} {c : LiveCmd} {s : State} (h : Turn 0x0303 sid tag c s) :
    exec (.lanternAdmit sid tag) s = .next (lanternAdmit c (begun c s)) := congrArg Host.Outcome.next (runCmd_turn lanternAdmit h)
theorem exec_lanternRemove_turn {sid tag : Nat} {c : LiveCmd} {s : State} (h : Turn 0x0304 sid tag c s) :
    exec (.lanternRemove sid tag) s = .next (lanternRemove c (begun c s)) := congrArg Host.Outcome.next (runCmd_turn lanternRemove h)
theorem exec_lanternQuery_turn {sid tag : Nat} {c : LiveCmd} {s : State} (h : Turn 0x0305 sid tag c s) :
    exec (.lanternQuery sid tag) s = .next (lanternQuery c (begun c s)) := congrArg Host.Outcome.next (runCmd_turn lanternQuery h)
theorem exec_lanternSend_turn {sid tag : Nat} {c : LiveCmd} {s : State} (h : Turn 0x0306 sid tag c s) :
    exec (.lanternSend sid tag) s = .next (lanternSend c (begun c s)) := congrArg Host.Outcome.next (runCmd_turn lanternSend h)
theorem exec_topologyRead_turn {sid tag : Nat} {c : LiveCmd} {s : State} (h : Turn 0x0307 sid tag c s) :
    exec (.topologyRead sid tag) s = .next (topologyRead c (begun c s)) := congrArg Host.Outcome.next (runCmd_turn topologyRead h)
theorem exec_floodSend_turn {sid tag : Nat} {c : LiveCmd} {s : State} (h : Turn 0x0308 sid tag c s) :
    exec (.floodSend sid tag) s = .next (floodSend c (begun c s)) := congrArg Host.Outcome.next (runCmd_turn floodSend h)

/-- Settles O20: each command executes in the state `begun`. -/
theorem lanternCommands : Obligations.LanternCommands := by
  unfold Obligations.LanternCommands
  refine ⟨fun sid tag c s h => ?_, fun sid tag c s h => ?_, fun sid tag c s h => ?_, fun sid tag c s h => ?_,
    fun sid tag c s h => ?_, fun sid tag c s h => ?_⟩
  · rw [exec_lanternAdmit_turn h]
    rfl
  · rw [exec_lanternRemove_turn h]
    rfl
  · rw [exec_lanternQuery_turn h]
    rfl
  · rw [exec_lanternSend_turn h]
    rfl
  · rw [exec_topologyRead_turn h]
    rfl
  · rw [exec_floodSend_turn h]
    rfl

/-! ### Beacons, cells and messages of lanterns (R161 to R231) -/

/-- Settles O30: the rows, then how a message is taken from the inbox and what loses a lantern, each by its own equation. -/
theorem beaconAndNetworkKeyEvents : Obligations.BeaconAndNetworkKeyEvents := by
  unfold Obligations.BeaconAndNetworkKeyEvents
  exact ⟨fun lantern s => rfl, fun heard s => rfl, fun lantern s => rfl, fun lantern s => rfl, fun lantern s => rfl, fun src s => rfl,
    fun lantern s => rfl, fun s => rfl, fun s => rfl, fun heard s => rfl, fun type origin f s => rfl, fun type n f s => rfl,
    fun n s => rfl⟩

/-- Settles O31: the rows, then the kinds of cell, the end of an attempt, its acknowledgement and the check of a frame, each by its own
equation. -/
theorem cellsAndRadio : Obligations.CellsAndRadio := by
  unfold Obligations.CellsAndRadio
  exact ⟨fun c s => rfl, fun port s => rfl, fun port psdu s => rfl, fun port miso edge s => rfl, fun poll s => rfl, fun poll s => rfl,
    fun src s => rfl, fun c s => rfl, fun a ok s => rfl, fun a p s => rfl, fun k miso s => rfl, fun f miso s => rfl⟩

/-- Settles O32: the rows by the message that each consumes, then what the longer ones do with it, each by its own equation. -/
theorem joinAndReportMessages : Obligations.JoinAndReportMessages := by
  unfold Obligations.JoinAndReportMessages
  exact ⟨fun eui s => rfl, fun proxy s => rfl, fun lantern s => rfl, fun lantern s => rfl, fun lantern s => rfl, fun lantern s => rfl,
    fun lantern s => rfl, fun lantern s => rfl, fun proxy port at_ psdu s => rfl, fun n l m s => rfl, fun n l m s => rfl, fun n m s => rfl⟩

end Sys2Proof.Machine
end

section
/-! PROOFS. Chapter 7: the lamp commands (O22), the events of the local outputs and the drivers' fault line (O49). -/

namespace Sys2Proof.Machine

/-! ### The lamp commands in their turn (R264, R268 to R273) -/

theorem exec_lampSet_turn {sid tag : Nat} {c : LiveCmd} {s : State} (h : Turn 0x0501 sid tag c s) :
    exec (.lampSet sid tag) s = .next (lampSet c (begun c s)) := congrArg Host.Outcome.next (runCmd_turn lampSet h)
theorem exec_sceneDefine_turn {sid tag : Nat} {c : LiveCmd} {s : State} (h : Turn 0x0502 sid tag c s) :
    exec (.sceneDefine sid tag) s = .next (sceneDefine c (begun c s)) := congrArg Host.Outcome.next (runCmd_turn sceneDefine h)
theorem exec_sceneLaunch_turn {sid tag : Nat} {c : LiveCmd} {s : State} (h : Turn 0x0503 sid tag c s) :
    exec (.sceneLaunch sid tag) s = .next (sceneLaunch c (begun c s)) := congrArg Host.Outcome.next (runCmd_turn sceneLaunch h)
theorem exec_calibrationLoad_turn {sid tag : Nat} {c : LiveCmd} {s : State} (h : Turn 0x0504 sid tag c s) :
    exec (.calibrationLoad sid tag) s = .next (calibrationLoad c (begun c s)) :=
  congrArg Host.Outcome.next (runCmd_turn calibrationLoad h)
theorem exec_localChannelConfig_turn {sid tag : Nat} {c : LiveCmd} {s : State} (h : Turn 0x0505 sid tag c s) :
    exec (.localChannelConfig sid tag) s = .next (localChannelConfig c (begun c s)) :=
  congrArg Host.Outcome.next (runCmd_turn localChannelConfig h)
theorem exec_lampStatus_turn {sid tag : Nat} {c : LiveCmd} {s : State} (h : Turn 0x0506 sid tag c s) :
    exec (.lampStatus sid tag) s = .next (lampStatus c (begun c s)) := congrArg Host.Outcome.next (runCmd_turn lampStatus h)

/-- Settles O22: each command executes in the state `begun`. -/
theorem lampCommands : Obligations.LampCommands := by
  unfold Obligations.LampCommands
  refine ⟨fun sid tag c s h => ?_, fun sid tag c s h => ?_, fun sid tag c s h => ?_, fun sid tag c s h => ?_,
    fun sid tag c s h => ?_, fun sid tag c s h => ?_⟩
  · rw [exec_lampSet_turn h]
    rfl
  · rw [exec_sceneDefine_turn h]
    rfl
  · rw [exec_sceneLaunch_turn h]
    rfl
  · rw [exec_calibrationLoad_turn h]
    rfl
  · rw [exec_localChannelConfig_turn h]
    rfl
  · rw [exec_lampStatus_turn h]
    rfl

/-! ### Events of the local outputs (R248, R251, R258, R264, R266) -/

/-- Settles O49: the rows, then the fade curves, the shutdown latch and `LD_EN` that they lead to, each by its own equation. -/
theorem lampEvents : Obligations.LampEvents := by
  unfold Obligations.LampEvents
  exact ⟨fun output s => rfl, fun output s => rfl, fun s => rfl, fun s => rfl, fun s => rfl, fun s => rfl, fun s => rfl,
    fun curve d0 d1 k f => rfl, fun s => rfl, fun s => rfl⟩

end Sys2Proof.Machine
end

section
/-! PROOFS. The clock and the queue, which no command changes (O4): the frames of all rows, put together. -/

namespace Sys2Proof.Machine

/-! ### Rows that leave the clock, the queue, the OTP and a pending advance alone -/

/-- The rows by which the OTP may be programmed or a pending life-cycle advance may end: UPDATE_CONFIRM and LIFECYCLE_ADVANCE, what
sends the reply that an advance waits for, and what asserts a reset. -/
def programsOrResets : Instr → Bool
  | .updateConfirm _ _ | .lifecycleAdvance _ _ | .winOutPop | .hspiTransactionIgnored _ _ | .transportTxComplete _ _ | .delayedReset
  | .hostTunnel | .backupEntry | .safeHoldRestart | .trialTimeLimit | .resetNAssert => true
  | _ => false

theorem execVaultSupplyLoss_kept (s t : State) (h : execVaultSupplyLoss s = .next t) : t.kept = s.kept := by
  unfold execVaultSupplyLoss at h
  cases h
  simp

/-- Every other row: by the frame of its meaning. -/
theorem exec_kept {i : Instr} {s t : State} (hi : programsOrResets i = false) (h : exec i s = .next t) : t.kept = s.kept := by
  cases i with
  | echo sid tag => exact execEcho_kept sid tag s t h
  | deviceInfo sid tag => exact execDeviceInfo_kept sid tag s t h
  | reset sid tag => exact execReset_kept sid tag s t h
  | fence sid tag => exact execFence_kept sid tag s t h
  | settingRead sid tag => exact execSettingRead_kept sid tag s t h
  | settingWrite sid tag => exact execSettingWrite_kept sid tag s t h
  | settingCommit sid tag => exact execSettingCommit_kept sid tag s t h
  | cancel sid tag => exact execCancel_kept sid tag s t h
  | sessionOpen sid tag => exact execSessionOpen_kept sid tag s t h
  | timeGet sid tag => exact execTimeGet_kept sid tag s t h
  | timeSlew sid tag => exact execTimeSlew_kept sid tag s t h
  | timeStep sid tag => exact execTimeStep_kept sid tag s t h
  | timeSourceSet sid tag => exact execTimeSourceSet_kept sid tag s t h
  | rtcAlarmSet sid tag => exact execRtcAlarmSet_kept sid tag s t h
  | calendarConvert sid tag => exact execCalendarConvert_kept sid tag s t h
  | localTimeTableLoad sid tag => exact execLocalTimeTableLoad_kept sid tag s t h
  | fallbackTableLoad sid tag => exact execFallbackTableLoad_kept sid tag s t h
  | powerPolicySet sid tag => exact execPowerPolicySet_kept sid tag s t h
  | powerStatus sid tag => exact execPowerStatus_kept sid tag s t h
  | powerRefusalsRead sid tag => exact execPowerRefusalsRead_kept sid tag s t h
  | spanStart sid tag => exact execSpanStart_kept sid tag s t h
  | spanStop sid tag => exact execSpanStop_kept sid tag s t h
  | lanternAdmit sid tag => exact execLanternAdmit_kept sid tag s t h
  | lanternRemove sid tag => exact execLanternRemove_kept sid tag s t h
  | lanternQuery sid tag => exact execLanternQuery_kept sid tag s t h
  | lanternSend sid tag => exact execLanternSend_kept sid tag s t h
  | topologyRead sid tag => exact execTopologyRead_kept sid tag s t h
  | floodSend sid tag => exact execFloodSend_kept sid tag s t h
  | regionProfileLoad sid tag => exact execRegionProfileLoad_kept sid tag s t h
  | dwellStatus sid tag => exact execDwellStatus_kept sid tag s t h
  | radioProfileLoad sid tag misoA misoB => exact execRadioProfileLoad_kept sid tag misoA misoB s t h
  | policyLoad sid tag => exact execPolicyLoad_kept sid tag s t h
  | policyRemove sid tag => exact execPolicyRemove_kept sid tag s t h
  | policyList sid tag => exact execPolicyList_kept sid tag s t h
  | placementRead sid tag => exact execPlacementRead_kept sid tag s t h
  | placementPin sid tag => exact execPlacementPin_kept sid tag s t h
  | placementHold sid tag => exact execPlacementHold_kept sid tag s t h
  | sensorSubscribe sid tag => exact execSensorSubscribe_kept sid tag s t h
  | lampSet sid tag => exact execLampSet_kept sid tag s t h
  | sceneDefine sid tag => exact execSceneDefine_kept sid tag s t h
  | sceneLaunch sid tag => exact execSceneLaunch_kept sid tag s t h
  | calibrationLoad sid tag => exact execCalibrationLoad_kept sid tag s t h
  | localChannelConfig sid tag => exact execLocalChannelConfig_kept sid tag s t h
  | lampStatus sid tag => exact execLampStatus_kept sid tag s t h
  | meterConfig sid tag => exact execMeterConfig_kept sid tag s t h
  | meterRead sid tag => exact execMeterRead_kept sid tag s t h
  | energyRead sid tag => exact execEnergyRead_kept sid tag s t h
  | pulseOutputAssign sid tag => exact execPulseOutputAssign_kept sid tag s t h
  | pulseInputRead sid tag => exact execPulseInputRead_kept sid tag s t h
  | reconcileRead sid tag => exact execReconcileRead_kept sid tag s t h
  | meterCalibrate sid tag => exact execMeterCalibrate_kept sid tag s t h
  | updateBegin sid tag => exact execUpdateBegin_kept sid tag s t h
  | updateFragment sid tag => exact execUpdateFragment_kept sid tag s t h
  | updateStatus sid tag => exact execUpdateStatus_kept sid tag s t h
  | updateActivate sid tag => exact execUpdateActivate_kept sid tag s t h
  | updateConfirm => cases hi
  | updateAbort sid tag => exact execUpdateAbort_kept sid tag s t h
  | lanternImageStage sid tag => exact execLanternImageStage_kept sid tag s t h
  | lanternImageRollout sid tag => exact execLanternImageRollout_kept sid tag s t h
  | keyLoad sid tag => exact execKeyLoad_kept sid tag s t h
  | keyRetire sid tag => exact execKeyRetire_kept sid tag s t h
  | lifecycleAdvance => cases hi
  | tamperPolicySet sid tag => exact execTamperPolicySet_kept sid tag s t h
  | debugUnlock sid tag => exact execDebugUnlock_kept sid tag s t h
  | securityStatus sid tag => exact execSecurityStatus_kept sid tag s t h
  | faultStatus sid tag => exact execFaultStatus_kept sid tag s t h
  | faultAck sid tag => exact execFaultAck_kept sid tag s t h
  | eventRead sid tag => exact execEventRead_kept sid tag s t h
  | eventClear sid tag => exact execEventClear_kept sid tag s t h
  | eventRateSet sid tag => exact execEventRateSet_kept sid tag s t h
  | faultInject sid tag => exact execFaultInject_kept sid tag s t h
  | twinStatus sid tag => exact execTwinStatus_kept sid tag s t h
  | twinConfig sid tag => exact execTwinConfig_kept sid tag s t h
  | leaseYield sid tag => exact execLeaseYield_kept sid tag s t h
  | selftestRun sid tag => exact execSelftestRun_kept sid tag s t h
  | selftestResult sid tag => exact execSelftestResult_kept sid tag s t h
  | selftestSchedule sid tag => exact execSelftestSchedule_kept sid tag s t h
  | queueConfig sid tag => exact execQueueConfig_kept sid tag s t h
  | queueStatus sid tag => exact execQueueStatus_kept sid tag s t h
  | winInPush w => exact execWinInPush_kept w s t h
  | winOutPop => cases hi
  | abortIn => exact execAbortIn_kept s t h
  | winStatusW1c w => exact execWinStatusW1c_kept w s t h
  | winIrqCauseW1c w => exact execWinIrqCauseW1c_kept w s t h
  | registerWrite offset w => exact execRegisterWrite_kept offset w s t h
  | hspiTransactionIgnored => cases hi
  | huartFrame raw => exact execHuartFrame_kept raw s t h
  | dbgFrame raw => exact execDbgFrame_kept raw s t h
  | ethHandshake d => exact execEthHandshake_kept d s t h
  | ethData d => exact execEthData_kept d s t h
  | ethReorderTimeout sid => exact execEthReorderTimeout_kept sid s t h
  | ethIdleTimeout sid => exact execEthIdleTimeout_kept sid s t h
  | ethFirstDataTimeout sid => exact execEthFirstDataTimeout_kept sid s t h
  | ipReassemblyTimeout id => exact execIpReassemblyTimeout_kept id s t h
  | intakeService => exact execIntakeService_kept s t h
  | interimReplyTimer sid tag => exact execInterimReplyTimer_kept sid tag s t h
  | deadlineExpiry sid tag => exact execDeadlineExpiry_kept sid tag s t h
  | lateAckWindowExpiry seq => exact execLateAckWindowExpiry_kept seq s t h
  | creditReturnTimer sid => exact execCreditReturnTimer_kept sid s t h
  | challengeExpiry tr => exact execChallengeExpiry_kept tr s t h
  | debugChallengeExpiry => exact execDebugChallengeExpiry_kept s t h
  | eventClearChallengeExpiry => exact execEventClearChallengeExpiry_kept s t h
  | transportTxComplete => cases hi
  | baudChangeTimer => exact execBaudChangeTimer_kept s t h
  | delayedReset => cases hi
  | replyHoldTimer sid => exact execReplyHoldTimer_kept sid s t h
  | queueServicePassEnd => exact execQueueServicePassEnd_kept s t h
  | cycleBoundary lateA lateB misoA misoB => exact execCycleBoundary_kept lateA lateB misoA misoB s t h
  | pierHeadSilent lantern => exact execPierHeadSilent_kept lantern s t h
  | holderBeaconsMissed heard => exact execHolderBeaconsMissed_kept heard s t h
  | rendezvousListenEnd lantern => exact execRendezvousListenEnd_kept lantern s t h
  | routelessLost lantern => exact execRoutelessLost_kept lantern s t h
  | rootPortReassign lantern => exact execRootPortReassign_kept lantern s t h
  | cellStart c => exact execCellStart_kept c s t h
  | ackWindowExpiry port => exact execAckWindowExpiry_kept port s t h
  | enhancedAckReceived port psdu => exact execEnhancedAckReceived_kept port psdu s t h
  | radioIrq port miso edge => exact execRadioIrq_kept port miso edge s t h
  | radioPollTimeout poll => exact execRadioPollTimeout_kept poll s t h
  | frameReceived poll => exact execFrameReceived_kept poll s t h
  | beaconReceived src => exact execBeaconReceived_kept src s t h
  | joinRequest eui => exact execJoinRequest_kept eui s t h
  | joinRelay proxy => exact execJoinRelay_kept proxy s t h
  | capability lantern => exact execCapability_kept lantern s t h
  | configRequest lantern => exact execConfigRequest_kept lantern s t h
  | resync lantern => exact execResync_kept lantern s t h
  | neighbourReport lantern => exact execNeighbourReport_kept lantern s t h
  | beaconMiss lantern => exact execBeaconMiss_kept lantern s t h
  | response lantern => exact execResponse_kept lantern s t h
  | sensorEvent lantern => exact execSensorEvent_kept lantern s t h
  | energyReport lantern => exact execEnergyReport_kept lantern s t h
  | energyAggregate lantern => exact execEnergyAggregate_kept lantern s t h
  | policyReport lantern => exact execPolicyReport_kept lantern s t h
  | faultReport lantern => exact execFaultReport_kept lantern s t h
  | fragmentInventory lantern => exact execFragmentInventory_kept lantern s t h
  | chunkRequest lantern => exact execChunkRequest_kept lantern s t h
  | imageStatus lantern => exact execImageStatus_kept lantern s t h
  | leave lantern => exact execLeave_kept lantern s t h
  | lampReport lantern => exact execLampReport_kept lantern s t h
  | hostTunnel => cases hi
  | keyUpdateActivation => exact execKeyUpdateActivation_kept s t h
  | oldNetworkKeyExpiry => exact execOldNetworkKeyExpiry_kept s t h
  | annexParentLost heard => exact execAnnexParentLost_kept heard s t h
  | spanAutoStopTimer => exact execSpanAutoStopTimer_kept s t h
  | ptpSync m => exact execPtpSync_kept m s t h
  | ptpFollowUp m => exact execPtpFollowUp_kept m s t h
  | ptpAnnounce m => exact execPtpAnnounce_kept m s t h
  | ptpDelayResp m => exact execPtpDelayResp_kept m s t h
  | delayReqTimer => exact execDelayReqTimer_kept s t h
  | announceReceiptTimeout => exact execAnnounceReceiptTimeout_kept s t h
  | syncLossTimeout => exact execSyncLossTimeout_kept s t h
  | ptpEventForward ingress stamp frame => exact execPtpEventForward_kept ingress stamp frame s t h
  | ppsInEdge => exact execPpsInEdge_kept s t h
  | nmeaSentence text => exact execNmeaSentence_kept text s t h
  | gnssEdgeLoss => exact execGnssEdgeLoss_kept s t h
  | gnssLabelLoss => exact execGnssLabelLoss_kept s t h
  | sourcePreferenceTimer source => exact execSourcePreferenceTimer_kept source s t h
  | slewEnd => exact execSlewEnd_kept s t h
  | wholeSecond => exact execWholeSecond_kept s t h
  | leapSecond => exact execLeapSecond_kept s t h
  | timeExchangeTimer => exact execTimeExchangeTimer_kept s t h
  | rtcAlarmMatch => exact execRtcAlarmMatch_kept s t h
  | rtcTrimAccumulate => exact execRtcTrimAccumulate_kept s t h
  | rtcTempCompensation correction => exact execRtcTempCompensation_kept correction s t h
  | rtcTrimLearn => exact execRtcTrimLearn_kept s t h
  | vaultScrub result => exact execVaultScrub_kept result s t h
  | fallbackMinute => exact execFallbackMinute_kept s t h
  | fallbackKeepaliveRenew => exact execFallbackKeepaliveRenew_kept s t h
  | fallbackKeepaliveExpiry => exact execFallbackKeepaliveExpiry_kept s t h
  | backupEntry => cases hi
  | meterSecondClose edges => exact execMeterSecondClose_kept edges s t h
  | lineZeroCrossing phase edges => exact execLineZeroCrossing_kept phase edges s t h
  | routingTimeout phase edges => exact execRoutingTimeout_kept phase edges s t h
  | modClkGap => exact execModClkGap_kept s t h
  | pfailFall => exact execPfailFall_kept s t h
  | pfailRise => exact execPfailRise_kept s t h
  | poutPulsePhaseEnd output => exact execPoutPulsePhaseEnd_kept output s t h
  | pinEdge input level => exact execPinEdge_kept input level s t h
  | pinDebounceExpiry input => exact execPinDebounceExpiry_kept input s t h
  | reconcileWindow => exact execReconcileWindow_kept s t h
  | standbyMeterWindow => exact execStandbyMeterWindow_kept s t h
  | twinHello f => exact execTwinHello_kept f s t h
  | heartbeat f => exact execHeartbeat_kept f s t h
  | renew f => exact execRenew_kept f s t h
  | copy f => exact execCopy_kept f s t h
  | copyEnd f => exact execCopyEnd_kept f s t h
  | copyAck f => exact execCopyAck_kept f s t h
  | twinTime f => exact execTwinTime_kept f s t h
  | timeEcho f => exact execTimeEcho_kept f s t h
  | echoFeed f => exact execEchoFeed_kept f s t h
  | echoResult f => exact execEchoResult_kept f s t h
  | journal f => exact execJournal_kept f s t h
  | journalAck f => exact execJournalAck_kept f s t h
  | health f => exact execHealth_kept f s t h
  | nak f => exact execNak_kept f s t h
  | twinFrameBad => exact execTwinFrameBad_kept s t h
  | twinLinkDownTimeout => exact execTwinLinkDownTimeout_kept s t h
  | twinHelloTimer => exact execTwinHelloTimer_kept s t h
  | heartbeatTimer => exact execHeartbeatTimer_kept s t h
  | leaseInAssert => exact execLeaseInAssert_kept s t h
  | leaseInDeassert => exact execLeaseInDeassert_kept s t h
  | interlockOpen => exact execInterlockOpen_kept s t h
  | leaseExpiryTake => exact execLeaseExpiryTake_kept s t h
  | loneStartTimer => exact execLoneStartTimer_kept s t h
  | conflictBackoffTimer => exact execConflictBackoffTimer_kept s t h
  | healthYieldTimer => exact execHealthYieldTimer_kept s t h
  | copyStale => exact execCopyStale_kept s t h
  | powerEvaluation => exact execPowerEvaluation_kept s t h
  | pmicAck nack pgood status => exact execPmicAck_kept nack pgood status s t h
  | pmicAckTimeout => exact execPmicAckTimeout_kept s t h
  | pmbusRetryTimer => exact execPmbusRetryTimer_kept s t h
  | wake cause => exact execWake_kept cause s t h
  | knownEventTimer => exact execKnownEventTimer_kept s t h
  | thermalSensorChange celsius => exact execThermalSensorChange_kept celsius s t h
  | pmAlert status => exact execPmAlert_kept status s t h
  | pmPgoodFall => exact execPmPgoodFall_kept s t h
  | ethLinkPoll a b => exact execEthLinkPoll_kept a b s t h
  | checkinWindowEnd => exact execCheckinWindowEnd_kept s t h
  | jointDelivery joint => exact execJointDelivery_kept joint s t h
  | jointSideReset joint => exact execJointSideReset_kept joint s t h
  | faultRaised source cls payload => exact execFaultRaised_kept source cls payload s t h
  | faultInjection => exact execFaultInjection_kept s t h
  | ucEscalation => exact execUcEscalation_kept s t h
  | firmwareFaultAck source => exact execFirmwareFaultAck_kept source s t h
  | watchdogExpiry core => exact execWatchdogExpiry_kept core s t h
  | safeHoldRestart => cases hi
  | eventPageCopy => exact execEventPageCopy_kept s t h
  | eventLogEraseDone => exact execEventLogEraseDone_kept s t h
  | rateBucketRefill code => exact execRateBucketRefill_kept code s t h
  | tamperCondition source => exact execTamperCondition_kept source s t h
  | tamper0DebounceExpiry => exact execTamper0DebounceExpiry_kept s t h
  | guardLfsrAdvance => exact execGuardLfsrAdvance_kept s t h
  | guardSample level => exact execGuardSample_kept level s t h
  | vbatLowTimer => exact execVbatLowTimer_kept s t h
  | tamperRearmTimer source => exact execTamperRearmTimer_kept source s t h
  | updateSectorErased => exact execUpdateSectorErased_kept s t h
  | updateVerifyDone => exact execUpdateVerifyDone_kept s t h
  | updateJournalExpiry => exact execUpdateJournalExpiry_kept s t h
  | trialTimeLimit => cases hi
  | recoveryHelloTimer => exact execRecoveryHelloTimer_kept s t h
  | recoveryBegin frame => exact execRecoveryBegin_kept frame s t h
  | recoveryData frame => exact execRecoveryData_kept frame s t h
  | recoveryBoot frame => exact execRecoveryBoot_kept frame s t h
  | selftestSweepStart => exact execSelftestSweepStart_kept s t h
  | selftestSliceStart r => exact execSelftestSliceStart_kept r s t h
  | scanRequest => exact execScanRequest_kept s t h
  | placementEvaluation => exact execPlacementEvaluation_kept s t h
  | dayTableRefresh policy site => exact execDayTableRefresh_kept policy site s t h
  | spanPolicyTrigger policy => exact execSpanPolicyTrigger_kept policy s t h
  | claimHoldExpiry output policy => exact execClaimHoldExpiry_kept output policy s t h
  | policyValidityEnd policy => exact execPolicyValidityEnd_kept policy s t h
  | placementHoldEnd => exact execPlacementHoldEnd_kept s t h
  | subscriptionExpiry number => exact execSubscriptionExpiry_kept number s t h
  | lampPeriodStart output => exact execLampPeriodStart_kept output s t h
  | fadeStep output => exact execFadeStep_kept output s t h
  | localApplyTime => exact execLocalApplyTime_kept s t h
  | ldFaultFall => exact execLdFaultFall_kept s t h
  | ldFaultFilterExpiry => exact execLdFaultFilterExpiry_kept s t h
  | ldFaultRise => exact execLdFaultRise_kept s t h
  | ldFaultRetryTimer => exact execLdFaultRetryTimer_kept s t h
  | resetNAssert => cases hi
  | resetNRelease recoveryLow => exact execResetNRelease_kept recoveryLow s t h
  | powerOnReset => exact execPowerOnReset_kept s t h
  | bootSequence e => exact execBootSequence_kept e s t h
  | pmicStartupRetry e => exact execPmicStartupRetry_kept e s t h
  | ioBankChange bank mode => exact execIoBankChange_kept bank mode s t h
  | meshReassemblyTimeout src => exact execMeshReassemblyTimeout_kept src s t h
  | modClkReturn edges => exact execModClkReturn_kept edges s t h
  | watchdogRenewal core => exact execWatchdogRenewal_kept core s t h
  | vaultSupplyLoss => exact execVaultSupplyLoss_kept s t h
  | tamper0Edge level => exact execTamper0Edge_kept level s t h
  | tamperConditionEnd source => exact execTamperConditionEnd_kept source s t h

/-! ### The clock and the queue -/

/-- The elapsed time and the queue of waiting commands. -/
def State.agenda (s : State) : Nat × List Instr := (s.now, s.pending)

theorem agenda_of_kept {s t : State} (h : t.kept = s.kept) : t.agenda = s.agenda := congrArg (fun k => (k.1, k.2.1)) h

@[simp] theorem agenda_modTime (s : State) (f) : (s.modTime f).agenda = s.agenda := rfl
@[simp] theorem agenda_modRtc (s : State) (f) : (s.modRtc f).agenda = s.agenda := rfl
@[simp] theorem agenda_modFb (s : State) (f) : (s.modFb f).agenda = s.agenda := rfl
@[simp] theorem agenda_modSet (s : State) (f) : (s.modSet f).agenda = s.agenda := rfl
@[simp] theorem agenda_modHost (s : State) (f) : (s.modHost f).agenda = s.agenda := rfl
@[simp] theorem agenda_modPar (s : State) (f) : (s.modPar f).agenda = s.agenda := rfl
@[simp] theorem agenda_modPwr (s : State) (f) : (s.modPwr f).agenda = s.agenda := rfl
@[simp] theorem agenda_modMac (s : State) (f) : (s.modMac f).agenda = s.agenda := rfl
@[simp] theorem agenda_modTruss (s : State) (f) : (s.modTruss f).agenda = s.agenda := rfl
@[simp] theorem agenda_modLamp (s : State) (f) : (s.modLamp f).agenda = s.agenda := rfl
@[simp] theorem agenda_modMeter (s : State) (f) : (s.modMeter f).agenda = s.agenda := rfl
@[simp] theorem agenda_modTwin (s : State) (f) : (s.modTwin f).agenda = s.agenda := rfl
@[simp] theorem agenda_modOtp (s : State) (f) : (s.modOtp f).agenda = s.agenda := rfl
@[simp] theorem agenda_modSec (s : State) (f) : (s.modSec f).agenda = s.agenda := rfl
@[simp] theorem agenda_modUpd (s : State) (f) : (s.modUpd f).agenda = s.agenda := rfl
@[simp] theorem agenda_modBist (s : State) (f) : (s.modBist f).agenda = s.agenda := rfl
@[simp] theorem agenda_modBoot (s : State) (f) : (s.modBoot f).agenda = s.agenda := rfl
@[simp] theorem agenda_modOut (s : State) (f) : (s.modOut f).agenda = s.agenda := rfl
@[simp] theorem agenda_joints (s : State) (js : List Joint) : ({ s with joints := js } : State).agenda = s.agenda := rfl
@[simp] theorem agenda_ite (c : Prop) [Decidable c] (a b : State) : (if c then a else b).agenda = if c then a.agenda else b.agenda := by
  split <;> rfl

/-! The operations that the rows of `programsOrResets` call, by their frames. -/

@[simp] theorem ev_agenda (code : Nat) (p : Bytes) (s : State) : (ev code p s).agenda = s.agenda := agenda_of_kept (ev_kept code p s)
@[simp] theorem complete_agenda (c : LiveCmd) (st d : Nat) (p : Bytes) (s : State) : (complete c st d p s).agenda = s.agenda :=
  agenda_of_kept (complete_kept c st d p s)
@[simp] theorem fail_agenda (c : LiveCmd) (st d : Nat) (s : State) : (fail c st d s).agenda = s.agenda := agenda_of_kept (fail_kept c st d s)
@[simp] theorem noteAuth_agenda (op sid : Nat) (s : State) : (noteAuth op sid s).agenda = s.agenda :=
  agenda_of_kept (noteAuth_kept op sid s)
@[simp] theorem noteKeyless_agenda (s : State) : (noteKeyless s).agenda = s.agenda := agenda_of_kept (noteKeyless_kept s)
@[simp] theorem useStore_agenda (c : StoreCopy) (s : State) : (useStore c s).agenda = s.agenda := agenda_of_kept (useStore_kept c s)
@[simp] theorem zeroBanks_agenda (s : State) : (zeroBanks s).agenda = s.agenda := rfl
@[simp] theorem clearKeystone_agenda (s : State) : (clearKeystone s).agenda = s.agenda := rfl
@[simp] theorem writeMirror_agenda (s : State) : (writeMirror s).agenda = s.agenda := rfl
@[simp] theorem advanceEpoch_agenda (s : State) : (advanceEpoch s).agenda = s.agenda := rfl
@[simp] theorem awaitReset_agenda (c : LiveCmd) (type source : Nat) (s : State) : (awaitReset c type source s).agenda = s.agenda :=
  agenda_of_kept (awaitReset_kept c type source s)
@[simp] theorem modSlot_agenda (k : Nat) (f : SlotImg → SlotImg) (s : State) : (modSlot k f s).agenda = s.agenda := rfl
@[simp] theorem toRun_agenda (s : State) : (toRun s).agenda = s.agenda := agenda_of_kept (toRun_kept s)
@[simp] theorem modCmd_agenda (s : State) (seq : Nat) (f : LiveCmd → LiveCmd) : (s.modCmd seq f).agenda = s.agenda := rfl
@[simp] theorem activated_agenda (type : Nat) (s : State) : (activated type s).agenda = s.agenda := agenda_of_kept (activated_kept type s)
@[simp] theorem seqTakes_agenda (s : State) : (seqTakes s).agenda = s.agenda := agenda_of_kept (seqTakes_kept s)
@[simp] theorem takeControl_agenda (a : Agent) (s : State) : (takeControl a s).agenda = s.agenda := agenda_of_kept (takeControl_kept a s)
@[simp] theorem flushJoints_agenda (l : List Nat) (s : State) : (l.foldl (fun s j => flushJoint j s) s).agenda = s.agenda :=
  agenda_of_kept (kept_foldl _ (fun s j => flushJoint_kept j s) l s)
@[simp] theorem startPulses_agenda (s : State) : (startPulses s).agenda = s.agenda := agenda_of_kept (startPulses_kept s)
@[simp] theorem tamperFalse_agenda (source : Nat) (s : State) : (tamperFalse source s).agenda = s.agenda :=
  agenda_of_kept (tamperFalse_kept source s)
@[simp] theorem resetTimeUnit_agenda (s : State) : (resetTimeUnit s).agenda = s.agenda := agenda_of_kept (resetTimeUnit_kept s)
@[simp] theorem wakeUp_agenda (cause : Nat) (s : State) : (wakeUp cause s).agenda = s.agenda := agenda_of_kept (wakeUp_kept cause s)
@[simp] theorem modWin_agenda (f : Window → Window) (s : State) : (modWin f s).agenda = s.agenda := rfl
@[simp] theorem writeGroups_agenda (n offset : Nat) (d : Bytes) (s : State) : (writeGroups n offset d s).agenda = s.agenda :=
  agenda_of_kept (writeGroups_kept n offset d s)
@[simp] theorem dropOut_agenda (t : Transport) (sid : Option Nat) (p : OutPkt) (s : State) : (dropOut t sid p s).agenda = s.agenda :=
  agenda_of_kept (dropOut_kept t sid p s)
@[simp] theorem ethSend_agenda (sid : Nat) (b : Bytes) (s : State) : (ethSend sid b s).agenda = s.agenda :=
  agenda_of_kept (ethSend_kept sid b s)
@[simp] theorem transmitNext_agenda (t : Transport) (sid : Option Nat) (p : OutPkt) (s : State) :
    (transmitNext t sid p s).agenda = s.agenda := agenda_of_kept (transmitNext_kept t sid p s)
@[simp] theorem datagram_agenda (peer : Nat) (p : Bytes) (s : State) : (datagram peer p s).agenda = s.agenda :=
  agenda_of_kept (datagram_kept peer p s)
@[simp] theorem annexRespond_agenda (seq retries status : Nat) (b : Bytes) (s : State) :
    (annexRespond seq retries status b s).agenda = s.agenda := agenda_of_kept (annexRespond_kept seq retries status b s)

/-! Commands, the advance of the life cycle and a confirmed update. -/

theorem runCmd_agenda (op sid tag : Nat) {body : LiveCmd → State → State} (s : State)
    (hbody : ∀ c u, (body c u).agenda = u.agenda) : (runCmd op sid tag body s).agenda = s.agenda := by
  unfold runCmd
  dsimp only
  (repeat' split) <;> simp [hbody]

@[simp] theorem advanceLife_agenda (to_ : Nat) (s : State) : (advanceLife to_ s).agenda = s.agenda := by
  simp [advanceLife]

theorem lifecycleAdvance_agenda (c : LiveCmd) (s : State) : (lifecycleAdvance c s).agenda = s.agenda := by
  unfold lifecycleAdvance
  split <;> simp

theorem updateConfirm_agenda (c : LiveCmd) (s : State) : (updateConfirm c s).agenda = s.agenda := by
  unfold updateConfirm
  (repeat' split) <;> simp

/-! A packet that leaves a transport (R463: it may carry the reply that an advance waits for). -/

@[simp] theorem packetLeft_agenda (t : Transport) (p : OutPkt) (s : State) : (packetLeft t p s).agenda = s.agenda := by
  unfold packetLeft
  dsimp only
  (repeat' split) <;> simp

theorem txComplete_agenda (t : Transport) (sid : Nat) (s : State) : (txComplete t sid s).agenda = s.agenda := by
  unfold txComplete
  dsimp only
  (repeat' split) <;> simp

@[simp] theorem popWord_agenda (s : State) : (popWord s).agenda = s.agenda := by
  unfold popWord
  dsimp only
  (repeat' split) <;> simp

@[simp] theorem readReg_agenda (offset : Nat) (s : State) : (readReg offset s).1.agenda = s.agenda := by
  unfold readReg
  split <;> simp

@[simp] theorem readGroups_agenda (k offset n : Nat) (s : State) : (readGroups k offset n s).1.agenda = s.agenda := by
  induction k generalizing offset n s with
  | zero => rfl
  | succ k ih =>
    unfold readGroups
    dsimp only
    split
    · rfl
    · split
      · split <;> simp
      · simp [ih]

theorem hspiBytes_agenda (mosi : Bytes) (s : State) : (hspiBytes mosi s).1.agenda = s.agenda := by
  unfold hspiBytes
  dsimp only
  (repeat' split) <;> simp

theorem hspi_transaction_agenda (mosi : Bytes) (s : State) : (hspi (hspiTransaction mosi) s).agenda = s.agenda := by
  simp [hspi, onBank, hspiTransaction, hspiBytes_agenda]

theorem tunnelReply_agenda (m : InMsg) (s : State) : (tunnelReply m s).agenda = s.agenda := by
  unfold tunnelReply
  dsimp only
  (repeat' split) <;> simp

theorem hostTunnel_agenda (s : State) : (hostTunnel s).agenda = s.agenda := by
  unfold hostTunnel
  split
  · rfl
  · simp [tunnelReply_agenda]

/-! A reset (R529): time goes on through it. -/

@[simp] theorem assertReset_agenda (type source session : Nat) (s : State) : (assertReset type source session s).agenda = s.agenda := by
  simp only [assertReset, resetTimeUnit_agenda, agenda_modBoot, agenda_modRtc, agenda_modBist, agenda_modUpd, agenda_modSec,
    tamperFalse_agenda, agenda_modTwin, startPulses_agenda, agenda_modMeter, agenda_modLamp, agenda_modTruss, agenda_modMac,
    flushJoints_agenda, agenda_joints, agenda_modPwr, agenda_modPar, agenda_modHost, agenda_modSet, agenda_modFb, agenda_ite,
    seqTakes_agenda, takeControl_agenda, ev_agenda, activated_agenda, ite_self]

/-! ### The rows that program the OTP or reset the module -/

theorem execUpdateConfirm_agenda (sid tag : Nat) {s t : State} (h : execUpdateConfirm sid tag s = .next t) : t.agenda = s.agenda := by
  cases h
  exact runCmd_agenda _ sid tag s updateConfirm_agenda

theorem execLifecycleAdvance_agenda (sid tag : Nat) {s t : State} (h : execLifecycleAdvance sid tag s = .next t) :
    t.agenda = s.agenda := by
  cases h
  exact runCmd_agenda _ sid tag s lifecycleAdvance_agenda

theorem execWinOutPop_agenda {s t : State} (h : execWinOutPop s = .next t) : t.agenda = s.agenda := by
  cases h
  exact hspi_transaction_agenda _ s

theorem execHspiTransactionIgnored_agenda (command : Byte) (rest : Bytes) {s t : State}
    (h : execHspiTransactionIgnored command rest s = .next t) : t.agenda = s.agenda := by
  cases h
  exact hspi_transaction_agenda _ s

theorem execTransportTxComplete_agenda (tr : Transport) (sid : Nat) {s t : State} (h : execTransportTxComplete tr sid s = .next t) :
    t.agenda = s.agenda := by
  cases h
  exact txComplete_agenda tr sid s

/-- R92, R463: an advance still pending takes effect before the reset. -/
theorem execDelayedReset_agenda {s t : State} (h : execDelayedReset s = .next t) : t.agenda = s.agenda := by
  unfold execDelayedReset at h
  cases h
  (repeat' split) <;> simp

theorem execHostTunnel_agenda {s t : State} (h : execHostTunnel s = .next t) : t.agenda = s.agenda := by
  cases h
  simp [hostTunnel_agenda]

theorem execBackupEntry_agenda {s t : State} (h : execBackupEntry s = .next t) : t.agenda = s.agenda := by
  cases h
  simp

theorem execSafeHoldRestart_agenda {s t : State} (h : execSafeHoldRestart s = .next t) : t.agenda = s.agenda := by
  cases h
  simp

theorem execTrialTimeLimit_agenda {s t : State} (h : execTrialTimeLimit s = .next t) : t.agenda = s.agenda := by
  cases h
  simp

theorem execResetNAssert_agenda {s t : State} (h : execResetNAssert s = .next t) : t.agenda = s.agenda := by
  cases h
  simp

theorem exec_agenda_of_programsOrResets {i : Instr} {s t : State} (hi : programsOrResets i = true) (h : exec i s = .next t) :
    t.agenda = s.agenda := by
  match i, hi with
  | .updateConfirm sid tag, _ => exact execUpdateConfirm_agenda sid tag h
  | .lifecycleAdvance sid tag, _ => exact execLifecycleAdvance_agenda sid tag h
  | .winOutPop, _ => exact execWinOutPop_agenda h
  | .hspiTransactionIgnored command rest, _ => exact execHspiTransactionIgnored_agenda command rest h
  | .transportTxComplete tr sid, _ => exact execTransportTxComplete_agenda tr sid h
  | .delayedReset, _ => exact execDelayedReset_agenda h
  | .hostTunnel, _ => exact execHostTunnel_agenda h
  | .backupEntry, _ => exact execBackupEntry_agenda h
  | .safeHoldRestart, _ => exact execSafeHoldRestart_agenda h
  | .trialTimeLimit, _ => exact execTrialTimeLimit_agenda h
  | .resetNAssert, _ => exact execResetNAssert_agenda h

/-! ### Every row -/

/-- No row changes the clock or the queue. -/
theorem exec_agenda {i : Instr} {s t : State} (h : exec i s = .next t) : t.agenda = s.agenda := by
  cases hi : programsOrResets i with
  | false => exact agenda_of_kept (exec_kept hi h)
  | true => exact exec_agenda_of_programsOrResets hi h

/-- Settles O4: a row either leaves the wider frame `State.kept` alone, or is one of those that program the OTP or reset the module. -/
theorem commandsLeaveClockAndQueue : Obligations.CommandsLeaveClockAndQueue := by
  unfold Obligations.CommandsLeaveClockAndQueue
  intro i s t h
  exact Prod.mk.inj (exec_agenda h)

end Sys2Proof.Machine
end

section
/-! PROOFS. Chapters 8 and 9: PTP (O34), GNSS (O35), the whole second, the leap second and the RTC (O36). -/

namespace Sys2Proof.Machine

/-- Settles O34: the rows, the messages they take, the correction of a forwarded event, each by its own equation. -/
theorem ptpEvents : Obligations.PtpEvents := by
  unfold Obligations.PtpEvents
  exact ⟨fun m s => rfl, fun m s => rfl, fun m s => rfl, fun m s => rfl, fun s => rfl, fun s => rfl, fun s => rfl,
    fun ingress stamp frame s => rfl, fun m s => rfl, fun m s => rfl, fun m s => rfl, fun m s => rfl, fun f residence => rfl⟩

/-- Settles O35: the rows, then the edge and the sentence they take, each by its own equation. -/
theorem gnssEvents : Obligations.GnssEvents := by
  unfold Obligations.GnssEvents
  exact ⟨fun s => rfl, fun text s => rfl, fun s => rfl, fun s => rfl, fun s => rfl, fun text s => rfl⟩

/-- Settles O36: the rows, then the second, the leap second, the exchange and the alarm they lead to, each by its own equation. -/
theorem secondsAndRtcEvents : Obligations.SecondsAndRtcEvents := by
  unfold Obligations.SecondsAndRtcEvents
  exact ⟨fun s => rfl, fun s => rfl, fun s => rfl, fun s => rfl, fun s => rfl, fun correction s => rfl, fun s => rfl,
    fun result s => rfl, fun s => rfl, fun s => rfl, fun s => rfl, fun i t s => rfl⟩

end Sys2Proof.Machine
end

section
/-! PROOFS. Chapters 9 and 19: contactor control (O37), and reset, backup, the boot sequence and the I/O banks (O50). -/

namespace Sys2Proof.Machine

/-- Settles O37: the three rows, then the takeover, the evaluation, the drive and firmware's minute, each by its own equation. -/
theorem contactorEvents : Obligations.ContactorEvents := by
  unfold Obligations.ContactorEvents
  exact ⟨fun s => rfl, fun s => rfl, fun s => rfl, fun s => rfl, fun s => rfl, fun k s => rfl, fun k tbl s => rfl⟩

/-- Settles O50: the eight rows, then the loss of the vault, the boot and the bank's change, each by its own equation. -/
theorem resetEvents : Obligations.ResetEvents := by
  unfold Obligations.ResetEvents
  exact ⟨fun s => rfl, fun recoveryLow s => rfl, fun s => rfl, fun s => rfl, fun s => rfl, fun e s => rfl, fun e s => rfl,
    fun bank mode s => rfl, fun s => rfl, fun e s => rfl, fun bank mode s => rfl⟩

end Sys2Proof.Machine
end

section
/-! PROOFS. Chapter 10: the meter group of commands (O23), the datapath's events (O38), pulses and reconciliation (O39). -/

namespace Sys2Proof.Machine

/-! ### The meter group in its turn (R358 to R365) -/

theorem exec_meterConfig_turn {sid tag : Nat} {c : LiveCmd} {s : State} (h : Turn 0x0601 sid tag c s) :
    exec (.meterConfig sid tag) s = .next (meterConfig c (begun c s)) := congrArg Host.Outcome.next (runCmd_turn meterConfig h)
theorem exec_meterRead_turn {sid tag : Nat} {c : LiveCmd} {s : State} (h : Turn 0x0602 sid tag c s) :
    exec (.meterRead sid tag) s = .next (meterRead c (begun c s)) := congrArg Host.Outcome.next (runCmd_turn meterRead h)
theorem exec_energyRead_turn {sid tag : Nat} {c : LiveCmd} {s : State} (h : Turn 0x0603 sid tag c s) :
    exec (.energyRead sid tag) s = .next (energyRead c (begun c s)) := congrArg Host.Outcome.next (runCmd_turn energyRead h)
theorem exec_pulseOutputAssign_turn {sid tag : Nat} {c : LiveCmd} {s : State} (h : Turn 0x0604 sid tag c s) :
    exec (.pulseOutputAssign sid tag) s = .next (pulseOutputAssign c (begun c s)) :=
  congrArg Host.Outcome.next (runCmd_turn pulseOutputAssign h)
theorem exec_pulseInputRead_turn {sid tag : Nat} {c : LiveCmd} {s : State} (h : Turn 0x0605 sid tag c s) :
    exec (.pulseInputRead sid tag) s = .next (pulseInputRead c (begun c s)) :=
  congrArg Host.Outcome.next (runCmd_turn pulseInputRead h)
theorem exec_reconcileRead_turn {sid tag : Nat} {c : LiveCmd} {s : State} (h : Turn 0x0606 sid tag c s) :
    exec (.reconcileRead sid tag) s = .next (reconcileRead c (begun c s)) :=
  congrArg Host.Outcome.next (runCmd_turn reconcileRead h)
theorem exec_meterCalibrate_turn {sid tag : Nat} {c : LiveCmd} {s : State} (h : Turn 0x0607 sid tag c s) :
    exec (.meterCalibrate sid tag) s = .next (meterCalibrate c (begun c s)) :=
  congrArg Host.Outcome.next (runCmd_turn meterCalibrate h)

/-- Settles O23: each command executes in the state `begun`. -/
theorem meterCommands : Obligations.MeterCommands := by
  unfold Obligations.MeterCommands
  refine ⟨fun sid tag c s h => ?_, fun sid tag c s h => ?_, fun sid tag c s h => ?_, fun sid tag c s h => ?_,
    fun sid tag c s h => ?_, fun sid tag c s h => ?_, fun sid tag c s h => ?_⟩
  · rw [exec_meterConfig_turn h]
    rfl
  · rw [exec_meterRead_turn h]
    rfl
  · rw [exec_energyRead_turn h]
    rfl
  · rw [exec_pulseOutputAssign_turn h]
    rfl
  · rw [exec_pulseInputRead_turn h]
    rfl
  · rw [exec_reconcileRead_turn h]
    rfl
  · rw [exec_meterCalibrate_turn h]
    rfl

/-! ### Events of the datapath, the pulses and the windows (R334 to R356) -/

/-- Settles O38: the rows, then the crossing, the routing of a phase, the return of the clock, the gap and the fall of `PFAIL_N` that they
lead to, each by its own equation. -/
theorem meterDatapathEvents : Obligations.MeterDatapathEvents := by
  unfold Obligations.MeterDatapathEvents
  exact ⟨fun edges s => rfl, fun phase edges s => rfl, fun phase edges s => rfl, fun s => rfl, fun edges s => rfl, fun s => rfl,
    fun s => rfl, fun ph s => rfl, fun ph until_ s => rfl, fun edges s => rfl, fun s => rfl, fun s => rfl⟩

/-- Settles O39: the rows, then the start of a pulse, the reconciliation of a window and the standby's window, each by its own equation. -/
theorem pulsesAndReconciliation : Obligations.PulsesAndReconciliation := by
  unfold Obligations.PulsesAndReconciliation
  exact ⟨fun output s => rfl, fun input level s => rfl, fun input s => rfl, fun s => rfl, fun s => rfl, fun k s => rfl,
    fun w s => rfl, fun s => rfl⟩

end Sys2Proof.Machine
end

section
/-! PROOFS. Chapter 11: the frames of the twin link (O40), its timers (O41), the lease lines and the interlock (O42). -/

namespace Sys2Proof.Machine

/-- Settles O40: the rows, each behind the gate of the link or that of HELLO, then the gate and what the longer frames do on the side that
takes them, each by its own equation. -/
theorem twinLinkFrames : Obligations.TwinLinkFrames := by
  unfold Obligations.TwinLinkFrames
  exact ⟨fun f s => rfl, fun f s => rfl, fun f s => rfl, fun f s => rfl, fun f s => rfl, fun f s => rfl, fun f s => rfl, fun f s => rfl,
    fun f s => rfl, fun f s => rfl, fun f s => rfl, fun f s => rfl, fun f s => rfl, fun f s => rfl, fun type f k s => rfl,
    fun f s => rfl, fun f s => rfl, fun f s => rfl, fun f s => rfl, fun f s => rfl, fun f s => rfl, fun f s => rfl, fun f s => rfl,
    fun f s => rfl, fun f s => rfl, fun f s => rfl⟩

/-- Settles O41: the rows, then the loss of the link and the HELLO that they lead to, each by its own equation. -/
theorem twinTimers : Obligations.TwinTimers := by
  unfold Obligations.TwinTimers
  exact ⟨fun s => rfl, fun s => rfl, fun s => rfl, fun s => rfl, fun s => rfl, fun s => rfl, fun s => rfl, fun s => rfl⟩

/-- Settles O42: the rows, then the two edges of `TW_LEASE_IN`, the assertion of the own line and the conditions to take the lease and to
start alone, each by its own equation. -/
theorem leaseEvents : Obligations.LeaseEvents := by
  unfold Obligations.LeaseEvents
  exact ⟨fun s => rfl, fun s => rfl, fun s => rfl, fun s => rfl, fun s => rfl, fun s => rfl, fun s => rfl, fun s => rfl,
    fun cause s => rfl, fun s => rfl, fun s => rfl⟩

end Sys2Proof.Machine
end

section
/-! PROOFS. Chapter 12: evaluation, the PMIC's answers, wakes and known events (O43); temperature, supply, Ethernet links, the check-in window
and joints (O44). -/

namespace Sys2Proof.Machine

/-- Settles O43: the rows (the evaluation of an idle manager, the PMIC's answers and their time limits, wakes and known events), then the
evaluation, the handling of a request that stays unanswered and the wake that they lead to, each by its own equation. -/
theorem powerEvents : Obligations.PowerEvents := by
  unfold Obligations.PowerEvents
  exact ⟨fun s => rfl, fun nack pgood status s => rfl, fun s => rfl, fun s => rfl, fun cause s => rfl, fun s => rfl, fun s => rfl,
    fun s => rfl, fun cause s => rfl⟩

/-- Settles O44: the rows, then the throttling by temperature (R395) and what a delivery and a flush do to a joint (R415, R419), each by its
own equation. -/
theorem supplySensorsAndJoints : Obligations.SupplySensorsAndJoints := by
  unfold Obligations.SupplySensorsAndJoints
  exact ⟨fun celsius s => rfl, fun status s => rfl, fun s => rfl, fun a b s => rfl, fun s => rfl, fun joint s => rfl, fun joint s => rfl,
    fun celsius s => rfl, fun j s => rfl, fun j s => rfl⟩

end Sys2Proof.Machine
end

section
/-! PROOFS. Chapter 15: the life cycle and the OTP. What one step can do to the OTP and to a pending advance, said once for every row and for
the passing of time; from it the fuses (O8), the life-cycle invariant (O6, O7) and the transitions (O5). -/

namespace Sys2Proof.Machine

/-! ### The OTP with the advance that waits for its reply -/

/-- The OTP and the life-cycle advance that waits for its reply. -/
abbrev Fuses := Otp × Option (Nat × Nat)

def State.fuses (s : State) : Fuses := (s.otp, s.sec.advance)

theorem otp_of_kept {s t : State} (h : t.kept = s.kept) : t.otp = s.otp := congrArg (fun k => k.2.2.1) h
theorem advance_of_kept {s t : State} (h : t.kept = s.kept) : t.sec.advance = s.sec.advance := congrArg (fun k => k.2.2.2) h
theorem fuses_of_kept {s t : State} (h : t.kept = s.kept) : t.fuses = s.fuses := congrArg (fun k => k.2.2) h

/-- R464 step 1: the fuses of a transition. -/
def Otp.advanced (to_ : Nat) (o : Otp) : Otp :=
  { o with
    lifecycle := to_, returns := if o.lifecycle = lcReturn ∧ to_ = lcProvisioned then o.returns + 1 else o.returns,
    rootKilled := o.rootKilled || to_ == lcScrapped }

/-- Table 15.5: the transition exists, and a return to PROVISIONED is at most the third. -/
def Otp.accepts (o : Otp) (to_ : Nat) : Prop :=
  (transition o.lifecycle to_).isSome = true ∧ (o.lifecycle = lcReturn → to_ = lcProvisioned → o.returns < 3)

/-- What every row but UPDATE_CONFIRM and LIFECYCLE_ADVANCE can do to them: nothing, drop the advance (a reset), or perform it. -/
inductive Fuses.Settles (x : Fuses) : Fuses → Prop where
  | keeps : Settles x x
  | drops : Settles x (x.1, none)
  | performs {to_ q : Nat} (h : x.2 = some (to_, q)) : Settles x (x.1.advanced to_, none)

/-- What a step can do to them; `front` where the row is LIFECYCLE_ADVANCE. -/
inductive Fuses.Moves (front : Prop) (x : Fuses) : Fuses → Prop where
  | settles {y : Fuses} (h : x.Settles y) : Moves front x y
  | confirms (n : Nat) : Moves front x ({ x.1 with antiRollback := max x.1.antiRollback n }, x.2)
  | requests (hf : front) {to_ : Nat} (q : Nat) (h : x.1.accepts to_) : Moves front x (x.1, some (to_, q))
  | advances (hf : front) {to_ : Nat} (h : x.1.accepts to_) : Moves front x (x.1.advanced to_, none)

theorem Fuses.Settles.of_eq {x y : Fuses} (h : y = x) : x.Settles y := h ▸ .keeps

/-- After a first row's part of it nothing waits any more, so a second can only keep what the first has left. -/
theorem Fuses.Settles.trans {x y z : Fuses} (h : x.Settles y) (g : y.Settles z) : x.Settles z := by
  cases h with
  | keeps => exact g
  | drops =>
    cases g with
    | keeps => exact .drops
    | drops => exact .drops
    | performs e => cases e
  | performs hx =>
    cases g with
    | keeps => exact .performs hx
    | drops => exact .performs hx
    | performs e => cases e

theorem Fuses.Moves.imp {p q : Prop} {x y : Fuses} (h : x.Moves p y) (f : p → q) : x.Moves q y := by
  cases h with
  | settles h => exact .settles h
  | confirms n => exact .confirms n
  | requests hp q h => exact .requests (f hp) q h
  | advances hp h => exact .advances (f hp) h

/-! ### The operations that program the OTP or end an advance -/

/-- R464: the fuses of the transition are blown, the advance is over. -/
theorem advanceLife_fuses (to_ : Nat) (s : State) : (advanceLife to_ s).fuses = (s.otp.advanced to_, none) := by
  unfold advanceLife
  dsimp only
  rw [fuses_of_kept (noteKeyless_kept _), fuses_of_kept (ev_kept _ _ _), fuses_of_kept (ev_kept _ _ _)]
  split
  · rename_i h
    rw [fuses_of_kept (useStore_kept _ _), Otp.advanced, if_pos h]
    rfl
  · rename_i h
    rw [Otp.advanced, if_neg h]
    rfl

/-- An advance that waits takes place, or none does. -/
theorem advance_settles {s : State} {to_ q : Nat} (h : s.sec.advance = some (to_, q)) : s.fuses.Settles (advanceLife to_ s).fuses := by
  rw [advanceLife_fuses]
  exact .performs h

theorem settles_of_kept {s t : State} (h : t.kept = s.kept) : s.fuses.Settles t.fuses := .of_eq (fuses_of_kept h)

/-- R463: with the reply's last byte the advance that waits for it takes place. -/
theorem packetLeft_settles (t : Transport) (p : OutPkt) (s : State) : s.fuses.Settles (packetLeft t p s).fuses := by
  have hkept : ∀ u : State, u.kept = s.kept →
      s.fuses.Settles (match u.sec.advance with
        | some (to_, q) => if p.seq = q then advanceLife to_ u else u
        | none => u).fuses := by
    intro u hu
    have hs : s.fuses = u.fuses := (fuses_of_kept hu).symm
    rw [hs]
    split
    · rename_i to_ q ha
      split
      · exact advance_settles ha
      · exact .keeps
    · exact .keeps
  unfold packetLeft
  dsimp only
  refine hkept _ ?_
  (repeat' split) <;> simp

theorem popWord_settles (s : State) : s.fuses.Settles (popWord s).fuses := by
  unfold popWord
  split
  · exact .keeps
  · rename_i p _
    dsimp only
    split
    · exact (settles_of_kept (by simp [modWin])).trans (packetLeft_settles .hspi p _)
    · exact .keeps

theorem readReg_settles (offset : Nat) (s : State) : s.fuses.Settles (readReg offset s).1.fuses := by
  unfold readReg
  split
  · exact popWord_settles s
  · exact .keeps

/-- Each group of four bytes is one read. -/
theorem readGroups_settles (k offset n : Nat) (s : State) : s.fuses.Settles (readGroups k offset n s).1.fuses := by
  induction k generalizing offset n s with
  | zero => exact .keeps
  | succ k ih =>
    unfold readGroups
    split
    · exact .keeps
    · split
      · exact .keeps
      · exact (readReg_settles offset s).trans (ih _ _ _)

theorem hspiBytes_settles (mosi : Bytes) (s : State) : s.fuses.Settles (hspiBytes mosi s).1.fuses := by
  unfold hspiBytes
  dsimp only
  split
  · exact .keeps
  · split
    · exact settles_of_kept (writeGroups_kept _ _ _ _)
    · split
      · exact readGroups_settles _ _ _ _
      · split
        · exact readGroups_settles _ _ _ _
        · exact .keeps

/-- R56: what a transaction of HSPI does, after the wake. -/
theorem hspi_transaction_settles (mosi : Bytes) (s : State) : s.fuses.Settles (hspi (hspiTransaction mosi) s).fuses := by
  unfold hspi onBank
  split
  · exact (settles_of_kept (wakeUp_kept 5 s)).trans (hspiBytes_settles mosi _)
  · exact .keeps

theorem txComplete_settles (t : Transport) (sid : Nat) (s : State) : s.fuses.Settles (txComplete t sid s).fuses := by
  unfold txComplete
  dsimp only
  split
  · exact .keeps
  · split
    · exact .keeps
    · exact (settles_of_kept (by simp)).trans (packetLeft_settles _ _ _)

theorem tunnelReply_settles (m : InMsg) (s : State) : s.fuses.Settles (tunnelReply m s).fuses := by
  have hsend : s.fuses.Settles (if s.out.eth.any (fun e => e.1 == tunnelPeer) then s
      else match s.chan (fld m.payload 1 1), outFront .eth (some (fld m.payload 1 1)) s with
        | some ch, some p =>
          if ch.peer = tunnelPeer then
            packetLeft .eth p (ethSend (fld m.payload 1 1) p.bytes (dropOut .eth (some (fld m.payload 1 1)) p s))
          else s
        | _, _ => s).fuses := by
    split
    · exact .keeps
    · split
      · split
        · exact (settles_of_kept (by simp)).trans (packetLeft_settles _ _ _)
        · exact .keeps
      · exact .keeps
  unfold tunnelReply
  split
  · exact .keeps
  · exact hsend.trans (settles_of_kept ((annexRespond_kept _ _ _ _ _).trans (kept_modOut _ _)))

theorem hostTunnel_settles (s : State) : s.fuses.Settles (hostTunnel s).fuses := by
  unfold hostTunnel
  split
  · exact .keeps
  · exact (settles_of_kept (by simp)).trans (tunnelReply_settles _ _)

/-- R529: a reset leaves the OTP alone. -/
theorem assertReset_otp (type source session : Nat) (s : State) : (assertReset type source session s).otp = s.otp := by
  simp only [assertReset, otp_of_kept (resetTimeUnit_kept _), otp_of_kept (tamperFalse_kept _ _), otp_of_kept (startPulses_kept _),
    otp_of_kept (kept_foldl _ (fun u j => flushJoint_kept j u) _ _), otp_of_kept (seqTakes_kept _), otp_of_kept (takeControl_kept _ _),
    otp_of_kept (activated_kept _ _), ev_otp, apply_ite State.otp, ite_self, State.modBoot_otp, State.modRtc_otp, State.modBist_otp,
    State.modUpd_otp, State.modSec_otp, State.modTwin_otp, State.modMeter_otp, State.modLamp_otp, State.modTruss_otp, State.modMac_otp,
    State.modPwr_otp, State.modPar_otp, State.modHost_otp, State.modSet_otp, State.modFb_otp]

/-- R464, R529: a reset drops an advance that waits. -/
theorem assertReset_advance (type source session : Nat) (s : State) : (assertReset type source session s).sec.advance = none := by
  simp only [assertReset, advance_of_kept (resetTimeUnit_kept _), State.modBoot_sec, State.modRtc_sec, State.modBist_sec,
    State.modUpd_sec, State.modSec_sec]

theorem assertReset_fuses (type source session : Nat) (s : State) : (assertReset type source session s).fuses = (s.otp, none) := by
  rw [State.fuses, assertReset_otp, assertReset_advance]

theorem assertReset_settles (type source session : Nat) (s : State) : s.fuses.Settles (assertReset type source session s).fuses := by
  rw [assertReset_fuses]
  exact .drops

/-! ### LIFECYCLE_ADVANCE and UPDATE_CONFIRM -/

/-- Table 15.5: a module in RETURN is provisioned again at most three times. -/
theorem returns_of_transitionAllowed {c : LiveCmd} {s : State} (hr : s.otp.lifecycle = lcReturn)
    (h : transitionAllowed c lcProvisioned s = true) : s.otp.returns < 3 := by
  unfold transitionAllowed at h
  dsimp only at h
  rw [if_neg (by decide), hr, if_neg (by decide), if_pos rfl] at h
  exact of_decide_eq_true h

/-- R463: a transition that LIFECYCLE_ADVANCE does not refuse is one of Table 15.5. -/
theorem accepts_of_not_refused {c : LiveCmd} {s : State} (h : lifecycleRefusal c s = none) : s.otp.accepts (fld c.params 0 1) := by
  unfold lifecycleRefusal at h
  dsimp only at h
  -- scrapped, reserved bytes, another unit's ID, no transition of the table: each a refusal
  split at h
  · cases h
  split at h
  · cases h
  split at h
  · cases h
  split at h
  · cases h
  rename_i signed ht
  split at h
  · cases h
  rename_i ha
  rw [Bool.not_eq_true', Bool.not_eq_false] at ha
  exact ⟨by rw [ht]; rfl, fun hr hp => returns_of_transitionAllowed hr (hp ▸ ha)⟩

/-- R464: an accepted transition waits for its reply. -/
def awaitLeaving (c : LiveCmd) (to_ : Nat) (reply : Bytes) (s : State) : State :=
  complete c stOk dNone reply (awaitReset c 3 6 (s.modSec (fun k => { k with advance := some (to_, c.seq) })))

theorem awaitLeaving_fuses (c : LiveCmd) (to_ : Nat) (reply : Bytes) (s : State) :
    (awaitLeaving c to_ reply s).fuses = (s.otp, some (to_, c.seq)) := by
  unfold awaitLeaving
  rw [fuses_of_kept (complete_kept _ _ _ _ _), fuses_of_kept (awaitReset_kept _ _ _ _)]
  rfl

theorem awaitLeaving_otp (c : LiveCmd) (to_ : Nat) (reply : Bytes) (s : State) : (awaitLeaving c to_ reply s).otp = s.otp :=
  congrArg Prod.fst (awaitLeaving_fuses c to_ reply s)

theorem lifecycleAdvance_accepted {c : LiveCmd} {s : State} (h : lifecycleRefusal c s = none) :
    lifecycleAdvance c s =
      let t := awaitLeaving c (fld c.params 0 1) ([byte (fld c.params 0 1)] ++ zeros 3) s
      if c.flags.testBit flQuiet then advanceLife (fld c.params 0 1) t else t := by
  simp only [lifecycleAdvance, h, awaitLeaving]

theorem lifecycleAdvance_refused_kept {c : LiveCmd} {e : Nat × Nat} {s : State} (h : lifecycleRefusal c s = some e) :
    (lifecycleAdvance c s).kept = s.kept := by
  simp only [lifecycleAdvance, h]
  split <;> simp

/-- R111: a refusal keeps everything; an acceptance waits for the reply, or takes place at once where QUIET_OK silences it. -/
theorem lifecycleAdvance_moves (c : LiveCmd) (s : State) {front : Prop} (hf : front) : s.fuses.Moves front (lifecycleAdvance c s).fuses := by
  cases h : lifecycleRefusal c s with
  | some e => exact .settles (settles_of_kept (lifecycleAdvance_refused_kept h))
  | none =>
    have ha := accepts_of_not_refused h
    rw [lifecycleAdvance_accepted h]
    dsimp only
    split
    · rw [advanceLife_fuses, awaitLeaving_otp]
      exact .advances hf ha
    · rw [awaitLeaving_fuses]
      exact .requests hf c.seq ha

/-- R490: a confirmation raises the anti-rollback counter to the image's. -/
theorem updateConfirm_moves (c : LiveCmd) (s : State) {front : Prop} : s.fuses.Moves front (updateConfirm c s).fuses := by
  have hkept : ∀ d, s.fuses.Moves front (fail c stBadParam d s).fuses := fun d => .settles (settles_of_kept (fail_kept c stBadParam d s))
  unfold updateConfirm
  split
  · exact hkept _
  · split
    · exact hkept _
    · split
      · exact hkept _
      · rw [fuses_of_kept (complete_kept _ _ _ _ _), fuses_of_kept (ev_kept _ _ _)]
        exact .confirms _

/-- A command moves the fuses as its body does: what goes before leaves them alone. -/
theorem runCmd_moves {front : Prop} (op sid tag : Nat) {body : LiveCmd → State → State} (s : State)
    (h : ∀ (c : LiveCmd) (u : State), u.fuses.Moves front (body c u).fuses) :
    s.fuses.Moves front (runCmd op sid tag body s).fuses := by
  have hb : ∀ c : LiveCmd, s.fuses.Moves front (body c ((toRun s).modCmd c.seq (fun c => { c with begun := true }))).fuses := fun c => by
    have hu : ((toRun s).modCmd c.seq (fun c => { c with begun := true })).fuses = s.fuses := fuses_of_kept (by simp)
    exact hu ▸ h c _
  unfold runCmd
  split
  · exact .settles .keeps
  · dsimp only
    split
    · split
      · exact hb _
      · exact .settles (settles_of_kept (by simp))
    · exact hb _

/-! ### Every step -/

/-- The row is LIFECYCLE_ADVANCE. -/
def isAdvance (i : Instr) : Prop := ∃ sid tag, i = .lifecycleAdvance sid tag

theorem execDelayedReset_settles {s t : State} (h : execDelayedReset s = .next t) : s.fuses.Settles t.fuses := by
  unfold execDelayedReset at h
  cases h
  split
  · split
    · refine .trans ?_ (assertReset_settles _ _ _ _)
      split
      · rename_i ha
        exact advance_settles ha
      · exact .keeps
    · exact .keeps
  · exact .keeps

/-- R322: the supply's loss is a reset; what follows it touches neither. -/
theorem execBackupEntry_settles {s t : State} (h : execBackupEntry s = .next t) : s.fuses.Settles t.fuses := by
  cases h
  split
  · exact .keeps
  · exact (assertReset_settles rtPowerOn 1 0xFF s).trans (settles_of_kept (by simp))

/-- A row that resets the module under its condition. -/
theorem reset_if_settles {type source session : Nat} {s u : State} {p : Prop} [Decidable p] (h : u.kept = s.kept) :
    s.fuses.Settles (if p then assertReset type source session u else s).fuses := by
  split
  · exact (settles_of_kept h).trans (assertReset_settles type source session u)
  · exact .keeps

/-- R463, R490: only the rows of `programsOrResets` move the fuses, each in one of the ways of `Fuses.Moves`. -/
theorem exec_moves {i : Instr} {s t : State} (h : exec i s = .next t) : s.fuses.Moves (isAdvance i) t.fuses := by
  cases hi : programsOrResets i with
  | false => exact .settles (settles_of_kept (exec_kept hi h))
  | true =>
    match i, hi with
    | .updateConfirm sid tag, _ => cases h; exact runCmd_moves _ sid tag s fun c u => updateConfirm_moves c u
    | .lifecycleAdvance sid tag, _ => cases h; exact runCmd_moves _ sid tag s fun c u => lifecycleAdvance_moves c u ⟨sid, tag, rfl⟩
    | .winOutPop, _ => cases h; exact .settles (hspi_transaction_settles _ s)
    | .hspiTransactionIgnored command rest, _ => cases h; exact .settles (hspi_transaction_settles _ s)
    | .transportTxComplete tr sid, _ => cases h; exact .settles (txComplete_settles tr sid s)
    | .delayedReset, _ => exact .settles (execDelayedReset_settles h)
    | .hostTunnel, _ =>
      cases h
      refine .settles ?_
      split
      · exact hostTunnel_settles s
      · exact .keeps
    | .backupEntry, _ => exact .settles (execBackupEntry_settles h)
    | .safeHoldRestart, _ => cases h; exact .settles (reset_if_settles (kept_modPar _ _))
    | .trialTimeLimit, _ => cases h; exact .settles (reset_if_settles (kept_modUpd _ _))
    | .resetNAssert, _ => cases h; exact .settles (reset_if_settles (kept_modBoot _ _))

/-! The passing of time. -/

theorem idle_fuses (s : State) : (idle s).fuses = s.fuses := by
  have h : (idle s).kept = ({ s with now := s.now + 10 } : State).kept := by
    simp [idle]
  rw [fuses_of_kept h]
  rfl

/-- A step moves the fuses as the row at the front of the queue does; time leaves them alone. -/
theorem step_moves {s t : State} (h : step s = .next t) :
    s.fuses.Moves (∃ sid tag rest, s.pending = .lifecycleAdvance sid tag :: rest) t.fuses := by
  unfold step at h
  split at h
  · cases h
    exact .settles (.of_eq (idle_fuses s))
  · rename_i i rest hq
    refine (exec_moves h).imp ?_
    rintro ⟨sid, tag, rfl⟩
    exact ⟨sid, tag, rest, hq⟩

/-! ### O8: the fuses -/

theorem Otp.follows_self (o : Otp) : o.follows o :=
  ⟨rfl, rfl, rfl, rfl, rfl, rfl, rfl, rfl, rfl, rfl, Nat.le_refl _, Nat.le_refl _, id⟩

theorem Otp.advanced_follows (to_ : Nat) (o : Otp) : (o.advanced to_).follows o := by
  refine ⟨rfl, rfl, rfl, rfl, rfl, rfl, rfl, rfl, rfl, rfl, Nat.le_refl _, ?_, fun h => ?_⟩
  · unfold Otp.advanced
    split <;> simp
  · simp [Otp.advanced, h]

theorem Fuses.Settles.follows {x y : Fuses} (h : x.Settles y) : y.1.follows x.1 := by
  cases h with
  | keeps => exact x.1.follows_self
  | drops => exact x.1.follows_self
  | performs => exact x.1.advanced_follows _

/-- Whatever a step does, it only programs. -/
theorem Fuses.Moves.follows {front : Prop} {x y : Fuses} (h : x.Moves front y) : y.1.follows x.1 := by
  cases h with
  | settles h => exact h.follows
  | confirms n => exact ⟨rfl, rfl, rfl, rfl, rfl, rfl, rfl, rfl, rfl, rfl, Nat.le_max_left _ _, Nat.le_refl _, id⟩
  | requests => exact x.1.follows_self
  | advances => exact x.1.advanced_follows _

/-- Settles O8: every step moves the fuses in one of the ways of `Fuses.Moves`, and each of them only programs. -/
theorem fusesOnlyProgram : Obligations.FusesOnlyProgram := by
  unfold Obligations.FusesOnlyProgram
  intro s t h
  exact (step_moves h).follows

/-! ### O6, O7: the life-cycle invariant -/

/-- `LifeInv` of the OTP and the advance alone. -/
def Fuses.Sound (x : Fuses) : Prop :=
  1 ≤ x.1.lifecycle ∧ x.1.lifecycle ≤ 6 ∧ (x.1.lifecycle = lcScrapped → x.1.rootKilled = true) ∧ x.1.returns ≤ 3 ∧
    ∀ to_ q, x.2 = some (to_, q) → x.1.accepts to_

theorem lifeInv_iff (s : State) : LifeInv s ↔ s.fuses.Sound := Iff.rfl

/-- Table 15.5, as a relation of the two states. -/
theorem transition_isSome_iff (from_ to_ : Nat) : (transition from_ to_).isSome = true ↔
    (to_ = 6 ∧ 1 ≤ from_ ∧ from_ ≤ 5) ∨ (from_ = 1 ∧ to_ = 2) ∨ (from_ = 2 ∧ to_ = 3) ∨ (from_ = 3 ∧ to_ = 4) ∨
      (from_ = 4 ∧ to_ = 5) ∨ (from_ = 5 ∧ to_ = 3) := by
  simp only [transition, lcBlank, lcTest, lcProvisioned, lcField, lcReturn, lcScrapped]
  (repeat' split) <;> simp only [Option.isSome_some, Option.isSome_none, true_iff, Bool.false_eq_true, false_iff] <;> omega

theorem transition_target {from_ to_ : Nat} (h : (transition from_ to_).isSome = true) : 1 ≤ to_ ∧ to_ ≤ 6 := by
  rw [transition_isSome_iff] at h
  omega

/-- R463, R465: a transition of Table 15.5 leaves a sound OTP, with nothing pending. -/
theorem Fuses.Sound.advanced {x : Fuses} {to_ : Nat} (hx : x.Sound) (h : x.1.accepts to_) : Fuses.Sound (x.1.advanced to_, none) := by
  obtain ⟨_, _, _, hr, _⟩ := hx
  obtain ⟨ht, hret⟩ := h
  obtain ⟨h1, h6⟩ := transition_target ht
  refine ⟨h1, h6, fun hs => ?_, ?_, nofun⟩
  · have hs : to_ = lcScrapped := hs
    simp [Otp.advanced, hs]
  · unfold Otp.advanced
    dsimp only
    split
    · rename_i he
      exact hret he.1 he.2
    · exact hr

theorem Fuses.Sound.settles {x y : Fuses} (hx : x.Sound) (h : x.Settles y) : y.Sound := by
  obtain ⟨h1, h6, hs, hr, ha⟩ := hx
  cases h with
  | keeps => exact ⟨h1, h6, hs, hr, ha⟩
  | drops => exact ⟨h1, h6, hs, hr, nofun⟩
  | performs e => exact Fuses.Sound.advanced ⟨h1, h6, hs, hr, ha⟩ (ha _ _ e)

theorem Fuses.Sound.moves {front : Prop} {x y : Fuses} (hx : x.Sound) (h : x.Moves front y) : y.Sound := by
  cases h with
  | settles h => exact hx.settles h
  | confirms n => exact hx
  | requests _ q h =>
    obtain ⟨h1, h6, hs, hr, _⟩ := hx
    refine ⟨h1, h6, hs, hr, fun to' q' e => ?_⟩
    cases e
    exact h
  | advances _ h => exact hx.advanced h

/-- Settles O6: `LifeInv` speaks of the fuses alone, and each way in which a step moves them keeps it. -/
theorem lifecycleInvariantKept : Obligations.LifecycleInvariantKept := by
  unfold Obligations.LifecycleInvariantKept
  intro s t hs h
  exact ((lifeInv_iff s).mp hs).moves (step_moves h)

/-- Settles O7: at reset the life cycle is the one of `resetOtp` and nothing is pending. -/
theorem lifecycleInvariantAtReset : Obligations.LifecycleInvariantAtReset := by
  unfold Obligations.LifecycleInvariantAtReset
  exact ⟨by decide, by decide, nofun, by decide, nofun⟩

/-! ### O5: the transitions -/

theorem Fuses.Sound.lifecycle_settles {x y : Fuses} (hx : x.Sound) (h : x.Settles y) :
    y.1.lifecycle = x.1.lifecycle ∨
      ((transition x.1.lifecycle y.1.lifecycle).isSome = true ∧ ∃ q, x.2 = some (y.1.lifecycle, q)) := by
  cases h with
  | keeps => exact .inl rfl
  | drops => exact .inl rfl
  | performs e =>
    obtain ⟨_, _, _, _, ha⟩ := hx
    exact .inr ⟨(ha _ _ e).1, _, e⟩

/-- Settles O5: the life-cycle state changes where LIFECYCLE_ADVANCE stands in front, which checks Table 15.5 itself, or where a pending
advance takes place, which the invariant says is one of the table. -/
theorem lifecycleChangesByTable : Obligations.LifecycleChangesByTable := by
  unfold Obligations.LifecycleChangesByTable
  intro s t hs h
  have hx := (lifeInv_iff s).mp hs
  have hm := step_moves h
  generalize hy : t.fuses = y at hm
  have ht : t.otp = y.1 := congrArg Prod.fst hy
  rw [ht]
  cases hm with
  | settles h => exact (hx.lifecycle_settles h).imp_right fun ⟨ht, q, e⟩ => ⟨ht, .inr ⟨q, e⟩⟩
  | confirms n => exact .inl rfl
  | requests => exact .inl rfl
  | advances hf h => exact .inr ⟨h.1, .inl hf⟩

end Sys2Proof.Machine
end

section
/-! PROOFS. Chapter 15: what a transition of the life cycle destroys (O57). A transition leaves no key-store record, so the module is keyless
after it (R471); what follows the keyless condition then leaves the OTP, the settings, the network keys and the meter alone, and of the
security core changes only whether the condition was recorded. -/

namespace Sys2Proof.Machine

/-! ### The custody of keys, and what leaves it alone -/

/-- What a transition is said to leave or to destroy: OTP, security core, settings, network keys, meter. -/
def State.custody (s : State) : Otp × SecSt × SettingsSt × List (Nat × Bytes) × MeterSt := (s.otp, s.sec, s.set, s.mac.netKeys, s.meter)

theorem custody_of_keptX {s t : State} (h : t.keptX = s.keptX) : t.custody = s.custody := by
  simp only [State.custody, keptX_otp h, keptX_sec h, keptX_set h, keptX_mac h, keptX_meter h]

theorem ev_custody (code : Nat) (p : Bytes) (s : State) : (ev code p s).custody = s.custody := by
  simp only [State.custody, ev_otp, ev_sec, ev_set, ev_mac, ev_meter]

theorem autoStart_custody (s : State) : (autoStart s).custody = s.custody := by
  unfold autoStart
  split <;> rfl

theorem setContactor_custody (k : Nat) (level : Bool) (s : State) : (setContactor k level s).custody = s.custody := by
  unfold setContactor
  split
  · rfl
  · dsimp only
    split
    · rw [autoStart_custody]
      rfl
    · split <;> rfl

theorem fallbackDrive_custody (k : Nat) (s : State) : (fallbackDrive k s).custody = s.custody := by
  unfold fallbackDrive
  split
  · rfl
  · split
    · rfl
    · rw [ev_custody, setContactor_custody]

theorem takeControl_custody (a : Agent) (s : State) : (takeControl a s).custody = s.custody := by
  unfold takeControl
  split
  · rfl
  · rw [ev_custody]
    rfl

/-- The sequencer's takeover moves contactors and the span's start, no key. -/
theorem seqTakes_custody (s : State) : (seqTakes s).custody = s.custody := by
  unfold seqTakes fallbackEval
  split
  · rfl
  · split
    · exact takeControl_custody _ s
    · rw [fallbackDrive_custody, fallbackDrive_custody, takeControl_custody]

/-- The span's end completes commands and drops what was under way, no key. -/
theorem endSpan_custody (status detail : Nat) (s : State) : (endSpan status detail s).custody = s.custody := by
  unfold endSpan
  dsimp only
  rw [custody_of_keptX (keptX_foldl _ (fun u c => complete_keptX c status _ _ u) _ _)]
  rfl

/-! ### The keyless condition -/

/-- R471: without a record of the key store the module is keyless. -/
theorem keyless_of_no_slots {s : State} (h : s.sec.slots = []) : s.keyless = true := by
  simp [State.keyless, State.occupied, State.slotRec, h, get?]

/-- R472: where the condition holds, its record is all that changes of the custody. -/
theorem noteKeyless_custody {s : State} (h : s.keyless = true) :
    (noteKeyless s).custody = (s.modSec (fun k => { k with keylessRecorded := true })).custody := by
  by_cases hr : s.keyless = s.sec.keylessRecorded
  · rw [noteKeyless, if_pos hr]
    rw [h] at hr
    simp only [State.custody, State.modSec, hr]
  · rw [noteKeyless, if_neg hr, if_pos h]
    dsimp only
    rw [ev_custody, seqTakes_custody, endSpan_custody]

/-! ### A transition -/

/-- R464 step 1: the fuses, the epoch, the keystone, the banks and the records of the key store. -/
def keysDestroyed (to_ : Nat) (s : State) : State :=
  let s := s.modOtp (fun o => { o with
    lifecycle := to_, returns := if s.otp.lifecycle = lcReturn ∧ to_ = lcProvisioned then o.returns + 1 else o.returns,
    rootKilled := o.rootKilled || to_ == lcScrapped })
  (zeroBanks (clearKeystone (writeMirror (advanceEpoch s)))).modSec (fun k => { k with slots := [], slots2 := none, advance := none })

theorem keysDestroyed_otp (to_ : Nat) (s : State) : (keysDestroyed to_ s).otp = s.otp.advanced to_ := rfl

/-- R464 steps 1 to 4: with the settings erased on a return to PROVISIONED. -/
def lifeDestroyed (to_ : Nat) (s : State) : State :=
  if s.otp.lifecycle = lcReturn ∧ to_ = lcProvisioned then useStore emptyStore (keysDestroyed to_ s) else keysDestroyed to_ s

theorem lifeDestroyed_otp (to_ : Nat) (s : State) : (lifeDestroyed to_ s).otp = s.otp.advanced to_ := by
  unfold lifeDestroyed
  split <;> rfl

theorem lifeDestroyed_sec (to_ : Nat) (s : State) : (lifeDestroyed to_ s).sec = (keysDestroyed to_ s).sec := by
  unfold lifeDestroyed
  split <;> rfl

theorem lifeDestroyed_netKeys (to_ : Nat) (s : State) : (lifeDestroyed to_ s).mac.netKeys = [] := by
  unfold lifeDestroyed
  split <;> rfl

theorem lifeDestroyed_set {s : State} (h : s.otp.lifecycle = lcReturn) : (lifeDestroyed lcProvisioned s).set.live = [] := by
  rw [lifeDestroyed, if_pos ⟨h, rfl⟩]
  rfl

theorem lifeDestroyed_meter (to_ : Nat) (s : State) :
    (lifeDestroyed to_ s).meter = { s.meter with backup := (lifeDestroyed to_ s).meter.backup } := by
  unfold lifeDestroyed
  split <;> rfl

/-- Two records and the keyless condition follow. -/
theorem advanceLife_eq (to_ : Nat) (s : State) : ∃ changed erased : Bytes,
    advanceLife to_ s = noteKeyless (ev evKeysErased erased (ev evLifecycleChanged changed (lifeDestroyed to_ s))) := by
  unfold advanceLife lifeDestroyed keysDestroyed
  dsimp only
  exact ⟨_, _, rfl⟩

/-- What follows the destruction changes none of what it left: the module is keyless by then. -/
theorem advanceLife_custody (to_ : Nat) (s : State) :
    (advanceLife to_ s).custody = ((lifeDestroyed to_ s).modSec (fun k => { k with keylessRecorded := true })).custody := by
  obtain ⟨changed, erased, he⟩ := advanceLife_eq to_ s
  have hkeyless : (ev evKeysErased erased (ev evLifecycleChanged changed (lifeDestroyed to_ s))).keyless = true := by
    apply keyless_of_no_slots
    rw [ev_sec, ev_sec, lifeDestroyed_sec]
    rfl
  rw [he, noteKeyless_custody hkeyless]
  simp only [State.custody, State.modSec, ev_otp, ev_sec, ev_set, ev_mac, ev_meter]

/-- Settles O57: field by field what `lifeDestroyed` leaves. -/
theorem transitionsDestroyKeys : Obligations.TransitionsDestroyKeys := by
  unfold Obligations.TransitionsDestroyKeys
  intro to_ s
  have hc := advanceLife_custody to_ s
  simp only [State.custody, Prod.mk.injEq, State.modSec_otp, State.modSec_sec, State.modSec_set, State.modSec_mac, State.modSec_meter,
    lifeDestroyed_otp, lifeDestroyed_sec, lifeDestroyed_netKeys] at hc
  obtain ⟨hotp, hsec, hset, hkeys, hmeter⟩ := hc
  rw [hotp, hsec, hset, hkeys, hmeter]
  refine ⟨rfl, rfl, Nat.le_max_right _ _, rfl, rfl, rfl, rfl, rfl, fun hr hp => ⟨?_, ?_⟩, fun hs => ?_, rfl, lifeDestroyed_meter to_ s⟩
  · exact if_pos ⟨hr, hp⟩
  · subst hp
    exact lifeDestroyed_set hr
  · subst hs
    exact Bool.or_true _

end Sys2Proof.Machine
end

section
/-! PROOFS. Chapter 14: what one record does to the recorder (O58), what an acknowledgement does to the list of pending UCs and which entry
the timer waits for (O56). -/

namespace Sys2Proof.Machine

/-! ### The creation of a record (R448 to R450) -/

theorem stageAll_nextIndex (now : Nat) (p : Parapet) : (stageAll now p).nextIndex = p.nextIndex := by
  unfold stageAll
  dsimp only
  split <;> rfl

theorem stageAll_buckets (now : Nat) (p : Parapet) : (stageAll now p).buckets = p.buckets := by
  unfold stageAll
  dsimp only
  split <;> rfl

/-- Staging moves records and loses none. -/
theorem mem_stageAll {now : Nat} {p : Parapet} {r : EventRec} (h : r ∈ p.volatileBuf ++ p.staged) :
    r ∈ (stageAll now p).volatileBuf ++ (stageAll now p).staged := by
  unfold stageAll
  dsimp only
  split
  · exact h
  · simp only [List.mem_append] at h ⊢
    rw [or_left_comm, ← List.mem_append, List.mem_append, or_comm (a := r ∈ List.drop _ _), ← List.mem_append, List.take_append_drop]
    exact h.symm

theorem createRec_nextIndex (now : Nat) (r : EventRec) (isFault : Bool) (p : Parapet) :
    (createRec now r isFault p).nextIndex = p.nextIndex + 1 := by
  unfold createRec
  dsimp only
  split
  · rfl
  · split
    · rw [stageAll_nextIndex]
    · rfl

theorem createRec_buckets (now : Nat) (r : EventRec) (isFault : Bool) (p : Parapet) :
    (createRec now r isFault p).buckets = p.buckets := by
  unfold createRec
  dsimp only
  split
  · rfl
  · split
    · rw [stageAll_buckets]
    · rfl

/-- R449: while the buffer has room the record, under the next index, is kept in the buffer or staged. -/
theorem mem_createRec {now : Nat} {r : EventRec} {isFault : Bool} {p : Parapet} (h : p.volatileBuf.length < 2048) :
    { r with index := p.nextIndex } ∈ (createRec now r isFault p).volatileBuf ++ (createRec now r isFault p).staged := by
  unfold createRec
  dsimp only
  rw [if_neg (Nat.not_le.mpr h)]
  split
  · exact mem_stageAll (by simp)
  · simp

/-- R450: with no index dropped there is nothing to report. -/
theorem reportLost_of_none {s : State} {p : Parapet} (h : p.dropped = 0) : reportLost s p = p := by
  simp [reportLost, h]

/-! ### The token bucket (R447) -/

theorem bucketOf_put (p q : Parapet) (code : Nat) (b : Bucket) (h : q.buckets = put p.buckets code b) : bucketOf q code = b := by
  simp [bucketOf, h, get?_put]

/-- What a record leaves of its bucket: nothing happens to an exempt code's, else a token goes. -/
def charged (now code : Nat) (b : Bucket) : Bucket :=
  if rateExempt code then b else { b with tokens := b.tokens - 1, since := if b.tokens = b.burst then now else b.since, suppressed := 0 }

/-- A suppression is counted. -/
def Bucket.suppressing (b : Bucket) : Bucket := { b with suppressed := b.suppressed + 1 }

/-- The record of an event, under an index still to come (R444). -/
def recordOf (code source sev : Nat) (payload : Bytes) (suppressed : Nat) (s : State) : EventRec :=
  { index := 0, time := s.eventTime, code := code, source := source, severity := sev, suppressed := min suppressed 255,
    cycle := s.evCycle, payload := fit 14 payload }

/-- The notice of a record leaves the recorder as it is. -/
theorem par_of_notice (p : Prop) [Decidable p] (dest : Option Nat) (code tag : Nat) (rec : Bytes) (s : State) :
    (if p then noticeTo dest code tag rec s else s).par = s.par := by
  split
  · exact noticeTo_par dest code tag rec s
  · rfl

/-- R447: with a token, or exempt, the event is recorded and its bucket charged. -/
theorem recordEv_par_created {code source sev : Nat} {payload : Bytes} {dest : Option Nat} {tag : Nat} {s : State}
    (h : rateExempt code = true ∨ 0 < (refilled s.now (bucketOf s.par code)).tokens) :
    (recordEv code source sev payload dest tag s).par =
      createRec s.now (recordOf code source sev payload (bucketOf s.par code).suppressed s) (0x0901 ≤ code && code ≤ 0x0918)
        { reportLost s s.par with buckets := put s.par.buckets code (charged s.now code (refilled s.now (bucketOf s.par code))) } := by
  have hc : (rateExempt code || decide (0 < (refilled s.now (bucketOf s.par code)).tokens)) = true := by simpa using h
  unfold recordEv
  dsimp only
  rw [if_pos hc, par_of_notice]
  rfl

/-- R447: with an empty bucket nothing is recorded but the suppression. -/
theorem recordEv_par_suppressed {code source sev : Nat} {payload : Bytes} {dest : Option Nat} {tag : Nat} {s : State}
    (he : rateExempt code = false) (h : (refilled s.now (bucketOf s.par code)).tokens = 0) :
    (recordEv code source sev payload dest tag s).par =
      { s.par with buckets := put s.par.buckets code (refilled s.now (bucketOf s.par code)).suppressing } := by
  have hc : ¬(rateExempt code || decide (0 < (refilled s.now (bucketOf s.par code)).tokens)) = true := by simp [he, h]
  unfold recordEv
  dsimp only
  rw [if_neg hc, par_of_notice]
  rfl

/-- Settles O58: the recorder after the event is that of one created record, or that of a suppression. -/
theorem eventRecording : Obligations.EventRecording := by
  unfold Obligations.EventRecording
  intro code source sev payload dest tag s hd
  refine ⟨fun h => ?_, fun ⟨he, ht⟩ => ?_⟩
  · have hb := createRec_buckets s.now (recordOf code source sev payload (bucketOf s.par code).suppressed s)
      (0x0901 ≤ code && code ≤ 0x0918)
      { s.par with buckets := put s.par.buckets code (charged s.now code (refilled s.now (bucketOf s.par code))) }
    rw [recordEv_par_created h, reportLost_of_none hd, bucketOf_put _ _ _ _ hb]
    refine ⟨createRec_nextIndex _ _ _ _, fun hroom => ⟨_, mem_createRec hroom, rfl, rfl, rfl, rfl⟩, fun he => ?_⟩
    rw [charged, he]
    exact ⟨rfl, rfl⟩
  · rw [recordEv_par_suppressed he ht]
    refine ⟨rfl, ?_⟩
    rw [bucketOf_put s.par _ code _ rfl]
    rfl

/-! ### The list of pending UCs (R435) -/

/-- The entry is in front of every later deadline. -/
def Earliest : List UcEntry → Prop
  | [] => True
  | e :: l => ∀ x ∈ l, e.deadline ≤ x.deadline

theorem mem_insertByDeadline (e x : UcEntry) (l : List UcEntry) : x ∈ insertByDeadline e l ↔ x = e ∨ x ∈ l := by
  induction l with
  | nil => simp [insertByDeadline]
  | cons y l ih =>
    unfold insertByDeadline
    split
    · simp
    · simp [ih, or_left_comm]

theorem earliest_insertByDeadline (e : UcEntry) {l : List UcEntry} (h : Earliest l) : Earliest (insertByDeadline e l) := by
  cases l with
  | nil => simp [insertByDeadline, Earliest]
  | cons y l =>
    unfold insertByDeadline
    split
    · intro x hx
      obtain rfl | hx := List.mem_cons.mp hx
      · omega
      · have := h x hx
        omega
    · intro x hx
      obtain rfl | hx := (mem_insertByDeadline e x l).mp hx
      · omega
      · exact h x hx

/-- Inserting one entry after another keeps what is in front, and adds each. -/
theorem foldl_insertByDeadline (new l : List UcEntry) (h : Earliest l) :
    Earliest (new.foldl (fun l e => insertByDeadline e l) l) ∧
      ∀ x, x ∈ new.foldl (fun l e => insertByDeadline e l) l ↔ x ∈ new ∨ x ∈ l := by
  induction new generalizing l with
  | nil => simpa using h
  | cons e new ih =>
    obtain ⟨hf, hm⟩ := ih (insertByDeadline e l) (earliest_insertByDeadline e h)
    refine ⟨hf, fun x => ?_⟩
    rw [List.foldl_cons, hm, mem_insertByDeadline, List.mem_cons, or_left_comm, or_assoc]

theorem pendingSorted_earliest (s : State) : Earliest (pendingSorted s) := (foldl_insertByDeadline s.par.pending [] trivial).1

theorem mem_pendingSorted (s : State) (x : UcEntry) : x ∈ pendingSorted s ↔ x ∈ s.par.pending := by
  have h := (foldl_insertByDeadline s.par.pending [] trivial).2 x
  rwa [or_iff_left List.not_mem_nil] at h

theorem ackFault_before {source : Nat} {e : UcEntry} {s : State} (h : s.par.pending.find? (fun e => e.source == source) = some e)
    (hd : s.now < e.deadline) : ackFault source s =
      recordEv evFaultAcknowledged source (severityOf evFaultAcknowledged) (le 2 source ++ le 2 e.merged) none 0
        (s.modPar (fun p => { p with pending := p.pending.filter (fun x => x.source != source) })) := by
  simp only [ackFault, h, if_neg (Nat.not_le.mpr hd)]

theorem ackFault_late {source : Nat} {e : UcEntry} {s : State} (h : s.par.pending.find? (fun e => e.source == source) = some e)
    (hd : e.deadline ≤ s.now) : ackFault source s = raiseFT srcEscalation (le 2 source) s := by
  simp only [ackFault, h, if_pos hd, escalate]

theorem exec_ucEscalation_due {e : UcEntry} {l : List UcEntry} {s : State} (h : pendingSorted s = e :: l) (hd : e.deadline ≤ s.now)
    (hs : s.par.safe = false) : exec .ucEscalation s = .next (raiseFT srcEscalation (le 2 e.source) s) := by
  have he : exec .ucEscalation s = execUcEscalation s := rfl
  simp [he, execUcEscalation, h, hd, hs, escalate]

/-- Settles O56: an acknowledgement by its deadline, the timer by the order of the list. -/
theorem faultAcknowledgement : Obligations.FaultAcknowledgement := by
  unfold Obligations.FaultAcknowledgement
  refine ⟨fun source e s => ackFault_before, fun source e s => ackFault_late, fun e l s h => ?_, fun e l s => exec_ucEscalation_due⟩
  have hf := pendingSorted_earliest s
  have hm := mem_pendingSorted s
  rw [h] at hf hm
  refine ⟨(hm e).mp (List.mem_cons_self ..), fun x hx => ?_⟩
  obtain rfl | hx := List.mem_cons.mp ((hm x).mpr hx)
  · exact Nat.le_refl _
  · exact hf x hx

end Sys2Proof.Machine
end

section
/-! PROOFS. The machine as a whole: a step runs the command in front (O1), and every command answers a next state (O3). -/

namespace Sys2Proof.Machine

/-- Settles O1: by the queue that `push` leaves. -/
theorem stepRunsFrontCommand : Obligations.StepRunsFrontCommand := by
  unfold Obligations.StepRunsFrontCommand
  exact fun c rest s => rfl

/-- The meaning of each row is a next state. -/
theorem exec_answers (i : Instr) (s : State) : ∃ t, exec i s = .next t := by
  cases i <;> exact ⟨_, rfl⟩

/-- Settles O3: the row in front answers by its meaning, an empty queue by 10 ns of time. -/
theorem everyCommandAnswers : Obligations.EveryCommandAnswers := by
  unfold Obligations.EveryCommandAnswers
  refine ⟨exec_answers, fun s => ?_⟩
  unfold step
  split
  · exact ⟨_, rfl⟩
  · exact exec_answers _ _

end Sys2Proof.Machine
end

section
/-! PROOFS. Chapters 15, 16 and 17: the tamper sources (O46); recovery, update and self-test events (O47). -/

namespace Sys2Proof.Machine

/-- Settles O46: the rows, then the conditions, what a source does as it becomes true or false, and the guard's LFSR, each by its own
equation. -/
theorem tamperEvents : Obligations.TamperEvents := by
  unfold Obligations.TamperEvents
  exact ⟨fun source s => rfl, fun source s => rfl, fun level s => rfl, fun s => rfl, fun s => rfl, fun level s => rfl, fun s => rfl,
    fun source s => rfl, fun source s => rfl, fun source s => rfl, fun source s => rfl, fun source s => rfl, fun l => rfl⟩

/-- Settles O47: the rows, then the operations they lead to, each by its own equation. -/
theorem updateRecoveryAndSelftestEvents : Obligations.UpdateRecoveryAndSelftestEvents := by
  unfold Obligations.UpdateRecoveryAndSelftestEvents
  exact ⟨fun s => rfl, fun s => rfl, fun s => rfl, fun s => rfl, fun s => rfl, fun frame s => rfl, fun frame s => rfl, fun frame s => rfl,
    fun s => rfl, fun r s => rfl, fun s => rfl, fun r s => rfl, fun s => rfl, fun s => rfl, fun s => rfl, fun s => rfl,
    fun type f body s => rfl, fun h s => rfl, fun p s => rfl, fun f s => rfl⟩

end Sys2Proof.Machine
end

section
/-! PROOFS. Chapter 16: the update commands (O24). -/

namespace Sys2Proof.Machine

/-! ### The update group in its turn (R480 to R499) -/

theorem exec_updateBegin_turn {sid tag : Nat} {c : LiveCmd} {s : State} (h : Turn 0x0701 sid tag c s) :
    exec (.updateBegin sid tag) s = .next (updateBegin c (begun c s)) := congrArg Host.Outcome.next (runCmd_turn updateBegin h)
theorem exec_updateFragment_turn {sid tag : Nat} {c : LiveCmd} {s : State} (h : Turn 0x0702 sid tag c s) :
    exec (.updateFragment sid tag) s = .next (updateFragment c (begun c s)) :=
  congrArg Host.Outcome.next (runCmd_turn updateFragment h)
theorem exec_updateStatus_turn {sid tag : Nat} {c : LiveCmd} {s : State} (h : Turn 0x0703 sid tag c s) :
    exec (.updateStatus sid tag) s = .next (updateStatus c (begun c s)) := congrArg Host.Outcome.next (runCmd_turn updateStatus h)
theorem exec_updateActivate_turn {sid tag : Nat} {c : LiveCmd} {s : State} (h : Turn 0x0704 sid tag c s) :
    exec (.updateActivate sid tag) s = .next (updateActivate c (begun c s)) :=
  congrArg Host.Outcome.next (runCmd_turn updateActivate h)
theorem exec_updateConfirm_turn {sid tag : Nat} {c : LiveCmd} {s : State} (h : Turn 0x0705 sid tag c s) :
    exec (.updateConfirm sid tag) s = .next (updateConfirm c (begun c s)) := congrArg Host.Outcome.next (runCmd_turn updateConfirm h)
theorem exec_updateAbort_turn {sid tag : Nat} {c : LiveCmd} {s : State} (h : Turn 0x0706 sid tag c s) :
    exec (.updateAbort sid tag) s = .next (updateAbort c (begun c s)) := congrArg Host.Outcome.next (runCmd_turn updateAbort h)
theorem exec_lanternImageStage_turn {sid tag : Nat} {c : LiveCmd} {s : State} (h : Turn 0x0707 sid tag c s) :
    exec (.lanternImageStage sid tag) s = .next (imageStage c (begun c s)) := congrArg Host.Outcome.next (runCmd_turn imageStage h)
theorem exec_lanternImageRollout_turn {sid tag : Nat} {c : LiveCmd} {s : State} (h : Turn 0x0708 sid tag c s) :
    exec (.lanternImageRollout sid tag) s = .next (imageRollout c (begun c s)) :=
  congrArg Host.Outcome.next (runCmd_turn imageRollout h)

/-- Settles O24: each command executes in the state `begun`. -/
theorem updateCommands : Obligations.UpdateCommands := by
  unfold Obligations.UpdateCommands
  refine ⟨fun sid tag c s h => ?_, fun sid tag c s h => ?_, fun sid tag c s h => ?_, fun sid tag c s h => ?_,
    fun sid tag c s h => ?_, fun sid tag c s h => ?_, fun sid tag c s h => ?_, fun sid tag c s h => ?_⟩
  · rw [exec_updateBegin_turn h]
    rfl
  · rw [exec_updateFragment_turn h]
    rfl
  · rw [exec_updateStatus_turn h]
    rfl
  · rw [exec_updateActivate_turn h]
    rfl
  · rw [exec_updateConfirm_turn h]
    rfl
  · rw [exec_updateAbort_turn h]
    rfl
  · rw [exec_lanternImageStage_turn h]
    rfl
  · rw [exec_lanternImageRollout_turn h]
    rfl

end Sys2Proof.Machine
end

section
/-! PROOFS. The accepting case of each command of chapters 10, 11, 14, 15 and 16 (O59): first what the body of the command does when nothing
refuses it, then the command in its turn. -/

namespace Sys2Proof.Machine

/-! ### The security, fault and twin groups in their turn -/

theorem exec_keyLoad_turn {sid tag : Nat} {c : LiveCmd} {s : State} (h : Turn 0x0801 sid tag c s) :
    exec (.keyLoad sid tag) s = .next (keyLoad c (begun c s)) := congrArg Host.Outcome.next (runCmd_turn keyLoad h)
theorem exec_keyRetire_turn {sid tag : Nat} {c : LiveCmd} {s : State} (h : Turn 0x0802 sid tag c s) :
    exec (.keyRetire sid tag) s = .next (keyRetire c (begun c s)) := congrArg Host.Outcome.next (runCmd_turn keyRetire h)
theorem exec_lifecycleAdvance_turn {sid tag : Nat} {c : LiveCmd} {s : State} (h : Turn 0x0803 sid tag c s) :
    exec (.lifecycleAdvance sid tag) s = .next (lifecycleAdvance c (begun c s)) :=
  congrArg Host.Outcome.next (runCmd_turn lifecycleAdvance h)
theorem exec_tamperPolicySet_turn {sid tag : Nat} {c : LiveCmd} {s : State} (h : Turn 0x0804 sid tag c s) :
    exec (.tamperPolicySet sid tag) s = .next (tamperPolicySet c (begun c s)) :=
  congrArg Host.Outcome.next (runCmd_turn tamperPolicySet h)
theorem exec_debugUnlock_turn {sid tag : Nat} {c : LiveCmd} {s : State} (h : Turn 0x0805 sid tag c s) :
    exec (.debugUnlock sid tag) s = .next (debugUnlock c (begun c s)) := congrArg Host.Outcome.next (runCmd_turn debugUnlock h)
theorem exec_securityStatus_turn {sid tag : Nat} {c : LiveCmd} {s : State} (h : Turn 0x0806 sid tag c s) :
    exec (.securityStatus sid tag) s = .next (securityStatus c (begun c s)) :=
  congrArg Host.Outcome.next (runCmd_turn securityStatus h)
theorem exec_faultStatus_turn {sid tag : Nat} {c : LiveCmd} {s : State} (h : Turn 0x0901 sid tag c s) :
    exec (.faultStatus sid tag) s = .next (faultStatus c (begun c s)) := congrArg Host.Outcome.next (runCmd_turn faultStatus h)
theorem exec_faultAck_turn {sid tag : Nat} {c : LiveCmd} {s : State} (h : Turn 0x0902 sid tag c s) :
    exec (.faultAck sid tag) s = .next (faultAck c (begun c s)) := congrArg Host.Outcome.next (runCmd_turn faultAck h)
theorem exec_eventRead_turn {sid tag : Nat} {c : LiveCmd} {s : State} (h : Turn 0x0903 sid tag c s) :
    exec (.eventRead sid tag) s = .next (eventRead c (begun c s)) := congrArg Host.Outcome.next (runCmd_turn eventRead h)
theorem exec_eventClear_turn {sid tag : Nat} {c : LiveCmd} {s : State} (h : Turn 0x0904 sid tag c s) :
    exec (.eventClear sid tag) s = .next (eventClear c (begun c s)) := congrArg Host.Outcome.next (runCmd_turn eventClear h)
theorem exec_eventRateSet_turn {sid tag : Nat} {c : LiveCmd} {s : State} (h : Turn 0x0905 sid tag c s) :
    exec (.eventRateSet sid tag) s = .next (eventRateSet c (begun c s)) := congrArg Host.Outcome.next (runCmd_turn eventRateSet h)
theorem exec_faultInject_turn {sid tag : Nat} {c : LiveCmd} {s : State} (h : Turn 0x0906 sid tag c s) :
    exec (.faultInject sid tag) s = .next (faultInject c (begun c s)) := congrArg Host.Outcome.next (runCmd_turn faultInject h)
theorem exec_twinStatus_turn {sid tag : Nat} {c : LiveCmd} {s : State} (h : Turn 0x0A01 sid tag c s) :
    exec (.twinStatus sid tag) s = .next (twinStatus c (begun c s)) := congrArg Host.Outcome.next (runCmd_turn twinStatus h)
theorem exec_twinConfig_turn {sid tag : Nat} {c : LiveCmd} {s : State} (h : Turn 0x0A02 sid tag c s) :
    exec (.twinConfig sid tag) s = .next (twinConfig c (begun c s)) := congrArg Host.Outcome.next (runCmd_turn twinConfig h)
theorem exec_leaseYield_turn {sid tag : Nat} {c : LiveCmd} {s : State} (h : Turn 0x0A03 sid tag c s) :
    exec (.leaseYield sid tag) s = .next (leaseYield c (begun c s)) := congrArg Host.Outcome.next (runCmd_turn leaseYield h)

section Accepted
variable {c : LiveCmd} {s : State}

/-! ### The meter group (R358 to R365) -/

theorem meterConfig_accepted (h3 : zeroAt c.params 3 1 = true) (h6 : zeroAt c.params 6 2 = true)
    (hw : writeRefusal s c.role (meterEntries c.params) = none) :
    meterConfig c s =
      complete c stOk dNone (le 4 (writeSettings (meterEntries c.params) s).meter.metrology) (writeSettings (meterEntries c.params) s) := by
  simp only [meterConfig, h3, h6, hw, Bool.not_true, Bool.false_eq_true, or_self, if_false]

theorem pulseOutputAssign_accepted (hf : fld c.params 2 1 = 0) (h3 : zeroAt c.params 3 1 = true) (h10 : zeroAt c.params 10 2 = true)
    (hk : fld c.params 0 1 ≤ 3) (hi : (s.shadow 0x064C).testBit (fld c.params 0 1) = false)
    (hw : writeRefusal s c.role [(0x0640 + fld c.params 0 1, fld c.params 1 1), (0x0644 + fld c.params 0 1, fld c.params 4 4),
      (0x0648 + fld c.params 0 1, fld c.params 8 2), (0x064C, s.shadow 0x064C)] = none) :
    pulseOutputAssign c s = commitBlock c 6 (writeSettings [(0x0640 + fld c.params 0 1, fld c.params 1 1),
      (0x0644 + fld c.params 0 1, fld c.params 4 4), (0x0648 + fld c.params 0 1, fld c.params 8 2), (0x064C, s.shadow 0x064C)] s) := by
  have hk' : ¬3 < fld c.params 0 1 := Nat.not_lt.mpr hk
  have h0 : (0 : Nat).testBit 0 = false := rfl
  have h1 : (0 : Nat).testBit 1 = false := rfl
  have h30 : ¬(3 : Nat) < 0 := by decide
  simp only [pulseOutputAssign, hf, h3, h10, hi, hk', h0, h1, h30, hw, Bool.not_true, Bool.false_eq_true, or_self, if_false, if_true]

theorem pulseInputRead_accepted (h0 : fld c.params 0 1 = 0) (h1 : zeroAt c.params 1 3 = true) :
    pulseInputRead c s = complete c stOk dNone ([0, 1, 2, 3].flatMap (pinEntry s)) s := by
  simp [pulseInputRead, h0, h1]

theorem meterCalibrate_accepted (hm : fld c.params 0 1 = 2) (h4 : zeroAt c.params 4 12 = true) (h16 : zeroAt c.params 16 4 = true)
    (hn : 1 ≤ fld c.params 2 2 ∧ fld c.params 2 2 ≤ 60) (ha : s.meter.active = true) :
    meterCalibrate c s = waitFor c .calibrate [] (s.modMeter (fun m => { m with calib := m.calib ++ [
      { seq := c.seq, mode := 2, phase := fld c.params 1 1, left := fld c.params 2 2, refV := fld c.params 4 4, refI := fld c.params 8 4,
        refAngle := toS 32 (fld c.params 12 4), samples := [], means := [], rms := [] }] })) := by
  have hn' : ¬(fld c.params 2 2 = 0 ∨ 60 < fld c.params 2 2) := by omega
  simp [meterCalibrate, hm, h4, h16, hn', ha]

theorem reconcileRead_accepted (h5 : zeroAt c.params 5 3 = true) (hn : 1 ≤ fld c.params 4 1 ∧ fld c.params 4 1 ≤ 48) :
    ∃ r : Bytes, reconcileRead c s = complete c stOk dNone r s := by
  have hn' : ¬(fld c.params 4 1 = 0 ∨ 48 < fld c.params 4 1) := by omega
  rw [reconcileRead, h5]
  dsimp only
  rw [if_neg (by decide), if_neg hn']
  exact ⟨_, rfl⟩

/-! ### The update group (R480 to R499) -/

theorem updateBegin_accepted (hr : fld c.params 0 4 < 2) (ht : s.inTrial = false)
    (hh : headerRefusal (c.params.drop 4) (privilegedChannel c s) true s = none) (hs : s.upd.session = none) :
    updateBegin c s = complete c stOk dNone (beginReply (c.params.drop 4) 0)
      (ev evUpdateBegun (hdrVersion (c.params.drop 4) ++ [byte (hdrCounter (c.params.drop 4)), byte (inactive s)])
        (newSessionUpd (c.params.drop 4) (inactive s) s)) := by
  simp [updateBegin, Nat.not_le.mpr hr, ht, hh, hs]

theorem updateAbort_receiving (h0 : zeroAt c.params 0 4 = true) (hs : s.upd.state = .receiving) :
    updateAbort c s = complete c stOk dNone [] (dropSession s) := by
  simp [updateAbort, h0, hs]

theorem updateActivate_accepted {x : UpdSession} (h0 : zeroAt c.params 0 4 = true) (hx : s.upd.session = some x)
    (hs : s.upd.state = .ready) (ha : applySoon s = false) :
    updateActivate c s = complete c stOk dNone ([byte x.target] ++ zeros 3) (awaitReset c 3 5
      (ev evUpdateActivated (hdrVersion x.header ++ [byte x.target]) ((rewrap x.target s).modUpd (fun u => { u with
        boot := { u.boot with trial := some (x.target, 0), trialNs := 0, trialSince := (rewrap x.target s).now, revert := 0 } })))) := by
  simp [updateActivate, h0, hx, hs, ha]

theorem updateFragment_accepted {x : UpdSession} (h4 : zeroAt c.params 4 4 = true) (hx : s.upd.session = some x)
    (hi : fld c.params 0 4 < hdrFrags x.header) (hl : (c.params.drop 8).length = fragLen (hdrLen x.header) (fld c.params 0 4))
    (hb : x.bitmap.contains (fld c.params 0 4) = false) (he : fragSector x.header (fld c.params 0 4) < x.erased) :
    updateFragment c s =
      complete c stOk dNone (le 4 (x.bitmap.length + 1)) (programFrag x (fld c.params 0 4) (c.params.drop 8) s) := by
  have hf : ¬(hdrFrags x.header ≤ fld c.params 0 4 ∨ (c.params.drop 8).length ≠ fragLen (hdrLen x.header) (fld c.params 0 4)) :=
    fun h => h.elim (Nat.not_le.mpr hi) (fun hne => hne hl)
  rw [updateFragment, h4, if_neg (by decide), storeFragment, hx]
  dsimp only
  rw [if_neg hf, hb, if_neg (by decide), if_neg (Nat.not_le.mpr he)]

/-- R490: what a confirmation of the slot under trial leaves, before its record and its reply. -/
def confirmed (k : Nat) (s : State) : State :=
  let h := (s.upd.slot k).header
  let s := modSlot k (fun g => { g with confirmed := true }) s
  let s := s.modUpd (fun u => { u with
    state := .idle, detail := 0, boot := { u.boot with active := k, trial := none, trialNs := 0, revert := 0 },
    storeFormat := match u.migrated with | some m => m.2 | none => u.storeFormat, copy1 := none, migrated := none })
  let s := s.modSec (fun x => { x with slots2 := none })
  s.modOtp (fun o => { o with antiRollback := max o.antiRollback (hdrCounter h) })

theorem updateConfirm_accepted {k n : Nat} (h0 : zeroAt c.params 0 4 = true) (ht : s.upd.boot.trial = some (k, n)) (hn : n ≠ 0) :
    updateConfirm c s = complete c stOk dNone ([byte (confirmed k s).otp.antiRollback] ++ zeros 3)
      (ev evUpdateConfirmed (hdrVersion (s.upd.slot k).header ++ [byte (confirmed k s).otp.antiRollback]) (confirmed k s)) := by
  rw [updateConfirm, h0, if_neg (by decide), ht]
  dsimp only
  rw [if_neg hn]
  rfl

theorem imageStage_delete {i : LanImage} (ho : fld c.params 0 1 = 3) (hl : c.params.length = 8) (h1 : zeroAt c.params 1 3 = true)
    (hi : s.image (fld c.params 4 4) = some i) (hr : s.upd.rollouts.any (fun r => r.active && r.image == fld c.params 4 4) = false) :
    imageStage c s = complete c stOk dNone (imageReply i)
      (s.modUpd (fun u => { u with images := u.images.filter (fun x => x.id != fld c.params 4 4) })) := by
  simp [imageStage, ho, hl, h1, hi, hr]

theorem imageRollout_status {i : LanImage} {r : Rollout} (ho : fld c.params 0 1 = 3) (h1 : zeroAt c.params 1 1 = true)
    (hp : fld c.params 2 2 ≤ 512) (hi : s.image (fld c.params 4 4) = some i)
    (hr : s.upd.rollouts.find? (fun r => r.image == fld c.params 4 4) = some r) :
    imageRollout c s = complete c stOk dNone (rolloutReply r) s := by
  simp [imageRollout, ho, h1, Nat.not_lt.mpr hp, hi, hr]

/-! ### The security group (R109 to R113) -/

theorem keyLoad_accepted {r : SlotRec} {key : Bytes} (h : keyLoadRefusal c s = none) (hm : (decKeyLoad c.params).method = 1)
    (hr : s.slotRec (decKeyLoad c.params).kek = some r) (hp : bits r.attr 23 16 = 3)
    (hk : unsealKey (decKeyLoad c.params) r.key c.params (useKey (decKeyLoad c.params).kek s) = some key) :
    keyLoad c s = installKey c (decKeyLoad c.params) key (useKey (decKeyLoad c.params).kek s) := by
  simp [keyLoad, h, hm, hr, hp, loadUnder, hk]

theorem keyRetire_accepted (h2 : zeroAt c.params 2 2 = true) (ht : s.inTrial = false) (hs : fld c.params 0 2 ≤ 4351)
    (ho : s.occupied (fld c.params 0 2) = true) :
    keyRetire c s = noteKeyless (complete c stOk dNone [] (ev evKeyRetired (le 2 (fld c.params 0 2)) (retireSlot (fld c.params 0 2) s))) := by
  simp [keyRetire, h2, ht, Nat.not_lt.mpr hs, ho]

theorem lifecycleAdvance_replied (h : lifecycleRefusal c s = none) (hq : c.flags.testBit flQuiet = false) :
    lifecycleAdvance c s = complete c stOk dNone ([byte (fld c.params 0 1)] ++ zeros 3)
      (awaitReset c 3 6 (s.modSec (fun k => { k with advance := some (fld c.params 0 1, c.seq) }))) := by
  rw [lifecycleAdvance_accepted h, hq]
  rfl

theorem tamperPolicySet_same (h2 : zeroAt c.params 2 2 = true) (hs : 1 ≤ fld c.params 0 1 ∧ fld c.params 0 1 ≤ 8 ∧ fld c.params 0 1 ≠ 7)
    (hp : 1 ≤ fld c.params 1 1 ∧ fld c.params 1 1 ≤ 3) (ho : (s.tamperSrc (fld c.params 0 1)).policy = fld c.params 1 1) :
    tamperPolicySet c s =
      complete c stOk dNone [] (modTamper (fld c.params 0 1) (fun t => { t with policy := fld c.params 1 1 }) s) := by
  have hr : ¬(fld c.params 0 1 = 0 ∨ 8 < fld c.params 0 1 ∨ fld c.params 1 1 = 0 ∨ 3 < fld c.params 1 1) := by omega
  simp [tamperPolicySet, h2, hr, hs.2.2, ho]

theorem debugUnlock_challenge (hl : s.otp.lifecycle = lcTest) (ht : c.transport ≠ .dbg) (hp : fld c.params 0 1 = 1)
    (hn : c.params.length = 4) (h1 : zeroAt c.params 1 3 = true) :
    debugUnlock c s = complete c stOk dNone (s.rnd 16) (s.draw.modHost (fun h => { h with
      debugChals := h.debugChals.filter (fun q => q.sid != c.sid) ++ [{ sid := c.sid, nonce := s.rnd 16, n := 0, issued := s.now }] })) := by
  simp [debugUnlock, hl, ht, hp, hn, h1, unlockPhase1]

/-! ### The fault, event and twin groups (R114 to R120) -/

theorem faultAck_pending (h2 : zeroAt c.params 2 2 = true) (hs : fld c.params 0 2 ≠ 0xFFFF)
    (hp : s.par.pending.any (fun e => e.source == fld c.params 0 2) = true) :
    faultAck c s = ackReply c (ackFault (fld c.params 0 2) s) := by
  simp only [faultAck, h2, hs, hp, Bool.not_true, Bool.false_eq_true, if_false, if_true]

theorem eventClear_challenge (hp : fld c.params 0 1 = 1) (hn : c.params.length = 4) (h1 : zeroAt c.params 1 3 = true) :
    eventClear c s = complete c stOk dNone (s.rnd 16 ++ le 4 s.par.nextIndex) (s.draw.modHost (fun h => { h with
      clearChals := h.clearChals.filter (fun q => q.sid != c.sid) ++
        [{ sid := c.sid, nonce := s.rnd 16, n := s.par.nextIndex, issued := s.now }] })) := by
  simp [eventClear, hp, hn, h1, clearPhase1]

theorem eventRateSet_accepted (h3 : zeroAt c.params 3 1 = true) (he : rateExempt (fld c.params 0 2) = false) (hb : 1 ≤ fld c.params 2 1)
    (hr : 100 ≤ fld c.params 4 4 ∧ fld c.params 4 4 ≤ 86400000) :
    eventRateSet c s = complete c stOk dNone [] (setRate (fld c.params 0 2) (fld c.params 2 1) (fld c.params 4 4) s) := by
  have h0 : ¬fld c.params 4 4 = 0 := by omega
  have hl : ¬(fld c.params 2 1 = 0 ∨ fld c.params 4 4 < 100 ∨ 86400000 < fld c.params 4 4) := by omega
  simp [eventRateSet, h3, he, h0, hl]

theorem eventRead_accepted (hn : 1 ≤ fld c.params 4 1 ∧ fld c.params 4 1 ≤ 126) :
    ∃ r : Bytes, eventRead c s = complete c stOk dNone r s := by
  have hn' : ¬(fld c.params 4 1 = 0 ∨ 126 < fld c.params 4 1) := by omega
  rw [eventRead]
  dsimp only
  rw [if_neg hn']
  exact ⟨_, rfl⟩

theorem faultInject_accepted (h : injectRefusal c.params = none) :
    faultInject c s = complete c stOk dNone [] (s.modPar (fun q => { q with
      injections := q.injections ++ (List.range (fld c.params 3 1)).map (fun k : Nat =>
        ({ source := fld c.params 0 2, cls := fld c.params 2 1, at_ := s.now + (fld c.params 4 4 + k) * ms } : Injection)) })) := by
  simp only [faultInject, h]

theorem twinConfig_accepted (h5 : zeroAt c.params 5 3 = true) (hf : fld c.params 4 1 ≤ 3)
    (hw : writeRefusal s c.role [(0x0A01, fld c.params 0 4), (0x0A00, fld c.params 4 1 % 2), (0x0A02, fld c.params 4 1 / 2)] = none) :
    twinConfig c s = commitBlock c 0x0A
      (writeSettings [(0x0A01, fld c.params 0 4), (0x0A00, fld c.params 4 1 % 2), (0x0A02, fld c.params 4 1 / 2)] s) := by
  simp [twinConfig, h5, Nat.not_lt.mpr hf, writeAndCommit, hw]

theorem leaseYield_forced (hf : fld c.params 0 1 = 1) (h1 : zeroAt c.params 1 3 = true) :
    leaseYield c s = waitFor c .yield [] (s.modTwin (fun t => { t with yielding := true, yieldSent := false })) := by
  simp [leaseYield, hf, h1]

end Accepted

/-- Settles O59: each command executes in the state `begun`, where nothing refuses it. -/
theorem acceptedCommandsComplete : Obligations.AcceptedCommandsComplete := by
  unfold Obligations.AcceptedCommandsComplete
  refine ⟨fun sid tag c s h h3 h6 hw => ?_, fun sid tag c s h => ?_, fun sid tag c s h => ?_,
    fun sid tag c s h hf h3 h10 hk hi hw => ?_, fun sid tag c s h h0 h1 => ?_, fun sid tag c s h hm h4 h16 hn ha => ?_,
    fun sid tag c s h hr ht hh hs => ?_, fun sid tag c s h => ?_, fun sid tag c s h h0 hs => ?_,
    fun sid tag c s x h h0 hx hs ha => ?_, fun sid tag c s x h h4 hx hi hl hb he => ?_, fun sid tag c s k n h h0 ht hn => ?_,
    fun sid tag c s i h ho hl h1 hi hr => ?_, fun sid tag c s i r h ho h1 hp hi hr => ?_,
    fun sid tag c s r key h hl hm hr hp hk => ?_, fun sid tag c s h h2 ht hs ho => ?_, fun sid tag c s h hl hq => ?_,
    fun sid tag c s h h2 hs hp ho => ?_, fun sid tag c s h hl ht hp hn h1 => ?_, fun sid tag c s h => ?_,
    fun sid tag c s h => ?_, fun sid tag c s h h2 hs hp => ?_, fun sid tag c s h hp hn h1 => ?_,
    fun sid tag c s h h3 he hb hr => ?_, fun sid tag c s h hi => ?_, fun sid tag c s h => ?_,
    fun sid tag c s h h5 hf hw => ?_, fun sid tag c s h hf h1 => ?_, fun sid tag c s h h5 hn => ?_, fun sid tag c s h hn => ?_⟩
  · rw [exec_meterConfig_turn h, meterConfig_accepted h3 h6 hw]
  · exact ⟨_, exec_meterRead_turn h⟩
  · exact ⟨_, exec_energyRead_turn h⟩
  · rw [exec_pulseOutputAssign_turn h, pulseOutputAssign_accepted hf h3 h10 hk hi hw]
  · rw [exec_pulseInputRead_turn h, pulseInputRead_accepted h0 h1]
  · rw [exec_meterCalibrate_turn h, meterCalibrate_accepted hm h4 h16 hn ha]
  · rw [exec_updateBegin_turn h, updateBegin_accepted hr ht hh hs]
  · exact ⟨_, exec_updateStatus_turn h⟩
  · rw [exec_updateAbort_turn h, updateAbort_receiving h0 hs]
  · rw [exec_updateActivate_turn h, updateActivate_accepted h0 hx hs ha]
  · rw [exec_updateFragment_turn h, updateFragment_accepted h4 hx hi hl hb he]
  · rw [exec_updateConfirm_turn h, updateConfirm_accepted h0 ht hn]
    rfl
  · rw [exec_lanternImageStage_turn h, imageStage_delete ho hl h1 hi hr]
  · rw [exec_lanternImageRollout_turn h, imageRollout_status ho h1 hp hi hr]
  · rw [exec_keyLoad_turn h, keyLoad_accepted hl hm hr hp hk]
  · rw [exec_keyRetire_turn h, keyRetire_accepted h2 ht hs ho]
  · rw [exec_lifecycleAdvance_turn h, lifecycleAdvance_replied hl hq]
  · rw [exec_tamperPolicySet_turn h, tamperPolicySet_same h2 hs hp ho]
  · rw [exec_debugUnlock_turn h, debugUnlock_challenge hl ht hp hn h1]
  · exact ⟨_, exec_securityStatus_turn h⟩
  · exact ⟨_, exec_faultStatus_turn h⟩
  · rw [exec_faultAck_turn h, faultAck_pending h2 hs hp]
  · rw [exec_eventClear_turn h, eventClear_challenge hp hn h1]
  · rw [exec_eventRateSet_turn h, eventRateSet_accepted h3 he hb hr]
  · rw [exec_faultInject_turn h, faultInject_accepted hi]
  · exact ⟨_, exec_twinStatus_turn h⟩
  · rw [exec_twinConfig_turn h, twinConfig_accepted h5 hf hw]
  · rw [exec_leaseYield_turn h, leaseYield_forced hf h1]
  · rw [exec_reconcileRead_turn h]
    exact (reconcileRead_accepted h5 hn).imp fun r hr => congrArg Host.Outcome.next hr
  · rw [exec_eventRead_turn h]
    exact (eventRead_accepted hn).imp fun r hr => congrArg Host.Outcome.next hr

end Sys2Proof.Machine
end

section
/-! PROOFS. Chapters 2, 3 and 8 to 17: the system commands (O11), the clock (O16), the RTC and its tables (O17), power, queues and
self-test (O18), security (O25), faults and the twin (O26), and the events of the parapet and the recorder (O45). -/

namespace Sys2Proof.Machine

/-! ### The system commands in their turn (R92, R93) -/

theorem exec_echo_turn {sid tag : Nat} {c : LiveCmd} {s : State} (h : Turn 0x0001 sid tag c s) :
    exec (.echo sid tag) s = .next (echo c (begun c s)) := congrArg Host.Outcome.next (runCmd_turn echo h)
theorem exec_deviceInfo_turn {sid tag : Nat} {c : LiveCmd} {s : State} (h : Turn 0x0002 sid tag c s) :
    exec (.deviceInfo sid tag) s = .next (deviceInfo c (begun c s)) := congrArg Host.Outcome.next (runCmd_turn deviceInfo h)
theorem exec_reset_turn {sid tag : Nat} {c : LiveCmd} {s : State} (h : Turn 0x0003 sid tag c s) :
    exec (.reset sid tag) s = .next (resetCmd c (begun c s)) := congrArg Host.Outcome.next (runCmd_turn resetCmd h)
theorem exec_fence_turn {sid tag : Nat} {c : LiveCmd} {s : State} (h : Turn 0x0004 sid tag c s) :
    exec (.fence sid tag) s = .next (fence c (begun c s)) := congrArg Host.Outcome.next (runCmd_turn fence h)

/-- R92: RESET by what refuses it, and by when its reset comes. -/
theorem resetCmd_eq (c : LiveCmd) (s : State) : resetCmd c s =
    if fld c.params 0 1 = 0 ∨ 3 < fld c.params 0 1 then complete c stBadParam dNone [] s
    else if zeroAt c.params 1 3 = false then complete c stBadParam dReservedBit [] s
    else if fld c.params 0 1 = 3 ∧ c.role < 3 then complete c stNotPermitted dRoleBelow [] s
    else if c.flags.testBit flQuiet then complete c stOk dNone [] (s.modHost (fun h =>
      { h with resetAt := h.resetAt.orElse (fun _ => some (s.now + 10 * ms, resetTypeOf (fld c.params 0 1), 3, c.sid)) }))
    else complete c stOk dNone [] (s.modHost (fun h =>
      { h with resetWait := h.resetWait ++ [(resetTypeOf (fld c.params 0 1), 3, c.sid, c.seq)] })) := by
  simp only [resetCmd, resetRefusal, Bool.not_eq_true']
  by_cases hk : fld c.params 0 1 = 0 ∨ 3 < fld c.params 0 1
  · simp only [if_pos hk]
    rfl
  by_cases hz : zeroAt c.params 1 3 = false
  · simp only [if_neg hk, if_pos hz]
    rfl
  by_cases hr : fld c.params 0 1 = 3 ∧ c.role < 3
  · simp only [if_neg hk, if_neg hz, if_pos hr]
    rfl
  simp only [if_neg hk, if_neg hz, if_neg hr, awaitReset]
  split <;> rfl

/-- A record opens in the state `begun` where it did before. -/
theorem slotOpens_begun (c : LiveCmd) (s : State) (slot : Nat) (r : SlotRec) : slotOpens (begun c s) slot r = slotOpens s slot r := by
  have hr : (begun c s).testRoot = s.testRoot := by simp only [State.testRoot, begun_otp, begun_sec]
  simp only [slotOpens, State.measure, hr, begun_sec, begun_otp, begun_upd]

/-- What DEVICE_INFO reports of the module is as it was before the command began. -/
theorem deviceInfo_begun (c : LiveCmd) (s : State) : deviceInfo c (begun c s) = complete c stOk dNone
    (le 2 0x0D4B ++ [byte s.otp.orderCode, byte s.otp.lifecycle] ++ le 16 s.otp.unitId
      ++ fit 6 (sub (s.upd.slot s.upd.booted).header 12 6) ++ [byte s.upd.booted, byte (bootState s), byte s.otp.antiRollback,
        byte (twinRole s)] ++ le 2 s.otp.stepping ++ le 5 (s.live 0x0400) ++ [byte (infoFlags s)] ++ zeros 2
      ++ le 8 ((s.now - s.boot.resetAt) / ms) ++ zeros 16) (begun c s) := by
  have hb : bootState (begun c s) = bootState s := by simp only [bootState, begun_upd]
  have hh : (begun c s).holder = s.holder := congrArg not (begun_standby c s)
  have ht : twinRole (begun c s) = twinRole s := by rw [twinRole, twinRole, begun_twin, hh]
  have hk : (begun c s).keyless = s.keyless := by
    simp only [State.keyless, State.occupied, State.slotRec, begun_sec, slotOpens_begun]
  have hi : infoFlags (begun c s) = infoFlags s := by
    simp only [infoFlags, State.debugEnabled, State.testRoot, hk, begun_otp, begun_sec]
  simp only [deviceInfo, begun_otp, begun_upd, begun_live, begun_now, begun_boot, hb, ht, hi]

/-- Settles O11: each command executes in the state `begun`. -/
theorem systemCommands : Obligations.SystemCommands := by
  unfold Obligations.SystemCommands
  refine ⟨fun sid tag c s h => ?_, fun sid tag c s h => ?_, fun sid tag c s h => ?_, fun sid tag c s h => ?_⟩
  · rw [exec_echo_turn h]
    rfl
  · rw [exec_deviceInfo_turn h, deviceInfo_begun]
  · rw [exec_reset_turn h, resetCmd_eq, begun_now]
  · rw [exec_fence_turn h]
    simp only [fence, fail, Bool.not_eq_true']

/-! ### The clock in its turn (R99 to R101, R288, R297) -/

theorem exec_timeGet_turn {sid tag : Nat} {c : LiveCmd} {s : State} (h : Turn 0x0101 sid tag c s) :
    exec (.timeGet sid tag) s = .next (timeGet c (begun c s)) := congrArg Host.Outcome.next (runCmd_turn timeGet h)
theorem exec_timeSlew_turn {sid tag : Nat} {c : LiveCmd} {s : State} (h : Turn 0x0102 sid tag c s) :
    exec (.timeSlew sid tag) s = .next (timeSlew c (begun c s)) := congrArg Host.Outcome.next (runCmd_turn timeSlew h)
theorem exec_timeStep_turn {sid tag : Nat} {c : LiveCmd} {s : State} (h : Turn 0x0103 sid tag c s) :
    exec (.timeStep sid tag) s = .next (timeStep c (begun c s)) := congrArg Host.Outcome.next (runCmd_turn timeStep h)
theorem exec_timeSourceSet_turn {sid tag : Nat} {c : LiveCmd} {s : State} (h : Turn 0x0104 sid tag c s) :
    exec (.timeSourceSet sid tag) s = .next (timeSourceSet c (begun c s)) := congrArg Host.Outcome.next (runCmd_turn timeSourceSet h)

/-- Settles O16: each command executes in the state `begun`; the two events are their own equations. -/
theorem timeCommands : Obligations.TimeCommands := by
  unfold Obligations.TimeCommands
  refine ⟨fun sid tag c s h => ?_, fun sid tag c s h => ?_, fun sid tag c s h => ?_, fun sid tag c s h => ?_,
    fun s => rfl, fun source s => rfl⟩
  · rw [exec_timeGet_turn h]
    rfl
  · rw [exec_timeSlew_turn h]
    rfl
  · rw [exec_timeStep_turn h]
    rfl
  · rw [exec_timeSourceSet_turn h]
    rfl

/-! ### The RTC and its tables in their turn (R102 to R105) -/

theorem exec_rtcAlarmSet_turn {sid tag : Nat} {c : LiveCmd} {s : State} (h : Turn 0x0105 sid tag c s) :
    exec (.rtcAlarmSet sid tag) s = .next (rtcAlarmSet c (begun c s)) := congrArg Host.Outcome.next (runCmd_turn rtcAlarmSet h)
theorem exec_calendarConvert_turn {sid tag : Nat} {c : LiveCmd} {s : State} (h : Turn 0x0106 sid tag c s) :
    exec (.calendarConvert sid tag) s = .next (calendarConvert c (begun c s)) := congrArg Host.Outcome.next (runCmd_turn calendarConvert h)
theorem exec_localTimeTableLoad_turn {sid tag : Nat} {c : LiveCmd} {s : State} (h : Turn 0x0107 sid tag c s) :
    exec (.localTimeTableLoad sid tag) s = .next (localTimeTableLoad c (begun c s)) :=
  congrArg Host.Outcome.next (runCmd_turn localTimeTableLoad h)
theorem exec_fallbackTableLoad_turn {sid tag : Nat} {c : LiveCmd} {s : State} (h : Turn 0x0108 sid tag c s) :
    exec (.fallbackTableLoad sid tag) s = .next (fallbackTableLoad c (begun c s)) :=
  congrArg Host.Outcome.next (runCmd_turn fallbackTableLoad h)

/-- Settles O17: each command executes in the state `begun`. -/
theorem rtcCommands : Obligations.RtcCommands := by
  unfold Obligations.RtcCommands
  refine ⟨fun sid tag c s h => ?_, fun sid tag c s h => ?_, fun sid tag c s h => ?_, fun sid tag c s h => ?_⟩
  · rw [exec_rtcAlarmSet_turn h]
    rfl
  · rw [exec_calendarConvert_turn h]
    rfl
  · rw [exec_localTimeTableLoad_turn h]
    rfl
  · rw [exec_fallbackTableLoad_turn h]
    rfl

/-! ### Power, queues and self-test in their turn (R106 to R108, R121 to R123) -/

theorem exec_powerPolicySet_turn {sid tag : Nat} {c : LiveCmd} {s : State} (h : Turn 0x0201 sid tag c s) :
    exec (.powerPolicySet sid tag) s = .next (powerPolicySet c (begun c s)) := congrArg Host.Outcome.next (runCmd_turn powerPolicySet h)
theorem exec_powerStatus_turn {sid tag : Nat} {c : LiveCmd} {s : State} (h : Turn 0x0202 sid tag c s) :
    exec (.powerStatus sid tag) s = .next (powerStatus c (begun c s)) := congrArg Host.Outcome.next (runCmd_turn powerStatus h)
theorem exec_powerRefusalsRead_turn {sid tag : Nat} {c : LiveCmd} {s : State} (h : Turn 0x0203 sid tag c s) :
    exec (.powerRefusalsRead sid tag) s = .next (powerRefusalsRead c (begun c s)) :=
  congrArg Host.Outcome.next (runCmd_turn powerRefusalsRead h)
theorem exec_queueConfig_turn {sid tag : Nat} {c : LiveCmd} {s : State} (h : Turn 0x0C01 sid tag c s) :
    exec (.queueConfig sid tag) s = .next (queueConfig c (begun c s)) := congrArg Host.Outcome.next (runCmd_turn queueConfig h)
theorem exec_queueStatus_turn {sid tag : Nat} {c : LiveCmd} {s : State} (h : Turn 0x0C02 sid tag c s) :
    exec (.queueStatus sid tag) s = .next (queueStatus c (begun c s)) := congrArg Host.Outcome.next (runCmd_turn queueStatus h)
theorem exec_selftestRun_turn {sid tag : Nat} {c : LiveCmd} {s : State} (h : Turn 0x0B01 sid tag c s) :
    exec (.selftestRun sid tag) s = .next (selftestRun c (begun c s)) := congrArg Host.Outcome.next (runCmd_turn selftestRun h)
theorem exec_selftestResult_turn {sid tag : Nat} {c : LiveCmd} {s : State} (h : Turn 0x0B02 sid tag c s) :
    exec (.selftestResult sid tag) s = .next (selftestResult c (begun c s)) := congrArg Host.Outcome.next (runCmd_turn selftestResult h)
theorem exec_selftestSchedule_turn {sid tag : Nat} {c : LiveCmd} {s : State} (h : Turn 0x0B03 sid tag c s) :
    exec (.selftestSchedule sid tag) s = .next (selftestSchedule c (begun c s)) :=
  congrArg Host.Outcome.next (runCmd_turn selftestSchedule h)

/-- Settles O18: each command executes in the state `begun`. -/
theorem powerQueueAndSelftestCommands : Obligations.PowerQueueAndSelftestCommands := by
  unfold Obligations.PowerQueueAndSelftestCommands
  refine ⟨fun sid tag c s h => ?_, fun sid tag c s h => ?_, fun sid tag c s h => ?_, fun sid tag c s h => ?_, fun sid tag c s h => ?_,
    fun sid tag c s h => ?_, fun sid tag c s h => ?_, fun sid tag c s h => ?_⟩
  · rw [exec_powerPolicySet_turn h]
    rfl
  · rw [exec_powerStatus_turn h]
    rfl
  · rw [exec_powerRefusalsRead_turn h]
    rfl
  · rw [exec_queueConfig_turn h]
    rfl
  · rw [exec_queueStatus_turn h]
    rfl
  · rw [exec_selftestRun_turn h]
    rfl
  · rw [exec_selftestResult_turn h]
    rfl
  · rw [exec_selftestSchedule_turn h]
    rfl

/-! ### Security, faults and the twin in their turn (R109 to R120) -/

/-- Settles O25: each command executes in the state `begun`. -/
theorem securityCommands : Obligations.SecurityCommands := by
  unfold Obligations.SecurityCommands
  refine ⟨fun sid tag c s h => ?_, fun sid tag c s h => ?_, fun sid tag c s h => ?_, fun sid tag c s h => ?_, fun sid tag c s h => ?_,
    fun sid tag c s h => ?_⟩
  · rw [exec_keyLoad_turn h]
    rfl
  · rw [exec_keyRetire_turn h]
    rfl
  · rw [exec_lifecycleAdvance_turn h]
    rfl
  · rw [exec_tamperPolicySet_turn h]
    rfl
  · rw [exec_debugUnlock_turn h]
    rfl
  · rw [exec_securityStatus_turn h]
    rfl

/-- Settles O26: each command executes in the state `begun`. -/
theorem faultAndTwinCommands : Obligations.FaultAndTwinCommands := by
  unfold Obligations.FaultAndTwinCommands
  refine ⟨fun sid tag c s h => ?_, fun sid tag c s h => ?_, fun sid tag c s h => ?_, fun sid tag c s h => ?_, fun sid tag c s h => ?_,
    fun sid tag c s h => ?_, fun sid tag c s h => ?_, fun sid tag c s h => ?_, fun sid tag c s h => ?_⟩
  · rw [exec_faultStatus_turn h]
    rfl
  · rw [exec_faultAck_turn h]
    rfl
  · rw [exec_eventRead_turn h]
    rfl
  · rw [exec_eventClear_turn h]
    rfl
  · rw [exec_eventRateSet_turn h]
    rfl
  · rw [exec_faultInject_turn h]
    rfl
  · rw [exec_twinStatus_turn h]
    rfl
  · rw [exec_twinConfig_turn h]
    rfl
  · rw [exec_leaseYield_turn h]
    rfl

/-! ### Events of the parapet and the recorder (R430 to R452) -/

/-- Settles O45: the rows, then the detection, the containment, the watchdog and the page that they lead to, each by its own equation. -/
theorem faultEvents : Obligations.FaultEvents := by
  unfold Obligations.FaultEvents
  exact ⟨fun source cls payload s => rfl, fun s => rfl, fun s => rfl, fun source s => rfl, fun core s => rfl, fun core s => rfl,
    fun s => rfl, fun s => rfl, fun s => rfl, fun code s => rfl, fun source cls info s => rfl, fun e s => rfl, fun core s => rfl,
    fun s => rfl⟩

end Sys2Proof.Machine
end

section
/-! PROOFS. The frames of all rows (O51, O52): what the frames of the Laws say, said of the parts of the state, and the frames of the rows
that they leave out. -/

namespace Sys2Proof.Machine

/-! ### The state without some of its parts -/

/-- The state with the parts of a list blanked out. Two states agree without the list when they differ in its parts only. -/
def State.without (l : List Part) (s : State) : State :=
  { s with
    time := if .time ∈ l then default else s.time, rtc := if .rtc ∈ l then default else s.rtc, fb := if .fb ∈ l then default else s.fb,
    set := if .settings ∈ l then default else s.set, host := if .host ∈ l then default else s.host,
    par := if .par ∈ l then default else s.par, pwr := if .pwr ∈ l then default else s.pwr,
    joints := if .joints ∈ l then default else s.joints, mac := if .mac ∈ l then default else s.mac,
    truss := if .truss ∈ l then default else s.truss, lamp := if .lamp ∈ l then default else s.lamp,
    meter := if .meter ∈ l then default else s.meter, twin := if .twin ∈ l then default else s.twin,
    otp := if .otp ∈ l then default else s.otp, sec := if .sec ∈ l then default else s.sec, upd := if .upd ∈ l then default else s.upd,
    bist := if .bist ∈ l then default else s.bist, boot := if .boot ∈ l then default else s.boot,
    out := if .out ∈ l then default else s.out, freeIdx := if .freeIdx ∈ l then default else s.freeIdx }

/-- States that agree without a list have every part that it does not name in common. -/
theorem samePart_of_without {l : List Part} {s t : State} (h : t.without l = s.without l) {p : Part} (hp : p ∉ l) : SamePart p s t := by
  cases p with
  | time => simpa [SamePart, State.without, hp] using congrArg State.time h
  | rtc => simpa [SamePart, State.without, hp] using congrArg State.rtc h
  | fb => simpa [SamePart, State.without, hp] using congrArg State.fb h
  | settings => simpa [SamePart, State.without, hp] using congrArg State.set h
  | host => simpa [SamePart, State.without, hp] using congrArg State.host h
  | par => simpa [SamePart, State.without, hp] using congrArg State.par h
  | pwr => simpa [SamePart, State.without, hp] using congrArg State.pwr h
  | joints => simpa [SamePart, State.without, hp] using congrArg State.joints h
  | mac => simpa [SamePart, State.without, hp] using congrArg State.mac h
  | truss => simpa [SamePart, State.without, hp] using congrArg State.truss h
  | lamp => simpa [SamePart, State.without, hp] using congrArg State.lamp h
  | meter => simpa [SamePart, State.without, hp] using congrArg State.meter h
  | twin => simpa [SamePart, State.without, hp] using congrArg State.twin h
  | otp => simpa [SamePart, State.without, hp] using congrArg State.otp h
  | sec => simpa [SamePart, State.without, hp] using congrArg State.sec h
  | upd => simpa [SamePart, State.without, hp] using congrArg State.upd h
  | bist => simpa [SamePart, State.without, hp] using congrArg State.bist h
  | boot => simpa [SamePart, State.without, hp] using congrArg State.boot h
  | out => simpa [SamePart, State.without, hp] using congrArg State.out h
  | freeIdx => simpa [SamePart, State.without, hp] using congrArg State.freeIdx h

/-- Blanking out more loses nothing. -/
theorem without_without {l l' : List Part} (h : l ⊆ l') (s : State) : (s.without l).without l' = s.without l' := by
  have hb {α : Type} [Inhabited α] (p : Part) (x : α) : (if p ∈ l' then default else if p ∈ l then default else x) =
      if p ∈ l' then default else x := by
    by_cases hp : p ∈ l'
    · rw [if_pos hp, if_pos hp]
    · rw [if_neg hp, if_neg hp, if_neg fun hl => hp (h hl)]
  simp only [State.without, hb]

theorem without_mono {l l' : List Part} {s t : State} (h : l ⊆ l') (e : t.without l = s.without l) : t.without l' = s.without l' := by
  rw [← without_without h t, e, without_without h]

section Updates
variable {l : List Part} (s : State)

@[simp] theorem without_modTime (h : .time ∈ l) (f) : (s.modTime f).without l = s.without l := by simp [State.without, State.modTime, h]
@[simp] theorem without_modRtc (h : .rtc ∈ l) (f) : (s.modRtc f).without l = s.without l := by simp [State.without, State.modRtc, h]
@[simp] theorem without_modFb (h : .fb ∈ l) (f) : (s.modFb f).without l = s.without l := by simp [State.without, State.modFb, h]
@[simp] theorem without_modSet (h : .settings ∈ l) (f) : (s.modSet f).without l = s.without l := by simp [State.without, State.modSet, h]
@[simp] theorem without_modHost (h : .host ∈ l) (f) : (s.modHost f).without l = s.without l := by simp [State.without, State.modHost, h]
@[simp] theorem without_modPar (h : .par ∈ l) (f) : (s.modPar f).without l = s.without l := by simp [State.without, State.modPar, h]
@[simp] theorem without_modPwr (h : .pwr ∈ l) (f) : (s.modPwr f).without l = s.without l := by simp [State.without, State.modPwr, h]
@[simp] theorem without_joints (h : .joints ∈ l) (j) : ({ s with joints := j } : State).without l = s.without l := by
  simp [State.without, h]
@[simp] theorem without_modMac (h : .mac ∈ l) (f) : (s.modMac f).without l = s.without l := by simp [State.without, State.modMac, h]
@[simp] theorem without_modTruss (h : .truss ∈ l) (f) : (s.modTruss f).without l = s.without l := by simp [State.without, State.modTruss, h]
@[simp] theorem without_modLamp (h : .lamp ∈ l) (f) : (s.modLamp f).without l = s.without l := by simp [State.without, State.modLamp, h]
@[simp] theorem without_modMeter (h : .meter ∈ l) (f) : (s.modMeter f).without l = s.without l := by simp [State.without, State.modMeter, h]
@[simp] theorem without_modTwin (h : .twin ∈ l) (f) : (s.modTwin f).without l = s.without l := by simp [State.without, State.modTwin, h]
@[simp] theorem without_modOtp (h : .otp ∈ l) (f) : (s.modOtp f).without l = s.without l := by simp [State.without, State.modOtp, h]
@[simp] theorem without_modSec (h : .sec ∈ l) (f) : (s.modSec f).without l = s.without l := by simp [State.without, State.modSec, h]
@[simp] theorem without_modUpd (h : .upd ∈ l) (f) : (s.modUpd f).without l = s.without l := by simp [State.without, State.modUpd, h]
@[simp] theorem without_modBist (h : .bist ∈ l) (f) : (s.modBist f).without l = s.without l := by simp [State.without, State.modBist, h]
@[simp] theorem without_modBoot (h : .boot ∈ l) (f) : (s.modBoot f).without l = s.without l := by simp [State.without, State.modBoot, h]
@[simp] theorem without_modOut (h : .out ∈ l) (f) : (s.modOut f).without l = s.without l := by simp [State.without, State.modOut, h]
@[simp] theorem without_draw (h : .freeIdx ∈ l) : s.draw.without l = s.without l := by simp [State.without, State.draw, h]

end Updates

@[simp] theorem without_ite {l : List Part} (c : Prop) [Decidable c] (a b : State) :
    (if c then a else b).without l = if c then a.without l else b.without l := apply_ite (State.without l) c a b

@[simp] theorem without_foldl {α : Type} {l : List Part} (f : State → α → State) (h : ∀ s x, (f s x).without l = s.without l)
    (xs : List α) (s : State) : (xs.foldl f s).without l = s.without l := by
  induction xs generalizing s with
  | nil => rfl
  | cons x xs ih => rw [List.foldl_cons, ih, h]

/-! ### The frames of the Laws, said of the parts -/

section Frames
variable {s t : State}

theorem without_of_keptA (h : t.keptA = s.keptA) : t.without partsDialogue = s.without partsDialogue := by
  simp only [State.keptA, Prod.mk.injEq] at h
  simp [State.without, partsDialogue, h]
theorem without_of_keptB (h : t.keptB = s.keptB) : t.without partsMesh = s.without partsMesh := by
  simp only [State.keptB, Prod.mk.injEq] at h
  simp [State.without, partsMesh, h]
theorem without_of_keptC (h : t.keptC = s.keptC) : t.without partsTime = s.without partsTime := by
  simp only [State.keptC, Prod.mk.injEq] at h
  simp [State.without, partsTime, h]
theorem without_of_keptD (h : t.keptD = s.keptD) : t.without partsKeys = s.without partsKeys := by
  simp only [State.keptD, Prod.mk.injEq] at h
  simp [State.without, partsKeys, h]
theorem without_of_keptE (h : t.keptE = s.keptE) : t.without partsLocal = s.without partsLocal := by
  simp only [State.keptE, Prod.mk.injEq] at h
  simp [State.without, partsLocal, h]
theorem without_of_keptF (h : t.keptF = s.keptF) : t.without partsWide = s.without partsWide := by
  simp only [State.keptF, Prod.mk.injEq] at h
  simp [State.without, partsWide, h]
theorem without_of_keptG (h : t.keptG = s.keptG) : t.without partsLines = s.without partsLines := by
  simp only [State.keptG, Prod.mk.injEq] at h
  simp [State.without, partsLines, h]
theorem without_of_keptH (h : t.keptH = s.keptH) : t.without partsStore = s.without partsStore := by
  simp only [State.keptH, Prod.mk.injEq] at h
  simp [State.without, partsStore, h]
theorem without_of_keptHo (h : t.keptHo = s.keptHo) : t.without partsSessions = s.without partsSessions := by
  simp only [State.keptHo, Prod.mk.injEq] at h
  simp [State.without, partsSessions, h]
theorem without_of_keptTw (h : t.keptTw = s.keptTw) : t.without partsLink = s.without partsLink := by
  simp only [State.keptTw, Prod.mk.injEq] at h
  simp [State.without, partsLink, h]
theorem without_of_keptMa (h : t.keptMa = s.keptMa) : t.without partsRadio = s.without partsRadio := by
  simp only [State.keptMa, Prod.mk.injEq] at h
  simp [State.without, partsRadio, h]
theorem without_of_keptMe (h : t.keptMe = s.keptMe) : t.without partsMetering = s.without partsMetering := by
  simp only [State.keptMe, Prod.mk.injEq] at h
  simp [State.without, partsMetering, h]
theorem without_of_keptPa (h : t.keptPa = s.keptPa) : t.without partsRecorder = s.without partsRecorder := by
  simp only [State.keptPa, Prod.mk.injEq] at h
  simp [State.without, partsRecorder, h]
theorem without_of_keptSe (h : t.keptSe = s.keptSe) : t.without partsSecrets = s.without partsSecrets := by
  simp only [State.keptSe, Prod.mk.injEq] at h
  simp [State.without, partsSecrets, h]
theorem without_of_keptLa (h : t.keptLa = s.keptLa) : t.without partsLamps = s.without partsLamps := by
  simp only [State.keptLa, Prod.mk.injEq] at h
  simp [State.without, partsLamps, h]
theorem without_of_keptPw (h : t.keptPw = s.keptPw) : t.without partsPower = s.without partsPower := by
  simp only [State.keptPw, Prod.mk.injEq] at h
  simp [State.without, partsPower, h]
theorem without_of_keptTi (h : t.keptTi = s.keptTi) : t.without partsUnit = s.without partsUnit := by
  simp only [State.keptTi, Prod.mk.injEq] at h
  simp [State.without, partsUnit, h]
theorem without_of_keptRt (h : t.keptRt = s.keptRt) : t.without partsRtc = s.without partsRtc := by
  simp only [State.keptRt, Prod.mk.injEq] at h
  simp [State.without, partsRtc, h]

end Frames

/-! ### What the operations touch

An abbreviation, so that `simp` sees the members of such a list wherever one list has to lie in another. -/

/-- What a completion touches. -/
@[simp] abbrev partsReply : List Part :=
  [.host, .par, .twin]
/-- What a wake touches. -/
@[simp] abbrev partsWake : List Part :=
  [.host, .par, .pwr, .joints, .out]
/-- What the fallback sequencer touches. -/
@[simp] abbrev partsContactors : List Part :=
  [.fb, .host, .par, .mac]
/-- What an alarm of the RTC touches. -/
@[simp] abbrev partsAlarm : List Part :=
  [.rtc, .host, .par, .pwr, .joints, .out]
/-- What a step of the RTC touches. -/
@[simp] abbrev partsRtcSet : List Part :=
  [.rtc, .fb, .host, .par, .pwr, .joints, .mac, .out]
/-- What the start and the stop of the meter touch. -/
@[simp] abbrev partsMeterRun : List Part :=
  [.rtc, .fb, .host, .par, .pwr, .joints, .lamp, .meter, .twin, .out]
/-- What installing fragments and configurations in lanterns touches. -/
@[simp] abbrev partsPush : List Part :=
  [.host, .par, .mac, .truss, .twin, .upd]
/-- What the closing of a session on Ethernet touches: its last packets are sealed. -/
@[simp] abbrev partsSealed : List Part :=
  [.host, .par, .twin, .sec, .out]
/-- What follows the keyless condition touches. -/
@[simp] abbrev partsKeyless : List Part :=
  [.fb, .host, .par, .mac, .truss, .twin, .sec, .upd, .out]
/-- What the acts on a tamper source touch. -/
@[simp] abbrev partsActs : List Part :=
  [.fb, .host, .par, .pwr, .mac, .truss, .twin, .sec, .upd, .out]
/-- What a datagram that opens or carries a session touches. -/
@[simp] abbrev partsHandshake : List Part :=
  [.fb, .host, .par, .pwr, .mac, .truss, .twin, .sec, .upd, .out, .freeIdx]
/-- What going back from a trial touches. -/
@[simp] abbrev partsRevert : List Part :=
  [.time, .rtc, .fb, .settings, .host, .par, .mac, .lamp, .meter, .sec, .upd]
/-- What the start of the firmware touches. -/
@[simp] abbrev partsStart : List Part :=
  [.time, .rtc, .fb, .host, .par, .pwr, .joints, .mac, .truss, .lamp, .meter, .twin, .sec, .upd, .boot, .out, .freeIdx]
/-- What the advance of the life cycle touches, and so a packet that leaves, since it may be the reply that an advance waits for. -/
@[simp] abbrev partsAdvance : List Part :=
  [.time, .rtc, .fb, .settings, .host, .par, .mac, .truss, .lamp, .meter, .twin, .otp, .sec, .upd, .out]
/-- What a packet or frame of a host touches, the recovery ROM started included. -/
@[simp] abbrev partsIntake : List Part :=
  [.time, .rtc, .fb, .settings, .host, .par, .pwr, .joints, .mac, .truss, .lamp, .meter, .twin, .sec, .upd, .boot, .out, .freeIdx]
/-- What LIFECYCLE_ADVANCE touches. -/
@[simp] abbrev partsTransition : List Part :=
  [.time, .rtc, .fb, .settings, .host, .par, .pwr, .mac, .truss, .lamp, .meter, .twin, .otp, .sec, .upd, .out]
/-- What a pop of `WIN_OUT` touches. -/
@[simp] abbrev partsPopped : List Part :=
  [.time, .rtc, .fb, .settings, .host, .par, .pwr, .joints, .mac, .truss, .lamp, .meter, .twin, .otp, .sec, .upd, .out]
/-- What some transaction of HSPI touches. -/
@[simp] abbrev partsTransaction : List Part :=
  [.time, .rtc, .fb, .settings, .host, .par, .pwr, .joints, .mac, .truss, .lamp, .meter, .twin, .otp, .sec, .upd, .boot, .out, .freeIdx]
/-- What a datagram through the tunnel touches. -/
@[simp] abbrev partsTunnel : List Part :=
  [.time, .rtc, .fb, .settings, .host, .par, .pwr, .mac, .truss, .lamp, .meter, .twin, .otp, .sec, .upd, .out, .freeIdx]
/-- What a reset touches. -/
@[simp] abbrev partsReset : List Part :=
  [.time, .rtc, .fb, .settings, .host, .par, .pwr, .joints, .mac, .truss, .lamp, .meter, .twin, .sec, .upd, .bist, .boot, .out]
/-- What a reset with an advance before it touches. -/
@[simp] abbrev partsDelayed : List Part :=
  [.time, .rtc, .fb, .settings, .host, .par, .pwr, .joints, .mac, .truss, .lamp, .meter, .twin, .otp, .sec, .upd, .bist, .boot, .out]
/-- What the end of backup touches. -/
@[simp] abbrev partsPowerOn : List Part :=
  [.time, .rtc, .fb, .host, .par, .pwr, .joints, .mac, .meter, .sec, .boot, .out]
/-- All but the OTP. -/
@[simp] abbrev partsBoot : List Part :=
  [.time, .rtc, .fb, .settings, .host, .par, .pwr, .joints, .mac, .truss, .lamp, .meter, .twin, .sec, .upd, .bist, .boot, .out, .freeIdx]

theorem without_of_keptX {s t : State} (h : t.keptX = s.keptX) : t.without partsReply = s.without partsReply := by
  simp only [State.keptX, Prod.mk.injEq] at h
  simp [State.without, h]
theorem without_of_keptY {s t : State} (h : t.keptY = s.keptY) : t.without [.host, .par] = s.without [.host, .par] := by
  simp only [State.keptY, Prod.mk.injEq] at h
  simp [State.without, h]

/-- What all rows but those that program the OTP leave alone, said of the parts. -/
theorem without_of_kept {s t : State} (h : t.kept = s.kept) : t.without partsBoot = s.without partsBoot := by
  simp only [State.kept, Prod.mk.injEq] at h
  simp [State.without, h]

end Sys2Proof.Machine
end

section
/-! PROOFS. The frames of the operations that the rows outside the frames of the Laws use: `op_without` says that `op` keeps the state
without any list of parts that holds those it touches. -/

namespace Sys2Proof.Machine

section Operations
variable {l : List Part}

/-! ### Replies, records, the power state, the lease and the pulses -/

@[simp] theorem modSession_without (hl : [.host] ⊆ l) (s : State) (sid : Nat) (f : Session → Session) :
    (State.modSession s sid f).without l = s.without l :=
  without_mono hl (without_of_keptHo (State_modSession_keptHo s sid f))

@[simp] theorem ev_without (hl : [.host, .par] ⊆ l) (code : Nat) (payload : Bytes) (s : State) :
    (ev code payload s).without l = s.without l :=
  without_mono hl (without_of_keptY (ev_keptY code payload s))

@[simp] theorem checkBacklog_without (hl : [.host, .par] ⊆ l) (sid : Nat) (s : State) : (checkBacklog sid s).without l = s.without l :=
  without_mono hl (without_of_keptY (checkBacklog_keptY sid s))

@[simp] theorem pushBare_without (hl : [.host] ⊆ l) (t : Transport) (bytes : Bytes) (seq : Nat) (s : State) :
    (pushBare t bytes seq s).without l = s.without l :=
  without_mono hl (without_of_keptHo (pushBare_keptHo t bytes seq s))

@[simp] theorem modCmd_without (hl : [.host] ⊆ l) (s : State) (seq : Nat) (f : LiveCmd → LiveCmd) :
    (State.modCmd s seq f).without l = s.without l :=
  without_mono hl (without_of_keptHo (State_modCmd_keptHo s seq f))

@[simp] theorem complete_without (hl : partsReply ⊆ l) (c : LiveCmd) (status detail : Nat) (params : Bytes) (s : State) :
    (complete c status detail params s).without l = s.without l :=
  without_mono hl (without_of_keptX (complete_keptX c status detail params s))

@[simp] theorem fail_without (hl : partsReply ⊆ l) (c : LiveCmd) (status detail : Nat) (s : State) :
    (fail c status detail s).without l = s.without l :=
  without_mono hl (without_of_keptX (fail_keptX c status detail s))

@[simp] theorem completeEach_without (hl : partsReply ⊆ l) (p : LiveCmd → Bool) (status detail : Nat) (params : LiveCmd → Bytes)
    (s : State) :
    (completeEach p status detail params s).without l = s.without l :=
  without_mono hl (without_of_keptX (completeEach_keptX p status detail params s))

@[simp] theorem dropPend_without (hl : [.settings, .host] ⊆ l) (s : State) : (dropPend s).without l = s.without l :=
  without_mono hl (by simp [dropPend])

@[simp] theorem lateSuccess_without (hl : [.host, .par] ⊆ l) (p : LateRec → Bool) (status : Nat) (s : State) :
    (lateSuccess p status s).without l = s.without l :=
  without_mono hl (without_of_keptY (lateSuccess_keptY p status s))

@[simp] theorem closeSession_without (hl : partsReply ⊆ l) (sid : Nat) (s : State) :
    (closeSession sid s).without l = s.without l :=
  without_mono hl (without_of_keptX (closeSession_keptX sid s))

@[simp] theorem takeControl_without (hl : [.fb, .host, .par] ⊆ l) (a : Agent) (s : State) : (takeControl a s).without l = s.without l :=
  without_mono hl (by simp [takeControl])

@[simp] theorem refreshLdEn_without (hl : [.lamp] ⊆ l) (s : State) : (refreshLdEn s).without l = s.without l :=
  without_mono hl (without_of_keptLa (refreshLdEn_keptLa s))

@[simp] theorem toRun_without (hl : [.pwr] ⊆ l) (s : State) : (toRun s).without l = s.without l := by
  refine without_mono hl ?_
  unfold toRun
  split
  · simp [setPState, accountState]
  · rfl

@[simp] theorem loseLease_without (hl : [.settings, .host, .par, .twin] ⊆ l) (s : State) : (loseLease s).without l = s.without l :=
  without_mono hl (by simp [loseLease])

@[simp] theorem dropLeaseOut_without (hl : [.twin] ⊆ l) (s : State) : (dropLeaseOut s).without l = s.without l :=
  without_mono hl (without_of_keptTw (dropLeaseOut_keptTw s))

@[simp] theorem modJoint_without (hl : [.joints] ⊆ l) (j : Nat) (f : Joint → Joint) (s : State) :
    (modJoint j f s).without l = s.without l :=
  without_mono hl (by simp [modJoint])

@[simp] theorem crossNote_without (hl : [.host, .par, .pwr, .joints] ⊆ l) (j code : Nat) (payload : Bytes) (s : State) :
    (crossNote j code payload s).without l = s.without l :=
  without_mono hl (by simp [crossNote])

@[simp] theorem startPulses_without (hl : [.meter] ⊆ l) (s : State) : (startPulses s).without l = s.without l :=
  without_mono hl (without_of_keptMe (startPulses_keptMe s))

/-! ### Contactors (chapter 9) -/

@[simp] theorem autoStart_without (hl : [.mac] ⊆ l) (s : State) : (autoStart s).without l = s.without l :=
  without_mono hl (without_of_keptMa (autoStart_keptMa s))

@[simp] theorem setContactor_without (hl : [.fb, .mac] ⊆ l) (k : Nat) (level : Bool) (s : State) :
    (setContactor k level s).without l = s.without l :=
  without_mono hl (by simp [setContactor])

@[simp] theorem fallbackDrive_without (hl : partsContactors ⊆ l) (k : Nat) (s : State) : (fallbackDrive k s).without l = s.without l := by
  refine without_mono hl ?_
  unfold fallbackDrive
  split <;> simp

@[simp] theorem fallbackEval_without (hl : partsContactors ⊆ l) (s : State) : (fallbackEval s).without l = s.without l :=
  without_mono hl (by simp [fallbackEval])

@[simp] theorem seqTakes_without (hl : partsContactors ⊆ l) (s : State) : (seqTakes s).without l = s.without l :=
  without_mono hl (by simp [seqTakes])

/-! ### Corrected faults, commands, joints and wakes -/

@[simp] theorem raiseCE_without (hl : [.host, .par] ⊆ l) (source : Nat) (payload : Bytes) (s : State) :
    (raiseCE source payload s).without l = s.without l :=
  without_mono hl (without_of_keptY (raiseCE_keptY source payload s))

@[simp] theorem runCmd_without (hl : [.host, .par, .pwr, .twin] ⊆ l) (op sid tag : Nat) {body : LiveCmd → State → State}
    (hb : ∀ c u, (body c u).without l = u.without l) (s : State) :
    (runCmd op sid tag body s).without l = s.without l := by
  simp only [List.cons_subset, List.nil_subset, and_true] at hl
  obtain ⟨hhost, hpar, hpwr, htwin⟩ := hl
  unfold runCmd
  dsimp only
  (repeat' split) <;> simp [hb, hhost, hpar, hpwr, htwin]

@[simp] theorem recordOverrun_without (hl : [.host, .par, .joints] ⊆ l) (j : Nat) (s : State) :
    (recordOverrun j s).without l = s.without l :=
  without_mono hl (by simp [recordOverrun])

@[simp] theorem recordFlushed_without (hl : [.host, .par, .joints] ⊆ l) (j : Nat) (s : State) :
    (recordFlushed j s).without l = s.without l :=
  without_mono hl (by simp [recordFlushed])

@[simp] theorem crossEv_without (hl : [.host, .par, .pwr, .joints] ⊆ l) (j code : Nat) (payload : Bytes) (s : State) :
    (crossEv j code payload s).without l = s.without l :=
  without_mono hl (by simp [crossEv])

@[simp] theorem flushJoint_without (hl : [.pwr, .joints] ⊆ l) (j : Nat) (s : State) : (flushJoint j s).without l = s.without l :=
  without_mono hl (by simp [flushJoint])

@[simp] theorem recordOverruns_without (hl : [.host, .par, .joints] ⊆ l) (s : State) : (recordOverruns s).without l = s.without l :=
  without_mono hl (by simp [recordOverruns])

@[simp] theorem beginExit_without (hl : [.pwr, .out] ⊆ l) (s : State) : (beginExit s).without l = s.without l :=
  without_mono hl (without_of_keptPw (beginExit_keptPw s))

@[simp] theorem recordWake_without (hl : [.host, .par, .pwr, .joints] ⊆ l) (cause : Nat) (s : State) :
    (recordWake cause s).without l = s.without l :=
  without_mono hl (by simp [recordWake])

@[simp] theorem wakeUp_without (hl : partsWake ⊆ l) (cause : Nat) (s : State) :
    (wakeUp cause s).without l = s.without l := by
  refine without_mono hl ?_
  unfold wakeUp
  split <;> simp

/-! ### The RTC, its alarms and the run of the meter -/

@[simp] theorem fireAlarm_without (hl : partsAlarm ⊆ l) (i flags instants t : Nat) (s : State) :
    (fireAlarm i flags instants t s).without l = s.without l :=
  without_mono hl (by simp [fireAlarm])

@[simp] theorem matchAlarm_without (hl : partsAlarm ⊆ l) (i t : Nat) (s : State) : (matchAlarm i t s).without l = s.without l := by
  refine without_mono hl ?_
  unfold matchAlarm
  split <;> simp

@[simp] theorem rtcAlarmMatch_without (hl : partsAlarm ⊆ l) (s : State) : (rtcAlarmMatch s).without l = s.without l :=
  without_mono hl (by simp [rtcAlarmMatch])

@[simp] theorem alarmStep_without (hl : partsAlarm ⊆ l) (i a b : Nat) (s : State) : (alarmStep i a b s).without l = s.without l := by
  refine without_mono hl ?_
  unfold alarmStep
  split <;> simp

@[simp] theorem rtcStepped_without (hl : [.host, .par] ⊆ l) (n : Int) (cause : Nat) (s : State) :
    (rtcStepped n cause s).without l = s.without l :=
  without_mono hl (by simp [rtcStepped])

@[simp] theorem rtcMove_without (hl : partsAlarm ⊆ l) (n : Int) (cause : Nat) (adjust : Bool) (s : State) :
    (rtcMove n cause adjust s).without l = s.without l :=
  without_mono hl (by simp [rtcMove])

@[simp] theorem rtcStep_without (hl : partsRtcSet ⊆ l) (n : Int) (cause : Nat) (adjust : Bool)
    (s : State) :
    (rtcStep n cause adjust s).without l = s.without l :=
  without_mono hl (by simp [rtcStep])

@[simp] theorem refreshU_without (hl : partsRtcSet ⊆ l) (s : State) :
    (refreshU s).without l = s.without l :=
  without_mono hl (by simp [refreshU])

@[simp] theorem meterRun_without (hl : partsMeterRun ⊆ l) (on : Bool) (s : State) :
    (meterRun on s).without l = s.without l :=
  without_mono hl (without_of_keptG (meterRun_keptG on s))

@[simp] theorem moveSecond_without (hl : [.meter] ⊆ l) (a b : Nat) (s : State) : (moveSecond a b s).without l = s.without l :=
  without_mono hl (without_of_keptMe (moveSecond_keptMe a b s))

/-! ### Lanterns and their messages (chapter 6) -/

@[simp] theorem modLan_without (hl : [.mac] ⊆ l) (n : Nat) (f : Lantern → Lantern) (s : State) : (modLan n f s).without l = s.without l :=
  without_mono hl (without_of_keptMa (modLan_keptMa n f s))

@[simp] theorem dropLantern_without (hl : [.mac] ⊆ l) (n : Nat) (s : State) : (dropLantern n s).without l = s.without l :=
  without_mono hl (without_of_keptMa (dropLantern_keptMa n s))

@[simp] theorem finishMesh_without (hl : partsReply ⊆ l) (q : Nat) (s : State) : (finishMesh q s).without l = s.without l := by
  refine without_mono hl ?_
  unfold finishMesh
  split <;> simp

@[simp] theorem removeLantern_without (hl : [.host, .par, .mac, .twin] ⊆ l) (by_ n : Nat) (s : State) :
    (removeLantern by_ n s).without l = s.without l :=
  without_mono hl (by simp [removeLantern])

@[simp] theorem ownSettled_without (hl : [.mac, .truss, .upd] ⊆ l) (t : Txn) (o : Outcome) (s : State) :
    (ownSettled t o s).without l = s.without l :=
  without_mono hl (by simp [ownSettled])

@[simp] theorem finishLeave_without (hl : [.host, .par, .mac, .twin] ⊆ l) (t : Txn) (s : State) :
    (finishLeave t s).without l = s.without l := by
  refine without_mono hl ?_
  unfold finishLeave
  (repeat' split) <;> simp

@[simp] theorem lateLeave_without (hl : [.host, .par, .mac, .twin] ⊆ l) (q n : Nat) (s : State) :
    (lateLeave q n s).without l = s.without l :=
  without_mono hl (by simp [lateLeave])

@[simp] theorem lateMesh_without (hl : [.host, .par] ⊆ l) (q : Nat) (s : State) : (lateMesh q s).without l = s.without l := by
  refine without_mono hl ?_
  unfold lateMesh
  split <;> simp

@[simp] theorem settle_without (hl : partsPush ⊆ l) (t : Txn) (o : Outcome) (s : State) : (settle t o s).without l = s.without l := by
  refine without_mono hl ?_
  unfold settle
  dsimp only
  (repeat' split) <;> simp

@[simp] theorem trimHeld_without (hl : partsPush ⊆ l) (n : Nat) (s : State) : (trimHeld n s).without l = s.without l := by
  refine without_mono hl ?_
  unfold trimHeld
  split <;> simp

@[simp] theorem sendMsg_without (hl : partsPush ⊆ l) (owner : Option Nat) (n type : Nat) (confirmed : Bool) (payload : Bytes)
    (expiry : Nat) (s : State) :
    (sendMsg owner n type confirmed payload expiry s).without l = s.without l := by
  refine without_mono hl ?_
  unfold sendMsg
  dsimp only
  (repeat' split) <;> simp

@[simp] theorem sendOwn_without (hl : partsPush ⊆ l) (n type : Nat) (payload : Bytes) (s : State) :
    (sendOwn n type payload s).without l = s.without l :=
  without_mono hl (by simp [sendOwn])

@[simp] theorem endSpan_without (hl : partsPush ⊆ l) (status detail : Nat) (s : State) :
    (endSpan status detail s).without l = s.without l :=
  without_mono hl (by simp [endSpan])

/-! ### Sealed sessions, the key store and the epoch (chapter 15) -/

@[simp] theorem ethData_without (hl : [.host, .sec, .out] ⊆ l) (sid : Nat) (x : Session) (ch : EthChan) (pkt : Bytes) (s : State) :
    (ethData sid x ch pkt s).without l = s.without l :=
  without_mono hl (by simp [ethData])

@[simp] theorem ethSend_without (hl : partsSealed ⊆ l) (sid : Nat) (pkt : Bytes) (s : State) :
    (ethSend sid pkt s).without l = s.without l := by
  refine without_mono hl ?_
  unfold ethSend
  dsimp only
  (repeat' split) <;> simp

@[simp] theorem flushSession_without (hl : partsSealed ⊆ l) (sid : Nat) (s : State) : (flushSession sid s).without l = s.without l := by
  refine without_mono hl ?_
  unfold flushSession
  split <;> simp

@[simp] theorem dismiss_without (hl : partsSealed ⊆ l) (p : Session → Bool) (s : State) : (dismiss p s).without l = s.without l := by
  refine without_mono hl (without_foldl _ (fun s sid => ?_) _ s)
  (repeat' split) <;> simp

@[simp] theorem closeKeyless_without (hl : partsSealed ⊆ l) (s : State) : (closeKeyless s).without l = s.without l :=
  without_mono hl (by simp [closeKeyless])

@[simp] theorem noteKeyless_without (hl : partsKeyless ⊆ l) (s : State) : (noteKeyless s).without l = s.without l :=
  without_mono hl (by simp [noteKeyless])

@[simp] theorem clearKeystone_without (hl : [.sec] ⊆ l) (s : State) : (clearKeystone s).without l = s.without l :=
  without_mono hl (without_of_keptSe (clearKeystone_keptSe s))

@[simp] theorem retireSlot_without (hl : [.host, .sec] ⊆ l) (slot : Nat) (s : State) : (retireSlot slot s).without l = s.without l :=
  without_mono hl (by simp [retireSlot, eraseSlot, staleChallenges])

@[simp] theorem loadStone_without (hl : [.sec] ⊆ l) (key : Bytes) (attr : Nat) (slot : Option Nat) (s : State) :
    (loadStone key attr slot s).without l = s.without l :=
  without_mono hl (without_of_keptSe (loadStone_keptSe key attr slot s))

@[simp] theorem useKey_without (hl : partsKeyless ⊆ l) (slot : Nat) (s : State) : (useKey slot s).without l = s.without l := by
  refine without_mono hl ?_
  unfold useKey
  split <;> simp

@[simp] theorem recordUnitKa_without (hl : [.host, .par, .sec] ⊆ l) (s : State) : (recordUnitKa s).without l = s.without l := by
  refine without_mono hl ?_
  unfold recordUnitKa stoneUnitKa
  dsimp only
  (repeat' split) <;> simp

@[simp] theorem advanceEpoch_without (hl : [.sec] ⊆ l) (s : State) : (advanceEpoch s).without l = s.without l :=
  without_mono hl (without_of_keptSe (advanceEpoch_keptSe s))

@[simp] theorem writeMirror_without (hl : [.sec] ⊆ l) (s : State) : (writeMirror s).without l = s.without l :=
  without_mono hl (without_of_keptSe (writeMirror_keptSe s))

@[simp] theorem zeroBanks_without (hl : [.mac, .sec] ⊆ l) (s : State) : (zeroBanks s).without l = s.without l :=
  without_mono hl (by simp [zeroBanks])

@[simp] theorem eraseFirmware_without (hl : partsKeyless ⊆ l) (old cause : Nat) (s : State) :
    (eraseFirmware old cause s).without l = s.without l :=
  without_mono hl (by simp [eraseFirmware])

@[simp] theorem seedGuard_without (hl : [.sec, .freeIdx] ⊆ l) (s : State) : (seedGuard s).without l = s.without l :=
  without_mono hl (by simp [seedGuard])

@[simp] theorem tamperRecord_without (hl : [.host, .par] ⊆ l) (e : TamperEnt) (inBackup : Bool) (s : State) :
    (tamperRecord e inBackup s).without l = s.without l :=
  without_mono hl (without_of_keptY (by simp [tamperRecord]))

/-! ### Tamper sources (R467 to R470) -/

@[simp] theorem modTamper_without (hl : [.sec] ⊆ l) (source : Nat) (f : TamperSrc → TamperSrc) (s : State) :
    (modTamper source f s).without l = s.without l :=
  without_mono hl (without_of_keptSe (modTamper_keptSe source f s))

@[simp] theorem logTamper_without (hl : [.sec] ⊆ l) (e : TamperEnt) (s : State) : (logTamper e s).without l = s.without l :=
  without_mono hl (without_of_keptSe (logTamper_keptSe e s))

@[simp] theorem eraseVault_without (hl : [.sec] ⊆ l) (s : State) : (eraseVault s).without l = s.without l :=
  without_mono hl (without_of_keptSe (eraseVault_keptSe s))

@[simp] theorem tamperActs_without (hl : partsActs ⊆ l) (source : Nat) (s : State) : (tamperActs source s).without l = s.without l :=
  without_mono hl (by simp [tamperActs])

@[simp] theorem tamperTrue_without (hl : partsActs ⊆ l) (source : Nat) (s : State) : (tamperTrue source s).without l = s.without l :=
  without_mono hl (by simp [tamperTrue])

@[simp] theorem tamperFalse_without (hl : [.sec] ⊆ l) (source : Nat) (s : State) : (tamperFalse source s).without l = s.without l :=
  without_mono hl (without_of_keptSe (tamperFalse_keptSe source s))

@[simp] theorem tamperOwed_without (hl : partsActs ⊆ l) (s : State) : (tamperOwed s).without l = s.without l := by
  refine without_mono hl ?_
  unfold tamperOwed
  dsimp only
  (repeat' split) <;> simp

@[simp] theorem settleAuth_without (hl : [.sec] ⊆ l) (s : State) : (settleAuth s).without l = s.without l :=
  without_mono hl (without_of_keptSe (settleAuth_keptSe s))

@[simp] theorem rearm_without (hl : [.sec] ⊆ l) (source : Nat) (s : State) : (rearm source s).without l = s.without l :=
  without_mono hl (without_of_keptSe (rearm_keptSe source s))

@[simp] theorem noteAuth_without (hl : partsActs ⊆ l) (opcode sid : Nat) (s : State) : (noteAuth opcode sid s).without l = s.without l :=
  without_mono hl (by simp [noteAuth])

/-! ### The life cycle (R463) -/

@[simp] theorem awaitReset_without (hl : [.host] ⊆ l) (c : LiveCmd) (type source : Nat) (s : State) :
    (awaitReset c type source s).without l = s.without l :=
  without_mono hl (without_of_keptHo (awaitReset_keptHo c type source s))

@[simp] theorem rearmWatchdog_without (hl : [.par] ⊆ l) (core : Nat) (s : State) : (rearmWatchdog core s).without l = s.without l :=
  without_mono hl (without_of_keptPa (rearmWatchdog_keptPa core s))

@[simp] theorem useStore_without (hl : [.time, .rtc, .fb, .settings, .par, .mac, .lamp, .meter] ⊆ l) (c : StoreCopy) (s : State) :
    (useStore c s).without l = s.without l :=
  without_mono hl (by simp [useStore])

@[simp] theorem advanceLife_without (hl : partsAdvance ⊆ l) (to_ : Nat) (s : State) : (advanceLife to_ s).without l = s.without l :=
  without_mono hl (by simp [advanceLife])

@[simp] theorem lifecycleAdvance_without
    (hl : partsTransition ⊆ l) (c : LiveCmd)
    (s : State) :
    (lifecycleAdvance c s).without l = s.without l := by
  refine without_mono hl ?_
  unfold lifecycleAdvance
  split <;> simp

/-! ### Placement (chapter 4) -/

@[simp] theorem recomputeRoutes_without (hl : [.mac] ⊆ l) (s : State) : (recomputeRoutes s).without l = s.without l :=
  without_mono hl (without_of_keptMa (recomputeRoutes_keptMa s))

@[simp] theorem sendInstall_without (hl : partsPush ⊆ l) (n : Nat) (b : Bytes) (s : State) : (sendInstall n b s).without l = s.without l :=
  without_mono hl (by simp [sendInstall])

@[simp] theorem pushFragment_without (hl : partsPush ⊆ l) (f : Fragment) (s : State) : (pushFragment f s).without l = s.without l :=
  without_mono hl (by simp [pushFragment])

@[simp] theorem pushEntry_without (hl : partsPush ⊆ l) (p : Pier) (e : HeadEntry) (s : State) : (pushEntry p e s).without l = s.without l :=
  without_mono hl (by simp [pushEntry])

@[simp] theorem sendOnce_without (hl : partsPush ⊆ l) (n type : Nat) (payload : Bytes) (s : State) :
    (sendOnce n type payload s).without l = s.without l :=
  without_mono hl (by simp [sendOnce])

@[simp] theorem pushWatches_without (hl : partsPush ⊆ l) (site : Option Nat) (s : State) : (pushWatches site s).without l = s.without l :=
  without_mono hl (by simp [pushWatches])

@[simp] theorem pushConfigs_without (hl : partsPush ⊆ l) (site : Option Nat) (s : State) :
    (pushConfigs site s).without l = s.without l := by
  refine without_mono hl (without_foldl _ (fun s n => ?_) _ s)
  dsimp only
  (repeat' split) <;> simp

@[simp] theorem pushEnds_without (hl : partsPush ⊆ l) (site : Option Nat) (s : State) : (pushEnds site s).without l = s.without l :=
  without_mono hl (by simp [pushEnds])

@[simp] theorem pushAll_without (hl : partsPush ⊆ l) (site : Option Nat) (s : State) : (pushAll site s).without l = s.without l :=
  without_mono hl (by simp [pushAll])

@[simp] theorem syncHeads_without (hl : partsPush ⊆ l) (s : State) : (syncHeads s).without l = s.without l :=
  without_mono hl (by simp [syncHeads])

@[simp] theorem newRoutes_without (hl : partsPush ⊆ l) (s : State) : (newRoutes s).without l = s.without l :=
  without_mono hl (by simp [newRoutes])

@[simp] theorem noteShortfall_without (hl : [.host, .par, .truss] ⊆ l) (s : State) : (noteShortfall s).without l = s.without l :=
  without_mono hl (by simp [noteShortfall])

@[simp] theorem viaductSub_without (hl : [.truss] ⊆ l) (r : Bytes) (s : State) : (viaductSub r s).without l = s.without l :=
  without_mono hl (by simp [viaductSub])

@[simp] theorem viaductSubs_without (hl : [.truss] ⊆ l) (s : State) : (viaductSubs s).without l = s.without l :=
  without_mono hl (by simp [viaductSubs])

@[simp] theorem placementsDone_without (hl : partsReply ⊆ l) (s : State) : (placementsDone s).without l = s.without l :=
  without_mono hl (by simp [placementsDone])

@[simp] theorem evaluatePlacement_without (hl : partsPush ⊆ l) (s : State) : (evaluatePlacement s).without l = s.without l :=
  without_mono hl (by simp [evaluatePlacement])

@[simp] theorem annexRespond_without (hl : [.mac] ⊆ l) (seq retries status : Nat) (data : Bytes) (s : State) :
    (annexRespond seq retries status data s).without l = s.without l :=
  without_mono hl (without_of_keptMa (annexRespond_keptMa seq retries status data s))

@[simp] theorem claimLocal_without (hl : [.lamp] ⊆ l) (p : Policy) (i : Nat) (a : Bytes) (elapsed : Nat) (noFade : Bool) (s : State) :
    (claimLocal p i a elapsed noFade s).without l = s.without l :=
  without_mono hl (without_of_keptLa (claimLocal_keptLa p i a elapsed noFade s))

@[simp] theorem catchUpPolicy_without (hl : [.truss, .lamp] ⊆ l) (s : State) (p : Policy) :
    (catchUpPolicy s p).without l = s.without l := by
  refine without_mono hl ?_
  unfold catchUpPolicy
  dsimp only
  (repeat' split) <;> simp

@[simp] theorem firmwareTakes_without (hl : [.fb, .host, .par] ⊆ l) (s : State) : (firmwareTakes s).without l = s.without l :=
  without_mono hl (by simp [firmwareTakes])

@[simp] theorem placementEvaluation_without (hl : [.fb, .host, .par, .mac, .truss, .lamp, .twin, .upd, .bist, .boot] ⊆ l) (s : State) :
    (placementEvaluation s).without l = s.without l :=
  without_mono hl (by simp [placementEvaluation])

/-! ### Firmware (chapter 16) -/

@[simp] theorem modSlot_without (hl : [.upd] ⊆ l) (k : Nat) (f : SlotImg → SlotImg) (s : State) : (modSlot k f s).without l = s.without l :=
  without_mono hl (by simp [modSlot])

@[simp] theorem endFragments_without (hl : partsReply ⊆ l) (s : State) : (endFragments s).without l = s.without l :=
  without_mono hl (by simp [endFragments])

@[simp] theorem newSessionUpd_without (hl : [.host, .par, .twin, .upd] ⊆ l) (h : Bytes) (target : Nat) (s : State) :
    (newSessionUpd h target s).without l = s.without l :=
  without_mono hl (by simp [newSessionUpd])

@[simp] theorem programFrag_without (hl : [.upd] ⊆ l) (x : UpdSession) (i : Nat) (d : Bytes) (s : State) :
    (programFrag x i d s).without l = s.without l :=
  without_mono hl (by simp [programFrag])

@[simp] theorem verifyDone_without (hl : [.host, .par, .upd] ⊆ l) (s : State) : (verifyDone s).without l = s.without l := by
  refine without_mono hl ?_
  unfold verifyDone
  (repeat' split) <;> simp

@[simp] theorem unactivate_without (hl : [.sec, .upd] ⊆ l) (s : State) : (unactivate s).without l = s.without l := by
  refine without_mono hl ?_
  unfold unactivate
  split <;> simp

@[simp] theorem updateConfirm_without (hl : [.host, .par, .twin, .otp, .sec, .upd] ⊆ l) (c : LiveCmd) (s : State) :
    (updateConfirm c s).without l = s.without l := by
  refine without_mono hl ?_
  unfold updateConfirm
  dsimp only
  (repeat' split) <;> simp

/-! ### Reset and start-up (chapter 19) -/

@[simp] theorem resetTimeUnit_without (hl : [.time, .rtc, .fb, .host, .par, .pwr, .joints, .mac, .meter, .out] ⊆ l) (s : State) :
    (resetTimeUnit s).without l = s.without l :=
  without_mono hl (by simp [resetTimeUnit])

@[simp] theorem activated_without (hl : [.sec, .upd] ⊆ l) (type : Nat) (s : State) : (activated type s).without l = s.without l := by
  refine without_mono hl ?_
  unfold activated
  split <;> simp

@[simp] theorem assertReset_without
    (hl : partsReset ⊆ l)
    (type source session : Nat) (s : State) :
    (assertReset type source session s).without l = s.without l := by
  refine without_mono hl ?_
  -- By these lemmas alone: simp would else rewrite inside the fields of the state given new joints, and `without_joints` would not see it.
  simp (disch := first | decide | simp) only [assertReset, resetTimeUnit_without, without_modBoot, without_modRtc, without_modBist,
    without_modUpd, without_modSec, tamperFalse_without, without_modTwin, startPulses_without, without_modMeter, without_modLamp,
    without_modTruss, without_modMac, without_foldl, without_joints, without_modPwr, without_modPar, without_modHost, without_modSet,
    without_modFb, without_ite, seqTakes_without, takeControl_without, ev_without, activated_without, ite_self]

@[simp] theorem revertTrial_without (hl : partsRevert ⊆ l) (cause : Nat)
    (s : State) :
    (revertTrial cause s).without l = s.without l := by
  refine without_mono hl ?_
  unfold revertTrial
  dsimp only
  (repeat' split) <;> simp

@[simp] theorem readBootRecord_without (hl : partsRevert ⊆ l) (s : State)
    :
    (readBootRecord s).without l = s.without l := by
  refine without_mono hl ?_
  unfold readBootRecord
  split <;> simp

@[simp] theorem migrate_without (hl : [.host, .par, .upd] ⊆ l) (s : State) : (migrate s).without l = s.without l := by
  refine without_mono hl ?_
  unfold migrate
  split <;> simp

@[simp] theorem restoreTotals_without (hl : [.host, .par, .meter] ⊆ l) (s : State) : (restoreTotals s).without l = s.without l := by
  refine without_mono hl ?_
  unfold restoreTotals
  dsimp only
  (repeat' split) <;> simp

@[simp] theorem vaultStart_without (hl : [.rtc, .fb, .host, .par, .pwr, .mac, .truss, .twin, .sec, .upd, .boot, .out] ⊆ l) (s : State) :
    (vaultStart s).without l = s.without l :=
  without_mono hl (by simp [vaultStart])

@[simp] theorem tamperStart_without (hl : partsActs ⊆ l) (s : State) : (tamperStart s).without l = s.without l :=
  without_mono hl (by simp [tamperStart])

@[simp] theorem alarmStart_without (hl : [.rtc, .host, .par] ⊆ l) (i : Nat) (s : State) : (alarmStart i s).without l = s.without l := by
  refine without_mono hl ?_
  unfold alarmStart
  split <;> simp

@[simp] theorem resetCause_without (hl : [.host, .par] ⊆ l) (s : State) : (resetCause s).without l = s.without l :=
  without_mono hl (by simp [resetCause])

@[simp] theorem startFirmware_without (hl : partsStart ⊆ l) (s : State) : (startFirmware s).without l = s.without l := by
  refine without_mono hl ?_
  unfold startFirmware
  -- Each stage of the start-up by itself: the stages share what comes before them.
  extract_lets s1 s2 s3 s4 s5 s6 s7 s8 s9 s10 s11 s12 s13 s14
  have e3 : s3.without partsStart = s.without partsStart := by simp [s3, s2, s1]
  have e4 : s4.without partsStart = s3.without partsStart := by
    simp only [s4]
    split <;> simp
  have e5 : s5.without partsStart = s4.without partsStart := by
    simp only [s5]
    split <;> simp
  have e6 : s6.without partsStart = s5.without partsStart := by
    simp only [s6]
    split <;> simp
  have e8 : s8.without partsStart = s6.without partsStart := by
    simp only [s8, s7]
    split <;> simp
  have e14 : s14.without partsStart = s8.without partsStart := by
    simp [s14, s13, s12, s11, s10, s9]
  simp [e14, e8, e6, e5, e4, e3]

@[simp] theorem loseVault_without (hl : [.rtc, .fb, .par, .twin, .sec, .boot] ⊆ l) (s : State) : (loseVault s).without l = s.without l :=
  without_mono hl (by simp [loseVault])

@[simp] theorem ioBankChange_without (hl : [.settings, .host, .par, .lamp, .twin, .boot] ⊆ l) (bank mode : Nat) (s : State) :
    (ioBankChange bank mode s).without l = s.without l :=
  without_mono hl (by simp [ioBankChange])

/-! ### The recovery ROM (chapter 16) -/

@[simp] theorem modRecovery_without (hl : [.upd] ⊆ l) (f : Recovery → Recovery) (s : State) : (modRecovery f s).without l = s.without l :=
  without_mono hl (by simp [modRecovery])

@[simp] theorem romSend_without (hl : [.out] ⊆ l) (b : Bytes) (s : State) : (romSend b s).without l = s.without l :=
  without_mono hl (by simp [romSend])

@[simp] theorem romStatus_without (hl : [.upd, .out] ⊆ l) (seq status detail : Nat) (s : State) :
    (romStatus seq status detail s).without l = s.without l :=
  without_mono hl (by simp [romStatus])

@[simp] theorem romCommand_without (hl : [.upd, .out] ⊆ l) (type : Nat) (f : Bytes) {body : Bytes → State → State × Nat × Nat}
    (hb : ∀ p u, (body p u).1.without l = u.without l) (s : State) :
    (romCommand type f body s).without l = s.without l := by
  simp only [List.cons_subset, List.nil_subset, and_true] at hl
  obtain ⟨hupd, hout⟩ := hl
  unfold romCommand
  dsimp only
  (repeat' split) <;> simp [hb, hupd, hout]

@[simp] theorem romBegin_without (hl : [.host, .par, .twin, .upd] ⊆ l) (h : Bytes) (s : State) :
    (romBegin h s).1.without l = s.without l := by
  refine without_mono hl ?_
  unfold romBegin
  dsimp only
  (repeat' split) <;> simp

@[simp] theorem romData_without (hl : [.host, .par, .upd] ⊆ l) (p : Bytes) (s : State) : (romData p s).1.without l = s.without l := by
  refine without_mono hl ?_
  unfold romData
  dsimp only
  (repeat' split) <;> simp

@[simp] theorem romKeys_without (hl : [.host, .par, .sec] ⊆ l) (target : Nat) (s : State) : (romKeys target s).without l = s.without l := by
  refine without_mono hl ?_
  unfold romKeys
  split <;> simp [rewrap]

@[simp] theorem romBoot_without (hl : partsIntake ⊆ l) (s : State) : (romBoot s).without l = s.without l := by
  refine without_mono hl ?_
  unfold romBoot
  split <;> simp

@[simp] theorem recoveryBoot_without (hl : partsIntake ⊆ l) (f : Bytes) (s : State) : (recoveryBoot f s).without l = s.without l := by
  refine without_mono hl ?_
  simp only [recoveryBoot, without_ite, romBoot_without (List.Subset.refl _), ite_self]
  exact romCommand_without (by decide) 5 f (fun p u => by (repeat' split) <;> rfl) s

/-! ### Transports and the window (chapter 2) -/

@[simp] theorem offerLocal_without (hl : [.host, .par, .pwr, .twin, .out] ⊆ l) (t : Transport) (b : Bytes) (s : State) :
    (offerLocal t b s).without l = s.without l :=
  without_mono hl (without_of_keptA (offerLocal_keptA t b s))

@[simp] theorem dropOut_without (hl : [.host, .par] ⊆ l) (t : Transport) (sid : Option Nat) (p : OutPkt) (s : State) :
    (dropOut t sid p s).without l = s.without l := by
  refine without_mono hl ?_
  unfold dropOut
  split
  · simp
  · split <;> simp

@[simp] theorem packetLeft_without (hl : partsAdvance ⊆ l) (t : Transport) (p : OutPkt) (s : State) :
    (packetLeft t p s).without l = s.without l := by
  refine without_mono hl ?_
  unfold packetLeft
  dsimp only
  (repeat' split) <;> simp

@[simp] theorem modWin_without (hl : [.host] ⊆ l) (f : Window → Window) (s : State) : (modWin f s).without l = s.without l :=
  without_mono hl (without_of_keptHo (modWin_keptHo f s))

@[simp] theorem romFrameIn_without (hl : partsIntake ⊆ l) (t : Transport) (f : Bytes) (s : State) :
    (romFrameIn t f s).without l = s.without l :=
  without_mono hl (by simp [romFrameIn])

@[simp] theorem windowIn_without (hl : partsIntake ⊆ l) (b : Bytes) (s : State) : (windowIn b s).without l = s.without l :=
  without_mono hl (by simp [windowIn])

@[simp] theorem pushWord_without (hl : partsIntake ⊆ l) (w : Word32) (s : State) : (pushWord w s).without l = s.without l :=
  without_mono hl (by simp [pushWord])

@[simp] theorem hspi_without (hl : partsWake ⊆ l) {f : State → State} (hf : ∀ u, (f u).without l = u.without l)
    (s : State) :
    (hspi f s).without l = s.without l := by
  simp only [List.cons_subset, List.nil_subset, and_true] at hl
  obtain ⟨hhost, hpar, hpwr, hjoints, hout⟩ := hl
  simp [hspi, onBank, hf, hhost, hpar, hpwr, hjoints, hout]

@[simp] theorem popWord_without (hl : partsAdvance ⊆ l) (s : State) : (popWord s).without l = s.without l := by
  refine without_mono hl ?_
  unfold popWord
  split <;> simp

@[simp] theorem writeStatus_without (hl : [.host] ⊆ l) (v : Nat) (s : State) : (writeStatus v s).without l = s.without l :=
  without_mono hl (without_of_keptHo (writeStatus_keptHo v s))

@[simp] theorem writeCause_without (hl : [.host] ⊆ l) (v : Nat) (s : State) : (writeCause v s).without l = s.without l :=
  without_mono hl (without_of_keptHo (writeCause_keptHo v s))

@[simp] theorem writeReg_without (hl : partsIntake ⊆ l) (offset : Nat) (w : Word32) (s : State) :
    (writeReg offset w s).without l = s.without l :=
  without_mono hl (by simp [writeReg])

@[simp] theorem writeGroups_without (hl : partsIntake ⊆ l) (k offset : Nat) (d : Bytes) (s : State) :
    (writeGroups k offset d s).without l = s.without l := by
  induction k generalizing offset d s with
  | zero => rfl
  | succ k ih =>
    unfold writeGroups
    split
    · rfl
    · rw [ih, writeReg_without hl]

@[simp] theorem readReg_without (hl : partsAdvance ⊆ l) (offset : Nat) (s : State) : (readReg offset s).1.without l = s.without l := by
  refine without_mono hl ?_
  unfold readReg
  split <;> simp

@[simp] theorem readGroups_without (hl : partsAdvance ⊆ l) (k offset n : Nat) (s : State) :
    (readGroups k offset n s).1.without l = s.without l := by
  induction k generalizing offset n s with
  | zero => rfl
  | succ k ih =>
    unfold readGroups
    dsimp only
    (repeat' split) <;> simp [ih, readReg_without hl]

@[simp] theorem hspiBytes_without
    (hl : partsTransaction ⊆ l)
    (mosi : Bytes) (s : State) :
    (hspiBytes mosi s).1.without l = s.without l := by
  refine without_mono hl ?_
  unfold hspiBytes
  dsimp only
  (repeat' split) <;> simp

@[simp] theorem hspiTransaction_without
    (hl : partsTransaction ⊆ l)
    (mosi : Bytes) (s : State) :
    (hspiTransaction mosi s).without l = s.without l :=
  without_mono hl (by simp [hspiTransaction])

/-- R57: a write is of register bytes only, so nothing of it pops `WIN_OUT`. -/
theorem hspiBytes_write_without (hl : partsIntake ⊆ l) (rest : Bytes) (s : State) :
    (hspiBytes (0x02 :: rest) s).1.without l = s.without l := by
  have hc : fld ((0x02 : Byte) :: rest) 0 1 = 0x02 := by simp [fld, sub, leNat]
  unfold hspiBytes
  simp only [hc, if_true]
  split
  · rfl
  · exact writeGroups_without hl _ _ _ s

@[simp] theorem hspiWrite_without (hl : partsIntake ⊆ l) (offset : Nat) (w : Word32) (s : State) :
    (hspiWrite offset w s).without l = s.without l := by
  refine without_mono hl (hspi_without (by decide) (fun u => ?_) s)
  unfold hspiTransaction
  rw [without_modOut (h := by decide)]
  exact hspiBytes_write_without (List.Subset.refl _) _ u

@[simp] theorem frameIn_without (hl : partsIntake ⊆ l) (t : Transport) (f : Bytes) (s : State) :
    (frameIn t f s).without l = s.without l := by
  refine without_mono hl ?_
  unfold frameIn
  split <;> simp

@[simp] theorem framesIn_without (hl : partsIntake ⊆ l) (t : Transport) (raw : Bytes) (s : State) :
    (framesIn t raw s).without l = s.without l :=
  without_mono hl (by simp [framesIn])

@[simp] theorem huartFrame_without (hl : partsIntake ⊆ l) (raw : Bytes) (s : State) : (huartFrame raw s).without l = s.without l :=
  without_mono hl (by simp [huartFrame])

@[simp] theorem ethDrop_without (hl : [.host] ⊆ l) (s : State) : (ethDrop s).without l = s.without l :=
  without_mono hl (without_of_keptHo (ethDrop_keptHo s))

@[simp] theorem refuseHandshake_without (hl : [.out] ⊆ l) (peer st : Nat) (s : State) :
    (refuseHandshake peer st s).without l = s.without l :=
  without_mono hl (by simp [refuseHandshake, ethOut])

@[simp] theorem openEth_without (hl : [.host, .out, .freeIdx] ⊆ l) (peer role n : Nat) (hostKey p z : Bytes) (d : Nat) (s : State) :
    (openEth peer role n hostKey p z d s).without l = s.without l :=
  without_mono hl (by simp [openEth, ethOut])

@[simp] theorem handshake_without (hl : partsHandshake ⊆ l) (peer : Nat)
    (p : Bytes) (s : State) :
    (handshake peer p s).without l = s.without l := by
  refine without_mono hl ?_
  unfold handshake
  dsimp only
  (repeat' split) <;> simp

@[simp] theorem dataIn_without (hl : [.host, .par, .pwr, .twin, .out] ⊆ l) (peer : Nat) (p : Bytes) (s : State) :
    (dataIn peer p s).without l = s.without l :=
  without_mono hl (without_of_keptA (dataIn_keptA peer p s))

@[simp] theorem datagram_without (hl : partsHandshake ⊆ l) (peer : Nat)
    (p : Bytes) (s : State) :
    (datagram peer p s).without l = s.without l :=
  without_mono hl (by simp [datagram])

@[simp] theorem tunnelReply_without (hl : partsAdvance ⊆ l) (m : InMsg) (s : State) : (tunnelReply m s).without l = s.without l := by
  refine without_mono hl ?_
  unfold tunnelReply
  dsimp only
  (repeat' split) <;> simp

@[simp] theorem hostTunnel_without
    (hl : partsTunnel ⊆ l)
    (s : State) :
    (hostTunnel s).without l = s.without l := by
  refine without_mono hl ?_
  unfold hostTunnel
  split <;> simp

@[simp] theorem transmitNext_without (hl : partsSealed ⊆ l) (t : Transport) (sid : Option Nat) (p : OutPkt) (s : State) :
    (transmitNext t sid p s).without l = s.without l := by
  refine without_mono hl ?_
  unfold transmitNext
  (repeat' split) <;> simp

@[simp] theorem txComplete_without (hl : partsAdvance ⊆ l) (t : Transport) (sid : Nat) (s : State) :
    (txComplete t sid s).without l = s.without l := by
  refine without_mono hl ?_
  unfold txComplete
  dsimp only
  (repeat' split) <;> simp

end Operations

end Sys2Proof.Machine
end

section
/-! PROOFS. The frames of all rows: of the commands (O51) and of the events (O52). -/

namespace Sys2Proof.Machine

/-! ### The rows that the frames of the Laws leave out -/

section Rows
variable {s t : State}

theorem execUpdateConfirm_without (sid tag : Nat) (h : execUpdateConfirm sid tag s = .next t) :
    t.without [.host, .par, .pwr, .twin, .otp, .sec, .upd] = s.without [.host, .par, .pwr, .twin, .otp, .sec, .upd] := by
  cases h
  exact runCmd_without (by decide) _ sid tag (updateConfirm_without (by decide)) s

theorem execLifecycleAdvance_without (sid tag : Nat) (h : execLifecycleAdvance sid tag s = .next t) :
    t.without partsTransition = s.without partsTransition := by
  cases h
  exact runCmd_without (by decide) _ sid tag (lifecycleAdvance_without (by decide)) s

/-- R57: a write of a register that takes the host's side only, by what it wakes. -/
theorem hspiWrite_without_of_host {offset : Nat} {w : Word32} (hr : isReg offset = true)
    (hw : ∀ u : State, (writeReg offset w u).without [.host] = u.without [.host]) :
    (hspiWrite offset w s).without partsWake = s.without partsWake := by
  have hw' (u : State) := without_mono (l' := partsWake) (by decide) (hw u)
  simp [hspiWrite_reg offset w s hr, onBank, hw']

theorem writeReg_status_without (w : Word32) (u : State) : (writeReg 0x04 w u).without [.host] = u.without [.host] :=
  writeStatus_without (by decide) w.toNat u

theorem writeReg_cause_without (w : Word32) (u : State) : (writeReg 0x18 w u).without [.host] = u.without [.host] :=
  writeCause_without (by decide) w.toNat u

/-- R60: a pop may take the last word of the reply that an advance waits for. -/
theorem execWinOutPop_without (h : execWinOutPop s = .next t) : t.without partsPopped = s.without partsPopped := by
  rw [execWinOutPop, hspi_pop] at h
  cases h
  simp [onBank]

theorem execHspiTransactionIgnored_without (command : Byte) (rest : Bytes) (h : execHspiTransactionIgnored command rest s = .next t) :
    t.without partsTransaction = s.without partsTransaction := by
  cases h
  exact hspi_without (by decide) (hspiTransaction_without (by decide) _) s

theorem execHuartFrame_without (raw : Bytes) (h : execHuartFrame raw s = .next t) : t.without partsIntake = s.without partsIntake := by
  cases h
  simp [onBank]

theorem execDbgFrame_without (raw : Bytes) (h : execDbgFrame raw s = .next t) : t.without partsIntake = s.without partsIntake := by
  cases h
  simp [onBank]

/-- R92, R463: an advance still pending takes effect before the reset. -/
theorem execDelayedReset_without (h : execDelayedReset s = .next t) : t.without partsDelayed = s.without partsDelayed := by
  unfold execDelayedReset at h
  cases h
  (repeat' split) <;> simp

theorem execHostTunnel_without (h : execHostTunnel s = .next t) : t.without partsTunnel = s.without partsTunnel := by
  cases h
  simp

theorem execBackupEntry_without (h : execBackupEntry s = .next t) : t.without partsReset = s.without partsReset := by
  cases h
  simp

theorem execSafeHoldRestart_without (h : execSafeHoldRestart s = .next t) : t.without partsReset = s.without partsReset := by
  cases h
  simp

theorem execTrialTimeLimit_without (h : execTrialTimeLimit s = .next t) : t.without partsReset = s.without partsReset := by
  cases h
  simp

theorem execResetNAssert_without (h : execResetNAssert s = .next t) : t.without partsReset = s.without partsReset := by
  cases h
  simp

theorem execResetNRelease_without (recoveryLow : Bool) (h : execResetNRelease recoveryLow s = .next t) :
    t.without [.boot] = s.without [.boot] := by
  cases h
  simp

theorem execPowerOnReset_without (h : execPowerOnReset s = .next t) : t.without partsPowerOn = s.without partsPowerOn := by
  cases h
  simp

theorem execIoBankChange_without (bank mode : Nat) (h : execIoBankChange bank mode s = .next t) :
    t.without [.settings, .host, .par, .lamp, .twin, .boot] = s.without [.settings, .host, .par, .lamp, .twin, .boot] := by
  unfold execIoBankChange at h
  cases h
  split <;> simp

theorem execVaultSupplyLoss_without (h : execVaultSupplyLoss s = .next t) :
    t.without [.rtc, .fb, .par, .twin, .sec, .boot] = s.without [.rtc, .fb, .par, .twin, .sec, .boot] := by
  cases h
  simp

end Rows

/-! ### Every row -/

/-- A row leaves every part alone that its list does not name. -/
theorem exec_without {i : Instr} {s t : State} (h : exec i s = .next t) : t.without (mayChange i) = s.without (mayChange i) := by
  cases i with
  | echo sid tag => exact without_of_keptA (execEcho_keptA sid tag s t h)
  | deviceInfo sid tag => exact without_of_keptA (execDeviceInfo_keptA sid tag s t h)
  | reset sid tag => exact without_of_keptA (execReset_keptA sid tag s t h)
  | fence sid tag => exact without_of_keptA (execFence_keptA sid tag s t h)
  | settingRead sid tag => exact without_of_keptA (execSettingRead_keptA sid tag s t h)
  | settingWrite sid tag => exact without_of_keptF (execSettingWrite_keptF sid tag s t h)
  | settingCommit sid tag => exact without_of_keptF (execSettingCommit_keptF sid tag s t h)
  | cancel sid tag => exact without_of_keptE (execCancel_keptE sid tag s t h)
  | sessionOpen sid tag => exact without_of_keptD (execSessionOpen_keptD sid tag s t h)
  | timeGet sid tag => exact without_of_keptA (execTimeGet_keptA sid tag s t h)
  | timeSlew sid tag => exact without_of_keptH (execTimeSlew_keptH sid tag s t h)
  | timeStep sid tag => exact without_of_keptF (execTimeStep_keptF sid tag s t h)
  | timeSourceSet sid tag => exact without_of_keptC (execTimeSourceSet_keptC sid tag s t h)
  | rtcAlarmSet sid tag => exact without_of_keptG (execRtcAlarmSet_keptG sid tag s t h)
  | calendarConvert sid tag => exact without_of_keptF (execCalendarConvert_keptF sid tag s t h)
  | localTimeTableLoad sid tag => exact without_of_keptG (execLocalTimeTableLoad_keptG sid tag s t h)
  | fallbackTableLoad sid tag => exact without_of_keptB (execFallbackTableLoad_keptB sid tag s t h)
  | powerPolicySet sid tag => exact without_of_keptF (execPowerPolicySet_keptF sid tag s t h)
  | powerStatus sid tag => exact without_of_keptA (execPowerStatus_keptA sid tag s t h)
  | powerRefusalsRead sid tag => exact without_of_keptA (execPowerRefusalsRead_keptA sid tag s t h)
  | spanStart sid tag => exact without_of_keptB (execSpanStart_keptB sid tag s t h)
  | spanStop sid tag => exact without_of_keptB (execSpanStop_keptB sid tag s t h)
  | lanternAdmit sid tag => exact without_of_keptB (execLanternAdmit_keptB sid tag s t h)
  | lanternRemove sid tag => exact without_of_keptB (execLanternRemove_keptB sid tag s t h)
  | lanternQuery sid tag => exact without_of_keptB (execLanternQuery_keptB sid tag s t h)
  | lanternSend sid tag => exact without_of_keptB (execLanternSend_keptB sid tag s t h)
  | topologyRead sid tag => exact without_of_keptA (execTopologyRead_keptA sid tag s t h)
  | floodSend sid tag => exact without_of_keptB (execFloodSend_keptB sid tag s t h)
  | regionProfileLoad sid tag => exact without_of_keptB (execRegionProfileLoad_keptB sid tag s t h)
  | dwellStatus sid tag => exact without_of_keptA (execDwellStatus_keptA sid tag s t h)
  | radioProfileLoad sid tag misoA misoB => exact without_of_keptD (execRadioProfileLoad_keptD sid tag misoA misoB s t h)
  | policyLoad sid tag => exact without_of_keptB (execPolicyLoad_keptB sid tag s t h)
  | policyRemove sid tag => exact without_of_keptB (execPolicyRemove_keptB sid tag s t h)
  | policyList sid tag => exact without_of_keptA (execPolicyList_keptA sid tag s t h)
  | placementRead sid tag => exact without_of_keptA (execPlacementRead_keptA sid tag s t h)
  | placementPin sid tag => exact without_of_keptB (execPlacementPin_keptB sid tag s t h)
  | placementHold sid tag => exact without_of_keptB (execPlacementHold_keptB sid tag s t h)
  | sensorSubscribe sid tag => exact without_of_keptB (execSensorSubscribe_keptB sid tag s t h)
  | lampSet sid tag => exact without_of_keptB (execLampSet_keptB sid tag s t h)
  | sceneDefine sid tag => exact without_of_keptB (execSceneDefine_keptB sid tag s t h)
  | sceneLaunch sid tag => exact without_of_keptB (execSceneLaunch_keptB sid tag s t h)
  | calibrationLoad sid tag => exact without_of_keptB (execCalibrationLoad_keptB sid tag s t h)
  | localChannelConfig sid tag => exact without_of_keptF (execLocalChannelConfig_keptF sid tag s t h)
  | lampStatus sid tag => exact without_of_keptA (execLampStatus_keptA sid tag s t h)
  | meterConfig sid tag => exact without_of_keptF (execMeterConfig_keptF sid tag s t h)
  | meterRead sid tag => exact without_of_keptA (execMeterRead_keptA sid tag s t h)
  | energyRead sid tag => exact without_of_keptA (execEnergyRead_keptA sid tag s t h)
  | pulseOutputAssign sid tag => exact without_of_keptF (execPulseOutputAssign_keptF sid tag s t h)
  | pulseInputRead sid tag => exact without_of_keptG (execPulseInputRead_keptG sid tag s t h)
  | reconcileRead sid tag => exact without_of_keptA (execReconcileRead_keptA sid tag s t h)
  | meterCalibrate sid tag => exact without_of_keptG (execMeterCalibrate_keptG sid tag s t h)
  | updateBegin sid tag => exact without_of_keptD (execUpdateBegin_keptD sid tag s t h)
  | updateFragment sid tag => exact without_of_keptH (execUpdateFragment_keptH sid tag s t h)
  | updateStatus sid tag => exact without_of_keptH (execUpdateStatus_keptH sid tag s t h)
  | updateActivate sid tag => exact without_of_keptH (execUpdateActivate_keptH sid tag s t h)
  | updateConfirm sid tag => exact execUpdateConfirm_without sid tag h
  | updateAbort sid tag => exact without_of_keptH (execUpdateAbort_keptH sid tag s t h)
  | lanternImageStage sid tag => exact without_of_keptH (execLanternImageStage_keptH sid tag s t h)
  | lanternImageRollout sid tag => exact without_of_keptB (execLanternImageRollout_keptB sid tag s t h)
  | keyLoad sid tag => exact without_of_keptF (execKeyLoad_keptF sid tag s t h)
  | keyRetire sid tag => exact without_of_keptD (execKeyRetire_keptD sid tag s t h)
  | lifecycleAdvance sid tag => exact execLifecycleAdvance_without sid tag h
  | tamperPolicySet sid tag => exact without_of_keptH (execTamperPolicySet_keptH sid tag s t h)
  | debugUnlock sid tag => exact without_of_keptD (execDebugUnlock_keptD sid tag s t h)
  | securityStatus sid tag => exact without_of_keptH (execSecurityStatus_keptH sid tag s t h)
  | faultStatus sid tag => exact without_of_keptA (execFaultStatus_keptA sid tag s t h)
  | faultAck sid tag => exact without_of_keptE (execFaultAck_keptE sid tag s t h)
  | eventRead sid tag => exact without_of_keptA (execEventRead_keptA sid tag s t h)
  | eventClear sid tag => exact without_of_keptD (execEventClear_keptD sid tag s t h)
  | eventRateSet sid tag => exact without_of_keptA (execEventRateSet_keptA sid tag s t h)
  | faultInject sid tag => exact without_of_keptA (execFaultInject_keptA sid tag s t h)
  | twinStatus sid tag => exact without_of_keptA (execTwinStatus_keptA sid tag s t h)
  | twinConfig sid tag => exact without_of_keptF (execTwinConfig_keptF sid tag s t h)
  | leaseYield sid tag => exact without_of_keptA (execLeaseYield_keptA sid tag s t h)
  | selftestRun sid tag => exact without_of_keptH (execSelftestRun_keptH sid tag s t h)
  | selftestResult sid tag => exact without_of_keptA (execSelftestResult_keptA sid tag s t h)
  | selftestSchedule sid tag => exact without_of_keptF (execSelftestSchedule_keptF sid tag s t h)
  | queueConfig sid tag => exact without_of_keptF (execQueueConfig_keptF sid tag s t h)
  | queueStatus sid tag => exact without_of_keptA (execQueueStatus_keptA sid tag s t h)
  | winInPush w => cases h; exact hspiWrite_without (List.Subset.refl _) _ _ s
  | winOutPop => exact execWinOutPop_without h
  | abortIn => cases h; exact hspiWrite_without_of_host rfl (writeReg_status_without _)
  | winStatusW1c w => cases h; exact hspiWrite_without_of_host rfl (writeReg_status_without _)
  | winIrqCauseW1c w => cases h; exact hspiWrite_without_of_host rfl (writeReg_cause_without _)
  | registerWrite offset w => cases h; exact hspiWrite_without (List.Subset.refl _) _ _ s
  | hspiTransactionIgnored command rest => exact execHspiTransactionIgnored_without command rest h
  | huartFrame raw => exact execHuartFrame_without raw h
  | dbgFrame raw => exact execDbgFrame_without raw h
  | ethHandshake d => exact without_of_keptD (execEthHandshake_keptD d s t h)
  | ethData d => exact without_of_keptD (execEthData_keptD d s t h)
  | ethReorderTimeout sid => exact without_of_keptA (execEthReorderTimeout_keptA sid s t h)
  | ethIdleTimeout sid => exact without_of_keptA (execEthIdleTimeout_keptA sid s t h)
  | ethFirstDataTimeout sid => exact without_of_keptA (execEthFirstDataTimeout_keptA sid s t h)
  | ipReassemblyTimeout id => exact without_of_keptHo (execIpReassemblyTimeout_keptHo id s t h)
  | intakeService => exact without_of_keptB (execIntakeService_keptB s t h)
  | interimReplyTimer sid tag => exact without_of_keptHo (execInterimReplyTimer_keptHo sid tag s t h)
  | deadlineExpiry sid tag => exact without_of_keptB (execDeadlineExpiry_keptB sid tag s t h)
  | lateAckWindowExpiry seq => exact without_of_keptB (execLateAckWindowExpiry_keptB seq s t h)
  | creditReturnTimer sid => exact without_of_keptHo (execCreditReturnTimer_keptHo sid s t h)
  | challengeExpiry tr => exact without_of_keptHo (execChallengeExpiry_keptHo tr s t h)
  | debugChallengeExpiry => exact without_of_keptHo (execDebugChallengeExpiry_keptHo s t h)
  | eventClearChallengeExpiry => exact without_of_keptHo (execEventClearChallengeExpiry_keptHo s t h)
  | transportTxComplete tr sid => cases h; exact txComplete_without (List.Subset.refl _) _ _ s
  | baudChangeTimer => exact without_of_keptHo (execBaudChangeTimer_keptHo s t h)
  | delayedReset => exact execDelayedReset_without h
  | replyHoldTimer sid => exact without_of_keptA (execReplyHoldTimer_keptA sid s t h)
  | queueServicePassEnd => exact without_of_keptF (execQueueServicePassEnd_keptF s t h)
  | cycleBoundary lateA lateB misoA misoB => exact without_of_keptF (execCycleBoundary_keptF lateA lateB misoA misoB s t h)
  | pierHeadSilent lantern => exact without_of_keptB (execPierHeadSilent_keptB lantern s t h)
  | holderBeaconsMissed heard => exact without_of_keptB (execHolderBeaconsMissed_keptB heard s t h)
  | rendezvousListenEnd lantern => exact without_of_keptB (execRendezvousListenEnd_keptB lantern s t h)
  | routelessLost lantern => exact without_of_keptB (execRoutelessLost_keptB lantern s t h)
  | rootPortReassign lantern => exact without_of_keptMa (execRootPortReassign_keptMa lantern s t h)
  | cellStart c => exact without_of_keptF (execCellStart_keptF c s t h)
  | ackWindowExpiry port => exact without_of_keptB (execAckWindowExpiry_keptB port s t h)
  | enhancedAckReceived port psdu => exact without_of_keptF (execEnhancedAckReceived_keptF port psdu s t h)
  | radioIrq port miso edge => exact without_of_keptF (execRadioIrq_keptF port miso edge s t h)
  | radioPollTimeout poll => exact without_of_keptF (execRadioPollTimeout_keptF poll s t h)
  | frameReceived poll => exact without_of_keptF (execFrameReceived_keptF poll s t h)
  | beaconReceived src => exact without_of_keptF (execBeaconReceived_keptF src s t h)
  | joinRequest eui => exact without_of_keptD (execJoinRequest_keptD eui s t h)
  | joinRelay proxy => exact without_of_keptD (execJoinRelay_keptD proxy s t h)
  | capability lantern => exact without_of_keptB (execCapability_keptB lantern s t h)
  | configRequest lantern => exact without_of_keptB (execConfigRequest_keptB lantern s t h)
  | resync lantern => exact without_of_keptB (execResync_keptB lantern s t h)
  | neighbourReport lantern => exact without_of_keptB (execNeighbourReport_keptB lantern s t h)
  | beaconMiss lantern => exact without_of_keptB (execBeaconMiss_keptB lantern s t h)
  | response lantern => exact without_of_keptB (execResponse_keptB lantern s t h)
  | sensorEvent lantern => exact without_of_keptB (execSensorEvent_keptB lantern s t h)
  | energyReport lantern => exact without_of_keptB (execEnergyReport_keptB lantern s t h)
  | energyAggregate lantern => exact without_of_keptB (execEnergyAggregate_keptB lantern s t h)
  | policyReport lantern => exact without_of_keptB (execPolicyReport_keptB lantern s t h)
  | faultReport lantern => exact without_of_keptMa (execFaultReport_keptMa lantern s t h)
  | fragmentInventory lantern => exact without_of_keptB (execFragmentInventory_keptB lantern s t h)
  | chunkRequest lantern => exact without_of_keptB (execChunkRequest_keptB lantern s t h)
  | imageStatus lantern => exact without_of_keptB (execImageStatus_keptB lantern s t h)
  | leave lantern => exact without_of_keptB (execLeave_keptB lantern s t h)
  | lampReport lantern => exact without_of_keptMa (execLampReport_keptMa lantern s t h)
  | hostTunnel => exact execHostTunnel_without h
  | keyUpdateActivation => exact without_of_keptMa (execKeyUpdateActivation_keptMa s t h)
  | oldNetworkKeyExpiry => exact without_of_keptMa (execOldNetworkKeyExpiry_keptMa s t h)
  | annexParentLost heard => exact without_of_keptC (execAnnexParentLost_keptC heard s t h)
  | spanAutoStopTimer => exact without_of_keptB (execSpanAutoStopTimer_keptB s t h)
  | ptpSync m => exact without_of_keptF (execPtpSync_keptF m s t h)
  | ptpFollowUp m => exact without_of_keptF (execPtpFollowUp_keptF m s t h)
  | ptpAnnounce m => exact without_of_keptC (execPtpAnnounce_keptC m s t h)
  | ptpDelayResp m => exact without_of_keptTi (execPtpDelayResp_keptTi m s t h)
  | delayReqTimer => exact without_of_keptTi (execDelayReqTimer_keptTi s t h)
  | announceReceiptTimeout => exact without_of_keptC (execAnnounceReceiptTimeout_keptC s t h)
  | syncLossTimeout => exact without_of_keptC (execSyncLossTimeout_keptC s t h)
  | ptpEventForward ingress stamp frame => exact without_of_keptPw (execPtpEventForward_keptPw ingress stamp frame s t h)
  | ppsInEdge => exact without_of_keptF (execPpsInEdge_keptF s t h)
  | nmeaSentence text => exact without_of_keptF (execNmeaSentence_keptF text s t h)
  | gnssEdgeLoss => exact without_of_keptC (execGnssEdgeLoss_keptC s t h)
  | gnssLabelLoss => exact without_of_keptC (execGnssLabelLoss_keptC s t h)
  | sourcePreferenceTimer source => exact without_of_keptC (execSourcePreferenceTimer_keptC source s t h)
  | slewEnd => exact without_of_keptTi (execSlewEnd_keptTi s t h)
  | wholeSecond => exact without_of_keptF (execWholeSecond_keptF s t h)
  | leapSecond => exact without_of_keptF (execLeapSecond_keptF s t h)
  | timeExchangeTimer => exact without_of_keptA (execTimeExchangeTimer_keptA s t h)
  | rtcAlarmMatch => exact without_of_keptG (execRtcAlarmMatch_keptG s t h)
  | rtcTrimAccumulate => exact without_of_keptRt (execRtcTrimAccumulate_keptRt s t h)
  | rtcTempCompensation correction => exact without_of_keptRt (execRtcTempCompensation_keptRt correction s t h)
  | rtcTrimLearn => exact without_of_keptF (execRtcTrimLearn_keptF s t h)
  | vaultScrub result => exact without_of_keptE (execVaultScrub_keptE result s t h)
  | fallbackMinute => exact without_of_keptB (execFallbackMinute_keptB s t h)
  | fallbackKeepaliveRenew => exact without_of_keptG (execFallbackKeepaliveRenew_keptG s t h)
  | fallbackKeepaliveExpiry => exact without_of_keptB (execFallbackKeepaliveExpiry_keptB s t h)
  | backupEntry => exact execBackupEntry_without h
  | meterSecondClose edges => exact without_of_keptF (execMeterSecondClose_keptF edges s t h)
  | lineZeroCrossing phase edges => exact without_of_keptG (execLineZeroCrossing_keptG phase edges s t h)
  | routingTimeout phase edges => exact without_of_keptG (execRoutingTimeout_keptG phase edges s t h)
  | modClkGap => exact without_of_keptMe (execModClkGap_keptMe s t h)
  | pfailFall => exact without_of_keptF (execPfailFall_keptF s t h)
  | pfailRise => exact without_of_keptMe (execPfailRise_keptMe s t h)
  | poutPulsePhaseEnd output => exact without_of_keptMe (execPoutPulsePhaseEnd_keptMe output s t h)
  | pinEdge input level => exact without_of_keptMe (execPinEdge_keptMe input level s t h)
  | pinDebounceExpiry input => exact without_of_keptG (execPinDebounceExpiry_keptG input s t h)
  | reconcileWindow => exact without_of_keptG (execReconcileWindow_keptG s t h)
  | standbyMeterWindow => exact without_of_keptG (execStandbyMeterWindow_keptG s t h)
  | twinHello f => exact without_of_keptG (execTwinHello_keptG f s t h)
  | heartbeat f => exact without_of_keptTw (execHeartbeat_keptTw f s t h)
  | renew f => exact without_of_keptF (execRenew_keptF f s t h)
  | copy f => exact without_of_keptTw (execCopy_keptTw f s t h)
  | copyEnd f => exact without_of_keptF (execCopyEnd_keptF f s t h)
  | copyAck f => exact without_of_keptE (execCopyAck_keptE f s t h)
  | twinTime f => exact without_of_keptF (execTwinTime_keptF f s t h)
  | timeEcho f => exact without_of_keptTw (execTimeEcho_keptTw f s t h)
  | echoFeed f => exact without_of_keptTw (execEchoFeed_keptTw f s t h)
  | echoResult f => exact without_of_keptB (execEchoResult_keptB f s t h)
  | journal f => exact without_of_keptTw (execJournal_keptTw f s t h)
  | journalAck f => exact without_of_keptA (execJournalAck_keptA f s t h)
  | health f => exact without_of_keptTw (execHealth_keptTw f s t h)
  | nak f => exact without_of_keptTw (execNak_keptTw f s t h)
  | twinFrameBad => exact without_of_keptTw (execTwinFrameBad_keptTw s t h)
  | twinLinkDownTimeout => exact without_of_keptC (execTwinLinkDownTimeout_keptC s t h)
  | twinHelloTimer => exact without_of_keptTw (execTwinHelloTimer_keptTw s t h)
  | heartbeatTimer => exact without_of_keptTw (execHeartbeatTimer_keptTw s t h)
  | leaseInAssert => exact without_of_keptC (execLeaseInAssert_keptC s t h)
  | leaseInDeassert => exact without_of_keptG (execLeaseInDeassert_keptG s t h)
  | interlockOpen => exact without_of_keptC (execInterlockOpen_keptC s t h)
  | leaseExpiryTake => exact without_of_keptTw (execLeaseExpiryTake_keptTw s t h)
  | loneStartTimer => exact without_of_keptTw (execLoneStartTimer_keptTw s t h)
  | conflictBackoffTimer => exact without_of_keptTw (execConflictBackoffTimer_keptTw s t h)
  | healthYieldTimer => exact without_of_keptTw (execHealthYieldTimer_keptTw s t h)
  | copyStale => exact without_of_keptTw (execCopyStale_keptTw s t h)
  | powerEvaluation => exact without_of_keptF (execPowerEvaluation_keptF s t h)
  | pmicAck nack pgood status => exact without_of_keptF (execPmicAck_keptF nack pgood status s t h)
  | pmicAckTimeout => exact without_of_keptF (execPmicAckTimeout_keptF s t h)
  | pmbusRetryTimer => exact without_of_keptPw (execPmbusRetryTimer_keptPw s t h)
  | wake cause => exact without_of_keptG (execWake_keptG cause s t h)
  | knownEventTimer => exact without_of_keptG (execKnownEventTimer_keptG s t h)
  | thermalSensorChange celsius => exact without_of_keptE (execThermalSensorChange_keptE celsius s t h)
  | pmAlert status => exact without_of_keptG (execPmAlert_keptG status s t h)
  | pmPgoodFall => exact without_of_keptE (execPmPgoodFall_keptE s t h)
  | ethLinkPoll a b => exact without_of_keptPw (execEthLinkPoll_keptPw a b s t h)
  | checkinWindowEnd => exact without_of_keptPw (execCheckinWindowEnd_keptPw s t h)
  | jointDelivery joint => exact without_of_keptG (execJointDelivery_keptG joint s t h)
  | jointSideReset joint => exact without_of_keptG (execJointSideReset_keptG joint s t h)
  | faultRaised source cls payload => exact without_of_keptE (execFaultRaised_keptE source cls payload s t h)
  | faultInjection => exact without_of_keptE (execFaultInjection_keptE s t h)
  | ucEscalation => exact without_of_keptE (execUcEscalation_keptE s t h)
  | firmwareFaultAck source => exact without_of_keptF (execFirmwareFaultAck_keptF source s t h)
  | watchdogExpiry core => exact without_of_keptE (execWatchdogExpiry_keptE core s t h)
  | safeHoldRestart => exact execSafeHoldRestart_without h
  | eventPageCopy => exact without_of_keptPa (execEventPageCopy_keptPa s t h)
  | eventLogEraseDone => exact without_of_keptPa (execEventLogEraseDone_keptPa s t h)
  | rateBucketRefill code => exact without_of_keptPa (execRateBucketRefill_keptPa code s t h)
  | tamperCondition source => exact without_of_keptD (execTamperCondition_keptD source s t h)
  | tamper0DebounceExpiry => exact without_of_keptD (execTamper0DebounceExpiry_keptD s t h)
  | guardLfsrAdvance => exact without_of_keptSe (execGuardLfsrAdvance_keptSe s t h)
  | guardSample level => exact without_of_keptD (execGuardSample_keptD level s t h)
  | vbatLowTimer => exact without_of_keptD (execVbatLowTimer_keptD s t h)
  | tamperRearmTimer source => exact without_of_keptSe (execTamperRearmTimer_keptSe source s t h)
  | updateSectorErased => exact without_of_keptH (execUpdateSectorErased_keptH s t h)
  | updateVerifyDone => exact without_of_keptH (execUpdateVerifyDone_keptH s t h)
  | updateJournalExpiry => exact without_of_keptH (execUpdateJournalExpiry_keptH s t h)
  | trialTimeLimit => exact execTrialTimeLimit_without h
  | recoveryHelloTimer => exact without_of_keptH (execRecoveryHelloTimer_keptH s t h)
  | recoveryBegin frame => exact without_of_keptH (execRecoveryBegin_keptH frame s t h)
  | recoveryData frame => exact without_of_keptH (execRecoveryData_keptH frame s t h)
  | recoveryBoot frame => cases h; exact recoveryBoot_without (List.Subset.refl _) _ s
  | selftestSweepStart => exact without_of_keptH (execSelftestSweepStart_keptH s t h)
  | selftestSliceStart r => exact without_of_keptH (execSelftestSliceStart_keptH r s t h)
  | scanRequest => exact without_of_keptE (execScanRequest_keptE s t h)
  | placementEvaluation => cases h; exact placementEvaluation_without (List.Subset.refl _) s
  | dayTableRefresh policy site => exact without_of_keptB (execDayTableRefresh_keptB policy site s t h)
  | spanPolicyTrigger policy => exact without_of_keptB (execSpanPolicyTrigger_keptB policy s t h)
  | claimHoldExpiry output policy => exact without_of_keptB (execClaimHoldExpiry_keptB output policy s t h)
  | policyValidityEnd policy => exact without_of_keptB (execPolicyValidityEnd_keptB policy s t h)
  | placementHoldEnd => exact without_of_keptB (execPlacementHoldEnd_keptB s t h)
  | subscriptionExpiry number => exact without_of_keptB (execSubscriptionExpiry_keptB number s t h)
  | lampPeriodStart output => exact without_of_keptF (execLampPeriodStart_keptF output s t h)
  | fadeStep output => exact without_of_keptLa (execFadeStep_keptLa output s t h)
  | localApplyTime => exact without_of_keptB (execLocalApplyTime_keptB s t h)
  | ldFaultFall => exact without_of_keptG (execLdFaultFall_keptG s t h)
  | ldFaultFilterExpiry => exact without_of_keptG (execLdFaultFilterExpiry_keptG s t h)
  | ldFaultRise => exact without_of_keptG (execLdFaultRise_keptG s t h)
  | ldFaultRetryTimer => exact without_of_keptLa (execLdFaultRetryTimer_keptLa s t h)
  | resetNAssert => exact execResetNAssert_without h
  | resetNRelease recoveryLow => exact execResetNRelease_without recoveryLow h
  | powerOnReset => exact execPowerOnReset_without h
  | bootSequence e => exact without_of_kept (execBootSequence_kept e s t h)
  | pmicStartupRetry e => exact without_of_kept (execPmicStartupRetry_kept e s t h)
  | ioBankChange bank mode => exact execIoBankChange_without bank mode h
  | meshReassemblyTimeout src => exact without_of_keptMa (execMeshReassemblyTimeout_keptMa src s t h)
  | modClkReturn edges => exact without_of_keptG (execModClkReturn_keptG edges s t h)
  | watchdogRenewal core => exact without_of_keptPa (execWatchdogRenewal_keptPa core s t h)
  | vaultSupplyLoss => exact execVaultSupplyLoss_without h
  | tamper0Edge level => exact without_of_keptSe (execTamper0Edge_keptSe level s t h)
  | tamperConditionEnd source => exact without_of_keptSe (execTamperConditionEnd_keptSe source s t h)

/-- Settles O51, by the frames of all rows. -/
theorem frameOfCommands : Obligations.FrameOfCommands := by
  unfold Obligations.FrameOfCommands
  exact fun i s t _ h p hp => samePart_of_without (exec_without h) hp

/-- Settles O52, by the frames of all rows. -/
theorem frameOfEvents : Obligations.FrameOfEvents := by
  unfold Obligations.FrameOfEvents
  exact fun i s t _ h p hp => samePart_of_without (exec_without h) hp

end Sys2Proof.Machine
end
